-- ==== Sys2Proof/Word.lean ====
section
/-! DEFINITION. The word types of the Sorain SR7 and their plainest arithmetic. Every multi-byte field is
little-endian (spec/00_scope.md R10); positions and sequence numbers compare modularly (R12, R500). -/

namespace Sys2Proof

/-- One byte of a payload, a window or a frame. -/
abbrev Byte := BitVec 8

/-- A 32-bit register of the host interface, the Spring domain or the clock unit. -/
abbrev Reg := BitVec 32

/-- Sparse data by key, in rising key order; an absent key has the default of its type. -/
abbrev Tbl (α : Type) := List (Nat × α)

/-- A value modulo 2^32. -/
def w32 (n : Nat) : Nat := n % 4294967296

/-- The two's complement reading of the low 32 bits (the int32 of R12). -/
def s32 (n : Nat) : Int :=
  let m := n % 4294967296
  if m < 2147483648 then (m : Int) else (m : Int) - 4294967296

/-- The uint32 that carries an int32. -/
def u32 (i : Int) : Nat := (i % 4294967296).toNat

/-- The unsigned field of `w` bytes that carries a signed value. -/
def uOf (w : Nat) (i : Int) : Nat := (i % ((256 ^ w : Nat) : Int)).toNat

/-- The signed reading of a field of `w` bytes. -/
def sOf (w : Nat) (n : Nat) : Int :=
  let m := n % 256 ^ w
  if 2 * m < 256 ^ w then (m : Int) else (m : Int) - ((256 ^ w : Nat) : Int)

/-- Modular distance from position `c` to position `p`, as int32 (R133). -/
def posDist (c p : Nat) : Int := s32 (w32 p + 4294967296 - w32 c)

/-- Increment that stops at the top of its field. -/
def satInc (top n : Nat) : Nat := if n < top then n + 1 else top

/-- Invalid value of a station (R132). -/
def invalidValue : Int := -2147483648

/-- Rounding to the nearest integer, ties away from zero, of `n / d` with `d > 0`. -/
def roundDiv (n : Int) (d : Nat) : Int :=
  if n < 0 then -(((-n).toNat * 2 + d) / (2 * d) : Nat) else ((n.toNat * 2 + d) / (2 * d) : Nat)

end Sys2Proof
end

