-- ==== Sys2Proof/Syntax.lean ====
section
/-! DEFINITION. The commands of the SR7, one constructor per row of spec/opcode_table.json. A command of Evver carries
the request as a side would place it in a sluice (Req); an event carries what was measured or received. -/

namespace Sys2Proof

/-- A party that talks to Evver (spec/02_sluices.md R52): SPI, application, or one of Evver/UDP: an even `n` numbers a
session, no two of which ever have the same, an odd one a source of session-0 datagrams. -/
inductive Side where
  | spi | app | udp (n : Nat)
  deriving DecidableEq, Repr, Inhabited

/-- A request: who sends it, on which sluice, with tag, flags and payload (R65). -/
structure Req where
  side : Side
  sluice : Nat
  tag : Nat
  flags : Nat
  payload : List Byte
  deriving DecidableEq, Repr

/-- Where HCS# rose in a plain frame (R57). -/
inductive FrameEnd where
  | whole | insideByte | insideAddress
  deriving DecidableEq, Repr

/-- How a checked write ended (R56, R57): with its CRC, cut short, or with bytes after the CRC. -/
inductive CrcEnd where
  | complete | cut | extra
  deriving DecidableEq, Repr

/-- How a checked read ended (R56, R57): whole, with that many bytes clocked after its CRC, or cut after that many data
bytes. -/
inductive ReadEnd where
  | whole (extra : Nat) | cut (bytes : Nat)
  deriving DecidableEq, Repr

/-- Source of a datagram: IPv4 address, UDP port, and port of arrival (0 LINE0, 1 LINE1, 2 UPLINK, 3 service UART). -/
structure UdpSrc where
  addr : Nat
  port : Nat
  via : Nat
  /-- Hardware address that its frame carried; empty on the service UART, or where a row does not tell it. -/
  mac : List Byte := []
  deriving DecidableEq, Repr

/-- What the frost island saw on a bus (spec/12_priority_bus.md R442). -/
inductive BusWake where
  | dominantEdge
  | pattern
  | frame (ident : Nat) (dlc : Nat) (data : List Byte)
  deriving DecidableEq, Repr

/-- What one Weir conversion that ends now saw: the filter's output from the cell's input (V, mA or mV/V) and the mean of
that input over the first 64 modulator clocks; of a charge cell the charge in pC after the rising and the falling edge of
each excitation cycle; saturation; and whether every land stayed inside for the whole input window (spec/05_weir.md
R186, R196, R201). -/
structure Conv where
  raw : Rat
  early : Rat
  cycles : List (Rat × Rat)
  saturated : Bool
  clean : Bool
  deriving DecidableEq, Repr

/-- One acquisition of a sweep point: the 320 samples of channel a and of channel b (spec/07_moisture_engine.md R264). -/
structure Acq where
  a : List Int
  b : List Int
  deriving DecidableEq, Repr

/-- One sweep: its acquisitions at points 0 to 200. -/
abbrev Sweep := List Acq

/-- What WGT_SIGNAL measured over its window (spec/08_weighing.md R315). -/
structure SignalWin where
  sdev : Nat
  sense : Nat
  exc : Nat
  deriving DecidableEq, Repr

/-- One winding resistance measurement (spec/10_valve_drive.md R371): duty, bank current, current, and the two
on-resistances. -/
structure CoilMeas where
  duty : Rat
  bank : Rat
  i : Rat
  rHs : Rat
  rLs : Rat
  deriving DecidableEq, Repr

/-- A frame of another node on the wire (spec/12_priority_bus.md R427, R428): identifier word with bit 31 for the extended
format, FDF, BRS, ESI and RTR, data, device times of its start and its end. -/
structure CanIn where
  ident : Nat
  fflags : BitVec 4
  data : List Byte
  start : Nat
  eof : Nat
  deriving DecidableEq, Repr

/-- What a PTP message says (spec/13_line_uplink.md R459, R460; notes/assumptions/154.md): the data set of an Announce with its
currentUtcOffset in s; a Sync with its originTimestamp in ns, of PTP time, or two-step; a Follow_Up; a Delay_Resp to a port
identity with its receiveTimestamp; or that the Announce messages of the sender have ceased. -/
inductive PtpBody where
  | announce (grandmaster priority1 quality priority2 steps : Nat) (utcOffset : Int)
  | sync (twoStep : Bool) (originNs : Int)
  | followUp (originNs : Int)
  | delayResp (requester : Nat) (receiveNs : Int)
  | silent
  deriving DecidableEq, Repr

/-- A PTP message to the ordinary clock: its transport (0 Ethernet, 1 UDP/IPv4), domain, port of arrival, sourcePortIdentity,
sequenceId and correctionField (units of 2⁻¹⁶ ns). -/
structure PtpMsg where
  transport : Nat
  domain : Nat
  port : Nat
  source : Nat
  seq : Nat
  correction : Int
  body : PtpBody
  deriving DecidableEq, Repr

/-- One sensor's sample: reading, slope over 1 s and slope over 200 ms, in m°C and m°C/s (spec/18 R574). -/
structure TempIn where
  raw : Int
  slope1s : Int
  slope200 : Int
  deriving DecidableEq, Repr

/-- The commands and events, in the order of spec/opcode_table.json. -/
inductive Instr where
  /-- SPI_WRITE (R54). -/
  | spiWrite (addr : Nat) (data : List Byte) (fin : FrameEnd)
  /-- SPI_READ (R54). -/
  | spiRead (addr len : Nat) (fin : FrameEnd)
  /-- SPI_WRITE_CRC (R56). -/
  | spiWriteCrc (addr len : Nat) (data : List Byte) (crc : Nat) (fin : CrcEnd)
  /-- SPI_READ_CRC (R56). -/
  | spiReadCrc (addr len : Nat) (fin : ReadEnd)
  /-- SPI_FRAME_IGNORED (R54). -/
  | spiFrameIgnored (instr : Byte)
  /-- HIF_DOORBELL_WRITE (R62). -/
  | hifDoorbellWrite (side : Side) (value : Byte)
  /-- HIF_RELEASE_WRITE (R62). -/
  | hifReleaseWrite (side : Side) (value : Byte)
  /-- HIF_IRQ_STATUS_CLEAR (R59). -/
  | hifIrqStatusClear (side : Side) (value : Reg)
  /-- HIF_ERR_CLEAR (R59). -/
  | hifErrClear (side : Side) (value : Reg)
  /-- REGISTER_WRITE (R13). -/
  | registerWrite (side : Side) (addr : Nat) (data : List Byte)
  /-- DEVTIME_LO_READ (R60). -/
  | devtimeLoRead (side : Side)
  /-- FELT_POS_READ (R148). -/
  | feltPosRead (side : Side) (felt : Nat)
  /-- APP_ACCESS_ERROR (R24). -/
  | appAccessError (addr size : Nat)
  /-- SEGMENT_TIMEOUT (R73). -/
  | segmentTimeout (side : Side) (sluice : Nat)
  /-- UDP_REQUEST (R83). -/
  | udpRequest (src : UdpSrc) (dgram : List Byte)
  /-- UDP_RELEASE (R83). -/
  | udpRelease (src : UdpSrc) (dgram : List Byte)
  /-- UDP_NOTICE_RESEND (R84). -/
  | udpNoticeResend (session sluice : Nat)
  /-- SERVICE_UART_FRAME (R465). -/
  | serviceUartFrame (frame : List Byte)
  /-- UART_BAUD_CHANGE (R465). -/
  | uartBaudChange
  /-- HB_WARN (R80). -/
  | hbWarn (side : Side)
  /-- HEARTBEAT_LOST (R80). -/
  | heartbeatLost (side : Side)
  /-- SYS_STATUS (R87). -/
  | sysStatus (r : Req)
  /-- SYS_HEARTBEAT (R88). -/
  | sysHeartbeat (r : Req)
  /-- SYS_ABORT (R89). -/
  | sysAbort (r : Req)
  /-- SYS_MODE_REQUEST (R90). -/
  | sysModeRequest (r : Req)
  /-- SYS_IDENTIFY (R91). -/
  | sysIdentify (r : Req)
  /-- SYS_RESET (R92). -/
  | sysReset (r : Req)
  /-- SYS_RESET_START (R92). -/
  | sysResetStart
  /-- SYS_SLUICE_SETUP (R93). -/
  | sysSluiceSetup (r : Req)
  /-- SYS_SLUICE_INFO (R94). -/
  | sysSluiceInfo (r : Req)
  /-- SYS_HEARTBEAT_CONFIG (R95). -/
  | sysHeartbeatConfig (r : Req)
  /-- SAFE_ASSERTED (R36). -/
  | safeAsserted
  /-- SAFE_RELEASED (R36). -/
  | safeReleased
  /-- RST_ASSERTED (R595). -/
  | rstAsserted
  /-- INTERNAL_RESET (R595). -/
  | internalReset
  /-- RST_RELEASED (R33). -/
  | rstReleased
  /-- VLOGIC_WARNING (R560). -/
  | vlogicWarning (uv : Int)
  /-- VLOGIC_WARNING_CLEARED (R560). -/
  | vlogicWarningCleared (uv : Int)
  /-- VLOGIC_DIP (R567). -/
  | vlogicDip (uv : Int)
  /-- RIDE_THROUGH (R567). -/
  | rideThrough (uv : Int) (durUs : Nat)
  /-- LAST_GASP (R568). -/
  | lastGasp (uv : Int)
  /-- VAULT_ENTRY (R568). -/
  | vaultEntry (vhold : Int)
  /-- VLOGIC_RESTORED (R559). -/
  | vlogicRestored (uv : Int)
  /-- VBAT_TRIP (R610). -/
  | vbatTrip
  /-- NOR_CHECK_DONE (R33). -/
  | norCheckDone (ok : Bool) (core0 core1 : Bool) (vbat : Int)
  /-- RESERVOIR_MEASURED (R562). -/
  | reservoirMeasured (us : Nat) (vhold : Int)
  /-- SUPERVISOR_START (R594). -/
  | supervisorStart
  /-- EVVER_READY (R82). -/
  | evverReady
  /-- MODE_CHANGE_COMPLETE (R34). -/
  | modeChangeComplete
  /-- WAKE_PIN (R44). -/
  | wakePin (level : Bool)
  /-- WAKE_TIMER (R44). -/
  | wakeTimer
  /-- FROST_BUS_WAKE (R442). -/
  | frostBusWake (bus : Nat) (w : BusWake)
  /-- FROST_FIELD_WAKE (R397). -/
  | frostFieldWake (fio : Nat)
  /-- BOOT_LITE_COMPLETE (R45). -/
  | bootLiteComplete
  /-- VFIELD_LOW (R403). -/
  | vfieldLow (supply : Nat) (uv : Int)
  /-- VFIELD_SAG (R403). -/
  | vfieldSag (supply : Nat) (uv : Int)
  /-- VFIELD_RECOVERED (R403). -/
  | vfieldRecovered (supply : Nat) (uv : Int)
  /-- VFIELD_VD_CUTOFF (R353). -/
  | vfieldVdCutoff (uv : Int)
  /-- VFIELD_VD_RESTORED (R353). -/
  | vfieldVdRestored (uv : Int)
  /-- VFIELD_IO_NO_SUPPLY (R403). -/
  | vfieldIoNoSupply (uv : Int)
  /-- CHECKPOINT (R521). -/
  | checkpoint
  /-- LOCKSTEP_MISMATCH (R522). -/
  | lockstepMismatch (diverges : Option Nat) (core0 core1 : Bool)
  /-- REEXECUTION_COMPLETE (R522). -/
  | reexecutionComplete (suppressed : Nat)
  /-- LATCH_EXPIRED (R525). -/
  | latchExpired
  /-- WATCHDOG_EXPIRED (R525). -/
  | watchdogExpired
  /-- CELL_CHECK_FAILED (R527). -/
  | cellCheckFailed (bank cell check : Nat)
  /-- SHADOW_CHECK (R527). -/
  | shadowCheck (bank : Nat) (differ primaryBad spareBad : Bool)
  /-- MEMORY_SCRUB (R528). -/
  | memoryScrub (memory : Nat) (fixes : List (Nat × Nat))
  /-- ECC_ERROR (R528). -/
  | eccError (memory addr : Nat) (corrected bothLost : Bool)
  /-- STORE_ADMITTED (R565). -/
  | storeAdmitted
  /-- STORE_WRITE_DONE (R530). -/
  | storeWriteDone (index : Nat) (ok : Bool) (offset : Nat)
  /-- RESERVOIR_ENERGY_UPDATE (R563). -/
  | reservoirEnergyUpdate (vhold : Int)
  /-- RESERVOIR_STEP_DUE (R562). -/
  | reservoirStepDue
  /-- RESERVOIR_CHARGE_TIMEOUT (R566). -/
  | reservoirChargeTimeout (vhold : Int)
  /-- PARALLEL_SHARE_LOW (R531). -/
  | parallelShareLow (station chan share : Nat)
  /-- CFG_OPEN (R111). -/
  | cfgOpen (r : Req)
  /-- CFG_WRITE_OBJECT (R129). -/
  | cfgWriteObject (r : Req)
  /-- CFG_COMMIT (R114). -/
  | cfgCommit (r : Req)
  /-- CFG_DISCARD (R112). -/
  | cfgDiscard (r : Req)
  /-- CFG_READ_OBJECT (R129). -/
  | cfgReadObject (r : Req)
  /-- CFG_EXPORT (R126). -/
  | cfgExport (r : Req)
  /-- CFG_IMPORT (R127). -/
  | cfgImport (r : Req)
  /-- CFG_DELETE_OBJECT (R129). -/
  | cfgDeleteObject (r : Req)
  /-- CFG_STATE (R129). -/
  | cfgState (r : Req)
  /-- CFG_IDLE_TIMEOUT (R112). -/
  | cfgIdleTimeout
  /-- ST_READ (R132). -/
  | stRead (r : Req)
  /-- ENCODER_EDGE (R138). -/
  | encoderEdge (src : Nat) (a b : Bool)
  /-- MAINS_CROSSING (R137). -/
  | mainsCrossing
  /-- MAINS_SOURCE_LOST (R137). -/
  | mainsSourceLost
  /-- FELT_STALL (R159). -/
  | feltStall (felt : Nat)
  /-- FELT_REFERENCE_RECEIVED (R438). -/
  | feltReferenceReceived (chan : Nat) (ident : Nat) (data : List Byte)
  /-- REMOTE_FELT_LOST (R142). -/
  | remoteFeltLost (felt : Nat)
  /-- WHEEL_DISPATCH (R151). -/
  | wheelDispatch (felt adv : Nat)
  /-- PARCEL_CLOSE (R163). -/
  | parcelClose (zone : Nat)
  /-- PARCEL_LEAVE (R165). -/
  | parcelLeave (zone : Nat)
  /-- PARCEL_HANDOFF_RECEIVED (R167). -/
  | parcelHandoffReceived (chan ident : Nat) (data : List Byte)
  /-- PARCEL_HANDOFF_TIMEOUT (R168). -/
  | parcelHandoffTimeout (zone parcel : Nat)
  /-- ADOPTION_GAP (R167). -/
  | adoptionGap (zone : Nat)
  /-- FELT_STATUS (R170). -/
  | feltStatus (r : Req)
  /-- FELT_SET (R171). -/
  | feltSet (r : Req)
  /-- WHEEL_SCHEDULE (R172). -/
  | wheelSchedule (r : Req)
  /-- WHEEL_CANCEL (R173). -/
  | wheelCancel (r : Req)
  /-- WHEEL_STATUS (R175). -/
  | wheelStatus (r : Req)
  /-- PARCEL_READ (R176). -/
  | parcelRead (r : Req)
  /-- PARCEL_HISTORY (R176). -/
  | parcelHistory (r : Req)
  /-- PARCEL_HISTORY_COMPLETE (R176). -/
  | parcelHistoryComplete (side : Side) (sluice tag : Nat)
  /-- WHEEL_WAIT (R174). -/
  | wheelWait (r : Req)
  /-- WEIR_CONVERSION_END (R202). -/
  | weirConversionEnd (station : Nat) (conv : Conv)
  /-- WINDOW_VIOLATION (R200). -/
  | windowViolation (station : Nat) (volts : List Int) (leftAt : Nat)
  /-- STATION_PUBLISH (R192). -/
  | stationPublish (station : Nat)
  /-- RANGE_PIN_EXPIRED (R197). -/
  | rangePinExpired (station : Nat)
  /-- LOOP_INPUT_OVERLOAD (R189). -/
  | loopInputOverload (station : Nat) (ua : Int)
  /-- LOOP_SHUNT_RECLOSE (R189). -/
  | loopShuntReclose (station : Nat) (ua : Int)
  /-- BRX_LIMIT (R183). -/
  | brxLimit (bank : Nat) (ua : Int) (limiting : Bool)
  /-- COMP_STALE (R206). -/
  | compStale (station : Nat)
  /-- STILL_SCAN (R193). -/
  | stillScan (station : Nat) (conv : Conv)
  /-- WEIR_SAMPLE (R213). -/
  | weirSample (r : Req)
  /-- WEIR_RAW (R214). -/
  | weirRaw (r : Req)
  /-- WEIR_TERMINAL (R215). -/
  | weirTerminal (r : Req)
  /-- WEIR_LIN_EVAL (R216). -/
  | weirLinEval (r : Req)
  /-- ISLAND_LINK_CHECK (R221). -/
  | islandLinkCheck
  /-- ISLAND_LINK_LOST (R221). -/
  | islandLinkLost
  /-- ISLAND_LINK_RESTORED (R221). -/
  | islandLinkRestored
  /-- ISLAND_TIME_UPDATE (R220). -/
  | islandTimeUpdate
  /-- ISLAND_RECORD_RECEIVED (R222). -/
  | islandRecordReceived (rec : List Byte)
  /-- ISLAND_WATCHDOG (R223). -/
  | islandWatchdog
  /-- ISLAND_START (R236). -/
  | islandStart (digestOk shieldOpen : Bool) (chainBad : Option Nat) (paramBad : List (Nat × Nat)) (torn : Bool)
  /-- SEAL_CHANGE (R228). -/
  | sealChange (opened : Bool)
  /-- SEAL_SAMPLE_UNPOWERED (R229). -/
  | sealSampleUnpowered (opened : Bool)
  /-- SHIELD_LOOP_OPEN (R229). -/
  | shieldLoopOpen
  /-- PARAM_CRC_CHECK (R235). -/
  | paramCrcCheck (bad : List (Nat × Nat))
  /-- PARAM_SESSION_IDLE (R234). -/
  | paramSessionIdle
  /-- TAP_TRIGGER (R255). -/
  | tapTrigger (ident : Nat) (fd own : Bool) (data : List Byte)
  /-- GRAIN_TEMP_RECORD (R251). -/
  | grainTempRecord (chan : Nat) (pairs : List Rat) (openWire : Bool) (t0 t1 : Nat)
  /-- WM_LEGAL_ID (R258). -/
  | wmLegalId (r : Req)
  /-- WM_KEY (R258). -/
  | wmKey (r : Req)
  /-- WM_STATUS (R258). -/
  | wmStatus (r : Req)
  /-- WM_PARAM_OPEN (R232). -/
  | wmParamOpen (r : Req)
  /-- WM_PARAM_WRITE (R258). -/
  | wmParamWrite (r : Req)
  /-- WM_PARAM_COMMIT (R232). -/
  | wmParamCommit (r : Req)
  /-- WM_PARAM_DISCARD (R258). -/
  | wmParamDiscard (r : Req)
  /-- WM_PARAM_READ (R258). -/
  | wmParamRead (r : Req)
  /-- WM_AUDIT_READ (R258). -/
  | wmAuditRead (r : Req)
  /-- WM_RECORD_READ (R258). -/
  | wmRecordRead (r : Req)
  /-- MOISTURE_INTERVAL_END (R267). -/
  | moistureIntervalEnd (sweeps : List Sweep)
  /-- ENGINE_THERMAL_PAUSE (R286). -/
  | engineThermalPause
  /-- ENGINE_THERMAL_RESUME (R286). -/
  | engineThermalResume
  /-- MST_STATUS (R288). -/
  | mstStatus (r : Req)
  /-- MST_CAPTURE_AIR (R288). -/
  | mstCaptureAir (r : Req)
  /-- MST_LOOPBACK (R288). -/
  | mstLoopback (r : Req)
  /-- MST_SPECTRUM (R288). -/
  | mstSpectrum (r : Req)
  /-- RAW_SAMPLE (R294). -/
  | rawSample (chan : Nat) (plus minus : Int) (overlap : Bool)
  /-- LOADCELL_VIOLATION (R295). -/
  | loadcellViolation (chan cause land : Nat)
  /-- LOADCELL_FAULT_CLEARED (R295). -/
  | loadcellFaultCleared (chan : Nat)
  /-- MASS_RECORD_PERIOD (R310). -/
  | massRecordPeriod (chan : Nat)
  /-- ZERO_TRACKING_STEP (R300). -/
  | zeroTrackingStep (chan : Nat)
  /-- WEIGH_REQUEST_SETTLED (R303). -/
  | weighRequestSettled (chan : Nat)
  /-- WEIGH_SETTLE_TIMEOUT (R303). -/
  | weighSettleTimeout (chan : Nat)
  /-- CYCLE_SETTLE_END (R304). -/
  | cycleSettleEnd (chan : Nat)
  /-- STILL_WEIGH (R313). -/
  | stillWeigh (chan : Nat)
  /-- WGT_STATUS (R315). -/
  | wgtStatus (r : Req)
  /-- WGT_REQUEST (R303). -/
  | wgtRequest (r : Req)
  /-- WGT_SIGNAL (R315). -/
  | wgtSignal (r : Req)
  /-- WGT_SIGNAL_WINDOW_END (R315). -/
  | wgtSignalWindowEnd (chan : Nat) (sig : SignalWin)
  /-- PERMISSIVE_CLEAR (R323). -/
  | permissiveClear (zone : Nat)
  /-- DECKLE_CONFIRMED (R324). -/
  | deckleConfirmed (zone entry : Nat)
  /-- DECKLE_CLEARED (R324). -/
  | deckleCleared (zone entry : Nat)
  /-- FELT_STOP_REACTION (R325). -/
  | feltStopReaction (zone : Nat)
  /-- TARGET_TIMEOUT (R320). -/
  | targetTimeout (zone : Nat)
  /-- HEAT_PHASE_TIMEOUT (R331). -/
  | heatPhaseTimeout (zone : Nat)
  /-- PLENUM_LOOP_STEP (R332). -/
  | plenumLoopStep (zone : Nat)
  /-- PLENUM_INVALID_TIMEOUT (R332). -/
  | plenumInvalidTimeout (zone : Nat)
  /-- EXPOSURE_STEP (R335). -/
  | exposureStep (zone : Nat)
  /-- BATCH_PHASE_TIMEOUT (R337). -/
  | batchPhaseTimeout (zone : Nat)
  /-- SILO_EVALUATION (R339). -/
  | siloEvaluation (zone : Nat)
  /-- WEIGH_EMPTY_DETECT (R344). -/
  | weighEmptyDetect (zone : Nat)
  /-- WEIGH_PHASE_TIMEOUT (R344). -/
  | weighPhaseTimeout (zone : Nat)
  /-- ZONE_START (R319). -/
  | zoneStart (r : Req)
  /-- ZONE_STOP (R319). -/
  | zoneStop (r : Req)
  /-- ZONE_STATUS (R348). -/
  | zoneStatus (r : Req)
  /-- ZONE_TARGET (R345). -/
  | zoneTarget (r : Req)
  /-- PULSE_PHASE_END (R364). -/
  | pulsePhaseEnd (chan : Nat) (ua : Int) (us : Nat)
  /-- PEAK_START (R376). -/
  | peakStart (bank : Nat)
  /-- PULSE_DEFER_LIMIT (R376). -/
  | pulseDeferLimit (bank : Nat)
  /-- VALVE_OVERCURRENT (R379). -/
  | valveOvercurrent (chan : Nat) (ua : Int)
  /-- BANK_OVERCURRENT (R379). -/
  | bankOvercurrent (bank : Nat) (ua : Int)
  /-- VALVE_RETRY (R379). -/
  | valveRetry (chan : Nat)
  /-- LS_LAND_LOW (R380). -/
  | lsLandLow (chan : Nat) (unexplained : Int)
  /-- LEAK_ESCALATION (R380). -/
  | leakEscalation (chan : Nat) (unexplained : Int)
  /-- VALVE_HEADROOM (R363). -/
  | valveHeadroom (chan : Nat) (ua : Int) (duty : Nat)
  /-- COIL_MODEL_STEP (R370). -/
  | coilModelStep (chan : Nat) (meanSq : Rat) (meas : Option CoilMeas)
  /-- KINK_EVALUATION (R373). -/
  | kinkEvaluation (chan : Nat) (slots : List Int)
  /-- BOOST_READY_CHANGE (R354). -/
  | boostReadyChange (uv : Int)
  /-- BOOST_FAULT (R354). -/
  | boostFault (uv : Int)
  /-- CLAMP_HOT_CLEAR (R369). -/
  | clampHotClear (bank : Nat)
  /-- VLV_SET (R383). -/
  | vlvSet (r : Req)
  /-- VLV_PULSE (R384). -/
  | vlvPulse (r : Req)
  /-- VLV_STATUS (R385). -/
  | vlvStatus (r : Req)
  /-- VLV_BANK (R385). -/
  | vlvBank (r : Req)
  /-- VLV_RESET_FAULT (R386). -/
  | vlvResetFault (r : Req)
  /-- FIO_INPUT_CHANGE (R392). -/
  | fioInputChange (station : Nat) (level : Bool) (at_ : Nat)
  /-- FIO_COUNT_EDGE (R392). -/
  | fioCountEdge (station : Nat)
  /-- FIO_FREQ_GATE (R392). -/
  | fioFreqGate (station : Nat)
  /-- FIO_OUTPUT_FAULT (R399). -/
  | fioOutputFault (station : Nat)
  /-- FIO_OUTPUT_FAULT_CLEAR (R400). -/
  | fioOutputFaultClear (station : Nat)
  /-- OUTPUT_CMD_TIMEOUT (R398). -/
  | outputCmdTimeout (station : Nat)
  /-- LOOP_OUTPUT_DEVIATION (R406). -/
  | loopOutputDeviation (station : Nat) (ua mv : Int)
  /-- LOOP_OUTPUT_RECOVERED (R406). -/
  | loopOutputRecovered (station : Nat) (ua mv : Int)
  /-- FIO_SET (R412). -/
  | fioSet (r : Req)
  /-- FIO_STATUS (R413). -/
  | fioStatus (r : Req)
  /-- FIO_FAULT_MASK (R414). -/
  | fioFaultMask (r : Req)
  /-- LOOP_SET (R412). -/
  | loopSet (r : Req)
  /-- LOOP_STATUS (R414). -/
  | loopStatus (r : Req)
  /-- CAN_FRAME_RECEIVED (R427). -/
  | canFrameReceived (chan : Nat) (f : CanIn)
  /-- RX_RING_DRAIN (R429). -/
  | rxRingDrain (chan : Nat)
  /-- CAN_FRAME_SENT (R426). -/
  | canFrameSent (chan start eof : Nat)
  /-- CAN_ERROR_STATE_CHANGE (R431). -/
  | canErrorStateChange (chan tec rec : Nat) (bitError : Option Nat)
  /-- BUS_OFF (R432). -/
  | busOff (chan : Nat)
  /-- BUSOFF_RECOVERY_DONE (R432). -/
  | busoffRecoveryDone (chan : Nat)
  /-- FAILBACK (R433). -/
  | failback (chan : Nat)
  /-- FRAME_SEND_TIMEOUT (R426). -/
  | frameSendTimeout (chan handle : Nat)
  /-- PERIODIC_SEND (R425). -/
  | periodicSend (chan obj : Nat)
  /-- REFERENCE_MESSAGE_SEND (R437). -/
  | referenceMessageSend (chan : Nat)
  /-- REFERENCE_MESSAGE (R436). -/
  | referenceMessage (chan ident : Nat) (data : List Byte) (eof : Nat)
  /-- REFERENCE_MISSING (R437). -/
  | referenceMissing (chan : Nat)
  /-- BUS_SEND (R444). -/
  | busSend (r : Req)
  /-- BUS_TX_WAIT (R445). -/
  | busTxWait (r : Req)
  /-- BUS_SUBSCRIBE (R446). -/
  | busSubscribe (r : Req)
  /-- BUS_UNSUBSCRIBE (R446). -/
  | busUnsubscribe (r : Req)
  /-- BUS_RX_WAIT (R446). -/
  | busRxWait (r : Req)
  /-- BUS_OBJ_READ (R447). -/
  | busObjRead (r : Req)
  /-- BUS_STATUS (R449). -/
  | busStatus (r : Req)
  /-- BUS_RECOVER (R448). -/
  | busRecover (r : Req)
  /-- BUS_CANCEL (R447). -/
  | busCancel (r : Req)
  /-- ETH_FRAME (R453). -/
  | ethFrame (port : Nat) (bytes : List Byte) (fcsOk : Bool)
  /-- ARP_REQUEST (R458). -/
  | arpRequest (port : Nat) (mac : List Byte) (ip target : List Byte)
  /-- ICMP_ECHO (R458). -/
  | icmpEcho (port : Nat) (mac ip dst data : List Byte)
  /-- PTP_MESSAGE (R460). -/
  | ptpMessage (m : PtpMsg)
  /-- LOOP_PROBE_SEND (R456). -/
  | loopProbeSend (port : Nat)
  /-- LOOP_PROBE_RETURN (R456). -/
  | loopProbeReturn (port back : Nat)
  /-- LOOP_GUARD_RELEASE (R456). -/
  | loopGuardRelease
  /-- PHY_POLL (R457). -/
  | phyPoll (link gigabit : Bool)
  /-- LINK_CHANGE (R457). -/
  | linkChange (port cause : Nat)
  /-- SPRING_CLOCK_UPDATE (R460). -/
  | springClockUpdate
  /-- SESSION_IDLE (R463). -/
  | sessionIdle (session : Nat)
  /-- AUTH_LOCKOUT_END (R464). -/
  | authLockoutEnd (addr via : Nat)
  /-- NET_SESSION_OPEN (R462). -/
  | netSessionOpen (r : Req)
  /-- NET_SESSION_AUTH (R462). -/
  | netSessionAuth (r : Req)
  /-- NET_SESSION_CLOSE (R463). -/
  | netSessionClose (r : Req)
  /-- NET_STATUS (R469). -/
  | netStatus (r : Req)
  /-- NET_KEY (R461). -/
  | netKey (r : Req)
  /-- FRESHET_OFFER (R481). -/
  | freshetOffer (port : Nat) (mac ip dgram : List Byte)
  /-- FRESHET_OPEN (R481). -/
  | freshetOpen (port : Nat) (mac ip dgram : List Byte)
  /-- FRESHET_CHALLENGE (R481). -/
  | freshetChallenge (port : Nat) (mac ip dgram : List Byte)
  /-- FRESHET_AUTH (R481). -/
  | freshetAuth (port : Nat) (mac ip dgram : List Byte)
  /-- FRESHET_ACCEPT (R481). -/
  | freshetAccept (port : Nat) (mac ip dgram : List Byte)
  /-- FRESHET_GET (R481). -/
  | freshetGet (port : Nat) (mac ip dgram : List Byte)
  /-- FRESHET_DATA (R479). -/
  | freshetData (port : Nat) (mac ip dgram : List Byte)
  /-- FRESHET_REFUSE (R482). -/
  | freshetRefuse (port : Nat) (mac ip dgram : List Byte)
  /-- FRESHET_DONE (R482). -/
  | freshetDone (port : Nat) (mac ip dgram : List Byte)
  /-- FRESHET_OFFER_TIMER (R482). -/
  | freshetOfferTimer (port : Nat)
  /-- IMAGE_VERIFY_DONE (R480). -/
  | imageVerifyDone (readBack : List Byte)
  /-- SESSION_LOCK_IDLE (R477). -/
  | sessionLockIdle
  /-- ACTIVATION_START (R484). -/
  | activationStart
  /-- NOR_BLOCK_DONE (R485). -/
  | norBlockDone (ok readable : Bool)
  /-- GRANT_WINDOW_CLOSE (R484). -/
  | grantWindowClose
  /-- TRIAL_TIME_JOURNAL (R487). -/
  | trialTimeJournal
  /-- TRIAL_BOOTS_CLEAR (R487). -/
  | trialBootsClear
  /-- WATERMARK_TRIAL_TIMEOUT (R486). -/
  | watermarkTrialTimeout
  /-- PARTIAL_IMAGE_EXPIRED (R483). -/
  | partialImageExpired
  /-- FSH_STATUS (R494). -/
  | fshStatus (r : Req)
  /-- FSH_OPEN (R474). -/
  | fshOpen (r : Req)
  /-- FSH_BLOCK (R479). -/
  | fshBlock (r : Req)
  /-- FSH_GRANT (R484). -/
  | fshGrant (r : Req)
  /-- FSH_CONFIRM (R487). -/
  | fshConfirm (r : Req)
  /-- FSH_DISCARD (R494). -/
  | fshDiscard (r : Req)
  /-- FSH_RESTORE (R488). -/
  | fshRestore (r : Req)
  /-- REAM_TOKEN_REFILL (R504). -/
  | reamTokenRefill (code : Nat)
  /-- SUPPRESSION_TIMEOUT (R506). -/
  | suppressionTimeout (code : Nat)
  /-- REGION_TEST_DONE (R510). -/
  | regionTestDone (fails others : Bool)
  /-- REAM_STATUS (R515). -/
  | reamStatus (r : Req)
  /-- REAM_READ (R515). -/
  | reamRead (r : Req)
  /-- REAM_READ_BULK (R515). -/
  | reamReadBulk (r : Req)
  /-- REAM_READ_BULK_COMPLETE (R515). -/
  | reamReadBulkComplete (side : Side) (sluice tag : Nat)
  /-- REAM_CODE_INFO (R515). -/
  | reamCodeInfo (r : Req)
  /-- REAM_CHALLENGE (R511). -/
  | reamChallenge (r : Req)
  /-- REAM_CLEAR (R511). -/
  | reamClear (r : Req)
  /-- REAM_TIME_SET (R507). -/
  | reamTimeSet (r : Req)
  /-- ABS_STATUS (R538). -/
  | absStatus (r : Req)
  /-- AGE_READ (R539). -/
  | ageRead (r : Req)
  /-- AGE_REBASE (R536). -/
  | ageRebase (r : Req)
  /-- AGEING_DAILY (R534). -/
  | ageingDaily (ws : List (Nat × Int))
  /-- REF25_LOST (R547). -/
  | ref25Lost (windows : Nat)
  /-- REF25_RESTORED (R548). -/
  | ref25Restored
  /-- PLL_LOCK_LOST (R546). -/
  | pllLockLost (pll : Nat)
  /-- RTC32_FAILED (R549). -/
  | rtc32Failed
  /-- RTC32_RESTORED (R549). -/
  | rtc32Restored
  /-- MUX_FORCED (R545). -/
  | muxForced (mux old new : Nat)
  /-- GATE_BUSY_TIMEOUT (R553). -/
  | gateBusyTimeout (block initiator addr : Nat)
  /-- OSC_COMPENSATION (R579). -/
  | oscCompensation (item : Nat) (trim : Int)
  /-- FREQ_MEASURE_DONE (R554). -/
  | freqMeasureDone (n m start : Nat)
  /-- FREQ_MEASURE_TIMEOUT (R554). -/
  | freqMeasureTimeout
  /-- CLK_STATUS (R555). -/
  | clkStatus (r : Req)
  /-- CLK_GATE (R553). -/
  | clkGate (r : Req)
  /-- CLK_MEASURE (R554). -/
  | clkMeasure (r : Req)
  /-- TEMP_SAMPLE (R574). -/
  | tempSample (temps : List TempIn)
  /-- THERMAL_MODEL_CHECK (R573). -/
  | thermalModelCheck (pred : List (Nat × Nat × Int))
  /-- THERMAL_WARNING_CLEAR (R574). -/
  | thermalWarningClear
  /-- THERMAL_TRIP (R575). -/
  | thermalTrip (sensor : Nat) (rate : Bool) (mdeg : Int)
  /-- TRIP_HOLD_END (R576). -/
  | tripHoldEnd (temps : List Int)
  /-- PWR_STATUS (R580). -/
  | pwrStatus (r : Req)
  /-- THERM_STATUS (R580). -/
  | thermStatus (r : Req)
  /-- RSV_MEASURE (R562). -/
  | rsvMeasure (r : Req)
  /-- APPLICATION_FAULT_STOP (R487). -/
  | applicationFaultStop
  /-- AIR_CAPTURE_COMPLETE (R288). -/
  | airCaptureComplete (sweeps : List Sweep)
  /-- LEAK_CLEARED (R380). -/
  | leakCleared (chan : Nat) (unexplained : Int)
  /-- HEADROOM_CLEARED (R363). -/
  | headroomCleared (chan : Nat) (openLoad : Bool)
  /-- ISLAND_STATION_STALE (R250). -/
  | islandStationStale (station : Nat)
  /-- COIN_CELL_FITTED (R610). -/
  | coinCellFitted (uv : Int)
  /-- PEAKS_BLOCKED_LOW_SUPPLY (R378). -/
  | peaksBlockedLowSupply (uv : Int)
  /-- CLEAR_REFUSAL_END (R511). -/
  | clearRefusalEnd
  deriving DecidableEq, Repr

end Sys2Proof
end

