-- ==== Sys2Proof/Config.lean ====
section
/-! DEFINITION. What one implementation fixes and the spec leaves open: opaque constants, so that no proof can see a
value. A free value is drawn from a constant applied to the counter State.fresh (notes/assumptions/14.md). -/

namespace Sys2Proof

/-- Random bytes of the device: session identifiers, nonces, challenges (spec/13_line_uplink.md R462, spec/15_ream.md
R511); the k-th byte drawn. -/
opaque Config.randomByte : Nat → Byte

/-- The island's private key (spec/06_watermark.md R222). -/
opaque Config.islandKey : Nat

/-- The ephemeral of the k-th signature of the island. -/
opaque Config.signNonce : Nat → Nat

/-- Bytes that the spec describes only by what they are for: the device certificate, the key identifier, the digests of
the firmware that is installed (spec/06_watermark.md R222, R259). -/
opaque Config.deviceCertificate : List Byte
opaque Config.firmwareDigest : List Byte
opaque Config.evverDigest : List Byte

/-- Verification keys of images by key_id (spec/14_freshet.md R474): affine coordinates on P-256. -/
opaque Config.imageKey : Nat → Nat × Nat

/-- Value stored at manufacture for the internal through path, by point (spec/07_moisture_engine.md R274). -/
opaque Config.throughRef : Nat → Rat × Rat

/-- Parameter schema of the island firmware that is installed at manufacture (spec/14_freshet.md R474). -/
opaque Config.paramSchema : Nat

/-- Temperature, °C, that a curve of spec/05_weir.md R205 gives for a quantity (Ω or mV) beyond its ends. -/
opaque Config.beyondCurve : Nat → Rat → Rat

/-- Destination and contents of the loop guard's probe frames (spec/13_line_uplink.md R456). -/
opaque Config.probeDst : List Byte
opaque Config.probeBody : List Byte

/-- Hardware address of an IPv4 address from which no frame has told it (notes/assumptions/174.md). -/
opaque Config.hwAddress : Nat → List Byte

/-- Conversion of an object's body from an older format to the current one, by kind and format; none where an object cannot
be converted (spec/03_configuration.md R123, R124, which print no older layout). -/
opaque Config.converted : Nat → Nat → List Byte → Option (List Byte)

/-- Bytes of supervisor DRAM for the staging of segmented requests (spec/02_sluices.md R72). -/
opaque Config.stagingBytes : Nat

/-- An unstated value: the k-th free value drawn, as a natural number and as an exact number. -/
opaque Config.freeNat : Nat → Nat
opaque Config.freeRat : Nat → Rat

/-- The quotient of a number by 0, and attenuation and phase of a point of magnitude 0, which the spec does not state. -/
opaque Config.quotientByZero : Rat → Rat
opaque Config.pointOfZero : Nat → Rat × Rat

/-- Where in its period the dither of a valve channel stands at device time 0, as a part of the period; it runs free
(spec/10_valve_drive.md R361). -/
opaque Config.ditherPhase : Nat → Rat

/-- What a field of that many bytes holds for a value outside it, where the spec names no saturation. -/
opaque Config.outOfField : Nat → Int → Nat

end Sys2Proof
end

