-- ==== Sys2Proof/Machine/Events.lean ====
section
/-! DEFINITION. The event codes of every chapter, with the sizes of their snapshot fields and whether the owning
chapter names them subject to the default rate limit (spec/15_ream.md R501, R504, R519; the event tables R96, R131,
and their like). -/

namespace Sys2Proof.Machine

/-- Code, field sizes in order, default-limited; the first half of the groups. -/
def eventTableLow : List (Nat × List Nat × Bool) := [
  (0x0010, [4, 4, 4, 4], false),
  (0x0011, [4, 4, 4], false),
  (0x0020, [4, 4], false),
  (0x0021, [4, 4], false),
  (0x0022, [4, 4, 4, 4], false),
  (0x0023, [4, 4, 4, 4], false),
  (0x0024, [4, 4, 4, 4, 4], false),
  (0x0025, [4], true),
  (0x0026, [4, 4], false),
  (0x0110, [4, 4, 4, 4, 4], false),
  (0x0112, [4, 4, 4], false),
  (0x0113, [4, 4], false),
  (0x0114, [4, 4], false),
  (0x0115, [4, 4, 4], false),
  (0x0116, [4, 4, 4, 4, 4], false),
  (0x0117, [4, 4], false),
  (0x0310, [4, 4, 4, 4, 4], false),
  (0x0311, [4, 4, 4], false),
  (0x0320, [4, 4], false),
  (0x0321, [4, 4], false),
  (0x0322, [4, 4], false),
  (0x0323, [4, 4], false),
  (0x0330, [4, 4, 4, 4], false),
  (0x0331, [4, 4, 4], false),
  (0x0332, [4, 4], false),
  (0x0333, [4, 4, 4, 4], false),
  (0x0340, [4, 4], false),
  (0x0341, [4, 4, 4], true),
  (0x0342, [4, 4, 4], true),
  (0x0350, [4, 4, 4, 4], true),
  (0x0351, [4, 4, 4, 4], false),
  (0x0360, [4, 4, 4], true),
  (0x0361, [4, 4, 4], false),
  (0x0410, [4, 4], false),
  (0x0411, [4, 4], false),
  (0x0412, [4, 4, 4], false),
  (0x0413, [4, 4, 4, 4, 4], false),
  (0x0414, [4, 4, 4, 4], false),
  (0x0415, [4], false),
  (0x0416, [4, 4], false),
  (0x0417, [4, 4], true),
  (0x0418, [4], true),
  (0x0420, [4, 4, 4], false),
  (0x0431, [4, 4, 4, 4, 4], false),
  (0x0432, [4, 4, 4], false),
  (0x0433, [4, 4], false),
  (0x0440, [4], false),
  (0x0441, [4, 4], false),
  (0x0442, [4, 4], false),
  (0x0510, [4, 4, 8], true),
  (0x0511, [4, 4], true),
  (0x0512, [4, 4, 4], false),
  (0x0513, [4, 4, 4], true),
  (0x0514, [4, 4], false),
  (0x0515, [4, 4], false),
  (0x0516, [4, 4], false),
  (0x0517, [4, 4], true),
  (0x0610, [4], false),
  (0x0611, [4, 4], false),
  (0x0612, [4, 8], false),
  (0x0613, [4, 4, 4], false),
  (0x0614, [4], false),
  (0x0620, [4, 4, 4], false),
  (0x0621, [4], false),
  (0x0622, [4, 4], false),
  (0x0623, [4, 4], false),
  (0x0630, [4, 4], true),
  (0x0631, [4], true),
  (0x0640, [4, 4, 4], true),
  (0x0650, [8], false),
  (0x0651, [4, 4], false),
  (0x0652, [4, 4], false),
  (0x0710, [4, 4, 4, 4], false),
  (0x0711, [4, 4, 4, 4, 4, 4, 4], false),
  (0x0712, [4], false),
  (0x0713, [4, 4], true),
  (0x0714, [4], true),
  (0x0715, [4, 4], true),
  (0x0716, [4, 4, 4, 4], false),
  (0x0717, [4, 4, 4], false),
  (0x0718, [4, 4, 4], false),
  (0x0810, [4, 4, 4, 4], false),
  (0x0811, [4, 4, 4], false),
  (0x0812, [4, 4, 4, 4], true),
  (0x0813, [4, 4, 4], false),
  (0x0814, [4, 4, 4], true),
  (0x0815, [4, 4], true),
  (0x0816, [4, 4, 4], false),
  (0x0910, [4, 4, 4], true),
  (0x0911, [4, 4], false)]

/-- The second half. -/
def eventTableHigh : List (Nat × List Nat × Bool) := [
  (0x0912, [4, 4, 4, 4], true),
  (0x0913, [4, 4], true),
  (0x0914, [4, 4], false),
  (0x0915, [4, 4], true),
  (0x0916, [4, 4, 4], false),
  (0x0917, [4, 4, 4], true),
  (0x0918, [4, 4, 4, 4], true),
  (0x0919, [4, 4, 4], false),
  (0x091A, [4, 4, 4], false),
  (0x091B, [4, 4, 4], false),
  (0x091C, [4, 4, 4, 4], true),
  (0x0A10, [4, 4, 4], true),
  (0x0A11, [4], true),
  (0x0A12, [4, 4], false),
  (0x0A13, [4], true),
  (0x0A20, [4], false),
  (0x0A21, [4, 4, 4], false),
  (0x0A22, [4, 4], false),
  (0x0A30, [4, 4], false),
  (0x0A31, [4, 4, 4], true),
  (0x0A32, [4], false),
  (0x0B11, [4, 4], true),
  (0x0B12, [4, 4], true),
  (0x0B13, [4, 4], false),
  (0x0B20, [4, 4, 4, 4], true),
  (0x0B21, [4, 4, 4], false),
  (0x0B22, [4, 4], false),
  (0x0B23, [4, 4, 4], false),
  (0x0B24, [4, 4], false),
  (0x0B30, [4, 4, 4], false),
  (0x0B31, [4, 4, 4], true),
  (0x0B32, [4, 4], true),
  (0x0B33, [4, 4], false),
  (0x0C10, [4, 4], true),
  (0x0C11, [4, 4, 4], false),
  (0x0C12, [4, 4], false),
  (0x0C13, [4, 4], true),
  (0x0C14, [4, 4, 4], false),
  (0x0C15, [4], false),
  (0x0D10, [4, 4, 4], false),
  (0x0D11, [4, 4], false),
  (0x0D12, [4, 4], true),
  (0x0D13, [4, 4, 4], false),
  (0x0D14, [4, 4], false),
  (0x0D15, [4, 4], false),
  (0x0D20, [4, 4, 4], false),
  (0x0D21, [4], false),
  (0x0D22, [4, 4, 4], false),
  (0x0D23, [4, 4, 4], false),
  (0x0D24, [4, 4], false),
  (0x0D25, [4, 4], false),
  (0x0D26, [4, 4], false),
  (0x0D27, [4], false),
  (0x0D28, [4, 4], true),
  (0x0D30, [4, 4, 4, 4], false),
  (0x0D31, [4, 4, 8, 8], true),
  (0x0D32, [4, 4], false),
  (0x0D33, [4], false),
  (0x0E10, [4, 4, 4, 4], false),
  (0x0E11, [4, 4], false),
  (0x0E20, [8, 8, 4], false),
  (0x0E30, [4, 4], false),
  (0x0E31, [4, 4], false),
  (0x0E32, [4, 4], false),
  (0x0E33, [4, 4], false),
  (0x0F10, [4, 4], false),
  (0x0F11, [4, 4, 4], true),
  (0x0F12, [4, 4, 4], true),
  (0x0F13, [4], false),
  (0x0F14, [4], false),
  (0x0F15, [4], false),
  (0x0F16, [4, 4, 4, 4], false),
  (0x0F17, [4], false),
  (0x0F20, [4, 4], false),
  (0x0F21, [4, 4, 4, 4], false),
  (0x0F22, [4, 4, 4], false),
  (0x0F23, [4, 4, 4], false),
  (0x0F24, [4, 4], true),
  (0x0F25, [4], false),
  (0x0F26, [], false),
  (0x0F27, [4, 4], true),
  (0x0F30, [4, 4, 4, 4], true),
  (0x0F31, [4], false),
  (0x0F32, [4, 4, 4, 4], false),
  (0x0F33, [4, 4, 4, 4], false),
  (0x0F34, [4, 4], false),
  (0x0F50, [4, 4, 4], false),
  (0x0F51, [4, 4], false),
  (0x0F52, [4, 4], false),
  (0x0F53, [], false),
  (0x0F54, [4], false),
  (0x0F55, [8], false),
  (0x0F60, [4, 4, 4], false),
  (0x0F61, [4, 4, 4], false),
  (0x0F62, [4, 4], false),
  (0x0F68, [4, 4, 4], true),
  (0x0F70, [4, 4, 4], true),
  (0x0F71, [4, 8, 4], false),
  (0x0F72, [4, 8], false),
  (0x0F73, [4, 8, 4], false),
  (0x0F74, [4, 4], true),
  (0x0F80, [4, 4, 4, 4], false),
  (0x0F81, [4, 4], false),
  (0x0F82, [4, 4, 4], false)]

def eventTable : List (Nat × List Nat × Bool) := eventTableLow ++ eventTableHigh

def eventRow (code : Nat) : Option (Nat × List Nat × Bool) := eventTable.find? (fun e => e.1 == code)

/-- Field sizes of a code; an unknown code has none. -/
def eventSizes (code : Nat) : List Nat := match eventRow code with | some (_, z, _) => z | none => []

/-- The owning chapter names the code subject to the default rate limit. -/
def eventLimited (code : Nat) : Bool := match eventRow code with | some (_, _, l) => l | none => false

/-- Codes that never take a bucket, UNABSORBED records apart (R505). -/
def eventProtected (code : Nat) : Bool := code == 0x0010 || code / 256 == 0x0E

/-- Words of the snapshot that a field of `w` bytes takes, low word first (R501). -/
def fieldWords (w : Nat) (v : Int) : List Nat :=
  if w = 8 then [uOf 8 v % 4294967296, uOf 8 v / 4294967296] else [u32 v]

/-- The fields of a code packed into words, in the listed order (R501). -/
def packFields (sizes : List Nat) (vs : List Int) : List Nat :=
  (sizes.zip (vs ++ List.replicate sizes.length 0)).flatMap (fun e => fieldWords e.1 e.2)

end Sys2Proof.Machine
end

