-- ==== Sys2Proof/Machine/Operands.lean ====
section
/-! DEFINITION. Operand forms: little-endian fields at byte offsets (spec/00_scope.md R10), reserved fields (R11), and
sparse tables. -/

namespace Sys2Proof.Machine

/-- Unsigned value of up to `w` bytes, first byte lowest. -/
def leNat : Nat → List Byte → Nat
  | 0, _ => 0
  | _, [] => 0
  | w + 1, b :: bs => b.toNat + 256 * leNat w bs

/-- Field of `w` bytes at offset `o`; bytes past the end count as zero. -/
def field (w o : Nat) (b : List Byte) : Nat := leNat w (b.drop o)

def g1 (b : List Byte) (o : Nat) : Nat := field 1 o b
def g2 (b : List Byte) (o : Nat) : Nat := field 2 o b
def g3 (b : List Byte) (o : Nat) : Nat := field 3 o b
def g4 (b : List Byte) (o : Nat) : Nat := field 4 o b
def g8 (b : List Byte) (o : Nat) : Nat := field 8 o b
def i1 (b : List Byte) (o : Nat) : Int := sOf 1 (field 1 o b)
def i2 (b : List Byte) (o : Nat) : Int := sOf 2 (field 2 o b)
def i4 (b : List Byte) (o : Nat) : Int := sOf 4 (field 4 o b)
def i8 (b : List Byte) (o : Nat) : Int := sOf 8 (field 8 o b)

/-- The `n` bytes from offset `o`. -/
def slice (b : List Byte) (o n : Nat) : List Byte := (b.drop o).take n

/-- `w` little-endian bytes of `n`. -/
def leBytes : Nat → Nat → List Byte
  | 0, _ => []
  | w + 1, n => BitVec.ofNat 8 n :: leBytes w (n / 256)

def p1 (n : Nat) : List Byte := leBytes 1 n
def p2 (n : Nat) : List Byte := leBytes 2 n
def p3 (n : Nat) : List Byte := leBytes 3 n
def p4 (n : Nat) : List Byte := leBytes 4 n
def p8 (n : Nat) : List Byte := leBytes 8 n
def q1 (i : Int) : List Byte := leBytes 1 (uOf 1 i)
def q2 (i : Int) : List Byte := leBytes 2 (uOf 2 i)
def q4 (i : Int) : List Byte := leBytes 4 (uOf 4 i)
def q8 (i : Int) : List Byte := leBytes 8 (uOf 8 i)

/-- Reserved bytes. -/
def zeros (n : Nat) : List Byte := List.replicate n 0

/-- Whether the `n` bytes from offset `o` are zero (R11). -/
def zeroAt (b : List Byte) (o n : Nat) : Bool := (slice b o n).all (· == 0)

/-- `n` bytes: cut or zero-padded. -/
def fit (n : Nat) (b : List Byte) : List Byte := b.take n ++ zeros (n - b.length)

/-- Bytes of a most-significant-first field (spec/02_sluices.md R54), as a number. -/
def beNat (b : List Byte) : Nat := b.foldl (fun a x => 256 * a + x.toNat) 0

/-- `w` bytes, most significant first. -/
def beBytes (w n : Nat) : List Byte := (leBytes w n).reverse

/-- Bit `i` of `n`. -/
def bitOf (n i : Nat) : Bool := n.testBit i

def b01 (b : Bool) : Nat := if b then 1 else 0

/-- Word with bit `i` for each element `i` of the list that satisfies `p`. -/
def maskOf (is : List Nat) (p : Nat → Bool) : Nat := is.foldl (fun a i => if p i then a + 2 ^ i else a) 0

variable {α : Type}

/-- The entry under `k`. -/
def tfind (t : Tbl α) (k : Nat) : Option α :=
  match t with
  | [] => none
  | (j, v) :: r => if j = k then some v else tfind r k

/-- The entry under `k`, or the default. -/
def tget [Inhabited α] (t : Tbl α) (k : Nat) : α := (tfind t k).getD default

/-- Table with `v` under `k`, keys rising. -/
def tset (t : Tbl α) (k : Nat) (v : α) : Tbl α :=
  match t with
  | [] => [(k, v)]
  | (j, w) :: r => if k < j then (k, v) :: (j, w) :: r else if k = j then (k, v) :: r else (j, w) :: tset r k v

/-- Entry `k` changed by `f`. -/
def tmod [Inhabited α] (t : Tbl α) (k : Nat) (f : α → α) : Tbl α := tset t k (f (tget t k))

def tdel (t : Tbl α) (k : Nat) : Tbl α := t.filter (fun e => e.1 != k)

/-- The `i`-th element changed by `f`. -/
def lmod (l : List α) (i : Nat) (f : α → α) : List α :=
  match l, i with
  | [], _ => []
  | x :: r, 0 => f x :: r
  | x :: r, i + 1 => x :: lmod r i f

/-- Pieces of `n` bytes; `fuel` bounds their number. -/
def chunks (n : Nat) : Nat → List α → List (List α)
  | 0, _ => []
  | _, [] => []
  | fuel + 1, l => l.take n :: chunks n fuel (l.drop n)

/-- `x` goes before the first element that it does not come after. -/
def insertBy (le : α → α → Bool) (x : α) : List α → List α
  | [] => [x]
  | y :: r => if le x y then x :: y :: r else y :: insertBy le x r

/-- List in the order of `le`; equal elements keep theirs. -/
def sortBy (le : α → α → Bool) (l : List α) : List α := l.foldr (insertBy le) []

/-- The first natural number below `n` that satisfies `p`. -/
def firstNat (n : Nat) (p : Nat → Bool) : Option Nat := (List.range n).find? p

/-- Largest integer whose square is at most `n`, by bisection of `bits` halvings. -/
def isqrtGo : Nat → Nat → Nat → Nat
  | 0, _, a => a
  | k + 1, n, a => let c := a + 2 ^ k; if c * c ≤ n then isqrtGo k n c else isqrtGo k n a

def isqrt (n : Nat) : Nat := isqrtGo (n.log2 / 2 + 1) n 0

/-- Nearest integer to a rational, ties away from zero. -/
def roundRat (q : Rat) : Int := roundDiv q.num q.den

/-- Rational toward minus infinity, and toward zero. -/
def floorRat (q : Rat) : Int := q.num / (q.den : Int)
def truncRat (q : Rat) : Int := if q.num < 0 then -((-q.num) / (q.den : Int)) else q.num / (q.den : Int)

/-- A quotient; one by 0 is a free value (notes/assumptions/121.md). -/
def ratDiv (a b : Rat) : Rat := if b = 0 then Config.quotientByZero a else a / b

/-- The mean of integers, rounded once to the unit of its field (notes/assumptions/9.md). -/
def meanInt (sum : Int) (n : Nat) : Int := roundDiv sum n

/-- The value of an unsigned and of a signed field of `w` bytes; a free value where it does not fit
(notes/assumptions/122.md). -/
def uField (w : Nat) (i : Int) : Nat :=
  if 0 ≤ i && decide (i < ((256 ^ w : Nat) : Int)) then i.toNat else Config.outOfField w i % 256 ^ w
def sField (w : Nat) (i : Int) : Int :=
  if decide (-((256 ^ w / 2 : Nat) : Int) ≤ i) && decide (i < ((256 ^ w / 2 : Nat) : Int)) then i
  else sOf w (Config.outOfField w i)

def absRat (q : Rat) : Rat := if q < 0 then -q else q
def clampRat (lo hi q : Rat) : Rat := if q < lo then lo else if q > hi then hi else q
def clampInt (lo hi q : Int) : Int := if q < lo then lo else if q > hi then hi else q

/-- Seconds of a span of nanoseconds, and milliseconds and microseconds. -/
def nsMs (n : Nat) : Nat := n / 1000000
def nsUs (n : Nat) : Nat := n / 1000

end Sys2Proof.Machine
end

