-- ==== Sys2Proof/Machine/State.lean ====
section
/-! DEFINITION. The state of the SR7 as plain data: everything spec/ gives the block, the queue of waiting
commands, and State.reset. INVENTORY.md, '## State', lists each piece with its rule and reset value. -/

namespace Sys2Proof.Machine

/-- Operating modes (spec/01_one_view.md R32). BOOT-lite is a passage, not a mode (R47): it reads as BOOT. -/
inductive Mode where
  | vault | boot | recovery | commission | run | hold | still | ice
  deriving DecidableEq, Repr, Inhabited

/-- Reasons for which a step stops. -/
inductive Fault where
  /-- Raised by no meaning: the spec gives the SR7 no event that stops it for good (safe). -/
  | none
  deriving DecidableEq, Repr

/-- Reasons for which a command has no meaning. -/
inductive Refusal where
  /-- Raised by an arm of exec whose command has no meaning yet (safe: the machine stops where the device goes on). -/
  | notModelled (mnemonic : String)
  deriving DecidableEq, Repr

/-- Device-wide state: mode, HOLD causes, pins and identity (00_scope.md R2–R5; 01_one_view.md R32–R47). -/
structure Sys where
  mode : Mode := .boot
  /-- Mode being entered by an accepted request, or by a wake (R34). -/
  target : Option Mode := none
  /-- Cause and wake source that the completing change will record (R519). -/
  targetCause : Nat := 0
  targetWake : Nat := 0
  /-- Autostart acts at the next entry to RUN: the first after BOOT, BOOT-lite or COMMISSION (R35). -/
  autoDue : Bool := true
  /-- [0] heartbeat, [1] SAFE#, [2] VLOGIC, [3] VFIELD_IO, [4] VFIELD_VD, [5] re-execution (R87). -/
  holdCauses : BitVec 6 := 0
  /-- Evver serves the sluices (HRDY, R82). -/
  ready : Bool := false
  /-- The passage of R47 is under way. -/
  bootLite : Bool := false
  /-- The supervisor has been started by the ROM (R33, R594). -/
  supervisor : Bool := false
  /-- Levels of the input pins: true means asserted. -/
  safePin : Bool := false
  rstPin : Bool := false
  wakePin : Bool := false
  /-- BM1: legal functions fitted (R3–R5); false is BP1. -/
  legal : Bool := true
  serial : Nat := 0
  evverPatch : Nat := 0
  wmPatch : Nat := 0
  /-- Device time, ns, and calendar time, ms (R12). -/
  devTime : Nat := 0
  calTime : Int := 0
  /-- The part of calendar time below 1 ms, in ps, so that slewing is exact (13_line_uplink.md R460). -/
  calPs : Nat := 0
  /-- BOOT ends only once these are done: NOR image checked, Reservoir measured (R35). -/
  norChecked : Bool := false
  /-- The result of the image check, while a thermal-trip hold keeps the ROM from acting on it (R33). -/
  norFound : Option Bool := none
  norStay : Bool := false
  resMeasured : Bool := false
  /-- A SYS_RESET was answered OK and its target (R92). -/
  resetDue : Option Nat := none
  /-- The reset sequence of R595 is under way. -/
  resetting : Bool := false
  /-- Application cores running (R25). -/
  appRunning : Bool := false
  /-- A fault stop has halted the application cores until they are next started (14_freshet.md R487). -/
  appStopped : Bool := false
  /-- Application access completed with a bus error; the data of the last application or SPI read (R24, R54). -/
  busError : Bool := false
  appData : List Byte := []
  /-- Bytes that the device drove in the latest frame: status, those under the address, and the data (R55, R57). -/
  miso : List Byte := []
  deriving DecidableEq, Repr, Inhabited

/-- One side's copy of the host-interface registers (02_sluices.md R52, R58–R60; 04_felt_time.md R148). -/
structure Hif where
  ctrl : Reg := 0
  windowSel : Reg := 0
  irqStatus : Reg := 0x80000000
  irqEnable : Reg := 0
  err : Reg := 0
  /-- A frame came while HRDY was low; NOT_READY is set when HRDY rises (R57). -/
  notReady : Bool := false
  devHi : Nat := 0
  calLo : Nat := 0
  calHi : Nat := 0
  /-- Latched mirror words 1–7 of each felt. -/
  feltLatch : Tbl (List Nat) := []
  deriving DecidableEq, Repr, Inhabited

/-- Sluice states (R62). -/
inductive SlState where
  | closed | idle | busy | resp
  deriving DecidableEq, Repr, Inhabited

/-- A request taken from a window: whole, or gathering segments (R65, R71). -/
structure Held where
  code : Nat := 0
  tag : Nat := 0
  flags : Nat := 0
  length : Nat := 0
  next : Nat := 0
  data : List Byte := []
  whole : Bool := true
  deriving DecidableEq, Repr, Inhabited

/-- What remains of a segmented response (R74). -/
structure Rest where
  code : Nat := 0
  tag : Nat := 0
  flags : Nat := 0
  status : Nat := 0
  total : Nat := 0
  next : Nat := 0
  data : List Byte := []
  deriving DecidableEq, Repr, Inhabited

/-- One sluice: S0 of a side, or one of S1–S15 (R61–R64). -/
structure Sluice where
  owner : Option Side := none
  sizeKib : Nat := 0
  st : SlState := .closed
  role : Nat := 0
  held : Option Held := none
  rest : Option Rest := none
  /-- A NOTIFY-requested answer is not yet released (R81). -/
  notify : Bool := false
  /-- Evver/UDP: the last answer, the tag it answered with the segments of it that are processed, and segments received
  early (R84). -/
  lastTag : Option Nat := none
  lastSegs : List Nat := []
  lastAnswer : List Byte := []
  early : Tbl (List Byte) := []
  /-- Evver/UDP: the notice being repeated until its RELEASE. -/
  noticeOut : Bool := false
  deriving DecidableEq, Repr, Inhabited

/-- Where a command came from, and so where its final answer goes (R77). -/
structure Org where
  side : Side := .spi
  sluice : Nat := 0
  tag : Nat := 0
  code : Nat := 0
  flags : Nat := 0
  bg : Bool := false
  deriving DecidableEq, Repr, Inhabited

/-- A command accepted and not yet answered finally; `a`, `b`, `c`, `data` are its own parameters. -/
structure Job where
  org : Org := {}
  a : Nat := 0
  b : Nat := 0
  c : Nat := 0
  data : List Byte := []
  /-- Past its commit point (R77). -/
  committed : Bool := false
  /-- An abort arrived after the commit point (R78). -/
  abortSeen : Bool := false
  /-- Final status and data of a command past its commit point, placed when the next step ends (R77, R78). -/
  answer : Option (Nat × List Byte) := none
  deriving DecidableEq, Repr, Inhabited

/-- A completion notice waiting for its side's notice sluice (R64). -/
structure Notice where
  side : Side := .spi
  /-- Sluice of the request, and its NOTIFY flag (R65, R66). -/
  sluice : Nat := 0
  notify : Bool := false
  code : Nat := 0
  tag : Nat := 0
  status : Nat := 0
  data : List Byte := []
  deriving DecidableEq, Repr, Inhabited

/-- Heartbeat of R79, R80: the lost sides and when each was lost. -/
structure Heartbeat where
  enable : Bool := false
  sides : List Side := []
  timeoutMs : Nat := 1000
  lost : List (Side × Nat) := []
  warned : List Side := []
  /-- Device time at which each watched side's timer was last restarted. -/
  started : List (Side × Nat) := []
  running : Bool := false
  deriving DecidableEq, Repr, Inhabited

/-- Sluices, their windows and the commands in progress. -/
structure Mail where
  /-- S1–S15 under 1–15; S0 of side k under 16 + k. -/
  sluices : Tbl Sluice := []
  /-- Bytes of the windows, under sluice key × 0x8000 + offset; canonical (Memory.wf). -/
  windows : List Host.Cell := []
  jobs : List Job := []
  notices : List Notice := []
  /-- The datagrams that the latest step sent, each with the number of its `Side.udp` (R83). -/
  udpOut : List (Nat × List Byte) := []
  udpSeq : Nat := 0
  /-- Of S1–S15, the one whose request without URGENT was served last: the next turn begins behind it (R70). -/
  turn : Nat := 0
  deriving DecidableEq, Repr, Inhabited

/-- A configuration object (03_configuration.md R97, R98): kind, index, format, flags and body. -/
structure Obj where
  kind : Nat := 0
  index : Nat := 0
  format : Nat := 0
  flags : Nat := 0
  body : List Byte := []
  deriving DecidableEq, Repr, Inhabited

/-- A configuration slot (R120): header fields, the stored check and the objects. -/
structure Slot where
  empty : Bool := true
  magic : Nat := 0
  schema : Nat := 0
  generation : Nat := 0
  length : Nat := 0
  writtenBy : List Nat := []
  writtenAt : Int := 0
  crc : Nat := 0
  objs : List Obj := []
  deriving DecidableEq, Repr, Inhabited

/-- The open transaction (R110–R119). -/
structure Txn where
  owner : Side := .spi
  /-- Scope FULL (true) or LIVE. -/
  full : Bool := true
  baseGen : Nat := 0
  objs : List Obj := []
  /-- Waiting for Reservoir energy (R117), since this device time. -/
  queued : Option Nat := none
  /-- Inside a CFG_COMMIT; its commit point is past, and its answer not yet placed. -/
  committing : Bool := false
  written : Bool := false
  lastCmd : Nat := 0
  deriving DecidableEq, Repr, Inhabited

/-- Configuration store. -/
structure Cfg where
  active : List Obj := []
  generation : Nat := 0
  slotA : Slot := {}
  slotB : Slot := {}
  /-- Which slot holds the active generation, or is kept by R123, R124 until the next write; none where neither is usable. -/
  activeSlot : Option Bool := none
  txn : Option Txn := none
  /-- Owner side of a transaction lost at the last start, to be recorded as 0x0114 (R112). -/
  lostTxn : Option Side := none
  /-- Converted objects kept for the next CFG_OPEN after a failed migration (R124). -/
  salvage : Option (List Obj) := none
  deriving DecidableEq, Repr, Inhabited

/-- One entry of the station value table (R132). -/
structure StVal where
  published : Bool := false
  flags : Nat := 0
  value : Int := 0
  aux : Int := 0
  time : Nat := 0
  /-- The latest valid value (10_valve_drive.md R370). -/
  good : Option Int := none
  deriving DecidableEq, Repr, Inhabited

/-- One felt (04_felt_time.md R133–R148, R159). Sticky and level flags are kept as one mirror word. -/
structure Felt where
  pos : Nat := 0
  /-- FELTn_STATE bits [9:0] except ENABLED, which the configuration gives (R148). -/
  state : BitVec 16 := 0
  jumps : Nat := 0
  rate : Int := 0
  lastJump : Int := 0
  time : Nat := 0
  /-- Remainder of the derived accumulator (R140). -/
  rem : Nat := 0
  /-- Counts moved backward since the last forward movement, and where it turned (R159). -/
  back : Nat := 0
  turnPos : Nat := 0
  stoppedAt : Nat := 0
  qerrs : Nat := 0
  /-- F1: locked (R137). Remote: counts advanced since the last message, correction being slewed (R142). -/
  locked : Bool := false
  advanced : Int := 0
  /-- Remote: of these, the ones up to the reference message of the cycle (12_priority_bus.md R438). -/
  advRef : Option Int := none
  slew : Int := 0
  slewTarget : Int := 0
  /-- REMOTE: the source position of the latest message. -/
  remote : Option Nat := none
  /-- Present levels of the encoder's A and B inputs, filtered (R138, R139). -/
  a : Bool := false
  b : Bool := false
  /-- Position at entry to STILL, for the wake distance (R44). -/
  stillPos : Nat := 0
  /-- The latest counts, newest first: device time and change of position, as far back as the rate is measured (R134). -/
  hist : List (Nat × Int) := []
  /-- Device time of the latest counted edge of an encoder (R139). -/
  lastEdge : Option Nat := none
  deriving DecidableEq, Repr, Inhabited

/-- Who placed a wheel entry. -/
inductive Owner where
  | side (d : Side)
  | programme (zone : Nat)
  deriving DecidableEq, Repr, Inhabited

/-- A waiting wheel entry (R149, R172). `purpose` is 0, or for a built-in programme 1 outlet sample, 2 horizon
update, 3 injector pulse; `parcel` is the parcel it concerns. -/
structure Entry where
  handle : Nat := 0
  owner : Owner := .side .spi
  felt : Nat := 0
  kind : Nat := 1
  policy : Nat := 0
  report : Nat := 0
  pos : Nat := 0
  station : Nat := 0xFFFF
  value : Int := 0
  cookie : Nat := 0
  /-- In the spill pool rather than inline in its slot. -/
  spilled : Bool := false
  purpose : Nat := 0
  parcel : Nat := 0
  /-- Reached by a forward movement and not yet dispatched, by which update (R151, R152). -/
  due : Bool := false
  batch : Nat := 0
  deriving DecidableEq, Repr, Inhabited

/-- An outcome record (R174). -/
structure Outc where
  handle : Nat := 0
  cookie : Nat := 0
  outcome : Nat := 0
  felt : Nat := 0
  pos : Nat := 0
  time : Nat := 0
  deriving DecidableEq, Repr, Inhabited

/-- Outcome queue of one side (R174). -/
structure OutcQ where
  recs : List Outc := []
  lost : Nat := 0
  deriving DecidableEq, Repr, Inhabited

/-- A parcel record (R166) with the sums its means are taken from. -/
structure Parcel where
  id : Nat := 0
  flags : BitVec 16 := 0
  zone : Nat := 0
  samples : Nat := 0
  start : Nat := 0
  length : Nat := 0
  inMoist : Nat := 0xFFFFFFFF
  outMoist : Nat := 0xFFFFFFFF
  inTemp : Int := 0
  tempMax : Int := 0
  tempMean : Int := 0
  mass : Int := 0
  massInterval : Nat := 0
  enteredAt : Int := 0
  residenceMs : Nat := 0
  density : Nat := 0
  /-- Device times of the counts that opened and closed it (R164). -/
  openTime : Nat := 0
  closeTime : Nat := 0
  sumMoist : Nat := 0
  nMoist : Nat := 0
  sumTemp : Int := 0
  nTemp : Nat := 0
  sumAll : Int := 0
  nAll : Nat := 0
  sumDens : Nat := 0
  nDens : Nat := 0
  /-- An outlet SAMPLE was dispatched and waits for the next MOISTURE record (R164), since this device time. -/
  wantOutlet : Option Nat := none
  /-- Exposure and prediction of a COLUMN zone (09_zone_programmes.md R335), exactly. -/
  exposure : Rat := 0
  pred : Option Rat := none
  deriving DecidableEq, Repr, Inhabited

/-- Felts, wheels and parcels. -/
structure FeltSys where
  felts : Tbl Felt := []
  entries : List Entry := []
  nextHandle : Nat := 1
  /-- Number of felt updates, for entries due at once. -/
  updates : Nat := 0
  spillArmed : Bool := true
  outcomes : Tbl OutcQ := []
  /-- Parcels of each zone in order of entry; the open one, where there is one, is last (R163, R165). -/
  parcels : Tbl (List Parcel) := []
  /-- The parcel history in NAND, and the records whose store is not yet complete (R165; 01_one_view.md R31). -/
  history : List Parcel := []
  leaving : List Parcel := []
  /-- Next sequence number, and the stored end of the reserved block (R162). -/
  seqNext : Nat := 0
  seqEnd : Nat := 0
  /-- Refusals WHEEL_FULL that no record has told of yet (R177). -/
  refused : Nat := 0
  /-- Zones whose open parcel is extended for want of a sequence number, or of room in the table (R162, R163). -/
  seqDelayed : List Nat := []
  tableFull : List Nat := []
  deriving DecidableEq, Repr, Inhabited

/-- Runtime of a Weir station (05_weir.md R184, R189, R192–R206, R214). Voltages are exact, in volts. -/
structure WeirSt where
  range : Nat := 0
  /-- Device times and old ranges of the changes in the last 1 s (R197). -/
  changes : List (Nat × Nat) := []
  pinned : Bool := false
  afterChange : Bool := false
  phase : Nat := 0
  /-- Voltage and mid-time window of the pair's first conversion (R184). -/
  pair : Option (Rat × Nat × Nat) := none
  /-- 0 none, 1 OPEN_WIRE, 2 CM_FAULT (R199), since when, and lands outside. -/
  mark : Nat := 0
  markAt : Nat := 0
  pendingMark : Nat := 0
  pendingAt : Nat := 0
  lands : Nat := 0
  /-- Lands and voltage of the latest confirmed violation (R217). -/
  landsHit : Nat := 0
  landMv : Int := 0
  /-- Last valid value without RANGE_STEP, and its time, for the rate check. -/
  lastGood : Option (Int × Nat) := none
  /-- Latest conversion (R214). -/
  s : Option Rat := none
  x : Option Rat := none
  t : Option Rat := none
  convRange : Nat := 0
  convTime : Nat := 0
  /-- Value, flags and time of the latest result (R192). -/
  value : Int := -2147483648
  flags : Nat := 0
  time : Nat := 0
  has : Bool := false
  substituted : Bool := false
  running : Bool := false
  shuntOpen : Bool := false
  compLast : Option Rat := none
  compStale : Bool := false
  /-- SAMPLE dispatches waiting for a conversion: device time, and the parcel of an outlet sample. -/
  awaiting : List Nat := []
  /-- Results buffered during re-execution, newest first, and the answer that waits for its end (R193, R213). -/
  buffered : List StVal := []
  toAnswer : Option (StVal × Nat) := none
  /-- Conversions since the filter began to fill, and those whose result was stored (R184, R193). -/
  count : Nat := 0
  stored : Nat := 0
  /-- The filter's state, in terms of the input and so the same at every gain: the latest result, and by how much the held
  modulator output of the last three conversions stood off the input (R196). -/
  lastRaw : Rat := 0
  heldOff : List Rat := []
  deriving DecidableEq, Repr, Inhabited

/-- Weir: stations, terminals and banks. -/
structure Weir where
  stations : Tbl WeirSt := []
  /-- OPEN_WIRE markings and substitution times, by term_kind × 256 + terminal (R215). -/
  openWires : Tbl Nat := []
  substitutedAt : Tbl Int := []
  brxLimit : List Nat := []
  deriving DecidableEq, Repr, Inhabited

/-- An island parameter object (06_watermark.md R231) with its version number. -/
structure IParam where
  cls : Nat := 0
  index : Nat := 0
  format : Nat := 1
  body : List Byte := []
  version : Nat := 0
  deriving DecidableEq, Repr, Inhabited

/-- An audit-trail entry (R238). -/
structure Audit where
  seq : Nat := 0
  epoch : Nat := 0
  kind : Nat := 1
  actor : Nat := 0
  calendar : Int := 0
  data : List Byte := []
  paramCrc : Nat := 0
  chain : Nat := 0
  deriving DecidableEq, Repr, Inhabited

/-- The parameter session (R232–R234). -/
structure PSession where
  owner : Side := .spi
  staged : List IParam := []
  deleted : List (Nat × Nat) := []
  queued : Bool := false
  writing : Bool := false
  lastCmd : Nat := 0
  deriving DecidableEq, Repr, Inhabited

/-- The Watermark island apart from its two engines, and what the main side keeps about it. -/
structure Island where
  running : Bool := true
  failed : Bool := false
  linkUp : Bool := true
  /-- Records sent to nobody while the link is lost, oldest first, and how many were dropped (R221). -/
  buffered : List (List Byte) := []
  dropped : Nat := 0
  /-- Results held unsigned for want of a sequence block (R225): bytes 0–63 with seq 0. -/
  unsigned : List (List Byte) := []
  /-- Records signed and on their way to the main side, oldest first. -/
  outbox : List (List Byte) := []
  seqNext : Nat := 0
  seqEnd : Nat := 4096
  seqAsked : Bool := false
  epoch : Nat := 0
  calOffset : Int := 0
  params : List IParam := []
  /-- Earlier sets, newest first, each with the commit point that ended it, for records whose interval had begun; and the latest
  commit point (R232). -/
  oldParams : List (Nat × List IParam) := []
  committedAt : Nat := 0
  /-- Version numbers by class × 256 + index; they outlive a deletion (R231). -/
  versions : Tbl Nat := []
  abandoned : Option Nat := none
  session : Option PSession := none
  trail : List Audit := []
  waiting : List Audit := []
  torn : Bool := false
  openings : Nat := 0
  /-- Calendar time of the latest opening, device time of the latest closing, and objects changed in between (R228, R238). -/
  openedAt : Int := 0
  closedAt : Nat := 0
  /-- Device time of the latest opening (R228, R247). -/
  openedDev : Nat := 0
  objsChanged : Nat := 0
  /-- Open duration in s of a SEAL_CLOSED held back until a commit that was being written is done (R234). -/
  closeAfter : Option Nat := none
  /-- SEAL# asserted, debounced, and as the running island last took it up (R226, R228). -/
  sealPin : Bool := false
  sealSeen : Bool := false
  /-- Changes of SEAL# that a restarting island has not yet taken up, oldest first (R228). -/
  sealMissed : List Bool := []
  tampered : Bool := false
  tamperedFlash : Bool := false
  unpoweredCount : Nat := 0
  unpoweredFirst : Int := 0
  /-- Transitions last reported at a start, for WM_STATUS; whether SPRING_LOST has been told of. -/
  unpoweredShown : Nat := 0
  springSeen : Bool := false
  /-- Seal changes that a full trail could not take, for WM_STATUS (R242). -/
  fullCount : Nat := 0
  /-- Reasons for grade PROCESS by island terminal (R248), bit n−1 for reason n. -/
  reasons : Tbl (BitVec 16) := []
  grades : Tbl Nat := []
  tempHot : Bool := false
  paramFault : Bool := false
  /-- Device times at which the two last began and ceased (R247). -/
  hotAt : Nat := 0
  hotEnd : Nat := 0
  faultFrom : Nat := 0
  faultEnd : Nat := 0
  trailFault : Bool := false
  /-- The latest moisture record is PROCESS for a reason other than SEAL_OPEN (R249). -/
  processFallback : Bool := false
  lastSeq : Option Nat := none
  /-- seq of the latest record the island signed (R258). -/
  lastSigned : Option Nat := none
  sigFailures : Nat := 0
  lost : Nat := 0
  /-- Latest record by terminal × 256 + rtype. -/
  latest : Tbl (List Byte) := []
  /-- Latest valid mean of a grain-temperature channel, m°C, with its device time (R273). -/
  gtTemp : Tbl (Int × Nat) := []
  stale : List Nat := []
  sigBad : List Nat := []
  awaiting : Tbl (List Nat) := []
  tapCounter : Option Nat := none
  tapTriggers : Nat := 0
  tapGaps : Nat := 0
  deriving DecidableEq, Repr, Inhabited

/-- Moisture engine (07_moisture_engine.md R264–R288). Complex values are pairs of float32 bit patterns. -/
structure Engine where
  /-- 0 free to sweep, 3 capture, 4 paused hot. -/
  st : Nat := 0
  /-- C_int, and the reference line's reflection, of the latest loop-back, by point; empty before the first (R274). -/
  cInt : List (Nat × Nat) := []
  refl : List (Nat × Nat) := []
  /-- int_db, int_deg, cable_db, cable_deg, ref_return and delay_ps of the latest loop-back (R276). -/
  lastVals : List Int := [0, 0, 0, 0, 0, 0]
  /-- Start of the latest loop-back: calendar and device time. -/
  lastLoop : Int := 0
  lastLoopDev : Option Nat := none
  /-- A forced loop-back: its command, and when it was accepted (R288); one owed after a hot pause (R286). -/
  loopForced : Option (Org × Nat) := none
  loopOwed : Bool := false
  loopTrigger : Nat := 1
  intervals : Nat := 0
  excluded : Nat := 0
  lastSeq : Nat := 0
  /-- Selection that the last record used; those that the island has received, newest first, each with its arrival (R280). -/
  calActive : Nat := 0xFF
  calLog : List (Nat × Nat) := []
  empty : Bool := false
  emptySince : Nat := 0
  refState : Nat := 0
  reason7At : Nat := 0
  drift : Bool := false
  /-- Spectrum of the last completed interval, with that interval's start and end and its param_crc (R288). -/
  spectrum : List (List Byte) := []
  specFrom : Nat := 0
  specTo : Nat := 0
  specCrc : Nat := 0
  hasInterval : Bool := false
  /-- Start of the running interval, where it is known. -/
  intervalAt : Option Nat := none
  /-- Air capture under way: its command and fields; when it began; and whether one ended early, after its loop-back. -/
  capture : Option (Org × Nat × Nat × Nat) := none
  captureAt : Nat := 0
  captureCut : Bool := false
  deriving DecidableEq, Repr, Inhabited

/-- A pending weighing request (08_weighing.md R303): kind, source (0 main side, 1 tap, 2 zone) and command. -/
structure WReq where
  kind : Nat := 0
  source : Nat := 0
  org : Option Org := none
  zone : Nat := 0xFF
  since : Nat := 0
  deriving DecidableEq, Repr, Inhabited

/-- One weighing channel (R294–R306, R315). `raws` are the differences of the two halves of the latest raw
samples, newest first, in nV/V, none for a discarded one; `masses` the latest filtered values at zero offset 0 with their
device times, newest first. -/
structure SigWindow where
  /-- The command that opened the window, its start, and the count and sum of its valid raw samples, doubled. -/
  org : Org
  start : Nat
  n : Nat := 0
  sum : Int := 0
  deriving DecidableEq, Repr, Inhabited

/-- A load-cell channel (08_weighing.md R294–R306). -/
structure WChan where
  raws : List (Option Int) := []
  /-- For each raw sample, the fault bits of wflags under which it was discarded; 0 for a valid one (R295). -/
  causes : List Nat := []
  /-- Device time of the last raw sample (R298). -/
  lastRaw : Option Nat := none
  /-- Open WGT_SIGNAL windows (R315). -/
  windows : List SigWindow := []
  masses : List (Nat × Rat) := []
  stable : Bool := false
  zeroOffset : Rat := 0
  z0 : Option Rat := none
  tare : Int := 0
  /-- No record since the island start; the initial zero has not been tried yet (R300, R302). -/
  first : Bool := true
  zeroTried : Bool := false
  pending : Option WReq := none
  openWire : Bool := false
  excFault : Bool := false
  faultAt : Nat := 0
  lastTrack : Nat := 0
  /-- Hopper cycle (R304–R306): 0 IDLE, 1 FULL_SETTLE, 2 DISCHARGE, 3 EMPTY_SETTLE. -/
  cycle : Nat := 0
  cycleNo : Nat := 0
  total : Int := 0
  full : Option Rat := none
  cflags : BitVec 8 := 0
  settleStart : Nat := 0
  settleMs : Nat := 0
  /-- Start of the full value's filter window, and end of the empty value's (R308). -/
  fullStart : Option Nat := none
  emptyEnd : Option Nat := none
  /-- Transition waiting for its ISLAND_CYCLE store: the state to enter, and the record to send. -/
  next : Option Nat := none
  nextFull : Option Rat := none
  nextEmpty : Option Rat := none
  /-- The transition that a CYCLE_ABORT took the place of while that waits for its store (R306, R316). -/
  displaced : Option Nat := none
  /-- Reasons of R248 met in the record's interval up to its end, or to a BOOT; and, after a BOOT, the parameters in force when the
  interval began (R232, R247). -/
  heldReasons : BitVec 16 := 0
  heldParams : Option (List IParam) := none
  restarted : Bool := false
  lastStatus : Nat := 0
  lastSource : Nat := 0
  lastMassSeq : Nat := 0
  lastCycleSeq : Nat := 0
  tapRefused : Nat := 0
  deriving DecidableEq, Repr, Inhabited

/-- Heat block of a COLUMN or BATCH zone (09_zone_programmes.md R330–R332). -/
structure Heat where
  integ : Rat := 0
  u : Rat := 0
  uSat : Bool := false
  /-- Sign of e when u saturated. -/
  uSatDir : Int := 0
  burnerOn : Bool := false
  fansOn : Bool := false
  /-- Proof inputs seen on since the fans were switched on (R331). -/
  proven : List Nat := []
  /-- The plenum value has been invalid for 10 s (R332). -/
  plenumHeld : Bool := false
  deriving DecidableEq, Repr, Inhabited

/-- COLUMN (R333–R335). -/
structure Column where
  r : Nat := 0
  b : Rat := 0
  lastPred : Rat := 0
  trim : Rat := 0
  driveOn : Bool := false
  deriving DecidableEq, Repr, Inhabited

/-- BATCH (R336, R337). -/
structure Batch where
  batches : Nat := 0
  dryStart : Nat := 0
  drySecs : Nat := 0
  highFireMs : Nat := 0
  /-- Phase in which a hold began, to be restarted on resume. -/
  heldPhase : Nat := 0
  deriving DecidableEq, Repr, Inhabited

/-- SILO (R338, R339). -/
structure Silo where
  aerating : Bool := false
  startedAt : Nat := 0
  stoppedAt : Option Nat := none
  runToday : Nat := 0
  runDay : Int := 0
  lastEval : Nat := 0
  hot : List Nat := []
  /-- Sensors already recorded hot (0x0350). -/
  hotSeen : List Nat := []
  /-- Per sensor: (device time, value), newest first, for the value 24 h earlier. -/
  past : Tbl (List (Nat × Int)) := []
  mean : Int := 0
  hottest : Int := 0
  hottestIdx : Nat := 0
  deriving DecidableEq, Repr, Inhabited

/-- TEMPER (R340–R342) and the accepted inlet moistures of R328. -/
structure Temper where
  lastM : Nat := 0
  lastW : Rat := 0
  lastT : Nat := 0
  lastMass : Rat := 0
  doseShort : Nat := 0
  dosed : Nat := 0
  deriving DecidableEq, Repr, Inhabited

/-- WEIGH (R343, R344). -/
structure WeighZ where
  cycles : Nat := 0
  lastLoad : Int := 0
  feedOn : Bool := false
  disOn : Bool := false
  /-- Waiting for a gate to prove closed after its command, since this device time. -/
  proving : Option Nat := none
  deriving DecidableEq, Repr, Inhabited

/-- A programme step that falls due by time (R322–R344): its row, with the entry of a deckle. -/
inductive ZoneStep where
  | permissiveClear | deckleConfirmed (i : Nat) | deckleCleared (i : Nat) | feltStop | targetTimeout | heatPhase | plenumLoop
  | plenumInvalid | exposure | batchPhase | silo | weighEmpty | weighPhase
  deriving DecidableEq, Repr

/-- What waits for the end of supervisor re-execution, in the order in which it fell due: a programme step (R322), an OUTPUT or
INJECT action that the output latch holds (04_felt_time.md R156), a publication of a field or loop station
(11_field_io.md R397), and the oldest result that a cell buffers (05_weir.md R193). -/
inductive LateItem where
  | step (z : Nat) (k : ZoneStep)
  | action (e : Entry)
  | field (n flags : Nat) (value : Int) (time : Nat)
  | weir (n : Nat)
  deriving DecidableEq, Repr

/-- One zone (R318–R325, R345, R348). -/
structure Zone where
  /-- 0 IDLE, 1 STARTING, 2 RUNNING, 3 STOPPING, 4 HELD, 5 WAIT_ACK. -/
  st : Nat := 0
  phase : Nat := 0
  causes : BitVec 9 := 0
  since : Int := 0
  phaseAt : Nat := 0
  wasStopping : Bool := false
  stopAsked : Bool := false
  /-- The host must acknowledge although resume is AUTO: the heartbeat cause (01_one_view.md R36). -/
  needAck : Bool := false
  deckle : BitVec 16 := 0
  /-- Device times at which entries were confirmed. -/
  deckleAt : Tbl Nat := []
  targets : Tbl Int := []
  lastParcel : Nat := 0
  accepted : List (Nat × Nat) := []
  /-- Device time of the last plenum loop step and of the last exposure step, and whether it ran late (R322). -/
  loopLast : Option (Nat × Bool) := none
  expLast : Option (Nat × Bool) := none
  /-- Outputs the zone's programme commands now, by station (R29). -/
  heat : Heat := {}
  column : Column := {}
  batch : Batch := {}
  silo : Silo := {}
  temper : Temper := {}
  weigh : WeighZ := {}
  deriving DecidableEq, Repr, Inhabited

/-- A pulse waiting in a bank queue (10_valve_drive.md R376): its channel, length, due time, the wheel entry's
zone and parcel, and its order. A VLV_PULSE waits as the job of its tag. -/
structure PulseReq where
  chan : Nat := 0
  station : Nat := 0
  lenUs : Nat := 0
  due : Nat := 0
  zone : Nat := 0xFF
  parcel : Nat := 0
  org : Option Org := none
  /-- It fell due during the OFF of its channel, and is judged when that ends (R366). -/
  inOff : Bool := false
  /-- When its wait under R376 began. -/
  since : Nat := 0
  deriving DecidableEq, Repr, Inhabited

/-- One valve channel (R359–R374, R379, R385). -/
structure Chan where
  /-- 0 off, 1 regulating, 2 peak, 3 hold, 4 decay, 5 waiting, 6 latched off. -/
  st : Nat := 0
  /-- Within the peak phase and after it: 1 RISE, 2 DWELL, 3 TO_HOLD, 4 HOLD, 5 OFF (R364). -/
  phase : Nat := 0
  /-- Setpoint, and the slew towards it: from which current, since when (R360). -/
  setpoint : Int := 0
  slewFrom : Int := 0
  slewAt : Nat := 0
  cap : Option Int := none
  /-- When the cap last moved the target (R371). -/
  capAt : Nat := 0
  /-- The setpoint is safe_value because nothing drives the valve (R381). -/
  safe : Bool := false
  /-- Current as the latest event of the channel told it; a regulated one follows its target (notes/assumptions/18.md). -/
  current : Int := 0
  /-- Integral of the mean current in µA·ns since the last publication, up to `sumAt`; whether the supply was low, or a pulse
  was in a phase other than HOLD, in that time (R359). -/
  sum : Rat := 0
  sumAt : Nat := 0
  shownAt : Nat := 0
  lowSeen : Bool := false
  ran : Bool := false
  /-- Mean current of the last 10 ms in straight pieces, newest first: from when to when, from which µA to which (R385). -/
  past : List (Nat × Nat × Rat × Rat) := []
  duty : Nat := 0
  pulseStart : Nat := 0
  pulseEnd : Nat := 0
  pulseZone : Nat := 0xFF
  pulseParcel : Nat := 0
  pulseCut : Bool := false
  /-- Device time at which the present phase began; whether the latest OFF was made SLOW, and when it ended after the pulse
  end, µs (R369, R373). -/
  phaseAt : Option Nat := none
  offSlow : Bool := false
  /-- The fall of current in progress has been charged to the clamp (R368). -/
  charged : Bool := false
  /-- A HOLD of at least 5 ms since the last step of the coil model (R371). -/
  heldLong : Bool := false
  offUs : Nat := 0
  lastPeakUs : Option Nat := none
  headroom : Bool := false
  openLoad : Bool := false
  overcurrent : Bool := false
  latched : Bool := false
  retrying : Bool := false
  trips : List Nat := []
  leak : Bool := false
  stuck : Bool := false
  misses : Nat := 0
  kinks : List Nat := []
  kinkSum : Nat := 0
  kinkCount : Nat := 0
  kinkRef : Option Nat := none
  driftSaid : Bool := false
  kinkLast : Nat := 0xFFFF
  deriving DecidableEq, Repr, Inhabited

/-- Coil model and counters of one valve channel (R370–R372, R385). -/
structure Coil where
  tw : Rat := 20
  tb : Rat := 20
  rMeas : Nat := 0
  warn : Bool := false
  limit : Bool := false
  mismatchSince : Option Nat := none
  mismatchSaid : Bool := false
  pulses : Nat := 0
  /-- Pulses of earlier BOOTs less those made before the last AGE_REBASE, and the clamp energy before it, for the wear
  indicator (16_fault_absorption.md R533, R536). -/
  worn : Int := 0
  clampWorn : Rat := 0
  deferred : Nat := 0
  refused : Nat := 0
  cut : Nat := 0
  peakSlow : Nat := 0
  clampTotal : Rat := 0
  deriving DecidableEq, Repr, Inhabited

/-- One valve bank (R353, R369, R375, R376, R379, R380, R385). -/
structure Bank where
  closed : Bool := false
  latched : Bool := false
  lowCut : Bool := false
  tripped : Bool := false
  peakOwner : Option Nat := none
  queue : List PulseReq := []
  clampHot : Bool := false
  clampHotAt : Nat := 0
  /-- Clamp energy charges of the last second: device time and joules. -/
  charges : List (Nat × Rat) := []
  maxWaitUs : Nat := 0
  refused : Nat := 0
  trips : List Nat := []
  deriving DecidableEq, Repr, Inhabited

/-- Valve drive. -/
structure Valves where
  chans : Tbl Chan := []
  coils : Tbl Coil := []
  banks : Tbl Bank := []
  /-- 0 off, 1 charging, 2 ready, 3 fault. -/
  boost : Nat := 0
  vbst : Int := 0
  peaksBlocked : Bool := false
  deriving DecidableEq, Repr, Inhabited

/-- One field station or loop output (11_field_io.md R392–R406, R412–R414). -/
structure Field where
  /-- Debounced level, count or frequency of an input; commanded state of an output; setpoint of a loop. -/
  value : Int := 0
  count : Nat := 0
  gateStart : Nat := 0
  rateHigh : Bool := false
  lastEdge : Option Nat := none
  latched : Bool := false
  /-- Driven to safe_value by R397 or R398. -/
  safe : Bool := true
  timedOut : Bool := false
  commander : Option Side := none
  cmdAt : Nat := 0
  /-- A loop's slew to its setpoint starts from this current, µA, at this device time (R405). -/
  slewFrom : Int := 0
  slewAt : Nat := 0
  /-- Current and terminal voltage of a loop as the latest event told them. -/
  measured : Int := 0
  termMv : Option Int := none
  loopFault : Bool := false
  openLoop : Bool := false
  /-- Monitored output at fault now (R399); hidden from every answer. -/
  faulted : Bool := false
  /-- Latest switching, from which the blanking time runs (R399). -/
  switchedAt : Option Nat := none
  deriving DecidableEq, Repr, Inhabited

/-- Field I/O: stations, common fault and supply latches. -/
structure FieldSys where
  stations : Tbl Field := []
  /-- Debounced level of each channel that is an input (R413). -/
  levels : BitVec 32 := 0
  mask : BitVec 32 := 0
  live : Bool := false
  sticky : Bool := false
  faultCount : Nat := 0
  faultAt : Nat := 0
  faultMs : Nat := 0
  /-- 15.0 V sag confirmed on each supply, with its device time, before 0 where it was before BOOT (R403). -/
  sagIo : Option Int := none
  sagVd : Option Int := none
  /-- Device time at which each supply was last known to be below 15.0 V. -/
  lowIoAt : Int := 0
  lowVdAt : Int := 0
  lowIo : Bool := false
  lowVd : Bool := false
  noSupply : Bool := false
  deriving DecidableEq, Repr, Inhabited

/-- A CAN frame (12_priority_bus.md R420, R428). `fflags` as R428: FDF, BRS, ESI, RTR, OWN, OVERRUN. -/
structure CanFrame where
  ident : Nat := 0
  ext : Bool := false
  fflags : BitVec 8 := 0
  data : List Byte := []
  eof : Nat := 0
  sof : Nat := 0
  seq : Nat := 0
  chan : Nat := 0
  deriving DecidableEq, Repr, Inhabited

/-- A frame accepted for sending, in a TRIPLE buffer (`slot` 0–2), a send object (its pool number) or an internal
transmit object (R424–R426). `what` is 0 host frame, 1 send object, 2 reference, 3 felt reference, 4 hand-off. -/
structure TxFrame where
  handle : Nat := 0
  side : Option Side := none
  cookie : Nat := 0
  report : Bool := false
  home : Nat := 0
  slot : Nat := 0
  what : Nat := 0
  fmt : Nat := 0
  ident : Nat := 0
  ext : Bool := false
  data : List Byte := []
  moved : Bool := false
  accepted : Nat := 0
  /-- Device time from which its channel offers it; a TIMEOUT outcome was given (R424, R426). -/
  offeredAt : Nat := 0
  late : Bool := false
  /-- It was found in arbitration, which it wins: neither cancelled nor moved back any more (R433, R447). -/
  onWire : Bool := false
  parcel : Nat := 0
  deriving DecidableEq, Repr, Inhabited

/-- Receive object contents (R430) and the latest data of a send object (R425), by pool number. -/
structure BusObj where
  isNew : Bool := false
  overwritten : Bool := false
  frame : CanFrame := {}
  data : List Byte := []
  deriving DecidableEq, Repr, Inhabited

/-- One bus channel (R424–R439, R449). -/
structure Chn where
  /-- 0 disabled, 1 ERROR_ACTIVE, 2 WARNING, 3 ERROR_PASSIVE, 4 BUS_OFF, 5 recovering. -/
  st : Nat := 0
  tec : Nat := 0
  rxErr : Nat := 0
  failedTo : Option Nat := none
  /-- Pending frames in this channel's buffers and objects, and the overflow list of moved frames (R432). -/
  pending : List TxFrame := []
  overflow : List TxFrame := []
  ring : List CanFrame := []
  ringLost : Nat := 0
  rxFrames : Nat := 0
  overruns : Nat := 0
  busoffs : Nat := 0
  late : Nat := 0
  busOffAt : Nat := 0
  recoverCause : Nat := 1
  activeSince : Nat := 0
  master : Option Nat := none
  masterIdent : Nat := 0
  masterOffset : Int := 0
  /-- Device time of the end of frame of the latest reference message. -/
  prevEof : Option Nat := none
  cycle : Nat := 0
  sending : Bool := false
  myPrevEof : Option Nat := none
  refMissing : Bool := false
  tdcNs : Nat := 0
  /-- Felts latched at the latest reference message: (felt, flags, position, rate) (R438). -/
  latched : List (Nat × Nat × Nat × Int) := []
  /-- Felts that jumped since the latch, and those that a message not yet sent tells of (R438). -/
  jumpedSince : List Nat := []
  jumpedTold : List Nat := []
  /-- Bit errors in own frames: (identifier, device time) (R434). -/
  bitErrors : List (Nat × Nat) := []
  deriving DecidableEq, Repr, Inhabited

/-- A subscription (R429). -/
structure Sub where
  handle : Nat := 0
  side : Side := .spi
  chan : Nat := 0
  own : Bool := false
  ident : Nat := 0
  ext : Bool := false
  mask : Nat := 0
  deriving DecidableEq, Repr, Inhabited

/-- A transmit outcome (R445). -/
structure TxOut where
  handle : Nat := 0
  cookie : Nat := 0
  status : Nat := 0
  chan : Nat := 0
  moved : Bool := false
  eof : Nat := 0
  sof : Nat := 0
  deriving DecidableEq, Repr, Inhabited

/-- Receive and outcome queues of one side. -/
structure BusQ where
  rx : List CanFrame := []
  rxLost : Nat := 0
  tx : List TxOut := []
  txLost : Nat := 0
  deriving DecidableEq, Repr, Inhabited

/-- Priority bus. -/
structure Bus where
  chans : Tbl Chn := []
  objs : Tbl BusObj := []
  subs : List Sub := []
  queues : Tbl BusQ := []
  nextHandle : Nat := 1
  nextSub : Nat := 1
  deriving DecidableEq, Repr, Inhabited

/-- An Evver/UDP session (13_line_uplink.md R462–R465). `via` is the port of arrival: 0 LINE0, 1 LINE1, 2 UPLINK,
3 service UART. -/
structure Session where
  id : Nat := 0
  addr : Nat := 0
  port : Nat := 0
  via : Nat := 0
  lastSeen : Nat := 0
  deriving DecidableEq, Repr, Inhabited

/-- A nonce pair given to an address and not yet used (R462). -/
structure Nonce where
  addr : Nat := 0
  port : Nat := 0
  via : Nat := 0
  client : List Byte := []
  device : List Byte := []
  at_ : Nat := 0
  deriving DecidableEq, Repr, Inhabited

/-- Counters and link of one external port (R469). -/
structure Port where
  link : Bool := false
  rx : Nat := 0
  tx : Nat := 0
  drops : Nat := 0
  fcs : Nat := 0
  /-- The PHY last reported a wrong speed (R457). -/
  wrongSpeed : Bool := false
  /-- Egress queues 0–3: frames waiting, each with its device time of arrival (R453, R454, R459). -/
  queues : Tbl (List (Nat × List Byte)) := []
  /-- Residence of a two-step Sync by source identity and sequence, for its Follow_Up (R459). -/
  residence : List (List Byte × Nat) := []
  deriving DecidableEq, Repr, Inhabited

/-- What a frame brings to the device port (R455, R458): ARP request, ICMP echo, PTP message, Freshet datagram of a kind of
R481, Evver/UDP datagram of a kind of 02_sluices.md R83, or nothing that the device answers. -/
inductive LateFrame where
  | arp (port : Nat) (mac ip target : List Byte)
  | echo (port : Nat) (mac ip dst data : List Byte)
  | ptp (m : PtpMsg)
  | freshet (kind port : Nat) (mac ip dgram : List Byte)
  | dgram (kind : Nat) (src : UdpSrc) (bytes : List Byte)
  | other
  deriving DecidableEq, Repr

/-- A frame in the buffer of the device port: its queue and its bytes (R453, R454). -/
structure Waiting where
  queue : Nat
  size : Nat
  frame : LateFrame
  deriving DecidableEq, Repr

/-- What an Announce told of a clock, by its sourcePortIdentity: its rank, a lesser one being better, and its
currentUtcOffset in s (R459, R460). -/
structure PtpMaster where
  source : Nat := 0
  rank : List Nat := []
  utcOffset : Int := 0
  deriving DecidableEq, Repr, Inhabited

/-- The delay request-response exchange under way (R459), times in ns: of a Sync its sequence, corrected origin (none before
its Follow_Up) and arrival; of the Delay_Req its sequence and when it left. -/
structure PtpExchange where
  syncSeq : Nat := 0
  origin : Option Int := none
  correction : Int := 0
  arrived : Int := 0
  delaySeq : Nat := 0
  left : Option Int := none
  deriving DecidableEq, Repr, Inhabited

/-- Switch, sessions, PTP and service UART. -/
structure Net where
  /-- Open sessions by the number of their side; the next number; closed ones that still owe an answer. -/
  sessions : Tbl Session := []
  sessionNext : Nat := 0
  ended : Tbl Session := []
  nonces : List Nonce := []
  key : Option (List Byte) := none
  mac : List Byte := [0, 0, 0, 0, 0, 0]
  /-- (address, arrival port, device time) of failed proofs; lockouts in force. -/
  failures : List (Nat × Nat × Nat) := []
  lockouts : List (Nat × Nat) := []
  ports : Tbl Port := []
  /-- Learned addresses: (MAC as a number, port, device time), newest first. -/
  macTable : List (Nat × Nat × Nat) := []
  /-- Hardware addresses by IPv4 address, as datagrams brought them. -/
  arp : Tbl (List Byte) := []
  /-- Ports that the loop guard blocks, each with the device time of the latest probe that returned for it (R456). -/
  blocked : List (Nat × Nat) := []
  /-- 0 off, 1 listening, 2 slave, 3 LOCKED. -/
  ptpState : Nat := 0
  ptpOffset : Int := 0
  ptpMaster : Nat := 0
  ptpGoodSince : Option Nat := none
  /-- Calendar correction being slewed, ps. -/
  ptpSlew : Int := 0
  /-- Clocks whose Announce is heard; the one that is followed; the exchange with it (R459). -/
  ptpMasters : List PtpMaster := []
  ptpChosen : Option Nat := none
  ptpExchange : PtpExchange := {}
  applied : Bool := false
  baud : Nat := 115200
  baudDue : Option Nat := none
  /-- What the device port took during re-execution, oldest first: it waits for Evver (R455). -/
  late : List Waiting := []
  /-- Frames and datagrams that the latest step sent, as bytes, with their ports. -/
  sent : List (Nat × List Byte) := []
  deriving DecidableEq, Repr, Inhabited

/-- An image header's fields (14_freshet.md R473). -/
structure Img where
  kind : Nat := 0
  targets : Nat := 0
  version : List Nat := []
  arb : Nat := 0
  length : Nat := 0
  blocks : Nat := 0
  minSchema : Nat := 0
  schema : Nat := 0
  keyId : Nat := 0
  digest : List Byte := []
  header : List Byte := []
  table : List Byte := []
  deriving DecidableEq, Repr, Inhabited

/-- Where an image comes from (R477). -/
inductive Source where
  | side (d : Side)
  | line (port : Nat)
  deriving DecidableEq, Repr, Inhabited

/-- A Freshet handshake on one line port (R481): as taker, then as holder. -/
structure Shake where
  /-- Taker: 0 none, 1 OPEN sent, 2 AUTH sent, 3 receiving. -/
  taker : Nat := 0
  offer : List Byte := []
  clientNonce : List Byte := []
  devNonce : List Byte := []
  holderSerial : Nat := 0
  takerSession : Nat := 0
  /-- Next file offset expected, the end of the latest GET, and the neighbour's hardware and IPv4 addresses. -/
  want : Nat := 0
  wantEnd : Nat := 0
  peer : List Byte := []
  /-- Bytes of header and table received before the image can be checked. -/
  buf : List Byte := []
  /-- Holder: 0 none, 1 CHALLENGE sent, 2 session open. -/
  holder : Nat := 0
  hClientNonce : List Byte := []
  hDevNonce : List Byte := []
  hNonceAt : Nat := 0
  hSession : Nat := 0
  /-- Device time of the latest AUTH or GET served. -/
  hGetAt : Nat := 0
  /-- Offering stopped; not before this device time; first offer. -/
  stopped : Bool := false
  notBefore : Nat := 0
  firstOffer : Option Nat := none
  deriving DecidableEq, Repr, Inhabited

/-- Freshet: staging slot, lock, floors, journal, grant and installed images. -/
structure Freshet where
  state : Nat := 0
  img : Img := {}
  source : Option Source := none
  lock : Option Source := none
  lastBlock : Nat := 0
  /-- Payload bytes received of each unmarked block, and bytes of the marked ones, by block. -/
  partials : Tbl (List (Nat × List Byte)) := []
  staged : Tbl (List Byte) := []
  marked : List Nat := []
  floors : Tbl Nat := []
  /-- Installed images: version, arb and digest by kind; whether a backup is kept; loader copy marker. -/
  installed : Tbl Img := []
  backup : Tbl Img := []
  loaderCopy : Nat := 0
  /-- Journal: 0 none, 4 ACTIVATING, 5 TRIAL, 8 FALLING_BACK; its blocks and which are BACKED and DONE. -/
  journal : Nat := 0
  norBlocks : Nat := 0
  backed : List Nat := []
  doneBlocks : List Nat := []
  blockTries : Nat := 0
  trialBoots : Nat := 0
  trialLeft : Nat := 0
  /-- Both as the journal in MRAM has them (R487). -/
  journalBoots : Nat := 0
  journalLeft : Nat := 0
  /-- The journal is written, and the device is to pass into BOOT (R485, R488, R491). -/
  restartDue : Bool := false
  /-- The inactive bank of island flash holds the WATERMARK image being activated (R486). -/
  bankReady : Bool := false
  /-- Status of the latest activation: OK, or SEALED (R486). -/
  outcome : Nat := 0
  /-- The activation of the staged image has started within the grant (R484). -/
  grantUsed : Bool := false
  grantHeld : Bool := false
  grantKinds : Nat := 0
  notBefore : Int := 0
  notAfter : Int := 0
  recoveryCause : Nat := 0
  /-- Records of the ROM's and the loader's run, made when Evver next starts (R485): code, fields and calendar time. -/
  loaderRecs : List (Nat × List Int × Int) := []
  /-- Sequence number of the next Freshet datagram. -/
  txSeq : Nat := 0
  shakes : Tbl Shake := []
  deriving DecidableEq, Repr, Inhabited

/-- A Ream record (15_ream.md R498). -/
structure Rec where
  seq : Nat := 0
  epoch : Nat := 0
  code : Nat := 0
  calendar : Int := 0
  devTime : Nat := 0
  boot : Nat := 0
  suppressed : Nat := 0
  rflags : BitVec 8 := 0
  fixed : Nat := 0
  actor : Nat := 0
  snap : List Nat := []
  deriving DecidableEq, Repr, Inhabited

/-- Token bucket of one code (R504): tokens spent (0 is a full bucket), records withheld, and the device time of its latest
record. -/
structure Bucket where
  spent : Nat := 0
  withheld : Nat := 0
  last : Nat := 0
  deriving DecidableEq, Repr, Inhabited

/-- Ream (R498–R517). Lists of records are newest first. -/
structure Ream where
  ring : List Rec := []
  queue : List Rec := []
  fallback : List Rec := []
  /-- 0 normal, 1 fallback, 2 merging, 3 ring failed. -/
  fbState : Nat := 0
  fbOverwritten : Nat := 0
  /-- Records merged so far (R510). -/
  merged : Nat := 0
  retired : Nat := 0
  nextSeq : Nat := 0
  floor : Nat := 0
  epoch : Nat := 0
  boot : Nat := 0
  lost : Nat := 0
  /-- Records lost to a full queue and not yet told of, for QUEUE_LOSS and 0x0E33. -/
  queueLoss : Nat := 0
  /-- Lost counts kept in the retention SRAM: by reset or restart, and by last gasp (R503). -/
  lostReset : Nat := 0
  lostGasp : Nat := 0
  buckets : Tbl Bucket := []
  timeUnsure : Bool := false
  /-- Challenge in force: nonce, up_to and the device time it was given (R511). -/
  challenge : Option (Nat × Nat × Nat) := none
  /-- Device times of wrong proofs in the last 10 min, newest first, and the refusal. -/
  wrongProofs : List Nat := []
  refusing : Bool := false
  /-- Offset in the ring of the failure that diverted Ream. -/
  failOffset : Nat := 0
  deriving DecidableEq, Repr, Inhabited

/-- One ageing indicator (16_fault_absorption.md R533–R539). Wear fractions are in units of 10⁻⁶; samples newest
first, each with its calendar day. -/
structure Age where
  samples : List (Int × Int) := []
  w : Int := 0
  slope : Int := 0
  days : Nat := 0xFFFF
  daysLo : Nat := 0xFFFF
  daysHi : Nat := 0xFFFF
  rebased : Bool := false
  /-- 0x0F80 and 0x0F81 have been recorded (R535). -/
  below90 : Bool := false
  ended : Bool := false
  lastSample : Int := 0
  /-- C0 in µF or V0 in mV (R533, indices 0 and 1). -/
  base : Option Nat := none
  deriving DecidableEq, Repr, Inhabited

/-- Lockstep, memories, absorption counters and ageing (R520–R540). -/
structure Absorb where
  /-- 0 lockstep, 1 single core 0, 2 single core 1. -/
  core : Nat := 0
  mismatches : Nat := 0
  divergences : Nat := 0
  latchExpiries : Nat := 0
  substitutions : Nat := 0
  /-- Erases of each block of the NOR (R533). -/
  norErases : Tbl Nat := []
  /-- Operating time weighted by junction temperature, ns, and when it was last counted (R533). -/
  junction : Nat := 0
  junctionAt : Nat := 0
  eccDram : Nat := 0
  eccSram : Nat := 0
  eccNor : Nat := 0
  eccMram : Nat := 0
  uncorrAbsorbed : Nat := 0
  uncorrUnabsorbed : Nat := 0
  storeRetries : Nat := 0
  pagesRetired : Nat := 0
  /-- Device times of mismatches, newest first, for the 10 s of R524. -/
  mismatchTimes : List Nat := []
  /-- Device times of the two copies of the checkpoint (R521). What they and the effect journal hold is the state
  itself: every command here is indivisible, and its effects are made once (R522). -/
  checkA : Nat := 0
  checkB : Nat := 0
  latch : Bool := false
  latchSince : Nat := 0
  latchExpired : Bool := false
  reexecuting : Bool := false
  /-- What fell due during re-execution, in order (09_zone_programmes.md R322). -/
  late : List LateItem := []
  /-- Calendar days of the mismatches of the last 30 days, newest first (R533). -/
  mismatchDays : List Int := []
  /-- Errors corrected in MRAM and DRAM since the last daily sample (R533). -/
  mramDay : Nat := 0
  dramDay : Nat := 0
  /-- Switchings of each field channel (R533). -/
  switchings : Tbl Nat := []
  /-- Daily samples that wait for their store, oldest first: calendar time, and the wear of each indicator (R533). -/
  daily : List (Int × List (Nat × Int)) := []
  /-- Both self-tests failed: no resume (R524). -/
  dead : Bool := false
  lastFault : Nat := 0
  faultActive : Bool := false
  /-- Watchdog restart and trip to be recorded at the next start. -/
  watchdogAt : Option Nat := none
  watchdogMode : Nat := 0
  ages : Tbl Age := []
  /-- DRAM pages with uncorrectable errors, and consecutive scrubs with corrections. -/
  pageErrors : Tbl Nat := []
  pageScrubs : Tbl Nat := []
  norScrubs : Tbl Nat := []
  norRefresh : List Nat := []
  repairCopy : Bool := false
  /-- Next primary each bank's shadow comparison takes (R527). -/
  shadowNext : Tbl Nat := []
  /-- Cell map (03_configuration.md R107): failed cells and what each bank's spare serves. Banks U0–U2 are 0–2,
  Q0 is 3; cell 8 is the spare. -/
  cellFailed : List (Nat × Nat) := []
  spareServes : Tbl Nat := []
  /-- The map as the MRAM holds it. -/
  mapFailed : List (Nat × Nat) := []
  mapServes : Tbl Nat := []
  deriving DecidableEq, Repr, Inhabited

/-- Clock controller (17_clocks.md R543–R555). -/
structure Clk where
  gate0 : Reg := 0x33333331
  gate1 : Reg := 0x43133333
  state : Reg := 0
  sticky : Reg := 0
  coastSince : Option Nat := none
  coastMs : Nat := 0
  /-- PLLs that coast: bit 0 PLL-A, 1 PLL-B, 2 PLL-C (R546, R547). A loss during re-execution waits (R549). -/
  coastPlls : Nat := 0
  coastDue : Option (Nat × Nat) := none
  /-- A loss that Evver, not yet running, has still to record: PLLs and windows (R547, R549). -/
  coastNote : Option (Nat × Nat) := none
  rtcFailed : Bool := false
  /-- Frequency measurement under way: command, sources and the gate's start. -/
  measure : Option (Org × Nat × Nat × Nat) := none
  deriving DecidableEq, Repr, Inhabited

/-- The station value table. -/
structure Stn where
  vals : Tbl StVal := []
  /-- Encoder stations' QERR and RATE_HIGH since the last ST_READ that covered them (03_configuration.md R132). -/
  encFlags : Tbl Nat := []
  deriving DecidableEq, Repr, Inhabited

/-- What a store writes, and so what its completion does (18_power_reservoir_thermal.md R564). -/
inductive StoreAct where
  | reamRecord
  | reamFloor (org : Org) (upTo : Nat)
  | cellMap
  | parcelSeq (endBlock : Nat)
  | history (id zone : Nat)
  | ageRecord
  | ageRebase (org : Org) (index : Nat)
  | floor (kind arb : Nat) (org : Option Org)
  | journal (what : Nat)
  | islandAudit
  | islandSeq
  | islandCycle (ch : Nat)
  | freshetStage (block : Nat)
  | netKey (org : Org) (key : List Byte)
  | loaderCopy (block : Nat)
  | islandBank
  | repairCopy (block : Nat)
  | configSlot (org : Option Org)
  | configMigrate
  | islandParam (org : Option Org)
  | freshetBlock (block : Nat)
  deriving DecidableEq, Repr, Inhabited

/-- One store: its class, what it writes, whether it is admitted, and the number of the write under way. -/
structure Store where
  cls : Nat := 0
  act : StoreAct := .cellMap
  admitted : Bool := false
  write : Nat := 1
  since : Nat := 0
  deriving DecidableEq, Repr, Inhabited

/-- One temperature sensor (R572–R574). -/
structure Sensor where
  raw : Int := 25000
  rate : Int := 0
  suspect : Bool := false
  suspects : Nat := 0
  goods : Nat := 0
  substituted : Bool := false
  /-- Two evaluations at 15 K/s in a row. -/
  fast : Nat := 0
  deriving DecidableEq, Repr, Inhabited

/-- Supplies, Reservoir, Spring domain and temperatures (18_power_reservoir_thermal.md). -/
structure Power where
  vlogic : Int := 24000000
  vfieldIo : Int := 24000000
  vfieldVd : Int := 24000000
  vhold : Int := 0
  vbat : Int := 0
  vlogicOff : Bool := false
  /-- Capacitance in µF; whether it has been measured since VAULT (R562, R563). -/
  capUf : Nat := 0
  capKnown : Bool := false
  /-- Usable energy in units of 5·10⁻¹⁹ J, so that no rounding enters R565. -/
  energy : Nat := 0
  charging : Bool := true
  /-- 1 CHARGE, 2 STEP measurement under way. -/
  measuring : Nat := 0
  resFault : Bool := false
  below405 : Bool := true
  warnVlogic : Bool := false
  dip : Bool := false
  lastGasp : Bool := false
  /-- Stores completed in the last gasp under way. -/
  gaspStores : Nat := 0
  /-- A STEP measurement is due, and waits for the end of the stores in progress (R562). -/
  stepDue : Bool := false
  /-- Summaries of last gasps since Evver last ran, for its next start (0x0F21): stores completed, records written and lost,
  VHOLD in mV. -/
  gaspSummary : List (Nat × Nat × Nat × Nat) := []
  stores : List Store := []
  sticky : Reg := 0x2
  lastMode : Reg := 0
  thermTrip : Reg := 0
  sprVbat : Reg := 0
  springPowered : Bool := true
  /-- Calendar time has been restored since the domain last started from its reset values (15_ream.md R508). -/
  springTold : Bool := false
  coinCell : Bool := false
  /-- The calendar clock of the Spring domain, ns (R569; 13_line_uplink.md R460). -/
  springNs : Int := 0
  /-- Its count at entry to ICE, and what ICE lasted, in ns of device time (17_clocks.md R550). -/
  iceAt : Int := 0
  iceNs : Nat := 0
  recoveryReq : Bool := false
  /-- VLOGIC_LOST values that BOOTs passed to Evver (R571). -/
  lostPassed : List Bool := []
  sensors : Tbl Sensor := []
  thermalWarn : Bool := false
  warnSince : Nat := 0
  /-- Trip hold of R576, and the times of the trips within 1 h. -/
  tripHold : Bool := false
  tripTimes : List Nat := []
  /-- When the latest trip was, by the Spring calendar clock in ns; trips not yet recorded: sensor, cause, m°C, trips in 1 h. -/
  tripAt : Int := 0
  tripUnrecorded : List (Nat × Nat × Int × Nat) := []
  /-- Zones whose autostart is ignored until each is next started by command (R576). -/
  noAutostart : List Nat := []
  rtcOffset : Int := 0
  deriving DecidableEq, Repr, Inhabited

/-- The whole block and the queue of waiting commands. -/
structure State where
  sys : Sys := {}
  hifSpi : Hif := {}
  hifApp : Hif := {}
  mail : Mail := {}
  hb : Heartbeat := {}
  cfg : Cfg := {}
  stn : Stn := {}
  felt : FeltSys := {}
  weir : Weir := {}
  island : Island := {}
  engine : Engine := {}
  wgt : Tbl WChan := []
  zones : Tbl Zone := []
  valves : Valves := {}
  field : FieldSys := {}
  bus : Bus := {}
  net : Net := {}
  fsh : Freshet := {}
  ream : Ream := {}
  absorb : Absorb := {}
  clk : Clk := {}
  power : Power := {}
  /-- The model's own counter of free values drawn; each draw reads it and advances it. -/
  fresh : Nat := 0
  pending : List Instr := []
  deriving DecidableEq, Repr, Inhabited

/-- Entry 0 of the audit trail, MANUFACTURED: serial 0 and Watermark 1.2.0, with the CRC of the empty parameter set and the
chain over the entry (06_watermark.md R238, R239; notes/assumptions/3.md). -/
def manufactured : Audit :=
  { seq := 0, epoch := 0, kind := 1, actor := 0, calendar := 0,
    data := List.replicate 8 0 ++ [1, 2, 0] ++ List.replicate 13 0, paramCrc := 0, chain := 528459337 }

/-- The machine right after reset: BOOT has begun, nothing is configured, nothing is charged, HRDY is low
(01_one_view.md R33–R35; 02_sluices.md R58, R82; 18_power_reservoir_thermal.md R570). What no field names here stands at
the value its declaration gives. -/
def State.reset : State :=
  { sys := { mode := .boot, ready := false, autoDue := true, legal := true }
    island := { running := true, linkUp := true, trail := [manufactured] }
    ream := { nextSeq := 1, floor := 1 }
    power := { vhold := 0, charging := true, measuring := 1, sticky := 0x2, springPowered := true }
    pending := [] }

end Sys2Proof.Machine
end

