-- ==== Sys2Proof/Machine/Flags.lean ====
section
/-! DEFINITION. Status codes, mode codes, the command table, and the words and levels the device computes from its
state: HIF_STATUS, HIF_OWNER, the status byte, the interrupt lines, FAULT# (spec/02_sluices.md R55–R59, R81, R85–R87;
spec/16_fault_absorption.md R532). -/

namespace Sys2Proof.Machine

/-- Result of a step. -/
abbrev Out := Host.Outcome State Fault Refusal

/-! Status codes (R85). -/
abbrev sOK : Nat := 0x00
abbrev sPENDING : Nat := 0x01
abbrev sCBA : Nat := 0x02
abbrev sABORTED : Nat := 0x03
abbrev sDEFERRED : Nat := 0x04
abbrev sBUSY : Nat := 0x10
abbrev sNOENERGY : Nat := 0x11
abbrev sWRONGMODE : Nat := 0x12
abbrev sSEALED : Nat := 0x13
abbrev sAUTH : Nat := 0x14
abbrev sBADLEN : Nat := 0x15
abbrev sBADOBJ : Nat := 0x16
abbrev sNOTFOUND : Nat := 0x17
abbrev sLIMIT : Nat := 0x18
abbrev sOVERLAP : Nat := 0x19
abbrev sWHEELFULL : Nat := 0x1A
abbrev sUNKNOWN : Nat := 0x1B
abbrev sSEGORDER : Nat := 0x1C
abbrev sTIMEOUT : Nat := 0x1D
abbrev sSTALE : Nat := 0x1E
abbrev sROLLBACK : Nat := 0x1F

/-- Mode code of R32. -/
def modeCode : Mode → Nat
  | .vault => 0 | .boot => 1 | .recovery => 2 | .commission => 3 | .run => 4 | .hold => 5 | .still => 6 | .ice => 7

/-- The mode of a code. -/
def modeOf (n : Nat) : Mode :=
  match n with
  | 0 => .vault | 1 => .boot | 2 => .recovery | 3 => .commission | 4 => .run | 5 => .hold | 6 => .still | _ => .ice

/-- Owner encoding of SYS_SLUICE_INFO and of the actor field (R94; spec/15_ream.md R498). -/
def sideCode : Side → Nat
  | .spi => 1 | .app => 2 | .udp _ => 3

/-- Command classes (R67). -/
inductive Cls where
  | fast | short | long | background | abort
  deriving DecidableEq, Repr

/-- A row of the command tables: code, class, modes as a mask by mode code, and the valid request lengths `lo`,
`lo + step`, … up to `hi`. -/
structure CmdRow where
  code : Nat
  cls : Cls
  modes : Nat
  lo : Nat
  hi : Nat
  step : Nat := 1
  deriving DecidableEq, Repr

/-- Masks of modes: BOOT once served, COMMISSION, RUN, HOLD, STILL; and their common unions. -/
abbrev mServed : Nat := 0x7A
abbrev mCRHS : Nat := 0x78
abbrev mCRH : Nat := 0x38
abbrev mRHS : Nat := 0x70
abbrev mRH : Nat := 0x30
abbrev mR : Nat := 0x10
abbrev mC : Nat := 0x08
abbrev mRec : Nat := 0x04

/-- The command tables of all groups (R86 and its like), by code. -/
def cmdTable : List CmdRow := [
  ⟨0x0001, .fast, mServed, 0, 0, 1⟩,
  ⟨0x0002, .fast, mServed, 4, 4, 1⟩,
  ⟨0x0003, .abort, mCRHS, 4, 4, 1⟩,
  ⟨0x0004, .fast, mCRHS, 4, 4, 1⟩,
  ⟨0x0005, .fast, mServed, 0, 0, 1⟩,
  ⟨0x0006, .fast, (mServed+mRec), 4, 4, 1⟩,
  ⟨0x0007, .fast, mServed, 4, 4, 1⟩,
  ⟨0x0008, .fast, mServed, 0, 0, 1⟩,
  ⟨0x0009, .fast, mServed, 8, 8, 1⟩,
  ⟨0x0101, .fast, mCRH, 0, 0, 1⟩,
  ⟨0x0102, .short, mCRH, 16, 4096, 1⟩,
  ⟨0x0103, .long, mCRH, 0, 0, 1⟩,
  ⟨0x0104, .fast, mCRH, 0, 0, 1⟩,
  ⟨0x0105, .fast, mCRHS, 4, 4, 1⟩,
  ⟨0x0106, .long, mCRHS, 4, 4, 1⟩,
  ⟨0x0107, .long, mC, 36, 131076, 1⟩,
  ⟨0x0108, .fast, mC, 4, 4, 1⟩,
  ⟨0x0109, .fast, mCRHS, 0, 0, 1⟩,
  ⟨0x0201, .fast, mCRHS, 4, 4, 1⟩,
  ⟨0x0301, .short, mR, 4, 4, 1⟩,
  ⟨0x0302, .short, mRH, 4, 4, 1⟩,
  ⟨0x0303, .fast, mCRHS, 4, 4, 1⟩,
  ⟨0x0304, .fast, mRH, 8, 8, 1⟩,
  ⟨0x0401, .fast, mCRHS, 4, 4, 1⟩,
  ⟨0x0402, .short, mCRH, 8, 8, 1⟩,
  ⟨0x0403, .fast, mRH, 20, 20, 1⟩,
  ⟨0x0404, .fast, mRH, 4, 4, 1⟩,
  ⟨0x0405, .fast, mCRHS, 4, 4, 1⟩,
  ⟨0x0406, .short, mRHS, 8, 8, 1⟩,
  ⟨0x0407, .background, mRHS, 24, 24, 1⟩,
  ⟨0x0408, .background, mRH, 0, 0, 1⟩,
  ⟨0x0501, .long, mCRHS, 4, 4, 1⟩,
  ⟨0x0502, .fast, mCRHS, 4, 4, 1⟩,
  ⟨0x0503, .fast, mCRHS, 4, 4, 1⟩,
  ⟨0x0504, .fast, mCRH, 14, 14, 1⟩,
  ⟨0x0601, .fast, mCRHS, 0, 0, 1⟩,
  ⟨0x0602, .fast, mCRHS, 0, 0, 1⟩,
  ⟨0x0603, .fast, mCRHS, 0, 0, 1⟩,
  ⟨0x0604, .fast, mCRH, 0, 0, 1⟩,
  ⟨0x0605, .short, mCRH, 12, 131084, 1⟩,
  ⟨0x0606, .long, mCRH, 0, 0, 1⟩,
  ⟨0x0607, .fast, mCRH, 0, 0, 1⟩,
  ⟨0x0608, .short, mCRHS, 4, 4, 1⟩,
  ⟨0x0609, .long, mCRHS, 16, 16, 1⟩,
  ⟨0x060A, .fast, mCRHS, 4, 4, 1⟩,
  ⟨0x0701, .fast, mCRHS, 0, 0, 1⟩,
  ⟨0x0702, .long, mCRH, 8, 8, 1⟩,
  ⟨0x0703, .long, mCRH, 0, 0, 1⟩,
  ⟨0x0704, .long, mCRHS, 0, 0, 1⟩,
  ⟨0x0801, .fast, mCRHS, 0, 0, 1⟩,
  ⟨0x0802, .background, mRH, 4, 4, 1⟩,
  ⟨0x0803, .background, mCRH, 4, 4, 1⟩,
  ⟨0x0901, .fast, mR, 8, 8, 1⟩,
  ⟨0x0902, .long, mR, 8, 8, 1⟩,
  ⟨0x0903, .fast, mCRHS, 4, 4, 1⟩,
  ⟨0x0904, .fast, mCRHS, 4, 4, 1⟩,
  ⟨0x0905, .short, mCRH, 4, 4, 1⟩,
  ⟨0x0A01, .fast, mR, 8, 8, 1⟩,
  ⟨0x0A02, .fast, mCRHS, 4, 4, 1⟩,
  ⟨0x0A03, .fast, mCRH, 4, 4, 1⟩,
  ⟨0x0A04, .fast, mR, 8, 8, 1⟩,
  ⟨0x0A05, .fast, mCRHS, 4, 4, 1⟩,
  ⟨0x0B01, .fast, mCRH, 16, 80, 1⟩,
  ⟨0x0B02, .background, mCRH, 0, 0, 1⟩,
  ⟨0x0B03, .fast, mCRHS, 12, 12, 1⟩,
  ⟨0x0B04, .fast, mCRHS, 4, 4, 1⟩,
  ⟨0x0B05, .background, mCRHS, 0, 0, 1⟩,
  ⟨0x0B06, .fast, mCRHS, 4, 4, 1⟩,
  ⟨0x0B07, .fast, mCRHS, 4, 4, 1⟩,
  ⟨0x0B08, .short, mCRH, 4, 4, 1⟩,
  ⟨0x0B09, .fast, mCRH, 4, 4, 1⟩,
  ⟨0x0C01, .fast, mCRHS, 8, 8, 1⟩,
  ⟨0x0C02, .fast, mCRHS, 16, 16, 1⟩,
  ⟨0x0C03, .fast, mCRHS, 4, 4, 1⟩,
  ⟨0x0C04, .fast, mCRHS, 0, 0, 1⟩,
  ⟨0x0C05, .short, mC, 32, 32, 1⟩,
  ⟨0x0D01, .fast, (mServed+mRec), 0, 0, 1⟩,
  ⟨0x0D02, .short, (mCRH+mRec), 256, 1048576, 1⟩,
  ⟨0x0D03, .short, (mCRH+mRec), 8, 65544, 1⟩,
  ⟨0x0D04, .fast, mCRH, 24, 24, 1⟩,
  ⟨0x0D05, .short, mCRH, 8, 8, 1⟩,
  ⟨0x0D06, .fast, mCRH, 0, 0, 1⟩,
  ⟨0x0D07, .fast, mRec, 0, 0, 1⟩,
  ⟨0x0E01, .fast, mCRHS, 0, 0, 1⟩,
  ⟨0x0E02, .short, mCRHS, 12, 12, 1⟩,
  ⟨0x0E03, .background, mCRHS, 12, 12, 1⟩,
  ⟨0x0E04, .fast, mCRHS, 4, 4, 1⟩,
  ⟨0x0E05, .fast, mC, 4, 4, 1⟩,
  ⟨0x0E06, .short, mC, 20, 20, 1⟩,
  ⟨0x0E07, .short, mCRHS, 8, 8, 1⟩,
  ⟨0x0F01, .fast, mCRHS, 4, 4, 1⟩,
  ⟨0x0F02, .short, mCRH, 8, 8, 1⟩,
  ⟨0x0F03, .long, mCRH, 8, 8, 1⟩,
  ⟨0x0F20, .fast, mCRHS, 4, 4, 1⟩,
  ⟨0x0F21, .fast, mCRHS, 0, 0, 1⟩,
  ⟨0x0F22, .long, mCRH, 0, 0, 1⟩,
  ⟨0x0F50, .fast, mCRHS, 0, 0, 1⟩,
  ⟨0x0F51, .fast, mCRHS, 4, 4, 1⟩,
  ⟨0x0F52, .short, mCRH, 4, 4, 1⟩]

def cmdOf (code : Nat) : Option CmdRow := cmdTable.find? (·.code == code)

/-- Valid request length of a command (R66). -/
def CmdRow.lenOk (c : CmdRow) (n : Nat) : Bool := c.lo ≤ n && n ≤ c.hi && (n - c.lo) % c.step == 0

/-- The modes in which the host window and Evver are served: HRDY, R82. -/
def hrdy (s : State) : Bool := s.sys.ready

/-- Last gasp, or the sequence of a reset, is under way: the process outputs are off and stay so
(spec/18_power_reservoir_thermal.md R568; spec/19_electrical.md R595). -/
def stopping (s : State) : Bool := s.power.lastGasp || s.sys.resetting

/-- FAULT# (spec/16_fault_absorption.md R532; spec/17_clocks.md R547; spec/18_power_reservoir_thermal.md R566, R573, R576). -/
def faultPin (s : State) : Bool :=
  s.absorb.faultActive || s.absorb.core != 0 || s.field.live || s.power.resFault || s.power.tripHold || s.clk.coastSince.isSome ||
    s.power.sensors.any (fun e => e.2.substituted)

/-- A PLL coasts: bit 0 PLL-A, 1 PLL-B, 2 PLL-C (spec/17_clocks.md R546, R547). -/
def pllDown (s : State) (k : Nat) : Bool := bitOf s.clk.coastPlls k

/-- Nibble of a block in CLK_GATE0 (blocks 0–7) and CLK_GATE1 (8–15) (spec/17_clocks.md R551). -/
def gateNibble (s : State) (b : Nat) : Nat := (if b < 8 then s.clk.gate0 else s.clk.gate1).toNat / 16 ^ (b % 8) % 16

/-- The block is not stopped by STILL (R552). -/
def stillOpen (s : State) (b : Nat) : Bool := s.sys.mode != .still || bitOf (gateNibble s b) 1

/-- Register copy of a side; a session has none (R52). -/
def hifOf (s : State) : Side → Hif
  | .spi => s.hifSpi | .app => s.hifApp | .udp _ => {}

def modHif (d : Side) (f : Hif → Hif) (s : State) : State :=
  match d with
  | .spi => { s with hifSpi := f s.hifSpi }
  | .app => { s with hifApp := f s.hifApp }
  | .udp _ => s

/-- Number of a side: SPI 0, application 1, Evver/UDP side n 2 + n. -/
def sideIx : Side → Nat
  | .spi => 0 | .app => 1 | .udp n => 2 + n

/-- Key of sluice `n` as side `d` names it. -/
def slKey (d : Side) (n : Nat) : Nat := if n % 16 = 0 then 16 + sideIx d else n % 16

/-- Sluice `n` as side `d` sees it: none when another side or no side owns it (R52, R62). -/
def ownSluice (s : State) (d : Side) (n : Nat) : Option Sluice :=
  match tfind s.mail.sluices (slKey d n) with
  | some sl => if sl.owner = some d then some sl else none
  | none => none

def slCode : SlState → Nat
  | .closed => 0 | .idle => 1 | .busy => 2 | .resp => 3

/-- HIF_OWNER (R59). -/
def ownerWord (s : State) (d : Side) : Nat :=
  (List.range 16).foldl (fun a n => a + (match ownSluice s d n with | some sl => slCode sl.st | none => 0) * 4 ^ n) 0

/-- HIF_STATUS (R59). -/
def statusWord (s : State) : Nat :=
  b01 (faultPin s) * 2 ^ 15 + b01 (s.sys.holdCauses != 0) * 2 ^ 14 + b01 (s.absorb.core != 0) * 2 ^ 13 +
    b01 (s.ream.fbState != 0) * 2 ^ 12 + b01 s.island.sealPin * 2 ^ 11 + modeCode s.sys.mode * 256 + b01 s.sys.ready

/-- Interrupt line of a side: HIRQ# or the application's line (R81). -/
def irqLine (s : State) (d : Side) : Bool :=
  let h := hifOf s d
  h.ctrl.getLsbD 0 && (h.irqStatus &&& h.irqEnable != 0 ||
    (List.range 16).any (fun n => match ownSluice s d n with | some sl => sl.notify && sl.st == .resp | none => false))

/-- Status byte of every frame (R55). -/
def statusByte (s : State) : Byte :=
  BitVec.ofNat 8 (b01 (irqLine s .spi) * 128 + b01 s.sys.ready * 64 + b01 (s.hifSpi.err != 0) * 32 +
    modeCode s.sys.mode % 8 * 4 + b01 (faultPin s) * 2)

/-- HIF_HB_LEFT (R58). DESIGN CHOICE: it reads 0 while this side's heartbeat is lost, and the full timeout while the timer
does not run (notes/assumptions/126.md). -/
def hbLeft (s : State) (d : Side) : Nat :=
  if !s.hb.enable || !s.hb.sides.contains d then 0xFFFFFFFF
  else if s.hb.lost.any (fun e => e.1 = d) then 0
  else match s.hb.started.find? (fun e => e.1 = d) with
    | some (_, t) => s.hb.timeoutMs - nsMs (s.sys.devTime - t)
    | none => s.hb.timeoutMs

/-- Zone held or waiting for acknowledgement (R87). -/
def heldMask (s : State) : Nat := maskOf (List.range 16) (fun z => let q := tget s.zones z; q.st == 4 || q.st == 5)

/-- Zones held by abort (R87); cause bit 1 of R320. -/
def abortMask (s : State) : Nat :=
  maskOf (List.range 16) (fun z => let q := tget s.zones z; (q.st == 4 || q.st == 5) && q.causes.getLsbD 1)

/-- Usable energy in mJ (spec/18_power_reservoir_thermal.md R563, R566). -/
def energyMj (s : State) : Nat := s.power.energy / 2000000000000000

/-- fault_flags of SYS_STATUS (R87). -/
def faultFlags (s : State) : Nat :=
  b01 (faultPin s) + b01 s.absorb.faultActive * 2 + b01 (s.absorb.core != 0) * 4 + b01 (s.ream.fbState != 0) * 8 +
    b01 s.field.live * 16 + b01 s.clk.coastSince.isSome * 32 + b01 s.power.thermalWarn * 64 +
    b01 (s.sys.legal && s.island.processFallback) * 128 + b01 s.power.below405 * 256

/-- eol_days of SYS_STATUS (R87). -/
def eolDays (s : State) : Nat := s.absorb.ages.foldl (fun a e => min a e.2.days) 0xFFFF

/-- Bytes 0–11 of SYS_STATUS (R87). -/
def statusHead (s : State) : List Byte :=
  p1 (modeCode s.sys.mode) ++ p1 (match s.sys.target with | some m => modeCode m | none => 0xFF) ++
    p2 s.sys.holdCauses.toNat ++ p2 (heldMask s) ++ p2 (abortMask s) ++ p4 (faultFlags s)

end Sys2Proof.Machine
end

