-- ==== Sys2Proof/Machine/Ops.lean ====
section
/-! DEFINITION. Shared operations: changing one part of the state, Ream records (spec/15_ream.md R498–R506), stores and
their energy (spec/18_power_reservoir_thermal.md R563–R565), window memory, sluice answers and notices, and the
serving of a command (spec/02_sluices.md R62–R74, R77). -/

namespace Sys2Proof.Machine

/-! One part of the state changed. -/
def onSys (f : Sys → Sys) (s : State) : State := { s with sys := f s.sys }
def onMail (f : Mail → Mail) (s : State) : State := { s with mail := f s.mail }
def onHb (f : Heartbeat → Heartbeat) (s : State) : State := { s with hb := f s.hb }
def onCfg (f : Cfg → Cfg) (s : State) : State := { s with cfg := f s.cfg }
def onStn (f : Stn → Stn) (s : State) : State := { s with stn := f s.stn }
def onFelt (f : FeltSys → FeltSys) (s : State) : State := { s with felt := f s.felt }
def onWeir (f : Weir → Weir) (s : State) : State := { s with weir := f s.weir }
def onIsland (f : Island → Island) (s : State) : State := { s with island := f s.island }
def onEngine (f : Engine → Engine) (s : State) : State := { s with engine := f s.engine }
def onWgt (f : Tbl WChan → Tbl WChan) (s : State) : State := { s with wgt := f s.wgt }
def onZones (f : Tbl Zone → Tbl Zone) (s : State) : State := { s with zones := f s.zones }
def onValves (f : Valves → Valves) (s : State) : State := { s with valves := f s.valves }
def onField (f : FieldSys → FieldSys) (s : State) : State := { s with field := f s.field }
def onBus (f : Bus → Bus) (s : State) : State := { s with bus := f s.bus }
def onNet (f : Net → Net) (s : State) : State := { s with net := f s.net }
def onFsh (f : Freshet → Freshet) (s : State) : State := { s with fsh := f s.fsh }
def onReam (f : Ream → Ream) (s : State) : State := { s with ream := f s.ream }
def onAbsorb (f : Absorb → Absorb) (s : State) : State := { s with absorb := f s.absorb }
def onClk (f : Clk → Clk) (s : State) : State := { s with clk := f s.clk }
def onPower (f : Power → Power) (s : State) : State := { s with power := f s.power }

/-- A free value drawn: the counter is read and advanced (notes/assumptions/14.md). -/
def drawn (n : Nat) (s : State) : State := { s with fresh := s.fresh + n }

/-- `n` random bytes at the present counter. -/
def randomBytes (n : Nat) (s : State) : List Byte := (List.range n).map (fun i => Config.randomByte (s.fresh + i))

/-! Configuration objects (spec/03_configuration.md R97). -/

def objIn (os : List Obj) (kind index : Nat) : Option Obj := os.find? (fun o => o.kind == kind && o.index == index)

/-- Body of an enabled object of the active configuration; empty where there is none. -/
def bodyOf (s : State) (kind index : Nat) : List Byte :=
  match objIn s.cfg.active kind index with
  | some o => if o.flags % 2 = 1 then o.body else []
  | none => []

/-- Body of an object of the active configuration, enabled or not. -/
def objBody (s : State) (kind index : Nat) : List Byte :=
  match objIn s.cfg.active kind index with | some o => o.body | none => []

/-! Ream. -/

/-- Entry of the REAM_POLICY object for a code (R512). -/
def policyEntry (s : State) (code : Nat) : Option (List Byte) :=
  let b := bodyOf s 8 0
  (chunks 32 (g1 b 6) (b.drop 16)).find? (fun e => g2 e 0 == code)

/-- Rate, period in seconds and burst of the bucket of a code; none when the code is not limited (R504, R505). Without an
enabled policy object the limits are those of R513 (notes/assumptions/44.md). -/
def bucketLimits (s : State) (code : Nat) : Option (Nat × Nat × Nat) :=
  let b := bodyOf s 8 0
  let dflt := if !eventLimited code then none else if b.isEmpty then some (10, 60, 20) else some (g2 b 0, g2 b 2, g2 b 4)
  if eventProtected code then none
  else match policyEntry s code with
    | some e => if bitOf (g1 e 2) 1 then none else if bitOf (g1 e 2) 0 then some (g2 e 4, g2 e 6, g2 e 8) else dflt
    | none => dflt

/-- Word of a snapshot selector (R501). -/
def selectorWord (s : State) (sel : Nat) : Nat :=
  let i := sel % 4096
  match sel / 4096 with
  | 1 => u32 (tget s.stn.vals i).value
  | 2 => (tget s.stn.vals i).flags
  | 3 => w32 (tget s.felt.felts i).pos
  | 4 => u32 (match i with
      | 0 => s.power.vlogic | 1 => s.power.vfieldIo | 2 => s.power.vfieldVd | _ => s.power.vhold)
  | 5 => u32 (tget s.power.sensors i).raw
  | 6 => w32 (energyMj s)
  | 7 => leNat 4 (slice (statusHead s) (match i with | 0 => 0 | 1 => 8 | _ => 4) 4)
  | 8 => let z := tget s.zones i; w32 (z.st + z.phase * 256 + z.causes.toNat * 65536)
  | _ => 0

/-- The snapshot words of a record: own fields, then the policy's selection, then zeros (R501). -/
def snapshot (s : State) (code : Nat) (fields : List Int) : List Nat :=
  let own := packFields (eventSizes code) fields
  let sel := match policyEntry s code with
    | some e => (List.range (g1 e 3)).map (fun i => selectorWord s (g2 e (16 + 2 * i)))
    | none => []
  (own ++ sel ++ List.replicate 8 0).take 8

/-- A record of the present moment; it takes the next sequence number (R498, R500). In last gasp one of the fallback ring is
flagged as it is made (R503). -/
def makeRec (s : State) (code actor suppressed flags fixed : Nat) (snap : List Nat) : Rec :=
  { seq := s.ream.nextSeq, epoch := s.ream.epoch, code := code, calendar := s.sys.calTime, devTime := s.sys.devTime,
    boot := s.ream.boot, suppressed := suppressed,
    rflags := BitVec.ofNat 8 (flags ||| b01 s.ream.timeUnsure ||| (if s.power.lastGasp && s.ream.fbState != 0 then 8 else 0)), fixed := fixed, actor := actor, snap := snap }

/-- The fallback ring takes a record; when full, it overwrites the oldest except the first (R509). -/
def pushFallback (r : Rec) (m : Ream) : Ream :=
  let m1 := { m with nextSeq := w32 (m.nextSeq + 1) }
  if m.fallback.length < 256 then { m1 with fallback := r :: m.fallback }
  else { m1 with fallback := r :: (m.fallback.eraseIdx (m.fallback.length - 2)), fbOverwritten := m.fbOverwritten + 1 }

/-- A record enters the queue, or the fallback ring while Ream is diverted; a full queue loses it (R502, R509). -/
def pushRec (r : Rec) (m : Ream) : Ream :=
  if m.fbState != 0 then pushFallback r m
  else if m.queue.length < 1024 then { m with queue := r :: m.queue, nextSeq := w32 (m.nextSeq + 1) }
  else { m with lost := satInc 4294967295 m.lost, queueLoss := m.queueLoss + 1 }

/-- An event is raised: its bucket is asked, and a record made (R504). -/
def raiseEv (code : Nat) (fields : List Int) (actor : Nat) (flags : Nat) (s : State) : State :=
  let snap := snapshot s code fields
  let fixed := (packFields (eventSizes code) fields).length
  let lim := if bitOf flags 5 then none else bucketLimits s code
  let b := tget s.ream.buckets code
  match lim with
  | some (_, _, burst) =>
    if b.spent < burst then
      let r := makeRec s code actor (min b.withheld 65535) flags fixed snap
      onReam (fun m => pushRec r { m with buckets := tset m.buckets code { spent := b.spent + 1, last := s.sys.devTime } }) s
    else onReam (fun m => { m with buckets := tset m.buckets code { b with withheld := b.withheld + 1 } }) s
  | none => onReam (fun m => pushRec (makeRec s code actor (min b.withheld 65535) flags fixed snap)
      (if b.withheld = 0 then m else { m with buckets := tset m.buckets code { b with withheld := 0 } })) s

/-- An event raised by Evver itself. -/
def note (code : Nat) (fields : List Int) (s : State) : State := raiseEv code fields 0 0 s

/-- An event that a side's command causes. -/
def noteBy (d : Side) (code : Nat) (fields : List Int) (s : State) : State := raiseEv code fields (sideCode d) 0 s

/-- An unabsorbed fault: its record carries UNABSORBED, and last_fault and FAULT# follow (spec/16 R532). -/
def noteFault (code : Nat) (fields : List Int) (s : State) : State :=
  raiseEv code fields 0 32 (onAbsorb (fun a => { a with lastFault := code, faultActive := true }) s)

/-- Calendar time as the ROM and the loader have it, which is that of the Spring domain (spec/15_ream.md R508). -/
def romTime (s : State) : Int := if s.sys.ready then s.sys.calTime else s.power.springNs / 1000000

/-- A record that the ROM or the loader cannot make: Evver makes it at its next start (spec/01_one_view.md R49;
spec/14_freshet.md R485). -/
def noteLater (code : Nat) (fields : List Int) (s : State) : State :=
  onFsh (fun f => { f with loaderRecs := f.loaderRecs ++ [(code, fields, romTime s)] }) s

/-- A record made at once where Evver runs. -/
def noteRom (code : Nat) (fields : List Int) (s : State) : State :=
  if s.sys.ready then note code fields s else noteLater code fields s

/-- An unabsorbed fault, whose record waits for Evver where it does not run. -/
def noteFaultRom (code : Nat) (fields : List Int) (s : State) : State :=
  if s.sys.ready then noteFault code fields s
  else noteLater code fields (onAbsorb (fun a => { a with lastFault := code, faultActive := true }) s)

/-- SUPPRESSION_ONLY record of a code with a withheld count (R506). -/
def noteSuppressed (code : Nat) (s : State) : State :=
  let b := tget s.ream.buckets code
  if b.withheld = 0 then s
  else onReam (fun m => pushRec (makeRec s code 0 (min b.withheld 65535) 4 0 (List.replicate 8 0))
    { m with buckets := tset m.buckets code { b with withheld := 0, last := s.sys.devTime } }) s

/-- Every code with a withheld count is told of (R506). -/
def flushSuppressed (s : State) : State := s.ream.buckets.foldl (fun t e => noteSuppressed e.1 t) s

/-- The charger runs: VLOGIC above 16.5 V, not in last gasp, nor during a STEP measurement, and the Reservoir below 34.0 V
less 1 % (spec/18_power_reservoir_thermal.md R561, R562). -/
def chargerRuns (p : Power) (vhold : Int) : Bool :=
  !p.vlogicOff && !p.lastGasp && !p.dip && p.measuring != 2 && decide (vhold < 33660000)

/-! Stores (R564, R565). Classes are numbered in the order of R564. -/

def storeClass : StoreAct → Nat
  | .reamRecord => 0 | .reamFloor _ _ => 0 | .cellMap => 1 | .parcelSeq _ => 2 | .history _ _ => 3 | .ageRecord => 4
  | .ageRebase _ _ => 4 | .floor _ _ _ => 5 | .journal _ => 5 | .islandAudit => 6 | .islandSeq => 7
  | .islandCycle _ => 8 | .freshetStage _ => 9 | .netKey _ _ => 10 | .loaderCopy _ => 14 | .islandBank => 13 | .repairCopy _ => 11 | .configSlot _ => 12 | .configMigrate => 12
  | .islandParam _ => 13 | .freshetBlock _ => 14

/-- Cost of a class, mJ. -/
def classCost (c : Nat) : Nat := [1, 2, 2, 2, 5, 5, 2, 2, 10, 10, 10, 20, 50, 70, 70].getD c 0

/-- Costs of the admitted stores not yet complete, mJ. -/
def committedMj (s : State) : Nat :=
  s.power.stores.foldl (fun a st => if st.admitted then a + classCost st.cls else a) 0

/-- Usable energy E of R563 in units of 5·10⁻¹⁹ J, from C in µF and VHOLD in µV; 0 below 18 V. -/
def usableEnergy (capUf : Nat) (vhold : Int) : Nat :=
  if vhold < 18000000 then 0 else (capUf * (vhold * vhold - 324000000000000)).toNat

/-- The admission rule of R565 for a store of cost `c` mJ. -/
def admits (s : State) (c : Nat) : Bool :=
  !s.power.lastGasp && (3 * (c + committedMj s) + 600) * 1000000000000000 ≤ s.power.energy

/-- Stores of the island, which none admits while the link is lost (spec/06_watermark.md R225). -/
def islandStore : StoreAct → Bool
  | .islandAudit => true | .islandSeq => true | .islandCycle _ => true | .islandParam _ => true | .islandBank => true | _ => false

/-- Whether a store of this act would be admitted now. -/
def canStore (a : StoreAct) (s : State) : Bool :=
  admits s (classCost (storeClass a)) && !(islandStore a && !s.island.linkUp)

/-- A store is requested: admitted at once where the rule holds, otherwise waiting. -/
def requestStore (a : StoreAct) (s : State) : State :=
  let ok := canStore a s
  onPower (fun p => { p with stores := p.stores ++
    [{ cls := storeClass a, act := a, admitted := ok, since := s.sys.devTime }] }) s

/-- Whether a store of this act waits or runs. -/
def storing (a : StoreAct) (s : State) : Bool := s.power.stores.any (fun x => x.act == a)

/-- Withdraws every store of this act that is not admitted. -/
def cancelStore (a : StoreAct) (s : State) : State :=
  onPower (fun p => { p with stores := p.stores.filter (fun x => x.act != a || x.admitted) }) s

/-- One store at a time writes the oldest queued record to the ring, or during a merge the next fallback record (R502,
R510). -/
def pumpReam (s : State) : State :=
  let more := (s.ream.fbState = 0 && !s.ream.queue.isEmpty) || (s.ream.fbState = 2 && !s.ream.fallback.isEmpty)
  if s.sys.ready && more && !storing .reamRecord s then requestStore .reamRecord s else s

/-! Window memory: bytes of every sluice's window, canonical: addresses strictly rise and no listed byte is zero,
which is what an unlisted address reads as (notes/assumptions/15.md). -/

def Memory.read (m : List Host.Cell) (a : Nat) : Byte :=
  match m with
  | [] => 0
  | (k, b) :: r => if k = a then b else Memory.read r a

def Memory.write (m : List Host.Cell) (a : Nat) (b : Byte) : List Host.Cell :=
  match m with
  | [] => if b = 0 then [] else [(a, b)]
  | (k, c) :: r =>
    if a < k then (if b = 0 then (k, c) :: r else (a, b) :: (k, c) :: r)
    else if a = k then (if b = 0 then r else (a, b) :: r)
    else (k, c) :: Memory.write r a b

def Memory.writeBytes (m : List Host.Cell) (a : Nat) (bs : List Byte) : List Host.Cell :=
  match bs with
  | [] => m
  | b :: r => Memory.writeBytes (Memory.write m a b) (a + 1) r

/-- Every listed address is at least `lo`, addresses strictly rise, and no listed byte is zero. -/
def Memory.wfFrom (lo : Nat) : List Host.Cell → Bool
  | [] => true
  | (k, b) :: r => decide (lo ≤ k) && (b != 0) && Memory.wfFrom (k + 1) r

def Memory.wf (m : List Host.Cell) : Bool := Memory.wfFrom 0 m

/-- Address of byte `off` of a sluice's window. -/
def winAddr (key off : Nat) : Nat := key * 32768 + off

def writeWin (key off : Nat) (bs : List Byte) (s : State) : State :=
  onMail (fun m => { m with windows := Memory.writeBytes m.windows (winAddr key off) bs }) s

def readWin (s : State) (key off n : Nat) : List Byte :=
  (List.range n).map (fun i => Memory.read s.mail.windows (winAddr key off + i))

/-! Errors, interrupts and answers. -/

/-- Sets HIF_ERR bits of a side; HIF_IRQ_STATUS.HIF_ERR when HIF_ERR becomes non-zero (R59, R96). -/
def hifErr (d : Side) (bit : Nat) (s : State) : State :=
  match d with
  | .udp _ => s
  | _ =>
    let h := hifOf s d
    let e := h.err ||| BitVec.ofNat 32 (2 ^ bit)
    noteBy d 0x0025 [e.toNat]
      (modHif d (fun h => { h with err := e, irqStatus := if h.err = 0 then h.irqStatus ||| 0x10000000 else h.irqStatus }) s)

/-- HIF_IRQ_STATUS bits set on the SPI and application sides. -/
def irqBoth (mask : BitVec 32) (s : State) : State :=
  { s with hifSpi := { s.hifSpi with irqStatus := s.hifSpi.irqStatus ||| mask },
           hifApp := { s.hifApp with irqStatus := s.hifApp.irqStatus ||| mask } }

def modSluice (key : Nat) (f : Sluice → Sluice) (s : State) : State :=
  onMail (fun m => { m with sluices := tmod m.sluices key f }) s

/-- The 16-byte header (R65). -/
def header (code tag flags status length segment credit : Nat) : List Byte :=
  p2 code ++ p2 tag ++ p2 flags ++ p2 status ++ p4 length ++ p2 segment ++ p2 credit

/-- Identifier of the session that is side `.udp n`, or was. -/
def sessionId (s : State) (n : Nat) : Nat :=
  match tfind s.net.sessions n with | some x => x.id | none => (tget s.net.ended n).id

/-- A source of session-0 datagrams is a side too: its odd number codes its port of arrival, UDP port and address
(R70; spec/13_line_uplink.md R462). -/
def isGuest : Side → Bool
  | .udp n => n % 2 == 1
  | _ => false

/-- A session that has closed. -/
def sideGone (s : State) (d : Side) : Bool :=
  match d with
  | .udp n => !isGuest d && (tfind s.net.sessions n).isNone
  | _ => false

/-- A datagram goes to the peer that is side `.udp n`. -/
def sendDgram (n : Nat) (dg : List Byte) (s : State) : State :=
  onMail (fun m => { m with udpOut := m.udpOut ++ [(n, dg)] }) s

/-- An ANSWER datagram of a side (R83). -/
def answerDgram (s : State) (k n : Nat) (body : List Byte) : List Byte :=
  p2 0x7645 ++ p1 3 ++ p1 (n % 16) ++ p2 (sessionId s k) ++ p2 s.mail.udpSeq ++ body

def sendAnswer (k : Nat) (dg : List Byte) (s : State) : State :=
  sendDgram k dg (onMail (fun m => { m with udpSeq := (m.udpSeq + 1) % 65536 }) s)

/-- Evver places 16 header bytes and a payload part in a window: RESP, and the SLU bit, or an ANSWER datagram (R62,
R83). The datagram is kept, to be sent again unchanged (R84). -/
def placeRaw (d : Side) (n : Nat) (body : List Byte) (s : State) : State :=
  let key := slKey d n
  match d with
  | .udp k =>
    let dg := answerDgram s k n body
    sendAnswer k dg (modSluice key (fun sl => { sl with st := .resp, lastAnswer := dg }) s)
  | _ => modHif d (fun h => { h with irqStatus := h.irqStatus ||| BitVec.ofNat 32 (2 ^ (n % 16)) })
      (writeWin key 0 body (modSluice key (fun sl => { sl with st := .resp }) s))

/-- Payload bytes of one segment of a sluice's window (R71). -/
def segRoom (s : State) (d : Side) (n : Nat) : Nat := max 1 (tget s.mail.sluices (slKey d n)).sizeKib * 1024 - 16

/-- First or only segment of an answer; what remains waits for releases (R74). `extra` is NOTIFY in a notice. -/
def placeFirst (d : Side) (n code tag status : Nat) (data : List Byte) (extra : Nat) (s : State) : State :=
  let room := segRoom s d n
  let seg := data.length > room
  let more : Rest :=
    { code := code, tag := tag, flags := extra, status := status, total := data.length, next := 1, data := data.drop room }
  let rest : Option Rest := if seg then some more else none
  placeRaw d n (header code tag ((if seg then 1 else 0) + extra) status data.length 0 0 ++ data.take room)
    (modSluice (slKey d n) (fun sl => { sl with held := none, rest := rest }) s)

/-- A final answer that a closed session is still owed: a datagram, the sluice being gone (R77; notes/assumptions/102.md). -/
def placeGone (o : Org) (status : Nat) (data : List Byte) (s : State) : State :=
  match o.side with
  | .udp k => sendAnswer k (answerDgram s k o.sluice
      (header o.code o.tag (b01 (1008 < data.length)) status data.length 0 0 ++ data.take 1008)) s
  | _ => s

/-- The final answer in the window of a command; NOTIFY asserts the interrupt until its release (R65, R81). A sluice that its
side has lost has no window to place it in (R64). -/
def place (o : Org) (status : Nat) (data : List Byte) (s : State) : State :=
  if sideGone s o.side then placeGone o status data s
  else if (ownSluice s o.side o.sluice).isNone then s
  else placeFirst o.side o.sluice o.code o.tag status data 0
    (modSluice (slKey o.side o.sluice) (fun sl => { sl with notify := bitOf o.flags 2 }) s)

/-- PENDING of a BACKGROUND command, which is not its final answer (R65, R67). -/
def placePending (o : Org) (s : State) : State := placeFirst o.side o.sluice o.code o.tag sPENDING [] 0 s

/-- Number of the side's notice sluice (R64). -/
def noticeSluice (s : State) (d : Side) : Option Nat :=
  firstNat 16 (fun n => n != 0 && match ownSluice s d n with | some sl => sl.role == 1 | none => false)

/-- A notice waits for its sluice; that of a closed session is discarded (R84). -/
def queueNotice (q : Notice) (s : State) : State :=
  if sideGone s q.side then s else onMail (fun m => { m with notices := m.notices ++ [q] }) s

/-- A completion notice: posted in the notice sluice while it is IDLE, queued otherwise (R64); NOTIFY of its request asserts
the interrupt until it is released (R65, R81). -/
def postNotice (q : Notice) (s : State) : State :=
  match noticeSluice s q.side with
  | some n =>
    match ownSluice s q.side n with
    | some sl => if sl.st = .idle then
        placeFirst q.side n q.code q.tag q.status q.data 4
          (modSluice (slKey q.side n) (fun sl => { sl with noticeOut := true, notify := q.notify }) s)
      else queueNotice q s
    | none => queueNotice q s
  | none => queueNotice q s

def jobOf (s : State) (o : Org) : Option Job :=
  s.mail.jobs.find? (fun j => j.org.side == o.side && j.org.sluice == o.sluice && j.org.tag == o.tag && j.org.code == o.code)

def dropJob (o : Org) (s : State) : State :=
  onMail (fun m => { m with jobs := m.jobs.filter (fun j =>
    !(j.org.side == o.side && j.org.sluice == o.sluice && j.org.tag == o.tag && j.org.code == o.code)) }) s

def addJob (j : Job) (s : State) : State := onMail (fun m => { m with jobs := m.jobs ++ [j] }) s

def modJob (o : Org) (f : Job → Job) (s : State) : State :=
  onMail (fun m => { m with jobs := m.jobs.map (fun j =>
    if j.org.side == o.side && j.org.sluice == o.sluice && j.org.tag == o.tag && j.org.code == o.code then f j else j) }) s

/-- Marks a command as past its commit point (R77). -/
def commitJob (o : Org) (s : State) : State := modJob o (fun j => { j with committed := true }) s

/-- The transaction of a CFG_COMMIT ends as its OK is placed (spec/03_configuration.md R112). -/
def txnAnswered (o : Org) (s : State) : State :=
  if o.code = 0x0103 then onCfg (fun c => { c with txn := c.txn.filter (fun t => !t.written) }) s else s

/-- The final answer of a command in progress, in its window or as a notice; an abort that came after the commit point
makes OK into COMPLETED_BEFORE_ABORT (R77, R78). A command no longer outstanding gets none. -/
def answerJob (o : Org) (status : Nat) (data : List Byte) (s : State) : State :=
  match jobOf s o with
  | none => s
  | some j =>
    let st := if status = sOK && j.abortSeen then sCBA else status
    let s1 := txnAnswered o (dropJob o s)
    if j.org.bg then
      postNotice { side := o.side, sluice := o.sluice, notify := bitOf j.org.flags 2, code := o.code, tag := o.tag, status := st, data := data } s1
    else place j.org st data s1

/-- A command in progress ends: a failure is answered at once, and with OK or DEFERRED_BUSOFF it has passed its commit point
and is answered when the next step ends, so that an abort may still arrive in between (R77, R78; notes/assumptions/127.md). -/
def finish (o : Org) (status : Nat) (data : List Byte) (s : State) : State :=
  match jobOf s o with
  | none => s
  | some j =>
    if j.answer.isSome then s
    else if status = sOK || status = sDEFERRED then modJob o (fun j => { j with committed := true, answer := some (status, data) }) s
    else answerJob o status data s

/-- Commands of a code that still wait for what they asked. -/
def waitingJobs (s : State) (code : Nat) : List Job := s.mail.jobs.filter (fun j => j.org.code == code && j.answer.isNone)

/-- The answers that were due before this step are placed, except during re-execution (R68, R82). -/
def placeDue (before s : State) : State :=
  if s.absorb.reexecuting then s
  else before.mail.jobs.foldl (fun t j =>
    match j.answer, jobOf t j.org with
    | some (st, data), some k => if k.answer.isSome then answerJob j.org st data t else t
    | _, _ => t) s

/-- What a command's handler decides: its final answer now, or the command goes on as the job it added. -/
inductive Res where
  | done (status : Nat) (data : List Byte) (s : State)
  | later (s : State)

/-- Codes accepted on S0 (R70; in RECOVERY, R491). -/
def onS0 (s : State) (code : Nat) : Bool :=
  code / 256 == 0 || (s.sys.mode == .recovery && match cmdOf code with | some c => bitOf c.modes 2 | none => false)

/-- A tag outstanding on a sluice: its command is in progress, or its notice is not yet posted (R66, R77). -/
def tagOut (s : State) (d : Side) (n tag : Nat) : Bool :=
  s.mail.jobs.any (fun j => j.org.side == d && j.org.sluice == n && j.org.tag == tag) ||
    s.mail.notices.any (fun q => q.side == d && q.sluice == n && q.tag == tag)

/-- Class BACKGROUND of a code. -/
def isBg (code : Nat) : Bool := match cmdOf code with | some c => c.cls == .background | none => false

/-- BACKGROUND commands outstanding on the sluices that `p` names: in a window and not yet served, in progress, or with a
notice not yet posted (R69). -/
def bgCount (s : State) (p : Side → Nat → Bool) : Nat :=
  (s.mail.jobs.filter (fun j => j.org.bg && p j.org.side j.org.sluice)).length +
    (s.mail.notices.filter (fun q => p q.side q.sluice)).length +
    (s.mail.sluices.filter (fun e => match e.2.owner, e.2.held with
      | some d, some q => isBg q.code && p d (if e.1 < 16 then e.1 else 0) | _, _ => false)).length

/-- Staging that segmented requests have reserved (R72). -/
def stagingUsed (s : State) : Nat :=
  s.mail.sluices.foldl (fun a e => match e.2.held with | some q => if q.flags % 2 = 1 then a + q.length else a | none => a) 0

/-- Order of service (R70): S0, an URGENT FAST command, the rest. -/
def serviceRank (n code flags : Nat) : Nat :=
  if n = 0 then 0
  else if bitOf flags 3 && (match cmdOf code with | some c => c.cls == .fast | none => false) then 1 else 2

/-- How many turns a sluice of S1–S15 still is from being served: the one after the last served has the next turn (R70). -/
def turnOf (s : State) (n : Nat) : Nat := (n + 31 - s.mail.turn) % 16

/-- A request waits in some window that is served before one of that rank on sluice `n`: it has a lower rank, or, beside others
without URGENT, an earlier turn (R70). -/
def behind (s : State) (n rank : Nat) : Bool :=
  s.mail.sluices.any (fun e => match e.2.held with
    | some q =>
      let m := if e.1 < 16 then e.1 else 0
      let r := serviceRank m q.code q.flags
      q.whole && (r < rank || (r == 2 && rank == 2 && turnOf s m < turnOf s n))
    | none => false)

/-- Commands of a session-0 datagram; in RECOVERY, the loader's (spec/13 R462; spec/14 R491). -/
def guestMay (s : State) (code : Nat) : Bool :=
  if s.sys.mode = .recovery then (match cmdOf code with | some c => bitOf c.modes 2 | none => false)
  else code = 0x0C01 || code = 0x0C02

/-- The command of a code; an XSR7-BP1 has no audit trail and no legal identification, and does not know their commands
(spec/00_scope.md R4; spec/06_watermark.md R257). -/
def knownCmd (s : State) (code : Nat) : Option CmdRow :=
  if !s.sys.legal && (code = 0x0601 || code = 0x0609) then none else cmdOf code

/-- The checks of R66 on a first or only segment, in order; the first failure's status. `length` is the header's;
`first` says that its segment index is 0. DESIGN CHOICE: that a side has no notice sluice for a BACKGROUND command (R69) is
found where the sluice is checked, before tag, length and mode (notes/assumptions/159.md). -/
def headerCheck (s : State) (d : Side) (n code tag flags credit length : Nat) (seg first : Bool) : Option Nat :=
  if flags ≥ 16 || credit != 0 then some sBADOBJ
  else match knownCmd s code with
    | none => some sUNKNOWN
    | some c =>
      if isGuest d && !guestMay s code then some sAUTH
      else if (n = 0 && !isGuest d && !onS0 s code) || (n != 0 && c.cls == .abort) then some sBADOBJ
      else if c.cls == .background && (noticeSluice s d).isNone then some sBADOBJ
      else if tagOut s d n tag then some sBADOBJ
      else if length > 1048576 || (!seg && length > segRoom s d n) || !c.lenOk length then some sBADLEN
      else if !bitOf c.modes (modeCode s.sys.mode) then some sWRONGMODE
      else if !first then some sSEGORDER
      else if c.cls == .background && (bgCount s (fun x m => x == d && m == n) ≥ 4 || bgCount s (fun _ _ => true) ≥ 32) then some sBUSY
      else if seg && Config.stagingBytes < stagingUsed s + length then some sBUSY
      else none

/-- The final answer of a request that is still being gathered or waits to be served (R66, R73, R78). -/
def endHeld (d : Side) (n : Nat) (q : Held) (status : Nat) (s : State) : State :=
  place { side := d, sluice := n % 16, tag := q.tag, code := q.code, flags := q.flags } status [] s

/-- The answer or the work that a handler decided. -/
def settleRes (o : Org) : Res → State
  | .done status data s => place o status data s
  | .later s => if o.bg then placePending o s else s

/-- Evver takes a window: BUSY, and segments of an answer not yet posted are dropped (R62). -/
def takeWindow (d : Side) (n : Nat) (s : State) : State :=
  modSluice (slKey d n) (fun sl => { sl with st := .busy, rest := none, notify := false }) s

/-- A frame while HRDY is low: NOT_READY once it rises (R57). In VAULT there is nobody to see it. -/
def lateFrame (d : Side) (s : State) : State :=
  match d with
  | .spi => if s.sys.mode = .vault then s else modHif d (fun h => { h with notReady := true }) s
  | _ => s

/-- The host interface is served: HRDY, or the ROM recovery loader (R82; spec/14_freshet.md R491). -/
def served (s : State) : Bool := s.sys.ready || s.sys.mode == .recovery

/-- The ROM recovery loader serves one command at a time (spec/14_freshet.md R491). -/
def romBusy (s : State) : Bool := s.sys.mode == .recovery && !s.mail.jobs.isEmpty

/-- A request of a rank is not served yet: re-execution or last gasp is under way, another goes before it, or the ROM is at
work on one (R70, R82; spec/18_power_reservoir_thermal.md R568). -/
def waits (s : State) (n rank : Nat) : Bool := s.absorb.reexecuting || s.power.lastGasp || behind s n rank || romBusy s

/-- The request of sluice `n` has its turn (R70). -/
def takeTurn (n rank : Nat) (s : State) : State := onMail (fun m => if rank = 2 then { m with turn := n } else m) s

/-- A request that its window does not hold at once is one of segments (R71). -/
def segmented (r : Req) (s : State) : Bool := segRoom s r.side r.sluice < r.payload.length

/-- The segments of a request that came as datagrams are known by their tag, so that a repeat is not executed again (R84). -/
def heardTag (r : Req) (s : State) : State :=
  onMail (fun m =>
    match r.side with
    | .udp _ =>
      { m with
        sluices := tmod m.sluices (slKey r.side r.sluice) (fun sl =>
          { sl with
            lastTag := some r.tag, lastAnswer := [], early := [],
            lastSegs := List.range (max 1 ((r.payload.length + segRoom s r.side r.sluice - 1) / segRoom s r.side r.sluice)) }) }
    | _ => m) s

/-- A command is served (notes/assumptions/16.md): a request already taken by a doorbell, or one whose window write and
doorbell this row stands for. While a request waits, its doorbell is accepted and it is served afterwards (R70, R82). -/
def serve (code : Nat) (h : Org → List Byte → State → Res) (r : Req) (s : State) : State :=
  if !served s then lateFrame r.side s
  else match ownSluice s r.side r.sluice with
    | none => hifErr r.side 0 s
    | some sl =>
      let o : Org := { side := r.side, sluice := r.sluice % 16, tag := r.tag, code := code, flags := r.flags, bg := isBg code }
      match sl.st with
      | .closed => hifErr r.side 0 s
      | .busy =>
        match sl.held with
        | some q =>
          if q.whole && q.code == code && q.tag == r.tag && q.data == r.payload then
            let rank := serviceRank o.sluice code q.flags
            if waits s o.sluice rank then s
            else settleRes { o with flags := q.flags }
              (h { o with flags := q.flags } r.payload
                (takeTurn o.sluice rank (modSluice (slKey r.side r.sluice) (fun sl => { sl with held := none }) s)))
          else hifErr r.side 1 s
        | none => hifErr r.side 1 s
      | _ =>
        if sl.role = 1 then hifErr r.side 1 s
        else
          let s1 := heardTag r (takeWindow r.side r.sluice s)
          let rank := serviceRank o.sluice code r.flags
          match sl.held, headerCheck s o.side o.sluice code r.tag r.flags 0 r.payload.length (segmented r s) true with
          | some q, _ => endHeld r.side r.sluice q (if r.flags ≥ 16 then sBADOBJ else sSEGORDER) s1
          | none, some st => place o st [] s1
          | none, none =>
            if waits s o.sluice rank then
              let q : Held := { code := code, tag := r.tag, flags := r.flags, length := r.payload.length, data := r.payload }
              modSluice (slKey r.side r.sluice) (fun sl => { sl with held := some q }) s1
            else settleRes o (h o r.payload (takeTurn o.sluice rank s1))

/-- A bit of a word set or cleared. -/
def setBit {k : Nat} (i : Nat) (on : Bool) (w : BitVec k) : BitVec k :=
  if on then w ||| BitVec.ofNat k (2 ^ i) else w &&& ~~~(BitVec.ofNat k (2 ^ i))

/-- Device time as slewed outputs see it: the output latch holds them still (spec/01_one_view.md R40). -/
def heldTime (s : State) (t : Nat) : Nat := if s.absorb.latch then min t s.absorb.latchSince else t

end Sys2Proof.Machine
end

