-- ==== Sys2Proof/Machine/StnOps.lean ====
section
/-! DEFINITION. Stations: the fields of STATION and ZONE objects, and the station value table
(spec/03_configuration.md R99–R104, R132), and the installed images (spec/00_scope.md R2). -/

namespace Sys2Proof.Machine

/-! The installed images. -/

/-- The Evver and the Watermark image installed at manufacture: Evver 3.4 and Watermark 1.2 with their patches, the formats of
schema 7, digests that no text gives, and arb 0. DESIGN CHOICE: the Evver image fills its NOR region, and there is no other image
(spec/00_scope.md R2; notes/assumptions/10.md). -/
def factoryImg (s : State) (kind : Nat) : Img :=
  match kind with
  | 1 => { kind := 1, targets := 3, version := [3, 4, s.sys.evverPatch], length := 29360128, blocks := 448, minSchema := 7, schema := 7,
           digest := fit 32 Config.evverDigest }
  | 3 => { kind := 3, targets := 3, version := [1, 2, s.sys.wmPatch], minSchema := Config.paramSchema, schema := Config.paramSchema,
           digest := fit 32 Config.firmwareDigest }
  | _ => {}

/-- The installed image of a kind. -/
def installedImg (s : State) (kind : Nat) : Img := (tfind s.fsh.installed kind).getD (factoryImg s kind)

/-- Version of the installed Evver (spec/00_scope.md R2). -/
def evverVersion (s : State) : List Nat := (installedImg s 1).version

/-- The configuration schema of the running Evver: 7 in Evver 3.4, and what its header says in a later image
(spec/03_configuration.md R120; spec/14_freshet.md R490). -/
def runSchema (s : State) : Nat := (installedImg s 1).schema

/-! The STATION body (R100). An absent or disabled station has an empty body, and type 0. -/

def stn (s : State) (n : Nat) : List Byte := bodyOf s 2 n
def stnType (s : State) (n : Nat) : Nat := g2 (stn s n) 0
def stnZone (s : State) (n : Nat) : Nat := if (stn s n).isEmpty then 0xFF else g1 (stn s n) 2
def stnSampleMode (s : State) (n : Nat) : Nat := g1 (stn s n) 3
def stnKind (s : State) (n : Nat) : Nat := g1 (stn s n) 4
def stnTerms (s : State) (n : Nat) : List Nat := (List.range (g1 (stn s n) 5)).map (fun i => g1 (stn s n) (6 + i))
def stnTerm (s : State) (n : Nat) : Nat := g1 (stn s n) 6
def stnPeriod (s : State) (n : Nat) : Nat := g4 (stn s n) 16
def stnSafe (s : State) (n : Nat) : Int := i4 (stn s n) 20
def stnLo (s : State) (n : Nat) : Int := i4 (stn s n) 24
def stnHi (s : State) (n : Nat) : Int := i4 (stn s n) 28
/-- The type part. -/
def stnPart (s : State) (n : Nat) : List Byte := (stn s n).drop 64

/-- Enabled stations that satisfy a test, in rising order. -/
def stationsBy (s : State) (p : Nat → Bool) : List Nat :=
  (List.range 128).filter (fun n => !(stn s n).isEmpty && p n)

def stationsOfType (s : State) (t : Nat) : List Nat := stationsBy s (fun n => stnType s n == t)

/-- The station that a terminal belongs to (R106). -/
def stationAt (s : State) (kind term : Nat) : Option Nat :=
  firstNat 128 (fun n => !(stn s n).isEmpty && stnKind s n == kind && (stnTerms s n).contains term)

/-! The ZONE body (R103). -/

def zon (s : State) (z : Nat) : List Byte := bodyOf s 3 z
def zoneType (s : State) (z : Nat) : Nat := g1 (zon s z) 0
def zoneFelt (s : State) (z : Nat) : Nat := g1 (zon s z) 1
def zoneAck (s : State) (z : Nat) : Bool := g1 (zon s z) 2 == 1
def zoneAuto (s : State) (z : Nat) : Bool := g1 (zon s z) 3 == 1
def zoneParcelLen (s : State) (z : Nat) : Nat := g4 (zon s z) 4
def zoneProg (s : State) (z : Nat) : Nat := g1 (zon s z) 8
/-- The programme part. -/
def zonePart (s : State) (z : Nat) : List Byte := (zon s z).drop 32
def zonePresent (s : State) (z : Nat) : Bool := !(zon s z).isEmpty

/-- Zones of the active configuration. -/
def zonesOn (s : State) : List Nat := (List.range 16).filter (fun z => zonePresent s z)

/-- A zone is running in every state other than IDLE (spec/01_one_view.md R29). -/
def zoneRunning (s : State) (z : Nat) : Bool := (tget s.zones z).st != 0

/-- A station belongs to a running zone. -/
def inRunningZone (s : State) (n : Nat) : Bool := stnZone s n < 16 && zoneRunning s (stnZone s n)

/-! The DEVICE body (R99). -/

def device (s : State) : List Byte := bodyOf s 1 0
def plantAddr (s : State) : Nat := g1 (device s) 0
def appEnable (s : State) : Bool := g1 (device s) 1 == 1
def wakeFio (s : State) (n : Nat) : Bool := bitOf (g4 (device s) 8) n
def wakeBus (s : State) : Nat := g1 (device s) 12

/-! The value table. -/

/-- ALARM_LO and ALARM_HI of a value, at the type's bit positions. -/
def alarmBits (s : State) (n : Nat) (v : Int) (loBit hiBit : Nat) : Nat :=
  (if stnLo s n != -2147483648 && v ≤ stnLo s n then 2 ^ loBit else 0) +
    (if stnHi s n != 2147483647 && v ≥ stnHi s n then 2 ^ hiBit else 0)

/-- A station publishes (R132); the latest valid value is kept beside it. -/
def publish (n flags : Nat) (v aux : Int) (t : Nat) (s : State) : State :=
  { s with
    stn := { s.stn with
      vals := tset s.stn.vals n
        { published := true, flags := flags, value := v, aux := aux, time := t,
          good := if v = invalidValue then (tget s.stn.vals n).good else some v } } }

/-- The published value of a station; the invalid value where there is none. -/
def valueOf (s : State) (n : Nat) : Int :=
  let v := tget s.stn.vals n
  if v.published then v.value else invalidValue

def validOf (s : State) (n : Nat) : Bool := valueOf s n != invalidValue

end Sys2Proof.Machine
end

