-- ==== Sys2Proof/Machine/BusOps.lean ====
section
/-! DEFINITION. Priority bus: channel and object fields, pending frames, outcomes, failover, drive references, the safe
state of source-1 objects (spec/12_priority_bus.md R419–R446). Channels are 0–3 for Bus A–D. -/

namespace Sys2Proof.Machine

def chBody (s : State) (c : Nat) : List Byte := bodyOf s 5 c
def chOn (s : State) (c : Nat) : Bool := !(chBody s c).isEmpty
def listenOnly (s : State) (c : Nat) : Bool := g1 (chBody s c) 0 == 1
def chFd (s : State) (c : Nat) : Bool := g1 (chBody s c) 1 == 1
def objMode (s : State) (c : Nat) : Bool := g1 (chBody s c) 2 == 1
def partnerOf (s : State) (c : Nat) : Nat := g1 (chBody s c) 16
def autoFailback (s : State) (c : Nat) : Bool := g1 (chBody s c) 17 == 1
def autoRecover (s : State) (c : Nat) : Bool := g1 (chBody s c) 18 == 1
def timeRole (s : State) (c : Nat) : Nat := g1 (chBody s c) 20
def masterPrio (s : State) (c : Nat) : Nat := g1 (chBody s c) 21
def cycleMs (s : State) (c : Nat) : Nat := g2 (chBody s c) 22

/-- Identifier fields: bit 31 extended, bits 28–0 the identifier. -/
def identExt (w : Nat) : Bool := bitOf w 31
def identBits (w : Nat) : Nat := w % 536870912
def identWord (ident : Nat) (ext : Bool) : Nat := ident + (if ext then 2147483648 else 0)

def refIdent (s : State) (c : Nat) : Nat := g4 (chBody s c) 24
def feltIdent (s : State) (c : Nat) : Nat := g4 (chBody s c) 28
def handoffOn (s : State) (c : Nat) : Bool := g1 (chBody s c) 32 == 1
def handoffIdent (s : State) (c : Nat) : Nat := g4 (chBody s c) 36

/-- Object entries of a channel (R420). -/
def objEntries (s : State) (c : Nat) : List (List Byte) := chunks 16 (g1 (chBody s c) 19) ((chBody s c).drop 96)

/-- Entry of a pool number on a channel, and the channel a pool number is on. -/
def objEntry (s : State) (c k : Nat) : Option (List Byte) := (objEntries s c).find? (fun e => g1 e 0 == k)
def objChan (s : State) (k : Nat) : Option Nat := firstNat 4 (fun c => chOn s c && (objEntry s c k).isSome)
def entSend (e : List Byte) : Bool := g1 e 1 == 0
def entLen (e : List Byte) : Nat := g1 e 3
def entIdent (e : List Byte) : Nat := g4 e 4

def ch (s : State) (c : Nat) : Chn := tget s.bus.chans c
def modCh (c : Nat) (f : Chn → Chn) (s : State) : State := onBus (fun b => { b with chans := tmod b.chans c f }) s
def modObj (k : Nat) (f : BusObj → BusObj) (s : State) : State := onBus (fun b => { b with objs := tmod b.objs k f }) s

/-- The identifier words of this device's own internal frames on a channel (R434, R436, R438, R440). -/
def ownIdents (s : State) (c : Nat) : List Nat :=
  (if timeRole s c = 1 then [refIdent s c + masterPrio s c] else []) ++
    (if timeRole s c != 0 then [feltIdent s c + plantAddr s] else []) ++
    (if handoffOn s c then (List.range 16).map (fun z => handoffIdent s c + plantAddr s * 16 + z) else [])

/-- Bit times of a channel in CAN clocks of 12.5 ns (R423). -/
def nomBit (s : State) (c : Nat) : Nat := g2 (chBody s c) 4 * (1 + g2 (chBody s c) 6 + g1 (chBody s c) 8)
def dataBit (s : State) (c : Nat) : Nat := g1 (chBody s c) 10 * (1 + g1 (chBody s c) 11 + g1 (chBody s c) 12)

/-- The Bus D counter at a device time: 80 MHz from BOOT (R439). -/
def sofAt (c t : Nat) : Nat := if c = 3 then t * 2 / 25 else 0

/-- Where a channel's frames go now: the partner while failed over (R432). -/
def effChan (s : State) (c : Nat) : Nat := (ch s c).failedTo.getD c

/-- At most 64 outcome records for a BUS_TX_WAIT notice (R445). -/
def txRecord (o : TxOut) : List Byte :=
  p4 o.handle ++ p4 o.cookie ++ p2 o.status ++ p1 o.chan ++ p1 (b01 o.moved) ++ zeros 4 ++ p8 o.eof ++ p8 o.sof

/-- A waiting BUS_TX_WAIT of a side is answered once its queue is non-empty. -/
def serveTxWait (d : Side) (s : State) : State :=
  let q := tget s.bus.queues (sideIx d)
  match (waitingJobs s 0x0B02).find? (fun j => j.org.side == d) with
  | some j =>
    if q.tx.isEmpty then s
    else
      let now := q.tx.take 64
      finish j.org sOK (p2 now.length ++ p2 (min q.txLost 65535) ++ now.flatMap txRecord)
        (onBus (fun b => { b with queues := tset b.queues (sideIx d) { q with tx := q.tx.drop 64, txLost := 0 } }) s)
  | none => s

/-- The side is there: a host side, or an open session. -/
def sideOpen (s : State) (d : Side) : Bool := match d with | .udp k => (tfind s.net.sessions k).isSome | _ => true

/-- An outcome of an accepted frame enters its side's queue, 512 deep (R426). -/
def txOutcome (f : TxFrame) (status chan eof sof : Nat) (s : State) : State :=
  match f.side with
  | none => s
  | some d =>
    if f.what > 1 || f.handle = 0 || !(f.report || status = sDEFERRED) || !sideOpen s d then s
    else
      let q := tget s.bus.queues (sideIx d)
      let o : TxOut :=
        { handle := f.handle, cookie := f.cookie, status := status, chan := chan, moved := f.moved, eof := eof, sof := sof }
      if q.tx.length < 512 then
        serveTxWait d (onBus (fun b => { b with queues := tset b.queues (sideIx d) { q with tx := q.tx ++ [o] } }) s)
      else note 0x0B13 [sideCode d, q.txLost + 1]
        (onBus (fun b => { b with queues := tset b.queues (sideIx d) { q with txLost := q.txLost + 1 } }) s)

/-- Host frames in the three buffers of a channel. -/
def buffered (s : State) (c : Nat) : List TxFrame := (ch s c).pending.filter (fun f => f.what == 0)

/-- Lowest free buffer number (R424). -/
def freeSlot (s : State) (c : Nat) : Nat :=
  (firstNat 3 (fun i => !(buffered s c).any (fun f => f.slot == i))).getD 0

/-- A frame becomes pending on a channel. -/
def pend (c : Nat) (f : TxFrame) (s : State) : State :=
  modCh c (fun k => { k with pending := k.pending ++ [{ f with offeredAt := s.sys.devTime }] }) s

/-- A host frame takes the lowest free buffer, or the overflow list where all three are pending; any other frame is pending
in its object (R424, R425, R432). -/
def putFrame (c : Nat) (f : TxFrame) (s : State) : State :=
  if f.what != 0 then pend c f s
  else if (buffered s c).length < 3 then pend c { f with slot := freeSlot s c } s
  else modCh c (fun k => { k with overflow := k.overflow ++ [f] }) s

/-- Overflow frames enter buffers as they free (R432). -/
def refill (c : Nat) (s : State) : State :=
  match (ch s c).overflow with
  | [] => s
  | f :: r => if (buffered s c).length < 3 then putFrame c f (modCh c (fun k => { k with overflow := r }) s) else s

/-- Order of arbitration: the lower key wins; a standard frame wins over an extended one with its base identifier (R424). -/
def prioKey (f : TxFrame) : Nat := if f.ext then f.ident * 2 + 1 else f.ident * 524288

/-- The first frame of a list with the least key. -/
def leastFrame (key : TxFrame → Nat) : List TxFrame → Option TxFrame
  | [] => none
  | f :: r => match leastFrame key r with | some g => if key g < key f then some g else some f | none => some f

/-- The frame that a channel offers at a device time: of its buffers the one that triple_order chooses, and among that one and
the objects the lowest identifier (R424, R425). -/
def offered (s : State) (c t : Nat) : Option TxFrame :=
  let fs := (ch s c).pending.filter (fun f => decide (f.offeredAt ≤ t))
  let hosts := fs.filter (fun f => f.what == 0)
  let byNumber := !objMode s c && g1 (chBody s c) 3 == 1
  let host := leastFrame (if byNumber then (·.slot) else prioKey) hosts
  leastFrame prioKey (host.toList ++ fs.filter (fun f => f.what != 0))

/-- The frame of a channel that is on the wire now, or is found there: the one that the channel offers may be in arbitration, and
win it, or not yet; which of the two no rule says, so it is a free choice (R433, R447; notes/assumptions/173.md). -/
def onWireNow (s : State) (c : Nat) (f : TxFrame) : Bool :=
  f.onWire || (offered s c s.sys.devTime == some f && (ch s c).st != 0 && (ch s c).st < 4 && Config.freeNat s.fresh % 2 == 1)

/-- The send object `k` of channel `c` is pending, wherever its frames go now. -/
def objPending (s : State) (c k : Nat) : Bool := (ch s (effChan s c)).pending.any (fun f => f.what == 1 && f.slot == k)

/-- A send object's data becomes pending; a copy still pending takes the latest data (R425). -/
def sendObj (c k : Nat) (f0 : TxFrame) (s : State) : State :=
  match objEntry s c k with
  | none => s
  | some e =>
    let t := effChan s c
    let data := (tget s.bus.objs k).data
    let f : TxFrame :=
      { f0 with
        home := c, slot := k, what := 1, fmt := g1 e 2, ident := identBits (entIdent e), ext := identExt (entIdent e),
        data := fit (entLen e) data, moved := t != c, accepted := s.sys.devTime }
    if objPending s c k then
      modCh t (fun x => { x with pending := x.pending.map (fun g =>
        if g.what = 1 && g.slot = k then { g with data := f.data } else g) }) s
    else pend t f s

/-- Channels work in these modes (R442). -/
def busUp (s : State) (c : Nat) : Bool :=
  !stopping s && !pllDown s 1 && stillOpen s (if c < 2 then 9 else 10) &&
    (match s.sys.mode with | .commission | .run | .hold | .still => true | _ => false)

/-- Drive reference of a COLUMN zone: reference and command, sent on each change (R425). -/
def driveRef (k ref cmd : Nat) (s : State) : State :=
  match objChan s k with
  | none => s
  | some c =>
    match objEntry s c k with
    | none => s
    | some e =>
      let data := fit (entLen e) (p2 ref ++ p1 cmd)
      if fit (entLen e) (tget s.bus.objs k).data = data then s
      else
        let s1 := modObj k (fun o => { o with data := data }) s
        if (ch s c).st = 0 then s1 else sendObj c k {} s1

/-- Every channel starts as configured, its counters at 0; after ICE a channel that had failed over waits for its return as one
that has recovered (R433, R442). -/
def busStart (s : State) : State :=
  [0, 1, 2, 3].foldl (fun t c => modCh c (fun k =>
    { k with
      st := if chOn t c then 1 else 0, tec := 0, rxErr := 0, sending := false, master := none,
      prevEof := none, myPrevEof := none, refMissing := false, bitErrors := [], latched := [],
      activeSince := t.sys.devTime }) t) s

/-- Every channel is off (R442). A pending frame stays until it is sent, cancelled or moved (R424), and the receive rings stand in
DRAM, which ICE keeps (R427; 01_one_view.md R45). -/
def busOff (s : State) : State :=
  [0, 1, 2, 3].foldl (fun t c => modCh c (fun k => { k with st := 0, sending := false }) t) s

/-- A reconfiguring commit withdraws every pending frame (R426); the objects start anew with it (R118). The rings keep what
has not been drained (R427). -/
def busReconfigure (s : State) : State :=
  let s1 := [0, 1, 2, 3].foldl (fun t c =>
    modCh c (fun k => { k with pending := [], overflow := [], failedTo := none })
      (((ch t c).pending ++ (ch t c).overflow).foldl (fun u f => txOutcome f sABORTED c 0 0 u) t)) s
  busStart (onBus (fun b => { b with objs := [] }) (busOff s1))

/-- A parcel record offered downstream by hand-off frame (R440). -/
def sendHandoff (zone parcel : Nat) (record : List Byte) (s : State) : State :=
  match firstNat 4 (fun c => chOn s c && handoffOn s c) with
  | none => s
  | some c =>
    let w := handoffIdent s c + plantAddr s * 16 + zone
    let t := effChan s c
    let f : TxFrame :=
      { home := c, what := 4, fmt := if dataBit s c < nomBit s c then 3 else 1, ident := identBits w, ext := true, data := fit 64 record, moved := t != c,
        accepted := s.sys.devTime, parcel := parcel, slot := zone }
    pend t f s

end Sys2Proof.Machine
end

