-- ==== Sys2Proof/Machine/FeltOps.lean ====
section
/-! DEFINITION. Felts and wheels: movement, derived felts, the position mirror, placing and removing entries, outcomes
(spec/04_felt_time.md R133–R157, R172–R175). A felt is named 0–7; an Encoder station s shares the same record under
0x100 + s (R177). -/

namespace Sys2Proof.Machine

/-! The FELT body (R143). -/

def fbody (s : State) (f : Nat) : List Byte := bodyOf s 4 f
def feltOn (s : State) (f : Nat) : Bool := !(fbody s f).isEmpty
def feltSource (s : State) (f : Nat) : Nat := g1 (fbody s f) 0
/-- Slot width, of a disabled felt too (R175). -/
def slotK (s : State) (f : Nat) : Nat := g1 (objBody s 4 f) 3
def feltNum (s : State) (f : Nat) : Int := i4 (fbody s f) 28
def feltDen (s : State) (f : Nat) : Nat := g4 (fbody s f) 32
def srcFelt (s : State) (f : Nat) : Nat := g1 (fbody s f) 24
def wakeDistance (s : State) (f : Nat) : Nat := g4 (fbody s f) 36

/-- Felts count in COMMISSION, RUN, HOLD and STILL: not in ICE, nor in BOOT-lite after it (01_one_view.md R45; 11_field_io.md
R394). -/
def feltsCount (s : State) : Bool :=
  match s.sys.mode with | .commission | .run | .hold | .still => true | _ => false

def felt (s : State) (f : Nat) : Felt := tget s.felt.felts f
def modFelt (f : Nat) (g : Felt → Felt) (s : State) : State := onFelt (fun x => { x with felts := tmod x.felts f g }) s

/-- Mode and invert of an encoder source (R138, R146). -/
def encMode (s : State) (src : Nat) : Nat := if src < 8 then g1 (fbody s src) 1 else g1 (stnPart s (src - 256)) 0
def encInvert (s : State) (src : Nat) : Bool :=
  if src < 8 then bitOf (g1 (fbody s src) 2) 0 else bitOf (g1 (stnPart s (src - 256)) 1) 0

/-- FIO channels of an encoder source: A, and B where its mode has one (R106, R138, R146). -/
def encChans (s : State) (src : Nat) : List Nat :=
  if src < 8 then (if encMode s src = 2 then [2 * (src - 2)] else [2 * (src - 2), 2 * (src - 2) + 1]) else stnTerms s (src - 256)

/-- Zones bound to a felt (R28). -/
def zonesOf (s : State) (f : Nat) : List Nat := (zonesOn s).filter (fun z => zoneFelt s z == f)

/-- FELTn_STATE (R148). -/
def feltState (s : State) (f : Nat) : Nat :=
  let x := felt s f
  x.jumps % 65536 * 65536 + x.state.toNat % 1024 / 2 * 2 + b01 (feltOn s f || f == 0)

def entriesOn (s : State) (f : Nat) : List Entry := s.felt.entries.filter (fun e => e.felt == f)

/-- FELTn_ENTRIES (R148). -/
def feltEntries (s : State) (f : Nat) : Nat :=
  let es := entriesOn s f
  (es.filter (·.spilled)).length * 65536 + min es.length 65535

/-- The eight mirror words of a felt (R148). -/
def mirror (s : State) (f : Nat) : List Nat :=
  let x := felt s f
  [w32 x.pos, feltState s f, u32 x.rate, u32 x.lastJump, x.time % 4294967296, x.time / 4294967296 % 4294967296,
    feltEntries s f, 0]

/-- Entries that a forward movement from `c` by `d` reaches become due (R151, R152). -/
def markDue (f c : Nat) (d : Int) (s : State) : State :=
  onFelt (fun x =>
    { x with
      updates := x.updates + 1,
      entries := x.entries.map (fun e =>
        if e.felt = f && !e.due && 0 < posDist c e.pos && posDist c e.pos ≤ d then { e with due := true, batch := x.updates + 1 }
        else e) }) s

/-- Flags of the parcels of the zones on a felt: `b` for the open one or, with `all`, for every one. -/
def flagParcels (f : Nat) (mask : BitVec 16) (all : Bool) (s : State) : State :=
  (zonesOf s f).foldl (fun t z => onFelt (fun x =>
    { x with
      parcels := tset x.parcels z ((tget x.parcels z).map (fun p =>
        if all || p.flags.getLsbD 0 then { p with flags := p.flags ||| mask } else p)) }) t) s

/-! The rate (R134; notes/assumptions/140.md). -/

/-- The counts younger than the longest span the rate is measured over. -/
def youngCounts (cap now : Nat) (h : List (Nat × Int)) : List (Nat × Int) := h.filter (fun e => now - e.1 < cap)

/-- The age in ns of the count that the last 64 counts follow, where there is one, of `h`, newest first; `n` is how many
followed already. -/
def spanOf64 (now : Nat) : Nat → List (Nat × Int) → Option Nat
  | _, [] => none
  | n, (t, d) :: r => if 64 ≤ n then some (now - t) else spanOf64 now (n + d.natAbs) r

/-- The time the rate is measured over: that of the last 64 counts or 100 ms, whichever is longer, and at most `cap`. -/
def rateSpan (cap now : Nat) (h : List (Nat × Int)) : Nat :=
  match spanOf64 now 0 (youngCounts cap now h) with
  | some t => min cap (max t 100000000)
  | none => cap

/-- The rate in milli-counts/s, over at most `cap` ns. -/
def measuredRate (cap now : Nat) (h : List (Nat × Int)) : Int :=
  let span := rateSpan cap now h
  ((youngCounts span now h).foldl (fun a e => a + e.2) 0) * 1000000000000 / ((max 1 span : Nat) : Int)

/-- The longest span: the stall time of a felt, 1,000 ms for an Encoder station (R146). -/
def rateCap (s : State) (f : Nat) : Nat := if f < 8 then g4 (fbody s f) 8 * 1000000 else 1000000000

/-- The accumulator of R140: the counts of a derived or remote felt for a change `d` of its source. -/
def scaled (s : State) (f : Nat) (d : Int) : Int × Nat :=
  let acc : Int := (felt s f).rem + d * feltNum s f
  let den : Int := max 1 (feltDen s f)
  (acc / den, (acc % den).toNat)

/-- A rate of the source of a derived or remote felt in its own counts. -/
def scaledRate (s : State) (f : Nat) (rate : Int) : Int := rate * feltNum s f / (max 1 (feltDen s f) : Nat)

/-- The felt is F0, or derives from it: it counts device time (R135, R136). -/
def countsTime (s : State) (f : Nat) : Bool :=
  let src := fun g => if feltOn s g && feltSource s g == 3 then srcFelt s g else g
  f == 0 || (f < 8 && src (src f) == 0)

/-- Counts are noted and the rate follows from them; device time itself runs at 10⁶ counts/s. -/
def countRate (f : Nat) (d : Int) (s : State) : State :=
  let now := s.sys.devTime
  if f = 0 then modFelt 0 (fun x => { x with rate := 1000000000 }) s
  else if countsTime s f then
    let r := scaledRate s f (felt s (srcFelt s f)).rate
    modFelt f (fun x => { x with rate := r }) s
  else
    let cap := rateCap s f
    modFelt f (fun x =>
      let h := youngCounts cap now ((now, d) :: x.hist)
      { x with hist := h, rate := measuredRate cap now h }) s

/-- One update of a felt by `d` counts (R134, R151, R159). -/
def moveOne (f : Nat) (d : Int) (s0 : State) : State :=
  let s := countRate f d s0
  let x := felt s f
  let rate := x.rate
  let now := s.sys.devTime
  let pos := u32 (x.pos + d)
  let crawl := g4 (fbody s f) 12
  let limit := g4 (fbody s f) 16
  let stopped := x.state.getLsbD 1
  let back := if d < 0 then x.back + d.natAbs else 0
  let far := d < 0 && (x.state.getLsbD 4 || back > limit)
  let turn := if x.back = 0 then x.pos else x.turnPos
  let st := setBit 1 false (setBit 2 (crawl != 0 && rate.natAbs < crawl) (setBit 3 (d < 0) (setBit 4 far x.state)))
  let s1 := modFelt f (fun y =>
    { y with pos := pos, time := now, state := st, back := back, turnPos := turn }) s
  let s2 := if stopped && f < 8 then note 0x0411 [f, nsMs (now - x.stoppedAt)] s1 else s1
  let s3 := if far && !x.state.getLsbD 4 then note 0x0412 [f, turn, back] s2 else s2
  if d < 0 then flagParcels f 0x40 false s3 else markDue f x.pos d s3

/-- Felts derived from `f`, nearest first: F6, then F7 (R135). -/
def derivedOf (s : State) (f : Nat) : List Nat :=
  [6, 7].filter (fun g => g > f && feltOn s g && feltSource s g == 3 && srcFelt s g == f)

/-- A felt moves, and every felt derived from it (R140). `fuel` bounds the chain F0–F5, F6, F7. -/
def moveFelt : Nat → Nat → Int → State → State
  | 0, f, d, s => moveOne f d s
  | fuel + 1, f, d, s =>
    (derivedOf s f).foldl (fun t g =>
      let (q, r) := scaled t g d
      let t1 := modFelt g (fun x => { x with rem := r }) t
      if q = 0 then t1 else moveFelt fuel g q t1) (moveOne f d s)

/-- A felt stops; felts derived from it stop with it (R140, R159). DESIGN CHOICE: where the source is lost, 0x0415 tells of it, and
a felt derived from it stops without a 0x0410 of its own, yet records 0x0411 as it counts again (notes/assumptions/165.md). -/
def stopFelt : Nat → Nat → Bool → State → State
  | 0, _, _, s => s
  | fuel + 1, f, told, s =>
    let x := felt s f
    let s1 := if x.state.getLsbD 1 then s
      else
        let s2 := modFelt f (fun y => { y with state := setBit 1 true (setBit 2 false y.state), rate := 0, hist := [], stoppedAt := s.sys.devTime }) s
        if told then note 0x0410 [f, x.pos] s2 else s2
    (derivedOf s f).foldl (fun t g => stopFelt fuel g told t) s1

/-- Calendar time goes on by `ns`, with at most 500 ppm of the correction being slewed (spec/13_line_uplink.md R460). -/
def advanceCal (ns : Nat) (s : State) : State :=
  let lim : Int := ((ns / 2 : Nat) : Int)
  let adj := clampInt (-lim) lim s.net.ptpSlew
  let total : Nat := ((s.sys.calPs + ns * 1000 : Nat) + adj : Int).toNat
  onNet (fun n => { n with ptpSlew := n.ptpSlew - adj })
    (onSys (fun y => { y with calTime := y.calTime + ((total / 1000000000 : Nat) : Int), calPs := total % 1000000000 }) s)

/-- Device time passes by `ns`: F0 and what derives from it count microseconds, calendar time milliseconds (R136). -/
def passTime (ns : Nat) (s : State) : State :=
  let t := s.sys.devTime + ns
  let us : Nat := t / 1000 - s.sys.devTime / 1000
  let s1 := advanceCal ns (onSys (fun y => { y with devTime := t }) s)
  if us = 0 then s1 else moveFelt 3 0 us s1

/-! The wheel. -/

def horizon (k : Nat) : Nat := 4095 * 2 ^ k
def slotOf (k p : Nat) : Nat := w32 p / 2 ^ k % 4096

/-- Spill-pool entries in use (R149). -/
def poolUsed (s : State) : Nat := (s.felt.entries.filter (·.spilled)).length

/-- Entries of a list in one slot at width `k`. -/
def inSlot (es : List Entry) (k i : Nat) : Nat := (es.filter (fun e => slotOf k e.pos == i)).length

/-- The fullest slot of a list of entries, and its count. -/
def worstSlot (es : List Entry) (k : Nat) : Nat × Nat :=
  es.foldl (fun a e => let n := inSlot es k (slotOf k e.pos); if n > a.2 then (slotOf k e.pos, n) else a) (0, 0)

/-- What a list of entries would spill at width `k`. -/
def spillAt (es : List Entry) (k : Nat) : Nat :=
  ((es.map (fun e => slotOf k e.pos)).eraseDups).foldl (fun a i => a + (inSlot es k i - 16)) 0

/-- The suggested width of R154. -/
def suggestedK (s : State) (f : Nat) : Nat :=
  let es := entriesOn s f
  let far := es.foldl (fun a e => max a (posDist (felt s f).pos e.pos)) 0
  let ks := (List.range 20).reverse
  match ks.find? (fun k => far ≤ (horizon k : Int) && spillAt es k == 0) with
  | some k => k
  | none => (ks.foldl (fun a k => let n := spillAt es k; if n < a.2 then (k, n) else a) (19, spillAt es 19)).1

/-- 0x0431 once above 1,536, again only after a fall below 1,024 (R154). -/
def checkSpill (s : State) : State :=
  let n := poolUsed s
  if n > 1536 && s.felt.spillArmed then
    let uses := (List.range 8).map (fun f => (f, ((entriesOn s f).filter (·.spilled)).length))
    let f := (uses.foldl (fun a u => if u.2 > a.2 then u else a) (0, 0)).1
    let w := worstSlot (entriesOn s f) (slotK s f)
    note 0x0431 [f, slotK s f, w.1, w.2, suggestedK s f] (onFelt (fun x => { x with spillArmed := false }) s)
  else if n < 1024 then onFelt (fun x => { x with spillArmed := true }) s
  else s

/-- The code of an entry's owner in 0x0432: a side's code, 0 for a programme. -/
def ownerCode : Owner → Nat
  | .side d => sideCode d
  | .programme _ => 0

/-- A request the spill pool has no room for (R155). The record tells of every refusal since the last record: those whose
record a limit withheld, or the queue lost, too (R177). -/
def wheelFull (e : Entry) (s : State) : State :=
  let n := s.felt.refused + 1
  let s1 := note 0x0432 [e.felt, ownerCode e.owner, n] s
  onFelt (fun x => { x with refused := if s1.ream.nextSeq = s.ream.nextSeq then n else 0 }) s1

/-- Room for an entry: inline, spilled, or none (R149, R155). -/
def roomFor (s : State) (e : Entry) : Option Bool :=
  let k := slotK s e.felt
  let inl := ((entriesOn s e.felt).filter (fun x => !x.spilled && slotOf k x.pos == slotOf k e.pos)).length
  if inl < 16 then some false else if poolUsed s < 2048 then some true else none

/-- An entry is placed with the next handle. DESIGN CHOICE: one that spilled stays in the pool, and counts there, until it ends,
though a place of its slot falls free (R149; notes/assumptions/163.md). -/
def putEntry (e : Entry) (spilled : Bool) (s : State) : State :=
  checkSpill (onFelt (fun x =>
    { x with
      entries := x.entries ++ [{ e with handle := x.nextHandle, spilled := spilled }],
      nextHandle := x.nextHandle % 4294967295 + 1 }) s)

/-- Peak phase that planning takes for a channel, µs (R376). -/
def planPeakUs (s : State) (c : Nat) : Nat :=
  match (tget s.valves.chans c).lastPeakUs with
  | some us => us
  | none => match stationAt s 5 c with | some n => g2 (stnPart s n) 48 + g2 (stnPart s n) 50 | none => 0

/-- Planning of R157: the bank's INJECT entries on the felt with the new one, in order of position; whether their peaks
need more deferral than allowed. -/
def overlapAtPlanning (s : State) (e : Entry) : Bool :=
  let c := stnTerm s e.station
  let part := stnPart s e.station
  let limit : Rat := if g1 part 53 = 1 then 0 else (if g2 part 54 = 0 then 2000 else g2 part 54 : Nat)
  let x := felt s e.felt
  let es := (entriesOn s e.felt).filter (fun y => y.kind == 4 && stnTerm s y.station / 4 == c / 4)
  let all := sortBy (fun a b => decide (posDist x.pos a.pos ≤ posDist x.pos b.pos)) (es ++ [e])
  let r := all.foldl (fun (a : Bool × Option (Int × Rat × Rat)) y =>
    let d := posDist x.pos y.pos
    let peak : Rat := (planPeakUs s (stnTerm s y.station) : Nat)
    match a.2 with
    | none => (a.1, some (d, 0, peak))
    | some (pd, off, stop) =>
      -- `off` is the time of the previous position, `stop` the end of the peaks so far, both from the first entry
      if d = pd then (a.1 || decide (stop - off > limit), some (d, off, stop + peak))
      else if x.rate ≤ 0 then (a.1, some (d, 0, peak))
      else
        let t := off + ((d - pd : Int) : Rat) * 1000000000 / (x.rate : Rat)
        if stop > t then (a.1 || decide (stop - t > limit), some (d, t, stop + peak)) else (a.1, some (d, t, t + peak)))
    (false, none)
  r.1

/-! Outcomes (R174). -/

def outcRecord (o : Outc) : List Byte :=
  p4 o.handle ++ p4 o.cookie ++ p1 o.outcome ++ p1 o.felt ++ zeros 2 ++ p4 o.pos ++ p8 o.time

/-- A waiting WHEEL_WAIT of a side is answered once its queue is non-empty. -/
def serveWheelWait (d : Side) (s : State) : State :=
  let q := tget s.felt.outcomes (sideIx d)
  match (waitingJobs s 0x0408).find? (fun j => j.org.side == d) with
  | some j =>
    if q.recs.isEmpty then s
    else
      let now := q.recs.take 64
      let s1 := finish j.org sOK (p2 now.length ++ p2 q.lost ++ now.flatMap outcRecord)
        (onFelt (fun x => { x with outcomes := tset x.outcomes (sideIx d) { recs := q.recs.drop 64, lost := 0 } }) s)
      if q.lost > 0 then note 0x0433 [sideCode d, q.lost] s1 else s1
  | none => s

/-- The one final outcome of an entry, reported to the side that scheduled it (R155, R172). -/
def outcome (e : Entry) (code : Nat) (s : State) : State :=
  match e.owner with
  | .programme _ => s
  | .side d =>
    if (e.report = 0 && code = 0 && e.kind != 1) || sideGone s d then s
    else
      let q := tget s.felt.outcomes (sideIx d)
      let o : Outc :=
        { handle := e.handle, cookie := e.cookie, outcome := code, felt := e.felt, pos := (felt s e.felt).pos, time := s.sys.devTime }
      let q' : OutcQ := if q.recs.length < 1024 then { q with recs := q.recs ++ [o] } else { q with lost := satInc 65535 q.lost }
      serveWheelWait d (onFelt (fun x => { x with outcomes := tset x.outcomes (sideIx d) q' }) s)

/-- Removes the entries that satisfy a test, each with an outcome. -/
def endEntries (p : Entry → Bool) (code : Nat) (s : State) : State :=
  (s.felt.entries.filter p).foldl (fun t e => outcome e code t)
    (checkSpill (onFelt (fun x => { x with entries := x.entries.filter (fun e => !p e) }) s))

/-- Order of entries due at once (R152). -/
def entryRank (e : Entry) : Nat := match e.kind with | 3 => 0 | 4 => 0 | 2 => 1 | _ => 2

def entryLe (c : Nat) (a b : Entry) : Bool :=
  let da := posDist c a.pos
  let db := posDist c b.pos
  if da != db then da < db else if entryRank a != entryRank b then entryRank a < entryRank b else true

end Sys2Proof.Machine
end

