-- ==== Sys2Proof/Machine/FieldOps.lean ====
section
/-! DEFINITION. Field inputs, outputs and current loops: driving an output, its safe state, the flag word, the common
fault (spec/11_field_io.md). -/

namespace Sys2Proof.Machine

def isFieldIn (s : State) (n : Nat) : Bool := stnType s n == 0x40
def isFieldOut (s : State) (n : Nat) : Bool := stnType s n == 0x41
def isLoopOut (s : State) (n : Nat) : Bool := stnType s n == 0x50

def fld (s : State) (n : Nat) : Field := tget s.field.stations n
def modFld (n : Nat) (f : Field → Field) (s : State) : State :=
  onField (fun x => { x with stations := tmod x.stations n f }) s

/-- cmd_timeout_ms of a field or loop output (R408). -/
def cmdTimeout (s : State) (n : Nat) : Nat := if isLoopOut s n then g4 (stnPart s n) 4 else g4 (stnPart s n) 0

/-- Mode of a field input (R392). -/
def inMode (s : State) (n : Nat) : Nat := g1 (stnPart s n) 1

/-- Debounced level of a field input. -/
def inLevel (s : State) (n : Nat) : Bool := s.field.levels.getLsbD (stnTerm s n)

/-- A debounced level is seen on an input's channel. -/
def seeLevel (n : Nat) (level : Bool) (s : State) : State :=
  onField (fun f => { f with levels := setBit (stnTerm s n) level f.levels }) s

/-- Debounced levels are seen on channels. -/
def seeChans (ts : List Nat) (levels : List Bool) (s : State) : State :=
  onField (fun f => { f with levels := (ts.zip levels).foldl (fun b p => setBit p.1 p.2 b) f.levels }) s

/-- The value of a LEVEL input: its level after `invert` (R392). -/
def levelValue (s : State) (n : Nat) : Int := b01 (inLevel s n != (g1 (stnPart s n) 2 == 1))

/-! Current loops (R405). -/

def loopRamp (s : State) (n : Nat) : Nat := g4 (stnPart s n) 8

/-- Setpoint of a loop at a device time, slewed at `ramp` µA per ms. -/
def loopTarget (s : State) (n t : Nat) : Int :=
  let f := fld s n
  let d : Int := (loopRamp s n * (heldTime s t - f.slewAt) / 1000000 : Nat)
  if loopRamp s n = 0 then f.value
  else if f.slewFrom ≤ f.value then min f.value (f.slewFrom + d) else max f.value (f.slewFrom - d)

/-- The current that a loop measures: its slewed setpoint, but as the latest event told it while a loop flag stands
(notes/assumptions/17.md). -/
def loopNow (s : State) (n : Nat) : Int :=
  let f := fld s n
  if f.loopFault || f.openLoop then f.measured else loopTarget s n s.sys.devTime

/-- Value that a field or loop station publishes (R392, R403, R408). -/
def fieldValue (s : State) (n : Nat) : Int :=
  if isLoopOut s n then loopNow s n
  else if isFieldIn s n && s.field.noSupply then invalidValue else (fld s n).value

/-- Output at safe_value: an output latched off is so only where that is 0 (R397, R409). -/
def atSafe (s : State) (n : Nat) : Bool := !isFieldIn s n && (fld s n).safe && (fld s n).value == stnSafe s n

/-- Flag word of a field or loop station (R409). -/
def fieldFlags (s : State) (n : Nat) : Nat :=
  let f := fld s n
  let v := fieldValue s n
  b01 (s.field.lowIo && !isLoopOut s n) + b01 (isFieldIn s n && s.field.noSupply) * 2 + b01 (atSafe s n) * 4 +
    b01 f.latched * 8 + b01 f.rateHigh * 16 + b01 f.loopFault * 32 + b01 f.openLoop * 64 + b01 f.timedOut * 128 +
    (if v = invalidValue then 0 else alarmBits s n v 8 9)

/-- A field station publishes; during re-execution the publication waits for its end, as it is (R397). -/
def publishField (n t : Nat) (s : State) : State :=
  if s.absorb.reexecuting then
    onAbsorb (fun a => { a with late := a.late ++ [.field n (fieldFlags s n) (fieldValue s n) t] }) s
  else publish n (fieldFlags s n) (fieldValue s n) 0 t s

def fieldStations (s : State) : List Nat := stationsBy s (fun n => isFieldIn s n || isFieldOut s n || isLoopOut s n)

/-- Every field station publishes again: a supply flag changed. -/
def republishFields (s : State) : State := (fieldStations s).foldl (fun t n => publishField n t.sys.devTime t) s

/-! The common fault (R399–R402). -/

/-- FIO channels of the stations that satisfy a test, as a mask. -/
def fioMask (s : State) (p : Nat → Bool) : Nat :=
  maskOf (List.range 32) (fun t => match stationAt s 4 t with | some n => p n | none => false)

/-- out_cmd and out_mon of FIO_STATUS (R413). -/
def outCmd (s : State) : Nat := fioMask s (fun n => isFieldOut s n && (fld s n).value != 0)
def outMon (s : State) : Nat := fioMask s (fun n => isFieldOut s n)

/-- An output that is on: commanded so, and with the supply that its switch needs. Below 10.0 V of VFIELD_IO every field output is
off, whatever is commanded (R403). -/
def outOn (s : State) (n : Nat) : Bool := isFieldOut s n && (fld s n).value != 0 && !s.field.noSupply

/-- A monitored output at fault that the mask does not hide (R399, R402). -/
def faultSeen (s : State) : Bool :=
  (stationsOfType s 0x41).any (fun n => (fld s n).faulted && !s.field.mask.getLsbD (stnTerm s n))

/-- The ORed fault follows the outputs and the mask; its appearance and its end are recorded (R400). -/
def refreshFault (s : State) : State :=
  let now := faultSeen s
  if now && !s.field.live then
    note 0x0A10 [outCmd s, s.field.mask.toNat, s.power.vfieldIo / 1000]
      (onField (fun f => { f with live := true, sticky := true, faultCount := f.faultCount + 1, faultAt := s.sys.devTime }) s)
  else if !now && s.field.live then
    let ms := nsMs (s.sys.devTime - s.field.faultAt)
    note 0x0A11 [ms] (onField (fun f => { f with live := false, faultMs := ms }) s)
  else s

/-- The mask is cleared: BOOT, BOOT-lite, every commit (R402); side 0 stands for the device (notes/assumptions/152.md). -/
def clearMask (s : State) : State :=
  let s1 := onField (fun f => { f with mask := 0 }) s
  refreshFault (if s.field.mask = 0 then s1 else note 0x0A12 [0, 0] s1)

/-! Driving an output. -/

/-- The channels of an output have switched (spec/16_fault_absorption.md R533). -/
def countSwitching (n : Nat) (s : State) : State :=
  onAbsorb (fun a => { a with switchings := (stnTerms s n).foldl (fun t c => tset t c (tget t c + 1)) a.switchings }) s

/-- An output's commanded state or setpoint changes. A field output that switches begins a blanking time, and is not at
fault meanwhile (R399); one latched off stays off (R403). Last gasp and a reset keep every output off (R397). A loop slews there at `ramp`, or steps (R405). -/
def setOut (n : Nat) (v : Int) (bypass : Bool) (s : State) : State :=
  let now := s.sys.devTime
  let f := fld s n
  if isLoopOut s n then
    let w := if stopping s then 0 else v
    let start := if bypass || stopping s || loopRamp s n = 0 then w else loopTarget s n now
    modFld n (fun f => { f with value := w, slewFrom := start, slewAt := now }) s
  else
    let w := if f.latched || stopping s then 0 else v
    if w = f.value then s
    else countSwitching n (modFld n (fun f => { f with value := w, faulted := false, switchedAt := some now }) s)

/-- An output is driven to a value and publishes it. -/
def showOut (n : Nat) (v : Int) (s : State) : State :=
  refreshFault (publishField n s.sys.devTime (modFld n (fun f => { f with safe := false }) (setOut n v false s)))

/-- An output takes a commanded value: its timeout starts again (R398). -/
def driveField (n : Nat) (v : Int) (s : State) : State :=
  showOut n v (modFld n (fun f => { f with timedOut := false, cmdAt := s.sys.devTime }) s)

/-- An output goes to safe_value, a loop without its ramp (R397; notes/assumptions/17.md). -/
def safeField (n : Nat) (s : State) : State :=
  refreshFault (publishField n s.sys.devTime
    (modFld n (fun f => { f with safe := true, commander := none }) (setOut n (stnSafe s n) true s)))

/-- An output is off, or its loop at 0 mA: BOOT, RECOVERY, ICE, last gasp (R397). -/
def offField (n : Nat) (s : State) : State :=
  refreshFault (modFld n (fun f => { f with safe := false, commander := none }) (setOut n 0 true s))

/-- A field output is latched off (R403). -/
def latchOff (n : Nat) (s : State) : State :=
  refreshFault (publishField n s.sys.devTime (setOut n 0 true (modFld n (fun f => { f with latched := true }) s)))

/-- The latch of a station is released (R403). -/
def unlatch (n : Nat) (s : State) : State :=
  if (fld s n).latched then publishField n s.sys.devTime (modFld n (fun f => { f with latched := false }) s) else s

/-- While a sag stands, stations start latched off (R403). -/
def sagLatch (s : State) : State :=
  if s.field.sagIo.isSome || s.field.sagVd.isSome then (stationsOfType s 0x41).foldl (fun t n => latchOff n t) s else s

/-- Input stations start: a LEVEL input publishes the level it samples, a counter its 0, and a gate begins (R392). -/
def startInputs (s : State) : State :=
  (stationsOfType s 0x40).foldl (fun t n =>
    let t1 := modFld n (fun f => { f with value := if inMode s n = 0 then levelValue s n else 0, gateStart := s.sys.devTime }) t
    if inMode s n = 2 then t1 else publishField n s.sys.devTime t1) s

/-- Live fields changed at a commit: a LEVEL input whose `invert` changed shows its new value (R118, R408). -/
def levelsLive (s : State) : State :=
  (stationsOfType s 0x40).foldl (fun t n =>
    if inMode s n = 0 && (fld t n).value != levelValue s n then
      publishField n s.sys.devTime (modFld n (fun f => { f with value := levelValue s n }) t)
    else t) s

def outputsOf (s : State) : List Nat := stationsBy s (fun n => isFieldOut s n || isLoopOut s n)
def loopsOf (s : State) : List Nat := stationsOfType s 0x50

/-- Slews begin anew where they stand: their ramp is about to change, or the output latch releases them (R40, R118). -/
def rebaseLoops (s : State) : State :=
  (loopsOf s).foldl (fun t n =>
    let v := loopTarget s n s.sys.devTime
    modFld n (fun f => { f with slewFrom := v, slewAt := s.sys.devTime }) t) s

/-- An output whose command is too old goes to safe_value (R398): not while it is there already, or is driven by a built-in
programme. -/
def outputTimeout (n : Nat) (s : State) : State :=
  let f := fld s n
  if !(isFieldOut s n || isLoopOut s n) || cmdTimeout s n = 0 || f.safe || f.commander.isNone ||
      s.sys.devTime < f.cmdAt + cmdTimeout s n * 1000000 then s
  else note 0x0A30 [n, cmdTimeout s n] (safeField n (modFld n (fun f => { f with timedOut := true }) s))

/-- Outputs whose time ran out while the output latch held them (spec/01_one_view.md R40). -/
def timeoutsDue (s : State) : State := (outputsOf s).foldl (fun t n => outputTimeout n t) s

end Sys2Proof.Machine
end

