-- ==== Sys2Proof/Machine/Numbers.lean ====
section
/-! DEFINITION. Number formats: IEEE 754 binary32 and binary64 bit patterns as exact numbers and back, rounding to
nearest, ties to even (the float32 and float64 fields of spec/05, spec/07, spec/08, spec/10). -/

namespace Sys2Proof.Machine

/-- A format: exponent bits and fraction bits. -/
structure Fmt where
  ebits : Nat
  fbits : Nat
  deriving DecidableEq, Repr

def f32 : Fmt := ⟨8, 23⟩
def f64 : Fmt := ⟨11, 52⟩

def Fmt.bias (f : Fmt) : Nat := 2 ^ (f.ebits - 1) - 1

/-- Two to an integer power, exactly. -/
def pow2 (e : Int) : Rat := if e < 0 then 1 / ((2 ^ (-e).toNat : Nat) : Rat) else ((2 ^ e.toNat : Nat) : Rat)

/-- The number a bit pattern stands for; none for an infinity or a NaN. -/
def Fmt.decode (f : Fmt) (n : Nat) : Option Rat :=
  let frac := n % 2 ^ f.fbits
  let e := n / 2 ^ f.fbits % 2 ^ f.ebits
  let neg := n / 2 ^ (f.fbits + f.ebits) % 2 = 1
  if e = 2 ^ f.ebits - 1 then none
  else
    let m : Nat := if e = 0 then frac else frac + 2 ^ f.fbits
    let x : Rat := (m : Rat) * pow2 ((max e 1 : Nat) - (f.bias + f.fbits : Nat) : Int)
    some (if neg then -x else x)

/-- Nearest integer to a non-negative rational, ties to even. -/
def roundEven (q : Rat) : Nat :=
  let n := q.num.toNat
  let d := q.den
  let k := n / d
  let r := n % d
  if 2 * r < d then k else if 2 * r > d then k + 1 else if k % 2 = 0 then k else k + 1

/-- Exponent e with 2^e ≤ q < 2^(e+1), for q > 0. -/
def ilog2 (q : Rat) : Int :=
  let e0 : Int := (q.num.toNat.log2 : Int) - (q.den.log2 : Int)
  if pow2 e0 ≤ q then (if q < pow2 (e0 + 1) then e0 else e0 + 1) else e0 - 1

/-- Bit pattern of the nearest number of the format; an overflow gives an infinity. -/
def Fmt.encode (f : Fmt) (q : Rat) : Nat :=
  let sign := if q < 0 then 2 ^ (f.fbits + f.ebits) else 0
  let a := absRat q
  if a = 0 then sign
  else
    let emin : Int := 1 - (f.bias : Int)
    let e := max (ilog2 a) emin
    let m := roundEven (a * pow2 ((f.fbits : Int) - e))
    let raw : Nat := if m < 2 ^ f.fbits then m else ((e + f.bias : Int).toNat) * 2 ^ f.fbits + (m - 2 ^ f.fbits)
    sign + min raw ((2 ^ f.ebits - 1) * 2 ^ f.fbits)

/-- A float32 field at offset `o`; an infinity or a NaN reads as none. -/
def gf32 (b : List Byte) (o : Nat) : Option Rat := f32.decode (g4 b o)
def gf64 (b : List Byte) (o : Nat) : Option Rat := f64.decode (g8 b o)

/-- The same with 0 for what is not a number; validation refuses such fields. -/
def rf32 (b : List Byte) (o : Nat) : Rat := (gf32 b o).getD 0
def rf64 (b : List Byte) (o : Nat) : Rat := (gf64 b o).getD 0

/-- A value rounded to float32 and float64; one beyond the format stays as it is (notes/assumptions/36.md). -/
def toF32 (q : Rat) : Rat := (f32.decode (f32.encode q)).getD q
def toF64 (q : Rat) : Rat := (f64.decode (f64.encode q)).getD q

end Sys2Proof.Machine
end

