-- ==== Sys2Proof/Machine/ValveOps.lean ====
section
/-! DEFINITION. Valve and injector drive: targets, pulses, clamp energy, banks, the flag word, safe states
(spec/10_valve_drive.md). Channels are named by valve terminal 0–11, banks by 0–2. -/

namespace Sys2Proof.Machine

def isProp (s : State) (n : Nat) : Bool := stnType s n == 0x30
def isInj (s : State) (n : Nat) : Bool := stnType s n == 0x31
def valveStations (s : State) : List Nat := stationsBy s (fun n => isProp s n || isInj s n)

/-- The station on a channel. -/
def chanStn (s : State) (c : Nat) : Option Nat := stationAt s 5 c

/-- Type part fields (R355–R357) of the station on a channel. -/
def vpart (s : State) (c : Nat) : List Byte := match chanStn s c with | some n => stnPart s n | none => []
def iMax (s : State) (c : Nat) : Int := i4 (vpart s c) 40
def iPeak (s : State) (c : Nat) : Int := i4 (vpart s c) 40
def iHold (s : State) (c : Nat) : Int := i4 (vpart s c) 44
def tDwell (s : State) (c : Nat) : Nat := g2 (vpart s c) 48
def tRiseMax (s : State) (c : Nat) : Nat := g2 (vpart s c) 50
def deferUs (s : State) (c : Nat) : Nat := let d := g2 (vpart s c) 54; if d = 0 then 2000 else d
def bankRefuses (s : State) (c : Nat) : Bool := g1 (vpart s c) 53 == 1
def coilLimits (s : State) (c : Nat) : Bool := g1 (vpart s c) 34 == 1
def chanIsProp (s : State) (c : Nat) : Bool := match chanStn s c with | some n => isProp s n | none => false
def chanIsInj (s : State) (c : Nat) : Bool := match chanStn s c with | some n => isInj s n | none => false

def chn (s : State) (c : Nat) : Chan := tget s.valves.chans c
def coil (s : State) (c : Nat) : Coil := tget s.valves.coils c
def bank (s : State) (b : Nat) : Bank := tget s.valves.banks b
def modChan (c : Nat) (f : Chan → Chan) (s : State) : State := onValves (fun v => { v with chans := tmod v.chans c f }) s
def modCoil (c : Nat) (f : Coil → Coil) (s : State) : State := onValves (fun v => { v with coils := tmod v.coils c f }) s
def modBank (b : Nat) (f : Bank → Bank) (s : State) : State := onValves (fun v => { v with banks := tmod v.banks b f }) s

def bankChans (b : Nat) : List Nat := [4 * b, 4 * b + 1, 4 * b + 2, 4 * b + 3]

/-- Winding resistance at T_w, in ohms (R370). -/
def windingR (s : State) (c : Nat) : Rat :=
  (g4 (vpart s c) 0 : Rat) / 1000 * (1 + (393 : Rat) / 100000 * ((coil s c).tw - 20))

/-- Clamp energy of a FAST decay from `i0` to `i1` µA at supply `uv` µV, in joules (R368). -/
def clampEnergy (uh : Nat) (i0 i1 uv : Int) : Rat :=
  (uh : Rat) / 1000000 * (((i0 * i0 - i1 * i1 : Int) : Rat) / 1000000000000) / 2 * ratDiv 65 (65 - (uv : Rat) / 1000000)

/-- Clamp power: energy charged to a bank over the last 1 s, in watts (R369). -/
def clampPower (s : State) (b : Nat) : Rat :=
  (bank s b).charges.foldl (fun a e => if s.sys.devTime < e.1 + 1000000000 then a + e.2 else a) 0

/-! Proportional current (R360, R361, R363). -/

def ramp (s : State) (c : Nat) : Nat := g4 (vpart s c) 44

/-- The slewed setpoint of a channel at a device time, under the coil cap; 0 where it does not regulate (R360, R372). -/
def slewed (s : State) (c t : Nat) : Int :=
  let k := chn s c
  let d : Int := (ramp s c * (heldTime s t - k.slewAt) / 1000000 : Nat)
  let v := if ramp s c = 0 then k.setpoint
    else if k.slewFrom ≤ k.setpoint then min k.setpoint (k.slewFrom + d) else max k.setpoint (k.slewFrom - d)
  if k.st != 1 then 0 else match k.cap with | some m => if coilLimits s c then min v m else v | none => v

/-- Peak dither amplitude at a slewed setpoint (R361). -/
def ditherAmp (s : State) (c : Nat) (v : Int) : Rat :=
  if g2 (vpart s c) 48 = 0 then 0 else (g1 (vpart s c) 50 : Rat) * (v : Rat) / 100

/-- The triangle between −1 and +1 of a part of a period. -/
def triangle (x : Rat) : Rat := let f := x - (x.floor : Rat); if f < 1 / 2 then 4 * f - 1 else 3 - 4 * f

/-- Greatest target, µA (R361). -/
def targetMax : Rat := 2500000

/-- Target of a proportional channel at a device time: slewed setpoint and dither, clipped (R360, R361). -/
def targetAt (s : State) (c t : Nat) : Int :=
  let v := slewed s c t
  let x := (t : Rat) * (g2 (vpart s c) 48 : Nat) / 1000000000 + Config.ditherPhase c
  roundRat (clampRat 0 targetMax ((v : Rat) + ditherAmp s c v * triangle x))

/-- Mean of the target over whole dither periods: clipping moves it (R361). -/
def ditherMean (s : State) (c : Nat) (v : Int) : Rat :=
  let a := ditherAmp s c v
  let cut := (v : Rat) + a - targetMax
  if cut ≤ 0 || a = 0 then (v : Rat) else (v : Rat) - cut * cut / (4 * a)

/-- Current that a channel draws from its bank: the slewed setpoint of a Proportional channel, i_peak in DWELL, i_hold in HOLD,
else as the latest event told (R363; notes/assumptions/18.md). -/
def bankShare (s : State) (c : Nat) : Int :=
  match (chn s c).phase with
  | 0 => slewed s c s.sys.devTime
  | 2 => iPeak s c
  | 4 => iHold s c
  | _ => (chn s c).current

/-- Supply left at a bank's HS land, V: less 12 mΩ times the bank's current (R363). -/
def hsVolts (s : State) (b : Nat) : Rat :=
  (s.power.vfieldVd : Rat) / 1000000 -
    (((bankChans b).foldl (fun a c => a + bankShare s c) 0 : Int) : Rat) / 1000000 * (12 / 1000)

/-- The largest current a channel can hold, µA (R363). -/
def canHold (s : State) (c : Nat) : Rat :=
  max 0 (ratDiv (95 / 100 * hsVolts s (c / 4)) (windingR s c + 5 / 100) * 1000000)

/-- Duty that holds a current, in 0.01 %, at most 95 % (R360, R363). -/
def dutyFor (s : State) (c : Nat) (ua : Int) : Nat :=
  min 9500 (roundRat (max 0 (ratDiv ((ua : Rat) / 1000000 * (windingR s c + 5 / 100)) (hsVolts s (c / 4)) * 10000))).toNat

/-- Mean current of a channel at a device time: a regulated one at its target as far as it can be held; else as the latest
event told (notes/assumptions/18.md). -/
def meanAt (s : State) (c t : Nat) : Rat :=
  let k := chn s c
  if k.st = 1 && !k.headroom && !k.openLoad then min (canHold s c) (ditherMean s c (slewed s c t))
  else if k.phase = 4 && !k.headroom && !k.openLoad then min (canHold s c) (iHold s c : Rat)
  else (k.current : Rat)

def nowUa (s : State) (c : Nat) : Int := roundRat (meanAt s c s.sys.devTime)

/-- Mean current between two device times in straight pieces: a slew, then its end. -/
def slewPieces (s : State) (c t0 t1 : Nat) : List (Nat × Nat × Rat × Rat) :=
  let a := meanAt s c t0
  let b := meanAt s c t1
  let d := (slewed s c t1 - slewed s c t0).natAbs
  let dt := if d = 0 || ramp s c = 0 then 0 else min (t1 - t0) (d * 1000000 / ramp s c)
  [(t0 + dt, t1, b, b), (t0, t0 + dt, a, b)].filter (fun p => p.1 < p.2.1)

/-- Integral of a piece from a device time on, µA·ns. -/
def pieceSum (t : Nat) (p : Nat × Nat × Rat × Rat) : Rat :=
  let (t0, t1, a, b) := p
  if t1 ≤ t then 0
  else
    let u := max t t0
    let x := a + (b - a) * ((u - t0 : Nat) : Rat) / ((t1 - t0 : Nat) : Rat)
    ((t1 - u : Nat) : Rat) * (x + b) / 2

/-- Flag word of a valve station with a value (R359). -/
def valveFlags (s : State) (n : Nat) (v : Int) : Nat :=
  let c := stnTerm s n
  let ch := chn s c
  let co := coil s c
  let b := bank s (c / 4)
  b01 (s.field.lowVd || ch.lowSeen) + b01 ch.headroom * 2 + b01 ch.overcurrent * 4 + b01 ch.openLoad * 8 + b01 ch.stuck * 16 +
    b01 b.clampHot * 32 + b01 co.warn * 64 + b01 co.limit * 128 + alarmBits s n v 8 9 + b01 ch.latched * 1024 +
    b01 b.latched * 2048 + b01 ch.leak * 4096

/-- The clamp of a bank takes the energy of a FAST decay; above 0.40 W CLAMP_HOT is set (R368, R369). -/
def chargeClamp (c : Nat) (i0 i1 : Int) (s : State) : State :=
  let b := c / 4
  let e := clampEnergy (g4 (vpart s c) 4) i0 i1 s.power.vfieldVd
  let recent (l : List (Nat × Rat)) := l.filter (fun x => s.sys.devTime < x.1 + 1000000000)
  let s1 := modCoil c (fun k => { k with clampTotal := k.clampTotal + e })
    (modBank b (fun k => { k with charges := (s.sys.devTime, e) :: recent k.charges }) s)
  if !(bank s1 b).clampHot && clampPower s1 b > (2 : Rat) / 5 then
    note 0x0917 [b, 1, roundRat (clampPower s1 b * 1000)]
      (modBank b (fun k => { k with clampHot := true, clampHotAt := s.sys.devTime }) s1)
  else s1

/-- A decay is FAST as configured, but SLOW while the clamp is hot, unless `forced` (R367, R369, R379–R381). -/
def decaysFast (s : State) (c : Nat) (fast forced : Bool) : Bool := forced || (fast && !(bank s (c / 4)).clampHot)

/-- A decay from one current to another charges the clamp where it is FAST (R368). -/
def decayTo (c : Nat) (fast forced : Bool) (i0 i1 : Int) (s : State) : State :=
  if i0 > i1 && decaysFast s c fast forced then chargeClamp c i0 i1 s else s

/-- The coil's current at a setpoint that the channel may not reach: as told while HEADROOM or OPEN_LOAD stands, else at most
what the supply can hold (R363). -/
def reached (s : State) (c : Nat) (v : Int) : Int :=
  if (chn s c).headroom || (chn s c).openLoad then min (chn s c).current v else roundRat (min (canHold s c) (v : Rat))

/-- Decay of a falling setpoint, from the coil's current: to 0 by decay_off, else by decay_step (R360, R368). -/
def stepDecay (c : Nat) (i0 i1 : Int) (s : State) : State :=
  if i0 ≤ i1 then s
  else decayTo c (if i1 = 0 then g1 (vpart s c) 35 == 1 else g1 (vpart s c) 51 == 1) false (reached s c i0) i1 s

/-- A channel is brought up to now: its current is summed, and a slew that fell has decayed (R359, R360, R368). -/
def touchChan (c : Nat) (s : State) : State :=
  let now := s.sys.devTime
  let k := chn s c
  let ps := slewPieces s c k.sumAt now
  modChan c (fun x =>
    { x with
      sum := k.sum + (ps.map (pieceSum k.sumAt)).sum, sumAt := now, past := (ps ++ k.past).filter (fun p => decide (now < p.2.1 + 10000000)) })
    (stepDecay c (slewed s c k.sumAt) (slewed s c now) s)

/-- A current that no event has told: the k-th free value drawn, never the invalid value (R359). -/
def freeUa (k : Nat) : Int := ((Config.freeNat k % 4294967295 : Nat) : Int) - 2147483647

/-- A valve station publishes the mean current since it last did; of an injector that was in a phase of a pulse other than HOLD
meanwhile it is a free value (R359; notes/assumptions/18.md). -/
def publishValve (n : Nat) (s0 : State) : State :=
  let c := stnTerm s0 n
  let s := touchChan c s0
  let k := chn s c
  let now := s.sys.devTime
  let mean : Rat := if now = k.shownAt then meanAt s c now else k.sum / ((now - k.shownAt : Nat) : Rat)
  let v := if k.ran then freeUa s.fresh else roundRat mean
  modChan c (fun x =>
    { x with overcurrent := false, lowSeen := false, ran := k.phase != 0 && k.phase != 4, sum := 0, shownAt := now })
    (publish n (valveFlags s n v) v 0 now (drawn 1 s))

/-- A proportional channel takes a setpoint: it slews there at `ramp`, or steps where the ramp is 0 or bypassed; a decrease
decays by decay_step, and to 0 by decay_off (R360, R362, R381). -/
def driveProp (c : Nat) (v : Int) (bypass : Bool) (s0 : State) : State :=
  let s := touchChan c s0
  let now := s.sys.devTime
  let ch := chn s c
  let goal := clampInt 0 (iMax s c) v
  if !(bank s (c / 4)).closed || ch.latched || ch.retrying then modChan c (fun k => { k with setpoint := goal, safe := false }) s
  else
    let i0 := slewed s c now
    let step := bypass || ramp s c = 0
    let s1 := modChan c (fun k =>
      { k with st := 1, setpoint := goal, safe := false, slewFrom := if step then goal else i0, slewAt := now }) s
    stepDecay c i0 (slewed s1 c now) s1

/-- A proportional station goes to its safe_value, the ramp bypassed or not (R381). -/
def safeProp (n : Nat) (bypass : Bool) (s : State) : State :=
  modChan (stnTerm s n) (fun k => { k with safe := true }) (driveProp (stnTerm s n) (stnSafe s n) bypass s)

/-- A proportional channel regulates to its setpoint again: its switch has closed, or its trip is over (R353, R379). -/
def retake (c : Nat) (s : State) : State :=
  let safe := (chn s c).safe
  modChan c (fun k => { k with safe := safe }) (driveProp c (chn s c).setpoint false s)

/-- Slews begin anew where they stand: their ramp is about to change, or the output latch releases them
(spec/01_one_view.md R40; spec/03_configuration.md R118). -/
def rebaseValves (s : State) : State :=
  (List.range 12).foldl (fun t c =>
    let u := touchChan c t
    let k := chn s c
    if k.st != 1 || ramp s c = 0 then u
    else
      let v := slewed (modChan c (fun k => { k with cap := none }) s) c s.sys.devTime
      modChan c (fun k => { k with slewFrom := v, slewAt := s.sys.devTime }) u) s

/-- Current of a channel that is still to be charged to the clamp as it is cut off: in RISE, TO_HOLD and OFF, where no event tells
it, a free value within the phase's bounds; what a FAST fall in progress has charged is not charged again (R368;
notes/assumptions/18.md). -/
def cutUa (s : State) (c : Nat) : Int :=
  let k := chn s c
  let free (lo hi : Int) : Int := lo + ((Config.freeNat s.fresh % ((hi - lo).toNat + 1) : Nat) : Int)
  match k.phase with
  | 1 => free 0 (iPeak s c)
  | 3 => if k.charged then min (iHold s c) k.current else free (min (iHold s c) k.current) k.current
  | 5 => if k.charged then 0 else free 0 k.current
  | 2 => nowUa s c
  | 4 => nowUa s c
  | _ => reached s c (slewed s c s.sys.devTime)

/-- A pulse is running: RISE to OFF. -/
def pulsing (s : State) (c : Nat) : Bool := (chn s c).phase != 0

/-- A pulse has its peak or holds: RISE to HOLD. -/
def opened (s : State) (c : Nat) : Bool := 1 ≤ (chn s c).phase && (chn s c).phase ≤ 4

/-- A pulse that is cut off is counted (R385), a HOLD of 5 ms that it had is noted (R371), and its bank is free of its peak. -/
def pulseOver (c : Nat) (s : State) : State :=
  let now := s.sys.devTime
  let s1 := modBank (c / 4) (fun b => { b with peakOwner := if b.peakOwner = some c then none else b.peakOwner })
    (if opened s c then modCoil c (fun k => { k with cut := k.cut + 1 }) s else s)
  modChan c (fun k =>
    { k with
      heldLong := k.heldLong || (k.phase == 4 && (match k.phaseAt with | some t => decide (t + 5000000 ≤ now) | none => false)),
      ran := k.ran || k.phase != 0, pulseCut := k.pulseCut || k.phase != 0 }) s1

/-- A channel's current ends by FAST decay: a trip, an opened switch, last gasp (R379–R381). A pulse it was in is cut. -/
def killChan (c : Nat) (s0 : State) : State :=
  let s := touchChan c s0
  let s1 := pulseOver c (drawn 1 (decayTo c true true (cutUa s c) 0 s))
  modChan c (fun k =>
    { k with
      st := 0, phase := 0, current := 0, duty := 0, charged := false,
      phaseAt := if k.phase = 0 then k.phaseAt else some s.sys.devTime }) s1

/-- A parcel's dose fell short (spec/04_felt_time.md R166 flag [10]). -/
def doseShort (z parcel : Nat) (s : State) : State :=
  if z ≥ 16 || zoneType s z != 4 then s
  else
    let ps := tget s.felt.parcels z
    let fresh := ps.any (fun p => p.id == parcel && !p.flags.getLsbD 10)
    let marked := ps.map (fun p => if p.id = parcel then { p with flags := p.flags ||| 0x400 } else p)
    let s1 := onFelt (fun f => { f with parcels := tset f.parcels z marked }) s
    if fresh then onZones (fun t => tmod t z (fun q =>
      { q with temper := { q.temper with doseShort := q.temper.doseShort + 1 } })) s1 else s1

/-- The status with which a refused VLV_PULSE answers (R384). -/
def refuseStatus : Nat → Nat
  | 1 => sOVERLAP | 2 => sBUSY | 3 => sBUSY | 4 => sLIMIT | _ => sWRONGMODE

/-- A pulse is refused (R376). -/
def refusePulse (q : PulseReq) (cause : Nat) (s : State) : State :=
  let wait := nsUs (s.sys.devTime - q.due)
  let s1 := modCoil q.chan (fun k => { k with refused := k.refused + 1 })
    (modBank (q.chan / 4) (fun b => { b with refused := b.refused + 1, maxWaitUs := max b.maxWaitUs (min wait 65535) }) s)
  let s2 := doseShort q.zone q.parcel (note 0x0910 [q.station, cause, wait] s1)
  match q.org with | some o => finish o (refuseStatus cause) [] s2 | none => s2

/-- The cause numbers that hold against a peak of a channel now (R376). DESIGN CHOICE: a bank that an overcurrent has opened for
its 100 ms counts as latched off (R353, R379; notes/assumptions/172.md). -/
def peakCauses (s : State) (c : Nat) : List Nat :=
  let b := bank s (c / 4)
  (if b.peakOwner.isSome && b.peakOwner != some c then [1] else []) ++ (if s.valves.boost != 2 then [2] else []) ++
    (if s.valves.peaksBlocked then [3] else []) ++
    (if (coil s c).limit && coilLimits s c then [4] else []) ++ (if (chn s c).latched || b.latched || b.tripped then [5] else [])

/-- A pulse starts: RISE, and the bank's one peak (R364, R375, R384). -/
def startPulse (q : PulseReq) (s : State) : State :=
  let now := s.sys.devTime
  let wait := nsUs (now - q.due)
  let s1 := modBank (q.chan / 4) (fun b => { b with peakOwner := some q.chan, maxWaitUs := max b.maxWaitUs (min wait 65535) })
    (modCoil q.chan (fun k => { k with pulses := k.pulses + 1 })
      (modChan q.chan (fun k =>
        { k with
          st := 2, phase := 1, ran := true, phaseAt := some now, pulseStart := now, pulseEnd := now + q.lenUs * 1000, pulseZone := q.zone,
          pulseParcel := q.parcel, pulseCut := false, charged := false }) s))
  match q.org with
  | some o => finish o sOK (p8 now ++ p4 wait ++ zeros 4) s1
  | none => s1

/-- A pulse waits in the bank queue, which is ordered by due time (R376). -/
def enqueuePulse (q : PulseReq) (s : State) : State :=
  modBank (q.chan / 4) (fun b => { b with queue := sortBy (fun x y => decide (x.due ≤ y.due)) (b.queue ++ [q]) }) s

/-- The waiting pulses of a bank that could start but for R376: their channel is in no pulse. -/
def readyQueue (s : State) (b : Nat) : List PulseReq := (bank s b).queue.filter (fun q => !q.inOff && (chn s q.chan).phase == 0)

def dropPulse (q : PulseReq) (s : State) : State := modBank (q.chan / 4) (fun b => { b with queue := b.queue.filter (· != q) }) s

/-- A pulse falls due: it extends a running one, whose start its answer gives; in OFF it waits for the end of that; else it
starts, waits in the bank queue or is refused, as every peak is while the boost has a fault (R354, R366, R376, R384). -/
def pulseDue (q0 : PulseReq) (s : State) : State :=
  let q := { q0 with inOff := false, since := s.sys.devTime }
  let ch := chn s q.chan
  let cs := peakCauses s q.chan
  if ch.phase = 5 then enqueuePulse { q with inOff := true } s
  else match cs.find? (· ≥ 4) with
  | some k => refusePulse q k s
  | none =>
    if opened s q.chan then
      let e := max ch.pulseEnd (s.sys.devTime + q.lenUs * 1000)
      let s1 := modChan q.chan (fun k => { k with pulseEnd := e }) s
      let s2 := if s.sys.devTime < ch.pulseEnd then doseShort q.zone q.parcel s1 else s1
      match q.org with
      | some o => finish o sOK (p8 ch.pulseStart ++ p4 0 ++ zeros 4) s2
      | none => s2
    else if s.valves.boost = 3 then refusePulse q 2 s
    else if cs.isEmpty && (readyQueue s (q.chan / 4)).isEmpty then startPulse q s
    else
      match cs.head? with
      | some k =>
        if bankRefuses s q.chan then refusePulse q k s
        else enqueuePulse q (modCoil q.chan (fun x => { x with deferred := x.deferred + 1 }) s)
      | none => enqueuePulse q (modCoil q.chan (fun x => { x with deferred := x.deferred + 1 }) s)

/-- The pulse of a channel is cut: OFF, counted (R381). -/
def cutPulse (c : Nat) (s0 : State) : State :=
  let s := touchChan c s0
  let ch := chn s c
  let fast := g1 (vpart s c) 35 == 1
  let ua := cutUa s c
  let s1 := pulseOver c (drawn 1 (decayTo c fast false ua 0 s))
  doseShort ch.pulseZone ch.pulseParcel
    (modChan c (fun k =>
      { k with st := 4, phase := 5, phaseAt := some s.sys.devTime, current := ua, charged := decaysFast s c fast false }) s1)

/-- The waiting pulses of a bank that satisfy a test are withdrawn; a VLV_PULSE among them answers WRONG_MODE. -/
def withdraw (b : Nat) (p : PulseReq → Bool) (s : State) : State :=
  let qs := (bank s b).queue.filter p
  qs.foldl (fun t q =>
      let t1 := doseShort q.zone q.parcel t
      match q.org with | some o => finish o sWRONGMODE [] t1 | none => t1)
    (modBank b (fun k => { k with queue := k.queue.filter (fun q => !p q) }) s)

/-- Valve stations of the test go to their safe state: targets to safe_value, pulses cut, waiting ones withdrawn, and
0x091A for each bank concerned (R381). -/
def valvesSafe (p : Nat → Bool) (s : State) : State :=
  [0, 1, 2].foldl (fun t b =>
    let cs := (bankChans b).filter (fun c => match chanStn t c with | some n => p n | none => false)
    let cutting := cs.filter (fun c => chanIsInj t c && opened t c)
    let waits := ((bank t b).queue.filter (fun q => cs.contains q.chan)).length
    let t1 := cs.foldl (fun u c => if chanIsProp u c then
      (match chanStn u c with | some n => safeProp n true u | none => u) else u) t
    let t2 := withdraw b (fun q => cs.contains q.chan) (cutting.foldl (fun u c => cutPulse c u) t1)
    if cutting.length + waits > 0 then note 0x091A [b, cutting.length, waits] t2 else t2) s

/-- Whether the high-side switch of a bank is to be closed (R353). -/
def hsWanted (s : State) (b : Nat) : Bool :=
  let ns := (bankChans b).filterMap (chanStn s)
  let k := bank s b
  !k.latched && !k.lowCut && !k.tripped && !stopping s &&
    (match s.sys.mode with
      | .commission | .run | .hold => !ns.isEmpty
      | .still => ns.any (fun n => isProp s n && stnSafe s n != 0)
      | _ => false)

/-- Switches follow the mode, the supply and the latches; an opening switch ends every current of its bank. -/
def refreshBanks (s : State) : State :=
  [0, 1, 2].foldl (fun t b =>
    let w := hsWanted t b
    if (bank t b).closed && !w then (bankChans b).foldl (fun u c => killChan c u) (modBank b (fun k => { k with closed := false }) t)
    else if !(bank t b).closed && w then
      (bankChans b).foldl (fun u c => if chanIsProp u c then retake c u else u)
        (modBank b (fun k => { k with closed := true }) t)
    else t) s

/-- The boost runs in COMMISSION, RUN and HOLD while an enabled Injector station exists (R354). -/
def boostOn (s : State) : Bool :=
  (match s.sys.mode with | .commission | .run | .hold => true | _ => false) && !(stationsOfType s 0x31).isEmpty &&
    !stopping s

/-- The boost is off where it does not run, and where it has stopped charging before it was ready: below 15.0 V (R354, R378;
notes/assumptions/172.md). -/
def refreshBoost (s : State) : State :=
  if !boostOn s then onValves (fun v => { v with boost := 0 }) s
  else onValves (fun v =>
    { v with
      boost := match v.boost with
        | 0 => if v.vbst ≥ 44000000 then 2 else if v.peaksBlocked then 0 else 1
        | 1 => if v.peaksBlocked then 0 else 1
        | n => n }) s

/-- Everything off: last gasp, a thermal trip, ICE, BOOT (R381). -/
def valvesOff (s : State) : State :=
  let s1 := [0, 1, 2].foldl (fun t b => withdraw b (fun _ => true) t) s
  refreshBoost (refreshBanks ((List.range 12).foldl (fun t c => modChan c (fun k => { k with setpoint := 0 }) (killChan c t)) s1))

/-- The supply of the valve banks: LOW_SUPPLY below 19.2 V, no peaks and no charging of the boost below 15.0 V (R359, R378). -/
def setVfieldVd (uv : Int) (s : State) : State :=
  let low := decide (uv < 19200000)
  let s1 := (List.range 12).foldl (fun t c =>
    modChan c (fun k => { k with lowSeen := k.lowSeen || low || s.field.lowVd }) (touchChan c t)) s
  onPower (fun p => { p with vfieldVd := uv })
    (onField (fun f => { f with lowVd := low }) (onValves (fun v => { v with peaksBlocked := uv < 15000000 }) s1))

end Sys2Proof.Machine
end

