-- ==== Sys2Proof/Machine/ParcelOps.lean ====
section
/-! DEFINITION. Driving any output, and parcels: opening, closing, leaving, adoption, inlet data, tempering doses, the
discharge law of a column (spec/04_felt_time.md R161–R168; spec/09_zone_programmes.md R328, R334, R335, R341). -/

namespace Sys2Proof.Machine

/-! Outputs by station. -/

/-- A programme's value for a station: a field output, a loop clamped to R405, or a proportional valve. No side then
commands it (spec/11_field_io.md R398). -/
def driveAny (n : Nat) (v : Int) (s : State) : State :=
  let free := modFld n (fun f => { f with commander := none })
  if n ≥ 128 then s
  else if isFieldOut s n then driveField n (if v = 0 then 0 else 1) (free s)
  else if isLoopOut s n then driveField n (clampInt 3800 20500 v) (free s)
  else if isProp s n then driveProp (stnTerm s n) v false s
  else s

/-- The value of an OUTPUT wheel entry of a side: it is no command that R398 counts, so the timeout of the station and its
TIMED_OUT stay. -/
def entryDrive (n : Nat) (v : Int) (s : State) : State :=
  if n < 128 && isFieldOut s n then showOut n (if v = 0 then 0 else 1) s
  else if n < 128 && isLoopOut s n then showOut n (clampInt 3800 20500 v) s
  else driveAny n v s

/-- A station at its safe_value. -/
def safeAny (n : Nat) (s : State) : State :=
  if n ≥ 128 then s
  else if isFieldOut s n || isLoopOut s n then safeField n s
  else if isProp s n then safeProp n true s
  else s

/-! The programme part (R326). -/

def zp (s : State) (z : Nat) : List Byte := zonePart s z
/-- The type body. -/
def zb (s : State) (z : Nat) : List Byte := (zonePart s z).drop 320
def pathLen (s : State) (z : Nat) : Nat := g4 (zp s z) 0
def upstreamDev (s : State) (z : Nat) : Nat := g1 (zp s z) 4
def upstreamZone (s : State) (z : Nat) : Nat := g1 (zp s z) 5
def refusesProcess (s : State) (z : Nat) : Bool := g1 (zp s z) 6 == 1
def inlets (s : State) (z : Nat) : List Nat := (List.range 4).map (fun i => g2 (zp s z) (8 + 2 * i))
def outletStn (s : State) (z : Nat) : Nat := g2 (zp s z) 16
def outletPos (s : State) (z : Nat) : Nat := g4 (zp s z) 20

def zone (s : State) (z : Nat) : Zone := tget s.zones z
def modZone (z : Nat) (f : Zone → Zone) (s : State) : State := onZones (fun t => tmod t z f) s
def parcels (s : State) (z : Nat) : List Parcel := tget s.felt.parcels z
def setParcels (z : Nat) (ps : List Parcel) (s : State) : State := onFelt (fun x => { x with parcels := tset x.parcels z ps }) s
def modParcels (z : Nat) (f : Parcel → Parcel) (s : State) : State := setParcels z ((parcels s z).map f) s
def zonePos (s : State) (z : Nat) : Nat := (felt s (zoneFelt s z)).pos
def isOpen (p : Parcel) : Bool := p.flags.getLsbD 0

/-- The zone cuts its own parcels (R163). -/
def cutsOwn (s : State) (z : Nat) : Bool := zoneParcelLen s z != 0 && upstreamDev s z == 0xFF

/-! Sequence numbers (R161, R162). -/

def haveSeq (s : State) : Bool := s.felt.seqNext != s.felt.seqEnd

/-- The store of the next block's end, where it waits or runs. -/
def seqStore (s : State) : Option Store :=
  s.power.stores.find? (fun x => match x.act with | .parcelSeq _ => true | _ => false)

/-- With no number left, the end of the next block of 256 is stored; its numbers are issued only when that is complete
(R162; notes/assumptions/20.md). -/
def reserveSeq (s : State) : State :=
  if haveSeq s || (seqStore s).isSome then s else requestStore (.parcelSeq ((s.felt.seqEnd + 256) % 4194304)) s

/-- A parcel at its opening: what the spec gives no value before the first datum is a free value. -/
def newParcel (s : State) : Parcel :=
  { enteredAt := s.sys.calTime, openTime := s.sys.devTime, length := w32 (Config.freeNat s.fresh),
    inTemp := s32 (Config.freeNat (s.fresh + 1)), tempMax := s32 (Config.freeNat (s.fresh + 2)),
    tempMean := s32 (Config.freeNat (s.fresh + 3)), mass := s32 (Config.freeNat (s.fresh + 4)),
    density := w32 (Config.freeNat (s.fresh + 5)) }

/-- A parcel opens at a position under the next sequence number (R163); with `flags` beside OPEN. -/
def openParcel (z pos : Nat) (flags : BitVec 16) (s : State) : State :=
  let id := plantAddr s * 67108864 + z * 4194304 + s.felt.seqNext % 4194304
  let p : Parcel :=
    { newParcel s with id := id, flags := 1 ||| flags, zone := z, start := w32 pos }
  reserveSeq
    (onFelt (fun x => { x with seqNext := (x.seqNext + 1) % 4194304 }) (setParcels z (parcels s z ++ [p]) (drawn 6 s)))

/-! Inlet data. -/

/-- Accepted inlet moisture of a parcel, or the zone's substitute, which is recorded (R328). -/
def inletFor (z : Nat) (p : Parcel) (s : State) : Option Nat × State :=
  if p.inMoist != 0xFFFFFFFF then (some p.inMoist, s)
  else
    let l := ((zone s z).accepted.take 8).map (·.2)
    if l.isEmpty then (none, s)
    else let v := (meanInt l.sum l.length).toNat; (some v, note 0x0341 [z, p.id, v] s)

/-! The column's discharge (R334, R335). -/

/-- Plenum station and its value in m°C. -/
def plenumStn (s : State) (z : Nat) : Nat := g2 (zb s z) 22
def plenumVal (s : State) (z : Nat) : Option Int :=
  if validOf s (plenumStn s z) then some (valueOf s (plenumStn s z)) else none

/-- The drive reference of a column: a fraction of full scale on its loop or its bus object; off is 0 (R334, R405, R425). -/
def outDrive (z : Nat) (s : State) : State :=
  let b := zb s z
  let c := (zone s z).column
  let f := clampRat 0 1 ((c.r : Rat) / (max 1 (g4 b 72) : Nat) + c.trim)
  let drive := g2 b 64
  let obj := g2 b 66
  let s1 := if drive < 128 then
      (if c.driveOn then driveAny drive (roundRat (4000 + 16000 * f)) s else safeAny drive s) else s
  if obj < 256 then driveRef obj (if c.driveOn then (roundRat (65535 * f)).toNat else 0) (b01 c.driveOn) s1 else s1

/-- The horizon update for a parcel (R335); under programme 1 the rate is the application's, and the law that gives r_new is not
computed (R345). Moistures in 0.001 %, temperatures in m°C, exposures in K·h. -/
def horizonUpdate (z parcel : Nat) (s : State) : State :=
  match (parcels s z).find? (fun p => p.id == parcel), plenumVal s z with
  | some p, some tp =>
    let b := zb s z
    let (mi, s1) := inletFor z p s
    let c := (zone s1 z).column
    match mi with
    | none => s1
    | some m =>
      let a := rf32 b 96
      let mh : Rat := (m : Rat) / 1000 - a * p.exposure + c.b
      let need : Rat := mh - ((g4 b 88 + g4 b 92 : Nat) : Rat) / 1000
      let dT : Rat := ((tp - i4 b 100 : Int) : Rat) / 1000
      let span : Rat := ((g4 b 80 : Int) - (g4 b 84 : Int) : Int)
      let rmin := g4 b 68
      let rmax := g4 b 72
      let raw : Rat := if need ≤ 0 then (rmax : Rat) else if dT ≤ 0 then (rmin : Rat) else span / (need / (a * dT) * 3600) * 1000
      let rn := clampRat rmin rmax raw
      let law := (roundRat (clampRat ((c.r : Rat) - g4 b 76) ((c.r : Rat) + g4 b 76) rn)).toNat
      let own := zoneProg s z != 1
      let r := match tfind (zone s z).targets 1 with | some v => if own then law else v.toNat | none => if own then law else c.r
      let th : Rat := span / ((max 1 r : Nat) / 1000) / 3600
      let pred := mh - a * dT * th - (g4 b 92 : Rat) / 1000
      let s2 := if !own then s1 else if raw < rmin then note 0x0342 [z, roundRat raw, rmin] s1
        else if raw > rmax then note 0x0342 [z, sField 4 (roundRat raw), rmax] s1 else s1
      let s3 := modParcels z (fun x => if x.id = parcel then { x with pred := some pred } else x) s2
      outDrive z (modZone z (fun q => { q with column := { q.column with r := r, lastPred := pred } }) s3)
  | _, _ => s

/-! The action of an entry. -/

/-- A Weir station (spec/03_configuration.md R101). -/
def isWeir (s : State) (n : Nat) : Bool := (1 ≤ stnType s n && stnType s n ≤ 6) || stnType s n == 0x10
/-- An island station. -/
def isIsland (s : State) (n : Nat) : Bool := 0x20 ≤ stnType s n && stnType s n ≤ 0x22

/-- A SAMPLE for a station waits for the conversion or record that serves it. -/
def sampleStation (n : Nat) (s : State) : State :=
  let now := s.sys.devTime
  if isWeir s n && pllDown s 2 then publish n 0 invalidValue 0 now s
  else if isWeir s n then onWeir (fun w => { w with stations := tmod w.stations n (fun x => { x with awaiting := x.awaiting ++ [now] }) }) s
  else if isIsland s n then onIsland (fun i => { i with awaiting := tmod i.awaiting n (fun l => l ++ [now]) }) s
  else s

/-- The device keeps OUTPUT and INJECT entries from acting: outside RUN. A HOLD for re-execution alone does not, while the latch
holds, nor as it ends (R156; 01_one_view.md R40). -/
def keptBack (s : State) : Bool :=
  match s.sys.mode with
  | .run => false
  | .hold =>
    if s.absorb.reexecuting then s.sys.holdCauses &&& 0x1F != 0 || s.absorb.latchExpired else s.sys.holdCauses != 0
  | _ => true

/-- OUTPUT and INJECT are dispatched without action: outside RUN, and for a held zone (R156). -/
def suppressed (s : State) (e : Entry) : Bool :=
  let held := fun z => z < 16 && ((zone s z).st == 4 || (zone s z).st == 5)
  let own := match e.owner with | .programme z => held z | _ => false
  keptBack s || held (stnZone s e.station) || own

/-- The action of an entry, and its outcome: `code` is DISPATCHED, LATE or JUMPED (R156, R174). -/
def actEntry (e : Entry) (code : Nat) (s : State) : State :=
  match e.kind with
  | 1 => outcome e code s
  | 2 =>
    let s1 := sampleStation e.station s
    let s2 := match e.owner, e.purpose with
      | .programme z, 1 =>
        modParcels z (fun p => if p.id = e.parcel then { p with wantOutlet := some s.sys.devTime } else p) s1
      | _, _ => s1
    outcome e code s2
  | _ =>
    if suppressed s e then
      outcome e 5 (match e.owner with | .programme z => (if e.kind = 4 then doseShort z e.parcel s else s) | _ => s)
    else if s.absorb.reexecuting then onAbsorb (fun a => { a with late := a.late ++ [.action e] }) s
    else
      let s1 := match e.owner, e.purpose with
        | .programme z, 2 => if (zone s z).st = 2 && (zone s z).phase = 4 then horizonUpdate z e.parcel s else s
        | _, _ =>
          if e.kind = 3 then entryDrive e.station e.value s
          else
            let z := match e.owner with | .programme z => z | _ => stnZone s e.station
            pulseDue { chan := stnTerm s e.station, station := e.station, lenUs := e.value.toNat, due := s.sys.devTime,
                       zone := z, parcel := e.parcel } s
      outcome e code s1

/-- An entry takes the next handle. -/
def nextHandle (s : State) : State := onFelt (fun x => { x with nextHandle := x.nextHandle % 4294967295 + 1 }) s

/-- A wheel entry of a zone's programme: dispatched at once, LATE, where its position is reached (R150), else placed;
whether there was room for it. -/
def programmeEntry (e : Entry) (s : State) : Bool × State :=
  let d := posDist (felt s e.felt).pos e.pos
  if d > (horizon (slotK s e.felt) : Int) then (false, s)
  else if d ≤ 0 then (true, actEntry { e with handle := s.felt.nextHandle } 1 (nextHandle s))
  else match roomFor s e with
    | none => (false, wheelFull e s)
    | some sp => (true, putEntry e sp s)

/-- Water of a tempering parcel, g: the target of the application, or the law of R341. -/
def waterFor (s : State) (z : Nat) (mass : Rat) (m : Option Nat) : Option Rat :=
  match zoneProg s z, tfind (zone s z).targets 5 with
  | 1, some w => some (w : Rat)
  | 1, none => none
  | _, _ => match m with
    | some m => some (ratDiv (mass * (((g4 (zb s z) 80 : Int) - (m : Int) : Int) : Rat)) ((100000 - (g4 (zb s z) 80 : Int) : Int) : Rat))
    | none => none

/-- Doses of a TEMPER parcel, planned as it closes (R341). -/
def temperDose (z : Nat) (p : Parcel) (s : State) : State :=
  let b := zb s z
  let used := (List.range 8).filter (fun i => g2 b (2 * i) != 0xFFFF)
  let np := g1 b 88
  let mass := rf32 b 84 * (p.length : Rat)
  let (m, s1) := if zoneProg s z = 1 then ((if p.inMoist = 0xFFFFFFFF then none else some p.inMoist), s) else inletFor z p s
  let s2 := modParcels z (fun q => if q.id = p.id then { q with mass := roundRat mass, massInterval := 0 } else q) s1
  match waterFor s2 z mass m with
  | none => doseShort z p.id s2
  | some w =>
    let s3 := modZone z (fun q =>
      { q with temper := { q.temper with lastM := m.getD q.temper.lastM, lastW := w, lastMass := mass, lastT := 0 } }) s2
    if w ≤ 0 then s3
    else
      let s4 := used.foldl (fun t i =>
        let us := (roundRat (w / ((used.length * np : Nat) * rf32 b (48 + 4 * i)) * 1000)).toNat
        let t0 := modZone z (fun q => { q with temper := { q.temper with lastT := us } }) t
        if us < g4 b 92 then note 0x0360 [z, p.id, 1] (doseShort z p.id t0)
        else
          let len := min us (g4 b 96)
          let t1 := if us > g4 b 96 then note 0x0360 [z, p.id, 2] (doseShort z p.id t0) else t0
          (List.range np).foldl (fun u j =>
            let e : Entry :=
              { owner := .programme z, felt := zoneFelt u z, kind := 4, policy := 1,
                pos := w32 (p.start + g4 b (16 + 4 * i) + j * p.length / np), station := g2 b (2 * i), value := len,
                purpose := 3, parcel := p.id }
            if overlapAtPlanning u e then doseShort z p.id u
            else let (ok, v) := programmeEntry e u; if ok then v else doseShort z p.id v) t1) s3
      if s4.felt.nextHandle = s3.felt.nextHandle then s4
      else modZone z (fun q => { q with temper := { q.temper with dosed := q.temper.dosed + 1 } }) s4

/-- What a zone schedules for a parcel that has closed (R163, R164, R335, R341). -/
def scheduleFor (z : Nat) (p : Parcel) (s : State) : State :=
  let f := zoneFelt s z
  let s1 := if outletStn s z < 128 then
      let e : Entry :=
        { owner := .programme z, felt := f, kind := 2, policy := 1, pos := w32 (p.start + outletPos s z),
          station := outletStn s z, purpose := 1, parcel := p.id }
      let (ok, t) := programmeEntry e s
      if ok then t else modParcels z (fun q => if q.id = p.id then { q with flags := q.flags ||| 0x20 } else q) t
    else s
  match zoneType s z with
  | 1 =>
    let e : Entry :=
      { owner := .programme z, felt := f, kind := 3, policy := 2, pos := w32 (p.start + g4 (zb s z) 84), purpose := 2, parcel := p.id }
    (programmeEntry e s1).2
  | 4 => temperDose z p s1
  | _ => s1

/-- What the inlet values of a parcel amount to (R164). -/
def withMeans (p : Parcel) : Parcel :=
  { p with
    flags := (p.flags &&& 0xFFEF) ||| (if p.nMoist = 0 then 0x10 else 0),
    inMoist := if p.nMoist = 0 then 0xFFFFFFFF else (meanInt p.sumMoist p.nMoist).toNat,
    inTemp := if p.nTemp = 0 then p.inTemp else meanInt p.sumTemp p.nTemp,
    density := if p.nDens = 0 then p.density else (meanInt p.sumDens p.nDens).toNat }

/-- The inlet moisture of a closed parcel among the last 8 that had one (R328). -/
def noteAccepted (z : Nat) (p : Parcel) (s : State) : State :=
  if p.nMoist = 0 then s
  else modZone z (fun x =>
    { x with
      accepted := if x.accepted.any (fun e => e.1 == p.id) then x.accepted.map (fun e => if e.1 = p.id then (p.id, p.inMoist) else e)
        else ((p.id, p.inMoist) :: x.accepted).take 8 }) s

/-- The open parcel closes at a position; its inlet means are taken and its entries placed (R163, R164). -/
def closeParcel (z pos : Nat) (s : State) : State :=
  match (parcels s z).find? isOpen with
  | none => s
  | some p =>
    let q := withMeans { p with flags := p.flags &&& 0xFFFE, length := w32 (pos + 4294967296 - p.start), closeTime := s.sys.devTime }
    let s1 := modParcels z (fun x => if x.id = p.id && isOpen x then q else x) s
    scheduleFor z q (modZone z (fun x => { x with lastParcel := p.id }) (noteAccepted z q s1))

/-- The open parcel is extended (R162, R163). -/
def extendOpen (z : Nat) (s : State) : State :=
  modParcels z (fun p => if isOpen p then { p with flags := p.flags ||| 0x100 } else p) s

/-- The zone's table is full: its open parcel is extended, and 0x0440 recorded once (R163). -/
def tableFull (z : Nat) (s : State) : State :=
  if s.felt.tableFull.contains z then s
  else note 0x0440 [z] (onFelt (fun x => { x with tableFull := z :: x.tableFull }) (extendOpen z s))

/-- No number is at hand: the open parcel is extended until the store succeeds; a store that the energy does not admit is
recorded once (R162). -/
def seqDelayed (z : Nat) (s : State) : State :=
  let waits := match seqStore s with | some x => !x.admitted | none => false
  if s.felt.seqDelayed.contains z || !waits then extendOpen z s
  else note 0x0442 [z, energyMj s] (onFelt (fun x => { x with seqDelayed := z :: x.seqDelayed }) (extendOpen z s))

/-- What held the zone's parcels back is over. -/
def undelayed (z : Nat) (s : State) : State :=
  onFelt (fun x => { x with tableFull := x.tableFull.filter (· != z), seqDelayed := x.seqDelayed.filter (· != z) }) s

/-- The open parcel, where there is one, closes and the next opens; it is extended where the table is full or no number is
at hand (R162, R163). -/
def cutParcel (z closeAt openAt : Nat) (flags : BitVec 16) (s0 : State) : State :=
  let s := reserveSeq s0
  if (parcels s z).length ≥ 4096 then tableFull z s
  else if !haveSeq s then seqDelayed z s
  else openParcel z openAt flags (closeParcel z closeAt (undelayed z s))

/-- The felt is not moving backward (R151, R163, R165). -/
def forwardFelt (s : State) (z : Nat) : Bool := !(felt s (zoneFelt s z)).state.getLsbD 3

/-- A running zone that cuts its own parcels opens one where it has none, and closes one that the felt has carried past
start + parcel_len, moving forward, or an extended one where the felt stands (R162, R163). -/
def cutDue (z : Nat) (s : State) : State :=
  let pos := zonePos s z
  if z ≥ 16 || !cutsOwn s z || !zoneRunning s z || (zoneType s z == 4 && (zone s z).st == 3) then s
  else match (parcels s z).find? isOpen with
    | none => cutParcel z pos pos 0 s
    | some p =>
      let stop := w32 (p.start + zoneParcelLen s z)
      if p.flags.getLsbD 8 then cutParcel z pos pos 0 s
      else if forwardFelt s z && posDist pos stop ≤ 0 then cutParcel z stop stop 0 s
      else s

/-- A stored block of numbers can be issued (R162). DESIGN CHOICE: a zone whose first parcel waited for one opens it where the
felt stands then (R163; notes/assumptions/167.md). -/
def seqStored (e : Nat) (s : State) : State := (zonesOn s).foldl (fun t z =>
  if t.felt.seqDelayed.contains z || (parcels t z).any (fun p => isOpen p && p.flags.getLsbD 8) || !(parcels t z).any isOpen
  then cutDue z t else t) (onFelt (fun x => { x with seqEnd := e }) s)

/-- A value whose conversion time lies within a parcel (R164); the open parcel takes none while the felt moves backward
(R159). -/
def takesValue (s : State) (z t : Nat) (p : Parcel) : Bool :=
  p.openTime ≤ t && (if isOpen p then !(p.flags.getLsbD 6 && (felt s (zoneFelt s z)).state.getLsbD 3) else t < p.closeTime)

/-- A value of a zone's inlet station enters the open parcel, or one closed after the conversion, whose means follow
(R164). `kind` is 0 moisture, 1 temperature, 2 density, 3 mass with its interval; `accept` is false for a refused PROCESS
record (R328). -/
def parcelValue (z kind : Nat) (v : Int) (interval t : Nat) (accept process : Bool) (s : State) : State :=
  let put := fun (p0 : Parcel) =>
    let p := if process then { p0 with flags := p0.flags ||| 0x200 } else p0
    match kind with
    | 0 => if accept then { p with sumMoist := p.sumMoist + v.toNat, nMoist := p.nMoist + 1, samples := min 255 (p.samples + 1) } else p
    | 1 => { p with sumTemp := p.sumTemp + v, nTemp := p.nTemp + 1 }
    | 2 => { p with sumDens := p.sumDens + v.toNat, nDens := p.nDens + 1 }
    | _ => { p with mass := v, massInterval := interval }
  let s1 := modParcels z (fun p => if !takesValue s z t p then p else if isOpen p then put p else withMeans (put p)) s
  if kind = 0 && accept then
    ((parcels s1 z).filter (fun p => !isOpen p && takesValue s z t p)).foldl (fun u p => noteAccepted z p u) s1
  else s1

/-- A grain temperature seen by every parcel in the zone (R166). DESIGN CHOICE: the stations of type 0x0022 of the zone tell it
(notes/assumptions/169.md). -/
def parcelTemp (z : Nat) (v : Int) (s : State) : State :=
  modParcels z (fun p =>
    { p with
      tempMax := if p.nAll = 0 then v else max p.tempMax v, sumAll := p.sumAll + v, nAll := p.nAll + 1,
      tempMean := meanInt (p.sumAll + v) (p.nAll + 1) }) s

/-! Leaving and arriving (R165–R168). -/

/-- Residence so far, or until the parcel left, ms (R166). -/
def residence (s : State) (p : Parcel) : Nat :=
  if p.flags.getLsbD 1 then p.residenceMs else w32 (nsMs (s.sys.devTime - p.openTime))

/-- The 64-byte record (R166). -/
def parcelRecord (s : State) (p : Parcel) : List Byte :=
  p4 p.id ++ p2 p.flags.toNat ++ p1 p.zone ++ p1 p.samples ++ p4 p.start ++ p4 p.length ++ p4 p.inMoist ++ p4 p.outMoist ++
    q4 p.inTemp ++ q4 p.tempMax ++ q4 p.tempMean ++ q4 p.mass ++ p4 p.massInterval ++ q8 p.enteredAt ++ p4 (residence s p) ++
    p4 p.density ++ zeros 4

/-- A parcel arrives at an adopting zone (R167): the open one closes, and one with the same ID opens. An IDLE zone adopts
none, and a full table is met as R163 meets it (notes/assumptions/142.md). -/
def adopt (z id : Nat) (s : State) : State :=
  let pos := zonePos s z
  let s1 := closeParcel z pos s
  let p : Parcel :=
    { newParcel s1 with id := id, flags := 0x5, zone := z, start := pos }
  if (zone s z).st = 0 || zoneParcelLen s z = 0 then s
  else if (parcels s z).length ≥ 4096 then tableFull z s
  else setParcels z (parcels s1 z ++ [p]) (drawn 6 s1)

/-- Zones of this device that adopt from zone `z` of device `dev`. -/
def adopters (s : State) (dev z : Nat) : List Nat :=
  (zonesOn s).filter (fun y => upstreamDev s y == dev && upstreamZone s y == z)

/-- A record of the table is freed: a parcel extended for want of room closes (R163). -/
def recordFreed (z : Nat) (s : State) : State :=
  if !s.felt.tableFull.contains z then s
  else if cutsOwn s z then cutDue z s
  else undelayed z (closeParcel z (zonePos s z) s)

/-- A parcel leaves: its record goes to the history, once stored, and downstream (R165; 01_one_view.md R31). -/
def leaveParcel (z : Nat) (p : Parcel) (s : State) : State :=
  let q : Parcel :=
    { p with flags := p.flags ||| 0x2, residenceMs := residence s p }
  let s1 := setParcels z ((parcels s z).filter (fun x => x.id != p.id)) s
  let s2 := requestStore (.history q.id z) (onFelt (fun x => { x with leaving := x.leaving ++ [q] }) s1)
  let ys := adopters s2 (plantAddr s2) z
  recordFreed z (if ys.isEmpty then sendHandoff z q.id (parcelRecord s2 q) s2 else ys.foldl (fun t y => adopt y q.id t) s2)

/-- The record of a parcel that left takes its place in the history, at least 2,000,000 records deep, or is lost with its
store (R165). -/
def historyStored (id z : Nat) (ok : Bool) (s : State) : State :=
  let mine := fun (p : Parcel) => p.id == id && p.zone == z
  match s.felt.leaving.find? mine with
  | none => s
  | some q =>
    onFelt (fun x =>
      { x with
        leaving := x.leaving.eraseP mine,
        history := if ok then x.history.drop (x.history.length - 1999999) ++ [q] else x.history }) s

/-- Parcels of a zone whose leave position is reached leave in order (R165). DESIGN CHOICE: after a backward jump one that is
reached leaves before an earlier one that is not (notes/assumptions/168.md). -/
def leavers (s : State) (z : Nat) : List Parcel :=
  (parcels s z).filter (fun p => !isOpen p && posDist (zonePos s z) (p.start + p.length + pathLen s z) ≤ 0)

def leaveAll (z : Nat) (s : State) : State := (leavers s z).foldl (fun t p => leaveParcel z p t) s

/-- The first MOISTURE record after an outlet SAMPLE enters the parcel and corrects the bias (R164, R335). -/
def outletMoisture (z m : Nat) (t1 : Nat) (process : Bool) (s : State) : State :=
  (parcels s z).foldl (fun u p =>
    match p.wantOutlet with
    | none => u
    | some t0 =>
      if t1 ≤ t0 then u
      else if process && refusesProcess u z then
        modParcels z (fun x => if x.id = p.id then { x with wantOutlet := none, flags := x.flags ||| 0x220 } else x) u
      else
        let u1 := modParcels z (fun x => if x.id = p.id then
          { x with wantOutlet := none, outMoist := m, flags := if process then x.flags ||| 0x200 else x.flags } else x) u
        match p.pred with
        | some pr =>
          if p.flags &&& 0xE0 != 0 then u1
          else modZone z (fun q =>
            { q with column := { q.column with b := q.column.b + rf32 (zb u z) 104 * ((m : Rat) / 1000 - pr) } }) u1
        | none => u1) s

end Sys2Proof.Machine
end

