-- ==== Sys2Proof/Machine/Crypto.lean ====
section
/-! DEFINITION. Check values and signatures the spec names: CRC-32 of IEEE 802.3 (spec/06_watermark.md R231, R239),
the CRC-16 of checked frames is in HostOps; SHA-256, HMAC-SHA-256 (spec/13_line_uplink.md R462) and ECDSA on P-256
(spec/06_watermark.md R245, spec/14_freshet.md R474). -/

namespace Sys2Proof.Machine

/-- One reflected CRC-32 step over a bit. -/
def crc32Bit (c : Nat) : Nat := if c % 2 = 1 then (c / 2) ^^^ 0xEDB88320 else c / 2

/-- The CRC register after one byte. -/
def crc32Byte (c : Nat) (b : Byte) : Nat := (List.range 8).foldl (fun x _ => crc32Bit x) (c ^^^ b.toNat)

/-- Running CRC-32: continues from the CRC of what came before (R239). -/
def crc32From (prev : Nat) (bs : List Byte) : Nat := (bs.foldl crc32Byte (prev ^^^ 0xFFFFFFFF)) ^^^ 0xFFFFFFFF

/-- CRC-32 of a byte string. -/
def crc32 (bs : List Byte) : Nat := crc32From 0 bs

/-! SHA-256 (FIPS 180-4). -/

abbrev W := BitVec 32

/-- The greatest number of `b` bits, above those of `r`, whose power `e` does not exceed `x`. -/
def rootBits (e x : Nat) : Nat → Nat → Nat
  | 0, r => r
  | b + 1, r => rootBits e x b (if (r + 2 ^ b) ^ e ≤ x then r + 2 ^ b else r)

/-- First 32 bits of the fractional part of the root of degree `e` of `p`. -/
def rootFraction (e p : Nat) : Nat := rootBits e (p * 2 ^ (32 * e)) 37 0 % 4294967296

/-- The primes below a bound. -/
def primesBelow (n : Nat) : List Nat :=
  (List.range n).filter (fun p => decide (2 ≤ p) && (List.range p).all (fun d => decide (d < 2) || p % d != 0))

/-- The round constants: from the cube roots of the first 64 primes. -/
def shaK : List Nat := (primesBelow 312).map (rootFraction 3)

def rotr (x : W) (n : Nat) : W := (x >>> n) ||| (x <<< (32 - n))

/-- The working variables a–h. -/
structure Sha where
  a : W
  b : W
  c : W
  d : W
  e : W
  f : W
  g : W
  h : W
  deriving DecidableEq, Repr

/-- Their start: from the square root of a prime each. -/
def sha0 : Sha :=
  let k (p : Nat) : W := BitVec.ofNat 32 (rootFraction 2 p)
  ⟨k 2, k 3, k 5, k 7, k 11, k 13, k 17, k 19⟩

def shaRound (v : Sha) (k w : W) : Sha :=
  let s1 := rotr v.e 6 ^^^ rotr v.e 11 ^^^ rotr v.e 25
  let ch := (v.e &&& v.f) ^^^ (~~~v.e &&& v.g)
  let t1 := v.h + s1 + ch + k + w
  let s0 := rotr v.a 2 ^^^ rotr v.a 13 ^^^ rotr v.a 22
  let mj := (v.a &&& v.b) ^^^ (v.a &&& v.c) ^^^ (v.b &&& v.c)
  ⟨t1 + (s0 + mj), v.a, v.b, v.c, v.d + t1, v.e, v.f, v.g⟩

/-- The next message word from the last sixteen, newest first. -/
def shaNext (l : List W) : W :=
  let x := l.getD 1 0
  let y := l.getD 14 0
  (rotr x 17 ^^^ rotr x 19 ^^^ (x >>> 10)) + l.getD 6 0 + (rotr y 7 ^^^ rotr y 18 ^^^ (y >>> 3)) + l.getD 15 0

/-- Message schedule, newest first. -/
def shaSched : Nat → List W → List W
  | 0, l => l
  | n + 1, l => shaSched n (shaNext l :: l)

def shaBlock (v : Sha) (block : List Byte) : Sha :=
  let ws := (shaSched 48 ((chunks 4 16 block).map (fun c => BitVec.ofNat 32 (beNat c))).reverse).reverse
  let u := (ws.zip shaK).foldl (fun u p => shaRound u (BitVec.ofNat 32 p.2) p.1) v
  ⟨v.a + u.a, v.b + u.b, v.c + u.c, v.d + u.d, v.e + u.e, v.f + u.f, v.g + u.g, v.h + u.h⟩

/-- SHA-256 digest, 32 bytes, most significant byte first. -/
def sha256 (m : List Byte) : List Byte :=
  let n := m.length
  let pad := [0x80] ++ zeros ((119 - n % 64) % 64) ++ beBytes 8 (8 * n)
  let v := (chunks 64 (n / 64 + 2) (m ++ pad)).foldl shaBlock sha0
  [v.a, v.b, v.c, v.d, v.e, v.f, v.g, v.h].flatMap (fun w => beBytes 4 w.toNat)

/-- HMAC-SHA-256 with a key of at most 64 bytes. -/
def hmac (key msg : List Byte) : List Byte :=
  let k := fit 64 key
  sha256 (k.map (· ^^^ 0x5c) ++ sha256 (k.map (· ^^^ 0x36) ++ msg))

/-! ECDSA on P-256 (FIPS 186-4), with points in Jacobian coordinates; z = 0 is the point at infinity. -/

def pP : Nat := 0xffffffff00000001000000000000000000000000ffffffffffffffffffffffff
def pN : Nat := 0xffffffff00000000ffffffffffffffffbce6faada7179e84f3b9cac2fc632551
def pB : Nat := 0x5ac635d8aa3a93e7b3ebbd55769886bc651d06b0cc53b0f63bce3c3e27d2604b
def pGx : Nat := 0x6b17d1f2e12c4247f8bce6e563a440f277037d812deb33a0f4a13945d898c296
def pGy : Nat := 0x4fe342e2fe1a7f9b8ee7eb4a7c0f9e162bce33576b315ececbb6406837bf51f5

structure Pt where
  x : Nat
  y : Nat
  z : Nat
  deriving DecidableEq, Repr

def subP (a b : Nat) : Nat := (a + pP - b % pP) % pP

def ptDouble (p : Pt) : Pt :=
  if p.z = 0 || p.y = 0 then ⟨1, 1, 0⟩
  else
    let yy := p.y * p.y % pP
    let s := 4 * p.x * yy % pP
    let zz := p.z * p.z % pP
    let m := 3 * subP p.x zz * (p.x + zz) % pP
    let x := subP (m * m) (2 * s)
    ⟨x, subP (m * subP s x) (8 * yy * yy), 2 * p.y * p.z % pP⟩

def ptAdd (p q : Pt) : Pt :=
  if p.z = 0 then q
  else if q.z = 0 then p
  else
    let z1 := p.z * p.z % pP
    let z2 := q.z * q.z % pP
    let u1 := p.x * z2 % pP
    let u2 := q.x * z1 % pP
    let s1 := p.y * z2 * q.z % pP
    let s2 := q.y * z1 * p.z % pP
    if u1 = u2 then (if s1 = s2 then ptDouble p else ⟨1, 1, 0⟩)
    else
      let h := subP u2 u1
      let r := subP s2 s1
      let hh := h * h % pP
      let hhh := h * hh % pP
      let v := u1 * hh % pP
      let x := subP (subP (r * r) hhh) (2 * v)
      ⟨x, subP (r * subP v x) (s1 * hhh), p.z * q.z * h % pP⟩

/-- `k` times a point, over the low `bits` bits of `k`. -/
def ptMul : Nat → Nat → Pt → Pt
  | 0, _, _ => ⟨1, 1, 0⟩
  | bits + 1, k, p =>
    let q := ptMul bits (k / 2) (ptDouble p)
    if k % 2 = 1 then ptAdd p q else q

/-- Power modulo m, over the low `bits` bits of the exponent. -/
def powMod : Nat → Nat → Nat → Nat → Nat
  | 0, _, _, m => 1 % m
  | bits + 1, b, e, m =>
    let q := powMod bits (b * b % m) (e / 2) m
    if e % 2 = 1 then b * q % m else q

/-- Inverse modulo a prime. -/
def invMod (a m : Nat) : Nat := powMod 256 (a % m) (m - 2) m

/-- Affine x and y. -/
def ptAffine (p : Pt) : Nat × Nat :=
  let i := invMod p.z pP
  let ii := i * i % pP
  (p.x * ii % pP, p.y * ii * i % pP)

def pG : Pt := ⟨pGx, pGy, 1⟩

/-- Public key of a private key. -/
def publicKey (d : Nat) : Nat × Nat := ptAffine (ptMul 256 (d % pN) pG)

/-- Signature (r, s) over a message with private key `d` and per-signature number `k`. -/
def ecdsaSign (d k : Nat) (msg : List Byte) : Nat × Nat :=
  let e := beNat (sha256 msg)
  let r := (ptAffine (ptMul 256 (k % pN) pG)).1 % pN
  (r, invMod k pN * (e + r * d) % pN)

/-- Whether a signature verifies against a public key on the curve. -/
def ecdsaVerify (pub : Nat × Nat) (r s : Nat) (msg : List Byte) : Bool :=
  let onCurve := pub.1 < pP && pub.2 < pP && pub.2 * pub.2 % pP == (pub.1 * pub.1 * pub.1 + subP 0 (3 * pub.1) + pB) % pP
  if !onCurve || r = 0 || r ≥ pN || s = 0 || s ≥ pN then false
  else
    let e := beNat (sha256 msg)
    let w := invMod s pN
    let q := ptAdd (ptMul 256 (e * w % pN) pG) (ptMul 256 (r * w % pN) ⟨pub.1, pub.2, 1⟩)
    q.z != 0 && (ptAffine q).1 % pN == r

end Sys2Proof.Machine
end

