-- ==== Sys2Proof/Machine/IslandOps.lean ====
section
/-! DEFINITION. The Watermark island: parameters and their checksum, the audit trail and its chain, grades, signed
records and their sequence numbers (spec/06_watermark.md R220–R250). -/

namespace Sys2Proof.Machine

/-! Parameters (R231). -/

def paramObj (s : State) (cls i : Nat) : Option IParam := s.island.params.find? (fun p => p.cls == cls && p.index == i)

/-- Body of a parameter object; empty where there is none. -/
def paramBody (s : State) (cls i : Nat) : List Byte := match paramObj s cls i with | some p => p.body | none => []

/-- Header and body of an object. -/
def paramBytes (p : IParam) : List Byte :=
  p1 p.cls ++ zeros 1 ++ p2 p.index ++ p2 p.format ++ zeros 2 ++ p4 p.body.length ++ p.body

def paramObjCrc (p : IParam) : Nat := crc32 (paramBytes p)

/-- Order of objects by class, then index. -/
def paramLe (a b : IParam) : Bool := decide (a.cls * 65536 + a.index ≤ b.cls * 65536 + b.index)

/-- param_crc of a set. -/
def paramCrcOf (ps : List IParam) : Nat := crc32 ((sortBy paramLe ps).flatMap paramBytes)

def paramCrc (s : State) : Nat := paramCrcOf s.island.params

/-- The set in force at a device time: the oldest whose end is later, else the present one (R232). -/
def paramsAt (s : State) (t0 : Nat) : List IParam :=
  match s.island.oldParams.reverse.find? (fun e => decide (t0 < e.1)) with | some e => e.2 | none => s.island.params

/-- An effect under another parameter set. -/
def withParams (ps : List IParam) (f : State → State) (s : State) : State :=
  onIsland (fun i => { i with params := s.island.params }) (f (onIsland (fun i => { i with params := ps }) s))

/-- An effect under the parameter set in force when its measurement interval began (R232). -/
def underParams (t0 : Nat) (f : State → State) (s : State) : State :=
  if t0 < s.island.committedAt then withParams (paramsAt s t0) f s else f s

/-- The island runs and serves its link (R223). -/
def islandUp (s : State) : Bool := s.island.running && !s.island.failed && !s.power.lastGasp

/-- Every command of the island answers TIMEOUT while its link is lost, or the island does not serve it (R257). -/
def linkDown (s : State) : Bool := !s.island.linkUp || !islandUp s

/-- Calendar time of the island at a device time (R220). -/
def islandCal (s : State) (t : Nat) : Int := (nsMs t : Int) + s.island.calOffset

/-! Audit trail (R238–R242). The trail and the waiting entries are kept newest first. -/

def auditHead (a : Audit) : List Byte :=
  p4 a.seq ++ p2 a.epoch ++ p1 a.kind ++ p1 a.actor ++ q8 a.calendar ++ fit 24 a.data ++ p4 a.paramCrc

/-- The 48-byte entry. -/
def auditBytes (a : Audit) : List Byte := auditHead a ++ p4 a.chain

/-- An entry is written: it takes its seq, param_crc and chain (R225, R239); the 8,192nd is TRAIL_FULL (R242). -/
def appendAudit (a : Audit) (s : State) : State :=
  let n := s.island.trail.length
  if n ≥ 8192 then s
  else
    let b : Audit := if n = 8191 then { a with kind := 0x0D, actor := 0, data := [] } else a
    let c : Audit := { b with seq := n, paramCrc := paramCrc s }
    let prev := match s.island.trail.head? with | some p => p.chain | none => 0
    let s1 := onIsland (fun i => { i with trail := { c with chain := crc32From prev (auditHead c) } :: i.trail }) s
    if n + 1 = 7680 then note 0x0652 [2, n + 1] s1 else if n + 1 = 8192 then note 0x0652 [3, n + 1] s1 else s1

/-- An event of the trail: it waits for its store (R225). An XSR7-BP1 has no trail (R230). -/
def audit (kind actor : Nat) (data : List Byte) (s : State) : State :=
  if !s.sys.legal || s.island.trail.length + s.island.waiting.length ≥ 8192 then s
  else
    let a : Audit :=
      { kind := kind, actor := actor, epoch := s.island.epoch, calendar := islandCal s s.sys.devTime, data := fit 24 data }
    requestStore .islandAudit (onIsland (fun i => { i with waiting := a :: i.waiting }) s)

/-- The oldest waiting entry is written. -/
def writeAudit (s : State) : State :=
  match s.island.waiting.getLast? with
  | some a => appendAudit a (onIsland (fun i => { i with waiting := i.waiting.dropLast }) s)
  | none => s

/-! Grades (R227, R247, R248). -/

/-- TS12 or TS13 as the grade sees it: a substituted sensor counts as 125 °C (18_power_reservoir_thermal.md R573). -/
def gradeTemp (s : State) (i : Nat) : Int :=
  let k := tget s.power.sensors i
  if k.substituted then 125000 else k.raw

/-- Island temperature condition of reason 8, with its two thresholds: it follows every sample (R248). -/
def refreshTempHot (s : State) : State :=
  let a := gradeTemp s 12
  let b := gradeTemp s 13
  let odd := (tget s.power.sensors 12).suspect || (tget s.power.sensors 13).suspect
  let hot := a > 110000 || b > 110000 || odd
  let cool := a < 105000 && b < 105000 && !odd
  onIsland (fun i =>
    { i with
      tempHot := hot || (i.tempHot && !cool), hotAt := if !i.tempHot && hot then s.sys.devTime else i.hotAt,
      hotEnd := if i.tempHot && !hot && cool then s.sys.devTime else i.hotEnd }) s

/-- A condition that last began and ceased at these times held somewhere between `t0` and `t1`: it holds and began by then, or an
earlier time of it reached into the interval (R247). -/
def heldIn (now : Bool) (began ended t0 t1 : Nat) : Bool :=
  (now && decide (began ≤ t1)) || (decide (0 < ended) && decide (t0 < ended) && (now || decide (began ≤ t1)))

/-- SEAL# asserted anywhere in an interval (R228). -/
def sealOpenIn (s : State) (t0 t1 : Nat) : Bool := heldIn s.island.sealPin s.island.openedDev s.island.closedAt t0 t1

/-- Reasons of an interval that hold for every channel (R247, R248). -/
def commonReasons (s : State) (t0 t1 : Nat) : BitVec 16 :=
  let i := s.island
  BitVec.ofNat 16 (b01 (s.sys.legal && sealOpenIn s t0 t1) + b01 i.tampered * 2 + b01 (heldIn i.paramFault i.faultFrom i.faultEnd t0 t1) * 4 +
    b01 i.trailFault * 8 + b01 (heldIn i.tempHot i.hotAt i.hotEnd t0 t1) * 128 + b01 (!s.sys.legal) * 256)

/-- Lowest reason present; 0 with none. -/
def lowestReason (r : BitVec 16) : Nat := match firstNat 16 (fun n => r.getLsbD n) with | some n => n + 1 | none => 0

/-! Records (R243–R245). -/

/-- Bytes 0–63 with their seq. -/
def putSeq (b : List Byte) (n : Nat) : List Byte := b.take 4 ++ p4 n ++ b.drop 8

/-- A signed record goes to the main side, or to the link buffer of 1,024 (R221). -/
def sendRecord (rec : List Byte) (s : State) : State :=
  onIsland (fun i =>
    if i.linkUp then { i with outbox := i.outbox ++ [rec] }
    else if i.buffered.length < 1024 then { i with buffered := i.buffered ++ [rec] }
    else { i with buffered := i.buffered.drop 1 ++ [rec], dropped := i.dropped + 1 }) s

/-- The next sequence block is asked for when 1,024 numbers remain (R225). -/
def askSeq (s : State) : State :=
  if !s.island.seqAsked && s.island.seqEnd ≤ s.island.seqNext + 1024 then
    requestStore .islandSeq (onIsland (fun i => { i with seqAsked := true }) s)
  else s

/-- A result takes the next number and the island's signature (R243, R245). -/
def signed (head : List Byte) (s : State) : List Byte × State :=
  let msg := putSeq head s.island.seqNext
  let (r, g) := ecdsaSign Config.islandKey (Config.signNonce s.fresh) msg
  (msg ++ leBytes 32 r ++ leBytes 32 g,
    drawn 1 (onIsland (fun i => { i with seqNext := i.seqNext + 1, lastSigned := some i.seqNext }) s))

/-- A result is signed and sent. -/
def signRecord (head : List Byte) (s : State) : State :=
  let (rec_, s1) := signed head s
  askSeq (sendRecord rec_ s1)

/-- Sequence number that the next record will carry. -/
def nextSeqNo (s : State) : Nat := w32 (s.island.seqNext + s.island.unsigned.length)

/-- The island makes a record with the reasons found: graded, then signed, or held unsigned while no number is at hand (R225,
R247). A diagnostic record (rtype from 0x10) is always PROCESS (R243). -/
def makeGraded (term rtype : Nat) (why : BitVec 16) (t0 t1 : Nat) (body : List Byte) (s : State) : State :=
  if !islandUp s then s
  else
    let mid := (t0 + t1) / 2
    let grade := if why = 0 && rtype < 0x10 then 0 else 1
    let head := p1 1 ++ p1 rtype ++ p1 grade ++ p1 (lowestReason why) ++ p4 0 ++ p2 s.island.epoch ++ p1 term ++ zeros 1 ++
      p4 (paramCrc s) ++ p8 mid ++ q8 (islandCal s mid) ++ fit 32 body
    let s1 := if rtype < 0x10 then onIsland (fun i => { i with reasons := tset i.reasons term why }) s else s
    if s1.island.unsigned.isEmpty && s1.island.seqNext < s1.island.seqEnd then signRecord head s1
    else onIsland (fun i =>
      if i.unsigned.length < 1024 then { i with unsigned := i.unsigned ++ [head] }
      else { i with unsigned := i.unsigned.drop 1 ++ [head], dropped := i.dropped + 1 }) s1

/-- A record of the interval from `t0` to `t1`; `own` are the channel's own reasons. -/
def makeRecord (term rtype : Nat) (own : BitVec 16) (t0 t1 : Nat) (body : List Byte) (s : State) : State :=
  let s1 := refreshTempHot s
  makeGraded term rtype (commonReasons s1 t0 t1 ||| own) t0 t1 body s1

/-- A stored reservation: the held results are signed and sent in order (R225). -/
def newSeqBlock (s : State) : State :=
  let hs := s.island.unsigned
  hs.foldl (fun t h => signRecord h t)
    (onIsland (fun i => { i with unsigned := [], seqAsked := false, seqEnd := i.seqEnd + 4096 }) s)

/-! Stations (R250). -/

/-- The enabled station on an island terminal (R105). -/
def islandStn (s : State) (term : Nat) : Option Nat := stationAt s 6 term

/-- The enabled Moisture station. -/
def moistureStn (s : State) : Option Nat := match stationsOfType s 0x20 with | n :: _ => some n | [] => none

/-- The island receives the selection of the Moisture station over its link (spec/07_moisture_engine.md R280). -/
def takeSelection (s : State) : State :=
  match moistureStn s with
  | none => s
  | some m =>
    let n := g1 (stnPart s m) 0
    if !s.island.linkUp || !islandUp s || s.engine.calLog.head?.map (·.2) == some n then s
    else onEngine (fun e => { e with calLog := (s.sys.devTime, n) :: e.calLog.take 15 }) s

end Sys2Proof.Machine
end

