-- ==== Sys2Proof/Machine/WeighOps.lean ====
section
/-! DEFINITION. The load-cell channels: calibration, mass and stability, zero and tare, requests, the hopper cycle and
its records (spec/08_weighing.md R296–R310). Channels are named by island terminal, 1 and 2. -/

namespace Sys2Proof.Machine

/-! The WEIGH_CAL body (R296). -/

def wcal (s : State) (c : Nat) : List Byte := if c = 0 then [] else paramBody s 3 (c - 1)
def wTotal (s : State) (c : Nat) : Bool := g1 (wcal s c) 1 == 1
def wFilter (s : State) (c : Nat) : Nat := g1 (wcal s c) 2
def wMax (s : State) (c : Nat) : Nat := g4 (wcal s c) 4
def wE (s : State) (c : Nat) : Nat := g4 (wcal s c) 8
def wMin (s : State) (c : Nat) : Nat := g4 (wcal s c) 12
def wStableMs (s : State) (c : Nat) : Nat := g2 (wcal s c) 30
def wSettleMs (s : State) (c : Nat) : Nat := g2 (wcal s c) 32

def wch (s : State) (c : Nat) : WChan := tget s.wgt c
def modW (c : Nat) (f : WChan → WChan) (s : State) : State := onWgt (fun t => tmod t c f) s

/-- A channel is a scale, and excited, while its station and its calibration exist (R311). -/
def wOn (s : State) (c : Nat) : Bool := !(wcal s c).isEmpty && (islandStn s c).isSome

/-! Signal and mass (R298, R299). -/

/-- Raw samples of the filter window, and the valid ones. -/
def wWindow (s : State) (c : Nat) : List (Option Int) := (wch s c).raws.take (wFilter s c)
def wValid (s : State) (c : Nat) : List Int := (wWindow s c).filterMap id

/-- End of the filter window: the last raw sample; before any, now (R298). -/
def wEnd (s : State) (c : Nat) : Nat := (wch s c).lastRaw.getD s.sys.devTime

/-- Mean signal in nV/V; none with no valid sample. -/
def wMean (s : State) (c : Nat) : Option Rat :=
  let v := wValid s c
  if v.isEmpty then none else some ((v.sum : Rat) / ((2 * v.length : Nat) : Rat))

/-- A window with fewer than half of its raw samples valid gives no mass (R295). -/
def wSignal (s : State) (c : Nat) : Option Rat := if 2 * (wValid s c).length < wFilter s c then none else wMean s c

/-- Mass of a signal at zero offset 0, unrounded, in g. -/
def wLaw (s : State) (c : Nat) (x : Rat) : Rat :=
  let d := x - (i4 (wcal s c) 16 : Int)
  rf32 (wcal s c) 20 * d + rf32 (wcal s c) 24 * d * d

/-- Unrounded mass, before the checks for no mass. -/
def wMass (s : State) (c : Nat) : Option Rat := (wSignal s c).map (fun x => wLaw s c x - (wch s c).zeroOffset)

/-- A mass rounded to whole intervals. -/
def wRound (s : State) (c : Nat) (m : Rat) : Int := roundRat (m / (max 1 (wE s c) : Nat)) * (wE s c : Int)

def wOver (s : State) (c : Nat) (m : Rat) : Bool := wRound s c m > (wMax s c + 9 * wE s c : Nat)
def wUnder (s : State) (c : Nat) (m : Rat) : Bool := wRound s c m < -(20 * wE s c : Nat)

/-- Gross in g; none when the channel gives no mass. -/
def wGross (s : State) (c : Nat) : Option Int :=
  match wMass s c with
  | some m => if (wch s c).z0.isNone || wOver s c m || wUnder s c m then none else some (wRound s c m)
  | none => none

/-- A channel is switched off, or on again: its filter and stability windows begin anew (R313). -/
def windowClears (w : WChan) : WChan := { w with raws := [], causes := [], lastRaw := none, masses := [], stable := false }

/-- A filtered value joins the stability window (R299). -/
def wPush (c : Nat) (s : State) : State :=
  let now := s.sys.devTime
  let span := wStableMs s c * 1000000
  match wSignal s c with
  | none => modW c (fun w => { w with masses := [], stable := false }) s
  | some x =>
    let l := (now, wLaw s c x) :: (wch s c).masses
    let inWin := l.filter (fun e => now ≤ e.1 + span)
    let old := (l.filter (fun e => !(now ≤ e.1 + span))).take 1
    let edge := inWin.any (fun e => e.1 + span = now)
    let ms := inWin.map (·.2)
    let hi := ms.foldl max (wLaw s c x)
    let lo := ms.foldl min (wLaw s c x)
    let ok := (edge || !old.isEmpty) && decide (hi - lo ≤ (g2 (wcal s c) 28 : Rat) * (wE s c : Nat) / 10)
    modW c (fun w => { w with masses := inWin ++ old, stable := ok }) s

/-! Records (R307–R310). -/

/-- Reason 5 of a weighing record (R309). -/
def wNoLegal (s : State) (c : Nat) : Bool := (wcal s c).isEmpty || g1 (wcal s c) 0 == 0

def invalidMass : Nat := 2147483648

/-- A mass field. -/
def wField (m : Option Int) : List Byte := match m with | some v => q4 (sField 4 v) | none => p4 invalidMass

/-- Fault bits of wflags that a channel's record carries: those of a standing fault, and, with fewer than half of the
window's samples valid, those under which the others were discarded (R295). -/
def wFaultBits (s : State) (c : Nat) : Nat :=
  let w := wch s c
  let kept := if (wSignal s c).isSome then [] else w.causes.take (wFilter s c)
  kept.foldl (· ||| ·) (b01 w.openWire * 64 + b01 w.excFault * 128)

/-- wflags of R307. -/
def wflags (s : State) (c : Nat) : Nat :=
  let w := wch s c
  let m := wMass s c
  b01 w.stable + b01 (match m with | some v => w.z0.isSome && decide (4 * absRat v ≤ (wE s c : Nat)) | none => false) * 2 +
    b01 (w.tare != 0) * 4 + b01 (match m with | some v => w.z0.isSome && wOver s c v | none => false) * 8 +
    b01 (match m with | some v => w.z0.isSome && wUnder s c v | none => false) * 16 + b01 w.z0.isNone * 32 +
    wFaultBits s c

/-- A MASS record of the present filter window (R307); its interval is the filter window, which ends with the last raw
sample, and its parameters those in force when that began (R298, R232). -/
def massRecord (c cause : Nat) (s0 : State) : State :=
  let end_ := wEnd s0 c
  underParams (end_ - wFilter s0 c * 10000000) (fun s =>
  let w := wch s c
  let gross := wGross s c
  let body := wField gross ++ wField (gross.map (· - w.tare)) ++ q4 w.tare ++ p4 (wE s c) ++
    q4 (sField 4 (roundRat ((wMean s c).getD (Config.freeRat s.fresh)))) ++ q4 (sField 4 (roundRat w.zeroOffset)) ++
    p1 (if w.first then 5 else cause) ++ p1 (wflags s c) ++ p2 (wValid s c).length ++ zeros 4
  let why : BitVec 16 := BitVec.ofNat 16 (b01 (wNoLegal s c) * 16 + b01 gross.isNone * 32)
  let no := nextSeqNo s
  modW c (fun w => { w with first := false, lastMassSeq := no })
    (makeRecord c 2 why (end_ - wFilter s c * 10000000) end_ body (drawn 1 s))) s0

/-- A HOPPER_CYCLE record, from the start of the full value's filter window to the end of the empty value's (R308); an
interval of which an end is missing is closed with the present time (notes/assumptions/148.md). Its reasons are those met by its
end (R247). -/
def cycleRecord (c : Nat) (full empty : Option Int) (load total : Int) (flags : BitVec 8) (s : State) : State :=
  let w := wch s c
  let body := p4 (w32 w.cycleNo) ++ wField full ++ wField empty ++ q4 (sField 4 load) ++ q8 total ++ p4 (wE s c) ++
    p2 (uField 2 w.settleMs) ++ p1 flags.toNat ++ zeros 1
  let why : BitVec 16 := BitVec.ofNat 16 (b01 (wNoLegal s c) * 16 + b01 (flags &&& 0x67 != 0) * 32)
  let now := s.sys.devTime
  let t0 := w.fullStart.getD now
  let no := nextSeqNo s
  let s1 := refreshTempHot (if flags &&& 0x77 != 0 then note 0x0813 [c, w.cycleNo, flags.toNat] s else s)
  let met := w.heldReasons ||| (if w.emptyEnd.isSome then 0 else commonReasons s1 t0 now)
  modW c (fun w => { w with lastCycleSeq := no }) (makeGraded c 3 (met ||| why) t0 (w.emptyEnd.getD now) body s1)

/-! Zero and tare (R300, R301). -/

/-- The zero offset becomes `z`; an initial zero sets the reference too. `kind` of 0x0810 is 0 initial, 1
semi-automatic (notes/assumptions/21.md). -/
def setZero (c source : Nat) (z : Rat) (initial : Bool) (s : State) : State :=
  let s1 := modW c (fun w =>
    { w with zeroOffset := z, z0 := if initial then some z else w.z0, zeroTried := true }) s
  massRecord c (if initial then 5 else 2) (note 0x0810 [c, source, if initial then 0 else 1, roundRat z] s1)

/-- The status of a ZERO, and its effect. -/
def doZero (c source : Nat) (s : State) : Nat × State :=
  let w := wch s c
  match wSignal s c with
  | none => (sLIMIT, s)
  | some x =>
    let m0 := wLaw s c x
    let max_ : Rat := (wMax s c : Nat)
    match w.z0 with
    | none => if 100 * absRat m0 ≤ (g1 (wcal s c) 3 : Rat) * max_ then (sOK, setZero c source m0 true s) else (sLIMIT, s)
    | some z0 => if 50 * absRat (m0 - z0) ≤ max_ && !wOver s c (m0 - w.zeroOffset) && !wUnder s c (m0 - w.zeroOffset)
        then (sOK, setZero c source m0 false s) else (sLIMIT, s)

/-- The initial zero at the first stable value of an island start (R300). -/
def tryInitialZero (c : Nat) (s : State) : State :=
  let w := wch s c
  if w.zeroTried || !w.stable || w.z0.isSome then s
  else (doZero c 0 (modW c (fun w => { w with zeroTried := true }) s)).2

def doTare (c source : Nat) (s : State) : Nat × State :=
  match wGross s c with
  | some g =>
    if 0 < g && g ≤ (wMax s c : Int) then
      (sOK, massRecord c 3 (note 0x0811 [c, source, g] (modW c (fun w => { w with tare := g }) s)))
    else (sLIMIT, s)
  | none => (sLIMIT, s)

/-! The hopper cycle (R304–R306). -/

/-- A transition asks for its store; the state advances once it is written. `next` is 2 DISCHARGE, 3 EMPTY_SETTLE,
0 IDLE after a cycle, 4 IDLE after an abort. A wait for energy is recorded (R306). -/
def cycleStore (c next : Nat) (s : State) : State :=
  let s1 := modW c (fun w => { w with next := some next, displaced := w.next }) s
  if storing (.islandCycle c) s1 then s1
  else
    let s2 := if admits s1 (classCost (storeClass (.islandCycle c))) then s1 else note 0x0816 [c, (wch s1 c).cycle, energyMj s1] s1
    requestStore (.islandCycle c) s2

/-- The value taken at the end of a settle state; where the window gives no mass it is a free value
(notes/assumptions/22.md). -/
def takeValue (c : Nat) (s : State) : Rat × State :=
  match wSignal s c with
  | some x => (wLaw s c x - (wch s c).zeroOffset, s)
  | none => (Config.freeRat s.fresh, drawn 1 s)

/-- A settle state ends: stable, or settle_max_ms without stability (R304). With the empty value the record's interval ends, and
what it met is known (R247, R308). -/
def settleEnd (c : Nat) (s0 : State) : State :=
  let s := refreshTempHot s0
  let w := wch s c
  let met := commonReasons s (w.fullStart.getD (wEnd s c)) (wEnd s c)
  let (v, s1) := takeValue c s
  let wait := nsMs (s.sys.devTime - w.settleStart)
  let fault := wFaultBits s c != 0
  let fl := w.cflags ||| BitVec.ofNat 8 (b01 (!w.stable)) ||| BitVec.ofNat 8 (b01 (wOver s c v) * 32) |||
    BitVec.ofNat 8 (b01 fault * 64)
  let s2 := modW c (fun w =>
    { w with
      cflags := fl, settleMs := max w.settleMs wait, nextFull := if w.cycle = 1 then some v else w.nextFull,
      nextEmpty := if w.cycle = 3 then some v else w.nextEmpty,
      fullStart := if w.cycle = 1 then some (wEnd s c - wFilter s c * 10000000) else w.fullStart,
      emptyEnd := if w.cycle = 3 then some (wEnd s c) else w.emptyEnd,
      heldReasons := if w.cycle = 3 then w.heldReasons ||| met else w.heldReasons }) s1
  if w.cycle = 1 then cycleStore c 2 s2 else cycleStore c 0 s2

/-- A request's command is answered. -/
def answerReq (c : Nat) (q : WReq) (status no : Nat) (s : State) : State :=
  let s1 := modW c (fun w =>
    { w with lastStatus := status, lastSource := if q.source = 1 then 1 else 0, pending := none }) s
  let s2 := if status = sOK then s1 else note 0x0812 [c, if q.source = 1 then 1 else 0, q.kind, status] s1
  match q.org with
  | some o => finish o status (if status = sOK then p4 no else []) s2
  | none => s2

/-- The pending request of a kind has acted: it is answered. -/
def answerKind (c kind no : Nat) (s : State) : State :=
  match (wch s c).pending with
  | some q => if q.kind = kind then answerReq c q sOK no s else s
  | none => s

/-- A channel back in IDLE. -/
def cycleOver (w : WChan) : WChan :=
  { w with
    cycle := 0, full := none, nextFull := none, nextEmpty := none, cflags := 0, settleMs := 0, restarted := false, fullStart := none,
    emptyEnd := none, displaced := none, heldReasons := 0, heldParams := none }

/-- An effect under the parameters in force when the interval of a channel's cycle began, which a BOOT since may lie after
(R232). -/
def underCycle (c : Nat) (f : State → State) (s : State) : State :=
  match (wch s c).heldParams with
  | some ps => withParams ps f s
  | none => underParams ((wch s c).fullStart.getD s.sys.devTime) f s

/-- A reason is met in the interval of every cycle under way. -/
def cyclesMark (why : BitVec 16) (s : State) : State :=
  [1, 2].foldl (fun t c => modW c (fun w => if w.cycle = 0 then w else { w with heldReasons := w.heldReasons ||| why }) t) s

/-- Device time starts again, while a stored cycle goes on: what its interval met so far, and its parameters, are kept with it, and
it counts from 0 on (R232, R247, R306; notes/assumptions/148.md). -/
def cyclesCross (s : State) : State :=
  [1, 2].foldl (fun t c =>
    match (wch t c).fullStart with
    | none => t
    | some t0 => modW c (fun w =>
        { w with
          fullStart := some 0, heldReasons := w.heldReasons ||| commonReasons t t0 t.sys.devTime,
          heldParams := w.heldParams.or (some (paramsAt t t0)) }) t) s

/-- A stored transition takes effect (R304–R306), under the parameters in force when the interval of its record began
(R232). -/
def cycleStored (c : Nat) (s0 : State) : State :=
  underCycle c (fun s =>
  let w := wch s c
  let now := s.sys.devTime
  match w.next with
  | some 2 => modW c (fun w => { w with cycle := 2, full := w.nextFull, next := none }) s
  | some 3 => answerKind c 6 0 (modW c (fun w => { w with cycle := 3, settleStart := now, next := none }) s)
  | some 0 =>
    let full := w.full.getD 0
    let empty := w.nextEmpty.getD 0
    let load := wRound s c (full - empty)
    let fl := w.cflags ||| (if load < (wMin s c : Int) then 2 else 0) ||| (if w.restarted then 16 else 0)
    let s1 := modW c (fun w => { w with cycleNo := w.cycleNo + 1, total := w.total + load, next := none }) s
    modW c cycleOver
      (cycleRecord c (some (wRound s c full)) (some (wRound s c empty)) load (wch s1 c).total fl s1)
  | some _ =>
    let fl := w.cflags ||| 4 ||| (if w.restarted then 16 else 0)
    let s1 := modW c (fun w => { w with cycleNo := w.cycleNo + 1, next := none }) s
    let no := nextSeqNo s1
    let s2 := cycleRecord c (w.nextFull.map (wRound s c)) none 0 w.total fl s1
    answerKind c 7 no (modW c cycleOver s2)
  | none => s) s0

/-! Requests (R303). -/

/-- Kinds that the mode or the cycle state does not allow now. -/
def kindBarred (s : State) (c kind : Nat) : Bool :=
  let w := wch s c
  match kind with
  | 1 => w.tare != 0 || w.cycle != 0
  | 2 => wTotal s c
  | 3 => wTotal s c
  | 4 => false
  | 5 => !wTotal s c || w.cycle != 0 || w.next.isSome
  | 6 => !wTotal s c || w.cycle != 2 || w.next.isSome
  | 7 => !wTotal s c
  | 8 => !wTotal s c || w.cycle != 0
  | _ => true

/-- A request acts, its channel stable where it must be: status and state. DISCHARGE_DONE and CYCLE_ABORT act in
`cycleStored`, once their write is done (R306). -/
def actReq (c kind source : Nat) (s : State) : Nat × State :=
  match kind with
  | 1 => doZero c source s
  | 2 => doTare c source s
  | 3 => (sOK, massRecord c 4 (note 0x0811 [c, source, 0] (modW c (fun w => { w with tare := 0 }) s)))
  | 4 => if (wGross s c).isNone then (sLIMIT, s) else (sOK, massRecord c 1 s)
  | 5 => (sOK, modW c (fun w =>
      { cycleOver w with cycle := 1, settleStart := s.sys.devTime, cflags := if w.openWire || w.excFault then 0x40 else 0 }) s)
  | _ =>
    let s1 := cycleRecord c none none 0 (wch s c).total 8 s
    (sOK, modW c (fun w => { w with total := 0 }) s1)

/-- Kinds that wait for stability: ZERO, TARE and SNAPSHOT (notes/assumptions/23.md). -/
def needsStable (kind : Nat) : Bool := kind == 1 || kind == 2 || kind == 4

/-- A request arrives at the island. The status, PENDING while it waits, and the seq of its record; a request made by a
command is answered by `answerReq`. In STILL a request is suspended (R313). -/
def wgtAsk (c : Nat) (q : WReq) (s : State) : Nat × State :=
  let pend : State → State := modW c (fun w =>
    { w with pending := some q, lastStatus := sPENDING, lastSource := if q.source = 1 then 1 else 0 })
  if (wch s c).pending.isSome then
    let s1 := modW c (fun w =>
      { w with
        lastStatus := sBUSY, lastSource := if q.source = 1 then 1 else 0,
        tapRefused := if q.source = 1 then satInc 65535 w.tapRefused else w.tapRefused }) s
    let s2 := note 0x0812 [c, if q.source = 1 then 1 else 0, q.kind, sBUSY] s1
    (sBUSY, match q.org with | some o => finish o sBUSY [] s2 | none => s2)
  else if kindBarred s c q.kind then (sWRONGMODE, answerReq c q sWRONGMODE 0 s)
  else if q.kind = 6 || q.kind = 7 then (sPENDING, cycleStore c (if q.kind = 6 then 3 else 4) (pend s))
  else if needsStable q.kind && (!(wch s c).stable || s.sys.mode == .still) then (sPENDING, pend s)
  else
    let no := if q.kind = 5 then 0 else nextSeqNo s
    let (st, s1) := actReq c q.kind (if q.source = 1 then 1 else 0) s
    (st, answerReq c q st no s1)

/-- A waiting request acts once the channel is stable. -/
def reqSettled (c : Nat) (s : State) : State :=
  match (wch s c).pending with
  | some q =>
    if !needsStable q.kind || !(wch s c).stable then s
    else
      let no := nextSeqNo s
      let (st, s1) := actReq c q.kind (if q.source = 1 then 1 else 0) s
      answerReq c q st no s1
  | none => s

/-- A waiting request is refused after settle_max_ms. -/
def reqTimeout (c : Nat) (s : State) : State :=
  match (wch s c).pending with
  | some q => if needsStable q.kind then answerReq c q sTIMEOUT 0 s else s
  | none => s

/-- An island restart clears zero, tare and requests; the cycle resumes in its stored state (R302, R306). -/
def weighRestart (s : State) : State :=
  [1, 2].foldl (fun t c =>
    let w := wch t c
    let t1 := match w.pending with | some q => (match q.org with | some o => finish o sTIMEOUT [] t | none => t) | none => t
    cancelStore (.islandCycle c) (modW c (fun w =>
      { w with
        raws := [], causes := [], lastRaw := none, windows := [], masses := [], stable := false, zeroOffset := 0, z0 := none, tare := 0, first := true, zeroTried := false,
        pending := none, next := none, displaced := none, openWire := false, excFault := false,
        nextFull := w.full, nextEmpty := none, emptyEnd := none, fullStart := if w.cycle = 1 then none else w.fullStart,
        cycle := if w.cycle = 1 then 0 else w.cycle, restarted := w.cycle != 0, settleStart := t.sys.devTime }) t1)) s

end Sys2Proof.Machine
end

