-- ==== Sys2Proof/Machine/ZoneOps.lean ====
section
/-! DEFINITION. Zones: states and hold causes, permissives, the start and stop sequences of each type, the transitions
that a value or an input level decides (spec/09_zone_programmes.md R318–R345). -/

namespace Sys2Proof.Machine

/-! Type-body fields (R330, R336, R338, R343) and common fields (R326). -/

def zFans (s : State) (z : Nat) : List Nat := ((List.range 4).map (fun i => g2 (zb s z) (2 * i))).filter (· < 128)
/-- Fan stations with their proof stations; a fan without one is left out. -/
def zProofs (s : State) (z : Nat) : List (Nat × Nat) :=
  ((List.range 4).map (fun i => (g2 (zb s z) (2 * i), g2 (zb s z) (8 + 2 * i)))).filter (fun p => p.1 < 128 && p.2 < 128)
def zBurner (s : State) (z : Nat) : Nat := g2 (zb s z) 16
def zFlame (s : State) (z : Nat) : Nat := g2 (zb s z) 18
def zValve (s : State) (z : Nat) : Nat := g2 (zb s z) 20
def lowFire (s : State) (z : Nat) : Int := i4 (zb s z) 28
def highFire (s : State) (z : Nat) : Int := i4 (zb s z) 32
def permissive (s : State) (z i : Nat) : Nat := g2 (zp s z) (32 + 2 * i)
def permLevel (s : State) (z i : Nat) : Bool := bitOf (g1 (zp s z) 48) i
def deckleCount (s : State) (z : Nat) : Nat := g1 (zp s z) 49
def deckleEntry (s : State) (z i : Nat) : List Byte := slice (zp s z) (64 + 16 * i) 16
def stopAction (s : State) (z : Nat) : Nat := g1 (zp s z) 7
def stopMs (s : State) (z : Nat) : Nat := g4 (zp s z) 24

/-- A field input is valid and on. -/
def inputOn (s : State) (n : Nat) : Bool := n < 128 && valueOf s n == 1

/-- The zone has a heat block. -/
def hasHeat (s : State) (z : Nat) : Bool := zoneType s z == 1 || zoneType s z == 2

/-- Permissives not at their level, in order (R323). -/
def permOpen (s : State) (z : Nat) : List Nat :=
  (List.range 8).filterMap (fun i =>
    let n := permissive s z i
    if n < 128 && valueOf s n != (b01 (permLevel s z i) : Int) then some n else none)

/-- A target of programme 1 (R345). -/
def target (s : State) (z code : Nat) : Option Int :=
  if zoneProg s z = 1 then tfind (zone s z).targets code else none

/-! States. -/

/-- A zone enters a state and a phase; a state change is recorded (R320). `cause` is a hold cause bit + 1, or 0. -/
def setZone (z st phase cause : Nat) (s : State) : State :=
  let q := zone s z
  let s1 := modZone z (fun q =>
    { q with
      st := st, phase := phase, phaseAt := s.sys.devTime, since := if st = q.st then q.since else s.sys.calTime }) s
  if st = q.st then s1 else note 0x0310 [z, q.st, st, phase, cause] s1

def setPhase (z phase : Nat) (s : State) : State := setZone z (zone s z).st phase 0 s

/-- The run of an aerating SILO since its last evaluation joins the day's (R339); of a day that has just begun, only the
part since midnight. -/
def siloCount (z : Nat) (s : State) : State :=
  let now := s.sys.devTime
  let day := s.sys.calTime / 86400000
  modZone z (fun q =>
    let ran := if q.silo.aerating then (now - q.silo.lastEval) / 1000000000 else 0
    { q with
      silo := { q.silo with lastEval := now, runDay := day,
                            runToday := if day = q.silo.runDay then q.silo.runToday + ran
                                        else min ran ((s.sys.calTime % 86400000).toNat / 1000) } }) s

/-- Aeration ends with its zone's outputs, which is recorded (R339). -/
def siloSafe (z : Nat) (s : State) : State :=
  if !(zone s z).silo.aerating then s
  else note 0x0351 [z, 6, valueOf s (g2 (zb s z) 8), (zone s z).silo.mean]
    (modZone z (fun q => { q with silo := { q.silo with aerating := false, stoppedAt := some s.sys.devTime } }) (siloCount z s))

/-- Output stations that the programme of a zone names (R330, R333, R336, R338, R340, R343). -/
def namedOutputs (s : State) (z : Nat) : List Nat :=
  let b := zb s z
  match zoneType s z with
  | 1 => zFans s z ++ [zBurner s z, zValve s z, g2 b 64]
  | 2 => zFans s z ++ [zBurner s z, zValve s z, g2 b 64, g2 b 68]
  | 3 => zFans s z
  | 4 => (List.range 8).map (fun i => g2 b (2 * i))
  | 5 => [g2 b 0, g2 b 4]
  | _ => []

/-- A zone's station. DESIGN CHOICE: one that belongs to no zone and that the zone's programme drives counts as the zone's
(R102, R327; notes/assumptions/171.md). -/
def ofZone (s : State) (z n : Nat) : Bool := stnZone s n == z || (16 ≤ stnZone s n && (namedOutputs s z).contains n)

/-- Every station of the zone goes to safe_value (R318, R397), and its pulses end (R381). -/
def safeZone (z : Nat) (s : State) : State :=
  let ns := stationsBy s (fun n => ofZone s z n && (isFieldOut s n || isLoopOut s n))
  let s1 := valvesSafe (ofZone s z) (ns.foldl (fun t n => safeField n t) s)
  let obj := g2 (zb s z) 66
  let s2 := if zoneType s z = 1 && obj < 256 then driveRef obj 0 0 s1 else s1
  modZone z (fun q =>
    { q with
      heat := { q.heat with burnerOn := false, fansOn := false }, column := { q.column with driveOn := false },
      weigh := { q.weigh with feedOn := false, disOn := false, proving := none } }) (siloSafe z s2)

/-- A zone becomes IDLE: outputs at safe_value, unlatched causes and confirmed entries gone; a latched cause is cleared only
by ZONE_START and by entry to COMMISSION (R320, R321). Its open parcel stays open, since only a jump or a reset closes one early
(R163; notes/assumptions/142.md). -/
def goIdle (z cause : Nat) (s : State) : State :=
  modZone z (fun q =>
    { q with
      causes := q.causes &&& 0xF2, deckle := 0, deckleAt := [], stopAsked := false, wasStopping := false, needAck := false, targets := [] })
    (setZone z 0 0 cause (safeZone z s))

/-- A hold cause arises (R320): it accumulates, and the zone is held. -/
def raiseCause (z bit station : Nat) (s : State) : State :=
  let q := zone s z
  if q.st = 0 || q.causes.getLsbD bit then s
  else
    let s1 := note 0x0311 [z, bit, station] (modZone z (fun q => { q with causes := q.causes ||| BitVec.ofNat 9 (2 ^ bit) }) s)
    if q.st = 4 then s1
    else
      let s2 := modZone z (fun q =>
        { q with
          wasStopping := q.st == 3, batch := { q.batch with heldPhase := if q.st = 2 then q.phase else q.batch.heldPhase } }) s1
      safeZone z (setZone z 4 0 (bit + 1) s2)

/-- A zone abort holds the zone, an idle one too (R320; 01_one_view.md R39, 02_sluices.md R78). -/
def abortZone (z : Nat) (s : State) : State :=
  if (zone s z).st != 0 then raiseCause z 1 0xFFFF s
  else
    let s1 := note 0x0311 [z, 1, 0xFFFF] (modZone z (fun q => { q with causes := q.causes ||| 0x2, wasStopping := false }) s)
    safeZone z (setZone z 4 0 2 s1)

/-! Heat-block phases (R331). -/

/-- Fans on or off; none is proven yet when they go on. -/
def fansTo (z : Nat) (on : Bool) (s : State) : State :=
  modZone z (fun q => { q with heat := { q.heat with fansOn := on, proven := if q.heat.fansOn && on then q.heat.proven else [] } })
    ((zFans s z).foldl (fun t n => if on then driveAny n 1 t else driveAny n 0 t) s)

def valveTo (z : Nat) (ua : Rat) (s : State) : State :=
  modZone z (fun q => { q with heat := { q.heat with u := ua } }) (driveAny (zValve s z) (roundRat ua) s)

/-- burner_enable on or off; off takes the valve to its safe_value. -/
def burnerTo (z : Nat) (on : Bool) (s : State) : State :=
  let s1 := modZone z (fun q => { q with heat := { q.heat with burnerOn := on } }) s
  if on then driveAny (zBurner s z) 1 s1 else safeAny (zValve s z) (driveAny (zBurner s z) 0 s1)

/-- All heat outputs off, for the phases of a BATCH that list none (notes/assumptions/26.md). -/
def heatOff (z : Nat) (s : State) : State := fansTo z false (burnerTo z false s)

/-- Entry to a phase of a COLUMN or BATCH zone: its outputs (R331, R334, R337). -/
def enterPhase (z st phase : Nat) (s : State) : State :=
  let s1 := setZone z st phase 0 s
  let b := zb s z
  match phase with
  | 1 => fansTo z true s1
  | 2 => burnerTo z true (valveTo z (lowFire s z : Int) s1)
  | 3 => valveTo z (lowFire s z : Int) s1
  | 4 =>
    let s2 := modZone z (fun q =>
      { q with
        loopLast := some (s.sys.devTime, false),
        heat := { q.heat with integ := 0, uSat := false, u := (lowFire s z : Int), plenumHeld := false },
        batch := { q.batch with dryStart := s.sys.devTime, highFireMs := 0 } }) s1
    if zoneType s z = 1 then
      outDrive z (modZone z (fun q =>
        { q with column := { q.column with driveOn := true, trim := 0, r := g4 b 68, b := 0 } }) s2)
    else s2
  | 5 =>
    let s2 := burnerTo z false (if zoneType s z = 1 then
      outDrive z (modZone z (fun q => { q with column := { q.column with driveOn := false } }) s1) else s1)
    if zoneType s z = 2 && (zone s z).phase = 4 then modZone z (fun q =>
      { q with batch := { q.batch with drySecs := (s.sys.devTime - q.batch.dryStart) / 1000000000 } }) s2 else s2
  | 6 => fansTo z true s1
  | 7 => driveAny (g2 b 64) 1 (heatOff z s1)
  | 8 => fansTo z true (burnerTo z false s1)
  | 9 => driveAny (g2 b 68) 1 (heatOff z s1)
  | _ => s1

/-! Starting and stopping. -/

/-- The phase of a WEIGH zone that matches the island's cycle state (R344). -/
def weighChan (s : State) (z : Nat) : Nat := stnTerm s (g2 (zb s z) 10)
def weighPhase (s : State) (z : Nat) : Nat := (wch s (weighChan s z)).cycle + 1

/-- A request of a WEIGH zone to the island, with the checks of WGT_REQUEST: a link that is down or a channel that is not there
turns it away (R344; 08_weighing.md R303, R316). -/
def weighSend (z kind : Nat) (s : State) : Nat × State :=
  let c := weighChan s z
  if linkDown s then (sTIMEOUT, s)
  else if !wOn s c then (sNOTFOUND, s)
  else wgtAsk c { kind := kind, source := 2, zone := z, since := s.sys.devTime } s

/-- A zone enters STARTING, an orderly stop that a BATCH or WEIGH cycle is to finish first still asked (R337); phases with nothing to wait for pass at the evaluation that follows (R319). -/
def startSeq (z : Nat) (s : State) : State :=
  let ns := stationsBy s (ofZone s z)
  let s1 := ns.foldl (fun t n => unlatch n t) s
  let s2 := modZone z (fun q =>
    { q with
      causes := 0, needAck := false, wasStopping := false, expLast := some (s.sys.devTime, false),
      silo := { q.silo with hotSeen := [], lastEval := s.sys.devTime } }) s1
  if hasHeat s2 z then enterPhase z 1 1 s2 else setZone z 1 0 0 s2

/-- A zone start overwrites a target that VLV_SET gave to one of the zone's valves: before the start sequence drives it, it is at
safe_value as in every zone state that drives nothing (10_valve_drive.md R383). -/
def targetsOverwritten (z : Nat) (s : State) : State :=
  (stationsBy s (fun n => ofZone s z n && isProp s n)).foldl (fun t n => safeProp n false t) s

/-- A zone starts from IDLE: its parcels and counts begin anew (R163, R319). -/
def startZone (z : Nat) (s : State) : State :=
  let s1 := modZone z (fun q =>
    { q with
      accepted := [], targets := [], batch := { q.batch with heldPhase := 0, batches := 0 },
      temper := { q.temper with doseShort := 0, dosed := 0 }, weigh := { q.weigh with cycles := 0 } }) s
  cutDue z (startSeq z (targetsOverwritten z s1))

/-- Injector pulses of the zone's programme still waiting (R342). -/
def dosesWaiting (s : State) (z : Nat) : Bool :=
  s.felt.entries.any (fun e => e.kind == 4 && e.owner == .programme z)

/-- The stop sequence begins (R319). -/
def beginStop (z : Nat) (s : State) : State :=
  match zoneType s z with
  | 1 => enterPhase z 3 5 s
  | 2 => enterPhase z 3 5 s
  | 4 =>
    let s1 := closeParcel z (zonePos s z) (setZone z 3 0 0 s)
    if dosesWaiting s1 z then s1 else goIdle z 0 s1
  | _ => goIdle z 0 (setZone z 3 0 0 s)

/-- An orderly ZONE_STOP: it acts in STARTING and RUNNING alone (R319, R337, R344). -/
def stopOrderly (z : Nat) (s : State) : State :=
  let q := zone s z
  match q.st with
  | 1 => beginStop z s
  | 2 => if zoneType s z = 2 || zoneType s z = 5 then modZone z (fun q => { q with stopAsked := true }) s else beginStop z s
  | _ => s

/-- An immediate ZONE_STOP (R319, R342, R344). -/
def stopNow (z : Nat) (s : State) : State :=
  if (zone s z).st = 0 then s
  else
    let s1 := goIdle z 0 s
    let s2 := if zoneType s z = 4 then endEntries (fun e => e.owner == .programme z) 7 s1 else s1
    if zoneType s z = 5 then (weighSend z 7 s2).2 else s2

/-- A hold cause clears; with none left the zone resumes, waits or becomes IDLE (R319, R320). -/
def clearCause (z bit : Nat) (s : State) : State :=
  let s1 := modZone z (fun q => { q with causes := q.causes &&& ~~~(BitVec.ofNat 9 (2 ^ bit)) }) s
  let q := zone s1 z
  if q.st != 4 || q.causes != 0 || !(zone s z).causes.getLsbD bit then s1
  else if q.wasStopping then goIdle z 0 s1
  else if zoneAck s z || q.needAck then setZone z 5 0 0 s1
  else startSeq z s1

/-! Transitions that levels and values decide. -/

/-- Grain moisture at or below the end of DRY, or the application's DRY_END (R337, R345). -/
def dryDone (s : State) (z : Nat) : Bool :=
  let b := zb s z
  let n := g2 b 72
  let fl := (tget s.stn.vals n).flags
  match zoneProg s z with
  | 1 => tfind (zone s z).targets 3 == some 1
  | _ => validOf s n && valueOf s n ≤ (g4 b 76 + g4 b 80 : Nat) && !(refusesProcess s z && bitOf fl 0)

/-- Latest gross of a WEIGH zone's channel on the main side (R348). -/
def weighGross (s : State) (z : Nat) : Option Int :=
  let rec_ := tget s.island.latest (weighChan s z * 256 + 2)
  if rec_.isEmpty || g4 rec_ 32 = invalidMass then none else some (i4 rec_ 32)

def fillTarget (s : State) (z : Nat) : Int := (target s z 6).getD (i4 (zb s z) 12)

/-- A request of the zone to the island; a refusal sets SEQUENCE (R344). -/
def weighStep (z kind phase : Nat) (s : State) : State :=
  let (st, s1) := weighSend z kind s
  let s2 := modZone z (fun q => { q with weigh := { q.weigh with proving := none } }) s1
  if st = sOK || st = sPENDING then setPhase z phase s2
  else raiseCause z 6 0xFFFF (note 0x0361 [z, kind, st] s2)

/-- A WEIGH zone takes up the phase of the island's cycle and opens the gate of that phase. -/
def weighEnter (z phase : Nat) (s : State) : State :=
  let b := zb s z
  let s1 := modZone z (fun q => { q with weigh := { q.weigh with feedOn := phase == 1, disOn := phase == 3, proving := none } })
    (setZone z 2 phase 0 s)
  match phase with
  | 1 => driveAny (g2 b 0) 1 s1
  | 3 => driveAny (g2 b 4) 1 s1
  | _ => s1

/-- One transition of a WEIGH zone (R344). -/
def weighEval (z : Nat) (s : State) : Option State :=
  let b := zb s z
  let q := zone s z
  let feedClosed := inputOn s (g2 b 2)
  let disClosed := inputOn s (g2 b 6)
  let cyc := (wch s (weighChan s z)).cycle
  if q.st = 1 then (if feedClosed && disClosed then some (weighEnter z (weighPhase s z) s) else none)
  else if q.st != 2 then none
  else if (!q.weigh.feedOn && !feedClosed && !(q.phase = 1 && q.weigh.proving.isSome)) ||
      (!q.weigh.disOn && !disClosed && !(q.phase = 3 && q.weigh.proving.isSome)) then some (raiseCause z 6 0xFFFF s)
  else match q.phase with
    | 1 =>
      if q.weigh.feedOn then
        if (match weighGross s z with | some g => decide (fillTarget s z ≤ g) | none => false) || inputOn s (g2 b 8) then
          some (modZone z (fun q => { q with weigh := { q.weigh with feedOn := false, proving := some s.sys.devTime } })
            (driveAny (g2 b 0) 0 s))
        else none
      else if feedClosed then some (weighStep z 5 2 s) else none
    | 2 => if cyc = 2 && !linkDown s then some (weighEnter z 3 s) else none
    | 3 => if !q.weigh.disOn && disClosed then some (weighStep z 6 4 s) else none
    | 4 =>
      if cyc = 0 && !linkDown s then
        let n := q.weigh.cycles + 1
        let s1 := modZone z (fun q => { q with weigh := { q.weigh with cycles := n } }) s
        if q.stopAsked || (g4 b 36 != 0 && n ≥ g4 b 36) then some (beginStop z s1) else some (weighEnter z 1 s1)
      else none
    | _ => none

/-- A BATCH zone leaves STARTING for FILL, or for the phase in which a hold began (R337). -/
def batchRun (z : Nat) (s : State) : State :=
  let p := match (zone s z).batch.heldPhase with | 0 => 7 | 1 => 4 | 2 => 4 | 3 => 4 | n => n
  enterPhase z 2 p (modZone z (fun q => { q with batch := { q.batch with heldPhase := 0 } }) s)

/-- The proof inputs that are on while the fans run are proven (R331). -/
def proofsSeen (z : Nat) (s : State) : State :=
  let q := zone s z
  let new := ((zProofs s z).map (·.2)).filter (fun n => inputOn s n && !q.heat.proven.contains n)
  if !q.heat.fansOn || new.isEmpty then s
  else modZone z (fun q => { q with heat := { q.heat with proven := q.heat.proven ++ new } }) s

/-- One transition of a heat-block zone (R331, R337). A proof is lost where it was on since the fans went on. -/
def heatEval (z : Nat) (s : State) : Option State :=
  let q := zone s z
  let b := zb s z
  let batch := zoneType s z == 2
  let unproven := (zProofs s z).any (fun p => !inputOn s p.2)
  let lostFan := (zProofs s z).find? (fun p => q.heat.proven.contains p.2 && !inputOn s p.2)
  if q.heat.burnerOn && q.phase != 2 && !inputOn s (zFlame s z) then
    some (raiseCause z 4 (zFlame s z) (note 0x0322 [z, q.phase] (burnerTo z false s)))
  else if q.heat.fansOn && lostFan.isSome then
    let fan := match lostFan with | some p => p.1 | none => 0
    some (raiseCause z 5 fan (note 0x0321 [z, fan] (burnerTo z false s)))
  else match q.phase with
    | 1 => if !unproven then some (enterPhase z q.st 2 s) else none
    | 2 => if inputOn s (zFlame s z) then some (enterPhase z q.st 3 s) else none
    | 3 =>
      if g4 b 52 != 0 then none
      else if batch && q.st = 1 then some (batchRun z s)
      else some (enterPhase z 2 4 s)
    | 4 => if batch && dryDone s z then some (enterPhase z q.st 5 s) else none
    | 5 => if !inputOn s (zFlame s z) then some (enterPhase z q.st (if batch then 8 else 6) s) else none
    | 6 => if g4 b 56 = 0 then some (goIdle z 0 s) else none
    | 7 => if inputOn s (g2 b 66) then some (enterPhase z q.st 1 (driveAny (g2 b 64) 0 s)) else none
    | 8 =>
      let t := g2 b 74
      if g4 b 56 = 0 || (validOf s t && valueOf s t ≤ i4 b 60) then
        (if q.st = 3 then some (goIdle z 0 s) else some (enterPhase z q.st 9 s)) else none
    | 9 =>
      if inputOn s (g2 b 70) then
        let m := valueOf s (g2 b 72)
        let s1 := note 0x0333 [z, m, q.batch.drySecs, q.batch.highFireMs / 1000]
          (modZone z (fun q => { q with batch := { q.batch with batches := q.batch.batches + 1 } }) (driveAny (g2 b 68) 0 s))
        if q.stopAsked then some (goIdle z 0 (setZone z 3 0 0 s1)) else some (enterPhase z q.st 7 s1)
      else none
    | _ => none

/-- One transition of a zone. -/
def zoneStep1 (z : Nat) (s : State) : Option State :=
  let q := zone s z
  if q.st = 0 then none
  else
    let bad := permOpen s z
    if !bad.isEmpty && !q.causes.getLsbD 2 then
      let n := bad.headD 0xFFFF
      some (raiseCause z 2 n (note 0x0320 [z, n] s))
    else if q.st = 4 || q.st = 5 then none
    else match zoneType s z with
      | 1 => heatEval z s
      | 2 => heatEval z s
      | 3 => if q.st = 1 then some (setZone z 2 1 0 s) else none
      | 4 => if q.st = 1 then some (setZone z 2 0 0 s)
             else if q.st = 3 && !dosesWaiting s z then some (goIdle z 0 s) else none
      | 5 => weighEval z s
      | _ => if q.st = 1 then some (setZone z 2 0 0 s) else none

/-- Every transition that is due; `fuel` bounds their number. -/
def zoneEval : Nat → Nat → State → State
  | 0, _, s => s
  | fuel + 1, z, s => match zoneStep1 z (proofsSeen z s) with | some t => zoneEval fuel z t | none => proofsSeen z s

/-- Zones follow levels and values; during supervisor re-execution they wait (R322). -/
def zonesEval (s : State) : State :=
  if s.absorb.reexecuting then s else (zonesOn s).foldl (fun t z => zoneEval 16 z t) s

/-- A station's input or value has changed. -/
def zonesInput (_ : Nat) (s : State) : State := zonesEval s

/-! Device-wide changes. -/

/-- A device-wide HOLD cause arises for the zones (R320); `ack` for a lost heartbeat (01_one_view.md R36). -/
def zonesHold (ack : Bool) (s : State) : State :=
  (zonesOn s).foldl (fun t z =>
    let t1 := raiseCause z 0 0xFFFF t
    if ack && (zone t1 z).st = 4 then modZone z (fun q => { q with needAck := true }) t1 else t1) s

/-- The last device-wide cause has cleared: zones resume by their policy (R37). -/
def zonesResume (s : State) : State := zonesEval ((zonesOn s).foldl (fun t z => clearCause z 0 t) s)

/-- SYS_MODE_REQUEST(RUN) acknowledges every zone waiting under ACK (R37). -/
def zonesAck (s : State) : State :=
  zonesEval ((zonesOn s).foldl (fun t z => if (zone t z).st = 5 then startSeq z t else t) s)

/-- Zones with autostart start at entry to RUN (01_one_view.md R35; 18 R576). -/
def zonesAutostart (s : State) : State :=
  zonesEval ((zonesOn s).foldl (fun t z =>
    if zoneAuto t z && (zone t z).st = 0 && (permOpen t z).isEmpty && !t.power.noAutostart.contains z then startZone z t else t) s)

/-- Entry to COMMISSION: held and waiting zones become IDLE, and every cause clears (R321). -/
def zonesCommission (s : State) : State :=
  (zonesOn s).foldl (fun t z =>
    modZone z (fun q => { q with causes := 0 }) (if (zone t z).st = 4 || (zone t z).st = 5 then goIdle z 0 t else t)) s

/-- BOOT: every zone is IDLE and knows nothing (R35). -/
def zonesReset (s : State) : State := onZones (fun _ => []) s

/-- FELT_STOP clears when a felt moves again (R325); during supervisor re-execution the zones wait (R322). -/
def feltStopClear (s : State) : State :=
  if s.absorb.reexecuting then s
  else (zonesOn s).foldl (fun t z =>
    if (zone t z).causes.getLsbD 8 && !(felt t (zoneFelt t z)).state.getLsbD 1 then zoneEval 16 z (clearCause z 8 t) else t) s

end Sys2Proof.Machine
end

