-- ==== Sys2Proof/Machine/ClkOps.lean ====
section
/-! DEFINITION. Clocks: coasting and its end, and the gates (spec/17_clocks.md R545–R553). -/

namespace Sys2Proof.Machine

/-- CLK_STATE bits set or cleared. -/
def clkState (mask : Reg) (on : Bool) (s : State) : State :=
  onClk (fun c => { c with state := if on then c.state ||| mask else c.state &&& ~~~mask }) s

def clkSticky (mask : Reg) (s : State) : State := onClk (fun c => { c with sticky := c.sticky ||| mask }) s

/-- The zones that are not IDLE stop at once, and are told of (R547). -/
def stopForClock (s : State) : State :=
  let zs := (List.range 16).filter (fun z => zoneRunning s z)
  if zs.isEmpty then s
  else note 0x0F14 [maskOf zs (fun _ => true)] (zs.foldl (fun t z => stopNow z t) s)

/-- The line ports lose their links (R547). -/
def linksLost (s : State) : State :=
  [0, 1, 2].foldl (fun t p =>
    if (tget t.net.ports p).link then
      let u := onNet (fun n => { n with ports := tmod n.ports p (fun x => { x with link := false, queues := [] }) }) t
      if t.sys.ready then note 0x0C10 [p, 2] u else u
    else t) s

/-- The record of a loss, made when Evver runs (R547). -/
def noteCoast (plls windows : Nat) (s : State) : State :=
  if s.sys.ready then noteFault 0x0F10 [plls, windows] s else onClk (fun c => { c with coastNote := some (plls, windows) }) s

/-- A loss that came before Evver ran is recorded (R549). -/
def tellCoast (s : State) : State :=
  match s.clk.coastNote with
  | some (p, w) => noteFault 0x0F10 [p, w] (onClk (fun c => { c with coastNote := none }) s)
  | none => s

/-- The PLLs of a mask lose their reference: the device coasts (R546, R547). -/
def coastNow (plls windows : Nat) (s : State) : State :=
  let s1 := noteCoast plls windows s
  let s2 := clkSticky 0x4 (onClk (fun c =>
    { c with
      coastSince := some (c.coastSince.getD s.sys.devTime), coastPlls := c.coastPlls ||| plls,
      state := (c.state ||| 0x20 ||| (if bitOf plls 0 then 0x40 else 0)) &&& ~~~(BitVec.ofNat 32 (plls % 8)) }) s1)
  let s3 := stopForClock s2
  let s4 := if bitOf plls 1 then linksLost s3 else s3
  if bitOf plls 0 then onSys (fun y => { y with appRunning := false }) s4 else s4

/-- A loss: during supervisor re-execution it waits for the end (R549); in ICE and VAULT it is not detected. -/
def clockLost (plls windows : Nat) (s : State) : State :=
  match s.sys.mode with
  | .ice => s
  | .vault => s
  | _ => if s.absorb.reexecuting then onClk (fun c => { c with coastDue := some (plls, windows) }) s else coastNow plls windows s

/-- A loss that met re-execution takes effect (R549). -/
def applyCoastDue (s : State) : State :=
  match s.clk.coastDue with
  | some (p, w) => coastNow p w (onClk (fun c => { c with coastDue := none }) s)
  | none => s

/-- Time spent coasting since BOOT, ms (R555). -/
def coastTotal (s : State) : Nat :=
  s.clk.coastMs + match s.clk.coastSince with | some t => nsMs (s.sys.devTime - t) | none => 0

/-! Gates (R551, R552). -/

/-- Some enabled station has terminals of a kind. -/
def usesTerm (s : State) (kind : Nat) : Bool :=
  !(stationsBy s (fun n => stnKind s n == kind)).isEmpty

/-- The active configuration uses a block (R552). -/
def blockUsed (s : State) (b : Nat) : Bool :=
  match b with
  | 3 => usesTerm s 1
  | 4 => usesTerm s 2
  | 5 => usesTerm s 3
  | 6 => true
  | 7 => usesTerm s 5
  | 8 => true
  | 9 => chOn s 0 || chOn s 1
  | 10 => chOn s 2 || chOn s 3
  | 11 => true
  | 12 => g1 (bodyOf s 6 0) 15 != 0
  | _ => false

/-- A block's gate is open now (R552). -/
def gateOpen (s : State) (b : Nat) : Bool :=
  match s.sys.mode with
  | .still => bitOf (gateNibble s b) 1
  | .ice => bitOf (gateNibble s b) 2
  | _ => if b = 0 then appEnable s else bitOf (gateNibble s b) 0 || blockUsed s b

/-- A source of the frequency counter shows edges: it is not stopped and its gate is open (R543, R554). -/
def sourceRuns (s : State) (k : Nat) : Bool :=
  match k with
  | 0 => s.clk.coastPlls % 8 != 7
  | 1 => !s.clk.rtcFailed
  | 3 => s.sys.appRunning
  | 7 => !pllDown s 1 && (gateOpen s 9 || gateOpen s 10)
  | 8 => !pllDown s 1 && gateOpen s 11
  | 9 => gateOpen s 6
  | 10 => !pllDown s 2 && gateOpen s 6
  | 11 => !pllDown s 2 && (gateOpen s 3 || gateOpen s 4)
  | 13 => gateOpen s 12
  | 22 => gateOpen s 7
  | _ => true

def openWord (s : State) : Nat := maskOf (List.range 16) (fun b => gateOpen s b)

/-- CLK_STATE as read: STILL_DIV follows the mode (R543, R551). -/
def clkStateWord (s : State) : Nat := (if s.sys.mode = .still then s.clk.state ||| 0x10 else s.clk.state).toNat

/-- Fixed and reserved bits of a gate register, and its reset value (R551). -/
def gateFixed (r : Nat) : Reg := if r = 0 then 0xEFECCFFE else 0xFFECFCCF
def gateReset (r : Nat) : Reg := if r = 0 then 0x33333331 else 0x43133333
def gateReg (s : State) (r : Nat) : Reg := if r = 0 then s.clk.gate0 else s.clk.gate1

end Sys2Proof.Machine
end

