-- ==== Sys2Proof/Machine/HostOps.lean ====
section
/-! DEFINITION. The host window: regions, register bytes, checked frames, doorbells and releases, segments and grants
(spec/02_sluices.md R54–R74), and the carriage of datagrams (R83, R84). -/

namespace Sys2Proof.Machine

/-- One step of the CRC-16 of R56 over a bit of a 16-bit register. -/
def crc16Bit (c : Nat) : Nat := if c ≥ 32768 then (2 * c % 65536) ^^^ 0x1021 else 2 * c

/-- CRC-16 with polynomial 0x1021 and initial value 0xFFFF (R56). -/
def crc16 (bs : List Byte) : Nat :=
  bs.foldl (fun c b => (List.range 8).foldl (fun x _ => crc16Bit x) (c ^^^ (b.toNat * 256))) 0xFFFF

/-! Regions (R57). -/

/-- Sluice and page that a side's window shows (R59). -/
def selSluice (s : State) (d : Side) : Nat := (hifOf s d).windowSel.toNat % 16
def selPage (s : State) (d : Side) : Nat := (hifOf s d).windowSel.toNat / 256 % 8

/-- Bytes of the selected page that the selected sluice has; 0 while the region is empty. -/
def windowBytes (s : State) (d : Side) : Nat :=
  match ownSluice s d (selSluice s d) with
  | some sl => min 4096 (sl.sizeKib * 1024 - selPage s d * 4096)
  | none => 0

/-- First address and end of the region that holds an address. -/
def regionOf (s : State) (d : Side) (a : Nat) : Option (Nat × Nat) :=
  if a < 0x100 then some (0, 0x100)
  else if 0x1000 ≤ a && a < 0x1000 + windowBytes s d then some (0x1000, 0x1000 + windowBytes s d)
  else if 0x8000 ≤ a && a < 0x8100 then some (0x8000, 0x8100)
  else if 0x8100 ≤ a && a < 0x8110 then some (0x8100, 0x8110)
  else none

/-- Bytes of an access of `n` bytes that lie inside the region of its first address. -/
def inside (s : State) (d : Side) (a n : Nat) : Nat :=
  match regionOf s d a with
  | some (_, e) => min n (e - a)
  | none => 0

/-! Registers (R58–R60). -/

/-- A host-interface register by its word offset; reserved offsets read zero (R11, R58). -/
def hifWord (s : State) (d : Side) (off : Nat) : Nat :=
  let h := hifOf s d
  match off with
  | 0x00 => 0x5207B102
  | 0x04 => statusWord s
  | 0x08 => h.ctrl.toNat
  | 0x0C => h.windowSel.toNat
  | 0x10 => h.irqStatus.toNat
  | 0x14 => h.irqEnable.toNat
  | 0x20 => ownerWord s d
  | 0x24 => h.err.toNat
  | 0x28 => hbLeft s d
  | _ => 0

/-- Words 1–7 of a felt's mirror as last latched (spec/04_felt_time.md R148). -/
def latchedWord (s : State) (d : Side) (f i : Nat) : Nat :=
  match tfind (hifOf s d).feltLatch f with
  | some l => l.getD (i - 1) 0
  | none => if f = 0 && i = 1 then 1 else 0

/-- The word at an address of the felt mirror or the device-time registers. -/
def mirrorWord (s : State) (d : Side) (a : Nat) : Nat :=
  let h := hifOf s d
  if a < 0x8100 then
    let f := (a - 0x8000) / 32
    let i := a % 32 / 4
    if i = 0 then w32 (felt s f).pos else latchedWord s d f i
  else match a with
    | 0x8100 => s.sys.devTime % 4294967296
    | 0x8104 => h.devHi
    | 0x8108 => h.calLo
    | _ => h.calHi

/-- The byte at an address inside a region. -/
def hostByte (s : State) (d : Side) (a : Nat) : Byte :=
  if a < 0x100 then BitVec.ofNat 8 (hifWord s d (a / 4 * 4) / 256 ^ (a % 4))
  else if a < 0x8000 then Memory.read s.mail.windows (winAddr (slKey d (selSluice s d)) (selPage s d * 4096 + (a - 0x1000)))
  else BitVec.ofNat 8 (mirrorWord s d (a / 4 * 4) / 256 ^ (a % 4))

/-- A read of FELTn_POS latches the felt's other words (spec/04_felt_time.md R148). -/
def latchFelt (d : Side) (f : Nat) (s : State) : State :=
  modHif d (fun h => { h with feltLatch := tset h.feltLatch f ((mirror s f).drop 1) }) s

/-- A read of DEVTIME_LO samples both times and latches the other words (R60). -/
def latchTime (d : Side) (s : State) : State :=
  let c := uOf 8 s.sys.calTime
  modHif d (fun h =>
    { h with devHi := s.sys.devTime / 4294967296 % 4294967296, calLo := c % 4294967296, calHi := c / 4294967296 }) s

/-- What a read of `n` bytes from `a`, all in one region, latches. -/
def latchRead (d : Side) (a n : Nat) (s : State) : State :=
  let touches (w : Nat) : Bool := w < a + n && a < w + 4
  if a < 0x8000 then s
  else
    let s1 := (List.range 8).foldl (fun t f => if touches (0x8000 + 32 * f) then latchFelt d f t else t) s
    if touches 0x8100 then latchTime d s1 else s1

/-- Bytes read from `a`, with what the read latches: what lies beyond the region reads 0x00 (R57). -/
def windowRead (d : Side) (a n : Nat) (s : State) : List Byte × State :=
  let k := inside s d a n
  let s1 := latchRead d a k s
  ((List.range k).map (fun i => hostByte s1 d (a + i)) ++ zeros (n - k), s1)

/-- A read that sets RANGE where it goes beyond its region (R57). -/
def hostRead (d : Side) (a n : Nat) (s : State) : List Byte × State :=
  let (bytes, s1) := windowRead d a n s
  (bytes, if inside s d a n < n then hifErr d 2 s1 else s1)

/-- A byte `i` of a word replaced. -/
def putByte (w : Reg) (i : Nat) (b : Byte) : Reg :=
  (w &&& ~~~(0xFF#32 <<< (8 * i))) ||| ((b.setWidth 32) <<< (8 * i))

/-- Bits that a byte, at place `i`, names in its word. -/
def byteBits (i : Nat) (b : Byte) : Reg := (b.setWidth 32) <<< (8 * i)

/-- A byte of a register written by its access type; reserved bits keep reading zero (R11, R13, R59). Doorbell and
release act when the write is complete (R63). -/
def regByte (d : Side) (a : Nat) (b : Byte) (s : State) : State :=
  let i := a % 4
  match a / 4 * 4 with
  | 0x08 => modHif d (fun h => { h with ctrl := putByte h.ctrl i b &&& 0x3 }) s
  | 0x0C => modHif d (fun h => { h with windowSel := putByte h.windowSel i b &&& 0x70F }) s
  | 0x10 => modHif d (fun h => { h with irqStatus := h.irqStatus &&& ~~~(byteBits i b) }) s
  | 0x14 => modHif d (fun h => { h with irqEnable := putByte h.irqEnable i b &&& 0xF000FFFF }) s
  | 0x24 => modHif d (fun h => { h with err := h.err &&& ~~~(byteBits i b) }) s
  | _ => s

/-- Bytes written inside the window of the selected sluice; not while it is BUSY (R62). -/
def windowWrite (d : Side) (a : Nat) (bs : List Byte) (s : State) : State :=
  let n := selSluice s d
  match ownSluice s d n with
  | some sl =>
    if sl.st = .busy || sl.st = .closed then hifErr d 6 s
    else writeWin (slKey d n) (selPage s d * 4096 + (a - 0x1000)) bs s
  | none => s

/-- Bytes of registers, in ascending order. -/
def regBytes (d : Side) : Nat → List Byte → State → State
  | _, [], s => s
  | a, b :: bs, s => regBytes d (a + 1) bs (regByte d a b s)

/-- A write from `a`: what lies beyond the region is not written and sets RANGE (R57). -/
def hostWrite (d : Side) (a : Nat) (bs : List Byte) (s : State) : State :=
  let k := inside s d a bs.length
  let xs := bs.take k
  let s1 := if xs.isEmpty then s
    else if a < 0x100 then regBytes d a xs s
    else if a < 0x8000 then windowWrite d a xs s else s
  if k < bs.length then hifErr d 2 s1 else s1

/-! Requests and segments (R65–R73). -/

/-- Fields of a header (R65). -/
structure Hdr where
  code : Nat
  tag : Nat
  flags : Nat
  length : Nat
  segment : Nat
  credit : Nat
  deriving DecidableEq, Repr

def hdrOf (b : List Byte) : Hdr := ⟨g2 b 0, g2 b 2, g2 b 4, g4 b 8, g2 b 12, g2 b 14⟩

/-- Segments of a payload through a sluice (R71). -/
def segCount (s : State) (d : Side) (n len : Nat) : Nat :=
  let r := segRoom s d n
  (len + r - 1) / r

/-- Segments that may follow without a further grant (R72). -/
def creditOf (s : State) (d : Side) (n : Nat) (q : Held) : Nat := min 8 (segCount s d n q.length - q.next)

/-- The grant for the next expected segment (R72). -/
def placeGrant (d : Side) (n : Nat) (q : Held) (s : State) : State :=
  placeRaw d n (header q.code q.tag 1 sPENDING q.length q.next (creditOf s d n q)) s

def setHeld (d : Side) (n : Nat) (q : Option Held) (s : State) : State := modSluice (slKey d n) (fun sl => { sl with held := q }) s

/-- A segment's payload part joins the request: the whole waits to be served, or the next is granted. DESIGN CHOICE: an
Evver/UDP REQUEST with SEG clear and less payload than its length is taken as a first segment (notes/assumptions/135.md). -/
def gather (d : Side) (n : Nat) (q : Held) (part : List Byte) (s : State) : State :=
  let p : Held := { q with data := q.data ++ part.take (q.length - q.data.length), next := q.next + 1 }
  if p.data.length = p.length then setHeld d n (some { p with whole := true }) s
  else placeGrant d n p (setHeld d n (some { p with whole := false }) s)

/-- A request or a segment taken from a window, with the payload part that came with it (R62, R66, R71, R72). -/
def submit (d : Side) (n : Nat) (h : Hdr) (part : List Byte) (s : State) : State :=
  match ownSluice s d n with
  | none => s
  | some sl =>
    let s1 := takeWindow d n s
    match sl.held with
    | some q =>
      if h.flags ≥ 16 || h.credit != 0 then endHeld d n q sBADOBJ s1
      else if h.code != q.code || h.tag != q.tag || h.length != q.length || h.segment != q.next then
        endHeld d n q sSEGORDER s1
      else gather d n q (part.take (segRoom s d n)) s1
    | none =>
      let o : Org := { side := d, sluice := n % 16, tag := h.tag, code := h.code, flags := h.flags, bg := isBg h.code }
      match headerCheck s d (n % 16) h.code h.tag h.flags h.credit h.length (h.flags % 2 = 1) (h.segment = 0) with
      | some st => place o st [] s1
      | none => gather d n { code := h.code, tag := h.tag, flags := h.flags, length := h.length, whole := false }
          (part.take (segRoom s d n)) s1

/-- A doorbell (R62–R64). -/
def doorbell (d : Side) (n : Nat) (s : State) : State :=
  match ownSluice s d n with
  | none => hifErr d 0 s
  | some sl =>
    match sl.st with
    | .closed => hifErr d 0 s
    | .busy => hifErr d 1 s
    | _ =>
      if sl.role = 1 then hifErr d 1 s
      else
        let key := slKey d n
        submit d n (hdrOf (readWin s key 0 16)) (readWin s key 16 (segRoom s d n)) s

/-- The next segment of an answer (R74). -/
def postSegment (d : Side) (n : Nat) (r : Rest) (s : State) : State :=
  let room := segRoom s d n
  let more := r.data.length > room
  placeRaw d n (header r.code r.tag (1 + (if more then 0 else 2) + r.flags) r.status r.total r.next 0 ++ r.data.take room)
    (modSluice (slKey d n) (fun sl =>
      { sl with rest := if more then some { r with next := r.next + 1, data := r.data.drop room } else none }) s)

/-- The oldest queued notice of a side is posted in its notice sluice (R64). -/
def postQueued (d : Side) (s : State) : State :=
  match s.mail.notices.find? (fun q => q.side == d) with
  | some q => postNotice q (onMail (fun m => { m with notices := m.notices.erase q }) s)
  | none => s

/-- A release (R62, R74). -/
def release (d : Side) (n : Nat) (s : State) : State :=
  match ownSluice s d n with
  | none => hifErr d 0 s
  | some sl =>
    match sl.st with
    | .closed => hifErr d 0 s
    | .resp =>
      match sl.rest with
      | some r => postSegment d n r s
      | none =>
        let s1 := modSluice (slKey d n) (fun sl => { sl with st := .idle, notify := false, noticeOut := false }) s
        if sl.role = 1 then postQueued d s1 else s1
    | _ => hifErr d 1 s

/-- What a complete write rings: byte 0 of HIF_DOORBELL, then of HIF_RELEASE (R63). -/
def ringAll (d : Side) (a : Nat) (bs : List Byte) (s : State) : State :=
  let at_ (w : Nat) : Option Byte := if a ≤ w && a < 0x100 then bs[w - a]? else none
  let s1 := match at_ 0x18 with | some b => doorbell d (b.toNat % 16) s | none => s
  match at_ 0x1C with | some b => release d (b.toNat % 16) s1 | none => s1

/-- A write and what it rings. -/
def hostStore (d : Side) (a : Nat) (bs : List Byte) (s : State) : State := ringAll d a bs (hostWrite d a bs s)

/-! Evver/UDP (R83, R84; spec/13_line_uplink.md R462–R465). -/

/-- The side that a source of session-0 datagrams is. -/
def guestSide (src : UdpSrc) : Side := .udp (2 * (src.via + 4 * (src.port + 65536 * src.addr)) + 1)

/-- The source that such a side is. -/
def guestSrc (n : Nat) : UdpSrc := { addr := n / 2 / 262144, port := n / 2 / 4 % 65536, via := n / 2 % 4 }

/-- S0 of a side is there (R61). -/
def openS0 (d : Side) (s : State) : State :=
  if (ownSluice s d 0).isSome then s
  else onMail (fun m => { m with sluices := tset m.sluices (slKey d 0) { owner := some d, sizeKib := 1, st := .idle } }) s

/-- Sessions are accepted on this port of arrival (spec/13 R466). -/
def portAllowed (s : State) (via : Nat) : Bool := bitOf (g1 (bodyOf s 6 0) 38) via

/-- The number of the open session with an identifier. -/
def sessionNo (s : State) (id : Nat) : Option Nat := (s.net.sessions.find? (fun e => e.2.id == id && id != 0)).map (·.1)

/-- The open session of an identifier, from its own source only (spec/13 R463). -/
def sessionFrom (s : State) (src : UdpSrc) (id : Nat) : Option Nat :=
  (s.net.sessions.find? (fun e => e.2.id == id && id != 0 && e.2.addr == src.addr && e.2.port == src.port &&
    e.2.via == src.via)).map (fun e => e.1)

/-- What a lockout names: an IPv4 address, or the service UART (3) (spec/13 R464, R465). -/
def lockKey (src : UdpSrc) : Nat × Nat := if src.via = 3 then (0, 3) else (src.addr, 0)

/-- The switch forwards: not in ICE and VAULT, and not once last gasp or a lost reference has stopped it (spec/13 R455;
spec/17 R547). -/
def switchOn (s : State) : Bool :=
  s.sys.mode != .vault && s.sys.mode != .ice && !s.power.lastGasp && !s.sys.resetting && !pllDown s 1

/-- The device port is open (spec/13 R455). -/
def devicePort (s : State) : Bool := switchOn s && s.net.applied && s.sys.ready

/-- Datagrams of a port of arrival are heard: on the line by the device port, on the service UART while Evver is served
(spec/13 R455, R465). -/
def hearsVia (s : State) (via : Nat) : Bool := if via = 3 then s.sys.ready && !stopping s else devicePort s

/-- The source is locked out of session 0 (spec/13 R464). -/
def lockedOut (s : State) (src : UdpSrc) : Bool := s.net.lockouts.contains (lockKey src)

/-- The side that a datagram of a source speaks for; none where it is discarded (R70, R83; spec/13 R463, R464; in
RECOVERY spec/14_freshet.md R491). -/
def dgramSide (s : State) (src : UdpSrc) (session sluice : Nat) : Option Side :=
  if s.sys.mode = .recovery then if session = 0 && sluice = 0 && src.via = 0 && switchOn s then some (guestSide src) else none
  else if !hearsVia s src.via then none
  else if session = 0 then
    if sluice = 0 && portAllowed s src.via && !lockedOut s src then some (guestSide src) else none
  else (sessionFrom s src session).map Side.udp

/-- A datagram of a session restarts its idle time (spec/13 R463). -/
def sessionSeen (d : Side) (s : State) : State :=
  match d with
  | .udp n => if isGuest d then s else onNet (fun x =>
      { x with sessions := tmod x.sessions n (fun e => { e with lastSeen := s.sys.devTime }) }) s
  | _ => s

/-- A datagram tells the hardware address of its source (notes/assumptions/174.md). -/
def sourceSeen (src : UdpSrc) (s : State) : State :=
  if src.mac.isEmpty then s else onNet (fun n => { n with arp := tset n.arp src.addr src.mac }) s

/-- Segments received early join as the gap before them fills (R84). -/
def takeEarly : Nat → Side → Nat → State → State
  | 0, _, _, s => s
  | fuel + 1, d, n, s =>
    let key := slKey d n
    let sl := tget s.mail.sluices key
    match sl.held with
    | some q =>
      match tfind sl.early q.next with
      | some part =>
        if q.whole then s
        else takeEarly fuel d n (gather d n q part (modSluice key (fun x =>
          { x with st := .busy, early := tdel x.early q.next, lastTag := some q.tag, lastSegs := q.next :: x.lastSegs }) s))
      | none => s
    | none => s

/-- A datagram's request on its sluice (R84): a repeat gets the kept answer again, a segment within the credit waits,
one outside it gets the current grant. -/
def udpSubmit (k n : Nat) (h : Hdr) (part : List Byte) (s : State) : State :=
  let d : Side := .udp k
  match ownSluice s d n with
  | none => s
  | some sl =>
    if sl.st = .closed || sl.role = 1 then s
    else if sl.lastTag = some h.tag && sl.lastSegs.contains h.segment then
      if sl.st = .busy || sl.lastAnswer.isEmpty then s else sendDgram k sl.lastAnswer s
    else if sl.st = .busy then s
    else
      let key := slKey d n
      let fresh := takeEarly 9 d n (submit d n h part (modSluice key (fun x =>
        { x with
          lastTag := some h.tag, lastSegs := if sl.held.isNone then [h.segment] else h.segment :: x.lastSegs, lastAnswer := [],
          early := if sl.held.isNone then [] else x.early }) s))
      match sl.held with
      | some q =>
        if h.code = q.code && h.tag = q.tag && h.length = q.length && h.flags < 16 && h.credit = 0 &&
            h.segment != q.next then
          if q.next < h.segment && h.segment < q.next + creditOf s d n q then
            modSluice key (fun x => { x with early := tset x.early h.segment (part.take (segRoom s d n)) }) s
          else sendDgram k sl.lastAnswer s
        else fresh
      | none => fresh

/-- A carriage datagram (R83): REQUEST and RELEASE; anything else is discarded. -/
def datagram (kind : Nat) (src : UdpSrc) (dg : List Byte) (s : State) : State :=
  let n := g1 dg 3
  if g2 dg 0 != 0x7645 || g1 dg 2 != kind || n > 15 then s
  else match dgramSide s src (g2 dg 4) n with
    | some (.udp k) =>
      let s1 := sessionSeen (.udp k) (sourceSeen src (if isGuest (.udp k) then openS0 (.udp k) s else s))
      if kind = 1 then
        if dg.length < 24 || dg.length > 1032 then s else udpSubmit k n (hdrOf (dg.drop 8)) (dg.drop 24) s1
      else release (.udp k) n s1
    | _ => s

end Sys2Proof.Machine
end

