-- ==== Sys2Proof/Machine/TxnOps.lean ====
section
/-! DEFINITION. The end of a configuration transaction (spec/03_configuration.md R112, R117, R119). -/

namespace Sys2Proof.Machine

def modTxn (f : Txn → Txn) (s : State) : State := onCfg (fun c => { c with txn := c.txn.map f }) s

/-- A store of a configuration slot. -/
def isConfigStore : StoreAct → Bool
  | .configSlot _ => true
  | _ => false

def cfgSlot (s : State) (b : Bool) : Slot := if b then s.cfg.slotB else s.cfg.slotA

/-- The slot that the next commit writes: the inactive one (R114, R123). DESIGN CHOICE: where neither is active, A, unless only
A holds a newer schema, which is to be left untouched (R122; notes/assumptions/160.md). -/
def inactiveSlot (s : State) : Bool :=
  let newer (x : Slot) : Bool := !x.empty && runSchema s < x.schema
  match s.cfg.activeSlot with
  | some b => !b
  | none => newer s.cfg.slotA && !newer s.cfg.slotB
def putCfgSlot (b : Bool) (x : Slot) (s : State) : State := onCfg (fun c => if b then { c with slotB := x } else { c with slotA := x }) s

/-- The write of a slot is given up: one that had begun may leave its slot partly written, so its check is a free value
(R119; notes/assumptions/14.md). Its header, and whether it is empty, stay (R122). -/
def dropSlotWrite (s : State) : State :=
  let begun := s.power.stores.any (fun x => isConfigStore x.act && x.admitted)
  let s1 := onPower (fun p => { p with stores := p.stores.filter (fun x => !isConfigStore x.act) }) s
  if begun then
    let b := inactiveSlot s
    drawn 1 (putCfgSlot b { cfgSlot s b with crc := w32 (Config.freeNat s.fresh) } s1)
  else s1

/-- The working copy is dropped, with its record (R112): 0 for a CFG_DISCARD, which has none. -/
def discardTxn (cause : Nat) (s : State) : State :=
  match s.cfg.txn with
  | none => s
  | some t =>
    let s1 := onCfg (fun c => { c with txn := none }) (if t.queued.isSome || t.committing then dropSlotWrite s else s)
    if cause = 0 then s1 else note 0x0114 [cause, sideCode t.owner] s1

end Sys2Proof.Machine
end

