-- ==== Sys2Proof/Machine/NetOps.lean ====
section
/-! DEFINITION. Line ports: the NETWORK object, frames through the switch, the frames the device sends, and sessions
(spec/13_line_uplink.md R452–R467). -/

namespace Sys2Proof.Machine

/-! The NETWORK body (R466). -/

def netBody (s : State) : List Byte := bodyOf s 6 0
/-- The device's IPv4 address; without a NETWORK object, that of R491 of spec/14_freshet.md. -/
def ipAddr (s : State) : List Byte :=
  if (netBody s).isEmpty then p1 192 ++ p1 168 ++ p1 0 ++ p1 10 else slice (netBody s) 0 4
def mgmtVid (s : State) : Nat := g2 (netBody s) 12
def mgmtPcp (s : State) : Nat := g1 (netBody s) 14
def uplinkMode (s : State) : Nat := g1 (netBody s) 15
def netVids (s : State) : List Nat := ((List.range 8).map (fun i => g2 (netBody s) (16 + 2 * i))).filter (· != 0)
def transparentClock (s : State) : Bool := bitOf (g1 (netBody s) 32) 0
def ordinaryClock (s : State) : Bool := bitOf (g1 (netBody s) 32) 1
def maxSessions (s : State) : Nat := g1 (netBody s) 35
def idleSeconds (s : State) : Nat := g2 (netBody s) 36
def loopGuard (s : State) : Bool := g1 (netBody s) 39 == 1
def svcBaud (s : State) : Nat := if g4 (netBody s) 44 = 0 then 115200 else g4 (netBody s) 44

def port (s : State) (p : Nat) : Port := tget s.net.ports p
def modPort (p : Nat) (f : Port → Port) (s : State) : State := onNet (fun n => { n with ports := tmod n.ports p f }) s

/-! The switch (R453–R456). -/

/-- Ethertype, after a tag where there is one, and the offset of what follows it. -/
def etherOf (b : List Byte) : Nat × Nat :=
  let t := beNat (slice b 12 2)
  if t = 0x8100 then (beNat (slice b 16 2), 18) else (t, 14)

def tagOf (b : List Byte) : Option Nat := if beNat (slice b 12 2) = 0x8100 then some (beNat (slice b 14 2)) else none

/-- UDP destination port of an IPv4 datagram in a frame, and the offset of its payload. -/
def udpOf (b : List Byte) : Option (Nat × Nat) :=
  let (t, o) := etherOf b
  let ihl := (g1 b o) % 16 * 4
  if t = 0x0800 && g1 b (o + 9) = 17 then some (beNat (slice b (o + ihl + 2) 2), o + ihl + 8) else none

/-- A broadcast datagram to port 47,101, which the switch never forwards (R453). -/
def isOffer (b : List Byte) : Bool :=
  let (_, o) := etherOf b
  slice b (o + 16) 4 == [255, 255, 255, 255] && (match udpOf b with | some (p, _) => p == 47101 | none => false)

/-- Offset of a PTP message in a frame (R459). -/
def ptpAt (b : List Byte) : Option Nat :=
  let (t, o) := etherOf b
  if t = 0x88F7 then some o
  else match udpOf b with
    | some (p, q) => if p = 319 || p = 320 then some q else none
    | none => none

/-- A PTP event message: Sync, Delay_Req, Pdelay_Req or Pdelay_Resp. -/
def ptpEvent (b : List Byte) : Bool := match ptpAt b with | some o => decide (g1 b o % 16 < 4) | none => false

/-- Egress queue of a frame (R454). -/
def queueOf (b : List Byte) : Nat :=
  if ptpEvent b then 3 else match tagOf b with | some t => t / 8192 / 2 | none => 0

/-- The loop guard blocks a port; it still carries probes (R456). -/
def portBlocked (s : State) (p : Nat) : Bool := s.net.blocked.any (fun e => e.1 == p)

/-- A probe frame of a loop guard, this device's or another's. -/
def isProbe (b : List Byte) : Bool := (etherOf b).1 == 0x88B5

/-- A frame joins an egress queue; with the 64 KiB of the port taken it is dropped and counted (R453). -/
def enqueue (p : Nat) (b : List Byte) (s : State) : State :=
  let x := port s p
  let used := (x.queues.flatMap (fun q => q.2.map (fun f => f.2.length))).sum
  if !x.link || (portBlocked s p && !isProbe b) then s
  else if used + b.length > 65536 then modPort p (fun x => { x with drops := w32 (x.drops + 1) }) s
  else modPort p (fun x => { x with queues := tmod x.queues (queueOf b) (fun l => l ++ [(s.sys.devTime, b)]) }) s

/-- Where a learned address lies (R453). -/
def macPort (s : State) (mac : List Byte) : Option Nat :=
  (s.net.macTable.find? (fun e => e.1 == beNat mac && decide (s.sys.devTime ≤ e.2.2 + 300000000000))).map (fun e => e.2.1)

/-- A source address is learned: up to 1,024 of them, each for 300 s. A group address, or none, is no sender's, and the device's
own lies on no external port. -/
def learn (mac : List Byte) (p : Nat) (s : State) : State :=
  let now := s.sys.devTime
  if mac.isEmpty || g1 mac 0 % 2 = 1 || mac == s.net.mac then s
  else onNet (fun n =>
    let kept := n.macTable.filter (fun e => e.1 != beNat mac && decide (now ≤ e.2.2 + 300000000000))
    { n with macTable := if kept.length < 1024 then (beNat mac, p, now) :: kept else kept }) s

/-- External ports out of which a frame from port `p` goes. -/
def egress (s : State) (p : Nat) (b : List Byte) : List Nat :=
  let dst := slice b 0 6
  let others := [0, 1, 2].filter (fun q => q != p)
  if isOffer b || dst == s.net.mac then []
  else match macPort s dst with
    | some q => if g1 dst 0 % 2 = 0 then others.filter (· == q) else others
    | none => others

/-! Transmission, one frame of each port at a time in strict priority (R453; notes/assumptions/42.md), with the residence
time of PTP messages (R459). -/

def asciiBytes (cs : List Nat) : List Byte := cs.map (BitVec.ofNat 8)

/-- One's complement sum of 16-bit words. -/
def inetSum (bs : List Byte) : Nat :=
  let t := (chunks 2 (bs.length / 2 + 1) bs).foldl (fun a w => a + beNat (fit 2 w)) 0
  let u := t % 65536 + t / 65536
  65535 - (u % 65536 + u / 65536)

/-- Bytes replaced from an offset. -/
def splice (b : List Byte) (o : Nat) (x : List Byte) : List Byte := b.take o ++ x ++ b.drop (o + x.length)

/-- The UDP checksum and the frame check sequence follow a changed payload. -/
def reseal (b : List Byte) : List Byte :=
  let (t, o) := etherOf b
  let body := b.take (b.length - 4)
  let ihl := g1 b o % 16 * 4
  let u := o + ihl
  let n := beNat (slice b (u + 4) 2)
  let pseudo := slice b (o + 12) 8 ++ [0, 17] ++ beBytes 2 n
  let c1 :=
    if t = 0x0800 && slice b (u + 6) 2 != [0, 0] then
      splice body (u + 6) (beBytes 2 (inetSum (pseudo ++ splice (slice body u n) 6 [0, 0])))
    else body
  c1 ++ leBytes 4 (crc32 c1)

/-- The correctionField grows by a time in ns (units of 2⁻¹⁶ ns). -/
def correct (b : List Byte) (o ns : Nat) : List Byte :=
  reseal (splice b (o + 8) (beBytes 8 ((beNat (slice b (o + 8) 8) + ns * 65536) % 18446744073709551616)))

/-- What identifies a two-step Sync and its Follow_Up. -/
def syncKey (b : List Byte) (o : Nat) : List Byte := slice b (o + 20) 10 ++ slice b (o + 30) 2

/-- A frame as it leaves after `ns` in the switch. -/
def leaving (s : State) (p : Nat) (b : List Byte) (ns : Nat) : List Byte × Option (List Byte × Nat) :=
  match ptpAt b with
  | none => (b, none)
  | some o =>
    let kind := g1 b o % 16
    let twoStep := bitOf (g1 b (o + 6)) 1
    if !transparentClock s then (b, none)
    else if kind = 0 && twoStep then (b, some (syncKey b o, ns))
    else if kind = 0 || kind = 1 || kind = 9 then (correct b o ns, none)
    else if kind = 8 then
      match (port s p).residence.find? (fun e => e.1 == syncKey b o) with
      | some (_, r) => (correct b o r, none)
      | none => (b, none)
    else (b, none)

/-- The first frame of a port's highest waiting queue leaves. -/
def transmitPort (s : State) (p : Nat) : State :=
  let x := port s p
  match (if x.link then [3, 2, 1, 0] else []).find? (fun q => !(tget x.queues q).isEmpty) with
  | none => s
  | some q =>
    match tget x.queues q with
    | [] => s
    | (t, b) :: rest =>
      let (c, r) := leaving s p b (s.sys.devTime - t)
      onNet (fun n => { n with sent := n.sent ++ [(p, c)] })
        (modPort p (fun x =>
          { x with
            tx := w32 (x.tx + 1), queues := tset x.queues q rest,
            residence := match r with | some e => (e :: x.residence).take 8 | none => x.residence }) s)

def transmit (s : State) : State := if switchOn s then [0, 1, 2].foldl transmitPort s else s

/-! Frames that the device sends (R454, R458). -/

/-- A frame of the device: its address, the management tag, padding and check sequence. -/
def deviceFrame (s : State) (dst : List Byte) (ethertype : Nat) (body : List Byte) : List Byte :=
  let tag := if mgmtVid s = 0 then [] else beBytes 2 0x8100 ++ beBytes 2 (mgmtPcp s * 8192 + mgmtVid s)
  let head := dst ++ s.net.mac ++ tag ++ beBytes 2 ethertype
  let f := head ++ body ++ zeros (60 - (head.length + body.length))
  f ++ leBytes 4 (crc32 f)

/-- An IPv4 header without options. -/
def ipHeader (s : State) (proto len : Nat) (dst : List Byte) : List Byte :=
  let h (sum : Nat) := asciiBytes [0x45, 0] ++ beBytes 2 (20 + len) ++ zeros 4 ++ asciiBytes [64, proto] ++ beBytes 2 sum ++
    ipAddr s ++ fit 4 dst
  h (inetSum (h 0))

/-- A frame with a UDP datagram of the device. The UDP checksum is 0, none (notes/assumptions/174.md). -/
def udpFrame (s : State) (mac ip : List Byte) (sport dport : Nat) (msg : List Byte) : List Byte :=
  let udp := beBytes 2 sport ++ beBytes 2 dport ++ beBytes 2 (8 + msg.length) ++ zeros 2 ++ msg
  deviceFrame s (fit 6 mac) 0x0800 (ipHeader s 17 udp.length ip ++ udp)

/-- Flag bytes and escapes inside a frame of the service UART (R465). -/
def stuff (bs : List Byte) : List Byte := bs.flatMap (fun b => if b = 0x7E || b = 0x7D then [0x7D, b ^^^ 0x20] else [b])

/-- A datagram as a frame of the service UART: CRC-16, most significant byte first, between flags (R465). -/
def uartFrame (dg : List Byte) : List Byte := [0x7E] ++ stuff (dg ++ beBytes 2 (crc16 dg)) ++ [0x7E]

/-- Where the datagrams of side `.udp k` go: the source of session 0, or that of an open or a closed session. -/
def peerSrc (s : State) (k : Nat) : UdpSrc :=
  if isGuest (.udp k) then guestSrc k
  else
    let x := (tfind s.net.sessions k).getD (tget s.net.ended k)
    { addr := x.addr, port := x.port, via := x.via }

/-- A datagram to a side leaves: on the service UART at once, on a line port as a frame with the management tag, in that
port's queue (R454, R465; spec/02_sluices.md R83). What was placed before the switch stopped has left. -/
def sendOut (before : State) (e : Nat × List Byte) (s : State) : State :=
  let src := peerSrc (if isGuest (.udp e.1) || (tfind s.net.sessions e.1).isSome then s else before) e.1
  if src.via = 3 then onNet (fun n => { n with sent := n.sent ++ [(3, uartFrame e.2)] }) s
  else
    let mac := (tfind s.net.arp src.addr).getD (Config.hwAddress src.addr)
    let f := udpFrame before mac (beBytes 4 src.addr) 47100 src.port e.2
    if switchOn s then enqueue src.via f s
    else if switchOn before && (port before src.via).link then
      onNet (fun n => { n with sent := n.sent ++ [(src.via, f)] }) (modPort src.via (fun x => { x with tx := w32 (x.tx + 1) }) s)
    else s

/-- The datagrams that a step placed leave. -/
def sendAll (before s : State) : State :=
  (s.mail.udpOut.drop before.mail.udpOut.length).foldl (fun t e => sendOut before e t) s

/-! What arrives (R453–R456). -/

/-- Bytes on the wire of a frame with that much after its type. -/
def wireSize (n : Nat) : Nat := max 64 (18 + n)

/-- Queue and bytes that a row's frame, without a tag, takes in the buffer of the device port (R453, R454). -/
def waitingOf (i : LateFrame) : Waiting :=
  match i with
  | .arp _ _ _ _ => ⟨0, 64, i⟩
  | .echo _ _ _ _ d => ⟨0, wireSize (24 + d.length), i⟩
  | .ptp m => ⟨match m.body with | .sync _ _ => 3 | _ => 0, wireSize (if m.transport = 0 then 44 else 72), i⟩
  | .freshet _ _ _ _ d => ⟨0, wireSize (28 + d.length), i⟩
  | .dgram _ _ d => ⟨0, wireSize (28 + d.length), i⟩
  | .other => ⟨0, 64, i⟩

/-- A frame joins the buffer of the device port; what finds its 64 KiB taken is dropped and counted (R453, R455). -/
def buffer (w : Waiting) (s : State) : State :=
  if (s.net.late.map (·.size)).sum + w.size > 65536 then modPort 3 (fun x => { x with drops := w32 (x.drops + 1) }) s
  else onNet (fun n => { n with late := n.late ++ [w] }) s

/-- A frame for the device port: during re-execution it waits in the buffer, and is served when Evver resumes (R455). -/
def heardNow (w : Waiting) (f : State → State) (s : State) : State :=
  if !devicePort s then s
  else if s.absorb.reexecuting then buffer w s
  else f s

/-- A frame arrives on an external port: it is counted and its sender learned; on a blocked port only a probe goes further
(R453, R456, R469). -/
def fromLine (p : Nat) (mac : List Byte) (probe : Bool) (f : State → State) (s : State) : State :=
  if !switchOn s || p > 2 then s
  else
    let s1 := modPort p (fun x => { x with rx := w32 (x.rx + 1) }) s
    if portBlocked s p && !probe then s1 else f (learn mac p s1)

/-- A row of a frame of a kind, from a hardware address on a port. -/
def lineRow (p : Nat) (mac : List Byte) (i : LateFrame) (f : State → State) : State → State :=
  fromLine p mac false (heardNow (waitingOf i) f)

/-! Sessions (R461–R465). -/

def serialBytes (s : State) : List Byte := p8 s.sys.serial

/-- The first 16 bytes of HMAC-SHA-256 with the line key over label, two nonces and the serial number (R462). -/
def lineProof (key label n1 n2 serial : List Byte) : List Byte := (hmac key (label ++ n1 ++ n2 ++ serial)).take 16

def labelEvvr : List Byte := asciiBytes [0x45, 0x56, 0x56, 0x52]
def labelRvve : List Byte := asciiBytes [0x52, 0x56, 0x56, 0x45]

/-- On the service UART in COMMISSION a first key is set without one (R465). -/
def firstKeyWay (s : State) (via : Nat) : Bool := s.net.key.isNone && via == 3 && s.sys.mode == .commission

/-- The record of a change of lock (R460). -/
def noteLock (before : State) (s : State) : State :=
  if (before.net.ptpState == 3) == (s.net.ptpState == 3) then s
  else note 0x0C14 [s.net.ptpState, s.net.ptpOffset, s.net.ptpMaster % 4294967296] s

/-- A port's link is as told; Evver records a change (R457). -/
def linkTo (p cause : Nat) (s : State) : State :=
  let x := port s p
  let up := cause == 1
  let wrong := cause == 3
  if x.link == up && x.wrongSpeed == wrong then s
  else
    let s1 := modPort p (fun x => { x with link := up, wrongSpeed := wrong, queues := if up then x.queues else [] }) s
    if s.sys.ready && (x.link != up || wrong) then note 0x0C10 [p, cause] s1 else s1

/-- The loop guard releases the ports that it blocks and that `p` names (R456). -/
def unblock (p : Nat × Nat → Bool) (s : State) : State :=
  (s.net.blocked.filter p).foldl (fun t e => note 0x0C12 [e.1, 2] t)
    (onNet (fun n => { n with blocked := n.blocked.filter (fun e => !p e) }) s)

/-- The ordinary clock follows nothing: no clock is chosen, and nothing is slewed (R460). -/
def ptpForgot (st : Nat) (n : Net) : Net :=
  { n with ptpState := st, ptpGoodSince := none, ptpSlew := 0, ptpChosen := none, ptpExchange := {} }

/-- The ordinary clock stops with the device; a lock that it held is recorded (R460). -/
def ptpStops (s : State) : State := noteLock s (onNet (fun n => { ptpForgot 0 n with ptpMasters := [] }) s)

/-- The NETWORK object is applied: the device port opens, and the service UART changes its rate (R455, R465). -/
def networkApplied (s : State) : State :=
  let due := if svcBaud s = s.net.baud then none else some (svcBaud s)
  let s1 := onNet (fun n => { n with applied := true, baudDue := due }) s
  let s2 := noteLock s1 (onNet (fun n =>
    if !ordinaryClock s1 then { ptpForgot 0 n with ptpMasters := [] }
    else { n with ptpState := if n.ptpState = 0 then 1 else n.ptpState }) s1)
  let s3 := if loopGuard s2 then s2 else unblock (fun _ => true) s2
  if uplinkMode s3 = 0 && (port s3 2).link then linkTo 2 2 s3 else s3

end Sys2Proof.Machine
end

