-- ==== Sys2Proof/Machine/WheelOps.lean ====
section
/-! DEFINITION. Dispatching wheel entries, jumps and resets, and the samples placed for felt-mode stations
(spec/04_felt_time.md R150–R160; spec/05_weir.md R192; spec/07_moisture_engine.md R285). -/

namespace Sys2Proof.Machine

/-- An entry passed by a jump and not executed (R158). -/
def skipEntry (e : Entry) (s : State) : State :=
  let s1 := match e.owner with
    | .programme z =>
      if e.purpose = 1 then modParcels z (fun p => if p.id = e.parcel then { p with flags := p.flags ||| 0x20 } else p) s
      else if e.kind = 4 then doseShort z e.parcel s else s
    | _ => s
  outcome e 3 s1

/-- Felt-mode stations without a waiting SAMPLE get their next, `period` counts on (notes/assumptions/29.md). -/
def placeSamples (s : State) : State :=
  (stationsBy s (fun n => stnSampleMode s n == 1 && (isWeir s n || isIsland s n) && stnZone s n < 16 && stnPeriod s n != 0)).foldl
    (fun t n =>
      if t.felt.entries.any (fun e => e.station == n && e.purpose == 4) then t
      else
        let f := zoneFelt t (stnZone t n)
        let e : Entry :=
          { owner := .programme (stnZone t n), felt := f, kind := 2, policy := 2, pos := w32 ((felt t f).pos + stnPeriod t n),
            station := n, purpose := 4 }
        (programmeEntry e t).2) s

/-- Takes the entries out of the wheel. -/
def takeEntries (p : Entry → Bool) (s : State) : State :=
  checkSpill (onFelt (fun x => { x with entries := x.entries.filter (fun e => !p e) }) s)

/-- The next periodic SAMPLE of a station follows at its period from the one dispatched. Those whose position the felt has
reached too are dispatched with it, but for a jump, of whose passed samples one is dispatched (R151, R158). -/
def rePlace (e : Entry) (jumped : Bool) (s : State) : State :=
  let per := stnPeriod s e.station
  if e.purpose = 4 && stnSampleMode s e.station = 1 && per != 0 then
    let n : Nat := (posDist e.pos (felt s e.felt).pos / (per : Int)).toNat
    let s1 := if jumped then s else (List.range n).foldl (fun t _ => sampleStation e.station t) s
    (programmeEntry { e with pos := w32 (e.pos + (n + 1) * per), due := false, spilled := false } s1).2
  else s

/-- More than 64 entries due at once: the count and the worst latency, a free value within its bound (R153;
notes/assumptions/14.md). -/
def noteCrowd (f n : Nat) (s : State) : State :=
  if n > 64 then drawn 1 (note 0x0420 [f, n, ((Config.freeNat s.fresh % (20001 + 300 * (n - 64)) : Nat) : Int)] s) else s

/-- The due entries of a felt are dispatched in the order of R152, those of one update after those of the one before;
each update that makes more than 64 due at once is recorded (R153). -/
def dispatchDue (f : Nat) (s : State) : State :=
  let c := (felt s f).pos
  let due := sortBy (fun a b => a.batch < b.batch || (a.batch == b.batch && entryLe c a b)) ((entriesOn s f).filter (·.due))
  if due.isEmpty then s
  else
    let s1 := takeEntries (fun e => e.felt == f && e.due) s
    let s2 := ((due.map (·.batch)).eraseDups).foldl (fun t b => noteCrowd f (due.filter (fun e => e.batch == b)).length t) s1
    zonesEval (due.foldl (fun t e => rePlace e false (actEntry e 0 t)) s2)

/-- Zones on a felt that jumped: parcels flagged JUMPED, the open one closed at the old position and the next opened at
the new (R159). -/
def jumpParcels (f old new : Nat) (forward : Bool) (s : State) : State :=
  (zonesOf s f).foldl (fun t z =>
    let t1 := modParcels z (fun p => { p with flags := p.flags ||| 0x80 }) t
    let t2 := if (parcels t1 z).any isOpen then cutParcel z old new 0 t1 else t1
    if forward then leaveAll z t2 else t2) s

/-- Same owner, kind and station (R158). DESIGN CHOICE: of a programme, entries of another purpose are another series; and of
the passed entries those of any policy count (notes/assumptions/164.md). -/
def sameSeries (a b : Entry) : Bool :=
  a.owner == b.owner && a.kind == b.kind && a.station == b.station && a.purpose == b.purpose

/-- The entries a forward jump passed take their policy, in order (R158). -/
def passEntries (es : List Entry) (s : State) : State :=
  match es with
  | [] => s
  | e :: r =>
    let s1 := match e.policy with
      | 0 => actEntry e 2 s
      | 1 => skipEntry e s
      | _ => if r.any (sameSeries e) then outcome e 4 s else rePlace e true (actEntry e 2 s)
    passEntries r s1

/-- The felt references of the channels that publish a felt will tell of its jump (spec/12_priority_bus.md R438). -/
def tellJump (f : Nat) (s : State) : State :=
  [0, 1, 2].foldl (fun t c =>
    if bitOf (g1 (fbody t f) 40) c then modCh c (fun k => { k with jumpedSince := f :: k.jumpedSince }) t else t) s

/-- A felt jumps by `j`, or is reset by one of 2^30 or more; derived felts follow with cause 4 (R140, R159, R160). DESIGN
CHOICE: the size of F0's step at an ICE wake is the whole count of microseconds, so that a long ICE is a reset (R136;
notes/assumptions/162.md). -/
def jumpFelt : Nat → Nat → Int → Nat → State → State
  | 0, _, _, _, s => s
  | fuel + 1, f, j, cause, s0 =>
    if j = 0 then s0
    else
      let s := dispatchDue f s0
      let old := (felt s f).pos
      let new := u32 (old + j)
      let now := s.sys.devTime
      let isReset := decide (1073741824 ≤ j.natAbs)
      let s1 :=
        if isReset then
          let n := (entriesOn s f).length
          let t := modFelt f (fun x =>
            { x with pos := new, jumps := (x.jumps + 1) % 65536, state := setBit 9 true x.state, time := now }) s
          jumpParcels f old new false
            (endEntries (fun e => e.felt == f) 6 (note 0x0414 [f, cause, sField 4 j, n] t))
        else
          let passed := if j < 0 then [] else
            sortBy (entryLe old) ((entriesOn s f).filter (fun e => decide (0 < posDist old e.pos) && decide (posDist old e.pos ≤ j)))
          let t := modFelt f (fun x =>
            { x with pos := new, jumps := (x.jumps + 1) % 65536, lastJump := j, time := now }) s
          let t1 := takeEntries (fun e => passed.any (fun y => y.handle == e.handle)) t
          let t2 := passEntries passed (noteCrowd f passed.length (note 0x0413 [f, cause, old, new, passed.length] t1))
          jumpParcels f old new (decide (0 < j)) t2
      let s2 := placeSamples (tellJump f s1)
      (derivedOf s2 f).foldl (fun t g =>
        let (q, r) := scaled t g j
        jumpFelt fuel g q 4 (modFelt g (fun x => { x with rem := r }) t)) (zonesEval s2)

/-- The jump of unknown distance at an ICE wake: F1–F7 (R45, R159). DESIGN CHOICE: a felt derived from F0 has it too, after the
jump that F0's step gives it (notes/assumptions/166.md). -/
def unknownJumps (s : State) : State :=
  [1, 2, 3, 4, 5, 6, 7].foldl (fun t f =>
    if !feltOn t f then t
    else
      let p := (felt t f).pos
      let t1 := modFelt f (fun x => { x with jumps := (x.jumps + 1) % 65536, lastJump := 0 }) t
      flagParcels f 0x80 true (note 0x0413 [f, 2, p, p, 0] t1)) s

end Sys2Proof.Machine
end

