-- ==== Sys2Proof/Machine/ModeOps.lean ====
section
/-! DEFINITION. Entering modes, HOLD and its end, wakes, and what every step does last: the mode follows the HOLD causes,
interrupts and switches follow the state (spec/01_one_view.md R32–R49; spec/02_sluices.md R59; spec/15_ream.md R519). -/

namespace Sys2Proof.Machine

/-- The causes other than supervisor re-execution (R40). -/
def hardCauses (s : State) : BitVec 6 := s.sys.holdCauses &&& 0x1F

def setCause (bit : Nat) (on : Bool) (s : State) : State :=
  onSys (fun y =>
    { y with
      holdCauses := if on then y.holdCauses ||| BitVec.ofNat 6 (2 ^ bit) else y.holdCauses &&& ~~~(BitVec.ofNat 6 (2 ^ bit)) }) s

/-- Lowest cause bit plus 1 (R519). -/
def lowestCause (c : BitVec 6) : Nat := match firstNat 6 (fun n => c.getLsbD n) with | some n => n + 1 | none => 0

/-- Field and loop outputs and valve channels at their programmed safe states (R36, R381, R397). -/
def outputsSafe (s : State) : State :=
  valvesSafe (fun _ => true) ((outputsOf s).foldl (fun t n => safeField n t) s)

/-- Every process output off: last gasp, a thermal trip, a reset, ICE (R381, R397, R568). -/
def outputsOff (s : State) : State := valvesOff ((outputsOf s).foldl (fun t n => offField n t) s)

/-- At entry to RUN the timer of every watched side starts that does not run and whose heartbeat is not lost (R43, R79). -/
def hbStart (s : State) : State :=
  onHb (fun h =>
    { h with
      running := true,
      started := h.started ++ (h.sides.filter (fun d => !h.started.any (fun e => e.1 == d) && !h.lost.any (fun e => e.1 == d))).map
        (fun d => (d, s.sys.devTime)) }) s

/-- In HOLD timers run, and only entry to RUN or a command starts one (R43, R79, R95). -/
def hbRun (s : State) : State := onHb (fun h => { h with running := true }) s

def hbStop (s : State) : State := onHb (fun h => { h with running := false, started := [], warned := [] }) s

/-- A HOLD other than for re-execution acts on the zones and the outputs (R36, R320). -/
def holdEffects (s : State) : State := outputsSafe (zonesHold (s.sys.holdCauses.getLsbD 0) s)

/-- The modes whose entry tells of what the recorder withheld (spec/15_ream.md R506). -/
def tellsWithheld : Mode → Bool
  | .commission => true | .still => true | .ice => true | _ => false

/-- A change in progress goes on through HOLD and back until the mode it asked for is entered (R34): only a change to RUN is
overtaken by a HOLD. -/
def targetAfter (m : Mode) (t : Option Mode) : Option Mode :=
  match t with
  | some .run => none
  | some x => if x = m || !(m == .run || m == .hold) then none else some x
  | none => none

/-- Conversions begin again where they had stopped: the filters fill anew (05_weir.md R184, R193). -/
def filtersRestart (s : State) : State :=
  if s.sys.mode = .still || s.sys.mode = .ice then
    onWeir (fun w => { w with stations := w.stations.map (fun e => (e.1, { e.2 with count := 0, pair := none, heldOff := [] })) }) s
  else s

/-- The load cells are switched off at entry to STILL, and on again at its end (08_weighing.md R313). -/
def scalesRestart (m : Mode) (s : State) : State :=
  if s.sys.mode = .still || m = .still then onWgt (fun t => t.map (fun e => (e.1, windowClears e.2))) s else s

/-- The mode is entered and recorded (R49). -/
def setMode (m : Mode) (cause wake : Nat) (s : State) : State :=
  let s1 := note 0x0010 [modeCode s.sys.mode, modeCode m, cause, wake] (scalesRestart m (filtersRestart s))
  let t := targetAfter m s.sys.target
  onSys (fun y => { y with mode := m, target := t, targetCause := if t.isNone then 0 else y.targetCause, targetWake := 0 })
    (if tellsWithheld m then flushSuppressed s1 else s1)

/-- Entry to RUN: timers, and autostart where it is due (R35, R43). From BOOT and BOOT-lite the outputs, which were off, go to
their safe_value, as an IDLE zone's stand there (11_field_io.md R397). -/
def enterRun (cause wake : Nat) (s : State) : State :=
  let fromOff := s.sys.mode == .boot || s.sys.mode == .ice
  let s0 := setMode .run cause wake s
  let s1 := if fromOff then outputsSafe s0 else s0
  let s2 := hbStart (if s.sys.mode = .hold then zonesResume s1 else s1)
  let s3 := placeSamples s2
  if s.sys.autoDue then zonesAutostart (onSys (fun y => { y with autoDue := false }) s3) else s3

/-- Entry to HOLD by the causes present; for re-execution alone nothing is driven (R36, R40). -/
def enterHold (cause wake : Nat) (s : State) : State :=
  let s1 := setMode .hold cause wake s
  let s2 := hbRun s1
  if hardCauses s2 = 0 then s2 else holdEffects s2

/-- Entry to COMMISSION (R33, R321, R397). -/
def enterCommission (cause : Nat) (s : State) : State :=
  outputsSafe (zonesCommission (hbStop (onSys (fun y => { y with autoDue := true }) (setMode .commission cause 0 s))))

/-- Entry to STILL: the application halts, valve channels are at safe_value (10_valve_drive.md R381), each felt's position is the base of its wake distance (R43, R44). -/
def enterStill (cause : Nat) (s : State) : State :=
  let s1 := hbStop (onSys (fun y => { y with appRunning := false }) (setMode .still cause 0 s))
  (List.range 8).foldl (fun t f => modFelt f (fun x => { x with stillPos := x.pos }) t) (valvesSafe (fun _ => true) s1)

/-- A wake source of R44 in STILL: the change to RUN is in progress (R34). -/
def wakeFrom (src : Nat) (s : State) : State :=
  if s.sys.mode = .still && s.sys.target.isNone then
    onSys (fun y => { y with target := some .run, targetCause := 0x13, targetWake := src }) s
  else s

/-- What a movement of felts lets happen: FELT_STOP clears (09_zone_programmes.md R325), and a felt beyond its wake distance
wakes STILL (R44). -/
def afterMove (s : State) : State :=
  let woken := (List.range 8).any (fun f =>
    feltOn s f && wakeDistance s f != 0 && decide ((posDist (felt s f).stillPos (felt s f).pos).natAbs > wakeDistance s f))
  let s1 := feltStopClear s
  if woken then wakeFrom 3 s1 else s1

/-- HOLD causes that arose or cleared in COMMISSION are recorded (R41). DESIGN CHOICE: those already present when BOOT ends in
COMMISSION arose outside it and have no such record (notes/assumptions/128.md). -/
def noteCauses (before : BitVec 6) (s : State) : State :=
  [0, 1, 2, 3, 4, 5].foldl (fun t b =>
    let was := before.getLsbD b
    let is_ := t.sys.holdCauses.getLsbD b
    if was == is_ then t else note 0x0011 [b, if is_ then 1 else 2, modeCode .commission] t) s

/-- The mode follows the HOLD causes: RUN and STILL give way to HOLD while one is active, and HOLD ends when none is
(R33, R38, R40, R41). A heartbeat lost in HOLD has its own resume rule (R36, R38). -/
def followCauses (before : State) (s : State) : State :=
  match s.sys.mode with
  | .run => if s.sys.holdCauses = 0 then s else enterHold (lowestCause s.sys.holdCauses) 0 s
  | .still => if s.sys.holdCauses = 0 then s else enterHold (lowestCause s.sys.holdCauses) 0 s
  | .hold =>
    if s.sys.holdCauses = 0 then enterRun 0x17 0 s
    else if before.sys.mode = .hold && hardCauses before = 0 && hardCauses s != 0 then holdEffects s
    else if before.sys.mode = .hold && !before.sys.holdCauses.getLsbD 0 && s.sys.holdCauses.getLsbD 0 then zonesHold true s
    else s
  | .commission => if before.sys.mode = .commission then noteCauses before.sys.holdCauses s else s
  | _ => s

/-- The mode that the HOLD causes leave: RUN and STILL only without one, HOLD only with one (R33, R38, R41). -/
def modeUnder (m : Mode) (c : BitVec 6) : Mode :=
  match m with
  | .run => if c = 0 then .run else .hold
  | .still => if c = 0 then .still else .hold
  | .hold => if c = 0 then .run else .hold
  | m => m

/-- `followCauses` enters that mode, and what entering a mode does to zones and outputs changes neither the mode nor a
cause: said here once, so that no claim about the mode has to go through it. -/
def pinMode (ref : State) (s : State) : State :=
  onSys (fun y => { y with mode := modeUnder ref.sys.mode ref.sys.holdCauses, holdCauses := ref.sys.holdCauses }) s

/-- MODE_CHANGE and FAULT interrupts (R59). -/
def raiseIrqs (before : State) (s : State) : State :=
  let s1 := if s.sys.mode = before.sys.mode then s else irqBoth 0x80000000 s
  if faultPin s && !faultPin before then irqBoth 0x40000000 s1 else s1

/-- Datagrams and frames of the latest step only. -/
def trimSent (before : State) (s : State) : State :=
  { s with
    mail := { s.mail with udpOut := s.mail.udpOut.drop before.mail.udpOut.length },
    net := { s.net with sent := s.net.sent.drop before.net.sent.length } }

/-- The queue of waiting commands is not the block's to change. -/
def keepPending (before : State) (s : State) : State := { s with pending := before.pending }

/-- The application cores run from their image in COMMISSION, RUN and HOLD, while PLL-A is locked (R25, R43;
spec/17_clocks.md R547, R548). -/
def refreshApp (s : State) : State :=
  onSys (fun y =>
    { y with
      appRunning := s.sys.ready && appEnable s && !s.sys.appStopped && !pllDown s 0 &&
        (s.sys.mode == .commission || s.sys.mode == .run || s.sys.mode == .hold) }) s

/-- What follows every effect: the mode, then interrupts, switches, the recorder and the datagrams that leave, and the
application cores. The mode that `followCauses` entered is said twice, for what comes next and for the end. -/
def settled (before : State) (s : State) : State :=
  keepPending before (refreshApp (pinMode s
    (trimSent before (sendAll before (pumpReam (refreshBoost (refreshBanks (raiseIrqs before (placeDue before (pinMode s (followCauses before s)))))))))))

/-- The outcome of a command: its effect, settled. -/
def settle (before : State) (s : State) : Out := .next (settled before s)

end Sys2Proof.Machine
end

