-- ==== Sys2Proof/Machine/Transcend.lean ====
section
/-! DEFINITION. Logarithm, exponential, arc tangent and square root to about 30 decimals, in fixed point with 128
fractional bits, for the arithmetic of spec/07_moisture_engine.md R264 and R267, which rounds each result to float32
(notes/assumptions/39.md). -/

namespace Sys2Proof.Machine

/-- One, with 128 fractional bits. -/
def fxOne : Int := 2 ^ 128

def toFx (q : Rat) : Int := q.num * fxOne / (q.den : Int)
def ofFx (i : Int) : Rat := (i : Rat) / (fxOne : Rat)
def fxMul (a b : Int) : Int := a * b / fxOne
def fxDiv (a b : Int) : Int := a * fxOne / b

/-- Sum of (sg·z²)^j / (2(k + j) + 1) over `n` further terms, by Horner's rule. -/
def oddSeries : Nat → Int → Int → Nat → Int
  | 0, _, _, k => fxOne / (2 * k + 1 : Int)
  | n + 1, sg, z2, k => fxOne / (2 * k + 1 : Int) + sg * fxMul z2 (oddSeries n sg z2 (k + 1))

/-- atanh z and atan z for |z| ≤ 1/2. -/
def fxAtanh (z : Int) : Int := fxMul z (oddSeries 70 1 (fxMul z z) 0)
def fxAtanS (z : Int) : Int := fxMul z (oddSeries 70 (-1) (fxMul z z) 0)

def fxLn2 : Int := 2 * fxAtanh (fxOne / 3)

/-- Natural logarithm of a positive number. -/
def lnRat (q : Rat) : Rat :=
  let e := ilog2 q
  let m := toFx (q * pow2 (-e))
  ofFx (2 * fxAtanh (fxDiv (m - fxOne) (m + fxOne)) + e * fxLn2)

def log10Rat (q : Rat) : Rat := lnRat q / lnRat 10

/-- Arc tangent for 0 ≤ z ≤ 1. -/
def fxAtan01 (z : Int) : Int :=
  if 2 * z ≤ fxOne then fxAtanS z
  else fxAtanS (fxOne / 2) + fxAtanS (fxDiv (2 * z - fxOne) (2 * fxOne + z))

def fxPi : Int := 4 * (fxAtanS (fxOne / 2) + fxAtanS (fxOne / 3))
def piRat : Rat := ofFx fxPi

/-- Argument of x + jy in (−π, π]; 0 at the origin. -/
def argRat (x y : Rat) : Rat :=
  let ax := absRat x
  let ay := absRat y
  let base : Rat :=
    if ax = 0 && ay = 0 then 0
    else if ay ≤ ax then ofFx (fxAtan01 (toFx (ay / ax))) else piRat / 2 - ofFx (fxAtan01 (toFx (ax / ay)))
  let half := if x < 0 then piRat - base else base
  if y < 0 then -half else half

/-- Terms of the exponential series by Horner's rule. -/
def fxExpS : Nat → Nat → Int → Int
  | 0, _, _ => fxOne
  | n + 1, k, r => fxOne + fxMul r (fxExpS n (k + 1) r) / (k : Int)

/-- Exponential. -/
def expRat (q : Rat) : Rat :=
  let x := toFx q
  let k := x / fxLn2
  ofFx (fxExpS 40 1 (x - k * fxLn2)) * pow2 k

/-- Square root to 64 fractional bits. -/
def sqrtRat (q : Rat) : Rat := if q ≤ 0 then 0 else ((isqrt (q.num.toNat * 2 ^ 256 / q.den) : Nat) : Rat) / ((2 ^ 128 : Nat) : Rat)

end Sys2Proof.Machine
end

