-- ==== Sys2Proof/Machine/Curves.lean ====
section
/-! DEFINITION. The built-in curves of Weir (spec/05_weir.md R205): platinum, nickel and thermocouples, and their inverses.
PRESUMED: the spec names the standards and prints only the platinum coefficients; the polynomials are those of IEC 60751,
of DIN 43760 and of IEC 60584 (notes/assumptions/35.md, notes/assumptions/124.md). -/

namespace Sys2Proof.Machine

/-- Resistance ratio of a platinum sensor (R184; notes/assumptions/35.md). -/
def platinum (t : Rat) : Rat :=
  let q : Rat := 1 + 39083 / 10000000 * t - 5775 / 10000000000 * (t * t)
  if t < 0 then q - 4183 / 1000000000000000 * (t - 100) * (t * t * t) else q

/-- Resistance of a nickel sensor of 1,000 Ω at 0 °C and 6,180 ppm/K, Ω. -/
def nickel (t : Rat) : Rat :=
  1000 * (1 + 5485 / 1000000 * t + 665 / 100000000 * (t * t) + 2805 / 100000000000000 * (t * t * t * t) -
    2 / 100000000000000000 * (t * t * t * t * t * t))

/-- A polynomial by Horner's rule; a coefficient (m, e) is m · 10⁻ᵉ, the constant term first. -/
def decimalPoly (co : List (Int × Nat)) (t : Rat) : Rat :=
  co.foldr (fun c y => (c.1 : Rat) / ((10 ^ c.2 : Nat) : Rat) + t * y) 0

/-- Type J below 760 °C, mV. -/
def typeJLow : List (Int × Nat) :=
  [(0, 0), (503811878150, 13), (304758369300, 16), (-856810657200, 19), (132281952950, 21), (-170529583370, 24),
   (209480906970, 27), (-125383953360, 30), (156317256970, 34)]

/-- Type J from 760 °C on, mV. -/
def typeJHigh : List (Int × Nat) :=
  [(296456256810, 9), (-149761277860, 11), (317871039240, 14), (-318476867010, 17), (157208190040, 20),
   (-306913690560, 24)]

/-- Type K below 0 °C, mV. -/
def typeKLow : List (Int × Nat) :=
  [(0, 0), (394501280250, 13), (236223735980, 16), (-328589067840, 18), (-499048287770, 20), (-675090591730, 22),
   (-574103274280, 24), (-310888728940, 26), (-104516093650, 28), (-198892668780, 31), (-163226974860, 34)]

/-- Type K from 0 °C on, mV, without its exponential term. -/
def typeKHigh : List (Int × Nat) :=
  [(-176004136860, 13), (389212049750, 13), (185587700320, 16), (-994575928740, 19), (318409457190, 21),
   (-560728448890, 24), (560750590590, 27), (-320207200030, 30), (971511471520, 34), (-121047212750, 37)]

/-- Type N below 0 °C, mV. -/
def typeNLow : List (Int × Nat) :=
  [(0, 0), (261591059620, 13), (109574842280, 16), (-938411115540, 19), (-464120397590, 22), (-263033577160, 23),
   (-226534380030, 25), (-760893007910, 28), (-934196678350, 31)]

/-- Type N from 0 °C on, mV. -/
def typeNHigh : List (Int × Nat) :=
  [(0, 0), (259293946010, 13), (157101418800, 16), (438256272370, 19), (-252611697940, 21), (643118193390, 24),
   (-100634715190, 26), (997453389920, 30), (-608632456070, 33), (208492293390, 36), (-306821961510, 40)]

/-- Type T below 0 °C, mV. -/
def typeTLow : List (Int × Nat) :=
  [(0, 0), (387481063640, 13), (441944343470, 16), (118443231050, 18), (200329735540, 19), (901380195590, 21),
   (226511565930, 22), (360711542050, 24), (384939398830, 26), (282135219250, 28), (142515947790, 30),
   (487686622860, 33), (107955392700, 35), (139450270620, 38), (797951539270, 42)]

/-- Type T from 0 °C on, mV. -/
def typeTHigh : List (Int × Nat) :=
  [(0, 0), (387481063640, 13), (332922278800, 16), (206182434040, 18), (-218822568460, 20), (109968809280, 22),
   (-308157587720, 25), (454791352900, 28), (-275129016730, 31)]

/-- Thermoelectric voltage of a junction at `t` against 0 °C, mV. -/
def thermoEmf (c : Nat) (t : Rat) : Rat :=
  match c with
  | 0x10 => decimalPoly (if t < 760 then typeJLow else typeJHigh) t
  | 0x11 =>
    if t < 0 then decimalPoly typeKLow t
    else decimalPoly typeKHigh t +
      1185976 / 10000000 * expRat (-(1183432 / 10000000000 * ((t - 1269686 / 10000) * (t - 1269686 / 10000))))
  | 0x12 => decimalPoly (if t < 0 then typeNLow else typeNHigh) t
  | _ => decimalPoly (if t < 0 then typeTLow else typeTHigh) t

/-- Bisection of an increasing function. -/
def bisect (f : Rat → Rat) (y : Rat) : Nat → Rat → Rat → Rat
  | 0, a, _ => a
  | k + 1, a, b => let m := (a + b) / 2; if f m ≤ y then bisect f y k m b else bisect f y k a m

/-- Range of a built-in curve, °C (R205). -/
def curveRange (c : Nat) : Rat × Rat :=
  match c with
  | 1 => (-200, 850) | 2 => (-200, 850) | 3 => (-60, 180) | 0x10 => (-210, 1200) | 0x11 => (-270, 1372)
  | 0x12 => (-270, 1300) | _ => (-270, 400)

/-- What a sensor of the curve gives at a temperature: Ω, or mV. -/
def curveAt (c : Nat) (t : Rat) : Rat :=
  match c with
  | 1 => platinum t * 100
  | 2 => platinum t * 1000
  | 3 => nickel t
  | _ => thermoEmf c t

/-- A built-in curve: the temperature, and whether it lies within the curve's range; a thermocouple's is counted from the
cold junction (R205). Beyond the ends of the curve no temperature is stated. -/
def curveOf (c : Nat) (sv cold : Rat) : Rat × Bool :=
  let (lo, hi) := curveRange c
  if sv < curveAt c lo || curveAt c hi < sv then (Config.beyondCurve c sv, false)
  else
    let junction := if curveAt c hi = sv then hi else bisect (curveAt c) sv 60 lo hi
    let t := toF64 (if c < 0x10 then junction else junction + cold)
    (t, decide (lo ≤ t) && decide (t ≤ hi))

end Sys2Proof.Machine
end

