-- ==== Sys2Proof/Machine/WeirOps.lean ====
section
/-! DEFINITION. Weir stations: ranges, marks, linearisation, publication (spec/05_weir.md R183–R206, R209). -/

namespace Sys2Proof.Machine

/-! The Weir type part (R209). -/
def wWiring (b : List Byte) : Nat := g1 b 0
def wCurve (b : List Byte) : Nat := g1 b 1
def wLin (b : List Byte) : Nat := g1 b 6
def wUnit (b : List Byte) : Nat := g1 b 7
def wComp (b : List Byte) : Nat := g2 b 10
def wExc (b : List Byte) : Nat := g4 b 12

def wst (s : State) (n : Nat) : WeirSt := tget s.weir.stations n
def modWst (n : Nat) (f : WeirSt → WeirSt) (s : State) : State :=
  onWeir (fun w => { w with stations := tmod w.stations n f }) s

/-- RTD and resistance stations convert in pairs (R184). -/
def pairs (t : Nat) : Bool := t == 1 || t == 6

/-- A Weir body that publishes temperature in m°C (R206). -/
def bodyTemp (typ : Nat) (b : List Byte) : Bool :=
  wUnit b == 1 || ((typ == 1 || typ == 2) && wUnit b == 0 && wLin b == 1)

/-- A station that publishes temperature (R206). -/
def publishesTemp (s : State) (n : Nat) : Bool :=
  (isWeir s n && bodyTemp (stnType s n) (stnPart s n)) || stnType s n == 0x22

/-- Conversion times by rate code, µs (R190). -/
def convUs (rate : Nat) : Nat :=
  [400000, 200000, 100000, 60000, 50000, 40000, 20000, 10000, 4000, 1000, 250].getD rate 400000

/-- Weir is off in ICE and in VAULT (R193). -/
def weirOn (s : State) : Bool := s.sys.mode != .ice && s.sys.mode != .vault

/-! Cells (spec/03_configuration.md R107, R108). -/

/-- Bank of a terminal: U0–U2 are 0–2, Q0 is 3. -/
def cellBank (kind term : Nat) : Nat := if kind = 2 then 3 else term / 8
def cellNo (kind term : Nat) : Nat := if kind = 2 then term else term % 8
def cellDead (s : State) (bank cell : Nat) : Bool := s.absorb.cellFailed.contains (bank, cell)
def spareAlive (s : State) (bank : Nat) : Bool := !cellDead s bank 8

/-- 0 own cell, 1 the spare serves, 2 no cell (R215). -/
def cellState (s : State) (kind term : Nat) : Nat :=
  let b := cellBank kind term
  if !cellDead s b (cellNo kind term) then 0
  else if spareAlive s b && tfind s.absorb.spareServes b == some (cellNo kind term) then 1 else 2

/-- Every terminal of the station has a working cell. -/
def hasCells (s : State) (n : Nat) : Bool := (stnTerms s n).all (fun t => cellState s (stnKind s n) t != 2)

/-- The cell that serves a terminal: its own, the spare as 8, or none. -/
def servingCell (s : State) (kind term : Nat) : Option Nat :=
  match cellState s kind term with | 0 => some (cellNo kind term) | 1 => some 8 | _ => none

/-! Terminals (R179–R182, R186, R207). -/

/-- The lands of a terminal that no enabled station uses are held at their bank's AGND through 100 kΩ (R180). -/
def landsHeld (s : State) (kind term : Nat) : Bool := (stationAt s kind term).isNone

/-- Current of each source of a cell into its terminal, µA: that of the RTD or resistance station it serves, open or not,
never above 1.2 mA; a cell that serves no terminal in use excites nothing, nor any while Weir is off (R180, R182, R193,
R207). -/
def sourceUa (s : State) (kind term cell : Nat) : Nat :=
  match stationAt s kind term with
  | some n =>
    if weirOn s && (stnType s n == 1 || stnType s n == 6) && servingCell s kind term == some cell then min 1200 (wExc (stnPart s n)) else 0
  | none => 0

/-- Frequency of the square wave on QEXn, Hz: none for a grounded target, whose QINn follows it, nor for an unused terminal
(R180, R181, R185). -/
def qexHz (s : State) (term : Nat) : Nat :=
  match stationAt s 2 term with
  | some n => if weirOn s && wWiring (stnPart s n) = 0 && (servingCell s 2 term).isSome then wExc (stnPart s n) else 0
  | none => 0

/-- The reset switch of a charge cell, `ns` after an excitation edge of a half-cycle of `th` ns (R186, R187). -/
def resetClosed (qReset : Nat) (rising : Bool) (th ns : Nat) : Bool :=
  if qReset = 0 then 4 * th ≤ 5 * ns && ns + 500 ≤ th
  else if rising then 4 * th ≤ 5 * ns else ns + 500 ≤ th

/-- Result of a charge conversion from what each cycle gave (R186). -/
def chargeMean (qReset : Nat) (cs : List (Rat × Rat)) : Rat :=
  ratDiv ((cs.map (fun q => if qReset = 0 then (q.1 - q.2) / 2 else q.1)).sum) (cs.length : Rat)

/-! Filters (R190, R191, R196). -/

/-- Conversions in which a filter settles. -/
def settleCount (b : List Byte) : Nat := if g1 b 2 = 0 then 3 else 1

/-- Input window of a conversion, ns (R191). -/
def windowNs (b : List Byte) : Nat := settleCount b * convUs (g1 b 3) * 1000

/-- Modulator clocks of a conversion at 8.192 MHz. -/
def convClocks (b : List Byte) : Nat := convUs (g1 b 3) * 1024 / 125

/-- Share of a filter's result that the first 64 clocks of a conversion have: of the present one, the one before, and the
one before that. A SINC3 is three running means in a row (notes/assumptions/144.md). -/
def heldWeights (b : List Byte) : List Rat :=
  let n := convClocks b
  let tri := fun (m : Nat) => m * (m + 1) * (m + 2) / 6
  if g1 b 2 = 1 then [(64 : Rat) / (n : Rat)]
  else
    let mid := fun (m : Nat) => ((tri m : Int) - 3 * (tri (m - n) : Int) : Int)
    [((tri n - tri (n - 64) : Nat) : Rat) / ((n ^ 3 : Nat) : Rat), (mid (2 * n) - mid (2 * n - 64) : Int) / ((n ^ 3 : Nat) : Rat),
      (tri 62 : Rat) / ((n ^ 3 : Nat) : Rat)]

/-- The quantity a conversion gives: for 64 clocks after a range switch the modulator's output was that of the conversion
before (R196). -/
def filtered (b : List Byte) (x : WeirSt) (c : Conv) : Rat × List Rat :=
  let off := ((if x.afterChange then x.lastRaw - c.early else 0) :: x.heldOff).take 3
  (c.raw + (List.zipWith (· * ·) (heldWeights b) off).sum, off)

/-! Ranges (R194, R195). -/

/-- Full scale, V: 2.5 V over the gain; range 8 is ±10 V (notes/assumptions/32.md). -/
def fullScale (r : Nat) : Rat := if r ≥ 8 then 10 else (5 / 2 : Rat) / ((2 ^ (7 - r) : Nat) : Rat)

/-- Present range, within range_lo to range_hi (notes/assumptions/33.md). -/
def wRange (s : State) (n : Nat) : Nat :=
  let b := stnPart s n
  min (g1 b 5) (max (g1 b 4) (wst s n).range)

/-- Input voltage of a conversion (R195). -/
def inputVolts (typ : Nat) (raw : Rat) : Rat := if typ = 5 then raw / 400 else raw

/-- The range the next conversion uses (R195, R197). -/
def nextRange (lo hi r : Nat) (pinned sat : Bool) (v : Rat) : Nat :=
  let a := absRat v
  let fit := ((List.range 9).find? (fun k => lo ≤ k && k ≤ hi && fullScale k * 89 / 100 > a)).getD hi
  if (sat || a * 100 ≥ fullScale r * 95) && r < hi then (if sat then hi else max fit r)
  else if !sat && r > lo && !pinned && a * 100 < fullScale (r - 1) * 89 then fit
  else r

/-- Autorange at the end of a conversion; a ninth change within 1 s pins the cell (R195–R197). -/
def autorange (n : Nat) (c : Conv) (s : State) : State :=
  let b := stnPart s n
  let x := wst s n
  let r := wRange s n
  let r2 := nextRange (g1 b 4) (g1 b 5) r x.pinned c.saturated (inputVolts (stnType s n) c.raw)
  if x.mark != 0 || r2 = r || stnType s n = 4 || stnType s n = 0x10 then s
  else
    let now := s.sys.devTime
    let ch := (now, r) :: x.changes.filter (fun e => now - e.1 ≤ 1000000000)
    if !x.pinned && ch.length ≥ 9 then
      let top := ch.foldl (fun a e => max a e.2) r2
      note 0x0512 [n, top, ch.length]
        (modWst n (fun x => { x with range := top, changes := ch, pinned := true, afterChange := true }) s)
    else modWst n (fun x => { x with range := r2, changes := ch, afterChange := true }) s

/-! Wire breaks (R198–R201). -/

/-- The pull-apart bias acts on the station (R198). -/
def pullApart (s : State) (n : Nat) : Bool :=
  let b := stnPart s n
  g1 b 20 == 1 &&
    (match stnType s n with
      | 1 => wWiring b == 4 | 6 => wWiring b == 4 | 2 => true | 3 => g1 b 5 != 8 | 5 => true | _ => false)

/-- Lands in use of a station's wiring, by bit: 0 IA, 1 P, 2 N, 3 IB (R181; notes/assumptions/143.md). -/
def landsInUse (typ : Nat) (b : List Byte) : List Nat :=
  match typ with
  | 4 => [1]
  | 0x10 => []
  | _ =>
    if pairs typ then (match wWiring b with | 2 => [0] | 3 => [0, 3] | _ => [0, 1, 2, 3]) else [1, 2]

/-- Window of a station's lands, mV; `nMv` is the voltage of N (R198; notes/assumptions/143.md). -/
def landWindow (typ : Nat) (b : List Byte) (nMv : Int) : Int × Int :=
  match typ with
  | 2 => (100, 2400)
  | 3 => if g1 b 5 = 8 then (-10500, 10500) else if -50 ≤ nMv && nMv ≤ 50 then (-50, 2400) else (100, 2400)
  | 4 => (-50, 1600)
  | 5 => (300, 2200)
  | _ => (-50, 2400)

/-- Lands in use outside their window, with their voltages (R198). -/
def outside (s : State) (n : Nat) (volts : List Int) : List (Nat × Int) :=
  let typ := stnType s n
  let b := stnPart s n
  let (lo, hi) := landWindow typ b (volts.getD 2 0)
  ((landsInUse typ b).map (fun i => (i, volts.getD i 0))).filter (fun l => l.2 < lo || hi < l.2)

/-- A land that the pull-apart bias has carried away (R199). -/
def pulledAway (s : State) (n : Nat) (l : Nat × Int) : Bool :=
  pullApart s n && ((2700 ≤ l.2 && l.2 ≤ 3200) || l.2 < -200)

/-- A source land at the 2.90 V compliance of its source (R182, R199). -/
def atCompliance (s : State) (n : Nat) (l : Nat × Int) : Bool :=
  pairs (stnType s n) && (l.1 == 0 || l.1 == 3) && 2900 ≤ l.2

/-- Class of a violation as it is confirmed (R199): 1 OPEN_WIRE, 2 CM_FAULT. -/
def classify (s : State) (n : Nat) (ls : List (Nat × Int)) : Nat :=
  if ls.any (fun l => atCompliance s n l || pulledAway s n l) then 1 else 2

/-- The station is marked, and the marking recorded with the lands violated (R199, R200). -/
def markStation (n m lands : Nat) (s : State) : State :=
  let x := wst s n
  if x.mark = m || x.mark = 1 then s
  else
    let since := if x.mark = 0 then x.pendingAt else x.markAt
    let s1 := modWst n (fun x => { x with mark := m, markAt := since }) s
    if m = 1 then
      note 0x0510 [n, lands, since] (onWeir (fun w => { w with
        openWires := (stnTerms s n).foldl (fun t k => tset t (stnKind s n * 256 + k) (tget t (stnKind s n * 256 + k) + 1)) w.openWires }) s1)
    else note 0x0513 [n, lands, x.landMv] s1

/-- The flag of the mark in force. -/
def markBits (x : WeirSt) : Nat := match x.mark with | 0 => 0 | 1 => 2 | _ => 4

/-- The mark clears (R201). -/
def clearMark (n : Nat) (s : State) : State :=
  let x := wst s n
  if x.mark = 0 then s
  else note 0x0511 [n, nsMs (s.sys.devTime - x.markAt)]
    (modWst n (fun x => { x with mark := 0, pendingMark := 0, lands := 0, landsHit := 0 }) s)

/-! Linearisation (R203–R206). -/

/-- Compensation temperature, °C: t_offset before any valid value; none without a compensation station (R206). -/
def compTemp (s : State) (n : Nat) : Option Rat :=
  if wComp (stnPart s n) = 0xFFFF then none else some ((wst s n).compLast.getD (rf32 (stnPart s n) 48))

/-- Nested Horner form in float64, with a rounding at each operation (R204). -/
def polyEval (b : List Byte) (x t : Rat) : Rat :=
  let co : Nat → Nat → Rat := fun i j => rf32 b (56 + 4 * (4 * i + j))
  let inner : Nat → Rat := fun i =>
    ((List.range (g1 b 9 + 1)).reverse).foldl (fun p j => toF64 (toF64 (p * t) + co i j)) 0
  ((List.range (g1 b 8 + 1)).reverse).foldl (fun y i => toF64 (toF64 (y * x) + inner i)) 0

/-- Normalised signal and temperature of the polynomial (R204). -/
def normX (b : List Byte) (sv : Rat) : Rat := toF64 (toF64 (toF64 sv - rf32 b 40) / rf32 b 44)
def normT (b : List Byte) (t : Option Rat) : Rat :=
  match t with | none => 0 | some t => toF64 (toF64 (toF64 t - rf32 b 48) / rf32 b 52)

/-- Units of lin_mode 0 per unit of s (R203). -/
def unitScale (typ : Nat) : Rat :=
  match typ with
  | 1 => 1000 | 6 => 1000 | 2 => 1000 | 3 => 1000000 | 4 => 1000 | 5 => 1000000 | _ => 1000

/-- The result of linearising: y, whether the curve is left, the normalised signal where a polynomial runs. -/
structure Lin where
  y : Rat
  outOfCurve : Bool
  x : Option Rat

/-- R203–R205 on a type, a type part, a quantity, a compensation temperature and a cold junction. -/
def linearise (typ : Nat) (b : List Byte) (sv : Rat) (t : Option Rat) (cold : Rat) : Lin :=
  match wLin b with
  | 0 => ⟨sv * unitScale typ, false, none⟩
  | 1 => let c := curveOf (wCurve b) sv cold; ⟨c.1 * 1000, !c.2, none⟩
  | 2 => let x := normX b sv; ⟨polyEval b x (normT b t), false, some x⟩
  | _ =>
    let c := curveOf (wCurve b) sv cold
    let x := normX b c.1
    ⟨polyEval b x (normT b t), !c.2, some x⟩

/-- Cold junction of a thermocouple (R205, R206); before any valid value it is t_offset. -/
def coldJunction (s : State) (n : Nat) : Rat :=
  let b := stnPart s n
  if wComp b = 0xFFFF then ((i4 b 24 : Int) : Rat) / 1000 else (compTemp s n).getD (rf32 b 48)

/-- Value and flags of a result: rounding, OVER_RANGE and OUT_OF_CURVE (R202, R204). -/
def saturateRound (y : Rat) (out : Bool) : Int × Nat :=
  let v := roundRat y
  let beyondMax : Bool := v < -2147483647 || v > 2147483647
  let fl := (if out then 0x20 else 0) + (if beyondMax then 0x10 else 0)
  (if fl != 0 then invalidValue else v, fl)

/-! Publication. -/

/-- Stations that take their compensation from station `n`. -/
def compensated (s : State) (n : Nat) : List Nat := stationsBy s (fun m => isWeir s m && wComp (stnPart s m) == n)

/-- A published value goes to the stations it compensates (R206). -/
def giveComp (n : Nat) (v : Int) (s : State) : State :=
  if v = invalidValue then s
  else (compensated s n).foldl (fun t m => modWst m (fun x => { x with compLast := some ((v : Rat) / 1000), compStale := false }) t) s

/-- An inlet station's value enters the parcels of the zones that name it (spec/04_felt_time.md R164). -/
def inletValue (n : Nat) (v : Int) (t : Nat) (s : State) : State :=
  if v = invalidValue then s
  else
    let unit := wUnit (stnPart s n)
    let kind : Option Nat :=
      if publishesTemp s n then some 1 else if unit = 2 then some 0 else if unit = 6 then some 2 else if unit = 3 then some 3 else none
    match kind with
    | none => s
    | some k => (zonesOn s).foldl (fun u z => if (inlets u z).contains n then parcelValue z k v 0 t true false u else u) s

/-- The first published value of a spare carries SUBSTITUTED, and no other (R207, R208). -/
def toldSubstituted (n : Nat) (r : StVal) (s : State) : State :=
  if bitOf r.flags 3 then modWst n (fun x => { x with substituted := false, flags := x.flags &&& 0xFFF7 }) s else s

/-- A result becomes the station value; during re-execution the cell buffers up to 16 (R192, R193). -/
def weirPublish (n : Nat) (r : StVal) (s0 : State) : State :=
  let s := toldSubstituted n r s0
  if s.absorb.reexecuting then
    if (wst s n).buffered.length < 16 then
      onAbsorb (fun a => { a with late := a.late ++ [.weir n] }) (modWst n (fun x => { x with buffered := r :: x.buffered }) s)
    else s
  else zonesEval (inletValue n r.value r.time (giveComp n r.value (publish n r.flags r.value 0 r.time s)))

/-- The 16-byte answer of WEIR_SAMPLE (R213). -/
def sampleBody (r : StVal) (range : Nat) : List Byte := q4 r.value ++ p2 r.flags ++ p1 range ++ zeros 1 ++ p8 r.time

/-- Every WEIR_SAMPLE of the station receives the conversion; during re-execution when Evver resumes (R193, R213). -/
def answerSamples (n : Nat) (r : StVal) (range : Nat) (s : State) : State :=
  let js := (waitingJobs s 0x0501).filter (fun j => j.a == n)
  if s.absorb.reexecuting then
    if js.isEmpty then s else modWst n (fun x => { x with toAnswer := x.toAnswer.orElse (fun _ => some (r, range)) }) s
  else js.foldl (fun t j => finish j.org sOK (sampleBody r range) t) s

/-- Evver publishes the oldest result that a cell buffers (R193). -/
def weirResume (n : Nat) (s : State) : State :=
  match (wst s n).buffered.getLast? with
  | some r => weirPublish n r (modWst n (fun x => { x with buffered := x.buffered.dropLast }) s)
  | none => s

/-- What waits for a buffered result is answered when Evver resumes (R193, R213). -/
def weirAnswers (s : State) : State :=
  (stationsBy s (isWeir s)).foldl (fun t n =>
    match (wst t n).toAnswer with
    | some (r, g) => answerSamples n r g (modWst n (fun x => { x with toAnswer := none }) t)
    | none => t) s

/-- How often a result is published (R192): once for each SAMPLE dispatched before the conversion's end, on demand, in a
scan of STILL, or because a mark takes effect at once. -/
def publications (s : State) (n : Nat) (step now : Bool) : Nat :=
  let x := wst s n
  let due := if stnSampleMode s n == 1 && !step then (x.awaiting.filter (· < s.sys.devTime)).length else 0
  max due (b01 (now || (stnSampleMode s n == 2 && x.running) || (s.sys.mode == .still && g1 (stnPart s n) 22 == 1)))

/-- A conversion's result is stored, and published as the sample_mode says (R192, R202); `now` forces it. `range` is the
conversion's. -/
def storeLatest (n range : Nat) (r : StVal) (step now : Bool) (s : State) : State :=
  let s1 := modWst n (fun x =>
    { x with value := r.value, flags := r.flags, time := r.time, convRange := range, convTime := r.time, has := true, stored := x.stored + 1,
             awaiting := if step then x.awaiting else x.awaiting.filter (fun t => !decide (t < s.sys.devTime)) }) s
  let s2 := (List.range (publications s n step now)).foldl (fun t i => weirPublish n { r with flags := if i = 0 then r.flags else r.flags &&& 0xFFF7 } t) s1
  answerSamples n r range (modWst n (fun x => { x with running := false }) s2)

/-- Rounded to 40 ns (R191). -/
def round40 (t : Nat) : Nat := (t + 20) / 40 * 40

/-- An invalid value (R202); the quantity of such a conversion is not stated (notes/assumptions/145.md). -/
def storeInvalid (n range flags time : Nat) (step now : Bool) (s : State) : State :=
  storeLatest n range { published := true, flags := flags, value := invalidValue, time := time } step now s

/-- Quantity of a pair (R184) from the voltages of phases A and B. -/
def pairOhms (s : State) (n : Nat) (va vb : Rat) : Rat :=
  let b := stnPart s n
  let sum : Rat := ((2 * min 1200 (wExc b) : Nat) : Rat) / 1000000
  let r := ratDiv (if wWiring b = 4 then va - vb else va + vb) sum
  if wWiring b = 2 then r - ((g4 b 16 : Nat) : Rat) / 1000 else r

/-- Quantity of a conversion (R183, R184, R189, R203), with the start of its window; none while a pair is
incomplete. -/
def physical (s : State) (n : Nat) (raw : Rat) (t0 : Nat) : Option (Rat × Nat) :=
  let x := wst s n
  if pairs (stnType s n) then
    x.pair.map (fun q => (if x.phase = 1 then pairOhms s n q.1 raw else pairOhms s n raw q.1, min q.2.1 t0))
  else some (if stnType s n = 2 then raw * 1000 else raw, t0)

/-- Change since the previous valid value above rate_limit per second (R202). -/
def rateExceeded (s : State) (n : Nat) (v : Int) (t : Nat) : Bool :=
  let lim := g4 (stnPart s n) 28
  match (wst s n).lastGood with
  | none => false
  | some (v0, t0) => lim != 0 && decide ((v - v0).natAbs * 1000000000 > lim * (t - t0))

/-- Charge outside 1.05 × the range (R188): 10 pC, 100 pC, 1 nC, 10 nC. -/
def chargeOver (r : Nat) (q : Rat) : Bool := decide (absRat q * 100 > ((10 ^ (r + 1) : Nat) : Rat) * 105)

/-- The pair of an RTD or resistance station, and the phase of the next conversion, after one that counts towards a pair or
breaks it (R184). -/
def nextPhase (n : Nat) (pair : Option (Rat × Nat × Nat)) (s : State) : State :=
  let two := pairs (stnType s n)
  modWst n (fun x => { x with pair := if two then pair else none, phase := if two then 1 - x.phase else 0 }) s

/-- The steps of R202 for a conversion that is neither discarded nor saturated. -/
def convValid (n range : Nat) (raw : Rat) (flags : Nat) (s : State) : State :=
  let typ := stnType s n
  let b := stnPart s n
  let x := wst s n
  let step := bitOf flags 0
  let t1 := s.sys.devTime
  let w0 := t1 - windowNs b
  let s0 := nextPhase n (some (raw, w0, t1)) s
  match physical s n raw w0 with
  | none => s0
  | some (sv, t0) =>
    let time := round40 ((t0 + t1) / 2)
    let t := compTemp s n
    let l := linearise typ b sv t (coldJunction s n)
    let stale := if wComp b != 0xFFFF && x.compStale then 0x2000 else 0
    let s1 := modWst n (fun x => { x with s := some sv, x := l.x, t := t }) s0
    let r := saturateRound l.y l.outOfCurve
    let loop := if typ = 4 then (if sv < 18 / 5 then 0x400 else 0) + (if sv > 21 then 0x800 else 0) else 0
    if typ = 4 && (sv > 32 || x.shuntOpen) then storeInvalid n range (flags + 0x1000 + stale + markBits x) time step false s1
    else if typ = 4 && sv < 1 / 2 then
      let s2 := markStation n 1 x.lands (if x.mark = 0 then modWst n (fun x => { x with pendingAt := t0 }) s1 else s1)
      storeInvalid n range (flags + 2 + stale) time step true s2
    else if typ = 0x10 && chargeOver (g1 b 4) sv then
      storeInvalid n range (flags + 0x10 + stale) time step false (note 0x0517 [n, g1 b 4] s1)
    else if r.2 != 0 then storeInvalid n range (flags + loop + r.2 + stale + markBits x) time step false s1
    else
      let rate := if !step && rateExceeded s n r.1 time then 0x80 else 0
      let fl := flags + loop + rate + stale + alarmBits s n r.1 8 9
      let s2 := if step then s1 else modWst n (fun x => { x with lastGood := some (r.1, time) }) s1
      storeLatest n range { published := true, flags := fl, value := r.1, time := time } step (x.mark != 0) (clearMark n s2)

/-- A saturated conversion (R188, R189, R196). -/
def convSaturated (n range base time : Nat) (step : Bool) (s : State) : State :=
  let bits := markBits (wst s n)
  if stnType s n = 4 then storeInvalid n range (base + 0x1000 + bits) time step false s
  else
    let s1 := if stnType s n = 0x10 then note 0x0517 [n, g1 (stnPart s n) 4] s else s
    storeInvalid n range (base + 0x10 + bits) time step false s1

/-- WEIR_CONVERSION_END proper (R202). A station publishes nothing until its filter has settled (R184). -/
def convert (n : Nat) (c0 : Conv) (s : State) : State :=
  let b := stnPart s n
  let x := wst s n
  let (raw, off) := if stnType s n = 0x10 then (chargeMean (g1 b 21) c0.cycles, []) else filtered b x c0
  let c := { c0 with raw := raw }
  let range := wRange s n
  let time := round40 ((s.sys.devTime - windowNs b + s.sys.devTime) / 2)
  let base := (if x.pinned then 0x40 else 0) + (if x.afterChange then 1 else 0) + (if x.substituted then 8 else 0)
  let s0 := modWst n (fun x =>
    { x with
      afterChange := false, count := x.count + 1, lastRaw := raw, heldOff := off, s := none, x := none, t := compTemp s n,
      convRange := range, convTime := time,
      lands := if c.clean then 0 else x.lands, pendingMark := if c.clean then 0 else x.pendingMark }) s
  let broken := nextPhase n none s0
  let marked := fun (t : State) => storeInvalid n range (base + markBits (wst t n)) time false true t
  if !hasCells s n then storeInvalid n range (base + 0x4000) time false true broken
  else if !c.clean && x.pendingMark != 0 then marked (markStation n x.pendingMark x.landsHit broken)
  else if !c.clean && x.mark != 0 then marked broken
  else if stnType s n = 5 && s.weir.brxLimit.contains (stnTerm s n / 8) then
    storeInvalid n range (base + 4) time false true s0
  else if x.count + 1 < settleCount b then autorange n c (nextPhase n none s0)
  else if c.saturated then autorange n c (convSaturated n range base time x.afterChange broken)
  else convValid n range raw base (autorange n c s0)

/-- Whether the cells of a station convert now (R192, R193). -/
def converting (s : State) (n : Nat) : Bool :=
  isWeir s n && !stopping s && !pllDown s 2 && stillOpen s (if stnKind s n = 2 then 4 else 3) &&
    (match s.sys.mode with
      | .commission => stnSampleMode s n != 2 || (wst s n).running
      | .run => stnSampleMode s n != 2 || (wst s n).running
      | .hold => stnSampleMode s n != 2 || (wst s n).running
      | .still => (wst s n).running
      | _ => false)

end Sys2Proof.Machine
end

