-- ==== Sys2Proof/Machine/AbsorbOps.lean ====
section
/-! DEFINITION. Fault absorption: lockstep and the output latch, spare cells, memory errors, ageing (spec/16 R521–R536).
Memories are numbered 0 DRAM of the supervisor, 1 of the application, 2 supervisor SRAM, 3 sluice SRAM, 4 NOR, 5 MRAM,
6 NAND, and 7 for an entry of a receive ring in DRAM (notes/assumptions/25.md). -/

namespace Sys2Proof.Machine

/-! Ageing (R533–R536). -/

/-- Device time has no calendar day: the day of a calendar time. -/
def dayOf (ms : Int) : Int := ms / 86400000

def age (s : State) (i : Nat) : Age := tget s.absorb.ages i
def modAge (i : Nat) (f : Age → Age) (s : State) : State := onAbsorb (fun a => { a with ages := tmod a.ages i f }) s

/-- Sums of a least-squares fit over (day, w): n, Σd, Σw, Σd², Σdw. -/
def fitSums (l : List (Int × Int)) : Int × Int × Int × Int × Int :=
  l.foldl (fun (n, d, w, dd, dw) e => (n + 1, d + e.1, w + e.2, dd + e.1 * e.1, dw + e.1 * e.2)) (0, 0, 0, 0, 0)

/-- Days of a margin at a rate, both in 10⁻⁶: rounded down, capped; 0xFFFF for no end (R534). -/
def daysAt (margin : Int) (rate : Rat) : Nat :=
  if rate ≤ 0 then 0xFFFF else (clampInt 0 65534 (floorRat ((margin : Rat) / rate))).toNat

/-- Slope b and its standard error of the last 60 samples, in 10⁻⁶ per day (R534, notes/assumptions/39.md). -/
def fitOf (l : List (Int × Int)) : Rat × Rat :=
  let (n, d, w, dd, dw) := fitSums l
  let sxx : Int := n * dd - d * d
  if sxx = 0 then (Config.quotientByZero (n * dw - d * w : Int), absRat (Config.quotientByZero (n : Rat)))
  else
    let b : Rat := ((n * dw - d * w : Int) : Rat) / (sxx : Rat)
    let a : Rat := ((w : Rat) - b * (d : Rat)) / (n : Rat)
    let res : Rat := l.foldl (fun x e => let r : Rat := (e.2 : Rat) - a - b * (e.1 : Rat); x + r * r) 0
    (b, sqrtRat (res / ((n - 2 : Int) : Rat) * (n : Rat) / (sxx : Rat)))

/-- The indicator of index 7 is a step (R533). -/
def isStep (i : Nat) : Bool := i == 7

/-- An indicator has the wear fraction `w` (10⁻⁶): predicted, and told of (R534, R535). -/
def judgeAge (i : Nat) (w : Int) (s : State) : State :=
  let x := age s i
  let l := x.samples.take 60
  let enough := !isStep i && 14 ≤ l.length
  let (b, sb) := if enough then fitOf l else (0, 0)
  let m := 1000000 - w
  let rate : Rat := 128 / 100 * sb
  let days := if isStep i then (if w ≥ 1000000 then 0 else 0xFFFF) else if enough then daysAt m b else 0xFFFF
  let lo := if enough then daysAt m (b + rate) else days
  let hi := if enough then daysAt m (b - rate) else days
  let s1 := modAge i (fun a =>
    { a with
      w := w, slope := sField 4 (roundRat (b * 1000)), days := days, daysLo := lo, daysHi := hi,
      below90 := a.below90 || days < 90, ended := a.ended || w ≥ 1000000 }) s
  let s2 := if days < 90 && !x.below90 then noteRom 0x0F80 [i, uField 4 w, days, lo] s1 else s1
  if w ≥ 1000000 && !x.ended then noteRom 0x0F81 [i, uField 4 w] s2 else s2

/-- The daily sample of an indicator, taken at a calendar time (R533). -/
def sampleAge (at_ : Int) (i : Nat) (w : Int) (s : State) : State :=
  judgeAge i w (modAge i (fun a => { a with samples := ((dayOf at_, w) :: a.samples).take 60, lastSample := at_ }) s)

/-- Weight of operation at a junction temperature in m°C: exp(0.7 eV ÷ k × (1 ÷ 378.15 K − 1 ÷ T)), with Boltzmann's constant
of physics (R533; notes/assumptions/175.md). -/
def junctionWeight (mdeg : Int) : Rat :=
  let t : Rat := ((mdeg + 273150 : Int) : Rat) / 1000
  if t ≤ 0 then 0 else expRat (700000000000 / 86173333 * (100 / 37815 - 1 / t))

/-- Operating time since the previous sample counts with the hottest of TS0–TS11, those that are substituted apart (R533). -/
def wearJunction (s : State) : State :=
  let hot := (List.range 12).foldl (fun (a : Option Int) i =>
    let k := tget s.power.sensors i
    if k.substituted then a else some (match a with | some x => max x k.raw | none => k.raw)) none
  let dt := s.sys.devTime - s.absorb.junctionAt
  onAbsorb (fun a =>
    { a with
      junction := a.junction + (match hot with | some t => (roundRat (junctionWeight t * (dt : Rat))).toNat | none => 0),
      junctionAt := s.sys.devTime }) s

/-- The store of a day's samples has ended: they count if it is complete (R530, R533). -/
def agesStored (ok : Bool) (s : State) : State :=
  match s.absorb.daily with
  | [] => s
  | (t, ws) :: l =>
    let s1 := onAbsorb (fun a => { a with daily := l }) s
    if ok then ws.foldl (fun u e => sampleAge t e.1 e.2 u) s1 else s1

/-! Lockstep (R521–R526). -/

/-- Mismatches of the last 10 s. -/
def recentMismatches (s : State) : List Nat := s.absorb.mismatchTimes.filter (fun t => decide (s.sys.devTime < t + 10000000000))

/-- The third mismatch within 10 s: the self-test decides on one core, or on none (R524). -/
def selfTest (core0 core1 : Bool) (s : State) : State :=
  let fails : Nat := b01 (!core0) + b01 (!core1) * 2
  if fails = 3 then onAbsorb (fun a => { a with dead := true }) s
  else
    let kept : Nat := if core0 then 0 else 1
    judgeAge 6 1000000 (note 0x0F52 [kept, fails] (onAbsorb (fun a => { a with core := kept + 1 }) s))

/-- A mismatch: the latch engages and re-execution begins, or, while it runs, it is a divergence (R522–R526). `diverges`
is the journal position of a divergence. -/
def lockstepMismatch (diverges : Option Nat) (core0 core1 : Bool) (s : State) : State :=
  if !s.sys.ready || s.absorb.core != 0 || s.absorb.dead then s
  else if s.power.lastGasp then onAbsorb (fun a => { a with latch := true }) s
  else
    let again := s.absorb.reexecuting
    let s1 := onAbsorb (fun a => { a with mismatchTimes := s.sys.devTime :: recentMismatches s }) s
    let s2 := if again then s1
      else
        setCause 5 true (onAbsorb (fun a =>
          { a with
            mismatches := w32 (a.mismatches + 1), mismatchDays := dayOf s.sys.calTime :: a.mismatchDays, latch := true, latchSince := s.sys.devTime, latchExpired := false,
            reexecuting := true }) s1)
    let s3 := match (if again then some (diverges.getD 0) else diverges) with
      | some p =>
        let t := if again then s2 else onAbsorb (fun a => { a with mismatchTimes := s.sys.devTime :: a.mismatchTimes }) s2
        note 0x0F51 [p, (recentMismatches t).length] (onAbsorb (fun a => { a with divergences := w32 (a.divergences + 1) }) t)
      | none => s2
    if 3 ≤ (recentMismatches s3).length then selfTest core0 core1 s3 else s3

/-! Spare cells (R207, R208, R527). -/

/-- Terminal kind and number of a primary cell. -/
def cellTerm (bank cell : Nat) : Nat × Nat := if bank = 3 then (2, cell) else (1, 8 * bank + cell)

/-- The cell map has changed, and waits for its store (spec/03_configuration.md R107). -/
def mapStore (s : State) : State := requestStore .cellMap s

/-- A terminal is without a cell (R208). -/
def noCell (bank cell check : Nat) (s : State) : State :=
  let (k, t) := cellTerm bank cell
  noteFault 0x0F61 [k, t, check] s

/-- The station on a terminal goes on with the spare: the conversion in progress is lost, the next value carries
SUBSTITUTED (R207). -/
def substitute (kind term : Nat) (s : State) : State :=
  let s1 := onWeir (fun w => { w with substitutedAt := tset w.substitutedAt (kind * 256 + term) s.sys.calTime }) s
  match stationAt s kind term with
  | some n => modWst n (fun x => { x with pair := none, substituted := true }) s1
  | none => s1

/-- A cell fails a check (R527): cell 8 is the spare. -/
def cellFails (bank cell check : Nat) (s : State) : State :=
  if bank > 3 || cell > 8 || cellDead s bank cell then s
  else
    let s1 := mapStore (onAbsorb (fun a => { a with cellFailed := (bank, cell) :: a.cellFailed }) s)
    let serving := tfind s.absorb.spareServes bank
    if cell = 8 then
      match serving with
      | some c => noCell bank c check s1
      | none => note 0x0F62 [bank, check] s1
    else if serving.isNone && spareAlive s bank then
      let (k, t) := cellTerm bank cell
      note 0x0F60 [k, t, check] (substitute k t (onAbsorb (fun a =>
        { a with spareServes := tset a.spareServes bank cell, substitutions := w32 (a.substitutions + 1) }) s1))
    else noCell bank cell check s1

/-- The spare of a bank is idle and works. -/
def spareReady (s : State) (bank : Nat) : Bool := spareAlive s bank && (tfind s.absorb.spareServes bank).isNone

/-! Memories (R528, R529). -/

/-- A corrected error is counted. -/
def countFix (mem n : Nat) (s : State) : State :=
  onAbsorb (fun a =>
    match mem with
    | 2 => { a with eccSram := w32 (a.eccSram + n) }
    | 3 => { a with eccSram := w32 (a.eccSram + n) }
    | 4 => { a with eccNor := w32 (a.eccNor + n) }
    | 5 => { a with eccMram := w32 (a.eccMram + n), mramDay := a.mramDay + n }
    | 6 => a
    | _ => { a with eccDram := w32 (a.eccDram + n), dramDay := a.dramDay + n }) s

/-- An uncorrectable error that a mechanism hides; `action` 1 is the other copy, 2 a rewrite, 3 received
again, 4 lost. -/
def absorbed (mem addr action : Nat) (s : State) : State :=
  note 0x0F71 [mem, addr, action] (onAbsorb (fun a => { a with uncorrAbsorbed := w32 (a.uncorrAbsorbed + 1) }) s)

/-- One that none hides. -/
def unabsorbed (what addr : Nat) (s : State) : State :=
  noteFaultRom 0x0F72 [what, addr] (onAbsorb (fun a => { a with uncorrUnabsorbed := w32 (a.uncorrUnabsorbed + 1) }) s)

/-- Key of a DRAM page in the tables of pages. -/
def pageKey (mem page : Nat) : Nat := mem * 16777216 + page

/-- A DRAM page goes to a reserve page; with none left the errors are no longer absorbed (R520, R529). -/
def retirePage (mem page : Nat) (s : State) : State :=
  if s.absorb.pagesRetired ≥ 64 then unabsorbed mem (page * 4096) s
  else
    let n := s.absorb.pagesRetired + 1
    note 0x0F73 [mem, page * 4096, 64 - n]
      (onAbsorb (fun a =>
        { a with
          pagesRetired := n, pageErrors := tdel a.pageErrors (pageKey mem page),
          pageScrubs := tdel a.pageScrubs (pageKey mem page) }) s)

/-- A scrub's corrections in one region: DRAM pages corrected in three scrubs running retire; NOR blocks with a line
corrected in two are marked for refresh (R529). -/
def scrubbed (mem region n : Nat) (before : Tbl Nat) (s : State) : State :=
  let s1 := note 0x0F70 [mem, region, n] (countFix mem n s)
  let key := if mem ≤ 1 then pageKey mem region else region
  let runs := (tfind before key).getD 0 + 1
  if mem ≤ 1 then
    if runs ≥ 3 then retirePage mem region s1
    else onAbsorb (fun a => { a with pageScrubs := tset a.pageScrubs key runs }) s1
  else if mem = 4 then
    let blk := region / 262144
    let s2 := onAbsorb (fun a => { a with norScrubs := tset a.norScrubs region runs }) s1
    if runs ≥ 2 && !s2.absorb.norRefresh.contains blk then
      onAbsorb (fun a => { a with norRefresh := a.norRefresh ++ [blk] }) s2
    else s2
  else s1

end Sys2Proof.Machine
end

