-- ==== Sys2Proof/Machine/RecordOps.lean ====
section
/-! DEFINITION. What Evver does with island records: island station values and their publication, parcels, grades
(spec/06_watermark.md R221, R222, R249, R250, R253; spec/07_moisture_engine.md R284, R285; spec/08_weighing.md R311,
R312; spec/04_felt_time.md R164). -/

namespace Sys2Proof.Machine

/-! Record fields (R243). -/
def rRtype (r : List Byte) : Nat := g1 r 1
def rGrade (r : List Byte) : Nat := g1 r 2
def rTerm (r : List Byte) : Nat := g1 r 10
def rTime (r : List Byte) : Nat := g8 r 16
def rBody (r : List Byte) : List Byte := slice r 32 32

/-- End of the measurement interval: half the interval after its midpoint (notes/assumptions/37.md). -/
def recEnd (s : State) (r : List Byte) : Nat :=
  rTime r + (match rRtype r with
    | 1 => g1 (rBody r) 21 * 1000000
    | 2 => wFilter s (rTerm r) * 5000000
    | 4 => (g2 (rBody r) 10 + 3) * 50000000
    | _ => 0)

/-- Record type of an island station type. -/
def stnRtype (t : Nat) : Nat := match t with | 0x20 => 1 | 0x21 => 2 | _ => 4

/-- legal_required of an island station. -/
def legalRequired (s : State) (n : Nat) : Bool := g1 (stnPart s n) (if stnType s n = 0x22 then 0 else 1) == 1

/-- Value and flags of a record for its station, without alarms (R250, R284, R312). -/
def recordValue (s : State) (n : Nat) (r : List Byte) : Int × Nat :=
  let b := rBody r
  match stnType s n with
  | 0x20 =>
    let m := g4 b 0
    let f := g1 b 23
    ((m : Int), b01 (bitOf f 2) * 128 + b01 (bitOf f 1) * 64 + b01 (m == 0xFFFFFFFF) * 32)
  | 0x21 =>
    let net := g1 (stnPart s n) 0 == 1
    let f := g1 b 25
    (i4 b (if net then 4 else 0), b01 (!bitOf f 0) * 128 + b01 net * 64 + b01 (g4 b 0 == invalidMass) * 32 + b01 (bitOf f 6) * 4)
  | _ => (i4 b 0, b01 (bitOf (g1 b 9) 0) * 4 + b01 (bitOf (g1 b 9) 1) * 8)

/-- The station value of the latest record, or of a stale station (R250); without an APPLICATOR object the Moisture station
is stale (spec/07_moisture_engine.md R278). -/
def islandValue (s : State) (n : Nat) : Option StVal :=
  let now := s.sys.devTime
  let bad := if s.island.sigBad.contains n then 16 else 0
  let unset := stnType s n == 0x20 && (paramBody s 2 0).isEmpty
  if s.island.stale.contains n || !s.island.linkUp || !islandUp s || unset then
    some { published := true, flags := 2 + bad, value := invalidValue, time := now }
  else match tfind s.island.latest (stnTerm s n * 256 + stnRtype (stnType s n)) with
    | none => if bad = 0 then none else some { published := true, flags := bad, value := invalidValue, time := now }
    | some r =>
      let (v, f) := recordValue s n r
      let fl := f + b01 (rGrade r == 1) + bad
      let invalid := fl &&& 0x3E != 0 || v == invalidValue || (rGrade r == 1 && legalRequired s n)
      some { published := true, flags := if invalid then fl else fl + alarmBits s n v 8 9,
             value := if invalid then invalidValue else v, time := rTime r }

/-- An island station publishes (R250). During re-execution Evver publishes nothing (R286). -/
def islandPublish (n : Nat) (s : State) : State :=
  if s.absorb.reexecuting then s
  else match islandValue s n with
    | none => s
    | some x =>
      zonesEval (giveComp n x.value (publish n x.flags x.value 0 x.time
        (onIsland (fun i => { i with sigBad := i.sigBad.filter (· != n) }) s)))

/-- Stations become STALE and say so (R250). -/
def makeStale (ns : List Nat) (s : State) : State :=
  ns.foldl (fun t n =>
    if t.island.stale.contains n then t
    else islandPublish n (onIsland (fun i => { i with stale := n :: i.stale }) t)) s

/-- Every island station STALE: the link or the island is down (R223, R250). -/
def allStale (s : State) : State := makeStale (stationsBy s (isIsland s)) s

/-- A record enters the parcels of the zones whose inlet is its station (R164, R328). -/
def recordParcels (n : Nat) (r : List Byte) (s : State) : State :=
  let b := rBody r
  let t := rTime r
  let process := rGrade r == 1
  (zonesOn s).foldl (fun u z =>
    if !(inlets u z).contains n then u
    else match rRtype r with
      | 1 =>
        let ok := !(process && refusesProcess u z)
        let u1 := if g4 b 0 = 0xFFFFFFFF then u else parcelValue z 0 (g4 b 0) 0 t ok process u
        if g4 b 4 = 0xFFFFFFFF then u1 else parcelValue z 2 (g4 b 4) 0 t true process u1
      | 2 =>
        let m := (recordValue u n r).1
        if g4 b 0 = invalidMass then u else parcelValue z 3 m (g4 b 12) t true process u
      | 4 => if i4 b 0 = invalidValue then u else parcelValue z 1 (i4 b 0) 0 t true process u
      | _ => u) s

/-- A grain temperature is seen by every parcel of its station's zone (R166). -/
def recordTemp (n : Nat) (r : List Byte) (s : State) : State :=
  if rRtype r = 4 && i4 (rBody r) 0 != invalidValue && stnZone s n < 16 then parcelTemp (stnZone s n) (i4 (rBody r) 0) s else s

/-- Parcels that wait for their outlet moisture take the record, or NO_OUTLET where it has none (R164). -/
def recordOutlet (n : Nat) (r : List Byte) (s : State) : State :=
  if rRtype r != 1 then s
  else
    let m := g4 (rBody r) 0
    let e := recEnd s r
    (zonesOn s).foldl (fun u z =>
      if outletStn u z != n then u
      else if m = 0xFFFFFFFF then
        modParcels z (fun p => match p.wantOutlet with
          | some t0 => if t0 < e then { p with wantOutlet := none, flags := p.flags ||| 0x20 } else p
          | none => p) u
      else outletMoisture z m e (rGrade r == 1) u) s

/-- A change of grade on a channel is recorded, and the process-grade fallback of moisture followed (R249). -/
def recordGrade (r : List Byte) (s : State) : State :=
  if rRtype r ≥ 0x10 then s
  else
    let t := rTerm r
    let g := rGrade r
    let s1 := match tfind s.island.grades t with
      | some old => if old = g then s else if g = 1 then note 0x0630 [t, g1 r 3] s else note 0x0631 [t] s
      | none => s
    onIsland (fun i =>
      { i with
        grades := tset i.grades t g,
        processFallback := if rRtype r = 1 then g == 1 && (tget i.reasons 0 &&& 0xFFFE != 0 || g1 r 3 != 1) else i.processFallback }) s1

/-- The load of a hopper cycle reaches the zone that weighs with the channel (spec/09_zone_programmes.md R344). -/
def recordCycle (r : List Byte) (s : State) : State :=
  if rRtype r != 3 then s
  else (zonesOn s).foldl (fun u z =>
    if zoneType u z == 5 && weighChan u z == rTerm r && g1 (rBody r) 30 &&& 0x0C == 0 then
      modZone z (fun q => { q with weigh := { q.weigh with lastLoad := i4 (rBody r) 12 } }) u
    else u) s

/-- The command that waits for a diagnostic record of the island, a WGT_SIGNAL for that of its own window (spec/07_moisture_engine.md R288, spec/08_weighing.md R315). -/
def recordAnswers (r : List Byte) (s : State) : State :=
  let code := match rRtype r with | 0x10 => 0x0703 | 0x12 => 0x0702 | 0x13 => 0x0803 | _ => 0
  match (waitingJobs s code).find? (fun j => j.committed &&
      (code != 0x0803 || (j.a == rTerm r && j.c == rTime r)) && (code != 0x0703 || g1 (rBody r) 13 == 2)) with
  | some j => finish j.org sOK r s
  | none => s

/-- A record that verified: its station, its waiting samples, parcels and zones (R222, R253, R285). -/
def acceptRecord (r : List Byte) (s : State) : State :=
  let s1 := recordGrade r (onIsland (fun i =>
    { i with lastSeq := some (g4 r 4), latest := tset i.latest (rTerm r * 256 + rRtype r) r }) s)
  let s2 := match islandStn s1 (rTerm r) with
    | none => s1
    | some n =>
      if stnRtype (stnType s1 n) != rRtype r then s1
      else
        let u := onIsland (fun i => { i with stale := i.stale.filter (· != n) }) s1
        let e := recEnd u r
        let waits := tget u.island.awaiting n
        let due := waits.any (· < e)
        let u1 := onIsland (fun i => { i with awaiting := tset i.awaiting n (waits.filter (fun t => !decide (t < e))) }) u
        let u2 := if stnSampleMode u1 n = 2 || (stnSampleMode u1 n = 1 && due) then islandPublish n u1 else u1
        recordOutlet n r (recordTemp n r (recordParcels n r u2))
  zonesEval (recordAnswers r (recordCycle r s2))

/-- Bytes 0–63 carry the island's signature (R245, R246). -/
def recordAuthentic (r : List Byte) : Bool :=
  r.length == 128 && g1 r 0 == 1 &&
    ecdsaVerify (publicKey Config.islandKey) (leNat 32 (r.drop 64)) (leNat 32 (r.drop 96)) (r.take 64)

/-- A record that fails, or whose seq is not greater than the last accepted, is discarded and counted (R222). -/
def refuseRecord (r : List Byte) (s : State) : State :=
  let bad := match islandStn s (rTerm r) with
    | some n => if stnRtype (stnType s n) = rRtype r then [n] else []
    | none => []
  note 0x0620 [rRtype r, rTerm r, g4 r 4] (onIsland (fun i =>
    { i with sigFailures := w32 (i.sigFailures + 1), sigBad := bad ++ i.sigBad.filter (fun n => !bad.contains n) }) s)

/-- A record arrives over the link (R222). -/
def receiveRecord (r : List Byte) (s : State) : State :=
  let s1 := onIsland (fun i => { i with outbox := i.outbox.filter (· != r) }) s
  let fresh := match s.island.lastSeq with | some n => decide (n < g4 r 4) | none => true
  if recordAuthentic r && fresh then acceptRecord r s1 else refuseRecord r s1

end Sys2Proof.Machine
end

