-- ==== Sys2Proof/Machine/ParamOps.lean ====
section
/-! DEFINITION. Island parameters: validation of each object, the parameter session and its commit
(spec/06_watermark.md R231–R235, R251, R256; spec/07_moisture_engine.md R277–R279; spec/08_weighing.md R296, R297). -/

namespace Sys2Proof.Machine

/-- A float32 field that is a number. -/
def isNum (b : List Byte) (o : Nat) : Bool := (gf32 b o).isSome

/-- MOISTURE_CAL (R277, R279). -/
def okMoistureCal (b : List Byte) : Bool :=
  let lo := g1 b 20
  let hi := g1 b 21
  let legal := g1 b 18
  b.length == 128 && legal ≤ 1 && g1 b 19 ≤ 2 && lo ≤ 190 && lo + 10 ≤ hi && hi ≤ 200 && g1 b 22 ≤ 3 && g1 b 23 ≤ 2 &&
    (List.range 12).all (fun k => isNum b (28 + 4 * k) &&
      ((k / 3 ≤ g1 b 22 && k % 3 ≤ g1 b 23) || rf32 b (28 + 4 * k) == 0)) &&
    isNum b 76 && isNum b 80 && isNum b 84 && isNum b 120 && decide (0 < rf32 b 120) && zeroAt b 124 4 &&
    (legal == 0 ||
      (g1 b 19 != 2 && 6000 ≤ g4 b 88 && g4 b 88 < g4 b 92 && g4 b 92 ≤ 35000 &&
        -20000 ≤ i4 b 96 && i4 b 96 < i4 b 100 && i4 b 100 ≤ 50000))

/-- APPLICATOR (R278). -/
def okApplicator (b : List Byte) : Bool :=
  b.length == 3248 && 20000 ≤ g4 b 0 && g4 b 0 ≤ 1000000 && 1000 ≤ g2 b 4 && g2 b 4 ≤ 10000 && g2 b 6 ≤ 10000 &&
    zeroAt b 20 12 && (List.range 804).all (fun k => isNum b (32 + 4 * k))

/-- 1, 2 or 5 × 10^k, k = 0–6 (R297). -/
def okInterval (n : Nat) : Bool := (List.range 7).any (fun k => n == 10 ^ k || n == 2 * 10 ^ k || n == 5 * 10 ^ k)

/-- WEIGH_CAL (R296, R297). -/
def okWeighCal (b : List Byte) : Bool :=
  let cap := g4 b 4
  let e := g4 b 8
  let span := rf32 b 20
  let full : Rat := (i4 b 16 : Int) + (cap : Rat) / span
  b.length == 64 && g1 b 0 ≤ 1 && g1 b 1 ≤ 1 && 1 ≤ g1 b 2 && g1 b 2 ≤ 100 && g1 b 3 ≤ 20 && okInterval e &&
    cap % e == 0 && cap / e ≤ 10000 && cap + 9 * e ≤ 2000000000 && isNum b 20 && isNum b 24 && span != 0 &&
    decide (absRat full ≤ 3000000) && decide ((e : Rat) / absRat span ≥ (if g1 b 0 = 1 then 100 else 10 : Rat)) &&
    5 ≤ g2 b 28 && g2 b 28 ≤ 50 && 200 ≤ g2 b 30 && g2 b 30 ≤ 5000 && 1000 ≤ g2 b 32 && g2 b 32 ≤ 30000 &&
    g1 b 34 ≤ 1 && !(g1 b 34 == 1 && g1 b 1 == 1) && zeroAt b 35 1 && 80 ≤ g4 b 36 && g4 b 36 ≤ 5000 && zeroAt b 40 24

/-- GT_CAL (R251). -/
def okGtCal (b : List Byte) : Bool := b.length == 16 && (g1 b 0 == 1 || g1 b 0 == 2) && zeroAt b 1 3

/-- LEGAL_TERMINAL (R256). -/
def okLegalTerminal (b : List Byte) : Bool :=
  b.length == 8 && g1 b 0 ≤ 1 && g1 b 1 ≤ 1 && zeroAt b 2 2 && g4 b 4 / 536870912 % 4 == 0 &&
    (bitOf (g4 b 4) 31 || g4 b 4 ≤ 0x7FF)

/-- Whether a class has that index (R231). -/
def okIndex (cls i : Nat) : Bool :=
  match cls with | 1 => i < 64 | 2 => i == 0 | 3 => i < 2 | 4 => i < 2 | 5 => i == 0 | _ => false

/-- Whether a body is valid for its class. -/
def okParam (cls format : Nat) (b : List Byte) : Bool :=
  format == 1 && (match cls with
    | 1 => okMoistureCal b | 2 => okApplicator b | 3 => okWeighCal b | 4 => okGtCal b | 5 => okLegalTerminal b | _ => false)

/-! The session (R232–R234). -/

def setSession (p : Option PSession) (s : State) : State := onIsland (fun i => { i with session := p }) s

/-- Bytes staged. -/
def stagedBytes (p : PSession) : Nat := p.staged.foldl (fun a x => a + 12 + x.body.length) 0

/-- An object staged in a session; none when it would pass 131,072 bytes (R232). -/
def stageParam (x : IParam) (p : PSession) : Option PSession :=
  let q : PSession :=
    { p with
      staged := p.staged.filter (fun y => !(y.cls == x.cls && y.index == x.index)) ++ [x],
      deleted := p.deleted.filter (· != (x.cls, x.index)) }
  if stagedBytes q > 131072 then none else some q

/-- A deletion staged. -/
def stageDelete (cls i : Nat) (p : PSession) : PSession :=
  { p with
    staged := p.staged.filter (fun y => !(y.cls == cls && y.index == i)),
    deleted := (cls, i) :: p.deleted.filter (· != (cls, i)) }

/-- The set that a commit would make: versions and bodies are those staged, else those present. -/
def committedSet (s : State) (p : PSession) : List IParam :=
  (s.island.params.filter (fun y =>
    !p.deleted.contains (y.cls, y.index) && !p.staged.any (fun x => x.cls == y.cls && x.index == y.index))) ++ p.staged

/-- An air capture ends early: normal intervals resume, and the loop-back it began with stands
(spec/07_moisture_engine.md R287, R288). -/
def endCapture (s : State) : State :=
  onEngine (fun e =>
    { e with capture := none, captureCut := e.captureCut || (e.capture.isSome && e.st == 3), st := if e.st = 3 then 0 else e.st }) s

/-- A capture of the session ends with its command, which stages nothing (07_moisture_engine.md R287–R289). -/
def captureEnds (status : Nat) (s : State) : State :=
  (waitingJobs s 0x0702).foldl (fun t j => if j.committed then t else finish j.org status [] t) (endCapture s)

/-- The session is discarded, with the cause that its record carries: 1 seal, 2 idle, 3 link, 4 mode (R234, R260);
a commit or capture under way ends with `status`. -/
def discardSession (cause status : Nat) (s : State) : State :=
  match s.island.session with
  | none => s
  | some _ =>
    let s1 := setSession none (onPower (fun w =>
      { w with stores := w.stores.filter (fun st => match st.act with | .islandParam _ => false | _ => true) }) s)
    let s2 := if cause = 0 then s1 else note 0x0614 [cause] s1
    captureEnds status ((waitingJobs s2 0x0606).foldl (fun t j => finish j.org status [] t) s2)

/-- An XSR7-BP1 leaves COMMISSION: its session is discarded (R234); a commit being written completes
(notes/assumptions/147.md). -/
def leaveCommission (s : State) : State :=
  match s.island.session with
  | some p => if s.sys.legal || p.writing then s else discardSession 4 sWRONGMODE s
  | none => s

/-- A legal calibration whose GT channel has no GT_CAL in the set (R279). -/
def gtMissing (ps : List IParam) : Bool :=
  ps.any (fun x => x.cls == 1 && g1 x.body 18 == 1 && g1 x.body 19 < 2 &&
    !ps.any (fun y => y.cls == 4 && y.index == g1 x.body 19))

/-- CRC of an object of a set; 0 where there is none (R238). -/
def crcIn (ps : List IParam) (cls i : Nat) : Nat :=
  match ps.find? (fun p => p.cls == cls && p.index == i) with | some p => paramObjCrc p | none => 0

/-- Objects, in ascending order, that differ between two sets. -/
def changedKeys (old new : List IParam) : List (Nat × Nat) :=
  let key : IParam → Nat := fun p => p.cls * 256 + p.index
  let all := sortBy (fun a b => decide (a ≤ b)) ((old ++ new).map key)
  (all.eraseDups.filter (fun k => crcIn old (k / 256) (k % 256) != crcIn new (k / 256) (k % 256))).map
    (fun k => (k / 256, k % 256))

/-- The trail is full, or this change's entry is the 8,192nd, which is TRAIL_FULL: the change is counted for WM_STATUS alone
(R242). -/
def countFull (n : Nat) (s : State) : State :=
  if s.sys.legal && 8191 ≤ s.island.trail.length + s.island.waiting.length then
    onIsland (fun i => { i with fullCount := i.fullCount + n }) s
  else s

/-- SEAL_CLOSED: appended, and recorded (R228, R238). When the trail is full, the change is only counted (R242). -/
def sealClosed (secs : Nat) (s : State) : State :=
  let n := s.island.objsChanged
  note 0x0611 [n, secs] (audit 3 0 (p2 n ++ zeros 2 ++ p4 secs) (countFull 1 s))

/-- SEAL_CLOSED that waited for the commit follows its entries (R234). -/
def releaseSealClosed (s : State) : State :=
  match s.island.closeAfter with
  | none => s
  | some secs => sealClosed secs (onIsland (fun i => { i with closeAfter := none }) s)

/-- The PARAM_CHANGED entries of a commit, written inside its store (R225, R232 step 5). `version` gives each new version. Each
carries the checksum of the set that the commit makes (R238; notes/assumptions/147.md). -/
def paramEntries (owner : Side) (old new : List IParam) (version : Nat → Nat) (s : State) : State :=
  (changedKeys old new).foldl (fun t k =>
    if !t.sys.legal then t
    else appendAudit
      { kind := 6, actor := sideCode owner, epoch := t.island.epoch, calendar := islandCal t t.sys.devTime,
        data := p1 k.1 ++ zeros 1 ++ p2 k.2 ++ p4 (crcIn old k.1 k.2) ++ p4 (crcIn new k.1 k.2) ++
          p4 (version (k.1 * 256 + k.2)) } t) s

/-- The bank marker is written: the commit point (R232 steps 5 and 6). The session ends (notes/assumptions/38.md). -/
def commitParams (o : Option Org) (s : State) : State :=
  match s.island.session with
  | none => s
  | some p =>
    let old := s.island.params
    let new := committedSet s p
    let keys := changedKeys old new
    let oldCrc := paramCrcOf old
    let newCrc := paramCrcOf new
    let s1 := keys.foldl (fun t k =>
      let v := tget t.island.versions (k.1 * 256 + k.2) + 1
      onIsland (fun i => { i with versions := tset i.versions (k.1 * 256 + k.2) v }) t) s
    let s2 := onIsland (fun i =>
      { i with
        params := new, oldParams := (s.sys.devTime, old) :: i.oldParams, committedAt := s.sys.devTime, session := none, paramFault := false,
        faultEnd := if i.paramFault then s.sys.devTime else i.faultEnd, objsChanged := i.objsChanged + keys.length }) s1
    let s3 := paramEntries p.owner old new (fun k => tget s2.island.versions k) s2
    let s4 := releaseSealClosed (note 0x0613 [sideCode p.owner, oldCrc, newCrc] s3)
    match o with
    | some o => finish o sOK (p4 newCrc ++ p2 keys.length ++ zeros 2) (commitJob o s4)
    | none => s4

/-- A commit that the island's stop cuts short after its PARAM_CHANGED entries: the old set stays, and the next start tells
of it (R234; notes/assumptions/147.md). -/
def abandonParams (s : State) : State :=
  match s.island.session with
  | none => s
  | some p =>
    if !p.writing then s
    else
      let new := committedSet s p
      onIsland (fun i => { i with abandoned := some (paramCrcOf new) })
        (withParams new (paramEntries p.owner s.island.params new (fun k => tget s.island.versions k + 1)) s)

/-- The store of a commit is admitted: on an XSR7-BM1 with the seal closed a queued one is cancelled (R233). -/
def startParamWrite (s : State) : State :=
  match s.island.session with
  | none => s
  | some p =>
    if p.queued && s.sys.legal && !s.island.sealPin then discardSession 1 sSEALED s
    else setSession (some { p with queued := false, writing := true }) s

/-- A commit aborted before its commit point leaves the session open (R234). -/
def abortParams (s : State) : State :=
  match s.island.session with
  | none => s
  | some p =>
    let s1 := onPower (fun w =>
      { w with stores := w.stores.filter (fun st => match st.act with | .islandParam _ => false | _ => true) }) s
    let s2 := setSession (some { p with queued := false, writing := false }) s1
    if s.island.closeAfter.isSome then discardSession 1 sSEALED (releaseSealClosed s2) else s2

end Sys2Proof.Machine
end

