-- ==== Sys2Proof/Machine/EngineOps.lean ====
section
/-! DEFINITION. The moisture engine's computation: from acquisitions to averaged ratios, permittivity, moisture and
density, the judging of a loop-back, and spectra (spec/07_moisture_engine.md R264–R278, R288). Complex values are exact pairs, each
part rounded to float32 after an operation (notes/assumptions/39.md). -/

namespace Sys2Proof.Machine

abbrev Cx := Rat × Rat

def cRound (z : Cx) : Cx := (toF32 z.1, toF32 z.2)
def cMul (a b : Cx) : Cx := cRound (a.1 * b.1 - a.2 * b.2, a.1 * b.2 + a.2 * b.1)
def cAbs2 (z : Cx) : Rat := z.1 * z.1 + z.2 * z.2
/-- Quotient; by 0 a free value. -/
def cDiv (a b : Cx) : Cx :=
  let n := cAbs2 b
  if n = 0 then cRound (Config.quotientByZero a.1, Config.quotientByZero a.2) else cRound ((a.1 * b.1 + a.2 * b.2) / n, (a.2 * b.1 - a.1 * b.2) / n)

/-- A pair of float32 bit patterns. -/
def cGet (l : List (Nat × Nat)) (n : Nat) : Cx :=
  let p := l.getD n (0, 0)
  ((f32.decode p.1).getD 0, (f32.decode p.2).getD 0)
def cPut (z : Cx) : Nat × Nat := (f32.encode z.1, f32.encode z.2)

/-- Decibels of a magnitude; none for zero. -/
def decibels (z : Cx) : Option Rat := if cAbs2 z = 0 then none else some (10 * log10Rat (cAbs2 z))
def degrees (z : Cx) : Rat := argRat z.1 z.2 * 180 / piRat

/-- f_n of R264, float32. -/
def freqHz (n : Nat) : Rat := toF32 (10000000 * expRat ((n : Rat) / 200 * lnRat 150))

/-! Acquisitions (R264, R265). -/

/-- Sums of an acquisition in the bin at 5 MHz, an eighth of the sampling rate: the parts that a whole number and that √½
multiply, real and imaginary; `k` numbers the first sample. -/
structure BinSum where
  re : Int := 0
  reHalf : Int := 0
  im : Int := 0
  imHalf : Int := 0

def binSum : Nat → List Int → BinSum → BinSum
  | _, [], r => r
  | k, x :: l, r =>
    binSum (k + 1) l (match k % 8 with
      | 0 => { r with re := r.re + x }
      | 1 => { r with reHalf := r.reHalf + x, imHalf := r.imHalf - x }
      | 2 => { r with im := r.im - x }
      | 3 => { r with reHalf := r.reHalf - x, imHalf := r.imHalf - x }
      | 4 => { r with re := r.re - x }
      | 5 => { r with reHalf := r.reHalf - x, imHalf := r.imHalf + x }
      | 6 => { r with im := r.im + x }
      | _ => { r with reHalf := r.reHalf + x, imHalf := r.imHalf + x })

/-- Complex amplitude of an acquisition: its single-bin DFT at 5 MHz, up to the factor that its ratio cancels. -/
def amplitude (l : List Int) : Cx :=
  let r := binSum 0 l {}
  let h := sqrtRat (1 / 2)
  cRound ((r.re : Rat) + (r.reHalf : Rat) * h, (r.im : Rat) + (r.imHalf : Rat) * h)

/-- b/a of a point of a sweep. -/
def ratioAt (w : Sweep) (n : Nat) : Cx := let q := w.getD n ⟨[], []⟩; cDiv (amplitude q.b) (amplitude q.a)

def cSum (l : List Cx) : Cx := l.foldl (fun a z => cRound (a.1 + z.1, a.2 + z.2)) (0, 0)

/-- Mean of b/a of a point over sweeps (R265, R267). -/
def meanRatio (ws : List Sweep) (n : Nat) : Cx :=
  let z := cSum (ws.map (fun w => ratioAt w n))
  let k : Rat := (max 1 ws.length : Nat)
  cRound (z.1 / k, z.2 / k)

/-- The means of b/a at every point. -/
def meanSweep (ws : List Sweep) : List Cx := (List.range 201).map (meanRatio ws)

/-- The APPLICATOR body (R278). -/
def applicator (s : State) : List Byte := paramBody s 2 0
def appAir (b : List Byte) (n : Nat) : Cx := (rf32 b (32 + 8 * n), rf32 b (36 + 8 * n))
def appRef (b : List Byte) (n : Nat) : Cx := (rf32 b (1640 + 8 * n), rf32 b (1644 + 8 * n))

/-- The corrections in use at a point: those of the latest loop-back, C_cable against the reference of the set in force; 1
before the first loop-back of a start (R274). -/
def intCorr (e : Engine) (n : Nat) : Cx := if e.cInt.isEmpty then (1, 0) else cGet e.cInt n
def cableCorr (e : Engine) (app : List Byte) (n : Nat) : Cx :=
  if e.refl.isEmpty then (1, 0) else cDiv (cGet e.refl n) (appRef app n)

/-- One point: excess attenuation in dB, phase lag, and whether it is excluded (R267). -/
structure Point where
  att : Rat := 0
  phi : Rat := 0
  excl : Bool := true
  er : Rat := 0
  ei : Rat := 0
  deriving Inhabited

/-- Attenuation and wrapped phase of a point whose averaged ratio is `r` (R267). -/
def pointOf (e : Engine) (app : List Byte) (n : Nat) (r : Cx) : Point :=
  let t := cDiv (cDiv r (cMul (intCorr e n) (cableCorr e app n))) (appAir app n)
  match decibels t with
  | none => { att := (Config.pointOfZero n).1, phi := (Config.pointOfZero n).2, excl := true }
  | some d => let a := toF32 (-d); { att := a, phi := toF32 (-(argRat t.1 t.2)), excl := decide (60 < a) }

/-- The branch of a phase that is nearest to another (R269). -/
def nearBranch (q phi : Rat) : Rat := phi + 2 * piRat * (roundRat ((q - phi) / (2 * piRat)) : Rat)

/-- Unwrapping along frequency; the flag says that every step stayed within π/2 (R269). -/
def unwrap : Option Rat → List Point → List Point × Bool
  | _, [] => ([], true)
  | prev, p :: r =>
    if p.excl then let (l, ok) := unwrap prev r; (p :: l, ok)
    else
      let phi : Rat := match prev with
        | none => if p.phi ≤ -piRat then p.phi + 2 * piRat else p.phi
        | some q => nearBranch q p.phi
      let f := toF32 phi
      let step : Bool := match prev with | none => true | some q => decide (absRat (phi - q) ≤ piRat / 2)
      let (l, ok) := unwrap (some f) r
      ({ p with phi := f } :: l, step && ok)

/-- Permittivity of a kept point (R267), float32 after each operation. -/
def epsOf (app : List Byte) (n : Nat) (p : Point) : Point :=
  let len := toF32 ((g4 app 0 : Rat) / 1000000)
  let eta := toF32 ((g2 app 4 : Rat) / 10000)
  let k := toF32 (toF32 (toF32 (toF32 (2 * piRat) * freqHz n) * len) / toF32 299792458)
  if k = 0 || eta = 0 then p
  else
    let nr := toF32 (1 + toF32 (p.phi / k))
    let ka := toF32 (toF32 (p.att / toF32 (868589 / 100000)) / k)
    let ere := toF32 (toF32 (nr * nr) - toF32 (ka * ka))
    let eim := toF32 (toF32 (2 * nr) * ka)
    { p with er := toF32 (1 + toF32 (toF32 (ere - 1) / eta)), ei := toF32 (eim / eta) }

/-- Mean in float32, accumulated in rising order. -/
def mean32 (l : List Rat) : Rat := if l.isEmpty then 0 else toF32 (l.foldl (fun a x => toF32 (a + x)) 0 / (l.length : Nat))

/-- What one interval gives (R267–R272). `cause` is 0, 1 OVER_ATTEN, 2 UNWRAP. -/
structure Result where
  cause : Nat := 0
  excluded : Nat := 0
  points : Nat := 0
  er : Rat := 0
  ei : Rat := 0
  att : Rat := 0
  all : List Point := []
  deriving Inhabited

/-- The computation over a band; with `lo` above `hi` the band is empty. -/
def engineResult (e : Engine) (app : List Byte) (lo hi : Nat) (ratio : List Cx) : Result :=
  let (ps, ok) := unwrap none ((List.range 201).zipWith (pointOf e app) ratio)
  let band : Nat × Point → Bool := fun q => lo ≤ q.1 && q.1 ≤ hi
  let ixed := (List.range 201).zip ps
  let full := ixed.map (fun q => if ok && band q && !q.2.excl then epsOf app q.1 q.2 else q.2)
  let kept := ((List.range 201).zip full).filter (fun q => band q && !q.2.excl)
  let nex := (ixed.filter (fun q => band q && q.2.excl)).length
  let base : Result := { excluded := nex, points := kept.length, att := mean32 (kept.map (·.2.att)), all := full }
  if !ok then { base with cause := 2 }
  else if 4 * nex > hi + 1 - lo then { base with cause := 1 }
  else { base with er := mean32 (kept.map (·.2.er)), ei := mean32 (kept.map (·.2.ei)) }

/-- Fill indicator ε′ − 1 of one sweep at the middle point of the band, its phase on the branch of the interval's (R272;
notes/assumptions/41.md). -/
def fillOf (e : Engine) (app : List Byte) (mid : Nat) (whole : Point) (w : Sweep) : Rat :=
  let p := pointOf e app mid (ratioAt w mid)
  toF32 ((epsOf app mid (if whole.excl then p else { p with phi := toF32 (nearBranch whole.phi p.phi) })).er - 1)

/-- Moisture polynomial of R270 in float64, % w.b. -/
def moisturePoly (cal : List Byte) (q t : Rat) : Rat :=
  let inner : Nat → Rat := fun i =>
    ((List.range (g1 cal 23 + 1)).reverse).foldl (fun p j => toF64 (toF64 (p * t) + rf32 cal (28 + 4 * (3 * i + j)))) 0
  ((List.range (g1 cal 22 + 1)).reverse).foldl (fun y i => toF64 (toF64 (y * q) + inner i)) 0

/-- Bulk density of R271 in float64, kg/m³. -/
def densityOf (cal : List Byte) (er q : Rat) : Rat :=
  toF64 (toF64 (rf32 cal 76 + toF64 (rf32 cal 80 * (er - 1))) + toF64 (rf32 cal 84 * q))

/-- Grain temperature of R273: T in m°C, and its source; 2 when it is the fixed value. -/
def grainTemp (s : State) (cal : List Byte) : Int × Nat :=
  let src := g1 cal 19
  match (if src < 2 then tfind s.island.gtTemp src else none) with
  | some (v, t) => if s.sys.devTime ≤ t + 2000000000 then (v, src) else (i4 cal 24, 2)
  | none => (i4 cal 24, 2)

def field16 (q : Rat) : Nat := uField 2 (roundRat q)

/-- Hundredths of dB in an int16 field; the decibels of 0 are a free value. -/
def dbField (d : Option Rat) : Int := match d with | some d => sField 2 (roundRat (d * 100)) | none => sOf 2 (Config.outOfField 2 0)

/-- Round-trip delay of the reference line in ps from its reflection by point: the phase lag of each step from one point
to the next is taken on the branch nearest the delay of the points below, and the whole lag divided by the band
(notes/assumptions/150.md). -/
def lineDelay (l : List Cx) : Rat :=
  let lag : Nat → Rat := fun n => let z := cDiv (l.getD (n + 1) (0, 0)) (l.getD n (0, 0)); -(argRat z.1 z.2)
  let span : Nat → Rat := fun n => 2 * piRat * (freqHz n - freqHz 0)
  let total := (List.range 200).foldl (fun a n =>
    let w := 2 * piRat * (freqHz (n + 1) - freqHz n)
    a + (if n = 0 then lag n else nearBranch (a / span n * w) (lag n))) (0 : Rat)
  total / span 200 * 1000000000000

/-- What a loop-back gives at 1.5 GHz: the two corrections, the reflection, and the change of the line's delay in ps (R275). -/
structure Loop where
  int : Cx
  cable : Cx
  refl : Cx
  delay : Rat

/-- The six values of a LOOPBACK body (R276): hundredths of dB and degrees at 1.5 GHz, and the delay change. -/
def loopVals (l : Loop) : List Int :=
  let db : Cx → Int := fun z => dbField (decibels z)
  [db l.int, sField 2 (roundRat (degrees l.int * 100)), db l.cable, sField 2 (roundRat (degrees l.cable * 100)), db l.refl,
    sField 2 (roundRat l.delay)]

/-- Above the thresholds (in dB and degrees) of a row of R275. -/
def beyond (z : Cx) (db deg : Rat) : Bool :=
  (match decibels z with | some d => decide (db < absRat d) | none => true) || decide (deg < absRat (degrees z))

/-- The reflection is lost, below −20 dB; the delay differs by more than 2 ns (R275). -/
def reflLost (l : Loop) : Bool := match decibels l.refl with | some d => decide (d < -20) | none => true
def delayOff (l : Loop) : Bool := decide (2000 < absRat l.delay)

/-- Lowest cause of a limit (R275); 0 with none. -/
def loopCause (l : Loop) : Nat :=
  if beyond l.int (1 / 2) 5 then 1 else if beyond l.cable 1 10 then 2 else if reflLost l then 3 else if delayOff l then 4 else 0

/-- A loop-back that began at `start`, of two through sweeps and three reflection sweeps, is judged and recorded; its
corrections and marks are kept (R266, R274–R276). Without an APPLICATOR object the line is compared with itself. -/
def loopBack (ws : List Sweep) (start trigger : Nat) (s : State) : State :=
  let app := applicator s
  let ci := (meanSweep (ws.take 2)).zipWith (fun z n => cDiv z (Config.throughRef n)) (List.range 201)
  let refl := meanSweep ((ws.drop 2).take 3)
  let base := if app.isEmpty then refl else (List.range 201).map (appRef app)
  let r200 := refl.getD 200 (0, 0)
  let l : Loop :=
    { int := ci.getD 200 (0, 0), cable := cDiv r200 (base.getD 200 (0, 0)), refl := r200, delay := lineDelay refl - lineDelay base }
  let vals := loopVals l
  let warn := beyond l.int (1 / 4) (5 / 2) || beyond l.cable (1 / 2) 5
  let cause := loopCause l
  let result := if reflLost l || delayOff l then 3 else if cause != 0 then 2 else b01 warn
  let s1 := if warn then note 0x0710 (vals.take 4) s else s
  let s2 := if cause != 0 then note 0x0711 ((cause : Int) :: vals) s1 else s1
  let was := s.engine.refState == 2
  let now := s.sys.devTime
  let s3 := if cause = 0 && was then note 0x0712 [nsMs (now - s.engine.reason7At) / 1000] s2 else s2
  let body := vals.flatMap q2 ++ p1 result ++ p1 trigger ++ zeros 18
  makeRecord 0 0x10 0 start (start + 10000000) body (onEngine (fun e =>
    { e with
      cInt := ci.map cPut, refl := refl.map cPut, lastVals := vals, drift := warn, loopTrigger := 0, loopOwed := false,
      refState := if cause != 0 then 2 else b01 warn, reason7At := if cause != 0 && !was then now else e.reason7At,
      lastLoop := islandCal s start, lastLoopDev := some start }) s3)

/-- Cause 5: at `start`, more than 180 s have passed since the last loop-back was complete (R275). -/
def loopOverdue (start : Nat) (s : State) : State :=
  match s.engine.lastLoopDev with
  | some t => if s.engine.refState != 2 && decide (t + 180010000000 < start) then
      note 0x0711 (5 :: s.engine.lastVals) (onEngine (fun e => { e with refState := 2, reason7At := s.sys.devTime }) s) else s
  | none => s

/-- An interval that starts at `start` makes a loop-back: the first of a start or after a hot pause, a forced one, 60 s
after the last one began, or in STILL where the last is older than that (R266, R286, R288). -/
def loopDue (s : State) (start : Nat) : Bool :=
  let e := s.engine
  let old := match e.lastLoopDev with
    | none => true
    | some t => if s.sys.mode = .still then decide (t + 60000000000 < start) else decide (t + 60000000000 ≤ start)
  e.loopOwed || old || (match e.loopForced with | some f => decide (f.2 ≤ start) | none => false)

/-- Selection of an interval that starts at `start`: what the island had received by then, or the first that it received
(R280). -/
def calFor (s : State) (start : Nat) : Nat :=
  let l := s.engine.calLog
  match (l.find? (fun e => decide (e.1 ≤ start))).or l.getLast? with
  | some e => e.2
  | none => match moistureStn s with | some m => g1 (stnPart s m) 0 | none => 0xFF

/-- The engine sweeps (R285, R286). -/
def sweeping (s : State) : Bool :=
  islandUp s && !pllDown s 2 && !(applicator s).isEmpty && s.engine.st == 0 &&
    (match moistureStn s with
      | none => false
      | some n => match s.sys.mode with
        | .commission => true | .run => true | .hold => true | .still => g1 (stnPart s n) 2 == 1 | _ => false)

/-- EMPTY begins or ends (R272). -/
def fillChange (empty : Bool) (er : Rat) (idx : Nat) (s : State) : State :=
  let e := s.engine
  let now := s.sys.devTime
  let s1 := if !e.hasInterval || e.empty = empty then s
    else if empty then note 0x0713 [roundRat ((er - 1) * 1000), idx] s
    else note 0x0714 [nsMs (now - e.emptySince) / 1000] s
  onEngine (fun e => { e with empty := empty, emptySince := if empty && !e.empty then now else e.emptySince }) s1

/-- UNSTEADY: the fill indicators span more than 20 % of their mean (R272, notes/assumptions/41.md). -/
def unsteady (fills : List Rat) : Bool :=
  match fills with
  | [] => false
  | x :: r =>
    let hi := r.foldl max x
    let lo := r.foldl min x
    let m := fills.sum / (fills.length : Nat)
    decide (absRat m / 5 < hi - lo)

/-- The spectrum entries of an interval (R288). -/
def spectrumOf (ps : List Point) : List (List Byte) :=
  ps.map (fun p => p2 (field16 (p.att * 100)) ++ p2 (field16 (p.phi * 1000)) ++ p2 (field16 (p.er * 1000)) ++ p2 (field16 (p.ei * 1000)))

/-- The MOISTURE record of an interval with the measurement interval `t0` to `t1`, under the corrections and marks of `e`
(R265–R273, R282, R283). -/
def moistureRecord (e : Engine) (ws : List Sweep) (idx t0 t1 : Nat) (s0 : State) : State :=
  let cal := paramBody s0 1 idx
  let app := applicator s0
  let none_ := cal.isEmpty
  let legal := !none_ && g1 cal 18 == 1
  let (lo, hi) := if none_ then (1, 0) else (g1 cal 20, g1 cal 21)
  let r := engineResult e app lo hi (meanSweep ws)
  let s1 := onEngine (fun e =>
    { e with excluded := r.excluded, spectrum := spectrumOf r.all, specFrom := t0, specTo := t1, specCrc := paramCrc s0 }) s0
  let (t, src) := if none_ then ((0 : Int), 2) else grainTemp s0 cal
  let mid := (lo + hi) / 2
  let fills := if none_ then [] else ws.map (fillOf e app mid (if r.cause = 2 then {} else r.all.getD mid {}))
  let marks := b01 e.drift * 4 + b01 (src == 2) * 32 + b01 (unsteady fills) * 128
  let c200 := cableCorr e app 200
  let tail : List Byte := p1 src ++ zeros 1 ++ q2 (dbField (decibels c200)) ++ q2 (sField 2 (roundRat (degrees c200 * 100))) ++ zeros 2
  let counts : List Byte := p1 idx ++ p1 ws.length ++ p1 r.points
  let why : Bool → BitVec 16 := fun six => BitVec.ofNat 16 (b01 (!legal) * 16 + b01 six * 32 + b01 (e.refState == 2) * 64)
  let head : Nat → Nat → List Byte := fun m d => p4 m ++ p4 d ++ q4 t
  let noResult : List Byte → Nat → State → State := fun eps flag =>
    makeRecord 0 1 (why true) t0 t1
      (head 0xFFFFFFFF 0xFFFFFFFF ++ eps ++ zeros 2 ++ p2 (field16 (r.att * 100)) ++ counts ++ p1 (marks + flag) ++ tail)
  if none_ then noResult (zeros 4) 64 s1
  else if r.cause != 0 then noResult (zeros 4) (if r.cause = 1 then 8 else 16) (note 0x0715 [r.cause, r.excluded] s1)
  else
    let empty := decide (toF32 (r.er - 1) < rf32 cal 120)
    let s2 := fillChange empty r.er idx s1
    let eps := p2 (field16 (r.er * 1000)) ++ p2 (field16 (r.ei * 1000))
    if empty then noResult eps 1 s2
    else
      let q := toF32 (r.ei / toF32 (r.er - 1))
      let m := roundRat (moisturePoly cal q (toF64 (((t : Rat) / 1000 - 20) / 20)) * 1000)
      let rho := densityOf cal r.er q * 1000
      let inCal := decide (6000 ≤ m) && decide (m ≤ 35000)
      let dOut := decide (rho < (g4 cal 112 : Nat)) || decide ((g4 cal 116 : Nat) < rho)
      let fitOut := m < (g4 cal 104 : Int) || m > (g4 cal 108 : Int)
      let mOut := m < (g4 cal 88 : Int) || m > (g4 cal 92 : Int)
      let tOut := if src = 2 then legal else t < i4 cal 96 || t > i4 cal 100
      makeRecord 0 1 (why (!inCal || mOut || dOut || tOut)) t0 t1
        (head (if inCal then m.toNat else 0xFFFFFFFF) (if 0 < rho then uField 4 (roundRat rho) else 0xFFFFFFFF) ++ eps ++
          p2 (field16 (q * 10000)) ++ p2 (field16 (r.att * 100)) ++ counts ++ p1 (marks + b01 (!inCal || fitOut || dOut) * 2) ++ tail) s2

end Sys2Proof.Machine
end

