-- ==== Sys2Proof/Machine/ZoneFx.lean ====
section
/-! DEFINITION. Effects of the zone rows (spec/09_zone_programmes.md R319–R348). Programme steps that fall due during
supervisor re-execution run when Evver resumes (R322): see `zoneDue`, and `lateAll` of AbsorbFx. -/

namespace Sys2Proof.Machine

/-- A programme step of a zone, in a zone that is not IDLE. -/
def stepping (s : State) (z : Nat) : Bool := z < 16 && zonePresent s z && zoneRunning s z

/-- Time that a periodic law computes with: its period, or what has really passed where this step or the one before ran
late (R322). -/
def lawNs (period now : Nat) (late : Bool) (last : Option (Nat × Bool)) : Nat :=
  match last with
  | some (t, was) => if late || was then now - t else period
  | none => period

/-- PERMISSIVE_CLEAR: every permissive at its level for 500 ms (R323). -/
def permissiveClear (z : Nat) (s : State) : State :=
  if stepping s z && (permOpen s z).isEmpty then zonesEval (clearCause z 2 s) else s

/-! Deckle (R324). -/

/-- Inside lo–hi with a valid value. -/
def deckleInside (s : State) (z i : Nat) : Bool :=
  let e := deckleEntry s z i
  let v := valueOf s (g2 e 0)
  validOf s (g2 e 0) && i4 e 4 ≤ v && v ≤ i4 e 8

def deckleViolated (s : State) (z i : Nat) : Bool :=
  let e := deckleEntry s z i
  if validOf s (g2 e 0) then !deckleInside s z i else bitOf (g1 e 3) 0

/-- DECKLE_CONFIRMED: a violation lasted delay_ms. -/
def deckleConfirmed (z i : Nat) (s : State) : State :=
  let e := deckleEntry s z i
  if !stepping s z || i ≥ deckleCount s z || (zone s z).deckle.getLsbD i || !deckleViolated s z i then s
  else
    let s1 := note 0x0330 [z, i, valueOf s (g2 e 0), g1 e 2]
      (modZone z (fun q =>
        { q with deckle := q.deckle ||| BitVec.ofNat 16 (2 ^ i), deckleAt := tset q.deckleAt i s.sys.devTime }) s)
    match g1 e 2 with
    | 1 => raiseCause z 3 (g2 e 0) s1
    | 2 => zonesEval (stopOrderly z s1)
    | _ => s1

/-- DECKLE_CLEARED: valid and inside for delay_ms. -/
def deckleCleared (z i : Nat) (s : State) : State :=
  let q := zone s z
  if !stepping s z || !q.deckle.getLsbD i || !deckleInside s z i then s
  else
    let s1 := note 0x0331 [z, i, nsMs (s.sys.devTime - tget q.deckleAt i)]
      (modZone z (fun q => { q with deckle := q.deckle &&& ~~~(BitVec.ofNat 16 (2 ^ i)), deckleAt := tdel q.deckleAt i }) s)
    let left := (List.range 16).any (fun j => (zone s1 z).deckle.getLsbD j && g1 (deckleEntry s1 z j) 2 == 1)
    if left then s1 else zonesEval (clearCause z 3 s1)

/-- FELT_STOP_REACTION: the felt has been STOPPED for stop_ms while the zone is RUNNING (R325). -/
def feltStopReaction (z : Nat) (s : State) : State :=
  if !stepping s z || (zone s z).st != 2 || stopMs s z = 0 || !(felt s (zoneFelt s z)).state.getLsbD 1 then s
  else
    let s1 := note 0x0340 [z, stopAction s z] s
    match stopAction s z with
    | 1 => raiseCause z 8 0xFFFF s1
    | 2 => zonesEval (stopOrderly z s1)
    | _ => s1

/-- TARGET_TIMEOUT: programme 1, RUNNING, no ZONE_TARGET within target_timeout_ms (R320, R345). -/
def targetTimeout (z : Nat) (s : State) : State :=
  if stepping s z && (zone s z).st = 2 && zoneProg s z = 1 && g4 (zp s z) 28 != 0 then raiseCause z 7 0xFFFF s else s

/-! Heat block. -/

/-- HEAT_PHASE_TIMEOUT: the time of the present phase has run out (R331, R337). -/
def heatPhaseTimeout (z : Nat) (s : State) : State :=
  let q := zone s z
  let batch := zoneType s z == 2
  if !stepping s z || !hasHeat s z then s
  else match q.phase with
    | 1 =>
      match (zProofs s z).find? (fun p => !inputOn s p.2) with
      | some p => raiseCause z 5 p.1 (note 0x0321 [z, p.1] s)
      | none => s
    | 2 => if inputOn s (zFlame s z) then s else raiseCause z 4 (zFlame s z) (note 0x0322 [z, 2] (burnerTo z false s))
    | 3 => zonesEval (if batch && q.st = 1 then batchRun z s else enterPhase z 2 4 s)
    | 5 => zonesEval (enterPhase z q.st (if batch then 8 else 6) s)
    | 6 => zonesEval (goIdle z 0 s)
    | 8 => zonesEval (if q.st = 3 then goIdle z 0 s else enterPhase z q.st 9 s)
    | _ => s

/-- The plenum law of R332 for a valid plenum value, over `ns` of device time. -/
def plenumLaw (z : Nat) (tp : Int) (ns : Nat) (s : State) : State :=
  let b := zb s z
  let h := (zone s z).heat
  let e : Rat := ((i4 b 24 - tp : Int) : Rat) / 1000
  let kp := rf32 b 36
  let ti := rf32 b 40
  let dir : Int := if e < 0 then -1 else if e > 0 then 1 else 0
  let integ := if ti > 0 && !(h.uSat && dir == h.uSatDir) then h.integ + e * ((ns : Rat) / 1000000000) / ti else h.integ
  let u := (lowFire s z : Rat) + kp * (e + integ)
  let lo : Rat := (lowFire s z : Int)
  let hi : Rat := (highFire s z : Int)
  valveTo z (clampRat lo hi u) (modZone z (fun q =>
    { q with
      heat := { q.heat with integ := integ, uSat := decide (u ≤ lo) || decide (hi ≤ u),
                            uSatDir := if u ≤ lo then -1 else 1, plenumHeld := false } }) s)

/-- The rate trim of a COLUMN (R334): integral of the rate error over `ns`, within ±20 % of full scale. -/
def columnTrim (z : Nat) (ns : Nat) (s : State) : State :=
  let b := zb s z
  let c := (zone s z).column
  let r : Nat := match target s z 1 with | some v => v.toNat | none => c.r
  let err : Rat := ((r : Int) - (felt s (zoneFelt s z)).rate : Int)
  let trim := clampRat (-1 / 5) (1 / 5) (c.trim + rf32 b 108 * err * ((ns : Rat) / 1000000000) / (max 1 (g4 b 72) : Nat))
  outDrive z (modZone z (fun q => { q with column := { q.column with trim := trim, r := r } }) s)

/-- PLENUM_LOOP_STEP: every 100 ms of FIRING (R332, R334, R345). Under programme 1 the application's PLENUM replaces the
law, and before it has sent one the valve stays (notes/assumptions/151.md). -/
def plenumLoopStep (z : Nat) (late : Bool) (s : State) : State :=
  if !stepping s z || !hasHeat s z || (zone s z).st != 2 || (zone s z).phase != 4 then s
  else
    let ns := lawNs 100000000 s.sys.devTime late (zone s z).loopLast
    let s1 := match target s z 2, plenumVal s z with
      | some ua, _ => valveTo z (ua : Int) s
      | none, some tp => if zoneProg s z = 1 then s else plenumLaw z tp ns s
      | none, none => if (zone s z).heat.plenumHeld then valveTo z (lowFire s z : Int) s else s
    let s2 := modZone z (fun q =>
      { q with
        loopLast := some (s.sys.devTime, late),
        batch := if q.heat.u ≥ (highFire s z : Int) then { q.batch with highFireMs := q.batch.highFireMs + ns / 1000000 } else q.batch }) s1
    if zoneType s z = 1 then columnTrim z ns s2 else s2

/-- PLENUM_INVALID_TIMEOUT: 10 s without a valid plenum value, in the law that programme 1 does not compute (R332, R345). -/
def plenumInvalidTimeout (z : Nat) (s : State) : State :=
  if !stepping s z || !hasHeat s z || (zone s z).st != 2 || (zone s z).phase != 4 || (plenumVal s z).isSome ||
      zoneProg s z = 1 || (zone s z).heat.plenumHeld then s
  else note 0x0323 [z, plenumStn s z]
    (valveTo z (lowFire s z : Int) (modZone z (fun q => { q with heat := { q.heat with plenumHeld := true } }) s))

/-- EXPOSURE_STEP: one second of exposure for every parcel not yet past heated_end (R335). -/
def exposureStep (z : Nat) (late : Bool) (s : State) : State :=
  if !stepping s z || zoneType s z != 1 then s
  else
    let ns := lawNs 1000000000 s.sys.devTime late (zone s z).expLast
    let s1 := modZone z (fun q => { q with expLast := some (s.sys.devTime, late) }) s
    match plenumVal s z with
    | none => s1
    | some tp =>
      let dx : Rat := max 0 (((tp - i4 (zb s z) 100 : Int) : Rat) / 1000) * ((ns : Rat) / 3600000000000)
      let pos := zonePos s z
      modParcels z (fun p =>
        if decide (0 < posDist pos (p.start + g4 (zb s z) 80)) then { p with exposure := p.exposure + dx } else p) s1

/-- BATCH_PHASE_TIMEOUT (R337). -/
def batchPhaseTimeout (z : Nat) (s : State) : State :=
  let q := zone s z
  if !stepping s z || zoneType s z != 2 || q.st != 2 then s
  else match q.phase with
    | 7 => raiseCause z 6 (g2 (zb s z) 66) s
    | 4 => zonesEval (enterPhase z 2 5 (note 0x0332 [z, valueOf s (g2 (zb s z) 72)] s))
    | 8 => zonesEval (enterPhase z 2 9 s)
    | 9 => raiseCause z 6 (g2 (zb s z) 70) s
    | _ => s

/-! SILO (R338, R339). -/

/-- Median of a list; of an even number, the mean of the two in the middle (notes/assumptions/31.md). -/
def median (l : List Int) : Rat :=
  let m := sortBy (fun a b => decide (a ≤ b)) l
  let n := m.length
  if n % 2 = 1 then (m.getD (n / 2) 0 : Int) else ((m.getD (n / 2 - 1) 0 + m.getD (n / 2) 0 : Int) : Rat) / 2

/-- Index, cable and value of the valid sensors. -/
def siloValid (s : State) (z : Nat) : List (Nat × Nat × Int) :=
  (List.range (g1 (zb s z) 12)).filterMap (fun i =>
    let n := g2 (zb s z) (16 + 2 * i)
    if validOf s n then some (i, g1 (zb s z) (112 + i), valueOf s n) else none)

/-- Why a sensor is hot: 1 hot_abs, 2 rise, 3 difference; 0 not hot. -/
def hotCause (s : State) (z : Nat) (vs : List (Nat × Nat × Int)) (x : Nat × Nat × Int) : Nat :=
  let b := zb s z
  let now := s.sys.devTime
  let old := (tget (zone s z).silo.past x.1).find? (fun p => p.1 + 86400000000000 ≤ now)
  if x.2.2 ≥ i4 b 160 then 1
  else if (match old with | some p => decide (x.2.2 - p.2 > i4 b 164) | none => false) then 2
  else if ((x.2.2 : Int) : Rat) - median ((vs.filter (fun y => y.2.1 == x.2.1)).map (fun y => y.2.2)) > (i4 b 168 : Int) then 3
  else 0

/-- Fans of a SILO on or off; the change is recorded with its cause: 1 started, 2 ambient, 3 humidity, 4 the day's run,
5 the application; 6 is a stop with the zone's outputs (notes/assumptions/25.md). -/
def aerate (z : Nat) (on : Bool) (cause : Nat) (s : State) : State :=
  let b := zb s z
  let now := s.sys.devTime
  let s1 := (zFans s z).foldl (fun t n => driveAny n (b01 on : Nat) t) s
  let s2 := modZone z (fun q =>
    { q with
      silo := { q.silo with aerating := on, startedAt := if on then now else q.silo.startedAt,
                            stoppedAt := if on then q.silo.stoppedAt else some now } }) s1
  note 0x0351 [z, cause, valueOf s (g2 b 8), (zone s z).silo.mean] (setPhase z (if on then 2 else 1) s2)

/-- The aeration decision (R339, R345). -/
def siloAerate (z : Nat) (mean : Option Rat) (s : State) : State :=
  let b := zb s z
  let si := (zone s z).silo
  let now := s.sys.devTime
  let sec := 1000000000
  let amb := valueOf s (g2 b 8)
  let rhStn := g2 b 10
  let rhHigh := rhStn < 128 && (!validOf s rhStn || decide (valueOf s rhStn > (g4 b 180 : Nat)))
  let runFull := g4 b 192 ≤ si.runToday
  let offLong := match si.stoppedAt with | some t => decide (t + g4 b 188 * sec ≤ now) | none => true
  let onLong := decide (si.startedAt + g4 b 184 * sec ≤ now)
  let forced := zoneProg s z == 1
  let want := tfind (zone s z).targets 4 == some 1
  match mean with
  | none => if si.aerating && onLong then aerate z false 2 s else s
  | some m =>
    let start := if forced then want
      else validOf s (g2 b 8) && decide (((amb : Int) : Rat) ≤ m - (i4 b 172 : Int)) && !rhHigh
    let stopCause := if runFull then 4 else if forced then (if want then 0 else 5)
      else if decide (((amb : Int) : Rat) > m - (i4 b 172 : Int) + (i4 b 176 : Int)) then 2 else if rhHigh then 3 else 0
    if !si.aerating then (if start && offLong && !runFull then aerate z true 1 s else s)
    else if stopCause != 0 && onLong then aerate z false stopCause s else s

/-- SILO_EVALUATION: every eval_s in RUNNING (R339). -/
def siloEvaluation (z : Nat) (s : State) : State :=
  if !stepping s z || zoneType s z != 3 || (zone s z).st != 2 then s
  else
    let now := s.sys.devTime
    let vs := siloValid s z
    let si := (zone s z).silo
    let hots := vs.filter (fun x => hotCause s z vs x != 0)
    let mean : Option Rat := if vs.isEmpty then none else some (((vs.map (fun x => x.2.2)).sum : Int) / ((vs.length : Nat) : Rat))
    let top := vs.foldl (fun a x => if x.2.2 > a.2.2 then x else a) (vs.headD (0, 0, invalidValue))
    let fresh := hots.filter (fun x => !si.hotSeen.contains x.1)
    let s1 := fresh.foldl (fun t x => note 0x0350 [z, x.1, hotCause s z vs x, x.2.2] t) s
    let keep := fun (l : List (Nat × Int)) =>
      l.filter (fun p => now < p.1 + 86400000000000) ++ (l.filter (fun p => !(now < p.1 + 86400000000000))).take 1
    let s2 := modZone z (fun q =>
      { q with
        silo := { q.silo with
          hot := hots.map (·.1), hotSeen := q.silo.hotSeen ++ fresh.map (·.1),
          past := vs.foldl (fun t x => tmod t x.1 (fun l => keep ((now, x.2.2) :: l))) q.silo.past,
          mean := match mean with | some m => roundRat m | none => invalidValue, hottest := top.2.2, hottestIdx := top.1 } }) (siloCount z s1)
    siloAerate z mean s2

/-! WEIGH (R344). -/

/-- WEIGH_EMPTY_DETECT: gross at or below empty_g for empty_ms. -/
def weighEmptyDetect (z : Nat) (s : State) : State :=
  let q := zone s z
  if !stepping s z || zoneType s z != 5 || q.st != 2 || q.phase != 3 || !q.weigh.disOn ||
      !(match weighGross s z with | some g => decide (g ≤ i4 (zb s z) 16) | none => false) then s
  else zonesEval (modZone z (fun q => { q with weigh := { q.weigh with disOn := false, proving := some s.sys.devTime } })
    (driveAny (g2 (zb s z) 4) 0 s))

/-- WEIGH_PHASE_TIMEOUT: a gate proof, the fill or the discharge exceeds its time. -/
def weighPhaseTimeout (z : Nat) (s : State) : State :=
  let q := zone s z
  if !stepping s z || zoneType s z != 5 then s
  else if q.st = 1 || (q.st = 2 && (q.phase = 1 || q.phase = 3)) then raiseCause z 6 0xFFFF s
  else s

/-! Steps that fall due by time (R322). -/

/-- A programme step of a zone. -/
def zoneStepRun (z : Nat) (late : Bool) : ZoneStep → State → State
  | .permissiveClear => permissiveClear z
  | .deckleConfirmed i => deckleConfirmed z i
  | .deckleCleared i => deckleCleared z i
  | .feltStop => feltStopReaction z
  | .targetTimeout => targetTimeout z
  | .heatPhase => heatPhaseTimeout z
  | .plenumLoop => plenumLoopStep z late
  | .plenumInvalid => plenumInvalidTimeout z
  | .exposure => exposureStep z late
  | .batchPhase => batchPhaseTimeout z
  | .silo => siloEvaluation z
  | .weighEmpty => weighEmptyDetect z
  | .weighPhase => weighPhaseTimeout z

/-- A step is due: it runs, or during supervisor re-execution waits until Evver resumes. -/
def zoneDue (z : Nat) (k : ZoneStep) (s : State) : State :=
  if s.absorb.reexecuting then
    (if stepping s z then onAbsorb (fun a => { a with late := a.late ++ [.step z k] }) s else s)
  else zoneStepRun z false k s

def permissiveClearFx (z : Nat) := zoneDue z .permissiveClear
def deckleConfirmedFx (z i : Nat) := zoneDue z (.deckleConfirmed i)
def deckleClearedFx (z i : Nat) := zoneDue z (.deckleCleared i)
def feltStopReactionFx (z : Nat) := zoneDue z .feltStop
def targetTimeoutFx (z : Nat) := zoneDue z .targetTimeout
def heatPhaseTimeoutFx (z : Nat) := zoneDue z .heatPhase
def plenumLoopStepFx (z : Nat) := zoneDue z .plenumLoop
def plenumInvalidTimeoutFx (z : Nat) := zoneDue z .plenumInvalid
def exposureStepFx (z : Nat) := zoneDue z .exposure
def batchPhaseTimeoutFx (z : Nat) := zoneDue z .batchPhase
def siloEvaluationFx (z : Nat) := zoneDue z .silo
def weighEmptyDetectFx (z : Nat) := zoneDue z .weighEmpty
def weighPhaseTimeoutFx (z : Nat) := zoneDue z .weighPhase

/-! Commands. -/

/-- The unlatched causes (R320). -/
def unlatched : BitVec 9 := 0x10D

/-- ZONE_START (R319, R347). -/
def zoneStartH (_ : Org) (b : List Byte) (s : State) : Res :=
  let z := g1 b 0
  let q := zone s z
  if z > 15 || !zeroAt b 1 3 then .done sBADOBJ [] s
  else if !zonePresent s z then .done sNOTFOUND [] s
  else if !(permOpen s z).isEmpty then .done sWRONGMODE [] s
  else
    let s1 := modZone z (fun q => { q with stopAsked := false })
      (onPower (fun p => { p with noAutostart := p.noAutostart.filter (· != z) }) s)
    if q.st = 0 then .done sOK [] (zonesEval (startZone z s1))
    else if q.st = 4 && q.causes != 0 && q.causes &&& unlatched = 0 then .done sOK [] (zonesEval (startSeq z s1))
    else .done sWRONGMODE [] s

/-- ZONE_STOP (R319, R347). -/
def zoneStopH (_ : Org) (b : List Byte) (s : State) : Res :=
  let z := g1 b 0
  if z > 15 || g1 b 1 > 1 || !zeroAt b 2 2 then .done sBADOBJ [] s
  else if !zonePresent s z then .done sNOTFOUND [] s
  else .done sOK [] (if g1 b 1 = 1 then stopNow z s else zonesEval (stopOrderly z s))

/-- v0–v5 of ZONE_STATUS (R348). -/
def zoneValues (s : State) (z : Nat) : List Int :=
  let q := zone s z
  let b := zb s z
  let valve := nowUa s (stnTerm s (zValve s z))
  match zoneType s z with
  | 1 => [q.column.r, (felt s (zoneFelt s z)).rate, roundRat (q.column.lastPred * 1000), roundRat (q.column.b * 1000),
          valueOf s (plenumStn s z), valve]
  | 2 => [valueOf s (g2 b 72), valueOf s (g2 b 74), valueOf s (plenumStn s z), valve,
          ((s.sys.devTime - q.phaseAt) / 1000000000 : Nat), q.batch.batches]
  | 3 => [q.silo.mean, q.silo.hottest, q.silo.hottestIdx, q.silo.hot.length, b01 q.silo.aerating,
          (zone (siloCount z s) z).silo.runToday]
  | 4 => [q.temper.lastM, roundRat q.temper.lastW, q.temper.lastT, q.temper.doseShort, roundRat q.temper.lastMass, q.temper.dosed]
  | 5 => [(weighGross s z).getD invalidValue, (wch s (weighChan s z)).cycle, q.weigh.cycles, q.weigh.lastLoad, 0, 0]
  | _ => [0, 0, 0, 0, 0, 0]

/-- ZONE_STATUS (R348). -/
def zoneStatusH (_ : Org) (b : List Byte) (s : State) : Res :=
  let z := g1 b 0
  let q := zone s z
  if z > 15 || !zeroAt b 1 3 then .done sBADOBJ [] s
  else if !zonePresent s z then .done sNOTFOUND [] s
  else .done sOK (p1 q.st ++ p1 q.phase ++ p2 q.causes.toNat ++ p1 (zoneType s z) ++ p1 (zoneFelt s z) ++ p2 q.deckle.toNat ++
    p4 (parcels s z).length ++ p4 q.lastParcel ++ (zoneValues s z).flatMap (fun v => q4 (sField 4 v)) ++ q8 q.since) s

/-- The type a target is for (R345). -/
def targetFor (s : State) (z code : Nat) : Bool :=
  match code with
  | 0 => zoneType s z == 6 | 1 => zoneType s z == 1 | 2 => hasHeat s z | 3 => zoneType s z == 2
  | 4 => zoneType s z == 3 | 5 => zoneType s z == 4 | 6 => zoneType s z == 5 | _ => false

/-- The range of a target (R345). -/
def targetInRange (s : State) (z code n : Nat) (v : Int) : Bool :=
  let b := zb s z
  match code with
  | 0 => if isFieldOut s n then v == 0 || v == 1 else if isLoopOut s n then 3800 ≤ v && v ≤ 20500
         else 0 ≤ v && v ≤ iMax s (stnTerm s n)
  | 1 => (g4 b 68 : Int) ≤ v && v ≤ (g4 b 72 : Int)
  | 2 => lowFire s z ≤ v && v ≤ highFire s z
  | 3 => v == 0 || v == 1
  | 4 => v == 0 || v == 1
  | _ => 0 ≤ v

/-- ZONE_TARGET (R345, R347). -/
def zoneTargetH (o : Org) (b : List Byte) (s : State) : Res :=
  let z := g1 b 0
  let code := g1 b 1
  let n := g2 b 2
  let v := i4 b 4
  let q := zone s z
  if z > 15 then .done sBADOBJ [] s
  else if !zonePresent s z then .done sNOTFOUND [] s
  else if !targetFor s z code || (code != 0 && n != 0xFFFF) ||
      (code = 0 && !(n < 128 && stnZone s n == z && (isFieldOut s n || isLoopOut s n || isProp s n))) then .done sBADOBJ [] s
  else if zoneProg s z = 0 || o.side != .app || q.st = 0 || (code = 0 && q.st != 2) then .done sWRONGMODE [] s
  else if !targetInRange s z code n v then .done sLIMIT [] s
  else
    let s1 := modZone z (fun q => { q with targets := if code = 0 then q.targets else tset q.targets code v }) s
    let s2 := if code = 0 then modFld n (fun f => { f with commander := some .app }) (driveAny n v s1) else s1
    .done sOK [] (zonesEval s2)

def zoneStartFx := serve 0x0301 zoneStartH
def zoneStopFx := serve 0x0302 zoneStopH
def zoneStatusFx := serve 0x0303 zoneStatusH
def zoneTargetFx := serve 0x0304 zoneTargetH

end Sys2Proof.Machine
end

