-- ==== Sys2Proof/Machine/AbsorbFx.lean ====
section
/-! DEFINITION. Fault absorption commands and events (spec/16_fault_absorption.md R521–R539). What ends in BOOT stands in
StartFx. -/

namespace Sys2Proof.Machine

/-- CHECKPOINT: every 1 ms, in two copies (R521). -/
def checkpointFx (s : State) : State :=
  if s.sys.ready && !s.absorb.reexecuting then
    onAbsorb (fun a => { a with checkA := s.sys.devTime, checkB := s.sys.devTime }) s
  else s

/-- LOCKSTEP_MISMATCH (R522–R524). -/
def lockstepMismatchFx (diverges : Option Nat) (core0 core1 : Bool) (s : State) : State := lockstepMismatch diverges core0 core1 s

/-- What waited happens: a latched action with outcome LATE (04_felt_time.md R156); after a publication the zones follow it. -/
def lateRun : LateItem → State → State
  | .step z k, s => zoneStepRun z true k s
  | .action e, s => zonesEval (actEntry e 1 s)
  | .field n flags v t, s => zonesEval (publish n flags v 0 t s)
  | .weir n, s => weirResume n s

/-- Evver resumes: what waited happens in the order in which it fell due (R322; 16_fault_absorption.md R522). -/
def lateAll (s : State) : State :=
  s.absorb.late.foldl (fun t i => lateRun i t) (onAbsorb (fun a => { a with late := [] }) s)

/-- Evver resumes: what fell due happens in order, then the samples waited for are answered, felts that moved, output timeouts
and a clock loss act (R522; 05_weir.md R193; 09_zone_programmes.md R322; 11_field_io.md R398; 17_clocks.md R549). -/
def resumeAll (s : State) : State :=
  applyCoastDue (timeoutsDue (afterMove (weirAnswers (zonesEval (lateAll s)))))

/-- The latch releases, and the HOLD cause goes with it (R522; 01_one_view.md R40). -/
def latchReleased (s : State) : State :=
  setCause 5 false (onAbsorb (fun a => { a with reexecuting := false, latch := false, latchExpired := false }) (rebaseValves (rebaseLoops s)))

/-- Re-execution is complete: the latch releases, and what waited happens (R522). -/
def reexecutionEnds (suppressed : Nat) (s : State) : State :=
  let a := s.absorb
  note 0x0F50 [(a.latchSince - max a.checkA a.checkB) / 1000, (s.sys.devTime - a.latchSince) / 1000, suppressed]
    (resumeAll (latchReleased s))

/-- LATCH_EXPIRED, 9.5 ms to 10.5 ms after the latch engaged: programmed safe states, and the HOLD is an ordinary one from
now on (R40, R525, R541). -/
def latchExpiredFx (s : State) : State :=
  let held := s.sys.devTime - s.absorb.latchSince
  if !s.absorb.latch || s.absorb.latchExpired || s.power.lastGasp || held < 9500000 then s
  else
    let s1 := onAbsorb (fun a => { a with latchExpired := true, latchExpiries := w32 (a.latchExpiries + 1) }) s
    holdEffects (noteFault 0x0F54 [held / 1000] s1)

/-- CELL_CHECK_FAILED: checks 1 modulator, 2 filter, 3 excitation (R527). -/
def cellCheckFailedFx (bank cell check : Nat) (s : State) : State := cellFails bank cell check s

/-- SHADOW_CHECK of a bank's next primary; check 4 (R527). -/
def shadowCheckFx (bank : Nat) (differ primaryBad spareBad : Bool) (s : State) : State :=
  if bank > 3 || !spareReady s bank then s
  else
    let c := (tfind s.absorb.shadowNext bank).getD 0
    let s1 := onAbsorb (fun a => { a with shadowNext := tset a.shadowNext bank ((c + 1) % 8) }) s
    if !differ then s1
    else
      let s2 := if spareBad then cellFails bank 8 4 s1 else s1
      if primaryBad then cellFails bank c 4 s2 else s2

/-- MEMORY_SCRUB: the regions in which errors were corrected, DRAM by page and NOR by line address, with their counts
(R528, R529). -/
def memoryScrubFx (mem : Nat) (fixes : List (Nat × Nat)) (s : State) : State :=
  let old := if mem = 4 then s.absorb.norScrubs else s.absorb.pageScrubs
  let s1 := onAbsorb (fun a =>
    if mem = 4 then { a with norScrubs := [] }
    else if mem ≤ 1 then
      { a with pageScrubs := a.pageScrubs.filter (fun e => e.1 / 16777216 != mem) }
    else a) s
  fixes.foldl (fun t e => scrubbed mem e.1 e.2 old t) s1

/-- PARALLEL_SHARE_LOW: a channel of a group that is on carries less than half of its share (R531). -/
def parallelShareLowFx (station chan share : Nat) (s : State) : State :=
  let ts := stnTerms s station
  if outOn s station && 1 < ts.length && ts.contains chan && share < 50 then note 0x0F68 [station, chan, share] s else s

/-! Ageing. -/

/-- Wear fraction of an indicator that the device takes from its own state, 10⁻⁶; the others come with their readings
(R533). A quotient whose divisor is 0 is a free value. -/
def ownWear (s : State) (i : Nat) : Option Int :=
  let frac (a b : Rat) : Int := roundRat (ratDiv (a * 1000000) b)
  if i = 0 then (age s 0).base.map (fun (c0 : Nat) =>
    frac ((c0 : Rat) - (s.power.capUf : Rat)) ((c0 : Rat) - max 1000 ((c0 : Rat) * 8 / 10)))
  else if i = 1 then (age s 1).base.map (fun (v0 : Nat) => frac ((v0 : Rat) - (s.power.vbat : Rat) / 1000) ((v0 : Rat) - 2400))
  else if i = 8 then some (s.absorb.junction / 360000000000 : Nat)
  else if i = 7 then
    some (((List.range 4).filter (fun b => !spareReady s b)).length * 250000)
  else if 10 ≤ i && i ≤ 21 then
    let co := coil s (i - 10)
    let ch := chn s (i - 10)
    let drift : Rat :=
      if ch.kinkRef.isNone || ch.kinks.length < 64 then 0
      else 4 * absRat (ratDiv ((ch.kinks.sum : Int) - (ch.kinkSum : Int) : Int) (ch.kinkSum : Nat))
    some (roundRat (1000000 * max (((co.worn + (co.pulses : Int) : Int) : Rat) / 2000000000)
      (max ((co.clampTotal - co.clampWorn) / 20000000) drift)))
  else if i = 54 && !s.engine.cInt.isEmpty then
    (decibels (cGet s.engine.cInt 200)).map (fun (d : Rat) => roundRat (absRat d * 2000000))
  else none

/-- Wear fraction of an indicator at its daily sample: what the device counts itself, and the reading `r` of what it measures
elsewhere; of the NOR and of a field channel the greater of the two (R533). -/
def wearOf (s : State) (i : Nat) (r : Option Int) : Option Int :=
  let a := s.absorb
  if i = 4 then some (a.mramDay * 10000)
  else if i = 5 then some (a.dramDay * 1000)
  else if i = 6 then
    some (if a.core != 0 then 1000000 else (a.mismatchDays.filter (fun d => decide (dayOf s.sys.calTime < d + 30))).length * 100000)
  else if i = 2 then some (max ((a.norErases.foldl (fun m e => max m e.2) 0) * 10 : Nat) (r.getD 0))
  else if 22 ≤ i && i ≤ 53 then some (max ((tget a.switchings (i - 22) : Nat) / 10) (r.getD 0))
  else match ownWear s i with
    | some w => some w
    | none => r

/-- AGEING_DAILY: the samples of the day wait for the store AGE_RECORD (R533–R535). -/
def ageingDailyFx (ws : List (Nat × Int)) (s : State) : State :=
  let day := (List.range 55).filterMap (fun i => (wearOf s i ((ws.find? (fun e => e.1 == i)).map (·.2))).map (fun w => (i, w)))
  requestStore .ageRecord (onAbsorb (fun a =>
    { a with
      daily := a.daily ++ [(s.sys.calTime, day)], mramDay := 0, dramDay := 0,
      mismatchDays := a.mismatchDays.filter (fun d => decide (dayOf s.sys.calTime < d + 30)) }) s)

/-- ABS_STATUS. -/
def absStatusH (_ : Org) (_ : List Byte) (s : State) : Res :=
  let a := s.absorb
  .done sOK (p1 a.core ++ p1 (maskOf (List.range 4) (spareReady s)) ++ zeros 2 ++ p4 a.mismatches ++ p4 a.divergences ++
    p4 a.latchExpiries ++ p4 a.substitutions ++ p4 a.eccDram ++ p4 a.eccSram ++ p4 a.eccNor ++ p4 a.eccMram ++
    p4 a.uncorrAbsorbed ++ p4 a.uncorrUnabsorbed ++ p4 a.storeRetries ++ p4 a.pagesRetired ++ zeros 4) s

/-- AGE_READ. -/
def ageReadH (_ : Org) (b : List Byte) (s : State) : Res :=
  let i := g1 b 0
  if i > 54 || !zeroAt b 1 3 then .done sBADOBJ [] s
  else
    let x := age s i
    .done sOK (p1 i ++ p1 (b01 (isStep i) + b01 x.rebased * 2 + b01 (x.days < 90) * 4 + b01 (1000000 ≤ x.w) * 8) ++ p2 x.samples.length ++
      p4 (uField 4 x.w) ++ q4 x.slope ++ p2 x.days ++ p2 x.daysLo ++ p2 x.daysHi ++ zeros 2 ++ q8 x.lastSample ++ zeros 4) s

/-- AGE_REBASE: its commit point is the store (R539). -/
def ageRebaseH (o : Org) (b : List Byte) (s : State) : Res :=
  let i := g1 b 0
  if !(i ≤ 1 || (10 ≤ i && i ≤ 21)) || !zeroAt b 1 3 then .done sBADOBJ [] s
  else if canStore (.ageRebase o i) s then .later (requestStore (.ageRebase o i) (addJob { org := o, a := i } s))
  else .done sNOENERGY [] (requestStore (.ageRebase o i) s)

/-- The store of an AGE_REBASE is done: the indicator starts again from a new base (R536). -/
def rebased (o : Org) (i : Nat) (s : State) : State :=
  let base : Nat := if i = 0 then s.power.capUf else if i = 1 then (s.power.vbat / 1000).toNat else 0
  let s1 := modAge i (fun _ => { rebased := true, base := if i ≤ 1 then some base else none }) (commitJob o s)
  let s2 := if i ≥ 10 then
      modCoil (i - 10) (fun k => { k with worn := -(k.pulses : Int), clampWorn := k.clampTotal })
        (modChan (i - 10) (fun k => { k with kinks := [], kinkSum := 0, kinkCount := 0, kinkRef := none, driftSaid := false }) s1)
    else s1
  finish o sOK [] (noteBy o.side 0x0F82 [i, sideCode o.side, base] s2)

def absStatusFx := serve 0x0F50 absStatusH
def ageReadFx := serve 0x0F51 ageReadH
def ageRebaseFx := serve 0x0F52 ageRebaseH

end Sys2Proof.Machine
end

