-- ==== Sys2Proof/Machine/ExecAbsorb.lean ====
section
/-! DEFINITION. The meanings of the rows of AbsorbFx.lean: each row's effect, then what follows every effect. -/

namespace Sys2Proof.Machine

/-- CHECKPOINT (R521). -/
def execCheckpoint (s : State) : Out := settle s (checkpointFx s)

/-- LOCKSTEP_MISMATCH (R522). -/
def execLockstepMismatch (diverges : Option Nat) (core0 core1 : Bool) (s : State) : Out := settle s (lockstepMismatchFx diverges core0 core1 s)

/-- LATCH_EXPIRED (R525). -/
def execLatchExpired (s : State) : Out := settle s (latchExpiredFx s)

/-- CELL_CHECK_FAILED (R527). -/
def execCellCheckFailed (bank cell check : Nat) (s : State) : Out := settle s (cellCheckFailedFx bank cell check s)

/-- SHADOW_CHECK (R527). -/
def execShadowCheck (bank : Nat) (differ primaryBad spareBad : Bool) (s : State) : Out := settle s (shadowCheckFx bank differ primaryBad spareBad s)

/-- MEMORY_SCRUB (R528). -/
def execMemoryScrub (memory : Nat) (fixes : List (Nat × Nat)) (s : State) : Out := settle s (memoryScrubFx memory fixes s)

/-- PARALLEL_SHARE_LOW (R531). -/
def execParallelShareLow (station chan share : Nat) (s : State) : Out := settle s (parallelShareLowFx station chan share s)

/-- ABS_STATUS (R538). -/
def execAbsStatus (r : Req) (s : State) : Out := settle s (absStatusFx r s)

/-- AGE_READ (R539). -/
def execAgeRead (r : Req) (s : State) : Out := settle s (ageReadFx r s)

/-- AGE_REBASE (R536). -/
def execAgeRebase (r : Req) (s : State) : Out := settle s (ageRebaseFx r s)

/-- AGEING_DAILY (R534). -/
def execAgeingDaily (ws : List (Nat × Int)) (s : State) : Out := settle s (ageingDailyFx ws s)

end Sys2Proof.Machine
end

