-- ==== Sys2Proof/Machine/BusFx.lean ====
section
/-! DEFINITION. Effects of the priority bus rows (spec/12_priority_bus.md R424–R449). -/

namespace Sys2Proof.Machine

/-- Data lengths of a frame (R420). -/
def lenOf (fd : Bool) (n : Nat) : Bool := n ≤ 8 || (fd && [12, 16, 20, 24, 32, 48, 64].contains n)

/-- The identifier word is in range. -/
def identOk (w : Nat) : Bool := w / 536870912 % 4 == 0 && (identExt w || identBits w < 2048)

/-- A frame is accepted: its handle, and the answer of R444. -/
def accept (c : Nat) (f : TxFrame) (s : State) : Res :=
  let h := s.bus.nextHandle
  let t := effChan s c
  let s1 := onBus (fun b => { b with nextHandle := b.nextHandle % 4294967295 + 1 }) s
  let g := { f with handle := h }
  let s2 := if g.what = 1 then sendObj c g.slot g s1 else putFrame t g s1
  .done (if (ch s t).st = 4 || (ch s t).st = 5 then sDEFERRED else sOK) (p4 h ++ p1 t ++ zeros 3) s2

/-- BUS_SEND (R444). -/
def busSendH (o : Org) (b : List Byte) (s : State) : Res :=
  let c := g1 b 0
  let k := g1 b 1
  let fmt := g1 b 2
  let len := g1 b 3
  let w := g4 b 4
  let t := effChan s c
  let data := slice b 16 len
  let f : TxFrame :=
    { side := some o.side, cookie := g4 b 8, report := g1 b 12 == 1, home := c, fmt := fmt, ident := identBits w,
      ext := identExt w, data := data, moved := t != c, accepted := s.sys.devTime }
  if c > 3 || g1 b 12 > 1 || !zeroAt b 13 3 || fmt > 3 then .done sBADOBJ [] s
  else if b.length != 16 + len then .done sBADLEN [] s
  else if !chOn s c || (ch s c).st = 0 || listenOnly s c then .done sWRONGMODE [] s
  else if objMode s c then
    match objEntry s c k with
    | none => .done sNOTFOUND [] s
    | some e =>
      if !entSend e then .done sNOTFOUND [] s
      else if g1 e 14 = 1 then .done sWRONGMODE [] s
      else if fmt != 0 || w != 0 then .done sBADOBJ [] s
      else if len != entLen e then .done sBADLEN [] s
      else if objPending s c k then .done sBUSY [] s
      else accept c { f with what := 1, slot := k } (modObj k (fun x => { x with data := data }) s)
  else if k != 0xFF || !identOk w || (bitOf fmt 0 && !chFd s c) || (bitOf fmt 1 && !bitOf fmt 0) ||
      (ownIdents s c).contains w then .done sBADOBJ [] s
  else if !lenOf (bitOf fmt 0) len then .done sBADLEN [] s
  else if (buffered s t).length ≥ 3 then .done sBUSY [] s
  else accept c f s

/-- BUS_TX_WAIT (R445). -/
def busTxWaitH (o : Org) (_ : List Byte) (s : State) : Res := .later (addJob { org := { o with bg := true } } s)

def rxEntry (f : CanFrame) : List Byte :=
  p4 (identWord f.ident f.ext) ++ p1 f.fflags.toNat ++ p1 f.data.length ++ p1 f.chan ++ zeros 1 ++ p8 f.eof ++ p8 f.sof ++
    p4 f.seq ++ zeros 4 ++ fit 64 f.data

/-- A waiting BUS_RX_WAIT of a side is answered once its queue is non-empty (R446). -/
def serveRxWait (d : Side) (s : State) : State :=
  let q := tget s.bus.queues (sideIx d)
  match (waitingJobs s 0x0B05).find? (fun j => j.org.side == d) with
  | some j =>
    if q.rx.isEmpty then s
    else finish j.org sOK (p2 (min q.rx.length 64) ++ p2 (min q.rxLost 65535) ++ zeros 4 ++ (q.rx.take 64).flatMap rxEntry)
        (onBus (fun b => { b with queues := tset b.queues (sideIx d) { q with rx := q.rx.drop 64, rxLost := 0 } }) s)
  | none => s

/-- BUS_RX_WAIT (R446). -/
def busRxWaitH (o : Org) (_ : List Byte) (s : State) : Res := .later (addJob { org := { o with bg := true } } s)

/-- BUS_SUBSCRIBE (R429, R446). -/
def busSubscribeH (o : Org) (b : List Byte) (s : State) : Res :=
  let w := g4 b 4
  let h := s.bus.nextSub
  if g1 b 0 > 3 || g1 b 1 > 1 || g2 b 2 != 0 || !identOk w then .done sBADOBJ [] s
  else if (s.bus.subs.filter (fun x => x.side == o.side)).length ≥ 64 || s.bus.subs.length ≥ 256 then .done sLIMIT [] s
  else
    let x : Sub :=
      { handle := h, side := o.side, chan := g1 b 0, own := g1 b 1 == 1, ident := identBits w, ext := identExt w, mask := g4 b 8 }
    .done sOK (p4 h) (onBus (fun u => { u with subs := u.subs ++ [x], nextSub := u.nextSub % 4294967295 + 1 }) s)

/-- BUS_UNSUBSCRIBE (R446). -/
def busUnsubscribeH (o : Org) (b : List Byte) (s : State) : Res :=
  let p := fun (x : Sub) => x.handle == g4 b 0 && x.side == o.side
  if s.bus.subs.any p then .done sOK [] (onBus (fun u => { u with subs := u.subs.filter (fun x => !p x) }) s)
  else .done sNOTFOUND [] s

/-- BUS_OBJ_READ (R447). -/
def busObjReadH (_ : Org) (b : List Byte) (s : State) : Res :=
  let k := g1 b 0
  let x := tget s.bus.objs k
  if !zeroAt b 1 3 then .done sBADOBJ [] s
  else match objChan s k with
    | none => .done sNOTFOUND [] s
    | some c =>
      match objEntry s c k with
      | some e =>
        if entSend e then .done sNOTFOUND [] s
        else .done sOK (p1 (b01 x.isNew + b01 x.overwritten * 2) ++ zeros 7 ++ rxEntry x.frame)
          (modObj k (fun x => { x with isNew := false, overwritten := false }) s)
      | none => .done sNOTFOUND [] s

/-- BUS_STATUS (R449). -/
def busStatusH (_ : Org) (b : List Byte) (s : State) : Res :=
  let c := g1 b 0
  let k := ch s c
  if c > 3 || !zeroAt b 1 3 then .done sBADOBJ [] s
  else .done sOK (p1 k.st ++ p1 (min k.tec 255) ++ p1 (min k.rxErr 255) ++ p1 (k.failedTo.getD 0xFF) ++
    p1 (uField 1 (k.pending.length + k.overflow.length : Nat)) ++ p1 (k.master.getD 0xFF) ++ p1 (min k.tdcNs 255) ++ zeros 1 ++
    q8 k.masterOffset ++ p4 k.rxFrames ++ p4 k.overruns ++ p4 k.busoffs ++ p4 k.late ++
    p8 (sofAt c s.sys.devTime) ++ p8 s.sys.devTime) s

/-- Moved frames and objects return to their own channel; a frame already in arbitration on the partner finishes there (R433). -/
def failBack (c : Nat) (s : State) : State :=
  match (ch s c).failedTo with
  | none => s
  | some t =>
    let goes := fun (f : TxFrame) => f.home == c && !onWireNow s t f
    let mine := ((ch s t).pending ++ (ch s t).overflow).filter goes
    let s1 := drawn 1 (modCh t (fun k =>
      { k with
        pending := (k.pending.filter (fun f => !goes f)).map (fun f => { f with onWire := f.onWire || f.home == c }),
        overflow := k.overflow.filter (fun f => !goes f) }) s)
    let s2 := mine.foldl (fun u f => putFrame c { f with moved := false } u) (modCh c (fun k => { k with failedTo := none }) s1)
    note 0x0B24 [c, mine.length] (refill t s2)

/-- BUS_RECOVER (R448). -/
def busRecoverH (_ : Org) (b : List Byte) (s : State) : Res :=
  let c := g1 b 0
  let act := g1 b 1
  if c > 3 || act > 1 || g2 b 2 != 0 then .done sBADOBJ [] s
  else if act = 0 then
    if (ch s c).st != 4 then .done sWRONGMODE [] s
    else .done sOK [] (modCh c (fun k => { k with st := 5, recoverCause := 2 }) s)
  else if (ch s c).st != 1 || (ch s c).failedTo.isNone then .done sWRONGMODE [] s
  else .done sOK [] (failBack c s)

/-- BUS_CANCEL; a frame in arbitration that it wins counts as sent (R447). -/
def busCancelH (_ : Org) (b : List Byte) (s : State) : Res :=
  let h := g4 b 0
  let p := fun (f : TxFrame) => f.handle == h && h != 0
  match firstNat 4 (fun c => ((ch s c).pending ++ (ch s c).overflow).any p) with
  | none => .done sNOTFOUND [] s
  | some c =>
    let fs := ((ch s c).pending ++ (ch s c).overflow).filter p
    let s1 := drawn 1 (modCh c (fun k =>
      { k with
        pending := k.pending.filter (fun f => !p f), overflow := k.overflow.filter (fun f => !p f) }) s)
    if fs.any (onWireNow s c) then
      .done sNOTFOUND [] (drawn 1 (modCh c (fun k =>
        { k with pending := k.pending.map (fun f => if p f then { f with onWire := true } else f) }) s))
    else .done sOK [] (refill c (fs.foldl (fun t f => txOutcome f sABORTED c 0 0 t) s1))

def busSendFx := serve 0x0B01 busSendH
def busTxWaitFx (r : Req) (s : State) : State := serveTxWait r.side (serve 0x0B02 busTxWaitH r s)
def busSubscribeFx := serve 0x0B03 busSubscribeH
def busUnsubscribeFx := serve 0x0B04 busUnsubscribeH
def busRxWaitFx (r : Req) (s : State) : State := serveRxWait r.side (serve 0x0B05 busRxWaitH r s)
def busObjReadFx := serve 0x0B06 busObjReadH
def busStatusFx := serve 0x0B07 busStatusH
def busRecoverFx := serve 0x0B08 busRecoverH
def busCancelFx := serve 0x0B09 busCancelH

/-- A channel and those failed over to it. -/
def carried (s : State) (c : Nat) : List Nat := c :: (List.range 4).filter (fun x => (ch s x).failedTo == some c)

/-- Whether a frame carries the identifier of one of this device's own frames (R434). -/
def carriesOwn (s : State) (c w : Nat) : Bool :=
  (carried s c).any (fun x => (ownIdents s x).contains w ||
    (objMode s x && (objEntries s x).any (fun e => entSend e && entIdent e == w)))

/-- A frame matches the STILL wake settings of its channel (R442). -/
def wakesStill (s : State) (c w dlc : Nat) : Bool :=
  let b := chBody s c
  bitOf (g1 b 40) 0 && identExt (g4 b 44) == identExt w && (identBits w ^^^ identBits (g4 b 44)) &&& g4 b 48 == 0 && dlc == g1 b 41

/-- DLC of a data length. -/
def dlcOf (n : Nat) : Nat :=
  if n ≤ 8 then n else match n with | 12 => 9 | 16 => 10 | 20 => 11 | 24 => 12 | 32 => 13 | 48 => 14 | _ => 15

/-- A frame enters the receive ring of its channel, 1,024 deep (R427, R428). -/
def ringFrame (c w : Nat) (fflags : BitVec 8) (data : List Byte) (start eof : Nat) (s : State) : State :=
  let k := ch s c
  let fr : CanFrame :=
    { ident := identBits w, ext := identExt w, fflags := if k.ringLost > 0 then fflags ||| 0x20 else fflags,
      data := data.take 64, eof := eof, sof := sofAt c start, seq := w32 (k.rxFrames + 1), chan := c }
  if k.ring.length < 1024 then
    modCh c (fun k => { k with ring := k.ring ++ [fr], ringLost := 0, rxFrames := w32 (k.rxFrames + 1) }) s
  else note 0x0B11 [c, k.ringLost + 1] (modCh c (fun k =>
    { k with ringLost := k.ringLost + 1, overruns := w32 (k.overruns + 1), rxFrames := w32 (k.rxFrames + 1) }) s)

/-- CAN_FRAME_RECEIVED: a frame of another node enters the receive ring; its identifier is watched, and in STILL it may wake
the device (R427, R434, R442). -/
def canFrameReceivedFx (c : Nat) (f : CanIn) (s : State) : State :=
  if c > 3 || !busUp s c || (ch s c).st = 0 then s
  else
    let s1 := ringFrame c f.ident (f.fflags.setWidth 8) f.data f.start f.eof s
    let s2 := if carriesOwn s c f.ident then note 0x0B32 [c, identBits f.ident] s1 else s1
    if s.sys.mode = .still && wakesStill s c f.ident (dlcOf f.data.length) then wakeFrom 1 s2 else s2

/-- A frame matches a subscription (R429). -/
def subMatch (x : Sub) (f : CanFrame) : Bool :=
  x.ext == f.ext && (f.ident ^^^ x.ident) &&& x.mask == 0 && (x.own || !f.fflags.getLsbD 4)

/-- One drained frame: receive objects, and each side's queue once (R429, R430). -/
def deliver (c : Nat) (f : CanFrame) (s : State) : State :=
  let s1 := (objEntries s c).foldl (fun u e =>
      if !entSend e && identExt (entIdent e) == f.ext && (f.ident ^^^ identBits (entIdent e)) &&& g4 e 8 == 0 then
        modObj (g1 e 0) (fun o => { o with overwritten := o.overwritten || o.isNew, isNew := true, frame := f }) u
      else u) s
  let sides := (s.bus.subs.filter (fun x => (carried s c).contains x.chan && subMatch x f)).map (·.side)
  sides.eraseDups.foldl (fun t d =>
    let q := tget t.bus.queues (sideIx d)
    if q.rx.length < 512 then
      serveRxWait d (onBus (fun b => { b with queues := tset b.queues (sideIx d) { q with rx := q.rx ++ [f] } }) t)
    else note 0x0B12 [sideCode d, q.rxLost + 1]
      (onBus (fun b => { b with queues := tset b.queues (sideIx d) { q with rxLost := q.rxLost + 1 } }) t)) s1

/-- RX_RING_DRAIN: every 1 ms Evver drains a ring; not during re-execution, nor in ICE, where it does not run (R427). -/
def rxRingDrainFx (c : Nat) (s : State) : State :=
  if s.absorb.reexecuting || s.sys.mode = .ice then s
  else (ch s c).ring.foldl (fun t f => deliver c f t) (modCh c (fun k => { k with ring := [] }) s)

/-- Moves every pending frame and every object to the partner, highest priority first (R432). Frames and objects of the partner
that were here are at home again. -/
def failOver (c t : Nat) (s : State) : State :=
  let fs := sortBy (fun a b => decide (prioKey a ≤ prioKey b)) ((ch s c).pending ++ (ch s c).overflow)
  let n := fs.length + ((objEntries s c).filter (fun e => entSend e && !(objPending s c (g1 e 0)))).length
  let s1 := modCh t (fun k => { k with failedTo := if k.failedTo = some c then none else k.failedTo })
    (modCh c (fun k => { k with pending := [], overflow := [], failedTo := some t }) s)
  note 0x0B21 [c, t, n] (fs.foldl (fun u f => putFrame t { f with moved := f.home != t, onWire := false } u) s1)

/-- BUS_OFF: entry to bus-off (R431, R432). DESIGN CHOICE: a LISTEN_ONLY partner, which sends nothing, takes over nothing (R441;
notes/assumptions/173.md). A channel that failed over recovers on its own too, where auto_recover says so
(notes/assumptions/153.md). -/
def busOffFx (c : Nat) (s : State) : State :=
  let k := ch s c
  let p := partnerOf s c
  if c > 3 || !busUp s c || k.st = 0 || k.st ≥ 4 || listenOnly s c then s
  else
    let s1 := note 0x0B22 [c, k.pending.length + k.overflow.length] (modCh c (fun k =>
      { k with st := 4, tec := 256, busoffs := w32 (k.busoffs + 1), busOffAt := s.sys.devTime }) s)
    let s2 := (k.pending ++ k.overflow).foldl (fun t f => txOutcome f sDEFERRED c 0 0 t) s1
    let s3 := if p < 4 && chOn s p && !listenOnly s p && (ch s p).st != 0 && (ch s p).st < 4 then failOver c p s2 else s2
    if autoRecover s c then modCh c (fun k => { k with st := 5, recoverCause := 1 }) s3 else s3

/-- A bit error in an own frame: three with one identifier within 1 s are a duplicate's signature (R434). -/
def bitErrorSeen (c w : Nat) (s : State) : State :=
  let l := (w, s.sys.devTime) :: (ch s c).bitErrors.filter (fun e => s.sys.devTime < e.2 + 1000000000)
  let n := (l.filter (fun e => e.1 == w)).length
  if 3 ≤ n then note 0x0B31 [c, identBits w, n] (modCh c (fun k => { k with bitErrors := l.filter (fun e => e.1 != w) }) s)
  else modCh c (fun k => { k with bitErrors := l }) s

/-- CAN_ERROR_STATE_CHANGE: error counters, and the bit errors of R434. A transmit counter above 255 is bus-off (R431). -/
def canErrorStateChangeFx (c tec rec : Nat) (bitError : Option Nat) (s : State) : State :=
  let k := ch s c
  let st := if tec > 127 || rec > 127 then 3 else if tec ≥ 96 || rec ≥ 96 then 2 else 1
  if c > 3 || !busUp s c || k.st = 0 || k.st ≥ 4 || listenOnly s c then s
  else
    let s1 := match bitError with | some w => bitErrorSeen c w s | none => s
    if tec > 255 then busOffFx c (modCh c (fun k => { k with rxErr := rec }) s1)
    else
      let s2 := modCh c (fun k =>
        { k with tec := tec, rxErr := rec, st := st, activeSince := if st = 1 && k.st != 1 then s.sys.devTime else k.activeSince }) s1
      if st != k.st && st != 1 then note 0x0B20 [c, st, tec, rec] s2 else s2

/-- BUSOFF_RECOVERY_DONE: the channel is ERROR_ACTIVE again (R432). -/
def busoffRecoveryDoneFx (c : Nat) (s : State) : State :=
  let k := ch s c
  if k.st != 5 then s
  else note 0x0B23 [c, nsMs (s.sys.devTime - k.busOffAt), k.recoverCause]
    (modCh c (fun k => { k with st := 1, tec := 0, rxErr := 0, activeSince := s.sys.devTime }) s)

/-- FAILBACK: a recovered channel has been ERROR_ACTIVE for 10 s (R433). -/
def failbackFx (c : Nat) (s : State) : State :=
  if autoFailback s c && (ch s c).st = 1 && (ch s c).activeSince + 10000000000 ≤ s.sys.devTime then failBack c s else s

/-- FRAME_SEND_TIMEOUT: not sent within 10 s of its acceptance on an error-active channel; the frame stays pending, and the
outcome is given once (R426). -/
def frameSendTimeoutFx (c h : Nat) (s : State) : State :=
  let p := fun (f : TxFrame) =>
    f.handle == h && h != 0 && !f.late && decide (f.accepted + 10000000000 ≤ s.sys.devTime)
  let mark := fun (f : TxFrame) => if p f then { f with late := true } else f
  if (ch s c).st = 0 || (ch s c).st > 2 then s
  else match ((ch s c).pending ++ (ch s c).overflow).find? p with
    | some f => txOutcome f sTIMEOUT c 0 0
        (modCh c (fun k => { k with pending := k.pending.map mark, overflow := k.overflow.map mark }) s)
    | none => s

/-- PERIODIC_SEND: a periodic send object falls due (R425). -/
def periodicSendFx (c k : Nat) (s : State) : State :=
  match objEntry s c k with
  | none => s
  | some e =>
    if !busUp s c || (ch s c).st = 0 || !entSend e || g2 e 12 = 0 then s
    else if objPending s c k then modCh c (fun x => { x with late := x.late + 1 }) s
    else sendObj c k {} s

/-- Felts published on a channel are latched with their flags, and remote felts that follow one on it note how far they have
come (R438). -/
def latchFelts (c : Nat) (s : State) : State :=
  let k := ch s c
  let told := (k.jumpedSince ++ k.jumpedTold).eraseDups
  let fs := (List.range 8).filter (fun f => !(bodyOf s 4 f).isEmpty && bitOf (g1 (bodyOf s 4 f) 40) c)
  let rows := fs.map (fun f =>
    let x := tget s.felt.felts f
    (f, b01 (x.state.getLsbD 1) + b01 (x.state.getLsbD 3) * 2 + b01 (x.state.getLsbD 6) * 4 + b01 (told.contains f) * 8, x.pos,
      x.rate))
  let s1 := modCh c (fun k => { k with latched := rows, jumpedSince := [], jumpedTold := told }) s
  [6, 7].foldl (fun t f =>
    if g1 (bodyOf s 4 f) 0 = 4 && g1 (bodyOf s 4 f) 25 = c then
      onFelt (fun x => { x with felts := tmod x.felts f (fun y => { y with advRef := some y.advanced }) }) t
    else t) s1

/-- Next FD length that holds `n` bytes. -/
def fdLen (n : Nat) : Nat := ([0, 1, 2, 3, 4, 5, 6, 7, 8, 12, 16, 20, 24, 32, 48].find? (fun l => n ≤ l)).getD 64

/-- An internal frame of a channel that is still pending is withdrawn (R438). -/
def dropInternal (what c t : Nat) (s : State) : State :=
  modCh t (fun k => { k with pending := k.pending.filter (fun g => !(g.what == what && g.home == c)) }) s

/-- The felt reference message of the cycle (R438); one still pending is dropped and replaced. -/
def sendFeltRef (c : Nat) (s : State) : State :=
  let k := ch s c
  let t := effChan s c
  let body := p1 (plantAddr s) ++ p1 k.cycle ++ p1 k.latched.length ++ zeros 1 ++
    k.latched.flatMap (fun e => p1 e.1 ++ p1 e.2.1 ++ p4 e.2.2.1 ++ q4 e.2.2.2)
  let w := feltIdent s c + plantAddr s
  let f : TxFrame :=
    { home := c, what := 3, fmt := 1, ident := identBits w, ext := identExt w, data := fit (fdLen body.length) body,
      moved := t != c, accepted := s.sys.devTime }
  if k.latched.isEmpty then s else pend t f (dropInternal 3 c t s)

/-- The time master of a channel changes (R437). -/
def setMaster (c addr prio : Nat) (s : State) : State :=
  if (ch s c).master = some addr then s
  else note 0x0B30 [c, addr, prio] (modCh c (fun k => { k with master := some addr }) s)

/-- REFERENCE_MESSAGE_SEND: this device, a potential time master, sends its reference message (R436, R437). -/
def referenceMessageSendFx (c : Nat) (s : State) : State :=
  let k := ch s c
  let t := effChan s c
  let cyc := if k.sending || k.prevEof.isSome then (k.cycle + 1) % 64 else k.cycle
  let w := refIdent s c + masterPrio s c
  let f : TxFrame :=
    { home := c, what := 2, fmt := 1, ident := identBits w, ext := identExt w,
      data := p1 cyc ++ p1 (plantAddr s) ++ zeros 2 ++ p8 (if k.sending then k.myPrevEof.getD 0 else 0), moved := t != c,
      accepted := s.sys.devTime }
  if c > 2 || !busUp s c || k.st = 0 || timeRole s c != 1 then s
  else setMaster c (plantAddr s) (masterPrio s c)
    (pend t f (dropInternal 2 c t
      (modCh c (fun k => { k with sending := true, cycle := cyc, masterIdent := w, masterOffset := 0 }) s)))

/-- The transmitter loop delay measured in an FD frame sent with tdc set; an integrated transceiver has 90 to 160 ns
(R423, R449; notes/assumptions/153.md). -/
def measureDelay (c : Nat) (f : TxFrame) (s : State) : State :=
  let ns := if c < 2 then 90 + Config.freeNat s.fresh % 71 else Config.freeNat s.fresh
  if g1 (chBody s c) 14 = 1 && bitOf f.fmt 0 then drawn 1 (modCh c (fun k => { k with tdcNs := ns }) s) else s

/-- CAN_FRAME_SENT: the frame that the channel offered when it started was sent and acknowledged; it enters the receive ring as
an own frame (R424–R428, R438, R440). -/
def canFrameSentFx (c start eof : Nat) (s : State) : State :=
  let k := ch s c
  match offered s c start with
  | none => s
  | some f =>
    if !busUp s c || k.st = 0 || k.st ≥ 4 || listenOnly s c then s
    else
      let bits : BitVec 8 := BitVec.ofNat 8 (f.fmt % 4 + b01 (k.st == 3 && bitOf f.fmt 0) * 4 + 0x10)
      let s1 := refill c (modCh c (fun k => { k with pending := k.pending.erase f }) s)
      let s2 := txOutcome f sOK c eof (sofAt c start)
        (measureDelay c f (ringFrame c (identWord f.ident f.ext) bits f.data start eof s1))
      if f.what = 2 then
        sendFeltRef f.home (latchFelts f.home (modCh f.home (fun k => { k with myPrevEof := some eof, prevEof := some eof, refMissing := false }) s2))
      else if f.what = 3 then modCh f.home (fun k => { k with jumpedTold := [] }) s2
      else s2

/-- REFERENCE_MESSAGE: a reference message of another device arrives (R436–R438). A master stays so before a sender of no lower
identifier, whose message then begins no cycle (R437; notes/assumptions/153.md). Its t_prev pairs with the end of frame of the
message before it, where that was this master's and the cycle before (notes/assumptions/153.md). -/
def referenceMessageFx (c ident : Nat) (data : List Byte) (eof : Nat) (s : State) : State :=
  let k := ch s c
  let base := refIdent s c
  if c > 2 || !busUp s c || k.st = 0 || timeRole s c = 0 || ident < base || ident > base + 7 then s
  else
    let tp := g8 data 4
    let cyc := g1 data 0 % 64
    let off : Int := match k.prevEof with
      | some e => if tp != 0 && k.masterIdent = ident && cyc = (k.cycle + 1) % 64 then (tp : Int) - e else k.masterOffset
      | none => k.masterOffset
    let stays := k.sending && base + masterPrio s c ≤ ident
    if stays then modCh c (fun k => { k with refMissing := false }) s
    else
    let s1 := modCh c (fun k =>
      { k with
        masterOffset := off, prevEof := some eof, cycle := cyc, masterIdent := ident, refMissing := false, sending := false }) s
    let s2 := if k.sending then dropInternal 2 c (effChan s c) s1 else s1
    sendFeltRef c (latchFelts c (setMaster c (g1 data 1) (ident - base) s2))

/-- REFERENCE_MISSING: reference messages missing for 3 cycles (R437). -/
def referenceMissingFx (c : Nat) (s : State) : State :=
  if c > 2 || !busUp s c || (ch s c).st = 0 || timeRole s c = 0 || (ch s c).refMissing then s
  else note 0x0B33 [c, 3] (modCh c (fun k => { k with refMissing := true, master := none }) s)

end Sys2Proof.Machine
end

