-- ==== Sys2Proof/Machine/ExecBus.lean ====
section
/-! DEFINITION. The meanings of the rows of BusFx.lean: each row's effect, then what follows every effect. -/

namespace Sys2Proof.Machine

/-- CAN_FRAME_RECEIVED (R427). -/
def execCanFrameReceived (chan : Nat) (f : CanIn) (s : State) : Out := settle s (canFrameReceivedFx chan f s)

/-- RX_RING_DRAIN (R429). -/
def execRxRingDrain (chan : Nat) (s : State) : Out := settle s (rxRingDrainFx chan s)

/-- CAN_FRAME_SENT (R426). -/
def execCanFrameSent (chan start eof : Nat) (s : State) : Out := settle s (canFrameSentFx chan start eof s)

/-- CAN_ERROR_STATE_CHANGE (R431). -/
def execCanErrorStateChange (chan tec rec : Nat) (bitError : Option Nat) (s : State) : Out := settle s (canErrorStateChangeFx chan tec rec bitError s)

/-- BUS_OFF (R432). -/
def execBusOff (chan : Nat) (s : State) : Out := settle s (busOffFx chan s)

/-- BUSOFF_RECOVERY_DONE (R432). -/
def execBusoffRecoveryDone (chan : Nat) (s : State) : Out := settle s (busoffRecoveryDoneFx chan s)

/-- FAILBACK (R433). -/
def execFailback (chan : Nat) (s : State) : Out := settle s (failbackFx chan s)

/-- FRAME_SEND_TIMEOUT (R426). -/
def execFrameSendTimeout (chan handle : Nat) (s : State) : Out := settle s (frameSendTimeoutFx chan handle s)

/-- PERIODIC_SEND (R425). -/
def execPeriodicSend (chan obj : Nat) (s : State) : Out := settle s (periodicSendFx chan obj s)

/-- REFERENCE_MESSAGE_SEND (R437). -/
def execReferenceMessageSend (chan : Nat) (s : State) : Out := settle s (referenceMessageSendFx chan s)

/-- REFERENCE_MESSAGE (R436). -/
def execReferenceMessage (chan ident : Nat) (data : List Byte) (eof : Nat) (s : State) : Out := settle s (referenceMessageFx chan ident data eof s)

/-- REFERENCE_MISSING (R437). -/
def execReferenceMissing (chan : Nat) (s : State) : Out := settle s (referenceMissingFx chan s)

/-- BUS_SEND (R444). -/
def execBusSend (r : Req) (s : State) : Out := settle s (busSendFx r s)

/-- BUS_TX_WAIT (R445). -/
def execBusTxWait (r : Req) (s : State) : Out := settle s (busTxWaitFx r s)

/-- BUS_SUBSCRIBE (R446). -/
def execBusSubscribe (r : Req) (s : State) : Out := settle s (busSubscribeFx r s)

/-- BUS_UNSUBSCRIBE (R446). -/
def execBusUnsubscribe (r : Req) (s : State) : Out := settle s (busUnsubscribeFx r s)

/-- BUS_RX_WAIT (R446). -/
def execBusRxWait (r : Req) (s : State) : Out := settle s (busRxWaitFx r s)

/-- BUS_OBJ_READ (R447). -/
def execBusObjRead (r : Req) (s : State) : Out := settle s (busObjReadFx r s)

/-- BUS_STATUS (R449). -/
def execBusStatus (r : Req) (s : State) : Out := settle s (busStatusFx r s)

/-- BUS_RECOVER (R448). -/
def execBusRecover (r : Req) (s : State) : Out := settle s (busRecoverFx r s)

/-- BUS_CANCEL (R447). -/
def execBusCancel (r : Req) (s : State) : Out := settle s (busCancelFx r s)

end Sys2Proof.Machine
end

