-- ==== Sys2Proof/Machine/CfgFields.lean ====
section
/-! DEFINITION. Rule 1 of the validation of a configuration (spec/03_configuration.md R115): every field of every kind of
object in range and every reserved field zero. A check is a byte offset within the body and whether it holds. -/

namespace Sys2Proof.Machine

abbrev Chk := Nat × Bool

/-- The failure is not one field (R116). -/
def noField : Nat := 0xFFFFFFFF

def firstBad (cs : List Chk) : Option Nat := (cs.find? (fun c => !c.2)).map (·.1)

/-- Checks of a part that begins at offset `o` of its body. -/
def partAt (o : Nat) (cs : List Chk) : List Chk := cs.map (fun c => if c.1 = noField then c else (c.1 + o, c.2))

/-! One field each: `n` bytes unsigned or signed, reserved bytes, float32 numbers, station references. -/

def inB (b : List Byte) (o lo hi : Nat) : Chk := (o, lo ≤ g1 b o && g1 b o ≤ hi)
def inH (b : List Byte) (o lo hi : Nat) : Chk := (o, lo ≤ g2 b o && g2 b o ≤ hi)
def inW (b : List Byte) (o lo hi : Nat) : Chk := (o, lo ≤ g4 b o && g4 b o ≤ hi)
def inI (b : List Byte) (o : Nat) (lo hi : Int) : Chk := (o, decide (lo ≤ i4 b o) && decide (i4 b o ≤ hi))
def rsv (b : List Byte) (o n : Nat) : Chk := (o, zeroAt b o n)
def isNumber (b : List Byte) (o : Nat) : Chk := (o, (gf32 b o).isSome)
def above0 (b : List Byte) (o : Nat) : Chk := (o, (gf32 b o).isSome && decide (0 < rf32 b o))
/-- A station that has to be named; whether it exists is for rule 2. -/
def must (b : List Byte) (o : Nat) : Chk := (o, g2 b o != 0xFFFF)

def many (n : Nat) (f : Nat → Chk) : List Chk := (List.range n).map f

/-! DEVICE (R99). -/

def deviceChecks (b : List Byte) : List Chk :=
  [inB b 0 0 63, inB b 1 0 1, inH b 2 100 60000, inB b 12 0 7, rsv b 13 3, rsv b 48 16]

/-! STATION: type parts (spec/04 R146; 05 R209, R211; 06 R253; 07 R285; 08 R311; 10 R355–R358; 11 R405, R408). -/

def weirTypes : List Nat := [1, 2, 3, 4, 5, 6, 0x10]

/-- Length of a station type's part; none for a type outside R101. -/
def partLength (t : Nat) : Option Nat :=
  if weirTypes.contains t then some 160
  else if t == 0x30 || t == 0x31 then some 64
  else if [0x20, 0x21, 0x22, 0x40, 0x41, 0x42, 0x50].contains t then some 16 else none

def wiringOk (t w : Nat) : Bool :=
  match t with
  | 1 => 2 ≤ w && w ≤ 4 | 6 => 2 ≤ w && w ≤ 4 | 5 => w == 4 || w == 6 | 0x10 => w ≤ 1 | _ => w == 0

def rangesOk (t lo hi : Nat) : Bool :=
  match t with
  | 3 => (lo ≤ hi && hi ≤ 7) || (lo == 8 && hi == 8)
  | 4 => lo == 0 && hi == 0
  | 0x10 => lo == hi && hi ≤ 3
  | 2 => lo ≤ hi && hi ≤ 5
  | 5 => lo ≤ hi && hi ≤ 5
  | _ => lo ≤ hi && hi ≤ 7

def curveOk (t c : Nat) : Bool := c == 0 || (t == 1 && 1 ≤ c && c ≤ 3) || (t == 2 && 0x10 ≤ c && c ≤ 0x13)

def excOk (t e : Nat) : Bool :=
  if t == 1 || t == 6 then 10 ≤ e && e ≤ 1000 && e % 10 == 0
  else if t == 5 then 50 ≤ e && e ≤ 100000
  else if t == 0x10 then 1000 ≤ e && e ≤ 100000
  else e == 0

def weirChecks (t : Nat) (p : List Byte) : List Chk :=
  [(0, wiringOk t (g1 p 0)), (1, curveOk t (g1 p 1)), (2, g1 p 2 ≤ 1 && !(t == 0x10 && g1 p 2 == 0)), inB p 3 0 10,
    (4, rangesOk t (g1 p 4) (g1 p 5)), (6, g1 p 6 ≤ 3 && !(g1 p 6 % 2 == 1 && g1 p 1 == 0)), inB p 7 0 8, inB p 8 0 5,
    inB p 9 0 3, (12, excOk t (g4 p 12)),
    (16, g4 p 16 == 0 || ((t == 1 || t == 6) && g1 p 0 == 2)), inB p 20 0 1, (21, g1 p 21 ≤ (if t = 0x10 then 1 else 0)),
    inB p 22 0 1, rsv p 23 1, isNumber p 40, (44, (gf32 p 44).isSome && rf32 p 44 != 0), isNumber p 48,
    (52, (gf32 p 52).isSome && rf32 p 52 != 0)] ++
  many 24 (fun k => (56 + 4 * k,
    (gf32 p (56 + 4 * k)).isSome && (rf32 p (56 + 4 * k) == 0 || (k / 4 ≤ g1 p 8 && k % 4 ≤ g1 p 9)))) ++
  [rsv p 152 8]

/-- The common valve part, then the type's own (R355–R358); `sv` is safe_value, at offset 20 of the body. -/
def valveChecks (t : Nat) (sv : Int) (p : List Byte) : List Chk :=
  let rwb := rf32 p 8
  let rba := rf32 p 12
  let peak := i4 p 40
  partAt 64 ([inW p 0 500 200000, inW p 4 50 500000, above0 p 8, above0 p 12,
    (16, (above0 p 16).2 && decide ((2 / 5 : Rat) ≤ rf32 p 16 * rwb)),
    (20, (above0 p 20).2 && decide ((2 / 5 : Rat) ≤ rf32 p 20 * min rwb rba)),
    (28, decide (i4 p 24 < i4 p 28)), inB p 34 0 1, inB p 35 0 1]) ++
  (if t = 0x30 then
    (20, decide (0 ≤ sv) && decide (sv ≤ peak)) ::
      partAt 64 [inI p 40 0 2500000, (48, g2 p 48 == 0 || (50 ≤ g2 p 48 && g2 p 48 ≤ 400)), inB p 50 0 25, inB p 51 0 1,
        rsv p 52 12]
  else
    (20, sv == 0) ::
      partAt 64 ([inI p 40 500000 8000000,
        (44, decide (200000 ≤ i4 p 44) && decide (i4 p 44 ≤ 2000000) && decide (i4 p 44 < peak)), inH p 48 0 2000,
        inH p 50 20 2000, inB p 52 0 1, inB p 53 0 1, (54, g2 p 54 == 0 || (100 ≤ g2 p 54 && g2 p 54 ≤ 20000))] ++
        (if g2 p 58 = 0 then []
         else [inH p 56 0 5000, (58, g2 p 56 < g2 p 58 && g2 p 58 ≤ 10000 && g1 p 35 == 1), inH p 60 10 10000,
           inB p 62 1 255]) ++ [rsv p 63 1]))

def partChecks (t : Nat) (sv : Int) (p : List Byte) : List Chk :=
  if weirTypes.contains t then partAt 64 (weirChecks t p)
  else match t with
    | 0x20 => partAt 64 [inB p 0 0 63, inB p 1 0 1, inB p 2 0 1, rsv p 3 13]
    | 0x21 => partAt 64 [inB p 0 0 1, inB p 1 0 1, inB p 2 0 1, rsv p 3 1,
        (4, 100 ≤ g4 p 4 && g4 p 4 ≤ 60000 && g4 p 4 % 10 == 0), rsv p 8 8]
    | 0x22 => partAt 64 [inB p 0 0 1, inB p 1 0 1, rsv p 2 14]
    | 0x40 => partAt 64 [(0, g1 p 0 == 1 || g1 p 0 == 3), inB p 1 0 2, inB p 2 0 1, rsv p 3 1,
        inW p 4 20 (if g1 p 1 = 0 then 1000000 else 10000),
        (8, if g1 p 1 = 2 then 10 ≤ g4 p 8 && g4 p 8 ≤ 10000 else g4 p 8 == 0), rsv p 12 4]
    | 0x41 => (20, sv == 0 || sv == 1) ::
        partAt 64 [(0, g4 p 0 == 0 || (10 ≤ g4 p 0 && g4 p 0 ≤ 60000)), rsv p 4 12]
    | 0x42 => partAt 64 [inB p 0 0 2, inB p 1 0 1, rsv p 2 2, inW p 4 100 50000, rsv p 8 8]
    | 0x50 => (20, sv == 0 || sv == 3600 || sv == 21000 || (decide (3800 ≤ sv) && decide (sv ≤ 20500))) ::
        partAt 64 [inB p 0 0 1, rsv p 1 3, (4, g4 p 4 == 0 || (10 ≤ g4 p 4 && g4 p 4 ≤ 60000)), rsv p 12 4]
    | _ => valveChecks t sv p

/-- Highest terminal of a kind (R105). -/
def lastTerm (kind : Nat) : Nat := [0, 23, 7, 3, 31, 11, 4].getD kind 0

/-- Types whose safe_value drives something; it is 0 for the others (R100). -/
def isOutput (t : Nat) : Bool := t == 0x30 || t == 0x31 || t == 0x41 || t == 0x50

/-- STATION (R100, R102).
The name's bytes are stored as given (DEDUCED: the rules describe them and name no refusal; log 43). -/
def stationChecks (b : List Byte) : List Chk :=
  let t := g2 b 0
  match partLength t with
  | none => [(0, false)]
  | some n =>
    (noField, b.length == 64 + n) ::
    [(2, g1 b 2 < 16 || g1 b 2 == 0xFF), inB b 3 0 2, (noField, !(g1 b 3 == 1 && g1 b 2 == 0xFF)), inB b 4 1 6, inB b 5 1 8] ++
    many 8 (fun j => (6 + j, if j < g1 b 5 then g1 b (6 + j) ≤ lastTerm (g1 b 4) else g1 b (6 + j) == 0xFF)) ++
    [rsv b 14 2, (16, !(g1 b 3 == 2 && g4 b 16 != 0)), (20, isOutput t || g4 b 20 == 0), rsv b 32 4,
      rsv b 52 12] ++
    partChecks t (i4 b 20) (b.drop 64)

/-! ZONE (R103; 09_zone_programmes.md R326, R327, R329, R330, R333, R336, R338, R340, R343). -/

def bodyLength (zt : Nat) : Nat := match zt with | 3 => 208 | 5 => 64 | 6 => 0 | _ => 128

def heatChecks (zt : Nat) (b : List Byte) : List Chk :=
  [(0, (List.range 4).any (fun j => g2 b (2 * j) != 0xFFFF)),
    must b 16, must b 18, must b 20, must b 22,
      (32, decide (i4 b 28 < i4 b 32) && decide (i4 b 32 ≤ 2500000)), isNumber b 36, isNumber b 40, inW b 44 500 60000,
      inW b 48 1000 120000, inW b 52 0 600000, inW b 56 0 7200000, (60, zt != 1 || i4 b 60 == 0)]

def columnChecks (b : List Byte) : List Chk :=
  heatChecks 1 b ++ [(64, (g2 b 64 == 0xFFFF) != (g2 b 66 == 0xFFFF)), (66, g2 b 66 < 256 || g2 b 66 == 0xFFFF),
    (68, 0 < g4 b 68), (72, g4 b 68 < g4 b 72), above0 b 96,
    (104, (gf32 b 104).isSome && decide (0 ≤ rf32 b 104) && decide (rf32 b 104 ≤ 1)), isNumber b 108, rsv b 112 16]

def batchChecks (b : List Byte) : List Chk :=
  heatChecks 2 b ++ many 6 (fun j => must b (64 + 2 * j)) ++
    [inW b 84 10 86400, inW b 88 600 172800, inW b 92 10 86400, rsv b 96 32]

def siloChecks (b : List Byte) : List Chk :=
  [must b 8, inB b 12 1 48, rsv b 13 3] ++
    many (g1 b 12) (fun j => must b (16 + 2 * j)) ++ many (g1 b 12) (fun j => inB b (112 + j) 0 11) ++
    [inW b 184 60 86400, inW b 188 60 86400, inW b 192 0 86400, inW b 196 10 3600, rsv b 200 8]

def temperChecks (b : List Byte) : List Chk :=
  [(0, (List.range 8).any (fun j => g2 b (2 * j) != 0xFFFF))] ++
    many 8 (fun j => (48 + 4 * j, g2 b (2 * j) == 0xFFFF || (above0 b (48 + 4 * j)).2)) ++
    [inW b 80 6000 35000, above0 b 84, inB b 88 1 8, rsv b 89 3, (96, g4 b 92 < g4 b 96), rsv b 100 28]

def weighChecks (b : List Byte) : List Chk :=
  [must b 0, must b 2, must b 4, must b 6, must b 10, inW b 20 100 10000, inW b 24 200 30000, inW b 28 5 3600,
    inW b 32 5 3600, rsv b 40 24]

/-- Deckle entries: those in use in range, the others zero (R326). -/
def deckleChecks (b : List Byte) : List Chk :=
  (List.range 16).flatMap (fun j =>
    let o := 96 + 16 * j
    if j < g1 b 81 then [must b o, inB b (o + 2) 0 2, inB b (o + 3) 0 1, inW b (o + 12) 0 600000] else [rsv b o 16])

def zoneFeltOk (zt f : Nat) : Bool :=
  match zt with | 1 => 2 ≤ f && f ≤ 7 | 4 => 2 ≤ f && f ≤ 7 | 6 => f ≤ 7 | _ => f == 0

def zoneChecks (b : List Byte) : List Chk :=
  let zt := g1 b 0
  let len := g4 b 4
  let p := b.drop 352
  [inB b 0 1 6, (noField, b.length == 352 + bodyLength zt), (1, zoneFeltOk zt (g1 b 1)), inB b 2 0 1, inB b 3 0 1,
    (4, if zt == 1 || zt == 4 then 0 < len else zt == 6 || len == 0), (8, g1 b 8 ≤ 1 && !(zt == 6 && g1 b 8 == 0)), rsv b 9 3,
    rsv b 28 4, (32, 0 < len || g4 b 32 == 0), (36, g1 b 36 ≤ 63 || g1 b 36 == 0xFF), inB b 37 0 15,
    inB b 38 0 1, inB b 39 0 2,
    rsv b 50 2, inW b 56 0 600000,
    (60, if g1 b 8 = 1 then 100 ≤ g4 b 60 && g4 b 60 ≤ 60000 else g4 b 60 == 0),
    inB b 81 0 16, rsv b 82 14] ++ deckleChecks b ++
    partAt 352 (match zt with
      | 1 => columnChecks p | 2 => batchChecks p | 3 => siloChecks p | 4 => temperChecks p | 5 => weighChecks p | _ => [])

/-! FELT (04_felt_time.md R135, R143, R144). -/

def feltSourceOk (f src : Nat) : Bool :=
  match f with | 0 => src == 0 | 1 => src == 1 | 6 => src == 3 || src == 4 | 7 => src == 3 || src == 4 | _ => src == 2

def feltChecks (f plant : Nat) (enabled : Bool) (b : List Byte) : List Chk :=
  let src := g1 b 0
  let ratio := src == 3 || src == 4
  let num := i4 b 28
  [(noField, b.length == 64), (0, feltSourceOk f src), (noField, f != 0 || enabled),
    inB b 1 0 (if src = 2 then 2 else 0), inB b 2 0 1, inB b 3 0 19,
    (4, if src = 2 then 100 ≤ g4 b 4 && g4 b 4 ≤ 50000 else g4 b 4 == 0), (8, f == 0 || (1 ≤ g4 b 8 && g4 b 8 ≤ 60000)),
    inW b 16 0 1048576, (20, if src = 4 then 1 ≤ g4 b 20 && g4 b 20 ≤ 1048576 else g4 b 20 == 0),
    (24, if src = 3 then g1 b 24 < f else if src = 4 then g1 b 24 ≤ 7 else g1 b 24 == 0),
    (25, g1 b 25 ≤ (if src = 4 then 2 else 0)),
    (26, if src = 4 then g1 b 26 ≤ 63 && g1 b 26 != plant else g1 b 26 == 0), rsv b 27 1,
    (28, if ratio then num != 0 && num.natAbs ≤ 65535 else num == 0),
    (32, if ratio then 1 ≤ g4 b 32 && g4 b 32 ≤ 65535 else g4 b 32 == 0), inB b 40 0 7, rsv b 41 23]

/-! BUS_CHANNEL (12_priority_bus.md R419, R420, R422, R423). -/

/-- [31] extended, [28:0] an identifier of that form. -/
def identFieldOk (w : Nat) : Bool := w / 536870912 % 4 == 0 && (bitOf w 31 || w < 2048)

def nominalClocks (b : List Byte) : Nat := g2 b 4 * (1 + g2 b 6 + g1 b 8)
def dataClocks (b : List Byte) : Nat := g1 b 10 * (1 + g1 b 11 + g1 b 12)

def entryChecks (fd : Bool) (e : List Byte) : List Chk :=
  let recv := g1 e 1 == 1
  [inB e 1 0 1, (2, g1 e 2 ≤ 3 && (fd || !bitOf (g1 e 2) 0)),
    (3, g1 e 3 ≤ 8 || (bitOf (g1 e 2) 0 && [12, 16, 20, 24, 32, 48, 64].contains (g1 e 3))), (4, identFieldOk (g4 e 4)),
    (8, recv || g4 e 8 == 0), (12, if recv then g2 e 12 == 0 else g2 e 12 ≤ 60000),
    (14, g1 e 14 ≤ 1 && !(recv && g1 e 14 == 1)), rsv e 15 1]

def busChecks (c : Nat) (b : List Byte) : List Chk :=
  let fd := g1 b 1 == 1
  let n := g1 b 19
  let role := g1 b 20
  [(noField, b.length == 96 + 16 * n), (0, g1 b 0 ≤ 1 && !(g1 b 0 == 1 && c < 2)), inB b 1 0 1, inB b 2 0 1,
    inB b 3 0 (if g1 b 2 = 0 then 1 else 0), (4, 1 ≤ g2 b 4 && g2 b 4 ≤ 32 && 80 ≤ nominalClocks b && nominalClocks b ≤ 640),
    inH b 6 2 256, inB b 8 1 128, inB b 9 1 (min 128 (g1 b 8))] ++
  (if fd then
    [(10, 1 ≤ g1 b 10 && g1 b 10 ≤ 32 && 10 ≤ dataClocks b && dataClocks b ≤ nominalClocks b), inB b 11 1 32, inB b 12 1 16,
      inB b 13 1 (min 16 (g1 b 12))]
   else [rsv b 10 4]) ++
  [inB b 14 0 1, inB b 15 0 127, (16, g1 b 16 ≤ 3 || g1 b 16 == 0xFF), inB b 17 0 1, inB b 18 0 1,
    inB b 19 0 (if g1 b 2 = 1 then 128 else 0), (20, role ≤ 2 && !(c == 3 && role != 0)), inB b 21 0 7,
    (22, if role = 0 then g2 b 22 == 0 else 5 ≤ g2 b 22 && g2 b 22 ≤ 1000), (24, identFieldOk (g4 b 24) && g4 b 24 % 8 == 0),
    (28, identFieldOk (g4 b 28) && g4 b 28 % 64 == 0), inB b 32 0 1, rsv b 33 3,
    (36, (g1 b 32 == 0 && g4 b 36 == 0) || (bitOf (g4 b 36) 31 && identFieldOk (g4 b 36) && g4 b 36 % 1024 == 0)),
    inB b 40 0 1, inB b 41 0 8, rsv b 42 2, (44, identFieldOk (g4 b 44)), rsv b 60 36] ++
  (List.range n).flatMap (fun j => partAt (96 + 16 * j) (entryChecks fd (slice b (96 + 16 * j) 16)))

/-! NETWORK (13_line_uplink.md R466, R467). -/

def networkChecks (b : List Byte) : List Chk :=
  let ip := beNat (slice b 0 4)
  let mask := beNat (slice b 4 4)
  let gw := beNat (slice b 8 4)
  let host := 0xFFFFFFFF - mask
  [(noField, b.length == 64), (0, ip &&& host != 0 && ip &&& host != host), (4, host &&& (host + 1) == 0),
    (8, gw == 0 || gw &&& mask == ip &&& mask), inH b 12 0 4094, inB b 14 0 7, inB b 15 0 2] ++
  many 8 (fun j => inH b (16 + 2 * j) 0 4094) ++
  [inB b 32 0 3, inB b 33 0 127, inB b 34 0 1, inB b 35 1 4, inH b 36 10 3600, inB b 38 0 15, inB b 39 0 1, inB b 40 0 31,
    rsv b 41 3, (44, g4 b 44 == 0 || (115200 ≤ g4 b 44 && g4 b 44 ≤ 3000000)), rsv b 48 16]

/-! FRESHET_POLICY (14_freshet.md R492). -/

def onCurve (x y : Nat) : Bool := x < pP && y < pP && (y * y) % pP == (x * x * x + (pP - 3) * x + pB) % pP

def freshetChecks (b : List Byte) : List Chk :=
  [(noField, b.length == 80), inB b 0 0 1, inB b 1 0 3, inB b 2 0 1, inB b 3 0 7, inH b 4 5 1440, inB b 6 1 7, inB b 7 0 15,
    (8, zeroAt b 8 64 || onCurve (field 32 8 b) (field 32 40 b)), rsv b 72 8]

/-! REAM_POLICY (15_ream.md R501, R505, R512, R513). -/

/-- A selector with a source and an index that exist. -/
def selectorOk (w : Nat) : Bool :=
  match [1, 128, 128, 8, 4, 14, 1, 3, 16][w / 4096]? with | some n => w % 4096 < n | none => false

def policyChecks (seen : List Nat) (e : List Byte) : List Chk :=
  let code := g2 e 0
  let fl := g1 e 2
  let own := bitOf fl 0
  let lim : Nat → Nat → Chk := fun o hi => (o, if own then 1 ≤ g2 e o && g2 e o ≤ hi else g2 e o == 0)
  [(0, (eventRow code).isSome && !seen.contains code), (2, fl ≤ 2 && !(own && eventProtected code)), inB e 3 0 8, lim 4 1000,
    lim 6 3600, lim 8 1000, rsv e 10 6] ++
  many 8 (fun j => (16 + 2 * j, if j < g1 e 3 then selectorOk (g2 e (16 + 2 * j)) else g2 e (16 + 2 * j) == 0))

def reamChecks (b : List Byte) : List Chk :=
  let n := g1 b 6
  let code : Nat → Nat := fun j => g2 b (16 + 32 * j)
  [inH b 0 1 1000, inH b 2 1 3600, inH b 4 1 1000, inB b 6 0 64, rsv b 7 9, (noField, b.length == 16 + 32 * n)] ++
    (List.range n).flatMap (fun j =>
      partAt (16 + 32 * j) (policyChecks ((List.range j).map code) (slice b (16 + 32 * j) 32)))

/-- Format that Evver 3.4 writes for a kind (R121). -/
def formatOf (kind : Nat) : Nat := [0, 2, 3, 3, 1, 1, 1, 1, 1].getD kind 0
/-- Oldest format that an import or a migration accepts. -/
def oldestFormat (kind : Nat) : Nat := [0, 1, 1, 2, 1, 1, 1, 1, 1].getD kind 0
/-- Number of indices of a kind (R97); 0 for a kind outside the table. -/
def indices (kind : Nat) : Nat := [0, 1, 128, 16, 8, 4, 1, 1, 1].getD kind 0

/-- Rule 1 for one object; `plant` is the configuration's own plant address. -/
def fieldChecks (plant : Nat) (o : Obj) : List Chk :=
  (noField, o.format == formatOf o.kind && o.index < indices o.kind) ::
  (match o.kind with
    | 1 => (noField, o.body.length == 64) :: deviceChecks o.body
    | 2 => stationChecks o.body
    | 3 => zoneChecks o.body
    | 4 => feltChecks o.index plant (o.flags % 2 == 1) o.body
    | 5 => busChecks o.index o.body
    | 6 => networkChecks o.body
    | 7 => freshetChecks o.body
    | _ => reamChecks o.body)

end Sys2Proof.Machine
end

