-- ==== Sys2Proof/Machine/CfgRules.lean ====
section
/-! DEFINITION. Rules 2 to 6 of the validation of a configuration, the order of the rules, and which fields are live
(spec/03_configuration.md R104, R109, R110, R114, R115). Which object and field a failure names where several fail is in
notes/assumptions/43.md. -/

namespace Sys2Proof.Machine

/-- Body of an enabled object of a set; empty where there is none. -/
def bodyIn (os : List Obj) (kind index : Nat) : List Byte :=
  match objIn os kind index with | some o => if o.flags % 2 = 1 then o.body else [] | none => []

def hasObj (os : List Obj) (kind index : Nat) : Bool := !(bodyIn os kind index).isEmpty
def plantOf (os : List Obj) : Nat := g1 (bodyIn os 1 0) 0

def objLe (a b : Obj) : Bool := decide (a.kind * 65536 + a.index ≤ b.kind * 65536 + b.index)

/-- Enabled objects of a kind, in rising order of index, with their bodies. -/
def enabledOf (os : List Obj) (kind : Nat) : List (Nat × List Byte) :=
  (List.range (indices kind)).filterMap (fun i => if hasObj os kind i then some (i, bodyIn os kind i) else none)

/-! Stations that a zone names: offset in its body, station, and the types it may have; [] is any type. -/

def tempTypes : List Nat := weirTypes ++ [0x22]

def namedStations (b : List Byte) : List (Nat × Nat × List Nat) :=
  let zt := g1 b 0
  let at_ : Nat → List Nat → Nat × Nat × List Nat := fun o ts => (o, g2 b o, ts)
  let row : Nat → Nat → List Nat → List (Nat × Nat × List Nat) := fun n o ts => (List.range n).map (fun j => at_ (o + 2 * j) ts)
  let common := row 4 40 [] ++ [at_ 48 [0x20]] ++ row 8 64 [0x40] ++
    (List.range (g1 b 81)).map (fun j => at_ (96 + 16 * j) [])
  let heat := row 4 352 [0x41] ++ row 4 360 [0x40] ++ [at_ 368 [0x41], at_ 370 [0x40], at_ 372 [0x30], at_ 374 tempTypes]
  let own := match zt with
    | 1 => heat ++ [at_ 416 [0x50]]
    | 2 => heat ++ [at_ 416 [0x41], at_ 418 [0x40], at_ 420 [0x41], at_ 422 [0x40], at_ 424 [0x20], at_ 426 [0x22]]
    | 3 => row 4 352 [0x41] ++ [at_ 360 tempTypes, at_ 362 weirTypes] ++ row (g1 b 364) 368 tempTypes
    | 4 => row 8 352 [0x31]
    | 5 => [at_ 352 [0x41], at_ 354 [0x40], at_ 356 [0x41], at_ 358 [0x40], at_ 360 [0x40], at_ 362 [0x21]]
    | _ => []
  (common ++ own).filter (fun e => e.2.1 != 0xFFFF)

/-! Rule 2: references (R115; R144, R211, R327, R358, R422). -/

def references (os : List Obj) (kind : Nat) (b : List Byte) : List Chk :=
  let station : Nat → Nat → Chk := fun o off => (off, g2 b o == 0xFFFF || hasObj os 2 (g2 b o))
  match kind with
  | 2 =>
    (2, g1 b 2 == 0xFF || hasObj os 3 (g1 b 2)) ::
      (if weirTypes.contains (g2 b 0) then [station 74 74] else if g2 b 0 / 16 == 3 then [station 96 96] else [])
  | 3 =>
    (1, hasObj os 4 (g1 b 1)) :: (namedStations b).map (fun e => (e.1, hasObj os 2 e.2.1)) ++
      [(37, g1 b 36 != plantOf os || hasObj os 3 (g1 b 37))]
  | 4 =>
    match g1 b 0 with
    | 3 => [(24, hasObj os 4 (g1 b 24))]
    | 4 => [(25, hasObj os 5 (g1 b 25))]
    | _ => []
  | 5 => [(16, g1 b 16 == 0xFF || hasObj os 5 (g1 b 16))]
  | _ => []

/-! Rule 3: terminals and named types (R106, R115; R144, R146, R211, R253, R285, R311, R327, R358, R410). -/

def kindOfType (t : Nat) : Nat :=
  match t with
  | 0x10 => 2 | 0x20 => 6 | 0x21 => 6 | 0x22 => 6 | 0x30 => 5 | 0x31 => 5 | 0x40 => 4 | 0x41 => 4 | 0x42 => 4 | 0x50 => 3
  | _ => 1

def termsIn (b : List Byte) : List Nat := (List.range (g1 b 5)).map (fun j => g1 b (6 + j))

def countOk (b : List Byte) : Bool :=
  let n := g1 b 5
  match g2 b 0 with
  | 5 => n == (if g1 b 64 = 6 then 2 else 1)
  | 0x41 => n ≤ 4
  | 0x42 => n == 2 || (g1 b 64 == 2 && n == 1)
  | _ => n == 1

/-- The terminals that a type may name, and how. -/
def termsOk (b : List Byte) : Bool :=
  let ts := termsIn b
  let t0 := g1 b 6
  match g2 b 0 with
  | 5 => ts.all (fun t => t / 8 == t0 / 8)
  | 0x20 => t0 == 0
  | 0x21 => t0 == 1 || t0 == 2
  | 0x22 => t0 == 3 || t0 == 4
  | 0x41 => ts == (List.range ts.length).map (t0 + ·) && ts.all (fun t => t / 8 == t0 / 8)
  | 0x42 => t0 % 2 == 0 && t0 ≤ 6 && ts == (List.range ts.length).map (t0 + ·)
  | _ => true

/-- Field terminals of an enabled ENCODER felt (R135, R138). -/
def feltTerms (f : Nat) (b : List Byte) : List Nat :=
  if g1 b 0 = 2 then (if g1 b 1 = 2 then [2 * (f - 2)] else [2 * (f - 2), 2 * (f - 2) + 1]) else []

def takesTerm (kind t : Nat) (b : List Byte) : Bool := g1 b 4 == kind && (termsIn b).contains t

def terminals (os : List Obj) (kind i : Nat) (b : List Byte) : List Chk :=
  match kind with
  | 2 =>
    let ts := termsIn b
    let earlier := (enabledOf os 2).filter (fun e => e.1 < i)
    [(4, g1 b 4 == kindOfType (g2 b 0)), (5, countOk b), (6, termsOk b)] ++
      (List.range ts.length).map (fun j =>
        let t := g1 b (6 + j)
        (6 + j, !(ts.take j).contains t && !earlier.any (fun e => takesTerm (g1 b 4) t e.2)))
  | 3 => (namedStations b).map (fun e =>
      let st := bodyIn os 2 e.2.1
      (e.1, (e.2.2.isEmpty || e.2.2.contains (g2 st 0)) && (g1 st 2 == i || g1 st 2 == 0xFF)))
  | 4 => [(0, (feltTerms i b).all (fun t => (enabledOf os 2).all (fun e => !takesTerm 4 t e.2)))]
  | _ => []

/-! Rule 4: limits of types and programmes. -/

/-- The compensation chain from a station comes back to it within `fuel` links (R206). -/
def compLoops (os : List Obj) (n : Nat) : Nat → Nat → Bool
  | 0, _ => true
  | fuel + 1, m =>
    let b := bodyIn os 2 m
    if b.isEmpty || !weirTypes.contains (g2 b 0) then false
    else
      let c := g2 b 74
      if c = 0xFFFF then false else c == n || compLoops os n fuel c

def sumBy (es : List (Nat × List Byte)) (f : List Byte → Nat) : Nat := es.foldl (fun a e => a + f e.2) 0

/-- N of a charge conversion is whole and from 1 to 100,000 (R188). -/
def chargeOk (exc rate : Nat) : Bool :=
  let n := exc * convUs rate
  n % 1000000 == 0 && 1000000 ≤ n && n ≤ 100000000000

def deferLimit (b : List Byte) : Nat := if g2 b 118 = 0 then 2000 else g2 b 118

/-- Clamp energy of the largest FAST decay at 30 V is at most 100 mJ (R358, R368). -/
def clampOk (b : List Byte) : Bool := 65 * g4 b 68 * g4 b 104 * g4 b 104 ≤ 7000000000000000000

def tempStation (os : List Obj) (n : Nat) : Bool :=
  let b := bodyIn os 2 n
  g2 b 0 == 0x22 || (weirTypes.contains (g2 b 0) && bodyTemp (g2 b 0) (b.drop 64))

def stationLimits (os : List Obj) (i : Nat) (b : List Byte) : List Chk :=
  let t := g2 b 0
  let mode := g1 b 3
  let period := g4 b 16
  let upTo := (enabledOf os 2).filter (fun e => e.1 ≤ i)
  let bank : Nat → List Byte → Nat := fun n x => g1 x 6 / n
  if weirTypes.contains t then
    ([(16, mode != 0 || convUs (g1 b 67) ≤ period)] : List Chk) ++
    (if t = 5 then
      let mates := upTo.filter (fun e => g2 e.2 0 == 5 && bank 8 e.2 == bank 8 b)
      [(76, decide (mates.foldl (fun (a : Rat) e => a + (5 / 2 : Rat) / (g4 e.2 76 : Rat)) 0 ≤ (3 / 100 : Rat)))]
     else if t = 0x10 then
      [(76, upTo.all (fun e => g2 e.2 0 != 0x10 || g4 e.2 76 == g4 b 76) && chargeOk (g4 b 76) (g1 b 67))]
     else []) ++
    [(74, g2 b 74 == 0xFFFF ||
      (weirTypes.contains (g2 (bodyIn os 2 (g2 b 74)) 0) && tempStation os (g2 b 74) && !compLoops os i 128 i))]
  else match t with
    | 0x20 => [(16, mode != 0 || (0 < period && period % 100000 == 0)), (noField, upTo.all (fun e => g2 e.2 0 != 0x20 || e.1 == i))]
    | 0x21 => [(16, mode != 0 || (0 < period && period % (1000 * g4 b 68) == 0))]
    | 0x22 => [(16, mode != 0 || (0 < period && period % 1000000 == 0))]
    | 0x41 =>
      [(5, sumBy (upTo.filter (fun e => g2 e.2 0 == 0x41 && bank 8 e.2 == bank 8 b)) (fun x => g1 x 5) ≤ 8)]
    | 0x40 => []
    | 0x42 => []
    | 0x50 => []
    | _ =>
      let mates := upTo.filter (fun e => g2 e.2 0 / 16 == 3 && bank 4 e.2 == bank 4 b)
      let amps : List Byte → Nat := fun x => if g2 x 0 = 0x30 then g4 x 104 else g4 x 108
      [(3, mode == 0), (16, 10000 ≤ period && period ≤ 60000000), (68, clampOk b),
        (96, g2 b 96 == 0xFFFF || tempStation os (g2 b 96)), (if t = 0x30 then 104 else 108, sumBy mates amps ≤ 6000000),
        (117, t != 0x31 || mates.all (fun e => g2 e.2 0 != 0x31 || (g1 e.2 117 == g1 b 117 && deferLimit e.2 == deferLimit b)))]

/-! Bus limits (R422). -/

def busEntries (b : List Byte) : List (List Byte) := chunks 16 (g1 b 19) (b.drop 96)
def sends (b : List Byte) : List Nat := (busEntries b).filterMap (fun e => if g1 e 1 = 0 then some (g4 e 4) else none)

/-- Felts published on a channel, and followed on it. -/
def published (os : List Obj) (c : Nat) : List Nat :=
  (enabledOf os 4).filterMap (fun e => if c < 3 && bitOf (g1 e.2 40) c then some e.1 else none)
def followed (os : List Obj) (c : Nat) : Bool := (enabledOf os 4).any (fun e => g1 e.2 0 == 4 && g1 e.2 25 == c)

/-- This device's reference, felt and hand-off identifiers on a channel. -/
def ownWords (os : List Obj) (b : List Byte) : List Nat :=
  (if g1 b 20 = 1 then [g4 b 24 + g1 b 21] else []) ++ (if g1 b 20 = 0 then [] else [g4 b 28 + plantOf os]) ++
    (if g1 b 32 = 1 then (List.range 16).map (fun z => g4 b 36 + plantOf os * 16 + z) else [])

def paired (c d : Nat) : Bool := c / 2 == d / 2 && c != d && c < 4 && d < 4

/-- A failover pair: each names the other. -/
def failoverPair (os : List Obj) (c d : Nat) : Bool :=
  paired c d && g1 (bodyIn os 5 c) 16 == d && g1 (bodyIn os 5 d) 16 == c && hasObj os 5 c && hasObj os 5 d

def busLimits (os : List Obj) (c : Nat) (b : List Byte) : List Chk :=
  let es := busEntries b
  let before := ((enabledOf os 5).filter (fun e => e.1 < c)).flatMap (fun e => busEntries e.2)
  let mate := g1 b 16
  let pb := bodyIn os 5 mate
  let pubs := published os c
  let mateSends := if failoverPair os c mate && mate < c then sends pb else []
  ([(19, before.length + es.length ≤ 256),
    (16, mate == 0xFF || (paired c mate && g1 pb 16 == c)), (4, mate == 0xFF || slice pb 4 12 == slice b 4 12),
    (0, g1 b 0 == 0 || ((sends b).isEmpty && g1 b 20 != 1 && g1 b 32 == 0 && pubs.isEmpty)),
    (1, g1 b 1 == 1 || (g1 b 20 == 0 && g1 b 32 == 0 && pubs.isEmpty && !followed os c)),
    (20, g1 b 20 != 0 || pubs.isEmpty), (noField, pubs.length ≤ 6),
    (32, g1 b 32 == 0 || (enabledOf os 5).all (fun e => e.1 == c || g1 e.2 32 == 0 || failoverPair os c e.1))] : List Chk) ++
  (List.range es.length).flatMap (fun j =>
    let e := es.getD j []
    let o := 96 + 16 * j
    [(o, !(es.take j).any (fun x => g1 x 0 == g1 e 0) && !before.any (fun x => g1 x 0 == g1 e 0)),
      (o + 4, g1 e 1 == 1 ||
        (!((es.take j).any (fun x => g1 x 1 == 0 && g4 x 4 == g4 e 4)) && !mateSends.contains (g4 e 4) &&
          !(ownWords os b).contains (g4 e 4)))])

/-! Zone limits (R144, R327, R333, R340, R343, R422). -/

def driveOk (os : List Obj) (k : Nat) : Bool :=
  (enabledOf os 5).any (fun c => g1 c.2 2 == 1 &&
    (busEntries c.2).any (fun e => g1 e 0 == k && g1 e 1 == 0 && g1 e 14 == 1 && 4 ≤ g1 e 3))

def zoneLimits (os : List Obj) (i : Nat) (b : List Byte) : List Chk :=
  let zt := g1 b 0
  let len := g4 b 4
  let path := g4 b 32
  let earlier := (enabledOf os 3).filter (fun e => e.1 < i)
  let shut : Nat → Bool := fun o => g4 (bodyIn os 2 (g2 b o)) 20 == 0
  ([(32, path ≤ 4000 * len), (36, g1 b 36 == 0xFF || earlier.all (fun e => slice e.2 36 2 != slice b 36 2))] : List Chk) ++
  (match zt with
    | 1 =>
      let k := g2 b 418
      [(436, len < g4 b 436 && g4 b 436 < g4 b 432 && g4 b 432 ≤ g4 b 52 && g4 b 52 ≤ path),
        (418, k == 0xFFFF || (driveOk os k && earlier.all (fun e => g1 e.2 0 != 1 || g2 e.2 418 != k)))]
    | 4 => (List.range 8).map (fun j =>
        (368 + 4 * j, g2 b (352 + 2 * j) == 0xFFFF || (len ≤ g4 b (368 + 4 * j) && g4 b (368 + 4 * j) < path)))
    | 5 => [(352, shut 352), (356, shut 356)]
    | _ => [])

/-- Snapshot words that a code's own fields take (R501). -/
def fixedWords (code : Nat) : Nat := (eventSizes code).foldl (fun a z => a + z / 4) 0

def limits (os : List Obj) (kind i : Nat) (b : List Byte) : List Chk :=
  match kind with
  | 2 => stationLimits os i b
  | 3 => zoneLimits os i b
  | 5 => busLimits os i b
  | 6 =>
    let vids := ((List.range 8).map (fun j => g2 b (16 + 2 * j))).filter (· != 0)
    [(12, vids.isEmpty || g2 b 12 == 0 || vids.contains (g2 b 12))]
  | 8 => (List.range (g1 b 6)).map (fun j => (19 + 32 * j, g1 b (19 + 32 * j) + fixedWords (g2 b (16 + 32 * j)) ≤ 8))
  | _ => []

/-! Rule 6: live fields (R104, R143, R210, R253, R285, R311, R327, R330–R343, R355–R357, R408, R419, R420, R466, R492,
R512), as byte ranges. -/

def livePart (t : Nat) : List (Nat × Nat) :=
  if weirTypes.contains t then [(24, 128)]
  else match t with
    | 0x20 => [(0, 3)] | 0x21 => [(0, 3), (4, 4)] | 0x22 => [(0, 2)]
    | 0x30 => [(24, 8), (34, 1), (36, 4), (44, 7)]
    | 0x31 => [(24, 8), (34, 1), (36, 4), (60, 3)]
    | 0x40 => [(2, 1), (4, 4)] | 0x41 => [(0, 4)] | 0x50 => [(4, 8)] | _ => []

def liveZone (zt : Nat) : List (Nat × Nat) :=
  let heat := [(24, 4), (36, 8), (56, 8)]
  match zt with
  | 1 => heat ++ [(76, 4), (88, 24)]
  | 2 => heat ++ [(76, 8), (88, 4)]
  | 3 => [(160, 40)]
  | 4 => [(48, 40), (92, 8)]
  | 5 => [(12, 12), (36, 4)]
  | _ => []

def liveRanges (kind : Nat) (b : List Byte) : List (Nat × Nat) :=
  let shift : Nat → List (Nat × Nat) → List (Nat × Nat) := fun o l => l.map (fun r => (r.1 + o, r.2))
  match kind with
  | 1 => [(2, 6), (16, 32)]
  | 2 => [(20, 12), (36, 16)] ++ shift 64 (livePart (g2 b 0))
  | 3 => [(2, 2), (12, 16), (38, 2), (56, 4)] ++ (List.range 16).map (fun j => (100 + 16 * j, 12)) ++ shift 352 (liveZone (g1 b 0))
  | 4 => [(8, 16), (36, 4)]
  | 5 => [(17, 2), (40, 2), (44, 16)] ++ (List.range (g1 b 19)).map (fun j => (108 + 16 * j, 2))
  | 6 => [(14, 1), (35, 4), (44, 4)]
  | 7 => [(1, 3)]
  | _ => []

/-- First byte of a structural field in which two bodies of an object differ; none where they differ in live fields only. -/
def structuralDiff (kind : Nat) (a b : List Byte) : Option Nat :=
  if kind = 8 then none
  else if a.length != b.length then some noField
  else
    let rs := liveRanges kind a
    firstNat a.length (fun k => a.getD k 0 != b.getD k 0 && !rs.any (fun r => r.1 ≤ k && k < r.1 + r.2))

/-- A live change of an object (R110). -/
def liveChange (base : List Obj) (o : Obj) : Bool :=
  match objIn base o.kind o.index with
  | some x => x.flags == o.flags && (structuralDiff o.kind x.body o.body).isNone
  | none => false

/-! The rules in their order (R114, R115). -/

structure Fail where
  rule : Nat
  kind : Nat
  index : Nat
  field : Nat
  deriving DecidableEq, Repr

def ruleStatus (rule : Nat) : Nat :=
  match rule with | 1 => sBADOBJ | 2 => sNOTFOUND | 3 => sBADOBJ | 4 => sLIMIT | 5 => sLIMIT | _ => sWRONGMODE

/-- The first object, in rising order of kind and index, that fails a check. -/
def firstFail (rule : Nat) (os : List Obj) (f : Obj → List Chk) : Option Fail :=
  os.findSome? (fun o => (firstBad (f o)).map (fun off => ⟨rule, o.kind, o.index, off⟩))

/-- Rule 5: terminals of universal and charge stations have cells (R109). -/
def cellChecks (s : State) (b : List Byte) : List Chk :=
  if g1 b 4 ≤ 2 then [(noField, (termsIn b).all (fun t => cellState s (g1 b 4) t != 2))] else []

/-- Validation of a working copy against the configuration it began as. DESIGN CHOICE: rules 2 to 5 look at enabled objects
only, since a disabled one takes no terminal and does nothing (R98; notes/assumptions/138.md). -/
def validate (s : State) (t : Txn) : Option Fail :=
  let os := sortBy objLe t.objs
  let plant := plantOf os
  let on : List Obj := os.filter (fun o => o.flags % 2 == 1)
  let rules : List (Unit → Option Fail) := [
    fun _ => firstFail 1 os (fieldChecks plant),
    fun _ => if hasObj os 4 0 then none else some ⟨1, 4, 0, noField⟩,
    fun _ => firstFail 2 on (fun o => references os o.kind o.body),
    fun _ => firstFail 3 on (fun o => terminals os o.kind o.index o.body),
    fun _ => firstFail 4 on (fun o => limits os o.kind o.index o.body),
    fun _ => firstFail 5 on (fun o => if o.kind = 2 then cellChecks s o.body else []),
    fun _ => if t.full then none else firstFail 6 os (fun o => [(noField, liveChange s.cfg.active o)])]
  rules.findSome? (fun r => r ())

end Sys2Proof.Machine
end

