-- ==== Sys2Proof/Machine/CfgOps.lean ====
section
/-! DEFINITION. Configuration slots, bundles, conversion, activation, the commit and the choice at BOOT
(spec/03_configuration.md R114–R127). -/

namespace Sys2Proof.Machine

/-! The empty configuration (R125; 04 R145; 12 R421; 13 R467; 14 R492; 15 R513). -/

def mkObj (kind index : Nat) (on : Bool) (body : List Byte) : Obj :=
  { kind := kind, index := index, format := formatOf kind, flags := b01 on, body := body }

def defaultFelt (f : Nat) : Obj :=
  let k : Nat := if f = 0 then 16 else if f < 6 then 10 else 0
  let derived := 6 ≤ f
  let enc := 2 ≤ f && f < 6
  mkObj 4 f (f == 0)
    (p1 (if f = 0 then 0 else if f = 1 then 1 else if derived then 3 else 2) ++ p1 0 ++ p1 0 ++ p1 k ++
      p4 (if enc then 1000 else 0) ++ p4 1000 ++ zeros 16 ++ q4 (if derived then 1 else 0) ++ p4 (b01 derived) ++ zeros 28)

def defaultBus (c : Nat) : Obj :=
  mkObj 5 c false (zeros 4 ++ p2 1 ++ p2 127 ++ p1 32 ++ p1 32 ++ zeros 6 ++ p1 0xFF ++ p1 0 ++ p1 1 ++ zeros 77)

def defaultDevice : Obj := mkObj 1 0 true (zeros 2 ++ p2 1000 ++ zeros 60)
def defaultNetwork : Obj :=
  mkObj 6 0 true (p1 192 ++ p1 168 ++ p1 0 ++ p1 10 ++ p1 255 ++ p1 255 ++ p1 255 ++ zeros 25 ++ p1 3 ++ zeros 2 ++ p1 2 ++
    p2 60 ++ p1 0x0F ++ p1 1 ++ zeros 24)
def defaultFreshet : Obj := mkObj 7 0 true (p1 0 ++ p1 3 ++ p1 1 ++ p1 7 ++ p2 30 ++ p1 3 ++ zeros 73)
def defaultReam : Obj := mkObj 8 0 true (p2 10 ++ p2 60 ++ p2 20 ++ zeros 10)

def emptyObjs : List Obj :=
  [defaultDevice] ++ (List.range 8).map defaultFelt ++ (List.range 4).map defaultBus ++
    [defaultNetwork, defaultFreshet, defaultReam]

/-! Objects and slots as bytes (R98, R120). -/

def objBytes (gen : Nat) (o : Obj) : List Byte :=
  p1 o.kind ++ zeros 1 ++ p2 o.index ++ p2 o.format ++ p2 o.flags ++ p4 o.body.length ++ p4 gen ++ o.body

/-- Objects in a slot. DESIGN CHOICE: their base_gen is 0, as it is in a bundle (notes/assumptions/137.md). -/
def objsBytes (os : List Obj) : List Byte := os.flatMap (objBytes 0)

/-- Bytes 0–27 of a slot header. -/
def slotHead (x : Slot) : List Byte :=
  p4 x.magic ++ p2 x.schema ++ p2 x.objs.length ++ p4 x.generation ++ p4 x.length ++ x.writtenBy.flatMap p1 ++ zeros 1 ++
    q8 x.writtenAt

def slotCrc (x : Slot) : Nat := crc32 (slotHead x ++ objsBytes x.objs)

/-- The slot that a commit writes (R120). -/
def newSlot (s : State) (gen : Nat) (os : List Obj) : Slot :=
  let x : Slot :=
    { empty := false, magic := 0x53464743, schema := runSchema s, generation := gen, length := (objsBytes os).length,
      writtenBy := evverVersion s, writtenAt := s.sys.calTime, objs := os }
  { x with crc := slotCrc x }

/-- The check that a slot fails: 1 magic, 2 length, 3 crc; 0 for a valid one (R122, R131). -/
def slotFault (x : Slot) : Nat :=
  if x.magic != 0x53464743 then 1 else if x.length != (objsBytes x.objs).length then 2 else if x.crc != slotCrc x then 3 else 0

/-- The common response of R116. -/
def commitBody (s : State) (f : Fail) : List Byte := p1 f.kind ++ p1 f.rule ++ p2 f.index ++ p4 f.field ++ p4 s.cfg.generation
def commitPlain (s : State) : List Byte := commitBody s ⟨0, 0, 0, 0⟩

/-! Conversion (R121, R123, R127). -/

/-- What stops an object of an import or a migration: an older format than accepted, or another fault. -/
inductive Conv2 where
  | ok (o : Obj)
  | stale
  | bad
  deriving DecidableEq, Repr

def convertObj (o : Obj) : Conv2 :=
  if o.index ≥ indices o.kind || o.flags > 1 then .bad
  else if o.format < oldestFormat o.kind then .stale
  else if o.format > formatOf o.kind then .bad
  else if o.format = formatOf o.kind then .ok o
  else match Config.converted o.kind o.format o.body with
    | some b => .ok { o with format := formatOf o.kind, body := b }
    | none => .bad

def okOf : Conv2 → Option Obj
  | .ok o => some o
  | _ => none

def putObj (o : Obj) (os : List Obj) : List Obj := os.filter (fun x => !(x.kind == o.kind && x.index == o.index)) ++ [o]

/-- Objects of a bundle or none where it is cut short; `pad` bytes align each (R126). -/
def parseObjs : Nat → List Byte → Option (List Obj)
  | 0, b => if b.isEmpty then some [] else none
  | n + 1, b =>
    let len := g4 b 8
    let whole := (16 + len + 3) / 4 * 4
    if b.length < whole || g1 b 1 != 0 || !zeroAt b (16 + len) (whole - 16 - len) then none
    else
      let o : Obj := { kind := g1 b 0, index := g2 b 2, format := g2 b 4, flags := g2 b 6, body := slice b 16 len }
      (parseObjs n (b.drop whole)).map (o :: ·)

def padded (b : List Byte) : List Byte := b ++ zeros ((4 - b.length % 4) % 4)

/-- An export bundle (R126). DESIGN CHOICE: base_gen is 0 in its object headers, and its crc covers the padding
(notes/assumptions/137.md). -/
def bundle (s : State) (gen : Nat) (os : List Obj) : List Byte :=
  let data := (sortBy objLe os).flatMap (fun o => padded (objBytes 0 o))
  let head := p4 0x42464743 ++ p2 (runSchema s) ++ p2 os.length ++ p4 gen ++ p8 s.sys.serial ++ q8 s.sys.calTime
  head ++ p4 (crc32 (head ++ data)) ++ data

/-! Activation (R118). -/

/-- Buckets whose limits changed start full (15_ream.md R512). -/
def freshBuckets (before : State) (s : State) : State :=
  onReam (fun m =>
    { m with
      buckets := m.buckets.map (fun e =>
        if bucketLimits before e.1 == bucketLimits s e.1 then e else (e.1, { e.2 with spent := 0 })) }) s

/-- A rebuilt felt keeps its position and JUMPS; its sticky flags, remainder, rate history and slewing are cleared. -/
def rebuilt (x : Felt) : Felt :=
  { x with
    state := x.state &&& 0x5F, rem := 0, rate := 0, hist := [], lastEdge := none, advanced := 0, advRef := none, slew := 0, slewTarget := 0, remote := none }

/-- Station parts of the state that start again with a new assignment. -/
def restartStations (s : State) : State :=
  onIsland (fun i => { i with awaiting := [] })
    (onField (fun f => { f with stations := [] })
      (onValves (fun v => { v with chans := [] })
        (onWeir (fun w => { w with stations := [] }) (onStn (fun _ => {}) s))))

/-- Every commit: fault mask, network, buckets (11 R402; 13 R465; 15 R512). -/
def applyCommon (before : State) (s : State) : State := freshBuckets before (clearMask (networkApplied s))

/-- Activation in COMMISSION. -/
def activateFull (os : List Obj) (s : State) : State :=
  let s1 := valvesOff (endEntries (fun _ => true) 7 s)
  let s2 := onFelt (fun x => { x with felts := (x.felts.filter (fun e => e.1 < 8)).map (fun e => (e.1, rebuilt e.2)) }) s1
  let s3 := onZones (fun zs => zs.filter (fun e => hasObj os 3 e.1)) (onCfg (fun c => { c with active := os }) (restartStations s2))
  outputsSafe (sagLatch (startInputs (placeSamples (busReconfigure (applyCommon s s3)))))

/-- Outputs and valves that stand at safe_value follow a live change of it (R118; 10_valve_drive.md R381; 11_field_io.md R397). -/
def safeLive (before : State) (s : State) : State :=
  let moved := fun n => stnSafe before n != stnSafe s n
  let outs := (outputsOf s).filter (fun n => moved n && (fld s n).safe)
  let valves := (stationsOfType s 0x30).filter (fun n => moved n && (chn s (stnTerm s n)).safe)
  valves.foldl (fun t n => safeProp n true t) (outs.foldl (fun t n => safeField n t) s)

/-- Activation in RUN and HOLD. -/
def activateLive (os : List Obj) (s0 : State) : State :=
  let s := rebaseValves (rebaseLoops s0)
  safeLive s (levelsLive (applyCommon s (onCfg (fun c => { c with active := os }) s)))

/-- Objects that differ between two configurations. -/
def changedCount (old new : List Obj) : Nat :=
  let keys := ((old ++ new).map (fun o => (o.kind, o.index))).eraseDups
  (keys.filter (fun k => objIn old k.1 k.2 != objIn new k.1 k.2)).length

/-! The commit (R114 steps 4 and 5; R117, R130). -/

def dropMigration (s : State) : State :=
  onPower (fun p => { p with stores := p.stores.filter (fun x => x.act != .configMigrate) }) s

/-- The slot header is written: the commit point, then activation and the final answer, with which the transaction ends
(R112). -/
def configWritten (o : Option Org) (s : State) : State :=
  match s.cfg.txn with
  | none => s
  | some t =>
    let gen := w32 (s.cfg.generation + 1)
    let os := sortBy objLe t.objs
    let b := inactiveSlot s
    let left : Option Txn := if o.isSome then some { t with written := true } else none
    let s1 := onCfg (fun c => { c with generation := gen, activeSlot := some b, txn := left, salvage := none })
      (putCfgSlot b (newSlot s gen os) (dropMigration s))
    let s2 := if t.full then activateFull os s1 else activateLive os s1
    let s3 := noteBy t.owner 0x0110
      [sideCode t.owner, s.cfg.generation, gen, changedCount s.cfg.active os, if t.full then 0 else 1] s2
    match o with
    | some o => finish o sOK (commitPlain s3) (commitJob o s3)
    | none => noteBy t.owner 0x0113 [gen, nsMs (s.sys.devTime - t.queued.getD s.sys.devTime)] s3

/-- All three writes failed: the active configuration stands, and the transaction is open again (R130). A slot whose header
was never written stays empty (R122). -/
def configFailed (o : Option Org) (offset : Nat) (s : State) : State :=
  let b := inactiveSlot s
  let s1 := noteFault 0x0117 [b01 b, offset]
    (drawn 1 (putCfgSlot b { cfgSlot s b with crc := w32 (Config.freeNat s.fresh) } s))
  let s2 := modTxn (fun t => { t with queued := none, committing := false }) s1
  match o with
  | some o => finish o sBUSY (commitPlain s2) s2
  | none => s2

/-- A migrated configuration is in its slot (R123; notes/assumptions/45.md). -/
def migrationWritten (s : State) : State :=
  let b := inactiveSlot s
  note 0x0113 [s.cfg.generation, nsMs s.sys.devTime]
    (onCfg (fun c => { c with activeSlot := some b })
      (putCfgSlot b (newSlot s s.cfg.generation (sortBy objLe s.cfg.active)) s))

/-- A commit aborted before its commit point leaves the transaction open (R119). -/
def abortCommit (o : Org) (s : State) : State :=
  let s1 := modTxn (fun t => { t with committing := false, queued := none }) (dropSlotWrite s)
  finish o sABORTED (commitPlain s1) s1

/-! The choice at BOOT (R122–R125). -/

/-- Generations are compared modularly (R120). -/
def newerGen (a b : Nat) : Bool := decide (0 < posDist b a)

/-- Records what is wrong with a slot, and tells whether it may be chosen. -/
def examineSlot (b : Bool) (s : State) : Bool × State :=
  let x := cfgSlot s b
  if x.empty then (false, s)
  else
    let bad := slotFault x
    if bad != 0 then (false, note 0x0115 [b01 b, bad, if bad = 1 then 0 else x.generation] s)
    else if x.schema > runSchema s then (false, note 0x0116 [2, x.schema, runSchema s, 0, 0] s)
    else (true, s)

/-- The configuration that runs from this start. -/
def chooseConfig (s : State) : State :=
  let (a, s1) := examineSlot false s
  let (b, s2) := examineSlot true s1
  let pick : Option Bool :=
    if a && b then some (newerGen s.cfg.slotB.generation s.cfg.slotA.generation)
    else if a then some false else if b then some true else none
  let run : List Obj → Nat → Option Bool → State → State := fun os g k t =>
    onCfg (fun c => { c with active := os, generation := g, activeSlot := k, txn := none, salvage := none }) t
  match pick with
  | none => run emptyObjs 0 none s2
  | some k =>
    let x := cfgSlot s2 k
    if x.schema = runSchema s2 then run x.objs x.generation (some k) s2
    else match x.objs.find? (fun o => (okOf (convertObj o)).isNone) with
      | some o =>
        onCfg (fun c => { c with salvage := some (x.objs.filterMap (fun y => okOf (convertObj y))) })
          (note 0x0116 [3, x.schema, runSchema s2, o.kind, o.index] (run emptyObjs 0 (some k) s2))
      | none =>
        requestStore .configMigrate (note 0x0116 [1, x.schema, runSchema s2, 0, 0]
          (run (x.objs.filterMap (fun y => okOf (convertObj y))) (w32 (x.generation + 1)) (some k) s2))

/-- The transaction that the start lost is recorded (R112). -/
def tellLostTxn (s : State) : State :=
  match s.cfg.lostTxn with
  | none => s
  | some d => noteBy d 0x0114 [3, sideCode d] (onCfg (fun c => { c with lostTxn := none }) s)

end Sys2Proof.Machine
end

