-- ==== Sys2Proof/Machine/CfgFx.lean ====
section
/-! DEFINITION. The configuration commands and the idle end of a transaction (spec/03_configuration.md R110–R129). -/

namespace Sys2Proof.Machine

/-- A command of the owning side restarts the idle time (R112). -/
def ownerSeen (d : Side) (s : State) : State :=
  match s.cfg.txn with
  | some t => if t.owner = d then modTxn (fun t => { t with lastCmd := s.sys.devTime }) s else s
  | none => s

def resOn (f : State → State) : Res → Res
  | .done st d s => .done st d (f s)
  | .later s => .later (f s)

/-- A command of the group, which counts as one from the owner. -/
def cfgServe (code : Nat) (h : Org → List Byte → State → Res) : Req → State → State :=
  serve code (fun o b s => resOn (ownerSeen o.side) (h o b s))

/-- Commands that only the owner of the open transaction may send (R128). -/
def asOwner (h : Txn → Org → List Byte → State → Res) (o : Org) (b : List Byte) (s : State) : Res :=
  match s.cfg.txn with
  | some t => if t.owner = o.side then h t o b s else .done sBADOBJ [] s
  | none => .done sBADOBJ [] s

/-- The working copy cannot change: QUEUED (R117), or inside a CFG_COMMIT. -/
def fixed (t : Txn) : Bool := t.queued.isSome || t.committing

/-- CFG_OPEN (R110, R111); the next one after a failed migration starts from the converted objects (R124). -/
def cfgOpenH (o : Org) (_ : List Byte) (s : State) : Res :=
  if s.cfg.txn.isSome then .done sBUSY [] s
  else
    let full := s.sys.mode == .commission
    let objs := if full then s.cfg.salvage.getD s.cfg.active else s.cfg.active
    let t : Txn := { owner := o.side, full := full, baseGen := s.cfg.generation, objs := objs, lastCmd := s.sys.devTime }
    .done sOK (p4 s.cfg.generation ++ p1 (b01 (!full)) ++ zeros 3) (onCfg (fun c => { c with txn := some t, salvage := none }) s)

/-- CFG_WRITE_OBJECT (R98, R110, R111, R121, R129). -/
def cfgWriteObjectH : Org → List Byte → State → Res := asOwner (fun t _ b s =>
  let o : Obj := { kind := g1 b 0, index := g2 b 2, format := g2 b 4, flags := g2 b 6, body := b.drop 16 }
  let base := g4 b 12
  if fixed t then .done sBUSY [] s
  else if g4 b 8 != o.body.length then .done sBADLEN [] s
  else if o.index ≥ indices o.kind || g1 b 1 != 0 || o.flags > 1 || o.format > formatOf o.kind then .done sBADOBJ [] s
  else if o.format < formatOf o.kind then .done sSTALE [] s
  else if base != 0 && base != t.baseGen then .done sSTALE [] s
  else if !t.full && !liveChange s.cfg.active o then .done sWRONGMODE [] s
  else .done sOK [] (modTxn (fun t => { t with objs := putObj o t.objs }) s))

/-- CFG_COMMIT (R114, R117): the answer follows activation, or NO_ENERGY queues the write. -/
def cfgCommitH : Org → List Byte → State → Res := asOwner (fun t o _ s =>
  if fixed t then .done sBUSY (commitPlain s) s
  else match validate s t with
    | some f => .done (ruleStatus f.rule) (commitBody s f) s
    | none =>
      if canStore (.configSlot (some o)) s then
        .later (requestStore (.configSlot (some o)) (modTxn (fun t => { t with committing := true }) (addJob { org := o } s)))
      else
        let need : Nat := (3 * (50 + committedMj s) + 600) / 2
        let s1 := noteBy o.side 0x0112 [sideCode o.side, energyMj s, need]
          (modTxn (fun t => { t with queued := some s.sys.devTime }) s)
        .done sNOENERGY (commitPlain s) (requestStore (.configSlot none) s1))

/-- CFG_DISCARD (R112, R117). -/
def cfgDiscardH : Org → List Byte → State → Res := asOwner (fun t _ _ s =>
  if t.committing then .done sBUSY [] s else .done sOK [] (discardTxn 0 s))

/-- An object of the active configuration or of the working copy, with the generation it was read from. -/
def cfgReadObjectH (o : Org) (b : List Byte) (s : State) : Res :=
  let kind := g1 b 0
  let index := g2 b 2
  let answer : List Obj → Nat → Res := fun os gen =>
    match objIn os kind index with
    | some x => .done sOK (objBytes gen x) s
    | none => .done sNOTFOUND [] s
  if index ≥ indices kind || g1 b 1 > 1 then .done sBADOBJ [] s
  else if g1 b 1 = 0 then answer s.cfg.active s.cfg.generation
  else match s.cfg.txn with
    | some t => if t.owner = o.side then answer t.objs t.baseGen else .done sBADOBJ [] s
    | none => .done sBADOBJ [] s

/-- CFG_EXPORT (R126, R128). -/
def cfgExportH (_ : Org) (b : List Byte) (s : State) : Res :=
  if g1 b 0 > 1 || !zeroAt b 1 3 then .done sBADOBJ [] s
  else if g1 b 0 = 0 then .done sOK (bundle s s.cfg.generation s.cfg.active) s
  else match s.cfg.txn with
    | some t => .done sOK (bundle s t.baseGen t.objs) s
    | none => .done sBADOBJ [] s

/-- The objects of a bundle, converted; or the status that refuses it (R121, R127). -/
def importObjs (s : State) (b : List Byte) : Except Nat (List Obj) :=
  if 131072 < b.length then .error sBADLEN
  else if g4 b 0 != 0x42464743 || b.length < 32 || g4 b 28 != crc32 (b.take 28 ++ b.drop 32) || g2 b 4 > runSchema s then .error sBADOBJ
  else match parseObjs (g2 b 6) (b.drop 32) with
    | none => .error sBADOBJ
    | some os =>
      if os.any (fun o => convertObj o == .stale) then .error sSTALE
      else if os.any (fun o => (okOf (convertObj o)).isNone) then .error sBADOBJ
      else .ok ((os.filterMap (fun o => okOf (convertObj o))).foldl (fun a o => putObj o a) [])

/-- CFG_IMPORT (R127). -/
def cfgImportH : Org → List Byte → State → Res := asOwner (fun t _ b s =>
  if fixed t then .done sBUSY [] s
  else if g1 b 0 > 1 || !zeroAt b 1 3 then .done sBADOBJ [] s
  else match importObjs s (b.drop 4) with
    | .error st => .done st [] s
    | .ok os =>
      let objs := if g1 b 0 = 0 then (emptyObjs.filter (fun x => !os.any (fun y => y.kind == x.kind))) ++ os
        else os.foldl (fun a o => putObj o a) t.objs
      .done sOK [] (modTxn (fun t => { t with objs := objs }) s))

/-- CFG_DELETE_OBJECT (R129). -/
def cfgDeleteObjectH : Org → List Byte → State → Res := asOwner (fun t _ b s =>
  let kind := g1 b 0
  let index := g2 b 2
  if fixed t then .done sBUSY [] s
  else if g1 b 1 != 0 || index ≥ indices kind || indices kind = 1 then .done sBADOBJ [] s
  else if (objIn t.objs kind index).isNone then .done sNOTFOUND [] s
  else .done sOK [] (modTxn (fun t => { t with objs := t.objs.filter (fun x => !(x.kind == kind && x.index == index)) }) s))

/-- CFG_STATE (R129). -/
def cfgStateH (_ : Org) (_ : List Byte) (s : State) : Res :=
  match s.cfg.txn with
  | none => .done sOK (zeros 8 ++ p4 s.cfg.generation ++ zeros 4) s
  | some t =>
    .done sOK (p1 (if t.queued.isSome then 2 else 1) ++ p1 (sideCode t.owner) ++ p1 (b01 (!t.full)) ++ zeros 1 ++ p4 t.baseGen ++
      p4 s.cfg.generation ++ p4 (nsMs (s.sys.devTime - t.lastCmd) / 1000)) s

def cfgOpenFx := cfgServe 0x0101 cfgOpenH
def cfgWriteObjectFx := cfgServe 0x0102 cfgWriteObjectH
def cfgCommitFx := cfgServe 0x0103 cfgCommitH
def cfgDiscardFx := cfgServe 0x0104 cfgDiscardH
def cfgReadObjectFx := cfgServe 0x0105 cfgReadObjectH
def cfgExportFx := cfgServe 0x0106 cfgExportH
def cfgImportFx := cfgServe 0x0107 cfgImportH
def cfgDeleteObjectFx := cfgServe 0x0108 cfgDeleteObjectH
def cfgStateFx := cfgServe 0x0109 cfgStateH

/-- CFG_IDLE_TIMEOUT: the time counts only while the transaction is open and neither QUEUED nor inside a commit (R112). -/
def cfgIdleTimeoutFx (s : State) : State :=
  match s.cfg.txn with
  | some t => if fixed t then s else discardTxn 1 s
  | none => s

end Sys2Proof.Machine
end

