-- ==== Sys2Proof/Machine/ExecCfg.lean ====
section
/-! DEFINITION. The meanings of the rows of CfgFx.lean: each row's effect, then what follows every effect. -/

namespace Sys2Proof.Machine

/-- CFG_OPEN (R111). -/
def execCfgOpen (r : Req) (s : State) : Out := settle s (cfgOpenFx r s)

/-- CFG_WRITE_OBJECT (R129). -/
def execCfgWriteObject (r : Req) (s : State) : Out := settle s (cfgWriteObjectFx r s)

/-- CFG_COMMIT (R114). -/
def execCfgCommit (r : Req) (s : State) : Out := settle s (cfgCommitFx r s)

/-- CFG_DISCARD (R112). -/
def execCfgDiscard (r : Req) (s : State) : Out := settle s (cfgDiscardFx r s)

/-- CFG_READ_OBJECT (R129). -/
def execCfgReadObject (r : Req) (s : State) : Out := settle s (cfgReadObjectFx r s)

/-- CFG_EXPORT (R126). -/
def execCfgExport (r : Req) (s : State) : Out := settle s (cfgExportFx r s)

/-- CFG_IMPORT (R127). -/
def execCfgImport (r : Req) (s : State) : Out := settle s (cfgImportFx r s)

/-- CFG_DELETE_OBJECT (R129). -/
def execCfgDeleteObject (r : Req) (s : State) : Out := settle s (cfgDeleteObjectFx r s)

/-- CFG_STATE (R129). -/
def execCfgState (r : Req) (s : State) : Out := settle s (cfgStateFx r s)

/-- CFG_IDLE_TIMEOUT (R112). -/
def execCfgIdleTimeout (s : State) : Out := settle s (cfgIdleTimeoutFx s)

end Sys2Proof.Machine
end

