-- ==== Sys2Proof/Machine/ClkFx.lean ====
section
/-! DEFINITION. Clock commands and events (spec/17_clocks.md R545–R555). -/

namespace Sys2Proof.Machine

/-- REF25, RC96 and the PLLs are on: not in ICE and VAULT (R550). -/
def clocksOn (s : State) : Bool := s.sys.mode != .ice && s.sys.mode != .vault

/-- REF25_LOST: all three PLLs coast (R547). -/
def ref25LostFx (windows : Nat) (s : State) : State := clockLost 7 windows s

/-- REF25_RESTORED (R548). -/
def ref25RestoredFx (s : State) : State :=
  match s.clk.coastSince with
  | none => s
  | some t =>
    let ms := nsMs (s.sys.devTime - t)
    if !clocksOn s then s
    else noteRom 0x0F13 [ms] (onClk (fun c =>
      { c with
        coastSince := none, coastPlls := 0, coastMs := w32 (c.coastMs + ms), state := (c.state ||| 0x7) &&& ~~~0x60 }) s)

/-- PLL_LOCK_LOST with the reference present: that PLL coasts (R546). -/
def pllLockLostFx (pll : Nat) (s : State) : State :=
  if pll < 3 && !pllDown s pll && clocksOn s then clockLost (2 ^ pll) 0 (noteRom 0x0F17 [pll] s) else s

/-- RTC32_FAILED: the Spring domain switches to RC32 (R549). -/
def rtc32FailedFx (s : State) : State :=
  if s.clk.rtcFailed then s
  else noteRom 0x0F15 [1] (clkSticky 0x8 (clkState 0x80 false (onClk (fun c => { c with rtcFailed := true }) s)))

/-- RTC32_RESTORED: it has run for 10 s (R549). -/
def rtc32RestoredFx (s : State) : State :=
  if !s.clk.rtcFailed then s
  else noteRom 0x0F15 [2] (clkState 0x80 true (onClk (fun c => { c with rtcFailed := false }) s))

/-- MUX_FORCED (R545). -/
def muxForcedFx (mux old new : Nat) (s : State) : State := noteRom 0x0F11 [mux, old, new] (clkSticky 0x1 s)

/-- GATE_BUSY_TIMEOUT: the access that was outstanding ends with an error response (R553). -/
def gateBusyTimeoutFx (block initiator addr : Nat) (s : State) : State :=
  let s1 := noteRom 0x0F12 [block, initiator, addr] (clkSticky 0x2 s)
  if initiator = 2 then onSys (fun y => { y with busError := true }) s1 else s1

/-- OSC_COMPENSATION: the trim of RTC32 (item 0) or RC96 (spec/18_power_reservoir_thermal.md R579). -/
def oscCompensationFx (item : Nat) (trim : Int) (s : State) : State :=
  if item = 0 then onPower (fun p => { p with rtcOffset := trim }) s else s

/-- Nominal frequency of a source, Hz; 0 without one (R554). -/
def nominalHz (k : Nat) : Nat :=
  [25000000, 32768, 96000000, 1200000000, 600000000, 600000000, 200000000, 80000000, 125000000, 100000000, 40000000, 8192000,
    400000000, 125000000, 25000000, 25000000, 0, 0, 0, 0, 0, 0, 20000, 32768].getD k 0

/-- freq_hz and ppm of a measurement: an unstated figure where M is 0 or the figure leaves its field
(notes/assumptions/13.md). -/
def freqFigures (s : State) (measured reference n m : Nat) : List Byte :=
  let fref := nominalHz reference
  let nom := nominalHz measured
  if fref = 0 then p4 0 ++ p4 0
  else if m = 0 then
    p4 (Config.freeNat s.fresh) ++ (if nom = 0 then p4 0 else p4 (Config.freeNat (s.fresh + 1)))
  else
    let f : Rat := (n * fref : Nat) / (m : Rat)
    let hz := roundRat f
    let ppm := if nom = 0 then 0 else roundRat ((f - (nom : Rat)) * 1000000000 / (nom : Rat))
    (if hz ≤ 4294967295 then q4 hz else p4 (Config.freeNat s.fresh)) ++
      (if -2147483648 ≤ ppm && ppm ≤ 2147483647 then q4 ppm else p4 (Config.freeNat (s.fresh + 1)))

/-- FREQ_MEASURE_DONE: the gate has closed, which asks for edges of both sources (R554, R555). -/
def freqMeasureDoneFx (n m start : Nat) (s : State) : State :=
  match s.clk.measure with
  | none => s
  | some (o, a, b, _) =>
    if !sourceRuns s a || !sourceRuns s b then s
    else drawn 2 (finish o sOK (p4 n ++ p4 m ++ freqFigures s a b n m ++ p8 start)
      (onClk (fun c => { c with measure := none }) (commitJob o s)))

/-- FREQ_MEASURE_TIMEOUT: no edge for 100 ms (R554). -/
def freqMeasureTimeoutFx (s : State) : State :=
  match s.clk.measure with
  | none => s
  | some (o, _, _, _) => finish o sTIMEOUT [] (onClk (fun c => { c with measure := none }) s)

/-- CLK_STATUS. -/
def clkStatusH (_ : Org) (b : List Byte) (s : State) : Res :=
  if g1 b 0 > 1 || !zeroAt b 1 3 then .done sBADOBJ [] s
  else .done sOK (p4 (clkStateWord s) ++ p4 s.clk.sticky.toNat ++ p4 s.clk.gate0.toNat ++ p4 s.clk.gate1.toNat ++
    p4 (openWord s) ++ p4 (coastTotal s)) (if g1 b 0 = 1 then onClk (fun c => { c with sticky := 0 }) s else s)

/-- CLK_GATE, whose commit point is the register write: every gate that a write closes stands open to no block in use, so its handshake ends at once (R552, R553). -/
def clkGateH (o : Org) (b : List Byte) (s : State) : Res :=
  let r := g1 b 0
  let v : Reg := BitVec.ofNat 32 (g4 b 4)
  if r > 1 || !zeroAt b 1 3 || (v &&& gateFixed r) != (gateReset r &&& gateFixed r) then .done sBADOBJ [] s
  else
    let s1 := onClk (fun c => if r = 0 then { c with gate0 := v } else { c with gate1 := v }) s
    let s2 := noteBy o.side 0x0F16 [sideCode o.side, r, (gateReg s r).toNat, v.toNat] s1
    .later (finish o sOK (p4 (openWord s2)) (addJob { org := o } s2))

/-- CLK_MEASURE. -/
def clkMeasureH (o : Org) (b : List Byte) (s : State) : Res :=
  let gate := g4 b 4
  if g1 b 0 > 23 || g1 b 1 > 23 || g1 b 0 = g1 b 1 || !zeroAt b 2 2 || gate = 0 || gate > 1000000 then .done sBADOBJ [] s
  else if !gateOpen s 13 then .done sWRONGMODE [] s
  else if s.clk.measure.isSome then .done sBUSY [] s
  else .later (addJob { org := o } (onClk (fun c => { c with measure := some (o, g1 b 0, g1 b 1, gate) }) s))

def clkStatusFx := serve 0x0F01 clkStatusH
def clkGateFx := serve 0x0F02 clkGateH
def clkMeasureFx := serve 0x0F03 clkMeasureH

end Sys2Proof.Machine
end

