-- ==== Sys2Proof/Machine/ExecClk.lean ====
section
/-! DEFINITION. The meanings of the rows of ClkFx.lean: each row's effect, then what follows every effect. -/

namespace Sys2Proof.Machine

/-- REF25_LOST (R547). -/
def execRef25Lost (windows : Nat) (s : State) : Out := settle s (ref25LostFx windows s)

/-- REF25_RESTORED (R548). -/
def execRef25Restored (s : State) : Out := settle s (ref25RestoredFx s)

/-- PLL_LOCK_LOST (R546). -/
def execPllLockLost (pll : Nat) (s : State) : Out := settle s (pllLockLostFx pll s)

/-- RTC32_FAILED (R549). -/
def execRtc32Failed (s : State) : Out := settle s (rtc32FailedFx s)

/-- RTC32_RESTORED (R549). -/
def execRtc32Restored (s : State) : Out := settle s (rtc32RestoredFx s)

/-- MUX_FORCED (R545). -/
def execMuxForced (mux old new : Nat) (s : State) : Out := settle s (muxForcedFx mux old new s)

/-- GATE_BUSY_TIMEOUT (R553). -/
def execGateBusyTimeout (block initiator addr : Nat) (s : State) : Out := settle s (gateBusyTimeoutFx block initiator addr s)

/-- OSC_COMPENSATION (R579). -/
def execOscCompensation (item : Nat) (trim : Int) (s : State) : Out := settle s (oscCompensationFx item trim s)

/-- FREQ_MEASURE_DONE (R554). -/
def execFreqMeasureDone (n m start : Nat) (s : State) : Out := settle s (freqMeasureDoneFx n m start s)

/-- FREQ_MEASURE_TIMEOUT (R554). -/
def execFreqMeasureTimeout (s : State) : Out := settle s (freqMeasureTimeoutFx s)

/-- CLK_STATUS (R555). -/
def execClkStatus (r : Req) (s : State) : Out := settle s (clkStatusFx r s)

/-- CLK_GATE (R553). -/
def execClkGate (r : Req) (s : State) : Out := settle s (clkGateFx r s)

/-- CLK_MEASURE (R554). -/
def execClkMeasure (r : Req) (s : State) : Out := settle s (clkMeasureFx r s)

end Sys2Proof.Machine
end

