-- ==== Sys2Proof/Machine/FeltFx.lean ====
section
/-! DEFINITION. Effects of the felt, wheel and parcel rows, and of ST_READ (spec/04_felt_time.md R133–R176;
spec/03_configuration.md R132). -/

namespace Sys2Proof.Machine

/-! Felt movement. -/

/-- An encoder source counts: an encoder felt 2–5, or an Encoder station as 0x100 + its number (R138, R146). -/
def encOn (s : State) (src : Nat) : Bool :=
  if src < 8 then 2 ≤ src && src ≤ 5 && feltOn s src && feltSource s src == 2
  else 256 ≤ src && stnType s (src - 256) == 0x42

/-- Direction of an edge: +1, −1, or 0 where the mode counts nothing (R138). In QUAD_X4, A leading B is forward
(notes/assumptions/30.md). -/
def edgeDir (mode : Nat) (a0 b0 a b : Bool) : Int :=
  match mode with
  | 0 => if a0 != a then (if a != b then 1 else -1) else if b0 != b then (if a == b then 1 else -1) else 0
  | 1 => if !a0 && a then (if b then -1 else 1) else 0
  | _ => if !a0 && a then 1 else 0

/-- Sticky QERR and RATE_HIGH of a source (R139, R148; spec/03_configuration.md R132). -/
def encFlag (src bit stnBit : Nat) (s : State) : State :=
  if src < 8 then modFelt src (fun x => { x with state := setBit bit true x.state }) s
  else { s with stn := { s.stn with encFlags := tmod s.stn.encFlags (src - 256) (fun w => w ||| 2 ^ stnBit) } }

/-- An Encoder station publishes its position and rate (R146). -/
def publishEncoder (src : Nat) (s : State) : State :=
  let x := felt s src
  publish (src - 256) 0 (s32 x.pos) x.rate s.sys.devTime s

/-- A count of an encoder: a felt moves, a station's position and rate follow (R138, R146). -/
def encoderCount (src : Nat) (d : Int) (s : State) : State :=
  if src < 8 then afterMove (moveFelt 3 src d s)
  else publishEncoder src (countRate src d (modFelt src (fun y => { y with pos := u32 (y.pos + d), time := s.sys.devTime }) s))

/-- A counted edge closer than 5 µs to the one before it (R139, R178). -/
def edgeFast (src : Nat) (s : State) : State :=
  let close := match (felt s src).lastEdge with | some t => decide (s.sys.devTime - t < 5000) | none => false
  let s1 := modFelt src (fun y => { y with lastEdge := some s.sys.devTime }) s
  if close then note 0x0418 [src] (encFlag src 7 1 s1) else s1

/-- ENCODER_EDGE: filtered levels of A and B after an edge (R138, R139). -/
def encoderEdgeFx (src : Nat) (a b : Bool) (s : State) : State :=
  if !encOn s src || !feltsCount s then s
  else
    let x := felt s src
    let mode := encMode s src
    let s1 := modFelt src (fun y => { y with a := a, b := b }) (seeChans (encChans s src) [a, b] s)
    if mode = 0 && x.a != a && x.b != b then
      note 0x0417 [src, x.qerrs + 1] (encFlag src 5 0 (modFelt src (fun y => { y with qerrs := y.qerrs + 1 }) s1))
    else
      let d := edgeDir mode x.a x.b a b
      if d = 0 then s1 else encoderCount src (if encInvert s src then -d else d) (edgeFast src s1)

/-- MAINS_CROSSING; in ICE MAINS_SENSE is not watched (R394). A locked F1 completes its 256 counts, and takes part of the phase
it must make up after a relock: at most 32 counts per cycle, so within 8 cycles (R137). -/
def mainsCrossingFx (s : State) : State :=
  let x := felt s 1
  if !feltOn s 1 || feltSource s 1 != 1 || !feltsCount s then s
  else if !x.locked then
    let lost := x.state.getLsbD 6
    let gap : Nat := (256 - x.pos % 256) % 256
    let s1 := modFelt 1 (fun y =>
      { y with locked := true, advanced := 0, slew := gap, state := setBit 6 false y.state }) s
    if lost then note 0x0416 [1, gap] s1 else s1
  else
    let share := min x.slew 32
    let d : Int := 256 - (x.advanced : Int) + share
    afterMove (moveFelt 3 1 d (modFelt 1 (fun y => { y with advanced := 0, slew := y.slew - share }) s))

/-- MAINS_SOURCE_LOST: F1 holds its position (R137, R159). -/
def mainsSourceLostFx (s : State) : State :=
  if !feltOn s 1 || !(felt s 1).locked || !feltsCount s then s
  else note 0x0415 [1] (stopFelt 3 1 false (modFelt 1 (fun y => { y with locked := false, slew := 0, state := setBit 6 true y.state }) s))

/-- FELT_STALL: no count for stall_ms, or on an Encoder station for 1,000 ms (R146, R159). -/
def feltStallFx (f : Nat) (s : State) : State :=
  if !feltsCount s then s
  else if f ≥ 256 then (if encOn s f then publishEncoder f (modFelt f (fun y => { y with rate := 0, hist := [] }) s) else s)
  else if f = 0 || f ≥ 8 || !feltOn s f then s
  else stopFelt 3 f true s

/-- A remote felt that follows felt `g` of device `dev` on a bus. -/
def followsRemote (s : State) (f chan dev g : Nat) : Bool :=
  feltOn s f && feltSource s f == 4 && g1 (fbody s f) 25 == chan && g1 (fbody s f) 26 == dev && srcFelt s f == g

/-- Counts a remote felt may advance in one message period at the last rate received (R142; spec/12_priority_bus.md
R438). -/
def periodCounts (s : State) (f : Nat) (rate : Int) : Int :=
  (rate * feltNum s f * (cycleMs s (g1 (fbody s f) 25) : Nat)).tdiv ((max 1 (feltDen s f) * 1000000 : Nat) : Int)

/-- What a new message tells of a remote felt: its difference from the local position at the end of frame of the cycle's
reference message (now, where none came), and the accumulator's remainder.
The first message is compared by the position it maps to itself (notes/assumptions/141.md). -/
def remoteDiff (s : State) (f pos : Nat) : Int × Nat :=
  let x := felt s f
  match x.remote with
  | some old => let (q, r) := scaled s f (posDist old pos); (x.slewTarget + q - x.advRef.getD x.advanced, r)
  | none =>
    let acc : Int := (pos : Int) * feltNum s f
    let den : Int := max 1 (feltDen s f)
    (posDist (u32 (x.pos - (x.advanced - x.advRef.getD x.advanced))) (u32 (acc / den)), (acc % den).toNat)

/-- The counts until the next message: those of the rate and the difference, never against the direction of motion
(R142). -/
def slewCounts (x : Felt) (q diff : Int) : Int :=
  if q > 0 || (q = 0 && !x.state.getLsbD 3) then max 0 (q + diff) else min 0 (q + diff)

/-- One entry of a felt reference message reaches a remote felt (R142; spec/12_priority_bus.md R438). -/
def remoteEntry (f : Nat) (pos : Nat) (rate : Int) (s : State) : State :=
  let x := felt s f
  let (diff, r) := remoteDiff s f pos
  let q := periodCounts s f rate
  let s1 := modFelt f (fun y => { y with remote := some pos, rem := r, advanced := y.advanced - y.advRef.getD y.advanced, advRef := none, state := setBit 6 false y.state }) s
  let s2 := if x.state.getLsbD 6 then note 0x0416 [f, sField 4 diff] s1 else s1
  if diff.natAbs ≤ g4 (fbody s f) 20 then
    modFelt f (fun y =>
      { y with slewTarget := diff, state := setBit 8 (diff != 0) y.state, slew := slewCounts y q diff }) s2
  else
    afterMove (jumpFelt 3 f diff 3
      (modFelt f (fun y => { y with slewTarget := 0, slew := q, state := setBit 8 false y.state }) s2))

/-- FELT_REFERENCE_RECEIVED (R141, R142; spec/12_priority_bus.md R438). -/
def feltReferenceReceivedFx (chan ident : Nat) (data : List Byte) (s : State) : State :=
  let dev := g1 data 0
  if chan > 2 || !busUp s chan || (ch s chan).st = 0 || ident != feltIdent s chan + dev then s
  else
    let es := chunks 10 (min 6 (g1 data 2)) (data.drop 4)
    es.foldl (fun t e =>
      [6, 7].foldl (fun u f =>
        if followsRemote u f chan dev (g1 e 0) then remoteEntry f (g4 e 2) (i4 e 6) u else u) t) s

/-- REMOTE_FELT_LOST: no message for 3 periods (R142, R159). -/
def remoteFeltLostFx (f : Nat) (s : State) : State :=
  if !feltOn s f || feltSource s f != 4 || (felt s f).state.getLsbD 6 || !feltsCount s then s
  else note 0x0415 [f] (stopFelt 3 f false (modFelt f (fun y => { y with state := setBit 6 true (setBit 8 false y.state), slew := 0 }) s))

/-- A running felt without a row for each count moves on: F0 by microseconds of device time, F1 within its cycle, a
remote felt within its period's worth (R136, R137, R142). -/
def runOn (f adv : Nat) (s : State) : State :=
  let x := felt s f
  if adv = 0 then s
  else if f = 0 then passTime (adv * 1000) s
  else if f = 1 then
    let d := min adv (255 - x.advanced.toNat)
    if !x.locked || d = 0 then s else moveFelt 3 1 d (modFelt 1 (fun y => { y with advanced := y.advanced + d }) s)
  else if feltOn s f && feltSource s f = 4 then
    let left : Nat := x.slew.natAbs - x.advanced.natAbs
    let d : Int := if x.slew < 0 then -(min adv left : Nat) else (min adv left : Nat)
    if d = 0 || x.state.getLsbD 6 then s
    else moveFelt 3 f d (modFelt f (fun y =>
      { y with advanced := y.advanced + d, state := if y.advanced + d = y.slew then setBit 8 false y.state else y.state }) s)
  else s

/-- WHEEL_DISPATCH: a felt reaches entries (R151–R156). -/
def wheelDispatchFx (f adv : Nat) (s : State) : State := afterMove (dispatchDue f (runOn f adv s))

/-! Parcels. -/

/-- PARCEL_CLOSE (R163): not before start + parcel_len; an extended parcel closes where the felt stands. -/
def parcelCloseFx (z : Nat) (s : State) : State := cutDue z s

/-- PARCEL_LEAVE (R165). -/
def parcelLeaveFx (z : Nat) (s : State) : State := if z < 16 && forwardFelt s z then leaveAll z s else s

/-- PARCEL_HANDOFF_RECEIVED: a hand-off frame of an upstream device (R167; spec/12_priority_bus.md R440). -/
def parcelHandoffReceivedFx (chan ident : Nat) (data : List Byte) (s : State) : State :=
  if chan > 3 || !busUp s chan || (ch s chan).st = 0 || !handoffOn s chan then s
  else (zonesOn s).foldl (fun t z =>
    if upstreamDev t z != 0xFF && upstreamDev t z != plantAddr t &&
        ident == handoffIdent t chan + upstreamDev t z * 16 + upstreamZone t z then adopt z (g4 data 0) t else t) s

/-- PARCEL_HANDOFF_TIMEOUT: the frame was not sent within 100 ms; a moved one counts as sent (R168, R440). -/
def parcelHandoffTimeoutFx (z id : Nat) (s : State) : State :=
  let mine := fun (f : TxFrame) => f.what == 4 && f.parcel == id && f.slot == z && !f.moved
  if !([0, 1, 2, 3].any (fun c => (ch s c).pending.any mine || (ch s c).overflow.any mine)) then s
  else
    let s1 := [0, 1, 2, 3].foldl (fun t c => modCh c (fun k =>
      { k with pending := k.pending.filter (fun f => !mine f), overflow := k.overflow.filter (fun f => !mine f) }) t) s
    let flag := fun (p : Parcel) => if p.id = id && p.zone = z then { p with flags := p.flags ||| 0x800 } else p
    note 0x0441 [z, id] (onFelt (fun x => { x with history := x.history.map flag, leaving := x.leaving.map flag }) s1)

/-- ADOPTION_GAP: parcel_len counts without an arrival (R167). -/
def adoptionGapFx (z : Nat) (s : State) : State :=
  if z ≥ 16 || zoneParcelLen s z = 0 || upstreamDev s z = 0xFF || !zoneRunning s z || !forwardFelt s z then s
  else match (parcels s z).find? isOpen with
    | some p =>
      let stop := w32 (p.start + zoneParcelLen s z)
      if decide (posDist (zonePos s z) stop > 0) then s else cutParcel z stop stop 0x8 s
    | none => cutParcel z (zonePos s z) (zonePos s z) 0x8 s

/-! Commands. -/

/-- FELT_STATUS (R170). -/
def feltStatusH (_ : Org) (b : List Byte) (s : State) : Res :=
  let f := g1 b 0
  if f > 7 || g1 b 1 > 1 || !zeroAt b 2 2 then .done sBADOBJ [] s
  else .done sOK ((mirror s f).flatMap p4)
    (if g1 b 1 = 1 then modFelt f (fun x => { x with state := setBit 9 false (setBit 7 false (setBit 5 false x.state)) }) s else s)

/-- FELT_SET (R171). -/
def feltSetH (_ : Org) (b : List Byte) (s : State) : Res :=
  let f := g1 b 0
  if f < 2 || f > 7 || !zeroAt b 1 3 || g1 (objBody s 4 f) 0 = 4 then .done sBADOBJ [] s
  else if !feltOn s f then .done sNOTFOUND [] s
  else if (zonesOf s f).any (fun z => zoneRunning s z) then .done sWRONGMODE [] s
  else .done sOK [] (afterMove (jumpFelt 3 f (posDist (felt s f).pos (g4 b 4)) 1 s))

/-- The kind of an entry matches its station's type (R172). -/
def kindMatches (s : State) (kind n : Nat) : Bool :=
  match kind with
  | 2 => isWeir s n || isIsland s n
  | 3 => isFieldOut s n || isLoopOut s n || isProp s n
  | _ => isInj s n

/-- The value of an entry is in the station's range (R172, R383, R384, R412). -/
def entryValueOk (s : State) (kind n : Nat) (v : Int) : Bool :=
  match kind with
  | 3 => if isFieldOut s n then v == 0 || v == 1 else if isLoopOut s n then 3800 ≤ v && v ≤ 20500
         else 0 ≤ v && v ≤ iMax s (stnTerm s n)
  | 4 => 100 ≤ v && v ≤ 10000000
  | _ => v == 0

/-- WHEEL_SCHEDULE (R149–R157, R172). -/
def wheelScheduleH (o : Org) (b : List Byte) (s : State) : Res :=
  let f := g1 b 0
  let kind := g1 b 1
  let n := g2 b 8
  let v := i4 b 12
  if f > 7 || kind = 0 || kind > 4 || g1 b 2 > 2 || g1 b 3 > 1 || g2 b 10 != 0 || (kind = 1 && (n != 0xFFFF || v != 0)) then
    .done sBADOBJ [] s
  else if !feltOn s f && f != 0 then .done sNOTFOUND [] s
  else if kind != 1 && (n ≥ 128 || (stn s n).isEmpty) then .done sNOTFOUND [] s
  else if kind != 1 && (!kindMatches s kind n || !entryValueOk s kind n v) then .done sBADOBJ [] s
  else if kind ≥ 3 && inRunningZone s n && !(o.side == .app && zoneProg s (stnZone s n) == 1) then .done sWRONGMODE [] s
  else
    let d := posDist (felt s f).pos (g4 b 4)
    let e : Entry :=
      { owner := .side o.side, felt := f, kind := kind, policy := g1 b 2, report := g1 b 3, pos := g4 b 4,
        station := n, value := v, cookie := g4 b 16 }
    let h := s.felt.nextHandle
    if d > (horizon (slotK s f) : Int) then .done sLIMIT [] s
    else if d ≤ 0 then
      .done sOK (p4 h ++ q4 d)
        (actEntry { e with handle := h } 1 (nextHandle s))
    else match roomFor s e with
      | none => .done sWHEELFULL [] (wheelFull e s)
      | some sp =>
        if kind = 4 && overlapAtPlanning s e then .done sOVERLAP [] s
        else .done sOK (p4 h ++ q4 d) (putEntry e sp s)

/-- WHEEL_CANCEL (R173). -/
def wheelCancelH (o : Org) (b : List Byte) (s : State) : Res :=
  let mine := fun (e : Entry) => e.handle == g4 b 0 && e.owner == .side o.side
  if s.felt.entries.any mine then .done sOK [] (endEntries mine 7 s) else .done sNOTFOUND [] s

/-- WHEEL_STATUS (R175). -/
def wheelStatusH (_ : Org) (b : List Byte) (s : State) : Res :=
  let f := g1 b 0
  let es := entriesOn s f
  let w := worstSlot es (slotK s f)
  if f > 7 || !zeroAt b 1 3 then .done sBADOBJ [] s
  else .done sOK (p4 es.length ++ p4 (es.filter (·.spilled)).length ++ p4 (poolUsed s) ++ p2 w.1 ++ p2 w.2 ++
    p1 (slotK s f) ++ p1 (suggestedK s f) ++ zeros 2 ++ p4 (horizon (slotK s f))) s

/-- WHEEL_WAIT (R174). -/
def wheelWaitH (o : Org) (_ : List Byte) (s : State) : Res := .later (addJob { org := { o with bg := true } } s)

/-- PARCEL_READ (R176). -/
def parcelReadH (_ : Org) (b : List Byte) (s : State) : Res :=
  let z := g1 b 0
  let n := g2 b 2
  let ps := parcels s z
  if z > 15 || g1 b 1 > 1 || n = 0 || n > 4096 then .done sBADOBJ [] s
  else if !zonePresent s z then .done sNOTFOUND [] s
  else
    let rest := if g1 b 1 = 0 then ps.dropWhile (fun p => p.id != g4 b 4) else ps.drop (g4 b 4)
    if rest.isEmpty then .done sNOTFOUND [] s
    else .done sOK (p2 (rest.take n).length ++ zeros 2 ++ (rest.take n).flatMap (parcelRecord s)) s

/-- PARCEL_HISTORY (R176): a background read of NAND. -/
def parcelHistoryH (o : Org) (b : List Byte) (s : State) : Res :=
  if g1 b 0 > 15 || !zeroAt b 1 7 then .done sBADOBJ [] s
  else if !zonePresent s (g1 b 0) then .done sNOTFOUND [] s
  else .later (addJob { org := { o with bg := true }, a := g1 b 0, data := b } s)

/-- PARCEL_HISTORY_COMPLETE: the records of the zone that entered within the span (R176). -/
def parcelHistoryCompleteFx (d : Side) (sluice tag : Nat) (s : State) : State :=
  match (waitingJobs s 0x0407).find? (fun j => j.org.side == d && j.org.sluice == sluice && j.org.tag == tag) with
  | none => s
  | some j =>
    let rs := (s.felt.history.filter (fun p =>
      p.zone == j.a && decide (i8 j.data 8 ≤ p.enteredAt) && decide (p.enteredAt ≤ i8 j.data 16))).take 16383
    finish j.org sOK (p2 rs.length ++ zeros 2 ++ rs.flatMap (parcelRecord s)) s

def feltStatusFx := serve 0x0401 feltStatusH
def feltSetFx := serve 0x0402 feltSetH
def wheelScheduleFx := serve 0x0403 wheelScheduleH
def wheelCancelFx := serve 0x0404 wheelCancelH
def wheelStatusFx := serve 0x0405 wheelStatusH
def parcelReadFx := serve 0x0406 parcelReadH
def parcelHistoryFx := serve 0x0407 parcelHistoryH
def wheelWaitFx (r : Req) (s : State) : State := serveWheelWait r.side (serve 0x0408 wheelWaitH r s)

/-! ST_READ (spec/03_configuration.md R132). -/

/-- One 24-byte entry. DESIGN CHOICE: the flag word of a station without a published value reads 0 (notes/assumptions/139.md). -/
def stEntry (s : State) (n : Nat) : List Byte :=
  let v := tget s.stn.vals n
  let present := objIn s.cfg.active 2 n
  let state := match present with
    | none => 0
    | some o => if o.flags % 2 = 0 then 1 else if v.published then 3 else 2
  let ty := match present with | some o => g2 o.body 0 | none => 0
  let enc := ty == 0x42
  p2 n ++ p2 (if enc then tget s.stn.encFlags n else if state = 3 then v.flags else 0) ++ p1 state ++ zeros 1 ++ p2 ty ++
    q4 (if state = 3 then v.value else invalidValue) ++ q4 (if state = 3 then v.aux else 0) ++ p8 (if state = 3 then v.time else 0)

/-- ST_READ. -/
def stReadH (_ : Org) (b : List Byte) (s : State) : Res :=
  let first := g2 b 0
  let n := g2 b 2
  if first > 127 || n = 0 || n > 128 || first + n > 128 then .done sBADOBJ [] s
  else
    let ns := (List.range n).map (· + first)
    .done sOK (p2 n ++ zeros 2 ++ ns.flatMap (stEntry s))
      { s with stn := { s.stn with encFlags := s.stn.encFlags.filter (fun e => !ns.contains e.1) } }

def stReadFx := serve 0x0201 stReadH

end Sys2Proof.Machine
end

