-- ==== Sys2Proof/Machine/ExecFelt.lean ====
section
/-! DEFINITION. The meanings of the rows of FeltFx.lean: each row's effect, then what follows every effect. -/

namespace Sys2Proof.Machine

/-- ST_READ (R132). -/
def execStRead (r : Req) (s : State) : Out := settle s (stReadFx r s)

/-- ENCODER_EDGE (R138). -/
def execEncoderEdge (src : Nat) (a b : Bool) (s : State) : Out := settle s (encoderEdgeFx src a b s)

/-- MAINS_CROSSING (R137). -/
def execMainsCrossing (s : State) : Out := settle s (mainsCrossingFx s)

/-- MAINS_SOURCE_LOST (R137). -/
def execMainsSourceLost (s : State) : Out := settle s (mainsSourceLostFx s)

/-- FELT_STALL (R159). -/
def execFeltStall (felt : Nat) (s : State) : Out := settle s (feltStallFx felt s)

/-- FELT_REFERENCE_RECEIVED (R438). -/
def execFeltReferenceReceived (chan : Nat) (ident : Nat) (data : List Byte) (s : State) : Out := settle s (feltReferenceReceivedFx chan ident data s)

/-- REMOTE_FELT_LOST (R142). -/
def execRemoteFeltLost (felt : Nat) (s : State) : Out := settle s (remoteFeltLostFx felt s)

/-- WHEEL_DISPATCH (R151). -/
def execWheelDispatch (felt adv : Nat) (s : State) : Out := settle s (wheelDispatchFx felt adv s)

/-- PARCEL_CLOSE (R163). -/
def execParcelClose (zone : Nat) (s : State) : Out := settle s (parcelCloseFx zone s)

/-- PARCEL_LEAVE (R165). -/
def execParcelLeave (zone : Nat) (s : State) : Out := settle s (parcelLeaveFx zone s)

/-- PARCEL_HANDOFF_RECEIVED (R167). -/
def execParcelHandoffReceived (chan ident : Nat) (data : List Byte) (s : State) : Out := settle s (parcelHandoffReceivedFx chan ident data s)

/-- PARCEL_HANDOFF_TIMEOUT (R168). -/
def execParcelHandoffTimeout (zone parcel : Nat) (s : State) : Out := settle s (parcelHandoffTimeoutFx zone parcel s)

/-- ADOPTION_GAP (R167). -/
def execAdoptionGap (zone : Nat) (s : State) : Out := settle s (adoptionGapFx zone s)

/-- FELT_STATUS (R170). -/
def execFeltStatus (r : Req) (s : State) : Out := settle s (feltStatusFx r s)

/-- FELT_SET (R171). -/
def execFeltSet (r : Req) (s : State) : Out := settle s (feltSetFx r s)

/-- WHEEL_SCHEDULE (R172). -/
def execWheelSchedule (r : Req) (s : State) : Out := settle s (wheelScheduleFx r s)

/-- WHEEL_CANCEL (R173). -/
def execWheelCancel (r : Req) (s : State) : Out := settle s (wheelCancelFx r s)

/-- WHEEL_STATUS (R175). -/
def execWheelStatus (r : Req) (s : State) : Out := settle s (wheelStatusFx r s)

/-- PARCEL_READ (R176). -/
def execParcelRead (r : Req) (s : State) : Out := settle s (parcelReadFx r s)

/-- PARCEL_HISTORY (R176). -/
def execParcelHistory (r : Req) (s : State) : Out := settle s (parcelHistoryFx r s)

/-- PARCEL_HISTORY_COMPLETE (R176). -/
def execParcelHistoryComplete (side : Side) (sluice tag : Nat) (s : State) : Out := settle s (parcelHistoryCompleteFx side sluice tag s)

/-- WHEEL_WAIT (R174). -/
def execWheelWait (r : Req) (s : State) : Out := settle s (wheelWaitFx r s)

end Sys2Proof.Machine
end

