-- ==== Sys2Proof/Machine/FieldFx.lean ====
section
/-! DEFINITION. Effects of the field I/O and loop rows (spec/11_field_io.md R392–R414). -/

namespace Sys2Proof.Machine

/-- FIO_SET (R412). -/
def fioSetH (o : Org) (b : List Byte) (s : State) : Res :=
  let n := g2 b 0
  let v := i4 b 4
  if g2 b 2 != 0 then .done sBADOBJ [] s
  else if n ≥ 128 || (stn s n).isEmpty then .done sNOTFOUND [] s
  else if !isFieldOut s n || !(v == 0 || v == 1) then .done sBADOBJ [] s
  else if inRunningZone s n then .done sWRONGMODE [] s
  else .done sOK [] (driveField n v (modFld n (fun f => { f with latched := false, commander := some o.side }) s))

/-- LOOP_SET (R405, R412). -/
def loopSetH (o : Org) (b : List Byte) (s : State) : Res :=
  let n := g2 b 0
  let v := i4 b 4
  if g2 b 2 != 0 then .done sBADOBJ [] s
  else if n ≥ 128 || (stn s n).isEmpty then .done sNOTFOUND [] s
  else if !isLoopOut s n || v < 3800 || v > 20500 then .done sBADOBJ [] s
  else if inRunningZone s n then .done sWRONGMODE [] s
  else .done sOK [] (driveField n v (modFld n (fun f => { f with latched := false, commander := some o.side }) s))

/-- Duration of the current or latest fault (R413). -/
def faultMsNow (s : State) : Nat := if s.field.live then nsMs (s.sys.devTime - s.field.faultAt) else s.field.faultMs

/-- Channels whose role is Input: of Field input and Encoder stations, and of ENCODER felts (R390). -/
def inputMask (s : State) : Nat :=
  let felts := [2, 3, 4, 5].filter (fun f => feltOn s f && feltSource s f == 2)
  fioMask s (fun n => isFieldIn s n || stnType s n == 0x42) |||
    maskOf (List.range 32) (fun t => felts.any (fun f => (encChans s f).contains t))

/-- FIO_STATUS (R413). -/
def fioStatusH (_ : Org) (b : List Byte) (s : State) : Res :=
  let body := p4 (inputMask s &&& s.field.levels.toNat) ++ p4 (outCmd s) ++ p4 (outMon s) ++
    p4 (fioMask s (fun n => isFieldOut s n && (fld s n).latched)) ++ p4 s.field.mask.toNat ++
    p1 (b01 s.field.live + b01 s.field.sticky * 2) ++ zeros 3 ++ q4 s.power.vfieldIo ++ p4 s.field.faultCount ++
    p4 (faultMsNow s)
  if g1 b 0 > 1 || !zeroAt b 1 3 then .done sBADOBJ [] s
  else .done sOK body (if g1 b 0 = 1 then onField (fun f => { f with sticky := f.live }) s else s)

/-- A mask names only monitored channels and splits no parallel group (R414). -/
def maskOk (s : State) (m : Nat) : Bool :=
  (List.range 32).all (fun t => !bitOf m t ||
    match stationAt s 4 t with
    | some n => isFieldOut s n && (stnTerms s n).all (fun u => bitOf m u)
    | none => false)

/-- FIO_FAULT_MASK (R414). -/
def fioFaultMaskH (o : Org) (b : List Byte) (s : State) : Res :=
  if !maskOk s (g4 b 0) then .done sBADOBJ [] s
  else .done sOK [] (refreshFault (noteBy o.side 0x0A12 [sideCode o.side, g4 b 0]
    (onField (fun f => { f with mask := BitVec.ofNat 32 (g4 b 0) }) s)))

/-- LOOP_STATUS (R414). The terminal voltage is a free value where no event has told it (notes/assumptions/17.md). -/
def loopStatusH (_ : Org) (b : List Byte) (s : State) : Res :=
  let n := g2 b 0
  if g2 b 2 != 0 then .done sBADOBJ [] s
  else if n ≥ 128 || (stn s n).isEmpty then .done sNOTFOUND [] s
  else if !isLoopOut s n then .done sBADOBJ [] s
  else
    let mv := match (fld s n).termMv with | some v => v | none => s32 (Config.freeNat s.fresh)
    .done sOK (q4 (fld s n).value ++ q4 (loopNow s n) ++ p2 (fieldFlags s n) ++ p1 (g1 (stnPart s n) 0) ++ zeros 1 ++ q4 mv)
      (drawn 1 s)

def fioSetFx := serve 0x0A01 fioSetH
def fioStatusFx := serve 0x0A02 fioStatusH
def fioFaultMaskFx := serve 0x0A03 fioFaultMaskH
def loopSetFx := serve 0x0A04 loopSetH
def loopStatusFx := serve 0x0A05 loopStatusH

/-- Field stations work: not in BOOT, RECOVERY, ICE and VAULT (R390, R397). -/
def fieldRuns (s : State) : Bool :=
  match s.sys.mode with | .commission | .run | .hold | .still => !stopping s | _ => false

/-- An input station whose limiter has its supply (R403). -/
def inputRuns (s : State) (n : Nat) : Bool := fieldRuns s && isFieldIn s n && !s.field.noSupply

/-- In STILL a wake input wakes the device (R44, R397). -/
def inputWakes (n : Nat) (s : State) : State :=
  if s.sys.mode = .still && wakeFio s (stnTerm s n) then wakeFrom 2 s else s

/-- FIO_INPUT_CHANGE: a debounced level, and for LEVEL its change with the time of its first sample (R392); the zones take
it at that moment (R323, R331, R337, R344). -/
def fioInputChangeFx (n : Nat) (level : Bool) (at_ : Nat) (s : State) : State :=
  if !inputRuns s n || inLevel s n == level then s
  else
    let s1 := seeLevel n level s
    if inMode s n != 0 then s1
    else
      let s2 := publishField n (min at_ s.sys.devTime) (modFld n (fun f => { f with value := levelValue s1 n }) s1)
      inputWakes n (zonesInput n s2)

/-- FIO_COUNT_EDGE: one accepted rising edge; one closer than 50 µs to the one before it sets RATE_HIGH (R392;
notes/assumptions/152.md). -/
def fioCountEdgeFx (n : Nat) (s : State) : State :=
  if !inputRuns s n || inMode s n = 0 then s
  else
    let now := s.sys.devTime
    let fast := match (fld s n).lastEdge with | some t => decide (now < t + 50000) | none => false
    let s1 := modFld n (fun f =>
      { f with
        count := w32 (f.count + 1), rateHigh := fast, lastEdge := some now,
        value := if inMode s n = 1 then s32 (f.count + 1) else f.value }) (seeLevel n true s)
    let s2 := if fast then note 0x0A13 [n] s1 else s1
    inputWakes n (if inMode s n = 1 then zonesInput n (publishField n now s2) else s2)

/-- FIO_FREQ_GATE: edges of the gate, scaled to Hz and rounded (R392). -/
def fioFreqGateFx (n : Nat) (s : State) : State :=
  let gate := g4 (stnPart s n) 8
  let now := s.sys.devTime
  if !fieldRuns s || !isFieldIn s n || inMode s n != 2 || now < (fld s n).gateStart + gate * 1000000 then s
  else zonesInput n (publishField n now
    (modFld n (fun f => { f with value := roundDiv (f.count * 1000) gate, count := 0, gateStart := now }) s))

/-- The blanking time of an output is over, and 2 ms more have passed (R399). -/
def blankingOver (s : State) (n : Nat) : Bool :=
  match (fld s n).switchedAt with
  | some t => decide (t + (if (fld s n).value != 0 then 12000000 else 7000000) ≤ s.sys.devTime)
  | none => true

/-- FIO_OUTPUT_FAULT: a monitored output has been at fault for 2 ms after blanking (R399, R400). -/
def fioOutputFaultFx (n : Nat) (s : State) : State :=
  if !fieldRuns s || !isFieldOut s n || !blankingOver s n then s else refreshFault (modFld n (fun f => { f with faulted := true }) s)

/-- FIO_OUTPUT_FAULT_CLEAR: that output's condition ends (R400). -/
def fioOutputFaultClearFx (n : Nat) (s : State) : State :=
  if !isFieldOut s n then s else refreshFault (modFld n (fun f => { f with faulted := false }) s)

/-- OUTPUT_CMD_TIMEOUT (R398); during re-execution the output latch holds, and the timeout acts at its end (R40). -/
def outputCmdTimeoutFx (n : Nat) (s : State) : State := if s.absorb.reexecuting then s else outputTimeout n s

/-- LOOP_OUTPUT_DEVIATION: 10 ms away from the setpoint, as slewed, by more than 50 µA, or open (R406). -/
def loopOutputDeviationFx (n : Nat) (ua mv : Int) (s : State) : State :=
  let f := fld s n
  let goal := loopTarget s n s.sys.devTime
  if !fieldRuns s || !isLoopOut s n || (goal - ua).natAbs ≤ 50 then s
  else
    let isOpen := goal ≥ 3600 && ua < 100
    let s1 := publishField n s.sys.devTime (modFld n (fun f =>
      { f with measured := ua, termMv := some mv, openLoop := f.openLoop || isOpen, loopFault := f.loopFault || !isOpen }) s)
    if isOpen then (if f.openLoop then s1 else note 0x0A32 [n] s1)
    else if f.loopFault then s1 else note 0x0A31 [n, goal, ua] s1

/-- LOOP_OUTPUT_RECOVERED: 100 ms within 50 µA of the setpoint (R406). -/
def loopOutputRecoveredFx (n : Nat) (ua mv : Int) (s : State) : State :=
  if !fieldRuns s || !isLoopOut s n || (ua - loopTarget s n s.sys.devTime).natAbs > 50 then s
  else publishField n s.sys.devTime
    (modFld n (fun f => { f with measured := ua, termMv := some mv, loopFault := false, openLoop := false }) s)

end Sys2Proof.Machine
end

