-- ==== Sys2Proof/Machine/ExecField.lean ====
section
/-! DEFINITION. The meanings of the rows of FieldFx.lean: each row's effect, then what follows every effect. -/

namespace Sys2Proof.Machine

/-- FIO_INPUT_CHANGE (R392). -/
def execFioInputChange (station : Nat) (level : Bool) (at_ : Nat) (s : State) : Out := settle s (fioInputChangeFx station level at_ s)

/-- FIO_COUNT_EDGE (R392). -/
def execFioCountEdge (station : Nat) (s : State) : Out := settle s (fioCountEdgeFx station s)

/-- FIO_FREQ_GATE (R392). -/
def execFioFreqGate (station : Nat) (s : State) : Out := settle s (fioFreqGateFx station s)

/-- FIO_OUTPUT_FAULT (R399). -/
def execFioOutputFault (station : Nat) (s : State) : Out := settle s (fioOutputFaultFx station s)

/-- FIO_OUTPUT_FAULT_CLEAR (R400). -/
def execFioOutputFaultClear (station : Nat) (s : State) : Out := settle s (fioOutputFaultClearFx station s)

/-- OUTPUT_CMD_TIMEOUT (R398). -/
def execOutputCmdTimeout (station : Nat) (s : State) : Out := settle s (outputCmdTimeoutFx station s)

/-- LOOP_OUTPUT_DEVIATION (R406). -/
def execLoopOutputDeviation (station : Nat) (ua mv : Int) (s : State) : Out := settle s (loopOutputDeviationFx station ua mv s)

/-- LOOP_OUTPUT_RECOVERED (R406). -/
def execLoopOutputRecovered (station : Nat) (ua mv : Int) (s : State) : Out := settle s (loopOutputRecoveredFx station ua mv s)

/-- FIO_SET (R412). -/
def execFioSet (r : Req) (s : State) : Out := settle s (fioSetFx r s)

/-- FIO_STATUS (R413). -/
def execFioStatus (r : Req) (s : State) : Out := settle s (fioStatusFx r s)

/-- FIO_FAULT_MASK (R414). -/
def execFioFaultMask (r : Req) (s : State) : Out := settle s (fioFaultMaskFx r s)

/-- LOOP_SET (R412). -/
def execLoopSet (r : Req) (s : State) : Out := settle s (loopSetFx r s)

/-- LOOP_STATUS (R414). -/
def execLoopStatus (r : Req) (s : State) : Out := settle s (loopStatusFx r s)

end Sys2Proof.Machine
end

