-- ==== Sys2Proof/Machine/AbortOps.lean ====
section
/-! DEFINITION. The end of a command by an abort, and of a session with all it left (spec/02_sluices.md R77, R78, R84;
spec/13_line_uplink.md R463). -/

namespace Sys2Proof.Machine

/-- The charger starts where it may run. -/
def startCharger (s : State) : State := onPower (fun p => { p with charging := chargerRuns p p.vhold }) s

/-- What a command had set going before its commit point is given up. -/
def giveUp (j : Job) (s : State) : State :=
  match j.org.code with
  | 0x0501 =>
    if s.mail.jobs.any (fun x => x.org.code == 0x0501 && x.a == j.a) then s else modWst j.a (fun x => { x with running := false }) s
  | 0x0702 => endCapture s
  | 0x0703 => onEngine (fun e => { e with loopForced := none }) s
  | 0x0802 =>
    match (wch s j.a).pending with
    | some q =>
      if q.org != some j.org then s
      else
        let s1 := modW j.a (fun w => { w with pending := none, lastStatus := sABORTED }) s
        if q.kind != 6 && q.kind != 7 then s1
        else
          let s2 := modW j.a (fun w => { w with next := w.displaced, displaced := none }) s1
          if (wch s j.a).displaced.isSome then s2 else cancelStore (.islandCycle j.a) s2
    | none => s
  | 0x0803 => modW j.a (fun w => { w with windows := w.windows.filter (fun y => y.org != j.org) }) s
  | 0x0902 => [0, 1, 2].foldl (fun t b => modBank b (fun k => { k with queue := k.queue.filter (fun p => p.org != some j.org) }) t) s
  | 0x0D03 =>
    onFsh (fun f => { f with staged := tdel f.staged j.a })
      (onPower (fun p => { p with stores := p.stores.filter (fun x => x.act != .freshetStage j.a) }) s)
  | 0x0F03 => onClk (fun c => { c with measure := none }) s
  | 0x0F22 => startCharger (onPower (fun p => { p with measuring := 0 }) s)
  | _ => onPower (fun p =>
      { p with stores := p.stores.filter (fun x => match x.act with
          | .reamFloor o _ => o != j.org
          | .ageRebase o _ => o != j.org
          | .floor _ _ o => o != some j.org
          | .netKey o _ => o != j.org
          | _ => true) }) s

/-- A command not past its commit point ends as ABORTED, without effect. -/
def abortJob (j : Job) (s : State) : State :=
  match j.org.code with
  | 0x0103 => abortCommit j.org s
  | 0x0606 => abortParams (finish j.org sABORTED [] s)
  | _ => giveUp j (finish j.org sABORTED [] s)

/-! The end of a session. -/

/-- What a closing session leaves outstanding ends as an abort would end it, with its final answer (R77, R84;
notes/assumptions/102.md): a request not yet served, a command before its commit point; an answer that is due is placed. -/
def endOutstanding (d : Side) (s : State) : State :=
  let s1 := (List.range 16).foldl (fun t n =>
    match ownSluice t d n with
    | some sl => match sl.held with | some q => endHeld d n q sABORTED t | none => t
    | none => t) s
  (s1.mail.jobs.filter (fun j => j.org.side == d)).foldl (fun t j =>
    match j.answer with
    | some (st, data) => answerJob j.org st data t
    | none => if j.committed then t else abortJob j t) s1

/-- Notices of a side that no RELEASE has taken (R84). -/
def lostNotices (s : State) (d : Side) : Nat :=
  (s.mail.notices.filter (fun q => q.side == d)).length +
    (s.mail.sluices.filter (fun e => e.2.owner == some d && e.2.role == 1 && e.2.noticeOut)).length

/-- A session ends: its sluices are released, its notices are discarded, and so are its subscriptions, its queues and a
transaction it had opened (R463, R84; spec/03_configuration.md R112; notes/assumptions/153.md). A command past its commit point goes on. -/
def endSession (k cause : Nat) (x : Session) (s : State) : State :=
  let d : Side := .udp k
  let lost := lostNotices s d
  let s1 := onMail (fun m =>
    { m with sluices := m.sluices.filter (fun e => e.2.owner != some d), notices := m.notices.filter (fun q => q.side != d) }) s
  let owed := s1.mail.jobs.any (fun j => j.org.side == d)
  let s2 := onFelt (fun x => { x with outcomes := tdel x.outcomes (sideIx d) }) (onNet (fun n => { n with sessions := tdel n.sessions k, ended := if owed then tset n.ended k x else n.ended }) s1)
  let s2 := onBus (fun b => { b with subs := b.subs.filter (fun x => x.side != d), queues := tdel b.queues (sideIx d) }) s2
  let s3 := match s2.cfg.txn with | some t => if t.owner = d then discardTxn 2 s2 else s2 | none => s2
  let s4 := if lost = 0 then s3 else note 0x0026 [x.id, lost] s3
  note 0x0C11 [x.id, x.addr, cause] s4

/-- A session closes. At a reset, cause 5, its commands end without an answer (R92). -/
def closeSession (k cause : Nat) (s : State) : State :=
  match tfind s.net.sessions k with
  | none => s
  | some x => endSession k cause x (if cause = 5 then s else endOutstanding (.udp k) s)

/-- Every open session ends. -/
def closeSessions (cause : Nat) (s : State) : State := s.net.sessions.foldl (fun t e => closeSession e.1 cause t) s

/-- A store of the line key is done; its answer goes before the sessions do (R461, R469). -/
def keyStored (o : Org) (key : List Byte) (s : State) : State :=
  closeSessions 4 (answerJob o sOK [] (commitJob o (noteBy o.side 0x0C15 [sideCode o.side] (onNet (fun n => { n with key := some key }) s))))

end Sys2Proof.Machine
end

