-- ==== Sys2Proof/Machine/WatermarkFx.lean ====
section
/-! DEFINITION. Effects of the Watermark rows: link, records, seal, starts, parameters, tap and commands
(spec/06_watermark.md R220–R259). -/

namespace Sys2Proof.Machine

/-! Commands (R257–R259). -/

/-- Seal byte of WM_LEGAL_ID and WM_STATUS. -/
def sealByte (s : State) : Nat := b01 s.island.sealPin + b01 s.island.tampered * 128

/-- Version of the installed Watermark image (spec/00_scope.md R2). -/
def wmVersion (s : State) : List Nat :=
  (installedImg s 3).version

/-- SHA-256 digest of the installed Watermark image (R236). -/
def wmDigest (s : State) : List Byte :=
  (installedImg s 3).digest

/-- The first four digest bytes, the first one most significant (R236). -/
def wmCheck (s : State) : Nat := beNat (fit 4 (wmDigest s))

def asciiName (n : Nat) (cs : List Nat) : List Byte := fit n (cs.map (BitVec.ofNat 8))

/-- WM_LEGAL_ID (R236, R258). -/
def wmLegalIdH (_ : Org) (_ : List Byte) (s : State) : Res :=
  if !s.sys.legal then .done sUNKNOWN [] s
  else if linkDown s then .done sTIMEOUT [] s
  else .done sOK (asciiName 12 [87, 65, 84, 69, 82, 77, 65, 82, 75] ++ (wmVersion s).flatMap p1 ++ p1 (sealByte s) ++
    p4 (wmCheck s) ++ p4 (paramCrc s) ++ p4 (s.island.trail.length - 1) ++ p2 s.island.epoch ++ zeros 2) s

/-- The ordering code (spec/00_scope.md R3), in ASCII. -/
def orderCode (s : State) : List Byte := asciiName 16 [88, 83, 82, 55, 45, 66, if s.sys.legal then 77 else 80, 49]

/-- WM_KEY (R246, R258). -/
def wmKeyH (_ : Org) (_ : List Byte) (s : State) : Res :=
  if linkDown s then .done sTIMEOUT [] s
  else
    let (x, y) := publicKey Config.islandKey
    let c := fit 68 Config.deviceCertificate
    .done sOK (p8 s.sys.serial ++ orderCode s ++ leBytes 32 x ++ leBytes 32 y ++ c.take 4 ++ zeros 4 ++ c.drop 4) s

/-- WM_STATUS (R258). last_seq before any record is a free value. -/
def wmStatusH (_ : Org) (_ : List Byte) (s : State) : Res :=
  let i := s.island
  if !i.linkUp || (!i.running && !i.failed) then .done sTIMEOUT [] s
  else
    let sess := match i.session with | none => 0 | some p => if p.queued then 2 else 1
    .done sOK (p1 (if i.failed then 2 else 1) ++ p1 (sealByte s) ++ p1 sess ++ p1 (min 255 (i.unpoweredShown + i.fullCount)) ++
      (List.range 5).flatMap (fun t => p2 (tget i.reasons t).toNat) ++
      p2 (if s.sys.legal then 8192 - i.trail.length else 0) ++ p4 (w32 (i.lastSigned.getD (Config.freeNat s.fresh))) ++ p4 i.sigFailures ++
      p4 (w32 (i.lost + i.dropped)) ++ q4 (tget s.power.sensors 12).raw ++ q4 (tget s.power.sensors 13).raw ++
      p2 i.tapTriggers ++ p2 i.tapGaps) (drawn 1 s)

/-- WM_PARAM_OPEN (R232, R242). -/
def wmParamOpenH (o : Org) (_ : List Byte) (s : State) : Res :=
  if linkDown s then .done sTIMEOUT [] s
  else if !s.sys.legal && s.sys.mode != .commission then .done sWRONGMODE [] s
  else if s.sys.legal && !s.island.sealPin then .done sSEALED [] s
  else if s.island.session.isSome then .done sBUSY [] s
  else if s.sys.legal && 8192 - s.island.trail.length < 128 then .done sLIMIT [] s
  else .done sOK (p4 (paramCrc s)) (setSession (some { owner := o.side, lastCmd := s.sys.devTime }) s)

/-- The session a session command acts on, or its refusal (R234, R259). -/
def ownSession (o : Org) (s : State) : PSession ⊕ Nat :=
  if linkDown s then .inr sTIMEOUT
  else if !s.sys.legal && s.sys.mode != .commission then .inr sWRONGMODE
  else if s.sys.legal && !s.island.sealPin then .inr sSEALED
  else match s.island.session with
    | none => .inr sBADOBJ
    | some p => if p.owner != o.side then .inr sBADOBJ else if p.queued || p.writing then .inr sBUSY else .inl p

/-- WM_PARAM_WRITE (R231, R232, R279, R297). -/
def wmParamWriteH (o : Org) (b : List Byte) (s : State) : Res :=
  match ownSession o s with
  | .inr st => .done st [] s
  | .inl p =>
    let q : PSession := { p with lastCmd := s.sys.devTime }
    let cls := g1 b 0
    let i := g2 b 2
    let body := b.drop 12
    let keep := setSession (some q) s
    if g4 b 8 != body.length then .done sBADOBJ [] keep
    else if g1 b 1 != 0 || g2 b 6 != 0 || !okIndex cls i then .done sBADOBJ [] keep
    else if body.isEmpty then
      if !(committedSet s p).any (fun x => x.cls == cls && x.index == i) then .done sNOTFOUND [] keep
      else .done sOK [] (setSession (some (stageDelete cls i q)) s)
    else if !okParam cls (g2 b 4) body then .done sBADOBJ [] keep
    else match stageParam { cls := cls, index := i, format := g2 b 4, body := body } q with
      | none => .done sLIMIT [] keep
      | some r => .done sOK [] (setSession (some r) s)

/-- WM_PARAM_COMMIT (R232, R233). A capture under way stages nothing any more (notes/assumptions/170.md). -/
def wmParamCommitH (o : Org) (_ : List Byte) (s : State) : Res :=
  match ownSession o s with
  | .inr st => .done st [] s
  | .inl p =>
    let q : PSession := { p with lastCmd := s.sys.devTime }
    if gtMissing (committedSet s p) then .done sNOTFOUND [] (setSession (some q) s)
    else if canStore (.islandParam none) s then
      .later (addJob { org := o }
        (requestStore (.islandParam (some o)) (setSession (some { q with writing := true }) (captureEnds sBADOBJ s))))
    else .done sNOENERGY [] (requestStore (.islandParam none) (setSession (some { q with queued := true }) (captureEnds sBADOBJ s)))

/-- WM_PARAM_DISCARD. A capture of the session then has no session, and ends so (notes/assumptions/170.md). -/
def wmParamDiscardH (o : Org) (_ : List Byte) (s : State) : Res :=
  match ownSession o s with
  | .inr st => .done st [] s
  | .inl _ => .done sOK [] (discardSession 0 sBADOBJ s)

/-- WM_PARAM_READ. -/
def wmParamReadH (_ : Org) (b : List Byte) (s : State) : Res :=
  let cls := g1 b 0
  let i := g2 b 2
  if linkDown s then .done sTIMEOUT [] s
  else if g1 b 1 != 0 || !okIndex cls i then .done sBADOBJ [] s
  else match paramObj s cls i with
    | none => .done sNOTFOUND [] s
    | some p => .done sOK (p4 (w32 (tget s.island.versions (cls * 256 + i))) ++ p4 (paramObjCrc p) ++ paramBytes p) s

/-- WM_AUDIT_READ: a block of entries, signed over every preceding byte (R258). -/
def wmAuditReadH (_ : Org) (b : List Byte) (s : State) : Res :=
  let first := g4 b 0
  let n := g2 b 4
  if !s.sys.legal then .done sUNKNOWN [] s
  else if linkDown s then .done sTIMEOUT [] s
  else if n = 0 || n > 256 || g2 b 6 != 0 then .done sBADOBJ [] s
  else if first ≥ s.island.trail.length then .done sNOTFOUND [] s
  else
    let es := (s.island.trail.reverse.drop first).take n
    let body := p2 es.length ++ zeros 2 ++ p4 s.island.trail.length ++ es.flatMap auditBytes ++ slice b 8 8
    let (r, g) := ecdsaSign Config.islandKey (Config.signNonce s.fresh) body
    .done sOK (body ++ leBytes 32 r ++ leBytes 32 g) (drawn 1 s)

/-- WM_RECORD_READ. -/
def wmRecordReadH (_ : Org) (b : List Byte) (s : State) : Res :=
  if linkDown s then .done sTIMEOUT [] s
  else if g1 b 0 > 4 || g2 b 2 != 0 then .done sBADOBJ [] s
  else match tfind s.island.latest (g1 b 0 * 256 + g1 b 1) with
    | none => .done sNOTFOUND [] s
    | some r => .done sOK r s

def wmLegalIdFx := serve 0x0601 wmLegalIdH
def wmKeyFx := serve 0x0602 wmKeyH
def wmStatusFx := serve 0x0603 wmStatusH
def wmParamOpenFx := serve 0x0604 wmParamOpenH
def wmParamWriteFx := serve 0x0605 wmParamWriteH
def wmParamCommitFx := serve 0x0606 wmParamCommitH
def wmParamDiscardFx := serve 0x0607 wmParamDiscardH
def wmParamReadFx := serve 0x0608 wmParamReadH
def wmAuditReadFx := serve 0x0609 wmAuditReadH
def wmRecordReadFx := serve 0x060A wmRecordReadH

/-! Link (R220–R222). -/

/-- ISLAND_LINK_CHECK: the two dies exchange their check; nothing else changes (R221). -/
def islandLinkCheckFx (s : State) : State := s

/-- Every command that waits for the island ends as its link is lost (R257; spec/07_moisture_engine.md R289;
spec/08_weighing.md R316). What the island had begun goes on in it. -/
def islandJobsTimeout (s : State) : State :=
  (s.mail.jobs.filter (fun j => j.answer.isNone && !j.committed && (j.org.code / 256 == 6 || j.org.code / 256 == 7 || j.org.code / 256 == 8))).foldl
    (fun t j => finish j.org sTIMEOUT [] t) s

/-- ISLAND_LINK_LOST (R221, R234). A commit already being written goes on in the island. -/
def islandLinkLostFx (s : State) : State :=
  if !s.island.linkUp then s
  else
    let s1 := note 0x0621 [s.island.lastSeq.getD (Config.freeNat s.fresh)]
      (drawn 1 (onIsland (fun i => { i with linkUp := false }) s))
    let s2 := match s.island.session with
      | some p => if p.writing then s1 else discardSession 3 sTIMEOUT s1
      | none => s1
    allStale (islandJobsTimeout s2)

/-- ISLAND_LINK_RESTORED, but for Freshet: the buffered records follow in sequence order (R221). -/
def islandLinkBack (s : State) : State :=
  if s.island.linkUp then s
  else takeSelection (note 0x0622 [s.island.buffered.length, s.island.dropped]
    (onIsland (fun i =>
      { i with
        linkUp := true, outbox := i.outbox ++ i.buffered, buffered := [], lost := w32 (i.lost + i.dropped), dropped := 0 }) s))

/-- ISLAND_TIME_UPDATE (R220, R240). -/
def islandTimeUpdateFx (s : State) : State :=
  if linkDown s then s
  else
    let old := islandCal s s.sys.devTime
    let new := s.sys.calTime
    let s1 := onIsland (fun i =>
      { i with calOffset := new - (nsMs s.sys.devTime : Int), openedAt := i.openedAt + (new - old) }) s
    if (new - old).natAbs > 1000 then
      audit 0x0A 0 (q8 old ++ q8 new) (onIsland (fun i => { i with epoch := (i.epoch + 1) % 65536 }) s1)
    else s1

/-- ISLAND_RECORD_RECEIVED (R222). While the supervisor is re-executed, records wait on the link (R286). -/
def islandRecordReceivedFx (r : List Byte) (s : State) : State :=
  if !s.island.linkUp || s.absorb.reexecuting || !s.sys.ready then s else receiveRecord r s

/-- ISLAND_STATION_STALE: no record for three record periods (R250). -/
def islandStationStaleFx (n : Nat) (s : State) : State := if n < 128 && isIsland s n then makeStale [n] s else s

/-- STATION_PUBLISH: every period of a device-time station (R192, R253, R285, R311; spec/10_valve_drive.md R359). -/
def stationPublishFx (n : Nat) (s : State) : State :=
  if n ≥ 128 || !s.sys.ready || stnSampleMode s n != 0 then s
  else if isWeir s n then
    let x := wst s n
    if x.has then weirPublish n { published := true, flags := x.flags, value := x.value, time := x.time } s else s
  else if isIsland s n then islandPublish n s
  else if isProp s n || stnType s n = 0x31 then publishValve n s
  else if isLoopOut s n then publishField n s.sys.devTime s
  else s

/-! Starts and restarts (R223, R225, R229, R235, R236, R241). -/

/-- The single writes of the island that are admitted are complete before it stops (01_one_view.md R31); a parameter commit
needs its core. -/
def finishIsland (s : State) : State :=
  (s.power.stores.filter (fun x => x.admitted && islandStore x.act)).foldl (fun t x =>
    match x.act with
    | .islandAudit => writeAudit t
    | .islandSeq => newSeqBlock t
    | .islandCycle c => cycleStored c t
    | _ => abandonParams t)
    (onPower (fun w => { w with stores := w.stores.filter (fun x => !(x.admitted && islandStore x.act)) }) s)

/-- A record that a command past its commit point waits for went with the island's SRAM: the command ends OK, and the bytes of its
record are free values (02_sluices.md R77; notes/assumptions/14.md). -/
def islandRecordsGone (s : State) : State :=
  (s.mail.jobs.filter (fun j => j.answer.isNone && j.committed && (j.org.code / 256 == 7 || j.org.code / 256 == 8))).foldl
    (fun t j => finish j.org sOK (randomBytes 128 t) (drawn 128 t)) s

/-- Everything the island keeps in SRAM is gone, and its engines start afresh (R223, R286, R302). -/
def islandSramLost (s0 : State) : State :=
  let s := finishIsland s0
  let s1 := islandRecordsGone (islandJobsTimeout (discardSession 0 sTIMEOUT s))
  let s2 := onPower (fun w => { w with stores := w.stores.filter (fun st => !islandStore st.act) }) s1
  let s3 := onIsland (fun i =>
    { i with
      buffered := [], unsigned := [], outbox := [], waiting := [], seqAsked := false, dropped := 0, closeAfter := none,
      reasons := [], gtTemp := [], tapCounter := none }) s2
  weighRestart (onEngine (fun _ => {}) s3)

/-- ISLAND_WATCHDOG: the core stops serving for 50 ms and is restarted (R223); its stations are STALE meanwhile (R250). -/
def islandWatchdogFx (s : State) : State :=
  if !islandUp s then s
  else
    let s1 := islandSramLost s
    note 0x0623 [1, s1.island.seqEnd] (allStale (onIsland (fun i => { i with running := false }) s1))

/-- A parameter object fails its check (R235). -/
def paramBroken (cls i : Nat) (s : State) : State :=
  noteFault 0x0651 [cls, i] (audit 8 0 (p1 cls ++ zeros 1 ++ p2 i) (onIsland (fun x =>
    { x with paramFault := true, faultFrom := if x.paramFault then x.faultFrom else s.sys.devTime }) s))

/-- The trail tells of the tamper latch, or is about to. -/
def tamperTold (s : State) : Bool := (s.island.trail ++ s.island.waiting).any (fun a => a.kind == 0x0B)

/-- The tamper latch is recorded, and copied to island flash where a write may start; else the next start copies it (R225,
R229). -/
def tamperCopied (s : State) : State :=
  if !s.island.tampered || s.island.tamperedFlash then s
  else
    let s1 := if tamperTold s then s else note 0x0650 [s.sys.calTime] (audit 0x0B 0 [] s)
    if canStore .islandAudit s then onIsland (fun i => { i with tamperedFlash := true }) s1 else s1

/-! Seal changes as the running island takes them up (R228, R234, R242). -/

/-- The running island takes up a change of SEAL#: an opening, or a closing, which ends a session whose commit is not being
written. -/
def sealTaken (opened : Bool) (s : State) : State :=
  if opened = s.island.sealSeen then s
  else
    let now := s.sys.devTime
    let s1 := onIsland (fun i => { i with sealSeen := opened }) s
    if !s.sys.legal then s1
    else if opened then
      let n := s.island.openings + 1
      note 0x0610 [n] (audit 2 0 (p4 n)
        (countFull 1 (onIsland (fun i =>
          { i with openings := n, openedAt := islandCal s now, openedDev := now, objsChanged := 0 }) s1)))
    else
      let secs := (islandCal s now - s.island.openedAt).toNat / 1000
      let s2 := onIsland (fun i => { i with closedAt := now }) s1
      match s.island.session with
      | some p =>
        if p.writing then onIsland (fun i => { i with closeAfter := some secs }) s2
        else sealClosed secs (discardSession 1 sSEALED s2)
      | none => sealClosed secs s2

/-- The changes that a restarting island missed are taken up in their order, each as one (R228). -/
def sealTakeUp (s : State) : State :=
  if !islandUp s then s
  else (s.island.sealMissed ++ [s.island.sealPin]).foldl (fun t o => sealTaken o t) (onIsland (fun i => { i with sealMissed := [] }) s)

/-- Changes counted while unpowered are appended and recorded (R229); an opening among them began at the first change,
whose time alone is kept (notes/assumptions/146.md). -/
def tellUnpowered (s : State) : State :=
  let n := s.island.unpoweredCount
  let s1 := if bitOf s.power.sticky.toNat 1 && !s.island.springSeen then audit 5 4 [] s else s
  let full := 8191 ≤ s1.island.trail.length + s1.island.waiting.length
  let s2 := countFull n (onIsland (fun i =>
    { i with springSeen := bitOf s.power.sticky.toNat 1, unpoweredShown := if s.sys.legal && full then 0 else n, unpoweredCount := 0 }) s1)
  if n = 0 then s2
  else
    let s3 := cyclesMark 1 (onIsland (fun i =>
      if i.sealPin then { i with sealSeen := true, openedAt := i.unpoweredFirst, openedDev := s.sys.devTime, objsChanged := 0 }
      else { i with sealSeen := false, closedAt := s.sys.devTime }) s2)
    if !s.sys.legal then s3
    else note 0x0612 [min n 65535, s.island.unpoweredFirst]
      (audit 4 4 (p2 (min n 65535) ++ zeros 6 ++ q8 s.island.unpoweredFirst) s3)

/-- ISLAND_START, but for Freshet: the firmware, the chain, the parameters, the seal watch and the shield are checked, and the island
measures from a fresh sequence block (R223, R225, R229, R235, R236, R241; spec/20_package.md R609). -/
def islandStarts (digestOk shieldOpen : Bool) (chainBad : Option Nat) (paramBad : List (Nat × Nat)) (torn : Bool)
    (s : State) : State :=
  match s.sys.mode with
  | .vault => s
  | .ice => s
  | .recovery => s
  | _ =>
    let s0 := islandSramLost s
    if !digestOk then
      allStale (noteFault 0x0623 [2, s0.island.seqEnd] (onIsland (fun i => { i with running := false, failed := true }) s0))
    else
      let s1 := onIsland (fun i =>
        { i with
          running := true, failed := false, trail := if torn && i.torn then i.trail.drop 1 else i.trail, torn := false,
          seqNext := i.seqEnd, calOffset := s.sys.calTime - (nsMs s.sys.devTime : Int),
          tampered := i.tampered || shieldOpen }) s0
      let s2 := askSeq s1
      let s3 := match chainBad with
        | some n => if s.sys.legal then note 0x0652 [1, s2.island.trail.length]
            (audit 0x0C 0 (p4 n) (onIsland (fun i => { i with trailFault := true }) s2)) else s2
        | none => s2
      let s4 := paramBad.foldl (fun t k => paramBroken k.1 k.2 t) s3
      let s5 := match s4.island.abandoned with
        | some c => audit 7 0 (p4 c) (onIsland (fun i => { i with abandoned := none }) s4)
        | none => s4
      takeSelection (onEngine (fun e => { e with intervalAt := some s.sys.devTime }) (sealTakeUp (tamperCopied (tellUnpowered s5))))

/-- PARAM_CRC_CHECK: every 24 h; the objects whose CRC does not match (R235). -/
def paramCrcCheckFx (bad : List (Nat × Nat)) (s : State) : State :=
  if islandUp s then bad.foldl (fun t k => paramBroken k.1 k.2 t) s else s

/-! Seal and tamper (R226–R230). -/

/-- SEAL_CHANGE, but for Freshet: SEAL# has been stable for 20 ms at its other level (R226, R228, R234). A restarting island takes it up at
its start; in VAULT and ICE the Spring domain samples it. -/
def sealMoved (opened : Bool) (s : State) : State :=
  if s.sys.mode = .vault || s.sys.mode = .ice then s
  else sealTakeUp (onIsland (fun i =>
    { i with sealPin := opened, sealMissed := if opened = i.sealPin then i.sealMissed else i.sealMissed ++ [opened] }) s)

/-- SEAL_SAMPLE_UNPOWERED: the Spring domain samples SEAL# in VAULT and ICE, and keeps the time of the first change by its
own clock (R229). -/
def sealSampleUnpoweredFx (opened : Bool) (s : State) : State :=
  if (s.sys.mode != .vault && s.sys.mode != .ice) || opened = s.island.sealPin then s
  else onIsland (fun i =>
    { i with
      sealPin := opened, unpoweredCount := i.unpoweredCount + 1,
      unpoweredFirst := if i.unpoweredCount = 0 then s.power.springNs / 1000000 else i.unpoweredFirst }) s

/-- SHIELD_LOOP_OPEN: TAMPERED latches in the Spring domain, and in island flash at once where the island runs (R229). -/
def shieldLoopOpenFx (s : State) : State :=
  let s1 := onIsland (fun i => { i with tampered := true }) s
  if islandUp s && s.sys.mode != .vault && s.sys.mode != .ice then tamperCopied s1 else s1

/-! Parameters and the tap. -/

/-- PARAM_SESSION_IDLE: 600 s without a session command (R234). -/
def paramSessionIdleFx (s : State) : State :=
  match s.island.session with
  | some p => if p.writing then s else discardSession 2 sTIMEOUT s
  | none => s

/-- The tap listens: Bus D enabled and LEGAL_TERMINAL on (R254, R256). -/
def tapOn (s : State) : Bool := islandUp s && chOn s 3 && g1 (paramBody s 5 0) 0 == 1

/-- TAP_TRIGGER: a frame on Bus D; own frames never count (R254, R255). -/
def tapTriggerFx (ident : Nat) (fd own : Bool) (data : List Byte) (s : State) : State :=
  let b := paramBody s 5 0
  let cmd := g1 data 0
  let c := g1 data 1
  let n := g2 data 2
  let ok := tapOn s && !own && ident == g4 b 4 && fd == (g1 b 1 == 1) && data.length == 8 && 1 ≤ cmd && cmd ≤ 4 &&
    (c == 1 || c == 2) && zeroAt data 4 4 && s.island.tapCounter != some n
  if !ok then s
  else
    let gap := match s.island.tapCounter with | some k => n != (k + 1) % 65536 | none => false
    let s1 := note 0x0640 [cmd, c, n] (onIsland (fun i =>
      { i with
        tapCounter := some n, tapTriggers := (i.tapTriggers + 1) % 65536,
        tapGaps := if gap then (i.tapGaps + 1) % 65536 else i.tapGaps }) s)
    if wOn s c then (wgtAsk c { kind := cmd, source := 1, since := s.sys.devTime } s1).2 else s1

/-! Grain temperature (R251, R252). -/

/-- Temperature of a grain probe from its resistance, Ω, °C; a GT_CAL with ice point 0 leaves it open
(notes/assumptions/40.md). -/
def gtLaw (cal : List Byte) (r : Rat) (k : Nat) : Rat × Bool :=
  let ice : Rat := (g4 cal 4 : Rat) / 1000
  let t := if ice = 0 then Config.freeRat k else bisect (fun t => platinum t * ice) r 50 (-300) 1000
  (t, decide (-200 ≤ t) && decide (t ≤ 850))

/-- In STILL a channel is measured only for a station with still_scan set (R253, R193). -/
def grainMeasured (s : State) (ch : Nat) : Bool :=
  s.sys.mode != .still || (match islandStn s (3 + ch) with | some n => g1 (stnPart s n) 1 == 1 | none => false)

/-- GRAIN_TEMP_RECORD: every second, from the mean of the latest pairs (R251, R252). -/
def grainTempRecordFx (ch : Nat) (rs : List Rat) (openWire : Bool) (t0 t1 : Nat) : State → State :=
  underParams t0 (fun s =>
  let cal := paramBody s 4 ch
  if ch > 1 || cal.isEmpty || !islandUp s || pllDown s 2 || !grainMeasured s ch then s
  else
    let n := rs.length
    let r : Rat := if n = 0 then 0 else rs.sum / (n : Rat)
    let (t, inside) := gtLaw cal r s.fresh
    let bad := openWire || n = 0
    let v : Int := if bad || !inside then invalidValue else roundRat (t * 1000)
    let fl := if bad then 1 else if inside then 0 else 2
    let ok := v != invalidValue && i4 cal 8 ≤ v && v ≤ i4 cal 12
    let s1 := if v = invalidValue then s
      else onIsland (fun i => { i with gtTemp := tset i.gtTemp ch (v, s.sys.devTime) }) s
    let shown := if n = 0 then Config.freeNat (s.fresh + 1) else uField 4 (roundRat (r * 1000))
    let body := q4 v ++ p4 shown ++ p1 (g1 cal 0) ++ p1 fl ++ p2 n ++ zeros 20
    makeRecord (3 + ch) 4 (if ok then 0 else 0x20) t0 t1 body (drawn 2 s1))

end Sys2Proof.Machine
end

