-- ==== Sys2Proof/Machine/TimeOps.lean ====
section
/-! DEFINITION. Time sets (spec/15_ream.md R507, R508; spec/13_line_uplink.md R460). -/

namespace Sys2Proof.Machine

/-- A step of calendar time: epoch, Spring clock, island and record (R507). -/
def timeSet (new : Int) (source actor : Nat) (s : State) : State :=
  let old := s.sys.calTime
  let s1 := onSys (fun y => { y with calTime := new, calPs := 0 }) s
  let s2 := onReam (fun r => { r with epoch := (r.epoch + 1) % 65536, timeUnsure := source = 3 }) s1
  let s3 := islandTimeUpdateFx (onPower (fun p => { p with springNs := new * 1000000 }) (onNet (fun n => { n with ptpSlew := 0 }) s2))
  raiseEv 0x0E20 [old, new, source] actor 0 s3

end Sys2Proof.Machine
end

