-- ==== Sys2Proof/Machine/NetFx.lean ====
section
/-! DEFINITION. Line and uplink commands and events (spec/13_line_uplink.md R453–R469). -/

namespace Sys2Proof.Machine

/-- An ARP request from a hardware and a protocol address for the device's address is answered (R458). -/
def answerArp (p : Nat) (mac ip target : List Byte) (s : State) : State :=
  if target != ipAddr s then s
  else enqueue p (deviceFrame s (fit 6 mac) 0x0806
    (asciiBytes [0, 1, 8, 0, 6, 4, 0, 2] ++ s.net.mac ++ ipAddr s ++ fit 6 mac ++ fit 4 ip)) s

/-- An echo request: `data` are the identifier, the sequence number and the payload, which the reply returns (R458). -/
def answerEcho (p : Nat) (mac ip dst data : List Byte) (s : State) : State :=
  if dst != ipAddr s then s
  else
    let msg := zeros 2 ++ beBytes 2 (inetSum (zeros 4 ++ data)) ++ data
    enqueue p (deviceFrame s (fit 6 mac) 0x0800 (ipHeader s 1 msg.length ip ++ msg)) s

/-- ARP_REQUEST. -/
def arpRequestFx (p : Nat) (mac ip target : List Byte) : State → State :=
  lineRow p mac (.arp p mac ip target) (answerArp p mac ip target)

/-- ICMP_ECHO. -/
def icmpEchoFx (p : Nat) (mac ip dst data : List Byte) : State → State :=
  lineRow p mac (.echo p mac ip dst data) (answerEcho p mac ip dst data)

/-- UDP_REQUEST and UDP_RELEASE (spec/02_sluices.md R83): a datagram in a frame on a line port, or from the service UART. The
recovery loader hears the frames of LINE0 itself (R455; spec/14_freshet.md R491). -/
def datagramRow (kind : Nat) (src : UdpSrc) (dg : List Byte) (s : State) : State :=
  if src.via = 3 then datagram kind src dg s
  else fromLine src.via src.mac false (fun t =>
    if t.sys.mode = .recovery then datagram kind src dg t
    else heardNow (waitingOf (.dgram kind src dg)) (datagram kind src dg) t) s
def udpRequestFx := datagramRow 1
def udpReleaseFx := datagramRow 2

/-- Lock state after an offset: LOCKED once it has stayed within ±10 µs for 10 s (R460). -/
def ptpNext (s : State) (off : Int) : Nat × Option Nat :=
  let good := decide (-10000 ≤ off) && decide (off ≤ 10000)
  let since := if good then some (s.net.ptpGoodSince.getD s.sys.devTime) else none
  (match since with | some t => if t + 10000000000 ≤ s.sys.devTime then 3 else 2 | none => 2, since)

/-- Calendar time in picoseconds. -/
def calendarPs (s : State) : Int := s.sys.calTime * 1000000000 + s.sys.calPs

/-- An offset of the ordinary clock: up to 100 ms it is slewed, a larger one steps calendar time (R460). One beyond int32 is
reported as an unstated value. -/
def ptpOffsetSeen (off : Int) (s : State) : State :=
  let (st, since) := ptpNext s off
  let fits := decide (-2147483648 ≤ off) && decide (off ≤ 2147483647)
  let shown := if fits then off else s32 (Config.freeNat s.fresh)
  let s1 := drawn 1 (onNet (fun n => { n with ptpState := st, ptpGoodSince := since, ptpOffset := shown }) s)
  if off.natAbs > 100000000 then
    let ps := calendarPs s - off * 1000
    onSys (fun y => { y with calPs := (ps % 1000000000).toNat }) (timeSet (ps / 1000000000) 2 0 s1)
  else onNet (fun n => { n with ptpSlew := -(off * 1000) }) s1

/-! The ordinary clock (R459; notes/assumptions/154.md). -/

/-- The lesser of two ranks, place by place. -/
def rankLess : List Nat → List Nat → Bool
  | a :: as, b :: bs => decide (a < b) || (a == b && rankLess as bs)
  | _, _ => false

/-- The best of the clocks whose Announce is heard. -/
def bestMaster (l : List PtpMaster) : Option PtpMaster :=
  l.foldl (fun a m => match a with | none => some m | some b => if rankLess m.rank b.rank then some m else a) none

/-- The clocks heard have changed: the best is followed. Another one starts a new exchange, and none is listening. -/
def ptpChoose (l : List PtpMaster) (s : State) : State :=
  let s1 := onNet (fun n => { n with ptpMasters := l }) s
  match bestMaster l with
  | none => onNet (ptpForgot 1) s1
  | some m =>
    if s.net.ptpChosen = some m.source then s1
    else onNet (fun n => { ptpForgot 2 n with ptpChosen := some m.source, ptpMaster := m.source / 65536 }) s1

/-- The port identity of the device's clock: EUI-64 of its hardware address, and port number 1. -/
def portIdentity (s : State) : List Byte := s.net.mac.take 3 ++ asciiBytes [0xFF, 0xFE] ++ s.net.mac.drop 3 ++ asciiBytes [0, 1]

/-- A Delay_Req of the device, as a frame (R459). -/
def delayReq (seq : Nat) (s : State) : List Byte :=
  let b := netBody s
  let msg := asciiBytes [0x01, 0x02] ++ beBytes 2 44 ++ asciiBytes [g1 b 33] ++ zeros 15 ++ portIdentity s ++ beBytes 2 seq ++
    asciiBytes [1, 0x7F] ++ zeros 10
  if g1 b 34 = 0 then deviceFrame s (asciiBytes [0x01, 0x1B, 0x19, 0, 0, 0]) 0x88F7 msg
  else udpFrame s (asciiBytes [0x01, 0, 0x5E, 0, 1, 0x81]) (asciiBytes [224, 0, 1, 129]) 319 319 msg

/-- Calendar time in ns. -/
def calendarNs (s : State) : Int := (calendarPs s).fdiv 1000

/-- The origin of a Sync is known: the device asks for the delay, on every port. -/
def askDelay (origin correction : Int) (s : State) : State :=
  let seq := (s.net.ptpExchange.delaySeq + 1) % 65536
  [0, 1, 2].foldl (fun t p => enqueue p (delayReq seq s) t) (onNet (fun n =>
    { n with ptpExchange :=
      { n.ptpExchange with
        origin := some (origin + correction.fdiv 65536), correction := 0, delaySeq := seq, left := some (calendarNs s) } }) s)

/-- A message of the clock that is followed, with its currentUtcOffset. The offset is half of what the way there and the way
back differ by. -/
def ptpFollow (m : PtpMsg) (utc : Int) (s : State) : State :=
  let x := s.net.ptpExchange
  match m.body with
  | .sync two origin =>
    let s1 := onNet (fun n =>
      { n with ptpExchange :=
        { x with syncSeq := m.seq, origin := none, correction := m.correction, arrived := calendarNs s, left := none } }) s
    if two then s1 else askDelay origin m.correction s1
  | .followUp origin =>
    if m.seq = x.syncSeq && x.origin.isNone then askDelay origin (x.correction + m.correction) s else s
  | .delayResp asker receive =>
    match x.origin, x.left with
    | some t1, some t3 =>
      if asker = beNat (portIdentity s) && m.seq = x.delaySeq then
        let t4 := receive - m.correction.fdiv 65536
        let off := ((x.arrived - (t1 - utc * 1000000000)) - ((t4 - utc * 1000000000) - t3)).fdiv 2
        ptpOffsetSeen off (onNet (fun n => { n with ptpExchange := { x with origin := none, left := none } }) s)
      else s
    | _, _ => s
  | _ => s

/-- A PTP message to the ordinary clock, in its domain and over its transport. -/
def takePtp (m : PtpMsg) (s : State) : State :=
  let b := netBody s
  if !ordinaryClock s || m.transport != g1 b 34 || m.domain != g1 b 33 then s
  else
    let rest := s.net.ptpMasters.filter (fun x => x.source != m.source)
    noteLock s (match m.body with
      | .announce gm p1 q p2 steps utc => ptpChoose ({ source := m.source, rank := [p1, q, p2, gm, steps, m.source], utcOffset := utc } :: rest) s
      | .silent => ptpChoose rest s
      | _ =>
        match s.net.ptpMasters.find? (fun x => x.source == m.source) with
        | some x => if s.net.ptpChosen = some m.source then ptpFollow m x.utcOffset s else s
        | none => s)

/-- PTP_MESSAGE. That the Announce messages have ceased is no frame. -/
def ptpMessageFx (m : PtpMsg) (s : State) : State :=
  match m.body with
  | .silent => if devicePort s then takePtp m s else s
  | _ => lineRow m.port [] (.ptp m) (takePtp m) s

/-- LOOP_PROBE_SEND (R456). -/
def loopProbeSendFx (p : Nat) (s : State) : State :=
  if devicePort s && loopGuard s && p < 3 then enqueue p (deviceFrame s (fit 6 Config.probeDst) 0x88B5 Config.probeBody) s else s

/-- A probe of the device came back on a port: UPLINK is blocked where that is LINE0, else LINE1 (R456). -/
def probeBack (back : Nat) (s : State) : State :=
  let b : Nat := if back = 0 then 2 else 1
  if !devicePort s || !loopGuard s then s
  else
    let s1 := onNet (fun n => { n with blocked := (b, s.sys.devTime) :: n.blocked.filter (fun e => e.1 != b) }) s
    if portBlocked s b then s1 else note 0x0C12 [b, 1] s1

/-- LOOP_PROBE_RETURN: the probe sent on `p` came back on another port (R456). -/
def loopProbeReturnFx (p back : Nat) (s : State) : State :=
  fromLine back s.net.mac true (fun t => if p = back then t else probeBack back t) s

/-- LOOP_GUARD_RELEASE: 10 s without a returning probe (R456). -/
def loopGuardReleaseFx (s : State) : State := unblock (fun e => decide (e.2 + 10000000000 ≤ s.sys.devTime)) s

/-- PHY_POLL: the PHY of an SGMII uplink (R457). -/
def phyPollFx (link gigabit : Bool) (s : State) : State :=
  if !devicePort s || uplinkMode s != 1 then s else linkTo 2 (if !link then 2 else if gigabit then 1 else 3) s

/-- LINK_CHANGE (R457). -/
def linkChangeFx (p cause : Nat) (s : State) : State :=
  if !switchOn s || p > 2 || cause = 0 || cause > 3 || (p < 2 && cause = 3) ||
      (p = 2 && (uplinkMode s = 0 || !s.net.applied)) then s
  else linkTo p cause s

/-- SPRING_CLOCK_UPDATE: every 60 s (R460). -/
def springClockUpdateFx (s : State) : State :=
  if s.sys.ready && s.power.springPowered then onPower (fun p => { p with springNs := s.sys.calTime * 1000000 + (s.sys.calPs / 1000 : Nat) }) s else s

/-- SESSION_IDLE (R463). -/
def sessionIdleFx (session : Nat) (s : State) : State :=
  match sessionNo s session with
  | some k => if (tget s.net.sessions k).lastSeen + idleSeconds s * 1000000000 ≤ s.sys.devTime then closeSession k 3 s else s
  | none => s

/-- AUTH_LOCKOUT_END (R464). -/
def authLockoutEndFx (addr via : Nat) (s : State) : State :=
  onNet (fun n => { n with lockouts := n.lockouts.filter (· != lockKey { addr := addr, port := 0, via := via }) }) s

/-! Sessions. -/

/-- Source of a session-0 command. -/
def srcOf : Side → Option UdpSrc
  | .udp n => if isGuest (.udp n) then some (guestSrc n) else none
  | _ => none

def nonceOf (s : State) (src : UdpSrc) : Option Nonce :=
  s.net.nonces.find? (fun e => e.addr == src.addr && e.port == src.port && e.via == src.via)

/-- NET_SESSION_OPEN (R461, R462). -/
def netSessionOpenH (o : Org) (b : List Byte) (s : State) : Res :=
  match srcOf o.side with
  | none => .done sBADOBJ [] s
  | some src =>
    if s.net.key.isNone && !firstKeyWay s src.via then .done sAUTH [] s
    else
      let dev := randomBytes 8 s
      let e : Nonce := { addr := src.addr, port := src.port, via := src.via, client := b, device := dev, at_ := s.sys.devTime }
      .done sOK (dev ++ serialBytes s) (drawn 8 (onNet (fun n =>
        { n with
          nonces := e :: n.nonces.filter (fun x => !(x.addr == src.addr && x.port == src.port && x.via == src.via)) }) s))

/-- A wrong proof is recorded; the fifth within 60 s locks its source out (R464, R465). -/
def wrongProof (src : UdpSrc) (s : State) : State :=
  let k := lockKey src
  let recent := s.net.failures.filter (fun e => e.1 == k.1 && e.2.1 == k.2 && decide (s.sys.devTime < e.2.2 + 60000000000))
  let n := recent.length + 1
  let s1 := onNet (fun x =>
    { x with
      failures := (k.1, k.2, s.sys.devTime) :: (recent ++ x.failures.filter (fun e => !(e.1 == k.1 && e.2.1 == k.2))),
      lockouts := if 5 ≤ n && !x.lockouts.contains k then k :: x.lockouts else x.lockouts }) s
  note 0x0C13 [k.1, n] s1

/-- A session identifier not in use, from a random start (R462). -/
def freshId (s : State) : Nat :=
  let r := leNat 2 (randomBytes 2 s)
  let c := (List.range 5).map (fun i => (r + i) % 65535 + 1)
  (c.find? (fun i => s.net.sessions.all (fun e => e.2.id != i))).getD 1

/-- NET_SESSION_AUTH (R462–R465). -/
def netSessionAuthH (o : Org) (b : List Byte) (s : State) : Res :=
  match srcOf o.side with
  | none => .done sAUTH [] s
  | some src =>
    let first := firstKeyWay s src.via
    match s.net.key, nonceOf s src with
    | none, none => .done sAUTH [] s
    | some _, none => .done sAUTH [] s
    | key, some e =>
      if key.isNone && !first then .done sAUTH [] s
      else
        let s1 := onNet (fun n => { n with nonces := n.nonces.filter (· != e) }) s
        let k := key.getD []
        let good := if first then b.all (· == 0) else b == lineProof k labelEvvr e.client e.device (serialBytes s)
        if s.sys.devTime > e.at_ + 5000000000 then .done sTIMEOUT [] s1
        else if !good then .done sAUTH [] (wrongProof src s1)
        else
          if min 4 (maxSessions s) ≤ s.net.sessions.length then .done sLIMIT [] s1
          else
            let num := 2 * s.net.sessionNext
            let id := freshId s
            let x : Session := { id := id, addr := src.addr, port := src.port, via := src.via, lastSeen := s.sys.devTime }
            let proof := if first then zeros 16 else lineProof k labelRvve e.device e.client (serialBytes s)
            let s2 := openS0 (.udp num) (drawn 2 (onNet (fun n =>
              { n with sessions := tset n.sessions num x, sessionNext := n.sessionNext + 1 }) s1))
            .done sOK (p2 id ++ zeros 2 ++ proof) (note 0x0C11 [id, src.addr, 1] s2)

/-- A command of a session-0 datagram is served where the datagram is not discarded (R463, R464); any other side finds no
such command on its sluices. -/
def fromGuest (code : Nat) (h : Org → List Byte → State → Res) (r : Req) (s : State) : State :=
  match srcOf r.side with
  | none => serve code h r s
  | some src =>
    match dgramSide s src 0 (r.sluice % 16) with
    | none => s
    | some d => serve code h { r with side := d } (openS0 d s)

def netSessionOpenFx := fromGuest 0x0C01 netSessionOpenH
def netSessionAuthFx := fromGuest 0x0C02 netSessionAuthH

/-- NET_SESSION_CLOSE: the answer is placed before the session ends. -/
def netSessionCloseH (o : Org) (b : List Byte) (s : State) : Res :=
  let id := g2 b 0
  let k : Option Nat :=
    if id = 0 then (match o.side with | .udp n => if (tfind s.net.sessions n).isSome then some n else none | _ => none)
    else (s.net.sessions.find? (fun e => e.2.id == id)).map (·.1)
  if !zeroAt b 2 2 then .done sBADOBJ [] s
  else match k with
    | none => .done sNOTFOUND [] s
    | some n => .later (closeSession n 2 (place o sOK [] s))

/-- NET_STATUS. -/
def netStatusH (_ : Org) (_ : List Byte) (s : State) : Res :=
  let links := maskOf [0, 1, 2] (fun p => (port s p).link) + b01 (!s.net.blocked.isEmpty) * 8
  .done sOK (fit 6 s.net.mac ++ p1 links ++ p1 s.net.ptpState ++ q4 s.net.ptpOffset ++ p1 s.net.sessions.length ++
    p1 (b01 s.net.key.isSome) ++ zeros 2 ++
    [0, 1, 2].flatMap (fun p => p4 (port s p).rx ++ p4 (port s p).tx ++ p4 (port s p).drops ++ p4 (port s p).fcs)) s

/-- NET_KEY: a store of class NET_KEY (R461). -/
def netKeyH (o : Org) (b : List Byte) (s : State) : Res :=
  let act : StoreAct := .netKey o b
  if b.all (· == 0) then .done sBADOBJ [] s
  else if canStore act s then .later (requestStore act (addJob { org := o } s))
  else .done sNOENERGY [] (requestStore act s)

def netSessionCloseFx := serve 0x0C03 netSessionCloseH
def netStatusFx := serve 0x0C04 netStatusH
def netKeyFx := serve 0x0C05 netKeyH

end Sys2Proof.Machine
end

