-- ==== Sys2Proof/Machine/FreshetOps.lean ====
section
/-! DEFINITION. Freshet: headers and their checks, the staging slot, the lock, blocks, and confirmation
(spec/14_freshet.md R472–R480, R487). -/

namespace Sys2Proof.Machine

def sourceCode : Source → Nat
  | .side d => sideCode d
  | .line p => 4 + p

/-- The header's fields (R473). -/
def imgOf (h table : List Byte) : Img :=
  { kind := g1 h 6, targets := g1 h 7, version := [g1 h 8, g1 h 9, g1 h 10], arb := g4 h 12, length := g4 h 16,
    blocks := g4 h 20, minSchema := g2 h 26, schema := g2 h 28, keyId := g4 h 36, digest := slice h 40 32,
    header := h.take 256, table := table }

def sameImage (a b : Img) : Bool := a.kind == b.kind && a.digest == b.digest

def versionNum (v : List Nat) : Nat := v.foldl (fun a x => 256 * a + x) 0
/-- A version as one snapshot word: its bytes in their order. -/
def versionWord (v : List Nat) : Int := (leNat 4 (v.map (BitVec.ofNat 8)) : Nat)

def floorOf (s : State) (kind : Nat) : Nat := tget s.fsh.floors kind

/-- The latest confirmed image of a kind: the installed one, or while that is above its floor, and so not confirmed, the one
before it (R475). -/
def confirmedImg (s : State) (kind : Nat) : Img :=
  let i := installedImg s kind
  if i.arb ≤ floorOf s kind then i else (tfind s.fsh.backup kind).getD (factoryImg s kind)

/-- Largest payload of a kind (R472). -/
def largest (kind : Nat) : Nat := match kind with | 1 => 28 * 1048576 | 2 => 1048576 | 3 => 917504 | _ => 256 * 1048576

/-- The first check of R474 but for the length; the table of R473 says which fields are 0 for which kind. -/
def shapeOk (h : List Byte) : Bool :=
  let k := g1 h 6
  h.length == 256 && g4 h 0 == 0x48534652 && g2 h 4 == 1 && 1 ≤ k && k ≤ 4 && g1 h 7 < 4 && zeroAt h 11 1 && zeroAt h 30 2 &&
    zeroAt h 35 1 && zeroAt h 104 88 && g4 h 20 == (g4 h 16 + 65535) / 65536 && (k % 2 == 1 || zeroAt h 26 4) &&
    (k ≥ 3 || zeroAt h 32 3)

def ownerKey (s : State) : Nat × Nat := let b := bodyOf s 7 0; (field 32 8 b, field 32 40 b)

/-- Signature of a header by the key that its kind demands (R472, R473). -/
def headerSigned (s : State) (h : List Byte) : Bool :=
  let id := g4 h 36
  let own := ownerKey s
  let key : Option (Nat × Nat) :=
    if g1 h 6 = 4 then (if id = 0x100 && own != (0, 0) then some own else none)
    else if id = 1 || id = 2 then some (Config.imageKey id) else none
  match key with
  | some q => ecdsaVerify q (field 32 192 h) (field 32 224 h) (h.take 192)
  | none => false

def tableOk (h table : List Byte) : Bool := table.length == 32 * g4 h 20 && sha256 table == slice h 72 32

/-- Ordering code, stepping, package and Evver version (R474; spec/02_sluices.md R91). -/
def targetOk (s : State) (h : List Byte) : Bool :=
  bitOf (g1 h 7) (if s.sys.legal then 0 else 1) && g1 h 24 ≤ 0xB1 && g1 h 25 ≤ 0x02 &&
    (g1 h 6 < 3 || versionNum [g1 h 32, g1 h 33, g1 h 34] ≤ versionNum (evverVersion s))

def paramSchema (s : State) : Nat := (installedImg s 3).schema

def schemaOk (s : State) (im : Img) : Bool :=
  match im.kind with | 1 => im.minSchema ≤ runSchema s | 3 => im.minSchema ≤ paramSchema s | _ => true

/-- An image held complete or in part, against which an equal number conflicts (R478). -/
def holds (s : State) : Bool := s.fsh.state == 1 || s.fsh.state == 3 || s.fsh.state == 6

def digestHead (i : Img) : Int := (leNat 8 (i.digest.take 8) : Nat)

/-- Blocks not yet marked. -/
def missing (s : State) : Nat := s.fsh.img.blocks - s.fsh.marked.length
def firstMissing (s : State) : Nat := (firstNat s.fsh.img.blocks (fun b => !s.fsh.marked.contains b)).getD s.fsh.img.blocks

/-- What an offer comes to: its status, retry_after, and on OK whether it is 0 held already, 1 resumed, 2 new. -/
structure Verdict where
  status : Nat
  retry : Nat := 0
  way : Nat := 0
  deriving DecidableEq, Repr

/-- The rules of R474 and R478 for an offered header, with its table where it is at hand; a rival meets BUSY before
anything of its image is looked at. -/
def judgeOffer (src : Source) (h : List Byte) (table : Option (List Byte)) (s : State) : Verdict × State :=
  let im := imgOf h (table.getD [])
  let held := s.fsh.img
  let floor := floorOf s im.kind
  let refuse : Nat → Verdict × State := fun st => ({ status := st }, s)
  let conflict : Img → Verdict × State := fun o =>
    ({ status := sSTALE }, noteRom 0x0D31 [sourceCode src, im.arb, digestHead im, digestHead o] s)
  if s.fsh.lock.isSome && s.fsh.lock != some src then
    ({ status := sBUSY, retry := max 10 ((missing s + 1) / 2) }, s)
  else if [2, 4, 5, 8].contains s.fsh.state then ({ status := sBUSY, retry := 600 }, s)
  else if !shapeOk h then refuse sBADOBJ
  else if im.length > largest im.kind then refuse sLIMIT
  else if !headerSigned s h || (match table with | some t => !tableOk h t | none => false) then refuse sAUTH
  else if !targetOk s h then refuse sBADOBJ
  else if im.arb < floor then ({ status := sROLLBACK }, noteRom 0x0D30 [sourceCode src, im.kind, im.arb, floor] s)
  else if im.arb = floor && !sameImage im (confirmedImg s im.kind) then conflict (confirmedImg s im.kind)
  else if holds s && held.kind = im.kind && held.arb = im.arb && !sameImage im held then conflict held
  else if !schemaOk s im then refuse sSTALE
  else if sameImage im (installedImg s im.kind) || (sameImage im held && (s.fsh.state = 3 || s.fsh.state = 6)) then
    ({ status := sOK, way := 0 }, s)
  else if s.fsh.state = 1 && sameImage im held then ({ status := sOK, way := 1 }, s)
  else if holds s && held.kind = im.kind && im.arb < held.arb then refuse sSTALE
  else ({ status := sOK, way := 2 }, s)

/-- The session ends, and with it the lock (R477): cause 1 complete, 2 idle, 3 discard, 4 start. -/
def endLock (cause : Nat) (s : State) : State :=
  match s.fsh.lock with
  | none => s
  | some src => noteRom 0x0D11 [sourceCode src, cause] (onFsh (fun f => { f with lock := none }) s)

/-- Offers of the slot's image begin anew: a stop or a delay on a port was for another image (R482). -/
def offersAnew (f : Freshet) : Freshet :=
  { f with shakes := f.shakes.map (fun e => (e.1, { e.2 with stopped := false, notBefore := 0, firstOffer := none, holder := 0 })) }

/-- The slot becomes EMPTY; a block that waits for its store goes with it, and its FSH_BLOCK ends (notes/assumptions/155.md). -/
def emptySlot (s0 : State) : State :=
  let s := (waitingJobs s0 0x0D03).foldl (fun t j => finish j.org sBADOBJ [] t) s0
  let s1 := onPower (fun p =>
    { p with stores := p.stores.filter (fun x => match x.act with | .freshetStage _ => false | _ => true) }) s
  onFsh (fun f => offersAnew { f with
    state := 0, img := {}, source := none, partials := [], staged := [], marked := [], outcome := 0 }) s1

/-- Everything is marked: VERIFYING, without the lock (R477, R480). -/
def checkComplete (s : State) : State :=
  if s.fsh.state = 1 && missing s = 0 then endLock 1 (onFsh (fun f => { f with state := 2 }) s) else s

/-- An accepted offer takes the lock; a new image replaces what the slot held, whose number is a free value where it held
nothing (R477, R478; notes/assumptions/14.md). -/
def takeLock (src : Source) (im : Img) (way : Nat) (s : State) : State :=
  let held := s.fsh.img
  let s1 :=
    if way = 1 then s
    else
      let was := if s.fsh.state = 0 then w32 (Config.freeNat s.fresh) else held.arb
      let t := drawn 1 (noteRom 0x0D32 [was, im.arb] s)
      onFsh (fun f => { f with state := 1, img := im }) (emptySlot t)
  let s2 := onFsh (fun f => { f with lock := some src, source := some src, lastBlock := s.sys.devTime }) s1
  checkComplete (if s.fsh.lock = some src then s2 else noteRom 0x0D10 [sourceCode src, im.kind, im.arb] s2)

/-! Blocks (R479). -/

def blockLen (im : Img) (b : Nat) : Nat := min 65536 (im.length - 65536 * b)

/-- The block that its pieces make, from byte `pos` on; none while bytes are missing. -/
def joinPieces (len : Nat) (ps : List (Nat × List Byte)) : Nat → Nat → Option (List Byte)
  | 0, pos => if len ≤ pos then some [] else none
  | fuel + 1, pos =>
    if len ≤ pos then some []
    else match ps.find? (fun p => p.1 ≤ pos && pos < p.1 + p.2.length) with
      | some p => let d := p.2.drop (pos - p.1); (joinPieces len ps fuel (pos + d.length)).map (d ++ ·)
      | none => none

/-- A block is marked in the map, once it is stored. -/
def markBlock (b : Nat) (s : State) : State :=
  checkComplete (onFsh (fun f => { f with marked := f.marked.filter (· != b) ++ [b] }) s)

/-- What a piece came to. -/
inductive Piece where
  | partly
  | bad
  | whole
  deriving DecidableEq, Repr

/-- A piece of a block arrives. A whole block that passes is held for its store, which the caller requests. -/
def takePiece (src : Source) (b off : Nat) (data : List Byte) (s : State) : Piece × State :=
  let s1 := onFsh (fun f => { f with lastBlock := s.sys.devTime, partials := tmod f.partials b (fun l => (off, data) :: l) }) s
  let ps := tget s1.fsh.partials b
  match joinPieces (blockLen s.fsh.img b) ps (ps.length + 1) 0 with
  | none => (.partly, s1)
  | some d =>
    let s2 := onFsh (fun f => { f with partials := tdel f.partials b }) s1
    if sha256 d != slice s.fsh.img.table (32 * b) 32 then (.bad, noteRom 0x0D12 [sourceCode src, b] s2)
    else (.whole, onFsh (fun f => { f with staged := tset f.staged b d }) s2)

/-- The store of a block waits for energy (R479). -/
def blockWaits (s : State) : Bool :=
  s.power.stores.any (fun x => !x.admitted && match x.act with | .freshetStage _ => true | _ => false)

/-- The store of a block that passed; 0x0D15 while it waits for energy. -/
def stageBlock (b : Nat) (s : State) : State :=
  let s1 := if canStore (.freshetStage b) s then s else noteRom 0x0D15 [b, energyMj s] s
  requestStore (.freshetStage b) s1

/-! The policy (R492). -/

def fshBodyOf (s : State) : List Byte := bodyOf s 7 0
/-- A port, or the host and application sides (2), from which images are accepted (R492). -/
def accepts (s : State) (i : Nat) : Bool := bitOf (g1 (fshBodyOf s) 3) i
def romRecovery (s : State) : Bool := g1 (fshBodyOf s) 0 == 1
def maxTrialBoots (s : State) : Nat := let n := g1 (fshBodyOf s) 6; if n = 0 then 3 else n
def trialSeconds (s : State) : Nat := let n := g2 (fshBodyOf s) 4; (if n = 0 then 30 else n) * 60

/-! Confirmation (R475, R486, R487). -/

/-- The floor of a kind is stored: it never goes down. -/
def raiseFloor (kind arb : Nat) (s : State) : State :=
  let old := floorOf s kind
  note 0x0D23 [kind, old, max old arb] (onFsh (fun f => { f with floors := tset f.floors kind (max old arb) }) s)

/-- The image of the slot is the installed one, and is kept for forwarding. What a LOADER or WATERMARK image replaces is kept as
the latest confirmed one until its floor is stored (R475). -/
def slotInstalled (s : State) : State :=
  let k := s.fsh.img.kind
  onFsh (fun f =>
    { f with
      state := 6, journal := 0, trialBoots := 0, trialLeft := 0, journalBoots := 0, journalLeft := 0, bankReady := false,
      backup := if k = 2 || k = 3 then tset f.backup k (installedImg s k) else f.backup,
      installed := tset f.installed k f.img }) s

/-- The floor store of a confirmation is done: by FSH_CONFIRM, its commit point (R487, R495), or by the activation of a
LOADER or WATERMARK image, which was confirmed when it began to serve (R486). -/
def imageFloorStored (kind arb : Nat) (o : Option Org) (s : State) : State :=
  let trial := s.fsh.state = 5 && s.fsh.img.kind = kind && s.fsh.img.arb = arb
  let s1 :=
    if kind = 1 || kind = 4 then (if trial then raiseFloor kind arb (slotInstalled s) else s)
    else raiseFloor kind arb (onFsh (fun f => { f with restartDue := f.restartDue || s.sys.mode == .recovery }) s)
  match o with
  | some o => finish o (if trial then sOK else sWRONGMODE) [] (commitJob o s1)
  | none => s1

/-- The floor store of a LOADER or WATERMARK image, which was confirmed when it was installed; one that a BOOT cut short is asked
for again at the next start. -/
def floorOwed (s : State) : State :=
  let im := s.fsh.img
  let st : StoreAct := .floor im.kind im.arb none
  if s.fsh.state = 6 && floorOf s im.kind < im.arb && !storing st s then requestStore st s else s

/-- A LOADER or WATERMARK image is confirmed. -/
def confirmNow (s : State) : State := floorOwed (slotInstalled s)

/-- The application cores start from the new image: TRIAL. The application side loses its sluices as at BOOT, and what it left
outstanding has its final answer before (R486, R487; spec/02_sluices.md R64, R77; notes/assumptions/102.md). -/
def appTrial (s0 : State) : State :=
  let s := endOutstanding .app s0
  let im := s.fsh.img
  let old := tfind s.fsh.installed 4
  let s1 := openS0 .app (onMail (fun m => { m with sluices := m.sluices.filter (fun e => e.2.owner != some .app) }) s)
  onSys (fun y => { y with appStopped := false })
    (onFsh (fun f =>
      { f with
        state := 5, journal := 5, trialBoots := 0, trialLeft := trialSeconds s, journalBoots := 0, journalLeft := trialSeconds s,
        installed := tset f.installed 4 im,
        backup := match old with | some o => tset f.backup 4 o | none => tdel f.backup 4 }) s1)

/-- The journal of an EVVER activation is written (R485). -/
def journalActivation (s : State) : State :=
  onFsh (fun f =>
    { f with
      state := 4, journal := 4, norBlocks := (f.img.length + 262143) / 262144, backed := [], doneBlocks := [], blockTries := 0, restartDue := s.sys.ready,
      backup := tset f.backup 1 (installedImg s 1) }) s

/-! The resident loader's work (R485, R488, R489; spec/16_fault_absorption.md R529). -/

/-- The block that the loader works on: of an activation, of a fallback, or one marked for refresh. -/
def loaderBlock (s : State) : Option Nat :=
  match s.fsh.journal with
  | 4 => firstNat s.fsh.norBlocks (fun b => !s.fsh.doneBlocks.contains b)
  | 8 => s.fsh.backed.find? (fun b => !s.fsh.doneBlocks.contains b)
  | _ => if s.absorb.repairCopy then s.absorb.norRefresh.head? else none

/-- The next block asks for its store; in last gasp no further block is started. -/
def askBlock (s : State) : State :=
  match loaderBlock s with
  | some b => if s.power.lastGasp || storing (.freshetBlock b) s then s else requestStore (.freshetBlock b) s
  | none => s

/-- A block that the loader worked on is at its end: BACKED, and DONE where the NOR block passed its check; DONE of a fallback, or
the backup unreadable; or refreshed. After three failures of a block the fallback begins. -/
def norBlockWritten (ok readable : Bool) (b : Nat) (s : State) : State :=
  let keep := s.fsh.backed.filter (· != b)
  match s.fsh.journal with
  | 4 =>
    if ok then onFsh (fun f => { f with backed := keep ++ [b], doneBlocks := f.doneBlocks ++ [b], blockTries := 0 }) s
    else if s.fsh.blockTries < 2 then onFsh (fun f => { f with backed := keep ++ [b], blockTries := f.blockTries + 1 }) s
    else noteLater 0x0D27 [b] (onFsh (fun f =>
      { f with state := 8, journal := 8, backed := f.backed.filter (· < b), doneBlocks := [], blockTries := 0 }) s)
  | 8 =>
    if readable then onFsh (fun f => { f with doneBlocks := f.doneBlocks ++ [b] }) s
    else unabsorbed 6 b (onFsh (fun f => { f with journal := 0, state := 7, recoveryCause := 5 }) s)
  | _ => noteLater 0x0F73 [4, b * 262144, 64 - s.absorb.pagesRetired]
      (onAbsorb (fun a => { a with norRefresh := a.norRefresh.filter (· != b) }) s)

/-- NOR blocks of the copy of a LOADER image. -/
def copyBlocks (s : State) : Nat := max 1 ((s.fsh.img.length + 262143) / 262144)

/-- A block of the inactive loader copy is written; after the last, which was read back against the digest, the copy marker is
(R486). -/
def loaderCopied (b : Nat) (s : State) : State :=
  if s.fsh.state != 4 || s.fsh.img.kind != 2 then s
  else
    let s1 := onFsh (fun f => { f with doneBlocks := f.doneBlocks ++ [b] }) s
    requestStore (if b + 1 < copyBlocks s then .loaderCopy (b + 1) else .journal 2) s1

/-- The end of an EVVER trial that failed while Evver ran is journalled: the loader restores the old image, or RECOVERY waits
(R488). -/
def journalFailure (s : State) : State :=
  if s.fsh.state != 7 || s.fsh.img.kind != 1 || s.fsh.journal != 5 then s
  else if romRecovery s then onFsh (fun f => { f with journal := 0, recoveryCause := 2, restartDue := s.sys.ready }) s
  else onFsh (fun f => { f with state := 8, journal := 8, doneBlocks := [], restartDue := s.sys.ready }) s

/-- A journal store is done: the journal of an EVVER activation, which in RECOVERY the loader follows at once; the copy marker of
a LOADER image; the trial of an APPLICATION image; the trial's time and boots; the end of a trial (R485–R488, R491). -/
def journalStored (what : Nat) (s : State) : State :=
  if what = 8 then journalFailure s
  else if s.fsh.state = 5 then onFsh (fun f => { f with journalBoots := f.trialBoots, journalLeft := f.trialLeft }) s
  else if s.fsh.state != 4 || s.fsh.img.kind != what then s
  else match what with
    | 1 => let s1 := journalActivation s; if s.sys.ready then s1 else askBlock s1
    | 2 => confirmNow (onFsh (fun f => { f with loaderCopy := 1 - f.loaderCopy }) s)
    | 4 => appTrial s
    | _ => s

/-- New island firmware serves the link: FIRMWARE_INSTALLED (R237, R486). -/
def watermarkServes (old : List Nat) (s : State) : State :=
  if s.fsh.state = 4 && s.fsh.img.kind = 3 && s.fsh.bankReady && islandUp s && s.island.linkUp then
    let im := s.fsh.img
    let s1 := confirmNow s
    if s.sys.legal then
      audit 9 0 (old.flatMap p1 ++ im.version.flatMap p1 ++ zeros 2 ++ p4 (beNat (im.digest.take 4)) ++ p4 im.arb) s1
    else s1
  else s

/-- A trial fails (R487): the slot is REJECTED. Cause 1 boots, 2 window, 3 island start. The journal of an EVVER image follows
with its store (R31). -/
def trialFails (cause : Nat) (s : State) : State :=
  let s1 := onPower (fun p => { p with stores := p.stores.filter (fun x => match x.act with
    | .floor _ _ _ => x.admitted | _ => true) }) s
  noteRom 0x0D24 [s.fsh.img.kind, cause] (onFsh (fun f =>
    { f with state := 7, bankReady := false, journal := if f.img.kind = 1 then f.journal else 0 }) s1)

/-! Images along the line (R481, R482). -/

def labelTaker : List Byte := asciiBytes [0x46, 0x53, 0x48, 0x54]
def labelHolder : List Byte := asciiBytes [0x54, 0x48, 0x53, 0x46]

def shake (s : State) (p : Nat) : Shake := tget s.fsh.shakes p
def modShake (p : Nat) (f : Shake → Shake) (s : State) : State := onFsh (fun x => { x with shakes := tmod x.shakes p f }) s

/-- The body of a datagram. -/
def fshBody (d : List Byte) : List Byte := d.drop 16

/-- A Freshet datagram of the device out of one port, to a hardware address and an IPv4 address. -/
def sendFsh (p : Nat) (peer : List Byte) (kind session offset count : Nat) (body : List Byte) (s : State) : State :=
  let msg := p2 0x7346 ++ p1 kind ++ zeros 1 ++ p2 session ++ p2 s.fsh.txSeq ++ p4 offset ++ p4 count ++ body
  enqueue p (udpFrame s peer (peer.drop 6) 47101 47101 msg)
    (onFsh (fun f => { f with txSeq := (f.txSeq + 1) % 65536 }) s)

def sendRefuse (p : Nat) (peer : List Byte) (session status retry : Nat) (s : State) : State :=
  sendFsh p peer 8 session 0 0 (p2 status ++ p2 retry) s

/-- Whether the slot is one that is offered (R482). -/
def offering (s : State) : Bool :=
  let b := bodyOf s 7 0
  s.net.key.isSome && (s.fsh.state == 6 || (s.fsh.state == 3 && g1 b 2 == 0))

/-- A port on which the image goes on. -/
def forwards (s : State) (p : Nat) : Bool := p < 2 && bitOf (g1 (bodyOf s 7 0) 1) p && s.fsh.source != some (.line p)

/-- A port's outcome (R482). -/
def forwardEnds (p status : Nat) (s : State) : State :=
  note 0x0D28 [p, status] (modShake p (fun k => { k with stopped := true, holder := 0 }) s)

/-- Offset of the payload in the image file. -/
def payloadAt (im : Img) : Nat := 256 + 32 * im.blocks

/-- Up to `n` bytes of the image file from an offset, to the end of the head, or of a block. -/
def fileBytes (s : State) (off n : Nat) : List Byte :=
  let im := s.fsh.img
  if off < payloadAt im then slice (im.header ++ im.table) off n
  else
    let q := off - payloadAt im
    slice (tget s.fsh.staged (q / 65536)) (q % 65536) n

/-- DATA answers a GET: pieces of at most 1,024 bytes, at most eight. -/
def sendPieces (p : Nat) (peer : List Byte) (session : Nat) : Nat → Nat → Nat → State → State
  | 0, _, _, s => s
  | fuel + 1, off, n, s =>
    let d := fileBytes s off (min 1024 n)
    if d.isEmpty then s
    else sendPieces p peer session fuel (off + d.length) (n - d.length) (sendFsh p peer 7 session off d.length d s)

/-- The next GET of a taker: the table, then the first unmarked block from what is still missing of it. -/
def nextGet (p : Nat) (s : State) : State :=
  let k := shake s p
  let im := s.fsh.img
  if k.taker != 3 || s.fsh.lock != some (.line p) || s.fsh.state != 1 || blockWaits s then s
  else
    let base := payloadAt im
    let start :=
      if im.table.isEmpty && im.blocks != 0 then 256 + k.buf.length
      else
        let b := firstMissing s
        let got := (tget s.fsh.partials b).foldl (fun a x => max a (x.1 + x.2.length)) 0
        base + 65536 * b + got
    let stop := if start < base then base else base + 65536 * firstMissing s + blockLen im (firstMissing s)
    let n := min 8192 (stop - start)
    sendFsh p k.peer 6 k.takerSession start n [] (modShake p (fun x => { x with want := start, wantEnd := start + n }) s)

/-- A block is stored: marked, and its source goes on. -/
def blockStored (b : Nat) (s : State) : State :=
  let s1 := markBlock b s
  let s2 := match s.fsh.lock with | some (.line p) => nextGet p s1 | _ => s1
  ((waitingJobs s2 0x0D03).filter (fun j => j.a == b)).foldl
    (fun t j => finish j.org sOK (p4 t.fsh.marked.length ++ p1 1 ++ zeros 3) (commitJob j.org t)) s2

end Sys2Proof.Machine
end

