-- ==== Sys2Proof/Machine/MoistureFx.lean ====
section
/-! DEFINITION. Effects of the moisture engine's rows (spec/07_moisture_engine.md R264–R289). -/

namespace Sys2Proof.Machine

/-- The running interval is in its loop-back sweeps, its first 10 ms. -/
def inLoop (s : State) : Bool :=
  match s.engine.intervalAt with
  | some t => loopDue s t && decide (s.sys.devTime < t + 10000000)
  | none => false

/-- MST_STATUS (R288). -/
def mstStatusH (_ : Org) (_ : List Byte) (s : State) : Res :=
  let e := s.engine
  if linkDown s then .done sTIMEOUT [] s
  else
    let st := if e.st != 0 then e.st else if !sweeping s then 0 else if inLoop s then 2 else 1
    let next : Nat := match e.lastLoopDev with | some t => 60000 - nsMs (s.sys.devTime - t) | none => 0
    .done sOK (p1 st ++ p1 e.calActive ++ p1 e.refState ++ zeros 1 ++ q8 e.lastLoop ++ p4 next ++ p4 (w32 e.intervals) ++
      p1 e.excluded ++ zeros 3 ++ p4 e.lastSeq ++ zeros 4) s

/-- MST_CAPTURE_AIR (R288, R289): the capture runs until AIR_CAPTURE_COMPLETE. -/
def mstCaptureAirH (o : Org) (b : List Byte) (s : State) : Res :=
  let len := g4 b 0
  let fill := g2 b 4
  let cable := g2 b 6
  if linkDown s then .done sTIMEOUT [] s
  else if s.sys.legal && !s.island.sealPin then .done sSEALED [] s
  else match s.island.session with
    | none => .done sBADOBJ [] s
    | some p =>
      if p.owner != o.side || len < 20000 || len > 1000000 || fill < 1000 || fill > 10000 || cable > 10000 then
        .done sBADOBJ [] s
      else if p.queued || p.writing || s.engine.capture.isSome || s.engine.loopForced.isSome then .done sBUSY [] s
      else .later (addJob { org := o } (onEngine (fun e =>
        { e with capture := some (o, len, fill, cable), captureAt := s.sys.devTime, st := if e.st = 4 then 4 else 3 })
          (setSession (some { p with lastCmd := s.sys.devTime }) s)))

/-- MST_LOOPBACK (R288, R289): the next interval begins with a loop-back. -/
def mstLoopbackH (o : Org) (_ : List Byte) (s : State) : Res :=
  let e := s.engine
  if linkDown s then .done sTIMEOUT [] s
  else if e.st = 4 then .done sWRONGMODE [] s
  else if e.capture.isSome || e.loopForced.isSome then .done sBUSY [] s
  else if (applicator s).isEmpty || !e.hasInterval then .done sNOTFOUND [] s
  else .later (addJob { org := o } (onEngine (fun e => { e with loopForced := some (o, s.sys.devTime) }) s))

/-- One SPECTRUM record of up to three points from `first`, with the interval, grade reasons and parameters of the interval it
belongs to (R288). -/
def spectrumRecord (s : State) (first : Nat) : List Byte :=
  let e := s.engine
  let es := (e.spectrum.drop first).take 3
  let mid := (e.specFrom + e.specTo) / 2
  let why := commonReasons s e.specFrom e.specTo
  p1 1 ++ p1 0x11 ++ p1 1 ++ p1 (lowestReason why) ++ p4 0 ++ p2 s.island.epoch ++ p1 0 ++ zeros 1 ++
    p4 e.specCrc ++ p8 mid ++ q8 (islandCal s mid) ++ fit 32 (p4 e.lastSeq ++ p1 first ++ p1 es.length ++ zeros 2 ++ es.flatten)

/-- The island signs the spectrum of the last interval; each record takes a sequence number (R288, R244). -/
def signSpectrum : List Nat → State → List Byte × State
  | [], s => ([], s)
  | f :: r, s =>
    let (one, s1) := signed (spectrumRecord s f) s
    let (rest, s2) := signSpectrum r (askSeq s1)
    (one ++ rest, s2)

/-- Points at which the records of a spectrum begin. -/
def spectrumStarts (s : State) : List Nat := (List.range ((s.engine.spectrum.length + 2) / 3)).map (3 * ·)

/-- The answer of MST_SPECTRUM. -/
def spectrumAnswer (s : State) : List Byte × State :=
  let fs := spectrumStarts s
  let (b, s1) := signSpectrum fs s
  (p2 fs.length ++ zeros 2 ++ b, s1)

/-- MST_SPECTRUM (R288): at once while the sequence block has numbers, otherwise once the next one is stored. -/
def mstSpectrumH (o : Org) (_ : List Byte) (s : State) : Res :=
  if linkDown s then .done sTIMEOUT [] s
  else if (applicator s).isEmpty || !s.engine.hasInterval then .done sNOTFOUND [] s
  else if s.island.unsigned.isEmpty && s.island.seqNext + (spectrumStarts s).length ≤ s.island.seqEnd then
    let (b, s1) := spectrumAnswer s
    .done sOK b s1
  else .later (askSeq (addJob { org := o } s))

/-- Spectra that waited for sequence numbers are answered (R225). -/
def spectrumsWaiting (s : State) : State :=
  (waitingJobs s 0x0704).foldl (fun t j =>
    let (b, t1) := spectrumAnswer t
    finish j.org sOK b t1) s

def mstStatusFx := serve 0x0701 mstStatusH
def mstCaptureAirFx := serve 0x0702 mstCaptureAirH
def mstLoopbackFx := serve 0x0703 mstLoopbackH
def mstSpectrumFx := serve 0x0704 mstSpectrumH

/-- The sweeps' loop-back, at the commit point of the command that forced it. A command accepted after the interval began has its
loop-back in the next (R266, R276, R288). -/
def intervalLoop (ws : List Sweep) (start : Nat) (s : State) : State :=
  match s.engine.loopForced.filter (fun f => decide (f.2 ≤ start)) with
  | some f => loopBack ws start 2 (commitJob f.1 (onEngine (fun e => { e with loopForced := none }) s))
  | none => loopBack ws start s.engine.loopTrigger s

/-- An interval is over: its record is the latest, and the next begins; a loop-back that was forced during it has begun
(R265, R280, R288). -/
def intervalOver (used no : Nat) (s : State) : State :=
  let old := s.engine.calActive
  let s1 := onEngine (fun e =>
    { e with lastSeq := no, hasInterval := true, intervals := e.intervals + 1, calActive := used, intervalAt := some s.sys.devTime }) s
  let s2 := match s1.engine.loopForced with | some f => commitJob f.1 s1 | none => s1
  takeSelection (if old = used then s2 else note 0x0717 [old, used, no] s2)

/-- MOISTURE_INTERVAL_END (R264–R275, R280, R283, R286): the sweeps of the 100 ms that end now. The record is computed with
the selection, corrections and marks in force at the interval's start; in STILL a loop-back precedes the interval and
serves it. -/
def moistureIntervalEndFx (sweeps : List Sweep) (s0 : State) : State :=
  let start := s0.sys.devTime - 100000000
  let still := s0.sys.mode == .still
  underParams start (fun s =>
    if !sweeping s then s
    else
      let due := loopDue s start
      let used := calFor s start
      let s1 := loopOverdue start s
      let s2 := if due then intervalLoop (sweeps.take 5) (if still then start - 10000000 else start) s1 else s1
      let t0 := if due && !still then start + 10000000 else start
      intervalOver used (nextSeqNo s2)
        (moistureRecord (if still then s2.engine else s1.engine) (if due then sweeps.drop 5 else sweeps) used t0 s.sys.devTime s2)) s0

/-- ENGINE_THERMAL_PAUSE: TS12 or TS13 at or above 120 °C (R286). -/
def engineThermalPauseFx (s : State) : State :=
  let a := (tget s.power.sensors 12).raw
  let b := (tget s.power.sensors 13).raw
  if !islandUp s || s.engine.st = 4 || (a < 120000 && b < 120000) then s
  else note 0x0718 [1, a, b] (onEngine (fun e => { e with st := 4, intervalAt := none }) s)

/-- ENGINE_THERMAL_RESUME: both below 110 °C; a loop-back comes first (R286). -/
def engineThermalResumeFx (s : State) : State :=
  let a := (tget s.power.sensors 12).raw
  let b := (tget s.power.sensors 13).raw
  if s.engine.st != 4 || 110000 ≤ a || 110000 ≤ b then s
  else note 0x0718 [2, a, b] (onEngine (fun e =>
    { e with st := if e.capture.isSome then 3 else 0, loopOwed := true, intervalAt := some s.sys.devTime, captureAt := s.sys.devTime }) s)

/-- The APPLICATOR object that a capture stages (R278, R288). -/
def capturedBody (len fill cable : Nat) (at_ ts12 : Int) (air refl : List Cx) : List Byte :=
  let put : Cx → List Byte := fun z => p4 (f32.encode z.1) ++ p4 (f32.encode z.2)
  p4 len ++ p2 fill ++ p2 cable ++ q8 at_ ++ q4 ts12 ++ zeros 12 ++ air.flatMap put ++ refl.flatMap put

/-- The capture's sweeps are judged: more than 20 dB of loss at 1.5 GHz, or no room, stages nothing (R288, R289). -/
def stageCapture (o : Org) (p : PSession) (len fill cable : Nat) (ws : List Sweep) (s : State) : State :=
  let air := (meanSweep ws).zipWith (fun z n => cDiv z (intCorr s.engine n)) (List.range 201)
  let refl := (List.range 201).map (cGet s.engine.refl)
  let ts12 := (tget s.power.sensors 12).raw
  let loss : Cx → Option Rat := fun z => (decibels z).map (fun d => -d)
  let high := loss (air.getD 200 (0, 0))
  let body := capturedBody len fill cable (islandCal s s.sys.devTime) ts12 air refl
  match (if high.all (fun d => decide (20 < d)) then none else stageParam { cls := 2, index := 0, format := 1, body := body } p) with
  | none => finish o sLIMIT [] s
  | some q =>
    let lo := dbField (loss (air.getD 0 (0, 0)))
    let hi := dbField high
    let dly := uField 2 (roundRat (lineDelay refl) - 40000)
    let rec_ := q2 lo ++ q2 hi ++ q2 (dbField (decibels (refl.getD 200 (0, 0)))) ++ p2 dly ++ q4 ts12 ++ zeros 20
    makeRecord 0 0x12 0 (s.engine.captureAt + 10000000) s.sys.devTime rec_
      (note 0x0716 [sideCode o.side, lo, hi, dly] (commitJob o (setSession (some q) s)))

/-- AIR_CAPTURE_COMPLETE: a loop-back, then the sweeps whose mean is staged as the APPLICATOR object. Of a capture that
ended early its loop-back remains (R287–R289). -/
def airCaptureCompleteFx (sweeps : List Sweep) (s : State) : State :=
  let e := s.engine
  match e.capture, s.island.session with
  | some (o, len, fill, cable), some p =>
    if e.st = 4 || !islandUp s || p.owner != o.side then s
    else stageCapture o p len fill cable (sweeps.drop 5) (loopBack (sweeps.take 5) e.captureAt 3
      (onEngine (fun e => { e with capture := none, st := 0, intervalAt := some s.sys.devTime }) s))
  | _, _ =>
    if !e.captureCut || !islandUp s then s
    else loopBack (sweeps.take 5) e.captureAt 3 (onEngine (fun e => { e with captureCut := false }) s)

end Sys2Proof.Machine
end

