-- ==== Sys2Proof/Machine/ReamOps.lean ====
section
/-! DEFINITION. The event recorder's memories: the ring, the fallback ring and the clear floor (spec/15_ream.md
R498–R511). -/

namespace Sys2Proof.Machine

/-- Records that the ring holds (spec/01_one_view.md R25; R510). -/
def ringCapacity (s : State) : Nat := 131072 - 64 * s.ream.retired

/-- Sequence order (R500). -/
def seqLe (a b : Nat) : Bool := decide (0 ≤ posDist a b)

/-- A record enters the ring; a full ring loses its oldest (R502). -/
def toRing (r : Rec) (s : State) : State :=
  let n := ringCapacity s
  onReam (fun m => { m with ring := if m.ring.length < n then r :: m.ring else (r :: m.ring).take n }) s

/-- The next record written after a loss carries QUEUE_LOSS, and the loss is told of (R502). -/
def tellQueueLoss (s : State) : State :=
  let n := s.ream.queueLoss
  if n = 0 then s else note 0x0E33 [n, 1] (onReam (fun m => { m with queueLoss := 0 }) s)

/-- QUEUE_LOSS of the next record written (R499, R502). -/
def lossFlag (s : State) : Nat := if s.ream.queueLoss = 0 then 0 else 16

/-- No record of the queue or of a merge is being written. -/
def cancelReam (s : State) : State :=
  onPower (fun p => { p with stores := p.stores.filter (fun x => x.act != .reamRecord) }) s

/-- The oldest queued record is in the ring (R502). `extra` are flags it gains, as LAST_GASP. -/
def writeOldest (extra : BitVec 8) (s : State) : State :=
  match s.ream.queue.getLast? with
  | none => s
  | some r =>
    let loss := BitVec.ofNat 8 (lossFlag s)
    tellQueueLoss (toRing { r with rflags := r.rflags ||| extra ||| loss } (onReam (fun m => { m with queue := m.queue.dropLast }) s))

/-- Every queued record is written (R503). -/
def flushQueue : Nat → BitVec 8 → State → State
  | 0, _, s => s
  | fuel + 1, extra, s => if s.ream.queue.isEmpty then s else flushQueue fuel extra (writeOldest extra s)

/-- The lowest record of the fallback ring by seq. -/
def nextFallback (s : State) : Option Rec :=
  s.ream.fallback.foldl (fun a r => match a with | some x => if seqLe x.seq r.seq then some x else some r | none => some r) none

/-- One record of a merge is written; the last ends it (R510). -/
def mergeOne (s : State) : State :=
  match nextFallback s with
  | none => s
  | some r =>
    let s1 := toRing { r with rflags := r.rflags ||| 0x2 } (onReam (fun m =>
      { m with fallback := m.fallback.filter (fun x => x.seq != r.seq), merged := m.merged + 1 }) s)
    if s1.ream.fallback.isEmpty then
      note 0x0E31 [s1.ream.merged, s1.ream.fbOverwritten]
        (onReam (fun m => { m with fbState := 0, merged := 0, fbOverwritten := 0 }) s1)
    else s1

/-- A REAM_RECORD store is done. -/
def reamWritten (s : State) : State := if s.ream.fbState = 2 then mergeOne s else if s.ream.fbState = 0 then writeOldest 0 s else s

/-- The ring is failed: Ream stays on the fallback ring (R510). -/
def ringFailed (s : State) : State :=
  cancelReam (noteFault 0x0E30 [3, s.ream.failOffset] (onReam (fun m => { m with fbState := 3 }) s))

/-- A failure of the ring diverts to the fallback ring: 0x0E30 first, then the record whose write failed and what waits
behind it (R509). Before the end of the merge, a failure in another region fails the ring, and one in the same region is
tested again (R510; notes/assumptions/156.md). -/
def divert (cause offset : Nat) (s : State) : State :=
  if s.ream.fbState = 3 then s
  else if s.ream.fbState != 0 then
    if offset / 4096 != s.ream.failOffset / 4096 then ringFailed s
    else cancelReam (onReam (fun m => { m with fbState := 1 }) s)
  else
    let waiting := s.ream.queue
    let s1 := onReam (fun m => { m with fbState := 1, queue := [], failOffset := offset }) s
    let s2 := raiseEv 0x0E30 [cause, offset] 0 (32 + lossFlag s)
      (onAbsorb (fun a => { a with lastFault := 0x0E30, faultActive := true }) s1)
    let s3 := onReam (fun m =>
      { m with fallback := waiting.take 255 ++ m.fallback, fbOverwritten := m.fbOverwritten + (waiting.length - 255) }) s2
    cancelReam (tellQueueLoss s3)

/-- The region test has decided (R510). -/
def regionTested (fails others : Bool) (s : State) : State :=
  if s.ream.fbState != 1 then s
  else if others || (fails && 16 ≤ s.ream.retired) then ringFailed s
  else
    let s1 :=
      if fails then
        let t := onReam (fun m => { m with retired := m.retired + 1 }) s
        note 0x0E32 [s.ream.failOffset / 4096, t.ream.retired]
          (onReam (fun m => { m with ring := m.ring.take (ringCapacity t) }) t)
      else s
    onReam (fun m => { m with fbState := 2, merged := 0 }) s1

/-! Reading (R515). -/

def recBytes (r : Rec) : List Byte :=
  p4 r.seq ++ p2 r.epoch ++ p2 r.code ++ q8 r.calendar ++ p8 r.devTime ++ p2 r.boot ++ p2 r.suppressed ++
    p1 r.rflags.toNat ++ p1 r.fixed ++ p1 r.actor ++ zeros 1 ++ r.snap.flatMap p4

/-- Readable records in seq order: ring and unmerged fallback ring, from the clear floor. -/
def readable (s : State) : List Rec :=
  sortBy (fun a b => seqLe a.seq b.seq) ((s.ream.fallback ++ s.ream.ring).filter (fun r => seqLe s.ream.floor r.seq))

/-- Newest and oldest readable seq. -/
def newestSeq (s : State) : Nat := match (readable s).getLast? with | some r => r.seq | none => w32 (s.ream.nextSeq + 4294967295)
def oldestSeq (s : State) : Nat := match (readable s).head? with | some r => r.seq | none => s.ream.nextSeq

/-- Records from the front until `n` match: the matches, and the seq after the last one examined. -/
def examine (n code mask : Nat) : List Rec → Nat → List Rec → List Rec × Nat
  | [], next, acc => (acc.reverse, next)
  | r :: rs, next, acc =>
    if acc.length ≥ n then (acc.reverse, next)
    else examine n code mask rs (w32 (r.seq + 1)) (if (r.code ^^^ code) &&& mask = 0 then r :: acc else acc)

/-- Response of REAM_READ and REAM_READ_BULK. -/
def readAnswer (b : List Byte) (s : State) : List Byte :=
  let first := g4 b 0
  let all := readable s
  let gap := match all.head? with | some r => !seqLe r.seq first | none => false
  let (rs, next) := examine (g2 b 4) (g2 b 6) (g2 b 8) (all.filter (fun r => gap || seqLe first r.seq)) first []
  p2 rs.length ++ p1 (b01 gap) ++ zeros 1 ++ p4 next ++ rs.flatMap recBytes

/-! Clearing (R511). -/

/-- The floor store is done: the commit point of a REAM_CLEAR. A floor that a later clear has raised further stays. -/
def floorStored (o : Org) (upTo : Nat) (s : State) : State :=
  let old := s.ream.floor
  let n := ((readable s).filter (fun r => seqLe r.seq upTo)).length
  let new := if seqLe old (w32 (upTo + 1)) then w32 (upTo + 1) else old
  let s1 := noteBy o.side 0x0E10 [sideCode o.side, old, upTo, n] (onReam (fun m => { m with floor := new }) (commitJob o s))
  finish o sOK (p4 n ++ p4 new) s1

end Sys2Proof.Machine
end

