-- ==== Sys2Proof/Machine/ReamFx.lean ====
section
/-! DEFINITION. Ream commands and events (spec/15_ream.md R504–R516). -/

namespace Sys2Proof.Machine

/-- REAM_TOKEN_REFILL: a token is added, up to the burst (R504). -/
def reamTokenRefillFx (code : Nat) (s : State) : State :=
  match tfind s.ream.buckets code with
  | some b => onReam (fun m => { m with buckets := tset m.buckets code { b with spent := b.spent - 1 } }) s
  | none => s

/-- SUPPRESSION_TIMEOUT: 3,600 s after the code's last record (R506). -/
def suppressionTimeoutFx (code : Nat) (s : State) : State :=
  if (tget s.ream.buckets code).last + 3600000000000 ≤ s.sys.devTime then noteSuppressed code s else s

/-- REGION_TEST_DONE (R510). -/
def regionTestDoneFx (fails others : Bool) (s : State) : State := regionTested fails others s

/-- REAM_STATUS. -/
def reamStatusH (_ : Org) (_ : List Byte) (s : State) : Res :=
  let m := s.ream
  .done sOK (p4 (newestSeq s) ++ p4 (oldestSeq s) ++ p4 m.floor ++ p4 (ringCapacity s) ++ p1 m.retired ++ p1 m.fbState ++
    p2 m.fallback.length ++ p4 m.fbOverwritten ++ p2 m.queue.length ++ p2 m.epoch ++ p4 m.lost ++ p2 m.boot ++ zeros 2) s

/-- REAM_READ. -/
def reamReadH (_ : Org) (b : List Byte) (s : State) : Res :=
  if g2 b 4 = 0 || g2 b 4 > 256 || !zeroAt b 10 2 then .done sBADOBJ [] s else .done sOK (readAnswer b s) s

/-- REAM_READ_BULK: the notice follows. -/
def reamReadBulkH (o : Org) (b : List Byte) (s : State) : Res :=
  if g2 b 4 = 0 || g2 b 4 > 16383 || !zeroAt b 10 2 then .done sBADOBJ [] s else .later (addJob { org := o, data := b } s)

/-- REAM_READ_BULK_COMPLETE. -/
def reamReadBulkCompleteFx (d : Side) (n tag : Nat) (s : State) : State :=
  match (waitingJobs s 0x0E03).find? (fun j => j.org.side == d && j.org.sluice == n && j.org.tag == tag) with
  | some j => finish j.org sOK (readAnswer j.data s) s
  | none => s

/-- REAM_CODE_INFO. -/
def reamCodeInfoH (_ : Org) (b : List Byte) (s : State) : Res :=
  let code := g2 b 0
  if !zeroAt b 2 2 then .done sBADOBJ [] s
  else match eventRow code with
    | none => .done sOK (zeros 24) s
    | some (_, sizes, _) =>
      let own := match policyEntry s code with | some e => bitOf (g1 e 2) 0 | none => false
      let lim := bucketLimits s code
      let kind : Nat := if eventProtected code then 3 else if lim.isNone then 0 else if own then 2 else 1
      let k := tget s.ream.buckets code
      let nums := match lim with
        | some (r, p, burst) => p2 r ++ p2 p ++ p2 burst ++ p2 (burst - k.spent)
        | none => zeros 8
      .done sOK (p1 1 ++ p1 (sizes.sum / 4) ++ p1 kind ++ zeros 1 ++ fit 8 (sizes.map (BitVec.ofNat 8)) ++ nums ++
        p2 (min k.withheld 65535) ++ zeros 2) s

/-- up_to lies within R511. -/
def clearable (s : State) (upTo : Nat) : Bool := seqLe s.ream.floor upTo && !seqLe (newestSeq s) upTo

/-- REAM_CHALLENGE. -/
def reamChallengeH (_ : Org) (b : List Byte) (s : State) : Res :=
  let upTo := g4 b 0
  if s.net.key.isNone || s.ream.refusing then .done sAUTH [] s
  else if !clearable s upTo then .done sBADOBJ [] s
  else
    let nonce := randomBytes 8 s
    .done sOK (nonce ++ p8 s.sys.serial)
      (drawn 8 (onReam (fun m => { m with challenge := some (leNat 8 nonce, upTo, s.sys.devTime) }) s))

/-- The proof of R511. -/
def clearProof (s : State) (nonce upTo : Nat) : List Byte :=
  (hmac (s.net.key.getD []) ([0x43, 0x4C, 0x52, 0x51] ++ p8 nonce ++ p8 s.sys.serial ++ p4 upTo)).take 16

/-- A wrong proof; the third within 10 min starts a refusal (R511). -/
def wrongClear (d : Side) (s : State) : State :=
  let l := s.sys.devTime :: s.ream.wrongProofs.filter (fun t => decide (s.sys.devTime < t + 600000000000))
  noteBy d 0x0E11 [sideCode d, l.length] (onReam (fun m => { m with wrongProofs := l, refusing := m.refusing || 3 ≤ l.length }) s)

/-- REAM_CLEAR: a challenge is used once, whatever its proof. -/
def reamClearH (o : Org) (b : List Byte) (s : State) : Res :=
  let upTo := g4 b 0
  if s.net.key.isNone || s.ream.refusing then .done sAUTH [] s
  else if !clearable s upTo then .done sBADOBJ [] s
  else if !s.ream.fallback.isEmpty then .done sBUSY [] s
  else match s.ream.challenge with
    | none => .done sAUTH [] s
    | some (nonce, u, t) =>
      let s1 := onReam (fun m => { m with challenge := none }) s
      if u != upTo || s.sys.devTime > t + 60000000000 then .done sAUTH [] s1
      else if b.drop 4 != clearProof s nonce upTo then .done sAUTH [] (wrongClear o.side s1)
      else if canStore (.reamFloor o upTo) s1 then .later (requestStore (.reamFloor o upTo) (addJob { org := o } s1))
      else .done sNOENERGY [] (requestStore (.reamFloor o upTo) s1)

/-- CLEAR_REFUSAL_END: 10 min after the third wrong proof. -/
def clearRefusalEndFx (s : State) : State :=
  if s.ream.refusing && s.ream.wrongProofs.all (fun t => decide (t + 600000000000 ≤ s.sys.devTime)) then
    onReam (fun m => { m with refusing := false, wrongProofs := [] }) s
  else s

/-- REAM_TIME_SET: the step is its commit point (R507, R516). -/
def reamTimeSetH (o : Org) (b : List Byte) (s : State) : Res :=
  let t := i8 b 0
  if t < 0 || 3155760000000 ≤ t then .done sBADOBJ [] s
  else if s.net.ptpState = 3 then .done sWRONGMODE [] s
  else
    let s1 := timeSet t 1 (sideCode o.side) (addJob { org := o } s)
    .later (finish o sOK (p2 s1.ream.epoch ++ zeros 2 ++ p4 (w32 (s1.ream.nextSeq + 4294967295))) s1)

def reamStatusFx := serve 0x0E01 reamStatusH
def reamReadFx := serve 0x0E02 reamReadH
def reamReadBulkFx := serve 0x0E03 reamReadBulkH
def reamCodeInfoFx := serve 0x0E04 reamCodeInfoH
def reamChallengeFx := serve 0x0E05 reamChallengeH
def reamClearFx := serve 0x0E06 reamClearH
def reamTimeSetFx := serve 0x0E07 reamTimeSetH

end Sys2Proof.Machine
end

