-- ==== Sys2Proof/Machine/StoreOps.lean ====
section
/-! DEFINITION. What the admission, the completion and the failure of a store do (spec/01_one_view.md R31;
spec/16_fault_absorption.md R529, R530; spec/18_power_reservoir_thermal.md R564, R565). -/

namespace Sys2Proof.Machine

/-- NOR blocks of the installed Evver: of its image where known, else the whole region (R472, R529). -/
def norBlocksOf (s : State) : Nat := ((installedImg s 1).length + 262143) / 262144

/-- The repair copy is written block by block (R529). -/
def startRepairCopy (s : State) : State :=
  requestStore (.repairCopy 0) (onPower (fun p =>
    { p with stores := p.stores.filter (fun x => match x.act with | .repairCopy _ => x.admitted | _ => true) })
    (onAbsorb (fun a => { a with repairCopy := false }) s))

/-- What follows the admission of a waiting store. -/
def onAdmitted (a : StoreAct) (s : State) : State :=
  match a with
  | .islandParam _ => startParamWrite s
  | _ => s

/-- Waiting stores are admitted in order of request; one whose condition does not hold keeps none behind it back
(R565). `k` counts the stores still to be looked at. -/
def admitWaiting : Nat → State → State
  | 0, s => s
  | k + 1, s =>
    let i := s.power.stores.length - (k + 1)
    match s.power.stores[i]? with
    | some x =>
      if !x.admitted && canStore x.act s then
        admitWaiting k (onAdmitted x.act (onPower (fun p =>
          { p with stores := lmod p.stores i (fun y => { y with admitted := true }) }) s))
      else admitWaiting k s
    | none => s

/-- The inactive bank holds the new firmware, and the island restarts from it (spec/14_freshet.md R486). -/
def bankWritten (s : State) : State :=
  if s.fsh.state = 4 && s.fsh.img.kind = 3 then
    onFsh (fun f => { f with bankReady := true }) (allStale (onIsland (fun i => { i with running := false }) (islandSramLost s)))
  else s

/-- An activation that could not be written is given up; its image is STAGED again (notes/assumptions/155.md). -/
def activationFailed (s : State) : State :=
  if s.fsh.state = 4 then
    onSys (fun y => { y with target := if y.targetCause = 0x12 then none else y.target, targetCause := if y.targetCause = 0x12 then 0 else y.targetCause })
      (onFsh (fun f => { f with state := 3, bankReady := false }) s)
  else s

/-- A store is complete and read back: what it stored holds. -/
def storeDone (a : StoreAct) (s : State) : State :=
  match a with
  | .reamRecord => reamWritten s
  | .reamFloor o u => floorStored o u s
  | .parcelSeq e => seqStored e s
  | .history id z => historyStored id z true s
  | .ageRebase o i => rebased o i s
  | .floor k arb o =>
    let s1 := imageFloorStored k arb o s
    if k = 1 && s.fsh.state = 5 then startRepairCopy s1 else s1
  | .islandAudit => writeAudit s
  | .islandSeq => spectrumsWaiting (newSeqBlock s)
  | .islandCycle c => zonesEval (cycleStored c s)
  | .islandParam o => commitParams o s
  | .freshetStage b => blockStored b s
  | .journal k => journalStored k s
  | .netKey o k => keyStored o k s
  | .loaderCopy b => loaderCopied b s
  | .islandBank => bankWritten s
  | .freshetBlock b => norBlockWritten true true b s
  | .repairCopy b =>
    if b + 1 < norBlocksOf s then requestStore (.repairCopy (b + 1)) s else onAbsorb (fun x => { x with repairCopy := true }) s
  | .configSlot o => takeSelection (configWritten o s)
  | .configMigrate => migrationWritten s
  | .ageRecord => agesStored true s
  | .cellMap => onAbsorb (fun x => { x with mapFailed := x.cellFailed, mapServes := x.spareServes }) s

/-- The command that waited for a store that failed for good ends without effect (notes/assumptions/46.md). -/
def failJob (o : Org) (s : State) : State := finish o sBUSY [] s

/-- The third write failed: the class's own rule, or no effect and 0x0F72 (R530). -/
def storeFailed (a : StoreAct) (offset : Nat) (s : State) : State :=
  let lost := noteFault 0x0F72 [storeClass a, offset]
  match a with
  | .reamRecord => divert 2 offset s
  | .configSlot o => configFailed o offset s
  | .reamFloor o _ => failJob o (lost s)
  | .ageRebase o _ => failJob o (lost s)
  | .netKey o _ => failJob o (lost s)
  | .floor _ _ (some o) => failJob o (lost s)
  | .islandParam o =>
    let s1 := abortParams (lost s)
    match o with | some o => failJob o s1 | none => s1
  | .history id z => historyStored id z false (lost s)
  | .ageRecord => agesStored false (lost s)
  | .islandSeq => onIsland (fun i => { i with seqAsked := false }) (lost s)
  | .islandCycle c =>
    let s1 := modW c (fun w => { w with next := none }) (lost s)
    match (wch s1 c).pending with
    | some q =>
      if q.kind != 6 && q.kind != 7 then s1
      else if q.source = 2 && q.kind = 6 then raiseCause q.zone 6 0xFFFF (note 0x0361 [q.zone, q.kind, sBUSY] (answerReq c q sBUSY 0 s1))
      else answerReq c q sBUSY 0 s1
    | none => s1
  | .journal _ => activationFailed (lost s)
  | .loaderCopy _ => activationFailed (lost s)
  | .islandBank => activationFailed (lost s)
  | .freshetStage b =>
    ((waitingJobs s 0x0D03).filter (fun j => j.a == b)).foldl (fun t j => failJob j.org t)
      (onFsh (fun f => { f with staged := tdel f.staged b }) (lost s))
  | _ => lost s

/-- Store `i` leaves the list. -/
def dropStore (i : Nat) (s : State) : State := onPower (fun p => { p with stores := p.stores.eraseIdx i }) s

/-- A STEP measurement may begin (spec/18_power_reservoir_thermal.md R562). -/
def stepMay (s : State) : Bool :=
  s.sys.ready && s.power.measuring == 0 && !s.power.lastGasp && !s.power.stores.any (·.admitted)

def startStep (s : State) : State := onPower (fun p => { p with measuring := 2, charging := false, stepDue := false }) s

/-- A STEP measurement that waited for the stores begins. -/
def stepWaiting (s : State) : State := if s.power.stepDue && stepMay s then startStep s else s

/-- A store completes: it was admitted, and its write is read back. -/
def storeComplete (i : Nat) (s : State) : State :=
  match s.power.stores[i]? with
  | none => s
  | some x => storeDone x.act (onPower (fun p => { p with gaspStores := p.gaspStores + b01 p.lastGasp }) (dropStore i s))

/-- A write of store `i` has been read back. -/
def storeWrite (i : Nat) (ok : Bool) (offset : Nat) (s : State) : State :=
  match s.power.stores[i]? with
  | none => s
  | some x =>
    match x.act with
    | .freshetBlock _ => s
    | a =>
      if !x.admitted then s
      else if ok then storeComplete i s
      else if x.write < 3 then
        note 0x0F74 [x.cls, x.write + 1] (onAbsorb (fun a => { a with storeRetries := w32 (a.storeRetries + 1) })
          (onPower (fun p => { p with stores := lmod p.stores i (fun y => { y with write := y.write + 1 }) }) s))
      else storeFailed a offset (dropStore i s)

/-- Every store already admitted runs to completion (R31), the loader's block among them: the oldest first. -/
def finishStores : Nat → State → State
  | 0, s => s
  | fuel + 1, s =>
    match firstNat s.power.stores.length (fun i => match s.power.stores[i]? with | some x => x.admitted | none => false) with
    | some i => finishStores fuel (storeComplete i s)
    | none => s

end Sys2Proof.Machine
end

