-- ==== Sys2Proof/Machine/ValveFx.lean ====
section
/-! DEFINITION. Effects of the valve drive rows (spec/10_valve_drive.md R360–R386). -/

namespace Sys2Proof.Machine

/-- VLV_SET (R383). -/
def vlvSetH (_ : Org) (b : List Byte) (s : State) : Res :=
  let n := g2 b 0
  let v := i4 b 4
  if g2 b 2 != 0 then .done sBADOBJ [] s
  else if n ≥ 128 || (stn s n).isEmpty then .done sNOTFOUND [] s
  else if !isProp s n || v < 0 || v > iMax s (stnTerm s n) then .done sBADOBJ [] s
  else if inRunningZone s n || (chn s (stnTerm s n)).latched then .done sWRONGMODE [] s
  else .done sOK [] (driveProp (stnTerm s n) v false s)

/-- VLV_PULSE (R384): the answer is placed at the pulse start, the commit point. -/
def vlvPulseH (o : Org) (b : List Byte) (s : State) : Res :=
  let n := g2 b 0
  let len := g4 b 4
  if g2 b 2 != 0 then .done sBADOBJ [] s
  else if n ≥ 128 || (stn s n).isEmpty then .done sNOTFOUND [] s
  else if !isInj s n || len < 100 || len > 10000000 then .done sBADOBJ [] s
  else if inRunningZone s n then .done sWRONGMODE [] s
  else .later (pulseDue { chan := stnTerm s n, station := n, lenUs := len, due := s.sys.devTime, org := some o }
    (addJob { org := o } s))

/-- A channel that is off, one latched off included: neither regulating nor in a pulse (R380). -/
def chanOff (s : State) (c : Nat) : Bool :=
  let k := chn s c
  k.phase == 0 && (k.st == 0 || k.st == 6 || (k.st == 1 && k.setpoint == 0 && slewed s c s.sys.devTime == 0))

/-- state of VLV_STATUS (R385). -/
def vlvState (s : State) (c : Nat) : Nat :=
  if (chn s c).latched then 6
  else if chanOff s c then (if (bank s (c / 4)).queue.any (fun q => q.chan == c) then 5 else 0)
  else (chn s c).st

/-- Target of VLV_STATUS, µA. -/
def vlvTarget (s : State) (c : Nat) : Int :=
  if chanIsProp s c then targetAt s c s.sys.devTime
  else match (chn s c).phase with | 1 => iPeak s c | 2 => iPeak s c | 3 => iHold s c | 4 => iHold s c | _ => 0

/-- Mean current over the last 10 ms, through every setpoint of that time; of an injector that was in a phase of a pulse other than
HOLD it is a free value (notes/assumptions/18.md). -/
def vlvCurrent (s : State) (c : Nat) : Int :=
  let now := s.sys.devTime
  let k := chn s c
  let past := (chn (touchChan c s) c).past
  let mean : Int := if now = 0 then nowUa s c
    else roundRat ((past.map (pieceSum (now - 10000000))).sum / ((min now 10000000 : Nat) : Rat))
  if chanIsProp s c then mean
  else match k.phaseAt with
    | none => 0
    | some t => if t + 10000000 ≤ now && (k.phase = 0 || k.phase = 4) then mean else freeUa s.fresh

/-- Duty of VLV_STATUS: what the present current needs (R363); in RISE, which has no PWM, a free value. -/
def vlvDuty (s : State) (c : Nat) : Nat :=
  let k := chn s c
  if k.headroom || k.openLoad then k.duty
  else if chanIsProp s c then dutyFor s c (slewed s c s.sys.devTime)
  else match k.phase with
    | 1 => Config.freeNat (s.fresh + 1) % 10001
    | 2 => dutyFor s c (iPeak s c)
    | 4 => dutyFor s c (iHold s c)
    | _ => 0

/-- Mean of the latest closing delays, µs; 0xFFFF for none. -/
def kinkMean (ch : Chan) : Nat := if ch.kinks.isEmpty then 0xFFFF else (meanInt ch.kinks.sum ch.kinks.length).toNat

/-- VLV_STATUS (R385). -/
def vlvStatusH (_ : Org) (b : List Byte) (s : State) : Res :=
  let n := g2 b 0
  let c := stnTerm s n
  let ch := chn s c
  let co := coil s c
  if g2 b 2 != 0 then .done sBADOBJ [] s
  else if n ≥ 128 || (stn s n).isEmpty then .done sNOTFOUND [] s
  else if !isProp s n && !isInj s n then .done sBADOBJ [] s
  else .done sOK (p2 (valveFlags s n (valueOf s n)) ++ p1 (vlvState s c) ++ zeros 1 ++ q4 (vlvTarget s c) ++ q4 (vlvCurrent s c) ++
    p2 (vlvDuty s c) ++
    p2 ch.kinkLast ++ q4 (roundRat (co.tw * 1000)) ++ q4 (roundRat (co.tb * 1000)) ++ p4 co.rMeas ++ p4 co.pulses ++
    p4 co.deferred ++ p4 co.refused ++ p4 co.cut ++ p2 (kinkMean ch) ++ p1 (uField 1 ch.misses) ++ p1 (min co.peakSlow 255)) (drawn 2 s)

/-- Current budget of a bank (R358). -/
def bankBudget (s : State) (b : Nat) : Int :=
  (bankChans b).foldl (fun a c => a + (if chanIsProp s c then iMax s c else if chanIsInj s c then iHold s c else 0)) 0

/-- VLV_BANK (R385). -/
def vlvBankH (_ : Org) (b : List Byte) (s : State) : Res :=
  let k := g1 b 0
  let bk := bank s k
  if !zeroAt b 1 3 || k > 2 then .done sBADOBJ [] s
  else .done sOK (p1 (if bk.latched then 2 else b01 bk.closed) ++ p1 s.valves.boost ++ p1 (bk.peakOwner.getD 0xFF) ++
    p1 bk.queue.length ++ q4 s.valves.vbst ++ q4 s.power.vfieldVd ++
    q4 ((bankChans k).foldl (fun a c => a + nowUa s c) 0) ++ q4 (bankBudget s k) ++
    p2 (uField 2 (roundRat (clampPower s k * 1000))) ++ p2 (uField 2 bk.maxWaitUs) ++ p4 bk.refused ++ zeros 4) s

/-- VLV_RESET_FAULT (R386). A bank is named in 0x0914 as 0x100 + bank (notes/assumptions/19.md). -/
def vlvResetFaultH (o : Org) (b : List Byte) (s : State) : Res :=
  let n := g2 b 2
  if g1 b 0 > 1 || g1 b 1 != 0 then .done sBADOBJ [] s
  else if g1 b 0 = 1 then
    if n > 2 then .done sBADOBJ [] s
    else .done sOK [] (noteBy o.side 0x0914 [256 + n, 2] (refreshBanks
      (modBank n (fun k => { k with latched := false, tripped := false, trips := [] }) s)))
  else if n ≥ 128 || (stn s n).isEmpty then .done sNOTFOUND [] s
  else if !isProp s n && !isInj s n then .done sBADOBJ [] s
  else
    let c := stnTerm s n
    let s1 := modChan c (fun k =>
      { k with
        latched := false, stuck := false, misses := 0, trips := [], kinkSum := 0, kinkCount := 0,
        kinkRef := none, driftSaid := false, retrying := false, st := if k.st = 6 then 0 else k.st }) s
    .done sOK [] (noteBy o.side 0x0914 [n, 2] (if isProp s n then retake c s1 else s1))

def vlvSetFx := serve 0x0901 vlvSetH
def vlvPulseFx := serve 0x0902 vlvPulseH
def vlvStatusFx := serve 0x0903 vlvStatusH
def vlvBankFx := serve 0x0904 vlvBankH
def vlvResetFaultFx := serve 0x0905 vlvResetFaultH

/-- The bank is free of this channel's peak. -/
def freePeak (c us : Nat) (s : State) : State :=
  modBank (c / 4) (fun b => { b with peakOwner := if b.peakOwner = some c then none else b.peakOwner })
    (modChan c (fun k => { k with lastPeakUs := some us }) s)

/-- The channel goes to OFF at its pulse end, by decay_off from `ua` (R364). -/
def toOff (c : Nat) (ua : Int) (s : State) : State :=
  let fast := g1 (vpart s c) 35 == 1
  let now := s.sys.devTime
  modChan c (fun k =>
    { k with
      st := 4, phase := 5, phaseAt := some now, current := ua, offSlow := fast && (bank s (c / 4)).clampHot,
      charged := decaysFast s c fast false, ran := true,
      heldLong := k.heldLong || (k.phase == 4 && (match k.phaseAt with | some t => decide (t + 5000000 ≤ now) | none => false)) })
    (decayTo c fast false ua 0 (touchChan c s))

/-- OFF has ended: the pulses that fell due in it now follow R376 (R366). -/
def afterOff (c : Nat) (s : State) : State :=
  let mine := fun (q : PulseReq) => q.inOff && q.chan == c
  ((bank s (c / 4)).queue.filter mine).foldl (fun t q => pulseDue q t)
    (modBank (c / 4) (fun b => { b with queue := b.queue.filter (fun q => !mine q) }) s)

/-- PULSE_PHASE_END: the running phase of a pulse ends, `us` after the pulse start, at current `ua` (R364, R365). -/
def pulsePhaseEndFx (c : Nat) (ua : Int) (us : Nat) (s : State) : State :=
  let ch := chn s c
  let now := some s.sys.devTime
  let lengthOver := us * 1000 ≥ ch.pulseEnd - ch.pulseStart
  if !chanIsInj s c then s
  else match ch.phase with
    | 1 =>
      let slow := ua < iPeak s c
      let s1 := if slow then modCoil c (fun k => { k with peakSlow := k.peakSlow + 1 }) s else s
      let s2 := if slow && ua * 10 < iPeak s c && !lengthOver then
          note 0x0915 [(chanStn s c).getD 0, 2] (modChan c (fun k => { k with openLoad := true }) s1) else s1
      if lengthOver then toOff c ua (freePeak c us s)
      else modChan c (fun k => { k with phase := 2, phaseAt := now, st := 2, current := ua }) s2
    | 2 =>
      if lengthOver then toOff c ua (freePeak c us s)
      else modChan c (fun k =>
          { k with phase := 3, phaseAt := now, st := 4, current := ua, charged := decaysFast s c (g1 (vpart s c) 52 == 1) false })
        (freePeak c us (decayTo c (g1 (vpart s c) 52 == 1) false ua (iHold s c) s))
    | 3 => if lengthOver then toOff c ua s
      else modChan c (fun k => { k with phase := 4, phaseAt := now, st := 3, current := iHold s c, charged := false }) (touchChan c s)
    | 4 => toOff c ua s
    | 5 => afterOff c (modChan c (fun k =>
        { k with phase := 0, phaseAt := now, st := 0, current := 0, charged := false, offUs := us - (ch.pulseEnd - ch.pulseStart) / 1000 }) s)
    | _ => s

/-- PEAK_START: the head of the bank queue starts once its conditions hold (R376); a pulse that waits for its channel holds no
other. -/
def peakStartFx (b : Nat) (s : State) : State :=
  match readyQueue s b with
  | [] => s
  | q :: _ => if (peakCauses s q.chan).isEmpty then startPulse q (dropPulse q s) else s

/-- PULSE_DEFER_LIMIT: the pulse of the bank that has waited to its defer limit is refused, with the lowest cause that holds;
behind another pulse that is overlap (R376). The head with no cause against it starts. -/
def pulseDeferLimitFx (b : Nat) (s : State) : State :=
  let qs := readyQueue s b
  match qs.find? (fun q => decide (q.since + deferUs s q.chan * 1000 ≤ s.sys.devTime)) with
  | none => s
  | some q =>
    match (peakCauses s q.chan).head? with
    | some k => refusePulse q k (dropPulse q s)
    | none => if qs.head? = some q then startPulse q (dropPulse q s) else refusePulse q 1 (dropPulse q s)

/-- Times of trips within the last 10 s, newest first, this one included. -/
def tripsNow (now : Nat) (l : List Nat) : List Nat := now :: l.filter (fun t => now < t + 10000000000)

/-- A channel that trips falls from the current that tripped it to 0 by FAST decay (R368, R379). -/
def tripChan (c : Nat) (ua : Int) (s0 : State) : State :=
  let s := touchChan c s0
  let s1 := pulseOver c (decayTo c true true ua 0 s)
  modChan c (fun k =>
    { k with
      st := 0, phase := 0, current := 0, duty := 0, charged := false,
      phaseAt := if k.phase = 0 then k.phaseAt else some s.sys.devTime }) s1

/-- VALVE_OVERCURRENT (R379). -/
def valveOvercurrentFx (c : Nat) (ua : Int) (s : State) : State :=
  match chanStn s c with
  | none => s
  | some n =>
    if ua ≤ (if isProp s n then 3500000 else 10000000) then s
    else
      let ts := tripsNow s.sys.devTime (chn s c).trips
      let s1 := note 0x0913 [n, ua] (modChan c (fun k =>
        { k with overcurrent := true, trips := ts, retrying := isProp s n }) (tripChan c ua s))
      if ts.length ≥ 3 then
        noteFault 0x0914 [n, 1] (modChan c (fun k => { k with latched := true, st := 6, retrying := false }) s1)
      else s1

/-- BANK_OVERCURRENT (R379). -/
def bankOvercurrentFx (b : Nat) (ua : Int) (s : State) : State :=
  if b > 2 || ua ≤ 18000000 then s
  else
    let ts := tripsNow s.sys.devTime (bank s b).trips
    let s1 := note 0x0913 [256 + b, ua] (refreshBanks (modBank b (fun k => { k with tripped := true, trips := ts }) s))
    if ts.length ≥ 3 then noteFault 0x0914 [256 + b, 1] (modBank b (fun k => { k with latched := true }) s1) else s1

/-- VALVE_RETRY: 100 ms after a trip the channel, or its tripped bank, is tried again (R379). -/
def valveRetryFx (c : Nat) (s : State) : State :=
  let s1 := if (bank s (c / 4)).tripped && !(bank s (c / 4)).latched then
    refreshBanks (modBank (c / 4) (fun k => { k with tripped := false }) s) else s
  if (chn s1 c).retrying && !(chn s1 c).latched then
    retake c (modChan c (fun k => { k with retrying := false, st := 0 }) s1)
  else s1

/-- A stuck-on channel opens its bank and latches it open (R380). -/
def openBank (c : Nat) (ua : Int) (s : State) : State :=
  noteFault 0x0919 [c / 4, c, ua] (refreshBanks (modBank (c / 4) (fun k => { k with latched := true }) s))

/-- Expected current of a channel, µA (R380). -/
def expectedUa (s : State) (c : Nat) : Int :=
  roundRat (ratDiv (s.power.vfieldVd : Rat) (windingR s c))

/-- LS_LAND_LOW (R380): the first row of the table that applies. -/
def lsLandLowFx (c : Nat) (ua : Int) (s : State) : State :=
  let ex := expectedUa s c
  if !(bank s (c / 4)).closed || !chanOff s c then s
  else if ua ≥ 200000 || (ex > 0 && 2 * ua ≥ ex) then openBank c ua s
  else match chanStn s c with
    | none => s
    | some n =>
      if ua < 50000 then
        if (chn s c).openLoad then s else note 0x0915 [n, 0] (modChan c (fun k => { k with openLoad := true }) s)
      else if (chn s c).leak then s
      else note 0x091C [n, 1, ua, ex] (modChan c (fun k => { k with leak := true }) s)

/-- LEAK_ESCALATION: the condition lasted a further 1 s (R380). -/
def leakEscalationFx (c : Nat) (ua : Int) (s : State) : State := if (chn s c).leak then openBank c ua s else s

/-- LEAK_CLEARED: the land has been above 2.0 V for 100 ms (R380). -/
def leakClearedFx (c : Nat) (ua : Int) (s : State) : State :=
  if !(chn s c).leak then s
  else note 0x091C [(chanStn s c).getD 0, 2, ua, expectedUa s c] (modChan c (fun k => { k with leak := false }) s)

/-- VALVE_HEADROOM: the duty sat at its limit; HEADROOM, or OPEN_LOAD in its place (R363). -/
def valveHeadroomFx (c : Nat) (ua : Int) (duty : Nat) (s0 : State) : State :=
  let s := touchChan c s0
  let ch := chn s c
  let n := (chanStn s c).getD 0
  let t := if chanIsInj s c then iHold s c else slewed s c s.sys.devTime
  let s1 := modChan c (fun k => { k with current := ua, duty := duty }) s
  if (chanStn s c).isNone || duty < 9500 || (ch.st != 1 && ch.phase != 4) then s0
  else if t ≥ 100000 && ua * 10 < t then
    if ch.openLoad then s1 else note 0x0915 [n, 1] (modChan c (fun k => { k with openLoad := true }) s1)
  else if ua * 100 < t * 98 then
    if ch.headroom then s1
    else note 0x0912 [n, t, ua, s.power.vfieldVd / 1000] (modChan c (fun k => { k with headroom := true }) s1)
  else s1

/-- HEADROOM_CLEARED: HEADROOM, or OPEN_LOAD, ends after its 100 ms (R363). -/
def headroomClearedFx (c : Nat) (openLoad : Bool) (s : State) : State :=
  modChan c (fun k => if openLoad then { k with openLoad := false } else { k with headroom := false }) (touchChan c s)

/-- Ambient temperature of a coil, °C: the latest valid value of `ambient`, or ambient_fixed (R355, R370). -/
def coilAmbient (s : State) (c : Nat) : Rat :=
  let a := g2 (vpart s c) 32
  let fixed := i4 (vpart s c) 36
  let v := if a < 128 then (tget s.stn.vals a).good.getD fixed else fixed
  (v : Rat) / 1000

/-- Both nodes of every coil start at T_a (R370). -/
def coilsStart (s : State) : State :=
  (List.range 12).foldl (fun t c => if (chanStn t c).isSome then
    modCoil c (fun k => { k with tw := coilAmbient t c, tb := coilAmbient t c }) t else t) s

/-- Thresholds of the winding estimate (R372). -/
def coilLevels (c : Nat) (s : State) : State :=
  match chanStn s c with
  | none => s
  | some n =>
    let t := (coil s c).tw * 1000
    let warn := (i4 (vpart s c) 24 : Rat)
    let lim := (i4 (vpart s c) 28 : Rat)
    let mdeg := roundRat t
    let s1 := if t ≥ warn && !(coil s c).warn then note 0x0916 [n, 1, mdeg] (modCoil c (fun k => { k with warn := true }) s)
      else if t < warn - 5000 then modCoil c (fun k => { k with warn := false }) s else s
    let s2 := if t ≥ lim && !(coil s1 c).limit then note 0x0916 [n, 2, mdeg] (modCoil c (fun k => { k with limit := true }) s1)
      else if t < lim - 5000 && (coil s1 c).limit then note 0x0916 [n, 3, mdeg] (modCoil c (fun k => { k with limit := false }) s1)
      else s1
    if !isProp s n then s2
    else if !coilLimits s c then modChan c (fun k => { k with cap := none }) s2
    else
      let step := max 1 (iMax s c / 500)
      let cap := (chn s2 c).cap
      let cap' : Option Int :=
        if t ≥ lim then some (max 0 (cap.getD (iMax s c) - step))
        else if t < lim - 5000 then (match cap with | some k => if k + step ≥ iMax s c then none else some (k + step) | none => none)
        else cap
      if cap' = cap then s2
      else
        let now := s.sys.devTime
        let s3 := touchChan c s2
        let s4 := modChan c (fun k => { k with cap := cap' }) s3
        let s5 := if slewed s3 c now = slewed s4 c now then s4 else modChan c (fun k => { k with capAt := now }) s4
        stepDecay c (slewed s3 c now) (slewed s4 c now) s5

/-- A resistance measurement counts: a Proportional target of at least 100 mA, unchanged for 1 s below 95 % duty, or an
Injector HOLD of at least 5 ms (R371). -/
def measures (s : State) (c : Nat) : Bool :=
  let now := s.sys.devTime
  let k := chn s c
  if chanIsProp s c then
    let v := slewed s c now
    100000 ≤ v && k.slewAt + 1000000000 ≤ now && k.capAt + 1000000000 ≤ now && slewed s c (now - 1000000000) == v && dutyFor s c v < 9500 &&
      !k.headroom && !k.openLoad
  else k.heldLong || k.phase == 4 && (match k.phaseAt with | some t => decide (t + 5000000 ≤ now) | none => false)

/-- Mean i² of a step, A²: a regulated Proportional channel's from setpoint and dither (R361), another's as the drive
integrated it. -/
def meanSquare (s : State) (c : Nat) (told : Rat) : Rat :=
  let v := slewed s c s.sys.devTime
  let a := ditherAmp s c v
  if chanIsProp s c && (chn s c).st = 1 && !(chn s c).headroom && !(chn s c).openLoad then
    ((v : Rat) * (v : Rat) + a * a / 3) / 1000000000000
  else told

/-- COIL_MODEL_STEP: one 100 ms step of the two-node model, with a measurement where one was made (R370–R372). -/
def coilModelStepFx (c : Nat) (meanSq : Rat) (meas : Option CoilMeas) (s0 : State) : State :=
  let s := touchChan c s0
  match chanStn s c with
  | none => s
  | some n =>
    let p := vpart s c
    let k := coil s c
    let pw := windingR s c * meanSquare s c meanSq
    let flow := (k.tw - k.tb) / rf32 p 8
    let tw1 := k.tw + (1 : Rat) / 10 / rf32 p 16 * (pw - flow)
    let tb1 := k.tb + (1 : Rat) / 10 / rf32 p 20 * ((tw1 - k.tb) / rf32 p 8 - (k.tb - coilAmbient s c) / rf32 p 12)
    let s1 := modCoil c (fun k => { k with tw := tw1, tb := tb1 }) s
    let s2 := match meas with
      | none => s1
      | some m =>
        if m.i ≤ 0 || !measures s c then s1
        else
          let r := (m.duty * ((s.power.vfieldVd : Rat) / 1000000 - m.bank * m.rHs) - m.i * m.rLs) / m.i
          let rref := (g4 p 0 : Rat) / 1000
          let tm := 20 + (r / rref - 1) / ((393 : Rat) / 100000)
          let diff := absRat (tm - tw1)
          let since := if diff > 15 then some (k.mismatchSince.getD s.sys.devTime) else none
          let say := !k.mismatchSaid && (match since with | some t => s.sys.devTime ≥ t + 10000000000 | none => false)
          let s2 := modCoil c (fun k =>
            { k with
              tw := tw1 + (tm - tw1) / 5, rMeas := uField 4 (roundRat (r * 1000)), mismatchSince := since,
              mismatchSaid := if diff < 10 then false else k.mismatchSaid || say }) s1
          if say then note 0x091B [n, roundRat (tm * 1000), roundRat (tw1 * 1000)] s2 else s2
    coilLevels c (modChan c (fun k => { k with heldLong := false }) s2)

/-- The first slot of the window whose second difference is negative by at least the threshold (R373). -/
def kinkSlot (vs : List Int) (lo hi thresh : Nat) : Option Nat :=
  firstNat (vs.length) (fun k => k ≥ 2 && k * 10 ≥ lo && k * 10 ≤ hi &&
    (vs.getD k 0 - vs.getD (k - 1) 0) - (vs.getD (k - 1) 0 - vs.getD (k - 2) 0) ≤ -(thresh : Int))

/-- A pulse is evaluated: not cut, its OFF not made SLOW, its current zero by kink_lo, and no other pulse begun before kink_hi,
after which alone the latest pulse is evaluated (R373). -/
def kinkUsable (s : State) (c : Nat) : Bool :=
  let k := chn s c
  k.phase == 0 && decide (k.pulseEnd + g2 (vpart s c) 58 * 1000 ≤ s.sys.devTime) && !k.pulseCut && !k.offSlow && decide (k.offUs ≤ g2 (vpart s c) 56)

/-- KINK_EVALUATION: the LS land samples after a pulse, averaged in 10 µs slots from the pulse end, mV (R373, R374). -/
def kinkEvaluationFx (c : Nat) (slots : List Int) (s : State) : State :=
  match chanStn s c with
  | none => s
  | some n =>
    let p := vpart s c
    let ch := chn s c
    if !isInj s n || g2 p 58 = 0 || !kinkUsable s c then s
    else match kinkSlot slots (g2 p 56) (g2 p 58) (g2 p 60) with
      | none =>
        let m := ch.misses + 1
        let s1 := modChan c (fun k => { k with misses := m, stuck := k.stuck || m ≥ g1 p 62 }) s
        if m ≥ g1 p 62 && !ch.stuck then note 0x0918 [n, 1, kinkMean ch, ch.kinkRef.getD (Config.freeNat s.fresh)] (drawn 1 s1) else s1
      | some k =>
        let d := k * 10
        let ks := (d :: ch.kinks).take 64
        let cnt := if ch.kinkCount < 64 then ch.kinkCount + 1 else 64
        let sum := if ch.kinkCount < 64 then ch.kinkSum + d else ch.kinkSum
        let ref := if cnt = 64 then some (meanInt sum 64).toNat else none
        let mean := meanInt ks.sum ks.length
        let drift := ref.isSome && ks.length = 64 && 4 * ((ks.sum : Int) - sum).natAbs > sum
        let s1 := modChan c (fun x =>
          { x with
            misses := 0, stuck := false, kinks := ks, kinkCount := cnt, kinkSum := sum, kinkRef := ref, kinkLast := d,
            driftSaid := x.driftSaid || drift }) s
        if drift && !ch.driftSaid then note 0x0918 [n, 2, mean, ref.getD 0] s1 else s1

/-- BOOST_READY_CHANGE: VBST crosses 44.0 V (R354). -/
def boostReadyChangeFx (uv : Int) (s : State) : State :=
  let s1 := onValves (fun v => { v with vbst := uv }) s
  if s.valves.boost = 0 then s1
  else if uv ≥ 44000000 then
    let s2 := onValves (fun v => { v with boost := 2 }) s1
    if s.valves.boost = 3 then note 0x0911 [2, uv / 1000] s2 else s2
  else onValves (fun v => { v with boost := if v.boost = 3 then 3 else 1 }) s1

/-- Every pulse that waits for a peak is refused (R354). -/
def refuseWaiting (s : State) : State :=
  [0, 1, 2].foldl (fun t b => (readyQueue t b).foldl (fun u q => refusePulse q 2 (dropPulse q u)) t) s

/-- BOOST_FAULT: not ready 200 ms after being enabled, or 50 ms after a peak; every peak is refused (R354). -/
def boostFaultFx (uv : Int) (s : State) : State :=
  if s.valves.boost != 1 || uv ≥ 44000000 then s
  else refuseWaiting (noteFault 0x0911 [1, uv / 1000] (onValves (fun v => { v with vbst := uv, boost := 3 }) s))

/-- CLAMP_HOT_CLEAR: 10 s since it was set, and below 0.20 W (R369). -/
def clampHotClearFx (b : Nat) (s : State) : State :=
  if !(bank s b).clampHot || clampPower s b ≥ (1 : Rat) / 5 || s.sys.devTime < (bank s b).clampHotAt + 10000000000 then s
  else note 0x0917 [b, 2, roundRat (clampPower s b * 1000)] (modBank b (fun k => { k with clampHot := false }) s)

/-- PEAKS_BLOCKED_LOW_SUPPLY: VFIELD_VD falls below 15.0 V; no peak starts (R378). -/
def peaksBlockedLowSupplyFx (uv : Int) (s : State) : State := if uv ≥ 15000000 then s else setVfieldVd uv s

end Sys2Proof.Machine
end

