-- ==== Sys2Proof/Machine/StartOps.lean ====
section
/-! DEFINITION. Resets and what a start keeps (spec/01_one_view.md R33, R49; spec/02_sluices.md R92; spec/14_freshet.md
R485–R489; spec/15_ream.md R503; spec/18_power_reservoir_thermal.md R562–R571; spec/19_electrical.md R595). -/

namespace Sys2Proof.Machine

/-- SPR_LASTMODE: how the mode ended, and which it was (R570). -/
def lastMode (exit : Nat) (s : State) : State :=
  onPower (fun p => { p with lastMode := BitVec.ofNat 32 (exit * 16 + modeCode s.sys.mode) }) s

/-- A passage into BOOT is recorded, at once where Evver runs (R49, R519). -/
def noteBoot (cause : Nat) (s : State) : State :=
  match s.sys.mode with
  | .boot => s
  | .recovery => noteLater 0x0010 [2, 1, 0x18, 0] s
  | m => noteRom 0x0010 [modeCode m, 1, cause, 0] s

/-- Sequence number that follows the latest record of the memories that keep them (spec/15_ream.md R500, R503). -/
def seqAfter (m : Ream) : Nat :=
  match m.fallback ++ m.ring with
  | [] => 1
  | r :: rs => w32 (rs.foldl (fun a x => if seqLe a x.seq then x.seq else a) r.seq + 1)

/-- Ream at a BOOT: what stood in the queue is lost (R503). -/
def reamBoot (m : Ream) : Ream :=
  { ring := m.ring, fallback := m.fallback, fbState := if m.fallback.isEmpty && m.fbState < 3 then 0 else m.fbState,
    fbOverwritten := m.fbOverwritten, merged := m.merged, retired := m.retired, nextSeq := seqAfter m, floor := m.floor,
    epoch := m.epoch, boot := (m.boot + 1) % 65536, lostReset := m.lostReset, lostGasp := m.lostGasp,
    timeUnsure := m.timeUnsure, failOffset := m.failOffset }

/-- What a transaction leaves at a start (spec/03_configuration.md R112). -/
def cfgBoot (c : Cfg) : Cfg :=
  { c with
    txn := none, lostTxn := match c.txn with | some t => if t.written then c.lostTxn else some t.owner | none => c.lostTxn, salvage := none }

/-- Freshet at a start: the slot, its floors, the journal and the images stay; an activation whose journal does not
say so has not begun (spec/14_freshet.md R477, R483, R494). -/
def fshBoot (cal : Int) (f : Freshet) : Freshet :=
  { f with
    state := if f.state = 4 && f.journal != 4 then 3 else if f.state = 7 && f.journal = 5 then 5 else f.state,
    bankReady := false, trialBoots := f.journalBoots, trialLeft := f.journalLeft, restartDue := false, grantUsed := false,
    lock := none, partials := [], grantHeld := false, grantKinds := 0, notBefore := 0, notAfter := 0,
    blockTries := 0, shakes := [],
    loaderRecs := match f.lock with | some x => f.loaderRecs ++ [(0x0D11, [(sourceCode x : Int), 4], cal)] | none => f.loaderRecs }

/-- Fault absorption at a start: what the MRAM and the NAND keep (spec/16_fault_absorption.md R527–R532). -/
def absorbBoot (a : Absorb) : Absorb :=
  { a with
    mismatchTimes := [], junctionAt := 0, checkA := 0, checkB := 0, latch := false, latchSince := 0, latchExpired := false,
    reexecuting := false, late := [], daily := [], eccDram := 0, eccSram := 0, eccNor := 0, eccMram := 0, uncorrAbsorbed := 0,
    uncorrUnabsorbed := 0, storeRetries := 0, lastFault := 0, faultActive := false, shadowNext := [], cellFailed := a.mapFailed,
    spareServes := a.mapServes }

/-- Coils at a start: their wear stays (R533). -/
def coilBoot (c : Coil) : Coil := { worn := c.worn + c.pulses, clampTotal := c.clampTotal, clampWorn := c.clampWorn }

/-- Commands of every side end without a final answer (02_sluices.md R92). -/
def forgetJobs (p : Job → Bool) (s : State) : State := onMail (fun m => { m with jobs := m.jobs.filter (fun j => !p j) }) s

/-- Sessions that a start ends, and a lock of the ordinary clock that it ends, where Evver could not record them before: Evver
does at its next start (13_line_uplink.md R460, R463; 01_one_view.md R49). -/
def netLost (s : State) : State :=
  let s1 := s.net.sessions.foldl (fun t e =>
    let lost := lostNotices s (.udp e.1)
    noteLater 0x0C11 [e.2.id, e.2.addr, 5] (if lost = 0 then t else noteLater 0x0026 [e.2.id, lost] t)) s
  if s.net.ptpState = 3 then noteLater 0x0C14 [0, s.net.ptpOffset, s.net.ptpMaster % 4294967296] s1 else s1

/-- The device is in BOOT: all that SRAM and DRAM held is gone. -/
def bootReset (s2 : State) : State :=
  let s1 := netLost s2
  let s0 := forgetJobs (fun _ => true) (if s1.field.mask = 0 then s1 else noteLater 0x0A12 [0, 0] s1)
  let s := cyclesCross (islandSramLost (if s0.sys.mode = .commission then leaveCommission s0 else s0))
  { s with
    sys :=
      { s.sys with
        mode := .boot, target := none, targetCause := if s.power.tripHold then 0x15 else 0, targetWake := 0, autoDue := true, holdCauses := 0, ready := false, bootLite := false,
        supervisor := false, devTime := 0, norChecked := false, norFound := none, norStay := false, resMeasured := false, resetDue := none,
        resetting := false, appRunning := false, appStopped := false, busError := false, appData := [], miso := [] }
    hifSpi := { notReady := s.hifSpi.notReady }
    hifApp := {}
    mail := { udpOut := s.mail.udpOut }
    hb := {}
    cfg := cfgBoot s.cfg
    stn := {}
    felt := { seqNext := s.felt.seqEnd, seqEnd := s.felt.seqEnd, history := s.felt.history }
    weir := { substitutedAt := s.weir.substitutedAt }
    island := { s.island with running := false, linkUp := true, openedDev := 0, closedAt := 0, hotAt := 0, hotEnd := 0, faultFrom := 0, faultEnd := 0, committedAt := 0, oldParams := [],
                              lastSeq := none, sigFailures := 0, lost := 0, latest := [], stale := [], sigBad := [], awaiting := [],
                              grades := [], processFallback := false }
    zones := []
    valves :=
      { coils := s.valves.coils.map (fun e => (e.1, coilBoot e.2)), vbst := s.valves.vbst, peaksBlocked := s.valves.peaksBlocked,
        banks := [0, 1, 2].map (fun b => (b, { lowCut := (bank s b).lowCut })) }
    field := { lowIo := s.field.lowIo, lowVd := s.field.lowVd, noSupply := s.field.noSupply,
               sagIo := s.field.sagIo.map (· - s.sys.devTime), sagVd := s.field.sagVd.map (· - s.sys.devTime),
               lowIoAt := s.field.lowIoAt - s.sys.devTime, lowVdAt := s.field.lowVdAt - s.sys.devTime }
    bus := {}
    net := { key := s.net.key, mac := s.net.mac, sent := s.net.sent, sessionNext := s.net.sessionNext,
             ports := s.net.ports.map (fun e => (e.1, { link := e.2.link, wrongSpeed := e.2.wrongSpeed })) }
    fsh := fshBoot (romTime s1) s.fsh
    ream := reamBoot s.ream
    absorb := absorbBoot s.absorb
    clk := { rtcFailed := s.clk.rtcFailed, coastPlls := s.clk.coastPlls, coastSince := s.clk.coastSince.map (fun _ => 0),
             coastNote := s.clk.coastNote }
    power :=
      { s.power with
        stores := [], charging := s.power.vhold < 33660000,
        measuring := if s.power.vhold < 10000000 then 1 else 2, dip := false, lastGasp := false, sensors := [],
        thermalWarn := false, noAutostart := [] } }

/-- The line ports lose their links: the PHYs are reset (spec/13_line_uplink.md R455). -/
def linksReset (s : State) : State :=
  onNet (fun n => { n with ports := n.ports.map (fun e => (e.1, { e.2 with link := false, queues := [] })) }) s

/-- The process outputs go off at a reset: a pulse that waits is withdrawn, and its VLV_PULSE gets no answer
(02_sluices.md R92). -/
def resetOff (s : State) : State := outputsOff (forgetJobs (fun j => j.org.code == 0x0902 && j.answer.isNone) s)

/-- The records still in the queue are lost, and their number is kept (R503). -/
def queueLost (s : State) : State := onReam (fun m => { m with lostReset := m.lostReset + m.queue.length, queue := [] }) s

/-- The queue is written where a record is admitted; what is not is lost, and its number kept (R503). -/
def writeQueue (s : State) : State := queueLost (if canStore .reamRecord s then flushQueue 1100 0 s else s)

/-- Admitted stores complete, sessions end, the queue is written, and the internal reset takes place (R595). A parameter session
that ends as an XSR7-BP1 so leaves COMMISSION is recorded before (06_watermark.md R234). -/
def resetNow (s : State) : State :=
  let s1 := finishStores 400 s
  let s2 := if s.sys.mode = .commission then leaveCommission s1 else s1
  bootReset (if s.sys.ready then writeQueue (ptpStops (closeSessions 5 s2)) else queueLost s2)

/-- The device leaves RECOVERY, or starts again from BOOT. -/
def romBoot (s : State) : State := bootReset (finishStores 400 (noteBoot 0x18 s))

/-- A reset that the device begins itself: the outputs are off first (R485, R575). -/
def restartFor (cause exit : Nat) (s : State) : State := resetNow (resetOff (lastMode exit (noteBoot cause s)))

/-- The BOOT that a journal asks for: with cause activation where Evver runs, from RECOVERY as recovery (R485, R491). -/
def restartWanted (s : State) : State :=
  if !s.fsh.restartDue then s
  else
    let s1 := onFsh (fun f => { f with restartDue := false }) s
    if s.sys.ready then restartFor 0x12 4 s1 else romBoot s1

end Sys2Proof.Machine
end

