-- ==== Sys2Proof/Machine/FreshetFx.lean ====
section
/-! DEFINITION. Freshet commands, the handshake, activation, trials and fallback, and the resident loader
(spec/14_freshet.md R476–R495). The ROM's choice at BOOT stands in StartFx. -/

namespace Sys2Proof.Machine

/-! The resident loader (R485, R488, R489; spec/16_fault_absorption.md R529). -/

/-- RECOVERY is entered, with its cause (R33, R494). -/
def enterRecovery (cause : Nat) (s : State) : State :=
  let s1 := noteLater 0x0D33 [cause] (noteLater 0x0010 [1, 2, 0x18, 0] s)
  onSys (fun y => { y with mode := .recovery, norChecked := true, norStay := false })
    (openS0 .spi (onFsh (fun f => { f with recoveryCause := cause }) s1))

/-- The blocks of a fallback are restored: the old image, which needs no confirmation, is started (R488). -/
def fallbackDone (s : State) : State :=
  let old := tget s.fsh.backup 1
  romBoot (noteLater 0x0D25 [1, old.arb] (onFsh (fun f =>
    { f with
      state := 7, journal := 0, recoveryCause := 0, installed := tset f.installed 1 old,
      doneBlocks := [] }) s))

/-- The last block of an activation is written: TRIAL, and a BOOT (R485). -/
def activationDone (s : State) : State :=
  romBoot (onFsh (fun f =>
    { f with
      state := 5, journal := 5, trialBoots := 0, trialLeft := trialSeconds s, journalBoots := 0, journalLeft := trialSeconds s,
      recoveryCause := 0,
      installed := tset f.installed 1 f.img }) s)

/-- After a block: the next, or the end of the run; in last gasp neither (R489). A backup that could not be read leads to
RECOVERY (R488). -/
def loaderNext (s : State) : State :=
  if s.power.lastGasp then s
  else match loaderBlock s with
  | some _ => askBlock s
  | none => match s.fsh.journal with
    | 4 => activationDone s
    | 8 => fallbackDone s
    | _ =>
      if s.fsh.recoveryCause = 5 then (if s.sys.mode = .boot then enterRecovery 5 s else s)
      else onSys (fun y => { y with norStay := false }) s

/-- The admitted store of a block that the loader works on: its place in the queue, and the block. -/
def loaderStore (s : State) : Option (Nat × Nat) :=
  let i := firstNat s.power.stores.length (fun i => match s.power.stores[i]? with
    | some x => x.admitted && (match x.act with | .freshetBlock _ => true | _ => false) | none => false)
  match (i.bind (fun i => s.power.stores[i]?.map (fun x => (i, x.act))) : Option (Nat × StoreAct)) with
  | some (i, .freshetBlock b) => some (i, b)
  | _ => none

/-- NOR_BLOCK_DONE: the loader finishes the admitted block in progress; `ok` tells whether the staging block passed its
digest, `readable` whether a backup block could be read. -/
def norBlockDoneFx (ok readable : Bool) (s : State) : State :=
  if s.sys.mode != .boot && s.sys.mode != .recovery then s
  else match loaderStore s with
    | none => s
    | some (i, b) => loaderNext (norBlockWritten ok readable b
        (onAbsorb (fun a => { a with norErases := tmod a.norErases b (· + 1) }) (dropStore i s)))

/-! Trials (R487, R488). -/

/-- The previous application image is restarted. -/
def appFallback (s : State) : State :=
  let old := tfind s.fsh.backup 4
  let s1 := onFsh (fun f =>
    { f with installed := match old with | some o => tset f.installed 4 o | none => tdel f.installed 4 }) s
  noteRom 0x0D25 [4, (old.getD {}).arb] (onSys (fun y => { y with appStopped := false }) s1)

/-- The fail policy of the image whose trial failed; an EVVER image is dealt with by the loader or in RECOVERY. -/
def failPolicy (s : State) : State := if s.fsh.img.kind = 4 then appFallback s else journalFailure s

/-- The change to BOOT of an activation, or of a trial that failed, is in progress from its cause (01_one_view.md R34). -/
def bootWanted (s : State) : State := onSys (fun y => { y with target := some .boot, targetCause := 0x12, targetWake := 0 }) s

/-- A trial fails while Evver runs: for an EVVER image through BOOT, once the journal is stored (R31, R488). -/
def failTrial (cause : Nat) (s : State) : State :=
  let s1 := trialFails cause s
  if s.fsh.img.kind = 1 then requestStore (.journal 8) (bootWanted s1) else failPolicy s1

def onTrial (s : State) (kind : Nat) : Bool := s.fsh.state == 5 && s.fsh.img.kind == kind

/-- TRIAL_TIME_JOURNAL: 60 s of operating time more. -/
def trialTimeJournalFx (s : State) : State :=
  if s.fsh.state != 5 || !s.sys.ready then s
  else if s.fsh.trialLeft ≤ 60 then failTrial 2 (onFsh (fun f => { f with trialLeft := 0 }) s)
  else requestStore (.journal 5) (onFsh (fun f => { f with trialLeft := f.trialLeft - 60 }) s)

/-- TRIAL_BOOTS_CLEAR. -/
def trialBootsClearFx (s : State) : State :=
  if s.fsh.state != 5 || !s.sys.ready then s else requestStore (.journal 5) (onFsh (fun f => { f with trialBoots := 0 }) s)

/-- A failed boot is counted in the journal; one that finds the limit reached fails the trial. -/
def countBoot (s : State) : Option State :=
  if s.fsh.trialBoots ≥ maxTrialBoots s then none
  else some (requestStore (.journal 5) (onFsh (fun f => { f with trialBoots := f.trialBoots + 1 }) s))

/-- APPLICATION_FAULT_STOP: the cores halt. -/
def applicationFaultStopFx (s : State) : State :=
  if !s.sys.appRunning then s
  else
    let s1 := onSys (fun y => { y with appStopped := true }) s
    if onTrial s 4 then match countBoot s1 with | some t => t | none => failTrial 1 s1 else s1

/-- WATERMARK_TRIAL_TIMEOUT: the island is restarted from its old bank (R486). -/
def watermarkTrialTimeoutFx (s : State) : State :=
  if s.fsh.state = 4 && s.fsh.img.kind = 3 && s.fsh.bankReady then
    trialFails 3 (allStale (onIsland (fun i => { i with running := false, failed := false }) (islandSramLost s)))
  else s

/-- ISLAND_START. From new firmware that fails its digest the island goes back to its old bank (R486). -/
def islandStartFx (digestOk shieldOpen : Bool) (chainBad : Option Nat) (paramBad : List (Nat × Nat)) (torn : Bool)
    (s : State) : State :=
  if s.fsh.state = 4 && s.fsh.img.kind = 3 && s.fsh.bankReady then
    if !digestOk then watermarkTrialTimeoutFx s
    else watermarkServes (wmVersion s) (islandStarts digestOk shieldOpen chainBad paramBad torn s)
  else islandStarts digestOk shieldOpen chainBad paramBad torn s

/-- SEAL# negated before the commit point of a WATERMARK activation ends it with SEALED: the island keeps, or goes back to, its
old bank, and the image is STAGED (R486). -/
def sealEnds (s : State) : State :=
  if s.fsh.state != 4 || s.fsh.img.kind != 3 || !s.sys.legal || s.island.sealPin then s
  else
    let s1 := cancelStore .islandBank (onFsh (fun f =>
      { f with state := 3, outcome := sSEALED, grantUsed := false, bankReady := false }) s)
    if s.fsh.bankReady then allStale (onIsland (fun i => { i with running := false }) (islandSramLost s1)) else s1

/-- SEAL_CHANGE. -/
def sealChangeFx (opened : Bool) (s : State) : State := sealEnds (sealMoved opened s)

/-- ISLAND_LINK_RESTORED. -/
def islandLinkRestoredFx (s : State) : State := watermarkServes (wmVersion s) (islandLinkBack s)

/-! Activation (R484–R486). -/

def grantOpen (s : State) : Bool :=
  s.fsh.grantHeld && (s.fsh.notBefore = 0 || s.fsh.notBefore ≤ s.sys.calTime) &&
    (s.fsh.notAfter = 0 || s.sys.calTime < s.fsh.notAfter)

/-- An activation window for a kind. -/
def windowOpen (s : State) (kind : Nat) : Bool :=
  bitOf (g1 (fshBodyOf s) 7) (kind - 1) || (grantOpen s && bitOf s.fsh.grantKinds (kind - 1))

def zonesIdle (s : State) : Bool := (zonesOn s).all (fun z => !zoneRunning s z)
/-- Zones with programme 1, which the application runs, are IDLE. -/
def appZonesIdle (s : State) : Bool := (zonesOn s).all (fun z => zoneProg s z != 1 || !zoneRunning s z)

/-- A transfer to the neighbour on a port is in progress: its session is open, and it has asked within 60 s
(R477, R482; notes/assumptions/155.md). -/
def serving (s : State) (p : Nat) : Bool :=
  (shake s p).holder == 2 && decide (s.sys.devTime < (shake s p).hGetAt + 60000000000)

/-- A window is open and no transfer to a neighbour is in progress (R482, R484). -/
def windowClear (s : State) : Bool := !serving s 0 && !serving s 1 && windowOpen s s.fsh.img.kind

/-- The conditions of a kind but for the seal (R484). -/
def kindReady (s : State) : Bool :=
  let m := s.sys.mode
  match s.fsh.img.kind with
  | 1 => (m == .commission || m == .run) && zonesIdle s && s.cfg.txn.isNone && s.island.session.isNone
  | 2 => m == .commission || m == .run || m == .hold
  | 3 => m == .commission || m == .run || m == .hold
  | _ => (m == .commission || m == .run) && appZonesIdle s

/-- A WATERMARK image of a legal device waits for SEAL# (R237). -/
def sealWaits (s : State) : Bool := s.fsh.img.kind == 3 && s.sys.legal && !s.island.sealPin

/-- ACTIVATION_START. What an activation writes waits for its admission: the journal of an EVVER or APPLICATION image, the copy
of a LOADER image, the bank of a WATERMARK image (R31, R485, R486); a WATERMARK image that SEAL# keeps back answers SEALED
(R237; notes/assumptions/155.md). -/
def activationStartFx (s : State) : State :=
  if s.fsh.state != 3 || !s.sys.ready || !windowClear s || !kindReady s then s
  else if sealWaits s then onFsh (fun f => { f with outcome := sSEALED }) s
  else
    let im := s.fsh.img
    let s1 := note 0x0D20 [im.kind, im.arb, im.blocks]
      (onFsh (fun f => { f with state := 4, outcome := sOK, grantUsed := grantOpen s, doneBlocks := [], bankReady := false }) s)
    match im.kind with
    | 1 => requestStore (.journal 1) (bootWanted s1)
    | 2 => requestStore (.loaderCopy 0) s1
    | 3 => requestStore .islandBank s1
    | k => requestStore (.journal k) s1

/-- What kept the staged image waiting: 1 zones, 2 a transaction, 3 the seal; where nothing of these did, the field is a free
value (notes/assumptions/14.md). -/
def windowReason (s : State) : Nat :=
  match s.fsh.img.kind with
  | 1 => if !zonesIdle s then 1 else if s.cfg.txn.isSome || s.island.session.isSome then 2 else w32 (Config.freeNat s.fresh)
  | 3 => if sealWaits s || s.fsh.outcome = sSEALED then 3 else w32 (Config.freeNat s.fresh)
  | 4 => if !appZonesIdle s then 1 else w32 (Config.freeNat s.fresh)
  | _ => w32 (Config.freeNat s.fresh)

/-- GRANT_WINDOW_CLOSE: the grant's end has come; it is recorded where it leaves an image of its kinds STAGED whose activation has
not started within it (R484). -/
def grantWindowCloseFx (s : State) : State :=
  if !s.fsh.grantHeld || !s.sys.ready || s.fsh.notAfter = 0 || s.sys.calTime < s.fsh.notAfter then s
  else
    let s1 := onFsh (fun f => { f with grantHeld := false, grantKinds := 0, grantUsed := false }) s
    if s.fsh.state != 3 || !bitOf s.fsh.grantKinds (s.fsh.img.kind - 1) || s.fsh.grantUsed then s1 else drawn 1 (note 0x0D26 [s.fsh.grantKinds, windowReason s] s1)

/-! Verification and the ends of a session (R477, R480, R483). -/

/-- What the taker tells its holder at the end of a verification. -/
def tellHolder (status : Nat) (s : State) : State :=
  match s.fsh.source with
  | some (.line p) =>
    let k := shake s p
    if k.taker != 3 then s
    else sendFsh p k.peer 9 k.takerSession 0 0 (p2 status) (modShake p (fun x => { x with taker := 0 }) s)
  | _ => s

/-- IMAGE_VERIFY_DONE: the image read back from the slot. In RECOVERY what is verified is written, as its stores are admitted
(R31, R491). -/
def imageVerifyDoneFx (readBack : List Byte) (s : State) : State :=
  let im := s.fsh.img
  if s.fsh.state != 2 || !served s then s
  else if sha256 readBack = im.digest && headerSigned s im.header then
    let s1 := tellHolder sOK (noteRom 0x0D13 [im.kind, versionWord im.version, im.arb] (onFsh (fun f => { f with state := 3, grantUsed := false }) s))
    if s.sys.mode != .recovery then s1
    else requestStore (if im.kind = 1 then .journal 1 else .loaderCopy 0)
      (noteLater 0x0D20 [im.kind, im.arb, im.blocks] (onFsh (fun f => { f with state := 4, doneBlocks := [] }) s1))
  else emptySlot (tellHolder sBADOBJ (noteRom 0x0D14 [im.kind, im.arb] s))

/-- SESSION_LOCK_IDLE: 60 s without a block. -/
def sessionLockIdleFx (s : State) : State :=
  if s.sys.devTime < s.fsh.lastBlock + 60000000000 then s
  else match s.fsh.lock with
  | some (.line p) => endLock 2 (modShake p (fun x => { x with taker := 0 }) s)
  | _ => endLock 2 s

/-- PARTIAL_IMAGE_EXPIRED: 24 h without resumption. -/
def partialImageExpiredFx (s : State) : State := if s.fsh.state = 1 && s.fsh.lock.isNone then emptySlot s else s

/-! Commands (R494, R495). -/

/-- FSH_STATUS. -/
def fshStatusH (_ : Org) (_ : List Byte) (s : State) : Res :=
  let f := s.fsh
  let im := f.img
  let done := if f.state = 4 || f.state = 8 then f.doneBlocks.length else f.marked.length
  .done sOK (p1 (modeCode s.sys.mode) ++ p1 f.state ++ p1 im.kind ++
    p1 (match f.source with | some x => sourceCode x | none => 0) ++ fit 3 (im.version.flatMap p1) ++ p1 f.recoveryCause ++
    p4 im.arb ++ p4 im.blocks ++ p4 done ++ p1 f.trialBoots ++ p1 (b01 f.grantHeld + b01 (grantOpen s) * 2) ++ zeros 2 ++
    p4 f.trialLeft ++ p4 (floorOf s 1) ++ p4 (floorOf s 2) ++ p4 (floorOf s 3) ++ p4 (floorOf s 4)) s

/-- FSH_OPEN: the taking of the lock is its commit point. -/
def fshOpenH (o : Org) (b : List Byte) (s : State) : Res :=
  let h := b.take 256
  let table := b.drop 256
  let src : Source := .side o.side
  let answer (from_ retry : Nat) : List Byte := p4 from_ ++ p2 retry ++ zeros 2
  if s.sys.mode != .recovery && !accepts s 2 then .done sAUTH [] s
  else if shapeOk h && b.length != 256 + 32 * g4 h 20 then .done sBADLEN [] s
  else if s.sys.mode = .recovery && g1 h 6 > 2 then .done sBADOBJ [] s
  else
    let (v, s1) := judgeOffer src h (some table) s
    if v.status = sBUSY then .done sBUSY (answer 0 v.retry) s1
    else if v.status != sOK then .done v.status [] s1
    else match v.way with
      | 0 => .done sOK (answer (g4 h 20) 0) s1
      | 1 => .done sOK (answer (firstMissing s) 0) (takeLock src (imgOf h table) 1
          (onFsh (fun f => { f with img := { f.img with table := table } }) s1))
      | _ => .done sOK (answer 0 0) (takeLock src (imgOf h table) 2 s1)

/-- FSH_BLOCK: the marking of the block is its commit point. While a block's store waits for energy, further blocks answer BUSY
(R479). -/
def fshBlockH (o : Org) (b : List Byte) (s : State) : Res :=
  let blk := g4 b 0
  let off := g4 b 4
  let data := b.drop 8
  let f := s.fsh
  let answer (n ok : Nat) : List Byte := p4 n ++ p1 ok ++ zeros 3
  if f.lock != some (.side o.side) || f.state != 1 || blk ≥ f.img.blocks || off % 16 != 0 ||
      off + data.length > blockLen f.img blk then .done sBADOBJ [] s
  else if blockWaits s then .done sBUSY [] s
  else if f.marked.contains blk then .done sOK (answer f.marked.length 1) s
  else
    let (r, s1) := takePiece (.side o.side) blk off data s
    match r with
    | .partly => .done sOK (answer f.marked.length 0) s1
    | .bad => .done sBADOBJ [] s1
    | .whole =>
      if canStore (.freshetStage blk) s1 then .later (stageBlock blk (addJob { org := o, a := blk } s1))
      else .done sNOENERGY [] (stageBlock blk s1)

/-- FSH_GRANT. -/
def fshGrantH (_ : Org) (b : List Byte) (s : State) : Res :=
  if g1 b 0 > 15 || !zeroAt b 1 7 then .done sBADOBJ [] s
  else .done sOK [] (onFsh (fun f =>
    { f with grantHeld := true, grantUsed := false, grantKinds := g1 b 0, notBefore := i8 b 8, notAfter := i8 b 16 }) s)

/-- FSH_CONFIRM: the floor store is its commit point. -/
def fshConfirmH (o : Org) (b : List Byte) (s : State) : Res :=
  let kind := g1 b 0
  let arb := g4 b 4
  if s.fsh.state != 5 then .done sWRONGMODE [] s
  else if !zeroAt b 1 3 || kind != s.fsh.img.kind || arb != s.fsh.img.arb then .done sBADOBJ [] s
  else if canStore (.floor kind arb (some o)) s then
    .later (requestStore (.floor kind arb (some o)) (addJob { org := o } (cancelStore (.floor kind arb none) s)))
  else .done sNOENERGY [] (if storing (.floor kind arb none) s then s else requestStore (.floor kind arb none) s)

/-- FSH_DISCARD. -/
def fshDiscardH (o : Org) (_ : List Byte) (s : State) : Res :=
  let f := s.fsh
  if f.state = 4 || f.state = 5 || f.state = 8 then .done sWRONGMODE [] s
  else if f.lock.isSome && f.lock != some (.side o.side) then .done sBADOBJ [] s
  else .done sOK [] (emptySlot (endLock 3 s))

/-- FSH_RESTORE: restoration follows as in R488. -/
def fshRestoreH (_ : Org) (_ : List Byte) (s : State) : Res :=
  if s.fsh.backed.isEmpty then .done sWRONGMODE [] s
  else .done sOK [] (askBlock (onFsh (fun f => { f with state := 8, journal := 8, doneBlocks := [] }) s))

def fshStatusFx := serve 0x0D01 fshStatusH
def fshOpenFx := serve 0x0D02 fshOpenH
def fshBlockFx := serve 0x0D03 fshBlockH
def fshGrantFx := serve 0x0D04 fshGrantH
def fshConfirmFx := serve 0x0D05 fshConfirmH
def fshDiscardFx := serve 0x0D06 fshDiscardH
def fshRestoreFx := serve 0x0D07 fshRestoreH

/-! The handshake (R481, R482). A datagram is what follows the UDP header. -/

/-- The device hears a datagram of this kind on a line port. -/
def hears (s : State) (p kind : Nat) (d : List Byte) : Bool :=
  devicePort s && p ≤ 1 && (port s p).link && s.net.key.isSome && 16 ≤ d.length && g2 d 0 == 0x7346 && g1 d 2 == kind &&
    g1 d 3 == 0

def peerOf (mac ip : List Byte) : List Byte := fit 6 mac ++ fit 4 ip

def lineKey (s : State) : List Byte := s.net.key.getD []

/-- FRESHET_OFFER: a header that may be taken is answered with OPEN. -/
def takeFshOffer (p : Nat) (mac ip d : List Byte) (s : State) : State :=
  if !hears s p 1 d || !accepts s p then s
  else
    let peer := peerOf mac ip
    let h := fshBody d
    let (v, s1) := judgeOffer (.line p) h none s
    if v.status != sOK then sendRefuse p peer 0 v.status v.retry s1
    else if v.way = 0 then sendFsh p peer 9 0 0 0 (p2 sOK) s1
    else if (shake s p).taker = 3 && s.fsh.lock = some (.line p) then nextGet p s1
    else
      let nonce := randomBytes 8 s1
      sendFsh p peer 2 0 0 0 nonce (drawn 8 (modShake p (fun k =>
        { k with taker := 1, offer := h, clientNonce := nonce, takerSession := 0, peer := peer, buf := [] }) s1))

/-- FRESHET_OPEN: a holder challenges. -/
def takeFshOpen (p : Nat) (mac ip d : List Byte) (s : State) : State :=
  if !hears s p 2 d || !offering s || !forwards s p || (fshBody d).length != 8 then s
  else
    let nonce := randomBytes 8 s
    sendFsh p (peerOf mac ip) 3 0 0 0 (nonce ++ serialBytes s) (drawn 8 (modShake p (fun k =>
      { k with holder := 1, hClientNonce := fshBody d, hDevNonce := nonce, hNonceAt := s.sys.devTime }) s))

/-- FRESHET_CHALLENGE: the taker proves that it knows the line key. -/
def takeFshChallenge (p : Nat) (mac ip d : List Byte) (s : State) : State :=
  let k := shake s p
  let b := fshBody d
  if !hears s p 3 d || k.taker != 1 || k.peer != peerOf mac ip || b.length != 16 then s
  else
    let proof := lineProof (lineKey s) labelTaker k.clientNonce (b.take 8) (b.drop 8)
    sendFsh p k.peer 4 0 0 0 proof (modShake p (fun x => { x with taker := 2, devNonce := b.take 8, holderSerial := g8 b 8 }) s)

/-- FRESHET_AUTH: the holder opens a session, and proves itself. -/
def takeFshAuth (p : Nat) (mac ip d : List Byte) (s : State) : State :=
  let k := shake s p
  let peer := peerOf mac ip
  if !hears s p 4 d || k.holder != 1 || s.sys.devTime > k.hNonceAt + 5000000000 then s
  else if fshBody d != lineProof (lineKey s) labelTaker k.hClientNonce k.hDevNonce (serialBytes s) then
    sendRefuse p peer 0 sAUTH 0 (modShake p (fun x => { x with holder := 0 }) s)
  else
    let n := leNat 2 (randomBytes 2 s)
    let id := if n = 0 then 1 else n
    let proof := lineProof (lineKey s) labelHolder k.hDevNonce k.hClientNonce (serialBytes s)
    sendFsh p peer 5 id 0 0 (p2 id ++ zeros 2 ++ proof) (drawn 2 (modShake p (fun x => { x with holder := 2, hSession := id, hGetAt := s.sys.devTime }) s))

/-- FRESHET_ACCEPT: the source has completed authentication once its proof verifies and its header still passes (R477). -/
def takeFshAccept (p : Nat) (mac ip d : List Byte) (s : State) : State :=
  let k := shake s p
  let b := fshBody d
  let drop_ := modShake p (fun x => { x with taker := 0 })
  if !hears s p 5 d || k.taker != 2 || k.peer != peerOf mac ip || b.length != 20 then s
  else if b.drop 4 != lineProof (lineKey s) labelHolder k.devNonce k.clientNonce (p8 k.holderSerial) then
    sendRefuse p k.peer (g2 b 0) sAUTH 0 (drop_ s)
  else
    let (v, s1) := judgeOffer (.line p) k.offer none s
    if v.status != sOK then sendRefuse p k.peer (g2 b 0) v.status v.retry (drop_ s1)
    else if v.way = 0 then sendFsh p k.peer 9 (g2 b 0) 0 0 (p2 sOK) (drop_ s1)
    else nextGet p (takeLock (.line p) (imgOf k.offer []) v.way
      (modShake p (fun x => { x with taker := 3, takerSession := g2 b 0, buf := [] }) s1))

/-- FRESHET_GET: the holder reads its slot. -/
def takeFshGet (p : Nat) (mac ip d : List Byte) (s : State) : State :=
  let k := shake s p
  if !hears s p 6 d || k.holder != 2 || g2 d 4 != k.hSession || g4 d 12 > 8192 || !offering s then s
  else sendPieces p (peerOf mac ip) k.hSession 8 (g4 d 8) (g4 d 12) (modShake p (fun x => { x with hGetAt := s.sys.devTime }) s)

/-- The block digest table is complete: it is checked against the header (R473, R474). -/
def tableCome (p : Nat) (s : State) : State :=
  let k := shake s p
  if tableOk s.fsh.img.header k.buf then
    nextGet p (modShake p (fun x => { x with buf := [] }) (onFsh (fun f => { f with img := { f.img with table := k.buf } }) s))
  else
    sendRefuse p k.peer k.takerSession sAUTH 0 (modShake p (fun x => { x with taker := 0, buf := [] }) (emptySlot (endLock 3 s)))

/-- FRESHET_DATA: pieces in the order asked for. -/
def takeFshData (p : Nat) (mac ip d : List Byte) (s : State) : State :=
  let k := shake s p
  let b := fshBody d
  let off := g4 d 8
  let im := s.fsh.img
  if !hears s p 7 d || k.taker != 3 || k.peer != peerOf mac ip || g2 d 4 != k.takerSession || s.fsh.lock != some (.line p) ||
      s.fsh.state != 1 || blockWaits s || off != k.want || b.isEmpty || b.length != g4 d 12 || b.length > 1024 ||
      off + b.length > k.wantEnd then s
  else
    let s1 := modShake p (fun x => { x with want := off + b.length }) s
    let more : State → State := fun t => if off + b.length = k.wantEnd then nextGet p t else t
    if off < payloadAt im then
      let s2 := modShake p (fun x => { x with buf := x.buf ++ b }) s1
      if (k.buf ++ b).length = 32 * im.blocks then tableCome p s2 else more s2
    else
      let q := off - payloadAt im
      let (r, s2) := takePiece (.line p) (q / 65536) (q % 65536) b s1
      match r with
      | .partly => more s2
      | .bad => nextGet p s2
      | .whole => stageBlock (q / 65536) s2

/-- FRESHET_REFUSE, as taker or as holder. -/
def takeFshRefuse (p : Nat) (mac ip d : List Byte) (s : State) : State :=
  let k := shake s p
  let st := g2 (fshBody d) 0
  if !hears s p 8 d || (fshBody d).length != 4 then s
  else if k.taker != 0 && k.peer = peerOf mac ip && g2 d 4 = k.takerSession then
    let s1 := modShake p (fun x => { x with taker := 0 }) s
    if s.fsh.lock = some (.line p) then endLock 3 s1 else s1
  else if k.firstOffer.isNone then s
  else if st = sBUSY then
    modShake p (fun x => { x with holder := 0, notBefore := s.sys.devTime + g2 (fshBody d) 2 * 1000000000 }) s
  else forwardEnds p st s

/-- FRESHET_DONE. -/
def takeFshDone (p : Nat) (_mac _ip d : List Byte) (s : State) : State :=
  let st := g2 (fshBody d) 0
  if !hears s p 9 d || (fshBody d).length != 2 || (shake s p).firstOffer.isNone then s
  else if st = sOK then forwardEnds p sOK s
  else note 0x0D28 [p, st] (modShake p (fun x => { x with holder := 0 }) s)

/-- FRESHET_OFFER_TIMER: every 10 s, for 24 h. -/
def freshetOfferTimerFx (p : Nat) (s : State) : State :=
  let k := shake s p
  let now := s.sys.devTime
  if !devicePort s || p > 1 || !(port s p).link || !offering s || !forwards s p || k.stopped || now < k.notBefore then s
  else
    let first := k.firstOffer.getD now
    if now ≥ first + 86400000000000 then forwardEnds p sTIMEOUT s
    else sendFsh p (asciiBytes (List.replicate 10 255)) 1 0 0 0 s.fsh.img.header
      (modShake p (fun x => { x with firstOffer := some first }) s)

/-! The datagram rows: what the device port takes during re-execution waits (R455). -/

def freshetOfferFx (p : Nat) (mac ip d : List Byte) : State → State :=
  lineRow p mac (.freshet 1 p mac ip d) (takeFshOffer p mac ip d)
def freshetOpenFx (p : Nat) (mac ip d : List Byte) : State → State :=
  lineRow p mac (.freshet 2 p mac ip d) (takeFshOpen p mac ip d)
def freshetChallengeFx (p : Nat) (mac ip d : List Byte) : State → State :=
  lineRow p mac (.freshet 3 p mac ip d) (takeFshChallenge p mac ip d)
def freshetAuthFx (p : Nat) (mac ip d : List Byte) : State → State :=
  lineRow p mac (.freshet 4 p mac ip d) (takeFshAuth p mac ip d)
def freshetAcceptFx (p : Nat) (mac ip d : List Byte) : State → State :=
  lineRow p mac (.freshet 5 p mac ip d) (takeFshAccept p mac ip d)
def freshetGetFx (p : Nat) (mac ip d : List Byte) : State → State :=
  lineRow p mac (.freshet 6 p mac ip d) (takeFshGet p mac ip d)
def freshetDataFx (p : Nat) (mac ip d : List Byte) : State → State :=
  lineRow p mac (.freshet 7 p mac ip d) (takeFshData p mac ip d)
def freshetRefuseFx (p : Nat) (mac ip d : List Byte) : State → State :=
  lineRow p mac (.freshet 8 p mac ip d) (takeFshRefuse p mac ip d)
def freshetDoneFx (p : Nat) (mac ip d : List Byte) : State → State :=
  lineRow p mac (.freshet 9 p mac ip d) (takeFshDone p mac ip d)

end Sys2Proof.Machine
end

