-- ==== Sys2Proof/Machine/ExecFreshet.lean ====
section
/-! DEFINITION. The meanings of the rows of FreshetFx.lean: each row's effect, then what follows every effect. -/

namespace Sys2Proof.Machine

/-- ISLAND_LINK_RESTORED (R221). -/
def execIslandLinkRestored (s : State) : Out := settle s (islandLinkRestoredFx s)

/-- ISLAND_START (R236). -/
def execIslandStart (digestOk shieldOpen : Bool) (chainBad : Option Nat) (paramBad : List (Nat × Nat)) (torn : Bool) (s : State) : Out := settle s (islandStartFx digestOk shieldOpen chainBad paramBad torn s)

/-- SEAL_CHANGE (R228). -/
def execSealChange (opened : Bool) (s : State) : Out := settle s (sealChangeFx opened s)

/-- FRESHET_OFFER (R481). -/
def execFreshetOffer (port : Nat) (mac ip dgram : List Byte) (s : State) : Out := settle s (freshetOfferFx port mac ip dgram s)

/-- FRESHET_OPEN (R481). -/
def execFreshetOpen (port : Nat) (mac ip dgram : List Byte) (s : State) : Out := settle s (freshetOpenFx port mac ip dgram s)

/-- FRESHET_CHALLENGE (R481). -/
def execFreshetChallenge (port : Nat) (mac ip dgram : List Byte) (s : State) : Out := settle s (freshetChallengeFx port mac ip dgram s)

/-- FRESHET_AUTH (R481). -/
def execFreshetAuth (port : Nat) (mac ip dgram : List Byte) (s : State) : Out := settle s (freshetAuthFx port mac ip dgram s)

/-- FRESHET_ACCEPT (R481). -/
def execFreshetAccept (port : Nat) (mac ip dgram : List Byte) (s : State) : Out := settle s (freshetAcceptFx port mac ip dgram s)

/-- FRESHET_GET (R481). -/
def execFreshetGet (port : Nat) (mac ip dgram : List Byte) (s : State) : Out := settle s (freshetGetFx port mac ip dgram s)

/-- FRESHET_DATA (R479). -/
def execFreshetData (port : Nat) (mac ip dgram : List Byte) (s : State) : Out := settle s (freshetDataFx port mac ip dgram s)

/-- FRESHET_REFUSE (R482). -/
def execFreshetRefuse (port : Nat) (mac ip dgram : List Byte) (s : State) : Out := settle s (freshetRefuseFx port mac ip dgram s)

/-- FRESHET_DONE (R482). -/
def execFreshetDone (port : Nat) (mac ip dgram : List Byte) (s : State) : Out := settle s (freshetDoneFx port mac ip dgram s)

/-- FRESHET_OFFER_TIMER (R482). -/
def execFreshetOfferTimer (port : Nat) (s : State) : Out := settle s (freshetOfferTimerFx port s)

/-- IMAGE_VERIFY_DONE (R480). -/
def execImageVerifyDone (readBack : List Byte) (s : State) : Out := settle s (imageVerifyDoneFx readBack s)

/-- SESSION_LOCK_IDLE (R477). -/
def execSessionLockIdle (s : State) : Out := settle s (sessionLockIdleFx s)

/-- ACTIVATION_START (R484). -/
def execActivationStart (s : State) : Out := settle s (activationStartFx s)

/-- NOR_BLOCK_DONE (R485). -/
def execNorBlockDone (ok readable : Bool) (s : State) : Out := settle s (norBlockDoneFx ok readable s)

/-- GRANT_WINDOW_CLOSE (R484). -/
def execGrantWindowClose (s : State) : Out := settle s (grantWindowCloseFx s)

/-- TRIAL_TIME_JOURNAL (R487). -/
def execTrialTimeJournal (s : State) : Out := settle s (trialTimeJournalFx s)

/-- TRIAL_BOOTS_CLEAR (R487). -/
def execTrialBootsClear (s : State) : Out := settle s (trialBootsClearFx s)

/-- WATERMARK_TRIAL_TIMEOUT (R486). -/
def execWatermarkTrialTimeout (s : State) : Out := settle s (watermarkTrialTimeoutFx s)

/-- PARTIAL_IMAGE_EXPIRED (R483). -/
def execPartialImageExpired (s : State) : Out := settle s (partialImageExpiredFx s)

/-- FSH_STATUS (R494). -/
def execFshStatus (r : Req) (s : State) : Out := settle s (fshStatusFx r s)

/-- FSH_OPEN (R474). -/
def execFshOpen (r : Req) (s : State) : Out := settle s (fshOpenFx r s)

/-- FSH_BLOCK (R479). -/
def execFshBlock (r : Req) (s : State) : Out := settle s (fshBlockFx r s)

/-- FSH_GRANT (R484). -/
def execFshGrant (r : Req) (s : State) : Out := settle s (fshGrantFx r s)

/-- FSH_CONFIRM (R487). -/
def execFshConfirm (r : Req) (s : State) : Out := settle s (fshConfirmFx r s)

/-- FSH_DISCARD (R494). -/
def execFshDiscard (r : Req) (s : State) : Out := settle s (fshDiscardFx r s)

/-- FSH_RESTORE (R488). -/
def execFshRestore (r : Req) (s : State) : Out := settle s (fshRestoreFx r s)

/-- APPLICATION_FAULT_STOP (R487). -/
def execApplicationFaultStop (s : State) : Out := settle s (applicationFaultStopFx s)

end Sys2Proof.Machine
end

