-- ==== Sys2Proof/Machine/HostFx.lean ====
section
/-! DEFINITION. Effects of the rows of the host interface: SPI frames, register writes, doorbells and releases, reads
that latch, application accesses, and Evver/UDP (spec/02_sluices.md R52–R84; spec/13_line_uplink.md R465). `miso` holds
the status byte of the frame, the two bytes under its address, and the data bytes after them; what the device drives under
a length, a dummy byte and written data the spec does not say, and it has no place there (notes/assumptions/97.md). -/

namespace Sys2Proof.Machine

def setMiso (bs : List Byte) (s : State) : State := onSys (fun y => { y with miso := bs }) s

/-- What a frame returns: the status byte, 0x00 under the address, and data (R55). -/
def driven (bs : List Byte) (s : State) : State := setMiso (statusByte s :: 0 :: 0 :: bs) s

/-- A frame that returns the status byte and 0x00 (R55, R57). -/
def bareFrame (n : Nat) (s : State) : State := driven (zeros n) s

/-- A frame that ends before its address is complete. -/
def stubFrame (s : State) : State := setMiso [statusByte s] s

/-- A plain frame: ignored in RECOVERY (spec/14_freshet.md R491), refused under CRC_REQ (R56), and answered by the
status byte alone while HRDY is low (R57). -/
def plainFrame (n : Nat) (f : State → State) (s : State) : State :=
  if s.sys.mode = .recovery then bareFrame n s
  else if !s.sys.ready then lateFrame .spi (bareFrame n s)
  else if s.hifSpi.ctrl.getLsbD 1 then hifErr .spi 2 (bareFrame n s)
  else f s

/-- SPI_WRITE (R54, R57). -/
def spiWriteFx (addr : Nat) (data : List Byte) (fin : FrameEnd) : State → State :=
  plainFrame data.length (fun s =>
    let s0 := bareFrame 0 s
    match fin with
    | .insideAddress => hifErr .spi 4 (stubFrame s)
    | .insideByte => hifErr .spi 4 (hostStore .spi (addr % 65536) data s0)
    | .whole => hostStore .spi (addr % 65536) data s0)

/-- SPI_READ (R54, R55, R57). -/
def spiReadFx (addr len : Nat) (fin : FrameEnd) : State → State :=
  plainFrame len (fun s =>
    let (bs, s1) := hostRead .spi (addr % 65536) len s
    match fin with
    | .insideAddress => hifErr .spi 4 (stubFrame s)
    | .insideByte => hifErr .spi 4 (setMiso (statusByte s :: 0 :: 0 :: bs) s1)
    | .whole => setMiso (statusByte s :: 0 :: 0 :: bs) s1)

/-- A checked frame: it is served in RECOVERY too (spec/14 R491). -/
def checkedFrame (n : Nat) (f : State → State) (s : State) : State :=
  if !served s then lateFrame .spi (bareFrame n s) else f s

/-- SPI_WRITE_CRC (R56, R57). -/
def spiWriteCrcFx (addr len : Nat) (data : List Byte) (crc : Nat) (fin : CrcEnd) : State → State :=
  checkedFrame 0 (fun s =>
    let s0 := bareFrame 0 s
    let bytes := (0x0A : Byte) :: beBytes 2 addr ++ beBytes 2 len ++ data
    if len = 0 || len > 4096 then s0
    else match fin with
      | .cut => hifErr .spi 4 s0
      | .extra => hifErr .spi 3 s0
      | .complete =>
        if data.length != len then hifErr .spi 4 s0
        else if crc16 bytes != crc then hifErr .spi 3 s0
        else hostStore .spi (addr % 65536) data s0)

/-- Bytes clocked by a checked read after its dummy byte: data, CRC and what follows it. -/
def readClocked (len : Nat) : ReadEnd → Nat
  | .whole extra => len + 2 + extra
  | .cut n => n

/-- SPI_READ_CRC (R56, R57): after the CRC the device drives 0x00; one cut inside its data sets SHORT_FRAME and no other
bit. One that ends behind its data is complete, whether or not its CRC was read. -/
def spiReadCrcFx (addr len : Nat) (fin : ReadEnd) : State → State :=
  checkedFrame (readClocked len fin) (fun s =>
    if len = 0 || len > 4096 then bareFrame 0 s
    else
      let n := readClocked len fin
      if n < len then
        let (bs, s1) := windowRead .spi (addr % 65536) n s
        hifErr .spi 4 (setMiso (statusByte s :: 0 :: 0 :: bs) s1)
      else
        let (bs, s1) := hostRead .spi (addr % 65536) len s
        let crc := beBytes 2 (crc16 ((0x0B : Byte) :: beBytes 2 addr ++ beBytes 2 len ++ bs))
        setMiso (statusByte s :: 0 :: 0 :: fit n (bs ++ crc)) s1)

/-- SPI_FRAME_IGNORED (R54). -/
def spiFrameIgnoredFx (instr : Byte) (s : State) : State :=
  let known := instr == 0x02 || instr == 0x03 || instr == 0x0A || instr == 0x0B
  if known then s else if !served s then lateFrame .spi (bareFrame 0 s) else bareFrame 0 s

/-- A register write of one side, while its window is served (R52, R57). -/
def sideWrite (d : Side) (a : Nat) (bs : List Byte) (s : State) : State :=
  match d with
  | .udp _ => s
  | _ => if !served s then lateFrame d s else hostStore d a bs s

/-- HIF_DOORBELL_WRITE, HIF_RELEASE_WRITE, HIF_IRQ_STATUS_CLEAR, HIF_ERR_CLEAR (R13, R59, R62, R63). -/
def hifDoorbellWriteFx (d : Side) (v : Byte) : State → State := sideWrite d 0x18 [v]
def hifReleaseWriteFx (d : Side) (v : Byte) : State → State := sideWrite d 0x1C [v]
def hifIrqStatusClearFx (d : Side) (v : Reg) : State → State := sideWrite d 0x10 (leBytes 4 v.toNat)
def hifErrClearFx (d : Side) (v : Reg) : State → State := sideWrite d 0x24 (leBytes 4 v.toNat)

/-- An application access of `n` bytes at offset `a` of the host window lies wholly in one region (R24, R57). -/
def appMay (s : State) (a n : Nat) : Bool := inside s .app a n == n && !(a < 0x100 && 0x2C < a + n)

def setBusError (e : Bool) (bs : List Byte) (s : State) : State := onSys (fun y => { y with busError := e, appData := bs }) s

/-- A load of the application in the host window. -/
def appLoad (a n : Nat) (s : State) : State :=
  if appMay s a n then
    let (bs, s1) := hostRead .app a n s
    setBusError false bs s1
  else setBusError true [] s

/-- REGISTER_WRITE (R13): on the SPI side a plain frame's, on the application side a store. -/
def registerWriteFx (d : Side) (addr : Nat) (data : List Byte) (s : State) : State :=
  match d with
  | .spi => spiWriteFx addr data .whole s
  | .app =>
    if !s.sys.ready then s
    else if appMay s addr data.length then setBusError false [] (hostStore .app addr data s)
    else setBusError true [] s
  | .udp _ => s

/-- DEVTIME_LO_READ (R60) and FELT_POS_READ (spec/04_felt_time.md R148). -/
def sideRead (d : Side) (a n : Nat) (s : State) : State :=
  match d with
  | .spi => spiReadFx a n .whole s
  | .app => if s.sys.ready then appLoad a n s else s
  | .udp _ => s

def devtimeLoReadFx (d : Side) : State → State := sideRead d 0x8100 4
def feltPosReadFx (d : Side) (f : Nat) : State → State := sideRead d (0x8000 + 32 * (f % 8)) 4

/-- APP_ACCESS_ERROR (R24, R57): an access outside every region completes with a bus error; one inside is a load. -/
def appAccessErrorFx (addr size : Nat) (s : State) : State :=
  if 0x80000000 ≤ addr && addr + size ≤ 0xE0000000 then setBusError false [] s
  else if 0x40000000 ≤ addr && addr < 0x40010000 && s.sys.ready then appLoad (addr - 0x40000000) size s
  else setBusError true [] s

/-- SEGMENT_TIMEOUT (R73). DESIGN CHOICE: 0x0023 counts the segments taken in order, and no early one that Evver/UDP holds
behind a gap (notes/assumptions/134.md). -/
def segmentTimeoutFx (d : Side) (n : Nat) (s : State) : State :=
  match ownSluice s d n with
  | none => s
  | some sl =>
    match sl.held with
    | some q =>
      if q.whole then s
      else noteBy d 0x0023 [sideCode d, (n % 16 : Nat), q.tag, q.next] (endHeld d n q sTIMEOUT s)
    | none => s

/-- UDP_NOTICE_RESEND (R84), for the session of an identifier. -/
def udpNoticeResendFx (session n : Nat) (s : State) : State :=
  match sessionNo s session with
  | none => s
  | some k =>
    match ownSluice s (.udp k) n with
    | none => s
    | some sl => if sl.role = 1 && sl.noticeOut && sl.st = .resp then sendDgram k sl.lastAnswer s else s

/-! Service UART (spec/13_line_uplink.md R465). -/

/-- The bytes between the flags, with the escapes undone; none where an escape is left open. -/
def unstuff : List Byte → Option (List Byte)
  | [] => some []
  | [b] => if b = 0x7D then none else some [b]
  | b :: c :: r =>
    if b = 0x7D then (unstuff r).map (fun l => (c ^^^ 0x20) :: l) else (unstuff (c :: r)).map (fun l => b :: l)

/-- SERVICE_UART_FRAME: the bytes between two flags. -/
def serviceUartFrameFx (frame : List Byte) (s : State) : State :=
  match unstuff frame with
  | none => s
  | some bs =>
    let n := bs.length - 2
    let dg := bs.take n
    let src : UdpSrc := { addr := 0, port := 0, via := 3 }
    if s.sys.mode = .recovery || !hearsVia s 3 || bs.length < 2 || bs.length > 1034 || crc16 dg != beNat (bs.drop n) then s
    else if g1 dg 2 = 2 then datagram 2 src dg s else datagram 1 src dg s

/-- UART_BAUD_CHANGE: once no frame is in progress. -/
def uartBaudChangeFx (s : State) : State :=
  match s.net.baudDue with
  | some b => onNet (fun x => { x with baud := b, baudDue := none }) s
  | none => s

end Sys2Proof.Machine
end

