-- ==== Sys2Proof/Machine/ExecHost.lean ====
section
/-! DEFINITION. The meanings of the rows of HostFx.lean: each row's effect, then what follows every effect. -/

namespace Sys2Proof.Machine

/-- SPI_WRITE (R54). -/
def execSpiWrite (addr : Nat) (data : List Byte) (fin : FrameEnd) (s : State) : Out := settle s (spiWriteFx addr data fin s)

/-- SPI_READ (R54). -/
def execSpiRead (addr len : Nat) (fin : FrameEnd) (s : State) : Out := settle s (spiReadFx addr len fin s)

/-- SPI_WRITE_CRC (R56). -/
def execSpiWriteCrc (addr len : Nat) (data : List Byte) (crc : Nat) (fin : CrcEnd) (s : State) : Out := settle s (spiWriteCrcFx addr len data crc fin s)

/-- SPI_READ_CRC (R56). -/
def execSpiReadCrc (addr len : Nat) (fin : ReadEnd) (s : State) : Out := settle s (spiReadCrcFx addr len fin s)

/-- SPI_FRAME_IGNORED (R54). -/
def execSpiFrameIgnored (instr : Byte) (s : State) : Out := settle s (spiFrameIgnoredFx instr s)

/-- HIF_DOORBELL_WRITE (R62). -/
def execHifDoorbellWrite (side : Side) (value : Byte) (s : State) : Out := settle s (hifDoorbellWriteFx side value s)

/-- HIF_RELEASE_WRITE (R62). -/
def execHifReleaseWrite (side : Side) (value : Byte) (s : State) : Out := settle s (hifReleaseWriteFx side value s)

/-- HIF_IRQ_STATUS_CLEAR (R59). -/
def execHifIrqStatusClear (side : Side) (value : Reg) (s : State) : Out := settle s (hifIrqStatusClearFx side value s)

/-- HIF_ERR_CLEAR (R59). -/
def execHifErrClear (side : Side) (value : Reg) (s : State) : Out := settle s (hifErrClearFx side value s)

/-- REGISTER_WRITE (R13). -/
def execRegisterWrite (side : Side) (addr : Nat) (data : List Byte) (s : State) : Out := settle s (registerWriteFx side addr data s)

/-- DEVTIME_LO_READ (R60). -/
def execDevtimeLoRead (side : Side) (s : State) : Out := settle s (devtimeLoReadFx side s)

/-- FELT_POS_READ (R148). -/
def execFeltPosRead (side : Side) (felt : Nat) (s : State) : Out := settle s (feltPosReadFx side felt s)

/-- APP_ACCESS_ERROR (R24). -/
def execAppAccessError (addr size : Nat) (s : State) : Out := settle s (appAccessErrorFx addr size s)

/-- SEGMENT_TIMEOUT (R73). -/
def execSegmentTimeout (side : Side) (sluice : Nat) (s : State) : Out := settle s (segmentTimeoutFx side sluice s)

/-- UDP_NOTICE_RESEND (R84). -/
def execUdpNoticeResend (session sluice : Nat) (s : State) : Out := settle s (udpNoticeResendFx session sluice s)

/-- SERVICE_UART_FRAME (R465). -/
def execServiceUartFrame (frame : List Byte) (s : State) : Out := settle s (serviceUartFrameFx frame s)

/-- UART_BAUD_CHANGE (R465). -/
def execUartBaudChange (s : State) : Out := settle s (uartBaudChangeFx s)

end Sys2Proof.Machine
end

