-- ==== Sys2Proof/Machine/LineFx.lean ====
section
/-! DEFINITION. A frame on a port of the switch, and what it brings to the device port (spec/13_line_uplink.md R453–R459). -/

namespace Sys2Proof.Machine

/-- What the device does with what a frame brought. -/
def hear (i : LateFrame) : State → State :=
  match i with
  | .arp p mac ip target => answerArp p mac ip target
  | .echo p mac ip dst data => answerEcho p mac ip dst data
  | .ptp m => takePtp m
  | .freshet kind p mac ip d =>
    match kind with
    | 1 => takeFshOffer p mac ip d
    | 2 => takeFshOpen p mac ip d
    | 3 => takeFshChallenge p mac ip d
    | 4 => takeFshAuth p mac ip d
    | 5 => takeFshAccept p mac ip d
    | 6 => takeFshGet p mac ip d
    | 7 => takeFshData p mac ip d
    | 8 => takeFshRefuse p mac ip d
    | 9 => takeFshDone p mac ip d
    | _ => id
  | .dgram kind src d => datagram kind src d
  | .other => id

/-- A PTP message from its bytes (IEEE 1588: notes/assumptions/154.md). -/
def ptpOf (p transport : Nat) (b : List Byte) : Option PtpMsg :=
  let int (x : Nat) (n : Nat) : Int := if x < 2 ^ (8 * n - 1) then x else (x : Int) - 2 ^ (8 * n)
  let time (o : Nat) : Int := beNat (slice b o 6) * 1000000000 + beNat (slice b (o + 6) 4)
  let body : Option PtpBody :=
    match g1 b 0 % 16 with
    | 0 => some (.sync (bitOf (g1 b 6) 1) (time 34))
    | 8 => some (.followUp (time 34))
    | 9 => some (.delayResp (beNat (slice b 44 10)) (time 34))
    | 11 => some (.announce (beNat (slice b 53 8)) (g1 b 47) (beNat (slice b 48 4)) (g1 b 52) (beNat (slice b 61 2))
        (int (beNat (slice b 44 2)) 2))
    | _ => none
  body.map (fun x =>
    { transport := transport, domain := g1 b 4, port := p, source := beNat (slice b 20 10), seq := beNat (slice b 30 2),
      correction := int (beNat (slice b 8 8)) 8, body := x })

/-- What a frame brings to the device (R458). -/
def bringsOf (s : State) (p : Nat) (b : List Byte) : LateFrame :=
  let (t, o) := etherOf b
  let mac := slice b 6 6
  if t = 0x0806 then
    if beNat (slice b (o + 6) 2) = 1 then .arp p (slice b (o + 8) 6) (slice b (o + 14) 4) (slice b (o + 24) 4) else .other
  else if t = 0x88F7 then ((ptpOf p 0 (b.drop o)).map LateFrame.ptp).getD .other
  else if t = 0x0800 then
    let ihl := g1 b o % 16 * 4
    let ip := slice b (o + 12) 4
    let dst := slice b (o + 16) 4
    if g1 b (o + 9) = 1 && beNat (slice b (o + ihl) 2) = 0x0800 then
      .echo p mac ip dst (slice b (o + ihl + 4) (beNat (slice b (o + 2) 2) - ihl - 4))
    else match udpOf b with
      | some (port, q) =>
        let d := slice b q (beNat (slice b (q - 4) 2) - 8)
        if port = 319 || port = 320 then ((ptpOf p 1 d).map LateFrame.ptp).getD .other
        else if port = 47100 && dst == ipAddr s then
          .dgram (g1 d 2) ⟨beNat ip, beNat (slice b (q - 8) 2), p, mac⟩ d
        else if port = 47101 && (dst == ipAddr s || isOffer b) then .freshet (g1 d 2) p mac ip d
        else .other
      | none => .other
  else .other

/-- A frame reaches the device port: its own address, or a group. A probe of its own is the loop guard's. -/
def deviceTakes (p : Nat) (b : List Byte) (s : State) : State :=
  let dst := slice b 0 6
  let i := bringsOf s p b
  if isProbe b && slice b 6 6 == s.net.mac then probeBack p s
  else if dst != s.net.mac && g1 dst 0 % 2 = 0 then s
  else if s.sys.mode = .recovery then match i with | .dgram 1 src d => datagram 1 src d s | _ => s
  else heardNow ⟨queueOf b, b.length, i⟩ (hear i) s

/-- ETH_FRAME: `bytes` run from the destination address to the frame check sequence (R453–R456). -/
def ethFrameFx (p : Nat) (bytes : List Byte) (fcsOk : Bool) (s : State) : State :=
  let strange := match tagOf bytes with
    | some t => s.net.applied && !(netVids s).isEmpty && !(netVids s).contains (t % 4096)
    | none => false
  if !switchOn s || p > 2 || !(port s p).link then s
  else if !fcsOk then modPort p (fun x => { x with fcs := w32 (x.fcs + 1) }) s
  else if bytes.length < 64 || bytes.length > 1522 then s
  else if strange then modPort p (fun x => { x with rx := w32 (x.rx + 1) }) s
  else fromLine p (slice bytes 6 6) (isProbe bytes) (fun t =>
    deviceTakes p bytes ((egress t p bytes).foldl (fun u q => enqueue q bytes u) t)) s

end Sys2Proof.Machine
end

