-- ==== Sys2Proof/Machine/ExecLine.lean ====
section
/-! DEFINITION. The meanings of the rows of LineFx.lean: each row's effect, then what follows every effect. -/

namespace Sys2Proof.Machine

/-- ETH_FRAME (R453). -/
def execEthFrame (port : Nat) (bytes : List Byte) (fcsOk : Bool) (s : State) : Out := settle s (ethFrameFx port bytes fcsOk s)

end Sys2Proof.Machine
end

