-- ==== Sys2Proof/Machine/ExecMoisture.lean ====
section
/-! DEFINITION. The meanings of the rows of MoistureFx.lean: each row's effect, then what follows every effect. -/

namespace Sys2Proof.Machine

/-- MOISTURE_INTERVAL_END (R267). -/
def execMoistureIntervalEnd (sweeps : List Sweep) (s : State) : Out := settle s (moistureIntervalEndFx sweeps s)

/-- ENGINE_THERMAL_PAUSE (R286). -/
def execEngineThermalPause (s : State) : Out := settle s (engineThermalPauseFx s)

/-- ENGINE_THERMAL_RESUME (R286). -/
def execEngineThermalResume (s : State) : Out := settle s (engineThermalResumeFx s)

/-- MST_STATUS (R288). -/
def execMstStatus (r : Req) (s : State) : Out := settle s (mstStatusFx r s)

/-- MST_CAPTURE_AIR (R288). -/
def execMstCaptureAir (r : Req) (s : State) : Out := settle s (mstCaptureAirFx r s)

/-- MST_LOOPBACK (R288). -/
def execMstLoopback (r : Req) (s : State) : Out := settle s (mstLoopbackFx r s)

/-- MST_SPECTRUM (R288). -/
def execMstSpectrum (r : Req) (s : State) : Out := settle s (mstSpectrumFx r s)

/-- AIR_CAPTURE_COMPLETE (R288). -/
def execAirCaptureComplete (sweeps : List Sweep) (s : State) : Out := settle s (airCaptureCompleteFx sweeps s)

end Sys2Proof.Machine
end

