-- ==== Sys2Proof/Machine/ExecNet.lean ====
section
/-! DEFINITION. The meanings of the rows of NetFx.lean: each row's effect, then what follows every effect. -/

namespace Sys2Proof.Machine

/-- UDP_REQUEST (R83). -/
def execUdpRequest (src : UdpSrc) (dgram : List Byte) (s : State) : Out := settle s (udpRequestFx src dgram s)

/-- UDP_RELEASE (R83). -/
def execUdpRelease (src : UdpSrc) (dgram : List Byte) (s : State) : Out := settle s (udpReleaseFx src dgram s)

/-- ARP_REQUEST (R458). -/
def execArpRequest (port : Nat) (mac : List Byte) (ip target : List Byte) (s : State) : Out := settle s (arpRequestFx port mac ip target s)

/-- ICMP_ECHO (R458). -/
def execIcmpEcho (port : Nat) (mac ip dst data : List Byte) (s : State) : Out := settle s (icmpEchoFx port mac ip dst data s)

/-- PTP_MESSAGE (R460). -/
def execPtpMessage (m : PtpMsg) (s : State) : Out := settle s (ptpMessageFx m s)

/-- LOOP_PROBE_SEND (R456). -/
def execLoopProbeSend (port : Nat) (s : State) : Out := settle s (loopProbeSendFx port s)

/-- LOOP_PROBE_RETURN (R456). -/
def execLoopProbeReturn (port back : Nat) (s : State) : Out := settle s (loopProbeReturnFx port back s)

/-- LOOP_GUARD_RELEASE (R456). -/
def execLoopGuardRelease (s : State) : Out := settle s (loopGuardReleaseFx s)

/-- PHY_POLL (R457). -/
def execPhyPoll (link gigabit : Bool) (s : State) : Out := settle s (phyPollFx link gigabit s)

/-- LINK_CHANGE (R457). -/
def execLinkChange (port cause : Nat) (s : State) : Out := settle s (linkChangeFx port cause s)

/-- SPRING_CLOCK_UPDATE (R460). -/
def execSpringClockUpdate (s : State) : Out := settle s (springClockUpdateFx s)

/-- SESSION_IDLE (R463). -/
def execSessionIdle (session : Nat) (s : State) : Out := settle s (sessionIdleFx session s)

/-- AUTH_LOCKOUT_END (R464). -/
def execAuthLockoutEnd (addr via : Nat) (s : State) : Out := settle s (authLockoutEndFx addr via s)

/-- NET_SESSION_OPEN (R462). -/
def execNetSessionOpen (r : Req) (s : State) : Out := settle s (netSessionOpenFx r s)

/-- NET_SESSION_AUTH (R462). -/
def execNetSessionAuth (r : Req) (s : State) : Out := settle s (netSessionAuthFx r s)

/-- NET_SESSION_CLOSE (R463). -/
def execNetSessionClose (r : Req) (s : State) : Out := settle s (netSessionCloseFx r s)

/-- NET_STATUS (R469). -/
def execNetStatus (r : Req) (s : State) : Out := settle s (netStatusFx r s)

/-- NET_KEY (R461). -/
def execNetKey (r : Req) (s : State) : Out := settle s (netKeyFx r s)

end Sys2Proof.Machine
end

