-- ==== Sys2Proof/Machine/PowerOps.lean ====
section
/-! DEFINITION. Supplies, the Reservoir's energy, the Spring domain, and the temperatures' treated values
(spec/18_power_reservoir_thermal.md R558–R577). -/

namespace Sys2Proof.Machine

/-- mV of a voltage in µV. -/
def mvOf (uv : Int) : Int := uv / 1000

/-- The modes in which the supervisor serves the supply monitors and SAFE#: elsewhere their causes are evaluated at the
next start (spec/01_one_view.md R41). -/
def watched (s : State) : Bool :=
  s.sys.ready && (s.sys.mode == .commission || s.sys.mode == .run || s.sys.mode == .hold || s.sys.mode == .still)

/-- SPR_STICKY bits set or cleared. -/
def sticky (mask : Reg) (on : Bool) (s : State) : State :=
  onPower (fun p => { p with sticky := if on then p.sticky ||| mask else p.sticky &&& ~~~mask }) s

/-! The Reservoir. -/

/-- 0.405 J, in units of 5·10⁻¹⁹ J. -/
def reserveLevel : Nat := 810000000000000000

/-- The level below which some class cannot start: each change is recorded (R566). -/
def refreshReserve (s : State) : State :=
  let below := decide (s.power.energy < reserveLevel)
  if !s.sys.ready || below == s.power.below405 then s
  else note 0x0F24 [if below then 1 else 2, energyMj s] (onPower (fun p => { p with below405 := below }) s)

/-- VHOLD is as told; E follows, and a charge that gets through ends a Reservoir fault (R561, R563, R566). -/
def setVhold (uv : Int) (s : State) : State :=
  onPower (fun p =>
    { p with
      vhold := uv, energy := if p.capKnown then usableEnergy p.capUf uv else 0,
      resFault := p.resFault && !(p.charging && 33000000 ≤ uv),
      charging := chargerRuns p uv }) s

/-- A capacitance measurement is complete: by CHARGE C = 50 mA × t ÷ 10 V, by STEP C = 50 mA × t ÷ 1 V (R562, R566). -/
def capMeasured (us : Nat) (vhold : Int) (s : State) : State :=
  let step := s.power.measuring == 2
  let c : Nat := (roundDiv us (if step then 20 else 200)).toNat
  let prev := s.power.capUf
  let change : Int := if prev = 0 then s32 (Config.freeNat s.fresh) else roundDiv (((c : Int) - prev) * 1000) prev
  let bad := decide (c < 900) || decide (c > 12000)
  let s1 := onPower (fun p => { p with capUf := c, capKnown := true, measuring := 0, resFault := bad }) s
  let s2 := modAge 0 (fun a => if a.base.isNone then { a with base := some c } else a) (setVhold vhold (drawn 1 s1))
  let s3 := noteRom 0x0F22 [b01 step, c, change] s2
  let s4 := if bad then noteRom 0x0F23 [1, c, mvOf vhold] s3 else s3
  let s5 := (waitingJobs s4 0x0F22).foldl
    (fun t j => finish j.org sOK (p4 c ++ p1 (b01 step) ++ zeros 3) (commitJob j.org t)) s4
  refreshReserve (startCharger (onSys (fun y => { y with resMeasured := true }) s5))

/-! The Spring domain (R570, R610). -/

/-- The domain loses its supply: what it held is gone, and its registers start from their reset values. -/
def springLost (s : State) : State :=
  let s1 := onPower (fun p =>
    { p with
      sticky := 0x2, lastMode := 0, thermTrip := 0, sprVbat := 0, springPowered := false, springTold := false, recoveryReq := false,
      lostPassed := [], gaspSummary := [], tripTimes := [], tripUnrecorded := [] }) s
  onIsland (fun i => { i with unpoweredCount := 0, unpoweredFirst := 0, tampered := i.tamperedFlash, springSeen := false })
    (onReam (fun m => { m with fallback := [], fbOverwritten := 0, lostReset := 0, lostGasp := 0 }) s1)

/-! Temperatures (R572–R576). -/

def sensor (s : State) (i : Nat) : Sensor := tget s.power.sensors i
def modSensor (i : Nat) (f : Sensor → Sensor) (s : State) : State := onPower (fun p => { p with sensors := tmod p.sensors i f }) s

/-- Treated value and rate: a substituted sensor counts as 125 °C and gives no rate. -/
def treated (s : State) (i : Nat) : Int := if (sensor s i).substituted then 125000 else (sensor s i).raw
def treatedRate (s : State) (i : Nat) : Int := if (sensor s i).substituted then 0 else (sensor s i).rate

/-- Neighbours of a sensor (R572). -/
def neighbours (i : Nat) : List Nat :=
  ([[1, 2, 6], [0, 3, 6], [0, 3, 7], [1, 2, 7], [5, 6], [4, 6], [0, 1, 4, 5], [2, 3, 8], [7, 11], [10, 11], [9, 11], [8, 9, 10],
    [13, 9], [12, 9]] : List (List Nat)).getD i []

/-- The sensor at or above its warning limits (R574): 1 temperature, 2 rate, 0 neither. -/
def warnCause (s : State) (i : Nat) : Nat := if treated s i ≥ 115000 then 1 else if treatedRate s i ≥ 4000 then 2 else 0

/-- Every sensor below the limits that end a warning. -/
def allCool (s : State) : Bool := (List.range 14).all (fun i => treated s i < 110000 && treatedRate s i < 2000)

/-- The hottest sensor by treated value, the lowest of several. -/
def hottestOf (s : State) : Nat := (List.range 14).foldl (fun a i => if treated s i > treated s a then i else a) 0

/-- A trip's registers and record, before the restart (R575, R577). -/
def tripRegisters (i : Nat) (rate : Bool) (mdeg : Int) (s : State) : State :=
  let now := romTime s
  let times := (now.toNat :: s.power.tripTimes.filter (fun t => decide (now < (t : Int) + 3600000))).take 255
  let word : Nat := times.length * 16777216 + 32768 + (if rate then 512 else 256) + i
  let s1 := onPower (fun p => { p with thermTrip := BitVec.ofNat 32 word, tripTimes := times, tripHold := true, tripAt := p.springNs }) s
  let s2 := if 3 ≤ times.length then sticky 0x20 true s1 else s1
  let cause : Nat := if rate then 2 else 1
  if s.sys.ready then noteFault 0x0F32 [i, cause, mdeg, times.length] s2
  else onPower (fun p => { p with tripUnrecorded := p.tripUnrecorded ++ [(i, cause, mdeg, times.length)] }) s2

/-- A thermal trip: the outputs go off, and the device restarts through BOOT (R575); last gasp takes over where it has
begun. DESIGN CHOICE: a trip in BOOT and in RECOVERY, which the mode table of spec/01_one_view.md R33 does not list, restarts
through BOOT too (notes/assumptions/131.md). -/
def thermalTrip (i : Nat) (rate : Bool) (mdeg : Int) (s : State) : State :=
  match s.sys.mode with
  | .vault => s
  | .ice => s
  | _ =>
    if s.power.lastGasp then tripRegisters i rate mdeg s
    else restartFor 0x15 2 (tripRegisters i rate mdeg s)

end Sys2Proof.Machine
end

