-- ==== Sys2Proof/Machine/PowerFx.lean ====
section
/-! DEFINITION. Supplies, Reservoir, last gasp, Spring domain and temperatures (spec/18_power_reservoir_thermal.md R559–R581,
R610; spec/11_field_io.md R403; spec/10_valve_drive.md R353, R378). -/

namespace Sys2Proof.Machine

/-! VLOGIC (R560, R567). -/

def setVlogic (uv : Int) (s : State) : State := onPower (fun p => { p with vlogic := uv }) s

/-- The VLOGIC warning, set or cleared. In VAULT and ICE it is not watched. -/
def vlogicWarn (on : Bool) (uv : Int) (s0 : State) : State :=
  let s := setVlogic uv s0
  if s.sys.mode = .vault || s.sys.mode = .ice || s.power.warnVlogic == on then s
  else
    let s1 := noteRom 0x0F20 [if on then 1 else 2, mvOf uv] (onPower (fun p => { p with warnVlogic := on }) s)
    if watched s then setCause 2 on s1 else s1

/-- VLOGIC_WARNING: below 17.0 V for 10 ms. -/
def vlogicWarningFx (uv : Int) (s : State) : State := if uv < 17000000 then vlogicWarn true uv s else setVlogic uv s

/-- VLOGIC_WARNING_CLEARED: above 17.5 V for 10 ms. -/
def vlogicWarningClearedFx (uv : Int) (s : State) : State := if uv > 17500000 then vlogicWarn false uv s else setVlogic uv s

/-- VLOGIC_DIP: the Reservoir feeds the converters, and the charger stops. -/
def vlogicDipFx (uv : Int) (s : State) : State :=
  let s1 := setVlogic uv s
  if s.sys.mode = .vault || uv ≥ 16000000 then s1 else onPower (fun p => { p with dip := true, charging := false }) s1

/-- RIDE_THROUGH: recorded once, at once where Evver runs, else at its next start. -/
def rideThroughFx (uv : Int) (durUs : Nat) (s : State) : State :=
  let s1 := setVlogic uv s
  if !s.power.dip || s.power.lastGasp || uv ≤ 16500000 then s1
  else
    let s2 := startCharger (onPower (fun p => { p with dip := false }) s1)
    if s.sys.ready then note 0x0F27 [durUs, mvOf s.power.vhold] s2 else sticky 0x4 true s2

/-- LAST_GASP, step 1 (R568); the mode-change record is queued first (R503). In ICE and before Evver runs nothing can be
recorded, and the passage is told of at the next start (01_one_view.md R49; notes/assumptions/158.md). -/
def lastGaspFx (uv : Int) (s : State) : State :=
  let s1 := setVlogic uv s
  if s.sys.mode = .vault || s.power.lastGasp || uv ≥ 16000000 then s1
  else
    let s2 := onPower (fun p =>
      { p with lastGasp := true, charging := false, measuring := 0, stepDue := false, dip := true, gaspStores := 0 }) s1
    let s3 := noteRom 0x0010 [modeCode s.sys.mode, 0, 0x14, 0] s2
    let s3 := if s.sys.mode = .commission then leaveCommission s3 else s3
    let s4 := onSys (fun y => { y with target := none, resetting := false, resetDue := none, appStopped := true }) s3
    onAbsorb (fun a => { a with latch := false }) (busOff (outputsOff s4))

/-- The island's waiting audit entries are written; the last of them is torn where the reserve ran out (R225). -/
def gaspAudit (short : Bool) (s : State) : State :=
  let n := s.island.waiting.length
  if n = 0 || !s.island.running || s.island.failed then s
  else onIsland (fun i => { i with torn := short }) ((List.range n).foldl (fun t _ => writeAudit t) s)

/-- Records of the last-gasp flush: all of them, or, where VHOLD reached 18.0 V first, a number that is a free value
(notes/assumptions/14.md). -/
def gaspFlush (short : Bool) (s : State) : State :=
  let s1 := flushSuppressed s
  let len := s1.ream.queue.length
  let n := if short then Config.freeNat s1.fresh % (len + 1) else len
  let s2 := drawn 1 (flushQueue n 0x8 s1)
  onReam (fun m => { m with lostGasp := m.lostGasp + (len - n) })
    (onPower (fun p => { p with gaspSummary := p.gaspSummary ++ [(p.gaspStores, n, len - n, (mvOf p.vhold).toNat)] }) s2)

/-- What is written before the rails switch off: admitted stores, audit entries and records, or the block of the resident
loader; in ICE nothing (R568, R569). -/
def gaspWrites (short : Bool) (s : State) : State :=
  if s.sys.mode = .ice then s
  else
    let s1 := gaspAudit short (finishStores 400 s)
    lastMode 1 (if s.sys.ready then gaspFlush short s1
      else onPower (fun p => { p with gaspSummary := p.gaspSummary ++ [(p.gaspStores, 0, 0, (mvOf p.vhold).toNat)] }) (norBlockDoneFx true true s1))

/-- VAULT_ENTRY: steps 2 to 4, cut short where VHOLD has reached 18.0 V (R568, R569). Without a cell the Spring domain loses
power with VLOGIC (R610). -/
def vaultEntryFx (vhold : Int) (s0 : State) : State :=
  if !s0.power.lastGasp then s0
  else
    let short := decide (vhold ≤ 18000000)
    let s := onPower (fun p => { p with vhold := vhold }) s0
    let s2 := sticky (if short && s.sys.mode != .ice then 0x9 else 0x1) true (gaspWrites short s)
    let s3 := onSys (fun y =>
      { y with
        mode := .vault, target := none, ready := false, bootLite := false, supervisor := false, holdCauses := 0,
        norFound := none, appRunning := false, resetting := false, wakePin := false }) s2
    let s4 := modHif .spi (fun h => { h with notReady := false }) (onPower (fun p =>
      { p with
        lastGasp := false, vlogicOff := true, energy := 0, capKnown := false, charging := false, stores := [], dip := false,
        warnVlogic := false }) s3)
    let s5 := onIsland (fun i => { i with running := false }) (linksReset s4)
    if s.power.coinCell then s5 else springLost s5

/-- VLOGIC_RESTORED: BOOT begins (R559); TRIP_LATCH and the count of trips start again (R577). -/
def vlogicRestoredFx (uv : Int) (s : State) : State :=
  let s1 := setVlogic uv s
  if s.sys.mode != .vault || uv ≤ 17500000 then s1
  else
    let s2 := sticky 0x20 false (onPower (fun p =>
      { p with vlogicOff := false, springPowered := true, tripHold := false, tripTimes := [],
               thermTrip := p.thermTrip &&& 0x00FFFFFF }) (noteLater 0x0010 [0, 1, 0x14, 0] s1))
    bootReset s2

/-- VBAT_TRIP: the cell no longer holds the Spring domain, which loses power while VLOGIC is absent (R610). -/
def vbatTripFx (s : State) : State :=
  let s1 := onPower (fun p => { p with coinCell := false, vbat := 0 }) s
  if s.sys.mode = .vault then springLost s1 else s1

/-- COIN_CELL_FITTED: a domain without power starts from its reset values (R610). -/
def coinCellFittedFx (uv : Int) (s : State) : State :=
  onPower (fun p => { p with coinCell := true, vbat := uv, springPowered := true }) s

/-! Field supplies (R353, R378, R403, R560). `supply` is 0 for VFIELD_IO, 1 for VFIELD_VD. -/

/-- A supply is as told: flags and values of its stations follow. -/
def setSupply (supply : Nat) (uv : Int) (s0 : State) : State :=
  let low := decide (uv < 19200000)
  let now : Int := s0.sys.devTime
  let s := if uv ≥ 15000000 then s0
    else onField (fun f => if supply = 0 then { f with lowIoAt := now } else { f with lowVdAt := now }) s0
  if supply = 0 then
    let s1 := onField (fun f => { f with lowIo := low, noSupply := uv < 10000000 }) (onPower (fun p => { p with vfieldIo := uv }) s)
    let s2 := if low && !s.field.lowIo && watched s then note 0x0A20 [mvOf uv] s1 else s1
    zonesEval (republishFields s2)
  else
    setVfieldVd uv s

/-- VFIELD_LOW: below 19.2 V, or above it again (R560). -/
def vfieldLowFx (supply : Nat) (uv : Int) (s : State) : State := if supply > 1 then s else setSupply supply uv s

/-- Field outputs that are on now. -/
def outputsOn (s : State) : Nat := fioMask s (outOn s)

/-- VFIELD_SAG: below 15.0 V for 2 ms. Field outputs are switched off and latched off; the HOLD cause follows. -/
def vfieldSagFx (supply : Nat) (uv : Int) (s : State) : State :=
  if supply > 1 || uv ≥ 15000000 then s
  else
    let s1 := setSupply supply uv s
    let was := if supply = 0 then s.field.sagIo else s.field.sagVd
    if was.isSome then s1
    else
      let now := s.sys.devTime
      let s2 := onField (fun f => if supply = 0 then { f with sagIo := some (now : Int) } else { f with sagVd := some (now : Int) }) s1
      let on := outputsOn s
      let s3 := (stationsOfType s2 0x41).foldl (fun t n => latchOff n t) s2
      let s4 := if s.sys.ready then note 0x0A21 [supply, mvOf uv, on] s3 else s3
      if watched s then setCause (3 + supply) true s4 else s4

/-- Time below 15.0 V of a sag, ms: from 2 ms before it was confirmed to a moment that no event tells, a free value between the
last time it was known to be below and 100 ms ago (R415; notes/assumptions/152.md). -/
def sagMs (sag lastLow : Int) (s : State) : Nat :=
  let first := (lastLow - (sag - 2000000)).toNat
  let span := ((s.sys.devTime : Int) - 100000000 - lastLow).toNat
  nsMs (first + Config.freeNat s.fresh % (span + 1))

/-- VFIELD_RECOVERED: above 18.0 V for 100 ms. The latches go as their zones resume (R37). -/
def vfieldRecoveredFx (supply : Nat) (uv : Int) (s : State) : State :=
  if supply > 1 || uv ≤ 18000000 then s
  else
    let s1 := setSupply supply uv s
    match (if supply = 0 then s.field.sagIo else s.field.sagVd) with
    | none => s1
    | some t =>
      let s2 := onField (fun f => if supply = 0 then { f with sagIo := none } else { f with sagVd := none }) s1
      let s3 := if s.sys.ready then drawn 1 (note 0x0A22 [supply, sagMs t (if supply = 0 then s.field.lowIoAt else s.field.lowVdAt) s] s2) else s2
      if watched s then setCause (3 + supply) false s3 else s3

/-- VFIELD_VD_CUTOFF: below 10.0 V the high-side switches open (R353). -/
def vfieldVdCutoffFx (uv : Int) (s : State) : State :=
  let s1 := setSupply 1 uv s
  if uv < 10000000 then [0, 1, 2].foldl (fun t b => modBank b (fun k => { k with lowCut := true }) t) s1 else s1

/-- VFIELD_VD_RESTORED: above 12.0 V (R353). -/
def vfieldVdRestoredFx (uv : Int) (s : State) : State :=
  let s1 := setSupply 1 uv s
  if uv > 12000000 then [0, 1, 2].foldl (fun t b => modBank b (fun k => { k with lowCut := false }) t) s1 else s1

/-- VFIELD_IO_NO_SUPPLY: below 10.0 V the field outputs are off (`outOn`) and the inputs invalid (R403). -/
def vfieldIoNoSupplyFx (uv : Int) (s : State) : State := setSupply 0 uv s

/-! The Reservoir (R562–R566). -/

/-- RESERVOIR_ENERGY_UPDATE. -/
def reservoirEnergyUpdateFx (vhold : Int) (s : State) : State := refreshReserve (setVhold vhold s)

/-- RESERVOIR_MEASURED: a measurement under way is complete. In BOOT one is under way from the start. -/
def reservoirMeasuredFx (us : Nat) (vhold : Int) (s : State) : State :=
  if s.power.measuring = 0 || s.power.lastGasp || s.sys.mode = .vault then s else capMeasured us vhold s

/-- RESERVOIR_STEP_DUE: every 24 h of operating time; with a store in progress the measurement waits for its end. -/
def reservoirStepDueFx (s : State) : State :=
  if stepMay s then startStep s else if s.sys.ready then onPower (fun p => { p with stepDue := true }) s else s

/-- RESERVOIR_CHARGE_TIMEOUT. -/
def reservoirChargeTimeoutFx (vhold : Int) (s : State) : State :=
  let s1 := setVhold vhold s
  if s.sys.mode = .vault || vhold ≥ 33000000 || !s.power.charging then refreshReserve s1
  else refreshReserve (noteRom 0x0F23 [2, s.power.capUf, mvOf vhold] (onPower (fun p => { p with resFault := true }) s1))

/-! Temperatures (R573–R575). -/

/-- One sensor's sample. -/
def sampleSensor (i : Nat) (x : TempIn) (s : State) : State :=
  modSensor i (fun k => { k with raw := x.raw, rate := x.slope1s, fast := if x.slope200 ≥ 15000 then k.fast + 1 else 0 }) s

/-- The sample of every sensor. -/
def sampleAll (temps : List TempIn) (s : State) : State :=
  (List.range 14).foldl (fun t i => match temps[i]? with | some x => sampleSensor i x t | none => t) s

/-- TEMP_SAMPLE: readings, the warning, and the trip on rate of rise. -/
def tempSampleFx (temps : List TempIn) (s : State) : State :=
  if !s.sys.ready then s
  else
    let s1 := wearJunction (sampleAll temps s)
    let s2 := match (List.range 14).find? (fun i => warnCause s1 i != 0) with
      | some i =>
        if s1.power.thermalWarn then s1
        else note 0x0F30 [i, warnCause s1 i, treated s1 i, roundDiv (treatedRate s1 i) 10]
          (onPower (fun p => { p with thermalWarn := true, warnSince := s.sys.devTime }) s1)
      | none => s1
    let s3 := if islandUp s2 then refreshTempHot s2 else s2
    match (List.range 14).find? (fun i => !(sensor s3 i).substituted && 2 ≤ (sensor s3 i).fast) with
    | some i => thermalTrip i true (sensor s3 i).raw s3
    | none => s3

/-- THERMAL_WARNING_CLEAR: 10 s below the limits. -/
def thermalWarningClearFx (s : State) : State :=
  if s.power.thermalWarn && allCool s then
    note 0x0F31 [nsMs (s.sys.devTime - s.power.warnSince) / 1000] (onPower (fun p => { p with thermalWarn := false }) s)
  else s

/-- THERMAL_TRIP: by hardware at 135 °C, unless the comparator is masked, or by Evver on rate. -/
def thermalTripFx (i : Nat) (rate : Bool) (mdeg : Int) (s : State) : State :=
  if i > 13 || (sensor s i).substituted || (!rate && mdeg < 135000) then s else thermalTrip i rate mdeg s

/-- Predicted difference of the readings of `i` and `j`. -/
def predicted (pred : List (Nat × Nat × Int)) (i j : Nat) : Int :=
  match pred.find? (fun p => p.1 == i && p.2.1 == j) with
  | some p => p.2.2
  | none => match pred.find? (fun p => p.1 == j && p.2.1 == i) with | some p => -p.2.2 | none => 0

/-- The readings of two neighbours agree with the prediction within 12 K. -/
def agree (s : State) (pred : List (Nat × Nat × Int)) (i j : Nat) : Bool :=
  decide (((sensor s i).raw - (sensor s j).raw - predicted pred i j).natAbs ≤ 12000)

/-- A reading is suspect (R573). -/
def isSuspect (s : State) (pred : List (Nat × Nat × Int)) (i : Nat) : Bool :=
  (neighbours i).all (fun j => !agree s pred i j) &&
    (neighbours i).any (fun j => ((neighbours j).filter (· != i)).all (fun k => agree s pred j k))

/-- A judged sensor: substituted after three suspect readings running, restored after ten that are not. The predicted reading
is the one from its first neighbour (notes/assumptions/47.md). -/
def judgeSensor (pred : List (Nat × Nat × Int)) (i : Nat) (bad : Bool) (s : State) : State :=
  let k := sensor s i
  let n := if bad then k.suspects + 1 else 0
  let g := if bad then 0 else k.goods + 1
  let nb := (neighbours i).headD 0
  let guess : Int := (sensor s nb).raw + predicted pred i nb
  let s1 := modSensor i (fun x => { x with suspect := bad, suspects := n, goods := g }) s
  if !k.substituted && 3 ≤ n then
    note 0x0F33 [i, 1, k.raw, guess] (modSensor i (fun x => { x with substituted := true, fast := 0 }) s1)
  else if k.substituted && 10 ≤ g then note 0x0F33 [i, 2, k.raw, guess] (modSensor i (fun x => { x with substituted := false }) s1)
  else s1

/-- THERMAL_MODEL_CHECK: every 100 ms; each triple is a pair of neighbours and the predicted difference. -/
def thermalModelCheckFx (pred : List (Nat × Nat × Int)) (s : State) : State :=
  if !s.sys.ready then s else (List.range 14).foldl (fun t i => judgeSensor pred i (isSuspect s pred i) t) s

/-! Commands (R580). -/

/-- THERM_TRIP as read: TRIPS_1H counts the last hour (R570). -/
def thermTrips (s : State) : Nat := (s.power.tripTimes.filter (fun (t : Nat) => decide (s.sys.calTime < (t : Int) + 3600000))).length
def thermTripWord (s : State) : Nat := s.power.thermTrip.toNat % 16777216 + thermTrips s * 16777216

/-- PWR_STATUS. -/
def pwrStatusH (_ : Org) (b : List Byte) (s : State) : Res :=
  let p := s.power
  let state := b01 p.warnVlogic + b01 s.field.lowIo * 2 + b01 s.field.lowVd * 4 + b01 p.resFault * 8 + b01 p.below405 * 16 +
    b01 p.charging * 32 + b01 (p.measuring != 0) * 64
  let answer := q4 p.vlogic ++ q4 p.vfieldIo ++ q4 p.vfieldVd ++ q4 p.vhold ++ q4 p.vbat ++ p4 p.capUf ++ p4 (energyMj s) ++
    p4 (committedMj s) ++ p2 (p.stores.filter (fun x => !x.admitted)).length ++ p1 state ++ zeros 1 ++ p4 p.sticky.toNat ++
    p4 p.lastMode.toNat ++ p4 (thermTripWord s)
  if g1 b 0 > 3 || !zeroAt b 1 3 then .done sBADOBJ [] s
  else
    let s1 := if bitOf (g1 b 0) 0 then onPower (fun p => { p with sticky := p.sticky &&& 0x20 }) s else s
    .done sOK answer (if bitOf (g1 b 0) 1 then onPower (fun p => { p with thermTrip := p.thermTrip &&& ~~~0x8000 }) s1 else s1)

/-- One sensor's entry of THERM_STATUS; rates in 0.01 K/s. -/
def sensorEntry (s : State) (i : Nat) : List Byte :=
  let k := sensor s i
  q4 k.raw ++ q2 (sField 2 (roundDiv k.rate 10)) ++
    p1 (b01 k.suspect + b01 k.substituted * 2 + b01 (warnCause s i != 0) * 4 + b01 k.substituted * 8) ++ zeros 1

/-- THERM_STATUS. The lid temperature is a model estimate that the spec does not give: a free value
(notes/assumptions/14.md). -/
def thermStatusH (_ : Org) (_ : List Byte) (s : State) : Res :=
  .done sOK ((List.range 14).flatMap (sensorEntry s) ++ p1 (hottestOf s) ++ p1 (b01 s.power.thermalWarn) ++
    p1 (thermTrips s) ++ zeros 1 ++ p4 (Config.freeNat s.fresh)) (drawn 1 s)

/-- RSV_MEASURE: its commit point is the end of the measurement. -/
def rsvMeasureH (o : Org) (_ : List Byte) (s : State) : Res :=
  if s.power.measuring != 0 || s.power.stores.any (·.admitted) then .done sBUSY [] s
  else if s.power.vhold < 20000000 then .done sNOENERGY [] s
  else .later (startStep (addJob { org := o } s))

def pwrStatusFx := serve 0x0F20 pwrStatusH
def thermStatusFx := serve 0x0F21 thermStatusH
def rsvMeasureFx := serve 0x0F22 rsvMeasureH

end Sys2Proof.Machine
end

