-- ==== Sys2Proof/Machine/ExecPower.lean ====
section
/-! DEFINITION. The meanings of the rows of PowerFx.lean: each row's effect, then what follows every effect. -/

namespace Sys2Proof.Machine

/-- VLOGIC_WARNING (R560). -/
def execVlogicWarning (uv : Int) (s : State) : Out := settle s (vlogicWarningFx uv s)

/-- VLOGIC_WARNING_CLEARED (R560). -/
def execVlogicWarningCleared (uv : Int) (s : State) : Out := settle s (vlogicWarningClearedFx uv s)

/-- VLOGIC_DIP (R567). -/
def execVlogicDip (uv : Int) (s : State) : Out := settle s (vlogicDipFx uv s)

/-- RIDE_THROUGH (R567). -/
def execRideThrough (uv : Int) (durUs : Nat) (s : State) : Out := settle s (rideThroughFx uv durUs s)

/-- LAST_GASP (R568). -/
def execLastGasp (uv : Int) (s : State) : Out := settle s (lastGaspFx uv s)

/-- VAULT_ENTRY (R568). -/
def execVaultEntry (vhold : Int) (s : State) : Out := settle s (vaultEntryFx vhold s)

/-- VLOGIC_RESTORED (R559). -/
def execVlogicRestored (uv : Int) (s : State) : Out := settle s (vlogicRestoredFx uv s)

/-- VBAT_TRIP (R610). -/
def execVbatTrip (s : State) : Out := settle s (vbatTripFx s)

/-- RESERVOIR_MEASURED (R562). -/
def execReservoirMeasured (us : Nat) (vhold : Int) (s : State) : Out := settle s (reservoirMeasuredFx us vhold s)

/-- VFIELD_LOW (R403). -/
def execVfieldLow (supply : Nat) (uv : Int) (s : State) : Out := settle s (vfieldLowFx supply uv s)

/-- VFIELD_SAG (R403). -/
def execVfieldSag (supply : Nat) (uv : Int) (s : State) : Out := settle s (vfieldSagFx supply uv s)

/-- VFIELD_RECOVERED (R403). -/
def execVfieldRecovered (supply : Nat) (uv : Int) (s : State) : Out := settle s (vfieldRecoveredFx supply uv s)

/-- VFIELD_VD_CUTOFF (R353). -/
def execVfieldVdCutoff (uv : Int) (s : State) : Out := settle s (vfieldVdCutoffFx uv s)

/-- VFIELD_VD_RESTORED (R353). -/
def execVfieldVdRestored (uv : Int) (s : State) : Out := settle s (vfieldVdRestoredFx uv s)

/-- VFIELD_IO_NO_SUPPLY (R403). -/
def execVfieldIoNoSupply (uv : Int) (s : State) : Out := settle s (vfieldIoNoSupplyFx uv s)

/-- RESERVOIR_ENERGY_UPDATE (R563). -/
def execReservoirEnergyUpdate (vhold : Int) (s : State) : Out := settle s (reservoirEnergyUpdateFx vhold s)

/-- RESERVOIR_STEP_DUE (R562). -/
def execReservoirStepDue (s : State) : Out := settle s (reservoirStepDueFx s)

/-- RESERVOIR_CHARGE_TIMEOUT (R566). -/
def execReservoirChargeTimeout (vhold : Int) (s : State) : Out := settle s (reservoirChargeTimeoutFx vhold s)

/-- TEMP_SAMPLE (R574). -/
def execTempSample (temps : List TempIn) (s : State) : Out := settle s (tempSampleFx temps s)

/-- THERMAL_MODEL_CHECK (R573). -/
def execThermalModelCheck (pred : List (Nat × Nat × Int)) (s : State) : Out := settle s (thermalModelCheckFx pred s)

/-- THERMAL_WARNING_CLEAR (R574). -/
def execThermalWarningClear (s : State) : Out := settle s (thermalWarningClearFx s)

/-- THERMAL_TRIP (R575). -/
def execThermalTrip (sensor : Nat) (rate : Bool) (mdeg : Int) (s : State) : Out := settle s (thermalTripFx sensor rate mdeg s)

/-- PWR_STATUS (R580). -/
def execPwrStatus (r : Req) (s : State) : Out := settle s (pwrStatusFx r s)

/-- THERM_STATUS (R580). -/
def execThermStatus (r : Req) (s : State) : Out := settle s (thermStatusFx r s)

/-- RSV_MEASURE (R562). -/
def execRsvMeasure (r : Req) (s : State) : Out := settle s (rsvMeasureFx r s)

/-- COIN_CELL_FITTED (R610). -/
def execCoinCellFitted (uv : Int) (s : State) : Out := settle s (coinCellFittedFx uv s)

end Sys2Proof.Machine
end

