-- ==== Sys2Proof/Machine/ExecReam.lean ====
section
/-! DEFINITION. The meanings of the rows of ReamFx.lean: each row's effect, then what follows every effect. -/

namespace Sys2Proof.Machine

/-- REAM_TOKEN_REFILL (R504). -/
def execReamTokenRefill (code : Nat) (s : State) : Out := settle s (reamTokenRefillFx code s)

/-- SUPPRESSION_TIMEOUT (R506). -/
def execSuppressionTimeout (code : Nat) (s : State) : Out := settle s (suppressionTimeoutFx code s)

/-- REGION_TEST_DONE (R510). -/
def execRegionTestDone (fails others : Bool) (s : State) : Out := settle s (regionTestDoneFx fails others s)

/-- REAM_STATUS (R515). -/
def execReamStatus (r : Req) (s : State) : Out := settle s (reamStatusFx r s)

/-- REAM_READ (R515). -/
def execReamRead (r : Req) (s : State) : Out := settle s (reamReadFx r s)

/-- REAM_READ_BULK (R515). -/
def execReamReadBulk (r : Req) (s : State) : Out := settle s (reamReadBulkFx r s)

/-- REAM_READ_BULK_COMPLETE (R515). -/
def execReamReadBulkComplete (side : Side) (sluice tag : Nat) (s : State) : Out := settle s (reamReadBulkCompleteFx side sluice tag s)

/-- REAM_CODE_INFO (R515). -/
def execReamCodeInfo (r : Req) (s : State) : Out := settle s (reamCodeInfoFx r s)

/-- REAM_CHALLENGE (R511). -/
def execReamChallenge (r : Req) (s : State) : Out := settle s (reamChallengeFx r s)

/-- REAM_CLEAR (R511). -/
def execReamClear (r : Req) (s : State) : Out := settle s (reamClearFx r s)

/-- REAM_TIME_SET (R507). -/
def execReamTimeSet (r : Req) (s : State) : Out := settle s (reamTimeSetFx r s)

/-- CLEAR_REFUSAL_END (R511). -/
def execClearRefusalEnd (s : State) : Out := settle s (clearRefusalEndFx s)

end Sys2Proof.Machine
end

