-- ==== Sys2Proof/Machine/StartFx.lean ====
section
/-! DEFINITION. Starts, wakes, resets and restarts: the ROM's choice, the start of Evver, the ends of mode changes,
BOOT-lite (spec/01_one_view.md R33–R49; spec/14_freshet.md R487, R489; spec/15_ream.md R503, R508;
spec/16_fault_absorption.md R524–R529; spec/18_power_reservoir_thermal.md R571, R576; spec/19_electrical.md R594, R595). -/

namespace Sys2Proof.Machine

/-! BOOT (R33, R487, R489, R571). -/

/-- The ROM is at work: BOOT, RST# released, no reset and no last gasp under way. -/
def romRuns (s : State) : Bool :=
  s.sys.mode == .boot && !s.sys.ready && !s.sys.bootLite && !s.sys.rstPin && !s.sys.resetting && !s.power.lastGasp

/-- VBAT is measured, and VLOGIC_LOST passed on and cleared (R570, R571). -/
def romSpring (vbat : Int) (s : State) : State :=
  let lost := s.power.sticky.getLsbD 0
  let s1 := onPower (fun p =>
    { p with
      vbat := vbat, coinCell := 0 < vbat, sprVbat := BitVec.ofNat 16 (mvOf vbat).toNat |>.setWidth 32,
      lostPassed := p.lostPassed ++ [lost] }) s
  let s2 := sticky 0x1 false (if vbat < 2400000 then sticky 0x10 true s1 else s1)
  modAge 1 (fun a => if a.base.isNone then { a with base := some (mvOf vbat).toNat } else a) s2

/-- The self-tests of the cores: both pass, lockstep; one fails, the other runs alone; both fail, none does (R524). -/
def coreTests (core0 core1 : Bool) (s : State) : State :=
  if !core0 && !core1 then onAbsorb (fun a => { a with dead := true }) s
  else
    let was := s.absorb.core
    let now : Nat := if core0 && core1 then 0 else if core0 then 1 else 2
    let s1 := onAbsorb (fun a => { a with dead := false, core := now }) s
    if was = now then s1
    else if now = 0 then noteLater 0x0F53 [] s1
    else
      judgeAge 6 1000000 (noteLater 0x0F52 [now - 1, b01 (!core0) + b01 (!core1) * 2] s1)

/-- A BOOT in TRIAL is counted unless VLOGIC was lost before it; one that finds the limit reached fails the trial
(R487). -/
def countTrial (lost : Bool) (s : State) : State :=
  if s.fsh.state != 5 then s
  else if s.fsh.trialBoots ≥ maxTrialBoots s then failPolicy (trialFails 1 s)
  else
    let n := if lost then s.fsh.trialBoots else s.fsh.trialBoots + 1
    noteLater 0x0D22 [s.fsh.img.kind, s.fsh.img.arb, n] (onFsh (fun f => { f with trialBoots := n, journalBoots := n }) s)

/-- The ROM stays for the resident loader. -/
def loaderStays (s : State) : State := loaderNext (onSys (fun y => { y with norChecked := true, norStay := true }) s)

/-- What the ROM does at BOOT, in the order of R33. DESIGN CHOICE: a recovery request found with an image that fails its check
or its floor is kept for a later BOOT, and RECOVERY has cause 1 or 4 (R92; notes/assumptions/161.md). -/
def romChoice (ok : Bool) (s : State) : State :=
  let j := s.fsh.journal
  if j = 4 || j = 8 then
    let s1 := match (if j = 4 && !s.fsh.backed.isEmpty then loaderBlock s else none) with
      | some b => noteLater 0x0D21 [b] s
      | none => s
    loaderStays s1
  else if !ok then enterRecovery 1 s
  else if (installedImg s 1).arb < floorOf s 1 then enterRecovery 4 s
  else if s.power.recoveryReq then enterRecovery 3 (onPower (fun p => { p with recoveryReq := false }) s)
  else if s.fsh.recoveryCause = 2 || s.fsh.recoveryCause = 5 then enterRecovery s.fsh.recoveryCause s
  else if s.absorb.repairCopy && !s.absorb.norRefresh.isEmpty then loaderStays s
  else onSys (fun y => { y with norChecked := true }) (onFsh (fun f => { f with recoveryCause := 0 }) s)

/-- The thermal-trip hold, or TRIP_LATCH, keeps the device in BOOT (R33; 18_power_reservoir_thermal.md R576, R577). -/
def bootHeld (s : State) : Bool := s.power.tripHold || s.power.sticky.getLsbD 5

/-- NOR_CHECK_DONE: under a hold the result waits for its end. -/
def norCheckDoneFx (ok core0 core1 : Bool) (vbat : Int) (s : State) : State :=
  if !romRuns s || s.sys.norChecked || s.sys.norFound.isSome then s
  else
    let s1 := countTrial (s.power.sticky.getLsbD 0) (coreTests core0 core1 (romSpring vbat s))
    if bootHeld s1 then onSys (fun y => { y with norFound := some ok }) s1 else romChoice ok s1

/-- SUPERVISOR_START: the image is checked, the Reservoir measured, and no hold in force (R35, R576, R594). -/
def supervisorStartFx (s : State) : State :=
  if romRuns s && s.sys.norChecked && !s.sys.norStay && s.sys.resMeasured && !bootHeld s && !s.absorb.dead then
    onSys (fun y => { y with supervisor := true }) s
  else s

/-- What the ROM found under the hold is acted on. -/
def romReleased (s : State) : State :=
  match s.sys.norFound with
  | some ok => romChoice ok (onSys (fun y => { y with norFound := none }) s)
  | none => s

/-- TRIP_HOLD_END: every sensor at or below 105 °C, 10 s since the trip, and TRIP_LATCH clear (R576, R577). -/
def tripHoldEndFx (temps : List Int) (s : State) : State :=
  let held := s.power.springNs - s.power.tripAt
  if !romRuns s || !s.power.tripHold || s.power.sticky.getLsbD 5 || temps.any (fun t => decide (t > 105000)) || held < 10000000000 then s
  else
    let hot := temps.foldl max (temps.headD 0)
    let secs := held / 1000000000
    supervisorStartFx (romReleased (noteLater 0x0F34 [secs, hot] (onPower (fun p => { p with tripHold := false }) s)))

/-! The start of Evver (R41, R82; R503, R508, R525, R571). -/

/-- HOLD causes of a start; no heartbeat is watched yet, and no re-execution runs. -/
def startCauses (s : State) : BitVec 6 :=
  BitVec.ofNat 6 (b01 s.sys.safePin * 2 + b01 s.power.warnVlogic * 4 + b01 s.field.sagIo.isSome * 8 + b01 s.field.sagVd.isSome * 16)

/-- Calendar time as the Spring domain kept it. -/
def springTime (s : State) : State :=
  onSys (fun y =>
    { y with calTime := s.power.springNs / 1000000, calPs := (s.power.springNs % 1000000).toNat * 1000 }) s

/-- After a loss of the Spring domain the calendar starts from the latest record (R508). -/
def springUnknown (s : State) : State :=
  if s.power.sticky.getLsbD 1 && !s.power.springTold then
    let t : Int := match s.ream.ring with | r :: rs => (rs.foldl (fun (a : Rec) x => if seqLe a.seq x.seq then x else a) r).calendar + 1 | [] => 0
    timeSet t 3 0 (onPower (fun p => { p with springTold := true }) s)
  else s

/-- Records lost since Evver last ran, by cause (R503). -/
def tellLost (s : State) : State :=
  let s1 := if s.ream.lostGasp = 0 then s else note 0x0E33 [s.ream.lostGasp, 2] s
  let s2 := if s.ream.lostReset = 0 then s1 else note 0x0E33 [s.ream.lostReset, 3] s1
  onReam (fun m => { m with lostGasp := 0, lostReset := 0 }) s2

/-- The loader's own events: the update group, a block refreshed, and an unabsorbed fault that it met. -/
def loaderCode (code : Nat) : Bool := code / 256 == 0x0D || code == 0x0F72 || code == 0x0F73

/-- A record of the ROM or the loader is made; the loader's own have its actor and the calendar time that the journal kept
(R485; spec/15_ream.md R498; notes/assumptions/156.md). -/
def tellOne (e : Nat × List Int × Int) (s : State) : State :=
  if loaderCode e.1 then
    onSys (fun y => { y with calTime := s.sys.calTime })
      (raiseEv e.1 e.2.1 5 (if e.1 = 0x0F72 then 32 else 0) (onSys (fun y => { y with calTime := e.2.2 })
        (if e.1 = 0x0F72 then onAbsorb (fun a => { a with lastFault := e.1, faultActive := true }) s else s)))
  else note e.1 e.2.1 s

/-- The records of the ROM and the loader, in their order. -/
def tellLoader (s : State) : State :=
  onFsh (fun f => { f with loaderRecs := [] }) (s.fsh.loaderRecs.foldl (fun t e => tellOne e t) s)

/-- An event that the Spring domain saw (spec/15_ream.md R498). -/
def noteSpring (code : Nat) (fields : List Int) (s : State) : State := raiseEv code fields 4 0 s

/-- A ridden-through dip found in SPR_STICKY is recorded now (R571). -/
def tellRideThrough (s : State) : State :=
  if s.power.sticky.getLsbD 2 then sticky 0x4 false (noteSpring 0x0F27 [0, mvOf s.power.vhold] s) else s

/-- The Spring registers and the summary of the last gasp (R571). -/
def tellSpring (s : State) : State :=
  let s1 := s.power.gaspSummary.foldl (fun t e => noteSpring 0x0F21 [e.1, e.2.1, e.2.2.1, e.2.2.2] t)
    (onPower (fun p => { p with gaspSummary := [] }) s)
  let s2 := if s.power.sticky.getLsbD 1 then noteSpring 0x0F26 [] s1 else s1
  let s3 := if s.power.sticky.getLsbD 4 then noteSpring 0x0F25 [s.power.sprVbat.toNat] s2 else s2
  let s4 := s.power.tripUnrecorded.foldl (fun t e =>
    raiseEv 0x0F32 [(e.1 : Int), (e.2.1 : Int), e.2.2.1, (e.2.2.2 : Int)] 4 32
      (onAbsorb (fun a => { a with lastFault := 0x0F32, faultActive := true }) t)) (tellRideThrough s3)
  onPower (fun p => { p with tripUnrecorded := [], lostPassed := [] }) s4

/-- A watchdog restart is recorded, and the passage it made (R49, R525). -/
def tellWatchdog (s : State) : State :=
  match s.absorb.watchdogAt with
  | none => s
  | some t =>
    noteFault 0x0F55 [t] (note 0x0010 [s.absorb.watchdogMode, 1, 0x16, 0] (onAbsorb (fun a => { a with watchdogAt := none }) s))

/-- Frames that came while HRDY was low (spec/02_sluices.md R57). -/
def tellNotReady (s : State) : State :=
  if s.hifSpi.notReady then hifErr .spi 5 (modHif .spi (fun h => { h with notReady := false }) s) else s

/-- What runs from a start on: network, buses, coils, clocks and the sluices S0. -/
def startWorks (s : State) : State :=
  let locks : Nat := 7 - s.clk.coastPlls % 8
  let word : Nat := locks + b01 s.clk.coastSince.isSome * 0x20 + b01 (pllDown s 0) * 0x40 + b01 (!s.clk.rtcFailed) * 0x80
  let s1 := tellCoast <| onClk (fun c => { c with state := BitVec.ofNat 32 word }) (sagLatch (startInputs (clearMask (coilsStart (busStart (networkApplied s))))))
  let s2 := onAbsorb (fun a => { a with checkA := s.sys.devTime, checkB := s.sys.devTime }) (openS0 .app (openS0 .spi s1))
  let s3 := floorOwed s2
  if s3.absorb.repairCopy then s3 else startRepairCopy s3

/-- The mode of a start (R33): COMMISSION without a configuration, HOLD under a cause, else RUN. -/
def startMode (s : State) : State :=
  let cause := s.sys.targetCause
  let c := startCauses s
  let s1 := onPower (fun p => { p with noAutostart := if cause = 0x15 then List.range 16 else [] }) (onSys (fun y => { y with holdCauses := c }) s)
  if s.cfg.generation = 0 then enterCommission cause s1
  else if c = 0 then enterRun cause 0 s1
  else enterHold (lowestCause c) 0 s1

/-- EVVER_READY: HRDY rises. -/
def evverReadyFx (s : State) : State :=
  if !romRuns s || !s.sys.supervisor then s
  else
    let s1 := springUnknown (springTime (onSys (fun y => { y with ready := true }) s))
    let s2 := tellWatchdog (tellSpring (tellLoader (tellLost s1)))
    let s3 := startWorks (tellLostTxn (chooseConfig s2))
    placeSamples (refreshReserve (tellNotReady (startMode s3)))

/-! Mode changes in progress (R34, R43). -/

def zonesQuiet (s : State) : Bool := (zonesOn s).all (fun z => let q := (zone s z).st; q == 0 || q == 4 || q == 5)

/-- The queue can be written, which ICE asks for first (R31, R503; notes/assumptions/129.md). -/
def iceReady (s : State) : Bool := canStore .reamRecord (finishStores 400 s)

/-- The sides that may have a command outstanding. -/
def askingSides (s : State) : List Side :=
  ([Side.spi, .app] ++ s.mail.sluices.filterMap (fun e => e.2.owner) ++ s.mail.jobs.map (fun j => j.org.side)).eraseDups

/-- What is outstanding has its final answer before the sluices go: a reset is the only exception (02_sluices.md R64, R77, R92;
notes/assumptions/102.md). -/
def endEverything (s : State) : State := (askingSides s).foldl (fun t d => endOutstanding d t) s

/-- ICE: outputs and buses off, the queue written, the supervisor stops (R44, R49, R397, R442). -/
def enterIce (s : State) : State :=
  let s1 := flushQueue 1100 0 (ptpStops (setMode .ice 0x10 0 (finishStores 400 (endEverything s))))
  let s2 := allStale (onNet (fun n => { n with applied := false, blocked := [] }) (linksReset (busOff (outputsOff (hbStop s1)))))
  onPower (fun p => { p with iceAt := p.springNs, iceNs := 0 }) (onIsland (fun i => { i with running := false })
    (islandSramLost (onSys (fun y => { y with ready := false, appRunning := false }) s2)))

/-- A requested change, or a wake, is complete; a change whose condition no longer holds is dropped, as is a requested one that
would overtake a transaction opened since (03_configuration.md R113; notes/assumptions/130.md, 136.md). -/
def modeChangeCompleteFx (s : State) : State :=
  let drop := onSys (fun y => { y with target := none, targetCause := 0, targetWake := 0 }) s
  if s.cfg.txn.isSome && s.sys.targetCause = 0x10 then drop
  else match s.sys.mode, s.sys.target with
  | _, none => s
  | .commission, some .run =>
    let s1 := leaveCommission s
    if s.sys.holdCauses = 0 then enterRun 0x10 0 s1 else enterHold 0x10 0 s1
  | .still, some .run => enterRun 0x13 s.sys.targetWake s
  | .run, some .commission => if zonesQuiet s then enterCommission 0x10 s else drop
  | .hold, some .commission => if zonesQuiet s then enterCommission 0x10 s else drop
  | .run, some .still => if zonesIdle s then enterStill 0x10 s else drop
  | .run, some .ice => if !zonesIdle s then drop else if iceReady s then enterIce s else s
  | _, some .boot => s
  | _, some _ => drop

/-! Wakes (R44, R45). -/

/-- What ICE lasted, as the Spring domain counts it at 32.768 kHz: ns, rounded down to a multiple of 40
(17_clocks.md R550). -/
def iceDuration (t0 t1 : Int) : Nat :=
  let clocks : Int := t1 * 32768 / 1000000000 - t0 * 32768 / 1000000000
  clocks.toNat * 1000000000 / 32768 / 40 * 40

/-- A wake source in STILL or ICE. -/
def wake (src : Nat) (s : State) : State :=
  match s.sys.mode with
  | .still => wakeFrom src s
  | .ice => if s.power.lastGasp || s.sys.resetting then s
      else onPower (fun p => { p with iceNs := iceDuration p.iceAt p.springNs })
        (onSys (fun y => { y with mode := .boot, bootLite := true, targetWake := src }) s)
  | _ => s

/-- WAKE_PIN. -/
def wakePinFx (level : Bool) (s : State) : State :=
  let s1 := onSys (fun y => { y with wakePin := level }) s
  if level then wake 6 s1 else s1

/-- WAKE_TIMER: still_wake_ms has passed. -/
def wakeTimerFx (s : State) : State := if g4 (device s) 4 = 0 then s else wake 5 s

/-- What the frost island saw on a bus wakes as configured (R442). -/
def frostWakes (s : State) (bus : Nat) (w : BusWake) : Bool :=
  let b := chBody s bus
  bus < 2 && bitOf (wakeBus s) bus &&
    (match w with
      | .frame ident dlc data =>
        bitOf (wakeBus s) 2 && identExt (g4 b 44) == identExt ident &&
          (identBits ident ^^^ identBits (g4 b 44)) &&& g4 b 48 == 0 && dlc == g1 b 41 &&
          (List.range 8).any (fun i => g1 b (52 + i) &&& g1 data i != 0)
      | _ => !bitOf (wakeBus s) 2)

/-- FROST_BUS_WAKE. -/
def frostBusWakeFx (bus : Nat) (w : BusWake) (s : State) : State :=
  if s.sys.mode = .ice && frostWakes s bus w then wake 1 s else s

/-- FROST_FIELD_WAKE. -/
def frostFieldWakeFx (fio : Nat) (s : State) : State := if s.sys.mode = .ice && wakeFio s fio then wake 2 s else s

/-- Sluices, sessions, transaction, grant and handshakes are lost as at BOOT (R47). A notice that still waited keeps waiting for
a notice sluice (02_sluices.md R77). -/
def liteLosses (s : State) : State :=
  let s1 := closeSessions 5 s
  let s2 := onCfg cfgBoot (endLock 4 s1)
  let s3 := onFsh (fun f =>
    { f with partials := [], grantHeld := false, grantKinds := 0, notBefore := 0, notAfter := 0, shakes := [] }) s2
  let s4 :=
    { s3 with
      hifSpi := { notReady := s3.hifSpi.notReady }
      hifApp := {}
      mail := { udpOut := s3.mail.udpOut, notices := s3.mail.notices } }
  onNet (fun n => { key := n.key, mac := n.mac, sent := n.sent, ports := n.ports, sessionNext := n.sessionNext, ptpMaster := n.ptpMaster, ptpOffset := n.ptpOffset })
    (onBus (fun b => { b with subs := [], queues := [] }) s4)

/-- VLOGIC as the monitor finds it after ICE (R41, R560). -/
def vlogicNow (s : State) : State :=
  let low := decide (s.power.vlogic < 17000000) || (s.power.warnVlogic && decide (s.power.vlogic ≤ 17500000))
  let s1 := onPower (fun p => { p with warnVlogic := low }) s
  if low && !s.power.warnVlogic then note 0x0F20 [1, mvOf s.power.vlogic] s1 else s1

/-- BOOT_LITE_COMPLETE: time goes on by the ICE duration, every felt has jumped, and RUN or HOLD is entered (R45, R47,
R550). -/
def bootLiteCompleteFx (s : State) : State :=
  if !s.sys.bootLite || s.sys.mode != .boot || s.sys.rstPin || s.sys.resetting || s.power.lastGasp then s
  else
    let ns := s.power.iceNs
    let src := s.sys.targetWake
    let before := s.sys.devTime / 1000
    let s1 := springTime
      (onSys (fun y => { y with devTime := y.devTime + ns, ready := true, bootLite := false, mode := .ice, autoDue := true }) s)
    let s2 := startWorks (tellLostTxn (tellRideThrough (vlogicNow (liteLosses (tellLoader s1)))))
    let us : Nat := s1.sys.devTime / 1000 - before
    let s3 := unknownJumps (jumpFelt 3 0 us 2 s2)
    let c := startCauses s3
    let s4 := onSys (fun y => { y with holdCauses := c }) s3
    placeSamples (refreshReserve (tellNotReady (if c = 0 then enterRun 0x13 src s4 else enterHold 0x13 src s4)))

/-! Resets (R595, R92). -/

/-- The reset sequence begins: the outputs go off first. -/
def beginReset (s : State) : State :=
  resetOff (onSys (fun y =>
    { y with resetting := true, target := some .boot, targetCause := 0, targetWake := 0, resetDue := none })
    (lastMode 4 (noteBoot 0x11 s)))

/-- TRIP_LATCH and the count of trips start again (R577). -/
def tripsForgotten (s : State) : State :=
  sticky 0x20 false (onPower (fun p => { p with tripTimes := [], thermTrip := p.thermTrip &&& 0x00FFFFFF }) s)

/-- RST_ASSERTED: ignored in last gasp. -/
def rstAssertedFx (s : State) : State :=
  let s1 := onSys (fun y => { y with rstPin := true }) s
  if s.sys.mode = .vault || s.power.lastGasp then s1
  else if s.sys.resetting then tripsForgotten s1 else beginReset (tripsForgotten s1)

/-- INTERNAL_RESET. -/
def internalResetFx (s : State) : State := if s.sys.resetting && !s.power.lastGasp then linksReset (resetNow s) else s

/-- RST_RELEASED. -/
def rstReleasedFx (s : State) : State := onSys (fun y => { y with rstPin := false }) s

/-- SYS_RESET_START. -/
def sysResetStartFx (s : State) : State :=
  if s.sys.resetDue.isSome && served s && !s.sys.resetting && !s.power.lastGasp then beginReset s else s

/-- WATCHDOG_EXPIRED: the hardware keeps the mode, and restarts the device; the queue is lost (R503, R525). -/
def watchdogExpiredFx (s : State) : State :=
  if !watched s || s.power.lastGasp then s
  else
    let s1 := lastMode 3 (resetOff s)
    let s2 := onAbsorb (fun a => { a with watchdogAt := some a.checkA, watchdogMode := modeCode s.sys.mode }) s1
    bootReset (queueLost (finishStores 400 s2))

/-! SAFE# (R36). -/

def safeAssertedFx (s : State) : State :=
  let s1 := onSys (fun y => { y with safePin := true }) s
  if watched s then setCause 1 true s1 else s1

def safeReleasedFx (s : State) : State :=
  let s1 := onSys (fun y => { y with safePin := false }) s
  if watched s then setCause 1 false s1 else s1

/-! Errors found on a read (R526–R529). -/

/-- A DRAM error of the supervisor: the other copy is read; the second in one page retires it. -/
def dramError (mem addr : Nat) (s : State) : State :=
  let k := pageKey mem (addr / 4096)
  let n := (tfind s.absorb.pageErrors k).getD 0 + 1
  if 2 ≤ n then retirePage mem (addr / 4096) s else onAbsorb (fun a => { a with pageErrors := tset a.pageErrors k n }) s

/-- An error in the window of a sluice: a held request ends, an answer is rewritten. -/
def sluiceError (addr : Nat) (s : State) : State :=
  let key := addr / 32768
  let s1 := absorbed 3 addr 2 s
  match tfind s.mail.sluices key with
  | none => s1
  | some sl =>
    match sl.owner, sl.held with
    | some d, some q => endHeld d (if key < 16 then key else 0) q sBADOBJ s1
    | _, _ => s1

/-- An error in the MRAM: the recorder, a configuration slot, or what is kept twice (notes/assumptions/48.md). -/
def mramError (addr : Nat) (bothLost : Bool) (s : State) : State :=
  let spoil (b : Bool) (t : State) : State :=
    let x := cfgSlot t b
    putCfgSlot b { x with crc := w32 (slotCrc x + 1) } t
  if addr < 8388608 then divert 1 addr s
  else if addr < 8388608 + 262144 then spoil false s
  else if addr < 8388608 + 524288 then spoil true s
  else if bothLost then unabsorbed 5 addr s
  else absorbed 5 addr 1 s

/-- Blocks of the staging slot, which is large enough for the largest image (spec/14_freshet.md R472, R476). -/
def slotBlocks : Nat := 4096

/-- An error in the NAND: a staging block is received again; behind the blocks of the slot stands the parcel history, of which
one record is lost and counted (notes/assumptions/157.md). -/
def nandError (addr : Nat) (s : State) : State :=
  let b := addr / 65536
  if slotBlocks ≤ b then
    absorbed 6 addr 4 (onFelt (fun f => { f with history := f.history.eraseIdx ((addr - slotBlocks * 65536) / 64) }) s)
  else absorbed 6 addr 3 (if s.fsh.state = 1 && s.fsh.marked.contains b then
    onFsh (fun f => { f with marked := f.marked.filter (· != b), staged := tdel f.staged b, partials := tdel f.partials b }) s
  else s)

/-- An error in a receive ring: the frame is discarded as an overrun. -/
def ringError (addr : Nat) (s : State) : State :=
  modCh (addr / 1024 % 4) (fun k =>
    if addr % 1024 < k.ring.length then { k with ring := k.ring.eraseIdx (addr % 1024), overruns := w32 (k.overruns + 1) } else k) s

/-- ECC_ERROR. -/
def eccErrorFx (mem addr : Nat) (corrected bothLost : Bool) (s : State) : State :=
  if !s.sys.ready then s
  else if corrected then note 0x0F70 [mem, if mem ≤ 1 then addr / 4096 else addr, 1] (countFix mem 1 s)
  else match mem with
    | 0 => dramError 0 addr (if bothLost then unabsorbed 0 addr s else absorbed 0 addr 1 s)
    | 1 => dramError 1 addr (unabsorbed 1 addr (onSys (fun y => { y with busError := true, appData := [] }) s))
    | 2 => lockstepMismatch none true true s
    | 3 => sluiceError addr s
    | 4 =>
      let s1 := unabsorbed 4 addr (onAbsorb (fun a => { a with norRefresh := a.norRefresh.filter (· != addr / 262144) ++ [addr / 262144] }) s)
      restartFor 0x11 4 s1
    | 5 => mramError addr bothLost s
    | 6 => nandError addr s
    | _ => ringError addr s

end Sys2Proof.Machine
end

