-- ==== Sys2Proof/Machine/ExecStart.lean ====
section
/-! DEFINITION. The meanings of the rows of StartFx.lean: each row's effect, then what follows every effect. -/

namespace Sys2Proof.Machine

/-- SYS_RESET_START (R92). -/
def execSysResetStart (s : State) : Out := settle s (sysResetStartFx s)

/-- SAFE_ASSERTED (R36). -/
def execSafeAsserted (s : State) : Out := settle s (safeAssertedFx s)

/-- SAFE_RELEASED (R36). -/
def execSafeReleased (s : State) : Out := settle s (safeReleasedFx s)

/-- RST_ASSERTED (R595). -/
def execRstAsserted (s : State) : Out := settle s (rstAssertedFx s)

/-- INTERNAL_RESET (R595). -/
def execInternalReset (s : State) : Out := settle s (internalResetFx s)

/-- RST_RELEASED (R33). -/
def execRstReleased (s : State) : Out := settle s (rstReleasedFx s)

/-- NOR_CHECK_DONE (R33). -/
def execNorCheckDone (ok : Bool) (core0 core1 : Bool) (vbat : Int) (s : State) : Out := settle s (norCheckDoneFx ok core0 core1 vbat s)

/-- SUPERVISOR_START (R594). -/
def execSupervisorStart (s : State) : Out := settle s (supervisorStartFx s)

/-- EVVER_READY (R82). -/
def execEvverReady (s : State) : Out := settle s (evverReadyFx s)

/-- MODE_CHANGE_COMPLETE (R34). -/
def execModeChangeComplete (s : State) : Out := settle s (modeChangeCompleteFx s)

/-- WAKE_PIN (R44). -/
def execWakePin (level : Bool) (s : State) : Out := settle s (wakePinFx level s)

/-- WAKE_TIMER (R44). -/
def execWakeTimer (s : State) : Out := settle s (wakeTimerFx s)

/-- FROST_BUS_WAKE (R442). -/
def execFrostBusWake (bus : Nat) (w : BusWake) (s : State) : Out := settle s (frostBusWakeFx bus w s)

/-- FROST_FIELD_WAKE (R397). -/
def execFrostFieldWake (fio : Nat) (s : State) : Out := settle s (frostFieldWakeFx fio s)

/-- BOOT_LITE_COMPLETE (R45). -/
def execBootLiteComplete (s : State) : Out := settle s (bootLiteCompleteFx s)

/-- WATCHDOG_EXPIRED (R525). -/
def execWatchdogExpired (s : State) : Out := settle s (watchdogExpiredFx s)

/-- ECC_ERROR (R528). -/
def execEccError (memory addr : Nat) (corrected bothLost : Bool) (s : State) : Out := settle s (eccErrorFx memory addr corrected bothLost s)

/-- TRIP_HOLD_END (R576). -/
def execTripHoldEnd (temps : List Int) (s : State) : Out := settle s (tripHoldEndFx temps s)

end Sys2Proof.Machine
end

