-- ==== Sys2Proof/Machine/StoreFx.lean ====
section
/-! DEFINITION. Stores and the energy they need (spec/18_power_reservoir_thermal.md R563, R565; spec/16_fault_absorption.md
R530). -/

namespace Sys2Proof.Machine

/-- STORE_ADMITTED (R565). -/
def storeAdmittedFx (s : State) : State := admitWaiting s.power.stores.length s

/-- STORE_WRITE_DONE (R530). With the journal of an EVVER activation written the device passes into BOOT (spec/14_freshet.md
R485, R488, R491). -/
def storeWriteDoneFx (i : Nat) (ok : Bool) (offset : Nat) (s : State) : State :=
  restartWanted (stepWaiting (storeWrite i ok offset s))

end Sys2Proof.Machine
end

