-- ==== Sys2Proof/Machine/ExecStore.lean ====
section
/-! DEFINITION. The meanings of the rows of StoreFx.lean: each row's effect, then what follows every effect. -/

namespace Sys2Proof.Machine

/-- STORE_ADMITTED (R565). -/
def execStoreAdmitted (s : State) : Out := settle s (storeAdmittedFx s)

/-- STORE_WRITE_DONE (R530). -/
def execStoreWriteDone (index : Nat) (ok : Bool) (offset : Nat) (s : State) : Out := settle s (storeWriteDoneFx index ok offset s)

end Sys2Proof.Machine
end

