-- ==== Sys2Proof/Machine/SysFx.lean ====
section
/-! DEFINITION. Heartbeat and the SYS commands (spec/02_sluices.md R77–R80, R86–R95). -/

namespace Sys2Proof.Machine

/-! Heartbeat (R79, R80). -/

def hbWatched (s : State) (d : Side) : Bool := s.hb.enable && s.hb.sides.contains d
def hbLost (s : State) (d : Side) : Bool := s.hb.lost.any (fun e => e.1 == d)

/-- A side's timer starts again with its full timeout. -/
def hbRestart (d : Side) (s : State) : State :=
  if s.hb.running && hbWatched s d && !hbLost s d then
    onHb (fun h =>
      { h with
        started := (d, s.sys.devTime) :: h.started.filter (fun e => e.1 != d), warned := h.warned.filter (· != d) }) s
  else s

/-- A lost side is lost no more; the last one clears the cause. -/
def hbRestored (d : Side) (s : State) : State :=
  match s.hb.lost.find? (fun e => e.1 == d) with
  | none => s
  | some (_, t) =>
    let s1 := onHb (fun h => { h with lost := h.lost.filter (fun e => e.1 != d) }) s
    let s2 := note 0x0021 [sideCode d, nsMs (s.sys.devTime - t)] s1
    if s2.hb.lost.isEmpty then setCause 0 false s2 else s2

/-- A side's timer runs: in RUN and HOLD, once started (R79). -/
def hbRuns (s : State) (d : Side) : Bool :=
  s.hb.running && hbWatched s d && !hbLost s d && s.hb.started.any (fun e => e.1 == d)

/-- HB_WARN: at 75 % of a timeout. -/
def hbWarnFx (d : Side) (s : State) : State :=
  if hbRuns s d && !s.hb.warned.contains d then
    modHif d (fun h => { h with irqStatus := h.irqStatus ||| 0x20000000 }) (onHb (fun h => { h with warned := d :: h.warned }) s)
  else s

/-- HEARTBEAT_LOST. -/
def heartbeatLostFx (d : Side) (s : State) : State :=
  if hbRuns s d then
    setCause 0 true (note 0x0020 [sideCode d, s.hb.timeoutMs] (onHb (fun h =>
      { h with lost := (d, s.sys.devTime) :: h.lost, started := h.started.filter (fun e => e.1 != d) }) s))
  else s

/-- SYS_HEARTBEAT (R88). -/
def sysHeartbeatH (o : Org) (b : List Byte) (s : State) : Res :=
  .done sOK (b ++ zeros 4 ++ p8 s.sys.devTime) (hbRestart o.side (hbRestored o.side s))

/-- SYS_HEARTBEAT_CONFIG (R95). Bit 2 names the requesting session. DESIGN CHOICE: from the SPI and the application side,
which have none, the bit names nobody and is ignored (notes/assumptions/132.md). -/
def sysHeartbeatConfigH (o : Org) (b : List Byte) (s : State) : Res :=
  let on := g1 b 0
  let mask := g1 b 1
  let ms := g4 b 4
  if on > 1 || mask ≥ 8 || !zeroAt b 2 2 || ms < 50 || ms > 60000 then .done sBADOBJ [] s
  else
    let own : List Side := match o.side with | .udp n => if bitOf mask 2 then [.udp n] else [] | _ => []
    let sides : List Side := (if bitOf mask 0 then [.spi] else []) ++ (if bitOf mask 1 then [.app] else []) ++ own
    let s1 := onHb (fun h => { h with enable := on = 1, sides := sides, timeoutMs := ms }) s
    let gone := (s.hb.lost.map (·.1)).filter (fun d => !hbWatched s1 d)
    .done sOK [] (sides.foldl (fun t d => hbRestart d t) (gone.foldl (fun t d => hbRestored d t) s1))

/-! Status and identity (R87, R91, R94). -/

def sysStatusH (_ : Org) (_ : List Byte) (s : State) : Res :=
  .done sOK (statusHead s ++ p2 s.absorb.lastFault ++ p1 (b01 s.island.sealPin + b01 s.sys.legal * 2) ++ zeros 1 ++
    p8 s.sys.devTime ++ q8 s.sys.calTime ++ p2 s.ream.epoch ++ p2 (eolDays s) ++ p4 (w32 (s.ream.nextSeq + 4294967295)) ++
    p4 (energyMj s) ++ zeros 4) s

def sysIdentifyH (_ : Org) (_ : List Byte) (s : State) : Res :=
  .done sOK (orderCode s ++ p8 s.sys.serial ++ p1 0xB1 ++ p1 0x02 ++ fit 3 ((evverVersion s).flatMap p1) ++
    (if !s.island.linkUp then zeros 3 else fit 3 ((wmVersion s).flatMap p1))) s

/-- One entry of SYS_SLUICE_INFO. -/
def sluiceEntry (d : Side) (s : State) (n : Nat) : List Byte :=
  match tfind s.mail.sluices (slKey d n) with
  | some sl => match sl.owner with
    | some x => p1 (sideCode x) ++ p1 sl.sizeKib ++ p1 (slCode sl.st) ++ p1 sl.role
    | none => zeros 4
  | none => zeros 4

def sysSluiceInfoH (o : Org) (_ : List Byte) (s : State) : Res :=
  .done sOK ((List.range 16).flatMap (sluiceEntry o.side s)) s

/-! Abort (R77, R78, R89). -/

/-- A command whose notice waits for its sluice has passed its commit point, or failed; its final answer is not yet placed
(R78; notes/assumptions/127.md). -/
def abortNotice (d : Side) (n tag : Nat) (s : State) : Nat × State :=
  let mine (q : Notice) : Bool := q.side == d && q.sluice == n && q.tag == tag
  match s.mail.notices.find? mine with
  | none => (2, s)
  | some q =>
    let full := q.status = sOK || q.status = sCBA || q.status = sDEFERRED
    let st := if q.status = sOK then sCBA else if full then q.status else sABORTED
    (if full then 1 else 0, onMail (fun m => { m with notices := m.notices.map (fun x => if mine x then { x with status := st } else x) }) s)

/-- The target of a command abort, and its outcome (R78). -/
def abortCommand (d : Side) (n tag : Nat) (s : State) : Nat × State :=
  match ownSluice s d n with
  | none => (2, s)
  | some sl =>
    match (match sl.held with | some q => if q.tag = tag then some q else none | none => none) with
    | some q => (0, endHeld d n q sABORTED s)
    | none =>
      match s.mail.jobs.find? (fun j => j.org.side == d && j.org.sluice == n && j.org.tag == tag) with
      | none => abortNotice d n tag s
      | some j => if j.committed then (1, modJob j.org (fun x => { x with abortSeen := true }) s) else (0, abortJob j s)

def sysAbortH (o : Org) (b : List Byte) (s : State) : Res :=
  let kind := g1 b 0
  let n := g1 b 1
  let t := g2 b 2
  if kind > 1 || n > 15 || (kind = 1 && (n != 0 || t > 15)) then .done sBADOBJ [] s
  else
    let (r, s1) := if kind = 1 then ((3 : Nat), abortZone t s) else abortCommand o.side n t s
    .done sOK (p1 r ++ zeros 3) (noteBy o.side 0x0022 [kind, n, t, r] s1)

/-! Modes and resets (R34, R42, R90, R92, R113). -/

/-- An accepted change is in progress (R34), as a reset is from its OK on (R92). -/
def requested (m : Mode) (s : State) : Res :=
  .done sOK [] (onSys (fun y => { y with target := some m, targetCause := 0x10, targetWake := 0 }) s)

def sysModeRequestH (_ : Org) (b : List Byte) (s : State) : Res :=
  if !zeroAt b 1 3 then .done sBADOBJ [] s
  else if s.sys.target.isSome then .done sBUSY [] s
  else if s.cfg.txn.isSome then .done sWRONGMODE [] s
  else match s.sys.mode, g1 b 0 with
    | .run, 4 => if s.sys.safePin then .done sWRONGMODE [] s else .done sOK [] (zonesAck s)
    | .commission, 4 => if s.sys.safePin || s.cfg.generation = 0 then .done sWRONGMODE [] s else requested .run s
    | .run, 3 => if zonesQuiet s then requested .commission s else .done sWRONGMODE [] s
    | .hold, 3 => if zonesQuiet s then requested .commission s else .done sWRONGMODE [] s
    | .run, 6 => if zonesIdle s then requested .still s else .done sWRONGMODE [] s
    | .run, 7 => if zonesIdle s then requested .ice s else .done sWRONGMODE [] s
    | _, _ => .done sWRONGMODE [] s

def sysResetH (_ : Org) (b : List Byte) (s : State) : Res :=
  let t := g1 b 0
  if t > 1 || !zeroAt b 1 3 then .done sBADOBJ [] s
  else
    let s1 := if t = 1 then onPower (fun p => { p with recoveryReq := true }) s else s
    .done sOK [] (onSys (fun y => { y with resetDue := some t, target := some .boot, targetCause := 0, targetWake := 0 }) s1)

/-! Sluices (R61, R93). -/

/-- KiB of sluice SRAM that the SPI side and the application use, without sluice `n`. -/
def sramKib (s : State) (n : Nat) : Nat :=
  s.mail.sluices.foldl (fun a e =>
    if e.1 ≥ 16 || e.1 == n then a
    else match e.2.owner with | some (.udp _) => a | some _ => a + e.2.sizeKib | none => a) 0

def isSession : Side → Bool
  | .udp _ => true | _ => false

/-- SYS_SLUICE_SETUP (R93). DESIGN CHOICE: a claim of a sluice that the side owns sets it up anew where the rows allow it, and
0x0024 carries the request's own size and role, on a release too (notes/assumptions/133.md). -/
def sysSluiceSetupH (o : Org) (b : List Byte) (s : State) : Res :=
  let n := g1 b 0
  let act := g1 b 1
  let size := g1 b 2
  let role := g1 b 3
  let d := o.side
  let sl := tget s.mail.sluices n
  let sizeBad := size = 0 || size > 32 || (isSession d && size != 1)
  let second := act = 1 && role = 1 && (match noticeSluice s d with | some m => m != n | none => false)
  if n = 0 || n > 15 || act > 1 || role > 1 then .done sBADOBJ [] s
  else if (sl.owner.isSome && sl.owner != some d) || sizeBad || second then .done sBADOBJ [] s
  else if act = 0 && sl.owner.isNone then .done sOK [] s
  else if sl.owner.isSome && (sl.st != .idle || sl.held.isSome ||
      s.mail.jobs.any (fun j => j.org.side == d && j.org.sluice == n) ||
      s.mail.notices.any (fun q => q.side == d && q.sluice == n)) then .done sBUSY [] s
  else if act = 1 && !isSession d && sramKib s n + size > 254 then .done sLIMIT [] s
  else
    let s1 := noteBy d 0x0024 [sideCode d, n, act, size, role] s
    if act = 0 then .done sOK [] (onMail (fun m => { m with sluices := tdel m.sluices n }) s1)
    else
      let s2 := onMail (fun m => { m with sluices := tset m.sluices n { owner := some d, sizeKib := size, st := .idle, role := role } }) s1
      .done sOK [] (if role = 1 then postQueued d s2 else s2)

def sysStatusFx := serve 0x0001 sysStatusH
def sysHeartbeatFx := serve 0x0002 sysHeartbeatH
def sysAbortFx := serve 0x0003 sysAbortH
def sysModeRequestFx := serve 0x0004 sysModeRequestH
def sysIdentifyFx := serve 0x0005 sysIdentifyH
def sysResetFx := serve 0x0006 sysResetH
def sysSluiceSetupFx := serve 0x0007 sysSluiceSetupH
def sysSluiceInfoFx := serve 0x0008 sysSluiceInfoH
def sysHeartbeatConfigFx := serve 0x0009 sysHeartbeatConfigH

/-! The end of re-execution (spec/16_fault_absorption.md R522). -/

/-- What waited in the buffer of the device port (spec/13_line_uplink.md R455). -/
def hearLate (w : Waiting) (s : State) : State := if devicePort s then hear w.frame s else s

/-- The frames that waited are heard, the higher queue first, each in order (R453). -/
def hearAll (s : State) : State :=
  ([3, 2, 1, 0].flatMap (fun q => s.net.late.filter (fun w => w.queue == q))).foldl (fun t w => hearLate w t)
    (onNet (fun n => { n with late := [] }) s)

/-- REEXECUTION_COMPLETE (R522); what does not re-execute, as dead cores or after last gasp, completes nothing. -/
def reexecutionCompleteFx (suppressed : Nat) (s : State) : State :=
  if !s.absorb.reexecuting || s.absorb.dead || s.power.lastGasp then s else hearAll (reexecutionEnds suppressed s)

end Sys2Proof.Machine
end

