-- ==== Sys2Proof/Machine/ExecSys.lean ====
section
/-! DEFINITION. The meanings of the rows of SysFx.lean: each row's effect, then what follows every effect. -/

namespace Sys2Proof.Machine

/-- HB_WARN (R80). -/
def execHbWarn (side : Side) (s : State) : Out := settle s (hbWarnFx side s)

/-- HEARTBEAT_LOST (R80). -/
def execHeartbeatLost (side : Side) (s : State) : Out := settle s (heartbeatLostFx side s)

/-- SYS_STATUS (R87). -/
def execSysStatus (r : Req) (s : State) : Out := settle s (sysStatusFx r s)

/-- SYS_HEARTBEAT (R88). -/
def execSysHeartbeat (r : Req) (s : State) : Out := settle s (sysHeartbeatFx r s)

/-- SYS_ABORT (R89). -/
def execSysAbort (r : Req) (s : State) : Out := settle s (sysAbortFx r s)

/-- SYS_MODE_REQUEST (R90). -/
def execSysModeRequest (r : Req) (s : State) : Out := settle s (sysModeRequestFx r s)

/-- SYS_IDENTIFY (R91). -/
def execSysIdentify (r : Req) (s : State) : Out := settle s (sysIdentifyFx r s)

/-- SYS_RESET (R92). -/
def execSysReset (r : Req) (s : State) : Out := settle s (sysResetFx r s)

/-- SYS_SLUICE_SETUP (R93). -/
def execSysSluiceSetup (r : Req) (s : State) : Out := settle s (sysSluiceSetupFx r s)

/-- SYS_SLUICE_INFO (R94). -/
def execSysSluiceInfo (r : Req) (s : State) : Out := settle s (sysSluiceInfoFx r s)

/-- SYS_HEARTBEAT_CONFIG (R95). -/
def execSysHeartbeatConfig (r : Req) (s : State) : Out := settle s (sysHeartbeatConfigFx r s)

/-- REEXECUTION_COMPLETE (R522). -/
def execReexecutionComplete (suppressed : Nat) (s : State) : Out := settle s (reexecutionCompleteFx suppressed s)

end Sys2Proof.Machine
end

