-- ==== Sys2Proof/Machine/ExecValve.lean ====
section
/-! DEFINITION. The meanings of the rows of ValveFx.lean: each row's effect, then what follows every effect. -/

namespace Sys2Proof.Machine

/-- PULSE_PHASE_END (R364). -/
def execPulsePhaseEnd (chan : Nat) (ua : Int) (us : Nat) (s : State) : Out := settle s (pulsePhaseEndFx chan ua us s)

/-- PEAK_START (R376). -/
def execPeakStart (bank : Nat) (s : State) : Out := settle s (peakStartFx bank s)

/-- PULSE_DEFER_LIMIT (R376). -/
def execPulseDeferLimit (bank : Nat) (s : State) : Out := settle s (pulseDeferLimitFx bank s)

/-- VALVE_OVERCURRENT (R379). -/
def execValveOvercurrent (chan : Nat) (ua : Int) (s : State) : Out := settle s (valveOvercurrentFx chan ua s)

/-- BANK_OVERCURRENT (R379). -/
def execBankOvercurrent (bank : Nat) (ua : Int) (s : State) : Out := settle s (bankOvercurrentFx bank ua s)

/-- VALVE_RETRY (R379). -/
def execValveRetry (chan : Nat) (s : State) : Out := settle s (valveRetryFx chan s)

/-- LS_LAND_LOW (R380). -/
def execLsLandLow (chan : Nat) (unexplained : Int) (s : State) : Out := settle s (lsLandLowFx chan unexplained s)

/-- LEAK_ESCALATION (R380). -/
def execLeakEscalation (chan : Nat) (unexplained : Int) (s : State) : Out := settle s (leakEscalationFx chan unexplained s)

/-- VALVE_HEADROOM (R363). -/
def execValveHeadroom (chan : Nat) (ua : Int) (duty : Nat) (s : State) : Out := settle s (valveHeadroomFx chan ua duty s)

/-- COIL_MODEL_STEP (R370). -/
def execCoilModelStep (chan : Nat) (meanSq : Rat) (meas : Option CoilMeas) (s : State) : Out := settle s (coilModelStepFx chan meanSq meas s)

/-- KINK_EVALUATION (R373). -/
def execKinkEvaluation (chan : Nat) (slots : List Int) (s : State) : Out := settle s (kinkEvaluationFx chan slots s)

/-- BOOST_READY_CHANGE (R354). -/
def execBoostReadyChange (uv : Int) (s : State) : Out := settle s (boostReadyChangeFx uv s)

/-- BOOST_FAULT (R354). -/
def execBoostFault (uv : Int) (s : State) : Out := settle s (boostFaultFx uv s)

/-- CLAMP_HOT_CLEAR (R369). -/
def execClampHotClear (bank : Nat) (s : State) : Out := settle s (clampHotClearFx bank s)

/-- VLV_SET (R383). -/
def execVlvSet (r : Req) (s : State) : Out := settle s (vlvSetFx r s)

/-- VLV_PULSE (R384). -/
def execVlvPulse (r : Req) (s : State) : Out := settle s (vlvPulseFx r s)

/-- VLV_STATUS (R385). -/
def execVlvStatus (r : Req) (s : State) : Out := settle s (vlvStatusFx r s)

/-- VLV_BANK (R385). -/
def execVlvBank (r : Req) (s : State) : Out := settle s (vlvBankFx r s)

/-- VLV_RESET_FAULT (R386). -/
def execVlvResetFault (r : Req) (s : State) : Out := settle s (vlvResetFaultFx r s)

/-- LEAK_CLEARED (R380). -/
def execLeakCleared (chan : Nat) (unexplained : Int) (s : State) : Out := settle s (leakClearedFx chan unexplained s)

/-- HEADROOM_CLEARED (R363). -/
def execHeadroomCleared (chan : Nat) (openLoad : Bool) (s : State) : Out := settle s (headroomClearedFx chan openLoad s)

/-- PEAKS_BLOCKED_LOW_SUPPLY (R378). -/
def execPeaksBlockedLowSupply (uv : Int) (s : State) : Out := settle s (peaksBlockedLowSupplyFx uv s)

end Sys2Proof.Machine
end

