-- ==== Sys2Proof/Machine/ExecWatermark.lean ====
section
/-! DEFINITION. The meanings of the rows of WatermarkFx.lean: each row's effect, then what follows every effect. -/

namespace Sys2Proof.Machine

/-- STATION_PUBLISH (R192). -/
def execStationPublish (station : Nat) (s : State) : Out := settle s (stationPublishFx station s)

/-- ISLAND_LINK_CHECK (R221). -/
def execIslandLinkCheck (s : State) : Out := settle s (islandLinkCheckFx s)

/-- ISLAND_LINK_LOST (R221). -/
def execIslandLinkLost (s : State) : Out := settle s (islandLinkLostFx s)

/-- ISLAND_TIME_UPDATE (R220). -/
def execIslandTimeUpdate (s : State) : Out := settle s (islandTimeUpdateFx s)

/-- ISLAND_RECORD_RECEIVED (R222). -/
def execIslandRecordReceived (rec : List Byte) (s : State) : Out := settle s (islandRecordReceivedFx rec s)

/-- ISLAND_WATCHDOG (R223). -/
def execIslandWatchdog (s : State) : Out := settle s (islandWatchdogFx s)

/-- SEAL_SAMPLE_UNPOWERED (R229). -/
def execSealSampleUnpowered (opened : Bool) (s : State) : Out := settle s (sealSampleUnpoweredFx opened s)

/-- SHIELD_LOOP_OPEN (R229). -/
def execShieldLoopOpen (s : State) : Out := settle s (shieldLoopOpenFx s)

/-- PARAM_CRC_CHECK (R235). -/
def execParamCrcCheck (bad : List (Nat × Nat)) (s : State) : Out := settle s (paramCrcCheckFx bad s)

/-- PARAM_SESSION_IDLE (R234). -/
def execParamSessionIdle (s : State) : Out := settle s (paramSessionIdleFx s)

/-- TAP_TRIGGER (R255). -/
def execTapTrigger (ident : Nat) (fd own : Bool) (data : List Byte) (s : State) : Out := settle s (tapTriggerFx ident fd own data s)

/-- GRAIN_TEMP_RECORD (R251). -/
def execGrainTempRecord (chan : Nat) (pairs : List Rat) (openWire : Bool) (t0 t1 : Nat) (s : State) : Out := settle s (grainTempRecordFx chan pairs openWire t0 t1 s)

/-- WM_LEGAL_ID (R258). -/
def execWmLegalId (r : Req) (s : State) : Out := settle s (wmLegalIdFx r s)

/-- WM_KEY (R258). -/
def execWmKey (r : Req) (s : State) : Out := settle s (wmKeyFx r s)

/-- WM_STATUS (R258). -/
def execWmStatus (r : Req) (s : State) : Out := settle s (wmStatusFx r s)

/-- WM_PARAM_OPEN (R232). -/
def execWmParamOpen (r : Req) (s : State) : Out := settle s (wmParamOpenFx r s)

/-- WM_PARAM_WRITE (R258). -/
def execWmParamWrite (r : Req) (s : State) : Out := settle s (wmParamWriteFx r s)

/-- WM_PARAM_COMMIT (R232). -/
def execWmParamCommit (r : Req) (s : State) : Out := settle s (wmParamCommitFx r s)

/-- WM_PARAM_DISCARD (R258). -/
def execWmParamDiscard (r : Req) (s : State) : Out := settle s (wmParamDiscardFx r s)

/-- WM_PARAM_READ (R258). -/
def execWmParamRead (r : Req) (s : State) : Out := settle s (wmParamReadFx r s)

/-- WM_AUDIT_READ (R258). -/
def execWmAuditRead (r : Req) (s : State) : Out := settle s (wmAuditReadFx r s)

/-- WM_RECORD_READ (R258). -/
def execWmRecordRead (r : Req) (s : State) : Out := settle s (wmRecordReadFx r s)

/-- ISLAND_STATION_STALE (R250). -/
def execIslandStationStale (station : Nat) (s : State) : Out := settle s (islandStationStaleFx station s)

end Sys2Proof.Machine
end

