-- ==== Sys2Proof/Machine/WeighFx.lean ====
section
/-! DEFINITION. Effects of the weighing rows (spec/08_weighing.md R294–R316). A channel is named by its island
terminal, 1 or 2. -/

namespace Sys2Proof.Machine

/-- Whether a channel measures now: a scale, the island up, and the mode (R311, R313). -/
def weighing (s : State) (c : Nat) : Bool :=
  (c == 1 || c == 2) && wOn s c && islandUp s && !pllDown s 2 &&
    (match s.sys.mode with | .commission => true | .run => true | .hold => true | .boot => true | _ => false)

/-- still_scan of the channel's station in STILL (R313). -/
def weighStill (s : State) (c : Nat) : Bool :=
  (c == 1 || c == 2) && wOn s c && islandUp s && !pllDown s 2 && s.sys.mode == .still &&
    (match islandStn s c with | some n => g1 (stnPart s n) 2 == 1 | none => false)

/-- Start of the present filter window, which ends with the last raw sample. -/
def windowStart (s : State) (c : Nat) : Nat := wEnd s c - wFilter s c * 10000000

/-- An effect on a channel, under the parameters in force when the filter window began (R232, R298). -/
def weighUnder (c : Nat) (f : State → State) (s : State) : State := underParams (windowStart s c) f s

/-- A raw sample, doubled, joins the filter window and the open WGT_SIGNAL windows; a discarded one leaves the fault
bits it was discarded under. -/
def takeRaw (x : Option Int) (now : Nat) (w : WChan) : WChan :=
  let why := match x with | some _ => 0 | none => b01 w.openWire * 64 + b01 w.excFault * 128
  { w with
    raws := (x :: w.raws).take 100, causes := (why :: w.causes).take 100, lastRaw := some now,
    windows := w.windows.map (fun g => match x with | some v => { g with n := g.n + 1, sum := g.sum + v } | none => g) }

/-- RAW_SAMPLE: the two polarity halves make one sample, or none where its acquisition overlapped a violation; the
first stable value of a start makes the initial zero (R294, R295, R300). -/
def rawSampleFx (c : Nat) (plus minus : Int) (overlap : Bool) : State → State :=
  weighUnder c (fun s =>
    if !(weighing s c || weighStill s c) then s
    else
      let x := if overlap then none else some (plus - minus)
      tryInitialZero c (wPush c (modW c (takeRaw x s.sys.devTime) s)))

/-- LOADCELL_VIOLATION: cause 1 OPEN_WIRE, 2 EXC_FAULT (R295). -/
def loadcellViolationFx (c cause land : Nat) (s : State) : State :=
  let w := wch s c
  if !(weighing s c || weighStill s c) || (cause != 1 && cause != 2) || (cause = 1 && w.openWire) || (cause = 2 && w.excFault) then s
  else note 0x0814 [c, cause, land] (modW c (fun w =>
    { w with
      openWire := w.openWire || cause == 1, excFault := w.excFault || cause == 2,
      faultAt := if w.openWire || w.excFault then w.faultAt else s.sys.devTime,
      cflags := if w.cycle != 0 then w.cflags ||| 0x40 else w.cflags }) s)

/-- LOADCELL_FAULT_CLEARED: 100 ms without a violation (R295). -/
def loadcellFaultClearedFx (c : Nat) (s : State) : State :=
  let w := wch s c
  if !(w.openWire || w.excFault) then s
  else note 0x0815 [c, nsMs (s.sys.devTime - w.faultAt)] (modW c (fun w => { w with openWire := false, excFault := false }) s)

/-- MASS_RECORD_PERIOD: every record_ms (R310). -/
def massRecordPeriodFx (c : Nat) : State → State :=
  weighUnder c (fun s => if weighing s c then massRecord c 0 s else s)

/-- STILL_WEIGH: after its record the channel is switched off, and its filter window ends (R313). -/
def stillWeighFx (c : Nat) : State → State :=
  weighUnder c (fun s => if weighStill s c then modW c windowClears (massRecord c 0 s) else s)

/-- ZERO_TRACKING_STEP: at most 0.5 e per second toward the mass, within z0 ± 2 % of Max (R300, R303). -/
def zeroTrackingStepFx (c : Nat) (s : State) : State :=
  let w := wch s c
  let now := s.sys.devTime
  match w.z0, wMass s c with
  | some z0, some m =>
    let e : Rat := (wE s c : Nat)
    let dt : Rat := (min 1000000000 (now - w.lastTrack) : Nat) / 1000000000
    let step := clampRat (-(e / 2 * dt)) (e / 2 * dt) m
    let z := w.zeroOffset + step
    if !weighing s c || g1 (wcal s c) 34 != 1 || !w.stable || w.tare != 0 || w.pending.isSome || 2 * absRat m > e ||
        50 * absRat (z - z0) > (wMax s c : Nat) then s
    else modW c (fun w => { w with zeroOffset := z, lastTrack := now }) s
  | _, _ => s

/-- WEIGH_REQUEST_SETTLED: the channel became stable with a request pending (R303). -/
def weighRequestSettledFx (c : Nat) (s : State) : State := if weighing s c then reqSettled c s else s

/-- WEIGH_SETTLE_TIMEOUT (R303). -/
def weighSettleTimeoutFx (c : Nat) (s : State) : State := if weighing s c then reqTimeout c s else s

/-- CYCLE_SETTLE_END: a settle state is stable, or has waited settle_max_ms (R304). -/
def cycleSettleEndFx (c : Nat) (s : State) : State :=
  let w := wch s c
  if weighing s c && (w.cycle = 1 || w.cycle = 3) && w.next.isNone then
    underParams (if w.cycle = 3 then w.fullStart.getD (windowStart s c) else windowStart s c) (settleEnd c) s
  else s

/-- The WGT_SIGNAL whose window on a channel ends first. -/
def windowEnding (s : State) (c : Nat) : Option Job :=
  let endOf (j : Job) : Nat := (((wch s c).windows.find? (fun x => x.org == j.org)).map (·.start)).getD 0 + j.b * 1000000
  ((waitingJobs s 0x0803).filter (fun j => j.a == c && !j.committed)).foldl
    (fun a j => match a with | some k => if endOf j < endOf k then some j else a | none => some j) none

/-- WGT_SIGNAL_WINDOW_END: the WEIGH_SIGNAL record is made of the window's valid raw samples; the commit point (R315,
R316), and the job knows it by its midpoint. The mean of no sample is a free value, and the deviation is taken as measured (notes/assumptions/149.md). -/
def wgtSignalWindowEndFx (c : Nat) (g : SignalWin) (s : State) : State :=
  match windowEnding s c with
  | none => s
  | some j =>
    let w := ((wch s c).windows.find? (fun x => x.org == j.org)).getD { org := j.org, start := s.sys.devTime }
    let mean : Rat := if w.n = 0 then Config.freeRat s.fresh else (w.sum : Rat) / ((2 * w.n : Nat) : Rat)
    let body := q4 (sField 4 (roundRat mean)) ++ p4 g.sdev ++ p4 g.sense ++ p2 g.exc ++ p2 (uField 2 w.n) ++ p2 j.b ++ zeros 14
    makeRecord c 0x13 0 w.start (w.start + j.b * 1000000) body
      (modW c (fun x => { x with windows := x.windows.filter (fun y => y.org != j.org) }) (commitJob j.org
        (modJob j.org (fun x => { x with c := (w.start + (w.start + j.b * 1000000)) / 2 }) (drawn 1 s))))

/-- One channel of WGT_STATUS (R315). -/
def wgtEntry (s : State) (c : Nat) : List Byte :=
  let w := wch s c
  let scale := if (wcal s c).isEmpty then 0 else if wTotal s c then 2 else 1
  p1 scale ++ p1 w.cycle ++ p1 (match w.pending with | some q => q.kind | none => 0) ++ p1 (b01 w.stable) ++
    p2 w.lastStatus ++ p1 w.lastSource ++ zeros 1 ++ p4 (wE s c) ++ p4 (w32 w.cycleNo) ++ p4 w.lastMassSeq ++
    p4 w.lastCycleSeq ++ p2 w.tapRefused ++ p1 (b01 w.openWire + b01 w.excFault * 2) ++ zeros 5

def wgtStatusH (_ : Org) (_ : List Byte) (s : State) : Res :=
  if linkDown s then .done sTIMEOUT [] s else .done sOK (wgtEntry s 1 ++ wgtEntry s 2) s

/-- WGT_REQUEST (R303, R315, R316): refused in its window, or accepted with its result, of which LIMIT is one, in a notice
(02_sluices.md R67). -/
def wgtRequestH (o : Org) (b : List Byte) (s : State) : Res :=
  let c := g1 b 0
  let k := g1 b 1
  if linkDown s then .done sTIMEOUT [] s
  else if (c != 1 && c != 2) || k = 0 || k > 8 || g2 b 2 != 0 then .done sBADOBJ [] s
  else if !wOn s c then .done sNOTFOUND [] s
  else
    let no := if k = 5 then 0 else nextSeqNo s
    let (st, s1) := wgtAsk c { kind := k, source := 0, since := s.sys.devTime } s
    if st = sPENDING then
      .later (addJob { org := o, a := c } (modW c (fun w =>
        { w with pending := w.pending.map (fun q => { q with org := some o }) }) s1))
    else if st = sOK then .later (finish o sOK (p4 no) (addJob { org := o, a := c } s1))
    else if st = sLIMIT then .later (addJob { org := o, a := c, answer := some (sLIMIT, []) } s1)
    else .done st [] s1

/-- WGT_SIGNAL (R315, R316). -/
def wgtSignalH (o : Org) (b : List Byte) (s : State) : Res :=
  let c := g1 b 0
  let ms := g2 b 2
  if linkDown s then .done sTIMEOUT [] s
  else if (c != 1 && c != 2) || g1 b 1 != 0 || ms < 100 || ms > 10000 then .done sBADOBJ [] s
  else if !wOn s c then .done sNOTFOUND [] s
  else if (wch s c).cycle != 0 then .done sBUSY [] s
  else .later (addJob { org := o, a := c, b := ms }
    (modW c (fun w => { w with windows := w.windows ++ [{ org := o, start := s.sys.devTime }] }) s))

def wgtStatusFx := serve 0x0801 wgtStatusH
def wgtRequestFx := serve 0x0802 wgtRequestH
def wgtSignalFx := serve 0x0803 wgtSignalH

end Sys2Proof.Machine
end

