-- ==== Sys2Proof/Machine/ExecWeigh.lean ====
section
/-! DEFINITION. The meanings of the rows of WeighFx.lean: each row's effect, then what follows every effect. -/

namespace Sys2Proof.Machine

/-- RAW_SAMPLE (R294). -/
def execRawSample (chan : Nat) (plus minus : Int) (overlap : Bool) (s : State) : Out := settle s (rawSampleFx chan plus minus overlap s)

/-- LOADCELL_VIOLATION (R295). -/
def execLoadcellViolation (chan cause land : Nat) (s : State) : Out := settle s (loadcellViolationFx chan cause land s)

/-- LOADCELL_FAULT_CLEARED (R295). -/
def execLoadcellFaultCleared (chan : Nat) (s : State) : Out := settle s (loadcellFaultClearedFx chan s)

/-- MASS_RECORD_PERIOD (R310). -/
def execMassRecordPeriod (chan : Nat) (s : State) : Out := settle s (massRecordPeriodFx chan s)

/-- ZERO_TRACKING_STEP (R300). -/
def execZeroTrackingStep (chan : Nat) (s : State) : Out := settle s (zeroTrackingStepFx chan s)

/-- WEIGH_REQUEST_SETTLED (R303). -/
def execWeighRequestSettled (chan : Nat) (s : State) : Out := settle s (weighRequestSettledFx chan s)

/-- WEIGH_SETTLE_TIMEOUT (R303). -/
def execWeighSettleTimeout (chan : Nat) (s : State) : Out := settle s (weighSettleTimeoutFx chan s)

/-- CYCLE_SETTLE_END (R304). -/
def execCycleSettleEnd (chan : Nat) (s : State) : Out := settle s (cycleSettleEndFx chan s)

/-- STILL_WEIGH (R313). -/
def execStillWeigh (chan : Nat) (s : State) : Out := settle s (stillWeighFx chan s)

/-- WGT_STATUS (R315). -/
def execWgtStatus (r : Req) (s : State) : Out := settle s (wgtStatusFx r s)

/-- WGT_REQUEST (R303). -/
def execWgtRequest (r : Req) (s : State) : Out := settle s (wgtRequestFx r s)

/-- WGT_SIGNAL (R315). -/
def execWgtSignal (r : Req) (s : State) : Out := settle s (wgtSignalFx r s)

/-- WGT_SIGNAL_WINDOW_END (R315). -/
def execWgtSignalWindowEnd (chan : Nat) (sig : SignalWin) (s : State) : Out := settle s (wgtSignalWindowEndFx chan sig s)

end Sys2Proof.Machine
end

