-- ==== Sys2Proof/Machine/WeirFx.lean ====
section
/-! DEFINITION. Effects of the Weir rows (spec/05_weir.md R183–R216). -/

namespace Sys2Proof.Machine

/-- WEIR_CONVERSION_END (R202): the conversion ends, and what it changes is stored, published and answered. -/
def weirConversionEndFx (n : Nat) (c : Conv) (s : State) : State :=
  if n < 128 && converting s n then convert n c s else s

/-- WINDOW_VIOLATION: the comparators report the voltages of IA, P, N and IB, in mV. Lands in use outside their window are
a violation, confirmed by the filter, which is classed; the class of a lasting one changes only as R199 says. With none
outside, a violation is over: what it leaves of a conversion that runs is still discarded (R198–R200). -/
def windowViolationFx (n : Nat) (volts : List Int) (leftAt : Nat) (s : State) : State :=
  if n ≥ 128 || !weirOn s || !isWeir s n || stnType s n = 0x10 then s
  else
    let ls := outside s n volts
    let x := wst s n
    let lasting := x.pendingMark != 0 && x.pendingAt == leftAt
    let m := if !lasting then classify s n ls else if x.pendingMark = 1 || ls.any (pulledAway s n) then 1 else 2
    match ls.head? with
    | none => modWst n (fun x => { x with lands := 0, pendingMark := if converting s n then x.pendingMark else 0 }) s
    | some l =>
      modWst n (fun x =>
        { x with lands := (ls.map (fun l => 2 ^ l.1)).sum, landsHit := (ls.map (fun l => 2 ^ l.1)).sum, landMv := l.2, pendingMark := m, pendingAt := leftAt }) s

/-- RANGE_PIN_EXPIRED (R197). -/
def rangePinExpiredFx (n : Nat) (s : State) : State :=
  if n < 128 && isWeir s n then modWst n (fun x => { x with pinned := false }) s else s

/-- LOOP_INPUT_OVERLOAD: above 32 mA the shunt opens within 10 µs (R189). -/
def loopInputOverloadFx (n : Nat) (ua : Int) (s : State) : State :=
  if n ≥ 128 || !weirOn s || stnType s n != 4 || ua ≤ 32000 then s
  else note 0x0514 [n, ua] (modWst n (fun x => { x with shuntOpen := true }) s)

/-- LOOP_SHUNT_RECLOSE: the shunt is closed every 100 ms until the current is below 32 mA (R189). -/
def loopShuntRecloseFx (n : Nat) (ua : Int) (s : State) : State :=
  if n ≥ 128 || !weirOn s || stnType s n != 4 then s
  else modWst n (fun x => { x with shuntOpen := x.shuntOpen && decide (32000 ≤ ua) }) s

/-- BRX_LIMIT: while BRX_Ux limits, the bank's bridge stations publish invalid values flagged CM_FAULT (R183). -/
def brxLimitFx (bank : Nat) (ua : Int) (limiting : Bool) (s : State) : State :=
  if bank > 2 || !weirOn s then s
  else if !limiting then onWeir (fun w => { w with brxLimit := w.brxLimit.filter (· != bank) }) s
  else if s.weir.brxLimit.contains bank then s
  else
    let s1 := note 0x0516 [bank * 8, ua] (onWeir (fun w => { w with brxLimit := bank :: w.brxLimit }) s)
    (stationsBy s1 (fun n => stnType s1 n == 5 && stnTerm s1 n / 8 == bank)).foldl
      (fun t n =>
        weirPublish n { published := true, flags := 4, value := invalidValue, time := s.sys.devTime }
          (modWst n (fun x => { x with flags := 4, value := invalidValue, time := s.sys.devTime, has := true }) t)) s1

/-- COMP_STALE: 10 s without a valid compensation value (R206). -/
def compStaleFx (n : Nat) (s : State) : State :=
  if n ≥ 128 || !isWeir s n || wComp (stnPart s n) = 0xFFFF || (wst s n).compStale then s
  else note 0x0515 [n, wComp (stnPart s n)] (modWst n (fun x => { x with compStale := true }) s)

/-- STILL_SCAN: the settled conversion of a station with still_scan set is published, and a value it gives is compared with
wake_lo and wake_hi (R193, R44). -/
def stillScanFx (n : Nat) (c : Conv) (s : State) : State :=
  if s.sys.mode != .still || n ≥ 128 || !isWeir s n || g1 (stnPart s n) 22 != 1 then s
  else
    let b := stnPart s n
    let s1 := convert n c (modWst n (fun x => { x with count := settleCount b }) s)
    let x := wst s1 n
    let v := x.value
    if x.stored != (wst s n).stored && v != invalidValue &&
        ((i4 b 32 != -2147483648 && v ≤ i4 b 32) || (i4 b 36 != 2147483647 && v ≥ i4 b 36))
    then wakeFrom 4 s1 else s1

/-- The station of a Weir request, or the status that refuses it (R212–R216). -/
def weirStation (b : List Byte) (s : State) : Option Nat :=
  let n := g2 b 0
  if g2 b 2 != 0 then some sBADOBJ
  else if n ≥ 128 || (stn s n).isEmpty then some sNOTFOUND
  else if !isWeir s n then some sBADOBJ
  else none

/-- WEIR_SAMPLE: waits for the next conversion; an on-demand cell is started (R213). -/
def weirSampleH (o : Org) (b : List Byte) (s : State) : Res :=
  match weirStation b s with
  | some st => .done st [] s
  | none =>
    let n := g2 b 0
    .later (addJob { org := o, a := n }
      (modWst n (fun x => { x with running := true, count := if stnSampleMode s n = 2 && !x.running then 0 else x.count }) s))

/-- A float32 of an exact number; NaN where there is none (R214). -/
def f32Or (q : Option Rat) : List Byte := p4 (match q with | some x => f32.encode x | none => 0x7FC00000)

/-- WEIR_RAW (R214). The quantity of a conversion that gave none is a free value (notes/assumptions/145.md). -/
def weirRawH (_ : Org) (b : List Byte) (s : State) : Res :=
  match weirStation b s with
  | some st => .done st [] s
  | none =>
    let n := g2 b 0
    let x := wst s n
    let now := s.sys.devTime
    let sv := match x.s with | some q => p4 (f32.encode q) | none => p4 (Config.freeNat s.fresh)
    .done sOK (sv ++ f32Or x.x ++ f32Or x.t ++ q4 x.value ++ p2 x.flags ++ p1 x.convRange ++
      p1 (if pairs (stnType s n) then 1 - x.phase else 0) ++
      p1 (min 255 (x.changes.filter (fun e => now - e.1 ≤ 1000000000)).length) ++ p1 x.lands ++ zeros 2 ++ p8 x.convTime)
      (drawn 1 s)

/-- WEIR_TERMINAL (R215). -/
def weirTerminalH (_ : Org) (b : List Byte) (s : State) : Res :=
  let k := g1 b 0
  let t := g1 b 1
  if g2 b 2 != 0 || !((k == 1 && t < 24) || (k == 2 && t < 8)) then .done sBADOBJ [] s
  else
    let bank := cellBank k t
    let serving := (tfind s.absorb.spareServes bank).isSome
    .done sOK (p1 (cellState s k t) ++ p1 (b01 (spareAlive s bank && !serving)) ++
      p2 ((stationAt s k t).getD 0xFFFF) ++ p4 (w32 (tget s.weir.openWires (k * 256 + t))) ++
      q8 (tget s.weir.substitutedAt (k * 256 + t))) s

/-- Body of a station in the working copy (R128). -/
def workingStn (t : Txn) (n : Nat) : List Byte :=
  match objIn t.objs 2 n with | some o => if o.flags % 2 = 1 then o.body else [] | none => []

/-- WEIR_LIN_EVAL (R216). An s or T that is no number has no stated result (notes/assumptions/36.md). -/
def weirLinEvalH (o : Org) (b : List Byte) (s : State) : Res :=
  let n := g2 b 0
  let src := g1 b 4
  let body : Option (List Byte) := match src with
    | 0 => some (stn s n)
    | _ => match s.cfg.txn with
      | some t => if t.owner = o.side then some (workingStn t n) else none
      | none => none
  if g2 b 2 != 0 || src > 1 || g1 b 5 != 0 then .done sBADOBJ [] s
  else match body with
    | none => .done sBADOBJ [] s
    | some body =>
      let typ := g2 body 0
      let part := body.drop 64
      if n ≥ 128 || body.isEmpty then .done sNOTFOUND [] s
      else if !((1 ≤ typ && typ ≤ 6) || typ == 0x10) then .done sBADOBJ [] s
      else match gf32 b 6, gf32 b 10 with
        | some sv, some t =>
          let l := linearise typ part sv (some t) (if wComp part = 0xFFFF then ((i4 part 24 : Int) : Rat) / 1000 else t)
          let r := saturateRound l.y l.outOfCurve
          .done sOK (p8 (f64.encode l.y) ++ q4 r.1 ++ p2 r.2 ++ zeros 2) s
        | _, _ =>
          .done sOK (p8 (Config.freeNat s.fresh) ++ p4 (Config.freeNat (s.fresh + 1)) ++
            p2 (Config.freeNat (s.fresh + 2) % 4 * 16) ++ zeros 2) (drawn 3 s)

def weirSampleFx := serve 0x0501 weirSampleH
def weirRawFx := serve 0x0502 weirRawH
def weirTerminalFx := serve 0x0503 weirTerminalH
def weirLinEvalFx := serve 0x0504 weirLinEvalH

end Sys2Proof.Machine
end

