-- ==== Sys2Proof/Machine/ExecWeir.lean ====
section
/-! DEFINITION. The meanings of the rows of WeirFx.lean: each row's effect, then what follows every effect. -/

namespace Sys2Proof.Machine

/-- WEIR_CONVERSION_END (R202). -/
def execWeirConversionEnd (station : Nat) (conv : Conv) (s : State) : Out := settle s (weirConversionEndFx station conv s)

/-- WINDOW_VIOLATION (R200). -/
def execWindowViolation (station : Nat) (volts : List Int) (leftAt : Nat) (s : State) : Out := settle s (windowViolationFx station volts leftAt s)

/-- RANGE_PIN_EXPIRED (R197). -/
def execRangePinExpired (station : Nat) (s : State) : Out := settle s (rangePinExpiredFx station s)

/-- LOOP_INPUT_OVERLOAD (R189). -/
def execLoopInputOverload (station : Nat) (ua : Int) (s : State) : Out := settle s (loopInputOverloadFx station ua s)

/-- LOOP_SHUNT_RECLOSE (R189). -/
def execLoopShuntReclose (station : Nat) (ua : Int) (s : State) : Out := settle s (loopShuntRecloseFx station ua s)

/-- BRX_LIMIT (R183). -/
def execBrxLimit (bank : Nat) (ua : Int) (limiting : Bool) (s : State) : Out := settle s (brxLimitFx bank ua limiting s)

/-- COMP_STALE (R206). -/
def execCompStale (station : Nat) (s : State) : Out := settle s (compStaleFx station s)

/-- STILL_SCAN (R193). -/
def execStillScan (station : Nat) (conv : Conv) (s : State) : Out := settle s (stillScanFx station conv s)

/-- WEIR_SAMPLE (R213). -/
def execWeirSample (r : Req) (s : State) : Out := settle s (weirSampleFx r s)

/-- WEIR_RAW (R214). -/
def execWeirRaw (r : Req) (s : State) : Out := settle s (weirRawFx r s)

/-- WEIR_TERMINAL (R215). -/
def execWeirTerminal (r : Req) (s : State) : Out := settle s (weirTerminalFx r s)

/-- WEIR_LIN_EVAL (R216). -/
def execWeirLinEval (r : Req) (s : State) : Out := settle s (weirLinEvalFx r s)

end Sys2Proof.Machine
end

