-- ==== Sys2Proof/Machine/ExecZone.lean ====
section
/-! DEFINITION. The meanings of the rows of ZoneFx.lean: each row's effect, then what follows every effect. -/

namespace Sys2Proof.Machine

/-- PERMISSIVE_CLEAR (R323). -/
def execPermissiveClear (zone : Nat) (s : State) : Out := settle s (permissiveClearFx zone s)

/-- DECKLE_CONFIRMED (R324). -/
def execDeckleConfirmed (zone entry : Nat) (s : State) : Out := settle s (deckleConfirmedFx zone entry s)

/-- DECKLE_CLEARED (R324). -/
def execDeckleCleared (zone entry : Nat) (s : State) : Out := settle s (deckleClearedFx zone entry s)

/-- FELT_STOP_REACTION (R325). -/
def execFeltStopReaction (zone : Nat) (s : State) : Out := settle s (feltStopReactionFx zone s)

/-- TARGET_TIMEOUT (R320). -/
def execTargetTimeout (zone : Nat) (s : State) : Out := settle s (targetTimeoutFx zone s)

/-- HEAT_PHASE_TIMEOUT (R331). -/
def execHeatPhaseTimeout (zone : Nat) (s : State) : Out := settle s (heatPhaseTimeoutFx zone s)

/-- PLENUM_LOOP_STEP (R332). -/
def execPlenumLoopStep (zone : Nat) (s : State) : Out := settle s (plenumLoopStepFx zone s)

/-- PLENUM_INVALID_TIMEOUT (R332). -/
def execPlenumInvalidTimeout (zone : Nat) (s : State) : Out := settle s (plenumInvalidTimeoutFx zone s)

/-- EXPOSURE_STEP (R335). -/
def execExposureStep (zone : Nat) (s : State) : Out := settle s (exposureStepFx zone s)

/-- BATCH_PHASE_TIMEOUT (R337). -/
def execBatchPhaseTimeout (zone : Nat) (s : State) : Out := settle s (batchPhaseTimeoutFx zone s)

/-- SILO_EVALUATION (R339). -/
def execSiloEvaluation (zone : Nat) (s : State) : Out := settle s (siloEvaluationFx zone s)

/-- WEIGH_EMPTY_DETECT (R344). -/
def execWeighEmptyDetect (zone : Nat) (s : State) : Out := settle s (weighEmptyDetectFx zone s)

/-- WEIGH_PHASE_TIMEOUT (R344). -/
def execWeighPhaseTimeout (zone : Nat) (s : State) : Out := settle s (weighPhaseTimeoutFx zone s)

/-- ZONE_START (R319). -/
def execZoneStart (r : Req) (s : State) : Out := settle s (zoneStartFx r s)

/-- ZONE_STOP (R319). -/
def execZoneStop (r : Req) (s : State) : Out := settle s (zoneStopFx r s)

/-- ZONE_STATUS (R348). -/
def execZoneStatus (r : Req) (s : State) : Out := settle s (zoneStatusFx r s)

/-- ZONE_TARGET (R345). -/
def execZoneTarget (r : Req) (s : State) : Out := settle s (zoneTargetFx r s)

end Sys2Proof.Machine
end

