-- ==== Sys2Proof/Machine/Dispatch.lean ====
section
/-! DEFINITION. One arm per command: the meaning of each row of spec/opcode_table.json. -/

namespace Sys2Proof.Machine

def exec (i : Instr) (s : State) : Host.Outcome State Fault Refusal :=
  match i with
  | .spiWrite addr data fin => Sys2Proof.Machine.execSpiWrite addr data fin s
  | .spiRead addr len fin => Sys2Proof.Machine.execSpiRead addr len fin s
  | .spiWriteCrc addr len data crc fin => Sys2Proof.Machine.execSpiWriteCrc addr len data crc fin s
  | .spiReadCrc addr len fin => Sys2Proof.Machine.execSpiReadCrc addr len fin s
  | .spiFrameIgnored instr => Sys2Proof.Machine.execSpiFrameIgnored instr s
  | .hifDoorbellWrite side value => Sys2Proof.Machine.execHifDoorbellWrite side value s
  | .hifReleaseWrite side value => Sys2Proof.Machine.execHifReleaseWrite side value s
  | .hifIrqStatusClear side value => Sys2Proof.Machine.execHifIrqStatusClear side value s
  | .hifErrClear side value => Sys2Proof.Machine.execHifErrClear side value s
  | .registerWrite side addr data => Sys2Proof.Machine.execRegisterWrite side addr data s
  | .devtimeLoRead side => Sys2Proof.Machine.execDevtimeLoRead side s
  | .feltPosRead side felt => Sys2Proof.Machine.execFeltPosRead side felt s
  | .appAccessError addr size => Sys2Proof.Machine.execAppAccessError addr size s
  | .segmentTimeout side sluice => Sys2Proof.Machine.execSegmentTimeout side sluice s
  | .udpRequest src dgram => Sys2Proof.Machine.execUdpRequest src dgram s
  | .udpRelease src dgram => Sys2Proof.Machine.execUdpRelease src dgram s
  | .udpNoticeResend session sluice => Sys2Proof.Machine.execUdpNoticeResend session sluice s
  | .serviceUartFrame frame => Sys2Proof.Machine.execServiceUartFrame frame s
  | .uartBaudChange => Sys2Proof.Machine.execUartBaudChange s
  | .hbWarn side => Sys2Proof.Machine.execHbWarn side s
  | .heartbeatLost side => Sys2Proof.Machine.execHeartbeatLost side s
  | .sysStatus r => Sys2Proof.Machine.execSysStatus r s
  | .sysHeartbeat r => Sys2Proof.Machine.execSysHeartbeat r s
  | .sysAbort r => Sys2Proof.Machine.execSysAbort r s
  | .sysModeRequest r => Sys2Proof.Machine.execSysModeRequest r s
  | .sysIdentify r => Sys2Proof.Machine.execSysIdentify r s
  | .sysReset r => Sys2Proof.Machine.execSysReset r s
  | .sysResetStart => Sys2Proof.Machine.execSysResetStart s
  | .sysSluiceSetup r => Sys2Proof.Machine.execSysSluiceSetup r s
  | .sysSluiceInfo r => Sys2Proof.Machine.execSysSluiceInfo r s
  | .sysHeartbeatConfig r => Sys2Proof.Machine.execSysHeartbeatConfig r s
  | .safeAsserted => Sys2Proof.Machine.execSafeAsserted s
  | .safeReleased => Sys2Proof.Machine.execSafeReleased s
  | .rstAsserted => Sys2Proof.Machine.execRstAsserted s
  | .internalReset => Sys2Proof.Machine.execInternalReset s
  | .rstReleased => Sys2Proof.Machine.execRstReleased s
  | .vlogicWarning uv => Sys2Proof.Machine.execVlogicWarning uv s
  | .vlogicWarningCleared uv => Sys2Proof.Machine.execVlogicWarningCleared uv s
  | .vlogicDip uv => Sys2Proof.Machine.execVlogicDip uv s
  | .rideThrough uv durUs => Sys2Proof.Machine.execRideThrough uv durUs s
  | .lastGasp uv => Sys2Proof.Machine.execLastGasp uv s
  | .vaultEntry vhold => Sys2Proof.Machine.execVaultEntry vhold s
  | .vlogicRestored uv => Sys2Proof.Machine.execVlogicRestored uv s
  | .vbatTrip => Sys2Proof.Machine.execVbatTrip s
  | .norCheckDone ok core0 core1 vbat => Sys2Proof.Machine.execNorCheckDone ok core0 core1 vbat s
  | .reservoirMeasured us vhold => Sys2Proof.Machine.execReservoirMeasured us vhold s
  | .supervisorStart => Sys2Proof.Machine.execSupervisorStart s
  | .evverReady => Sys2Proof.Machine.execEvverReady s
  | .modeChangeComplete => Sys2Proof.Machine.execModeChangeComplete s
  | .wakePin level => Sys2Proof.Machine.execWakePin level s
  | .wakeTimer => Sys2Proof.Machine.execWakeTimer s
  | .frostBusWake bus w => Sys2Proof.Machine.execFrostBusWake bus w s
  | .frostFieldWake fio => Sys2Proof.Machine.execFrostFieldWake fio s
  | .bootLiteComplete => Sys2Proof.Machine.execBootLiteComplete s
  | .vfieldLow supply uv => Sys2Proof.Machine.execVfieldLow supply uv s
  | .vfieldSag supply uv => Sys2Proof.Machine.execVfieldSag supply uv s
  | .vfieldRecovered supply uv => Sys2Proof.Machine.execVfieldRecovered supply uv s
  | .vfieldVdCutoff uv => Sys2Proof.Machine.execVfieldVdCutoff uv s
  | .vfieldVdRestored uv => Sys2Proof.Machine.execVfieldVdRestored uv s
  | .vfieldIoNoSupply uv => Sys2Proof.Machine.execVfieldIoNoSupply uv s
  | .checkpoint => Sys2Proof.Machine.execCheckpoint s
  | .lockstepMismatch diverges core0 core1 => Sys2Proof.Machine.execLockstepMismatch diverges core0 core1 s
  | .reexecutionComplete suppressed => Sys2Proof.Machine.execReexecutionComplete suppressed s
  | .latchExpired => Sys2Proof.Machine.execLatchExpired s
  | .watchdogExpired => Sys2Proof.Machine.execWatchdogExpired s
  | .cellCheckFailed bank cell check => Sys2Proof.Machine.execCellCheckFailed bank cell check s
  | .shadowCheck bank differ primaryBad spareBad => Sys2Proof.Machine.execShadowCheck bank differ primaryBad spareBad s
  | .memoryScrub memory fixes => Sys2Proof.Machine.execMemoryScrub memory fixes s
  | .eccError memory addr corrected bothLost => Sys2Proof.Machine.execEccError memory addr corrected bothLost s
  | .storeAdmitted => Sys2Proof.Machine.execStoreAdmitted s
  | .storeWriteDone index ok offset => Sys2Proof.Machine.execStoreWriteDone index ok offset s
  | .reservoirEnergyUpdate vhold => Sys2Proof.Machine.execReservoirEnergyUpdate vhold s
  | .reservoirStepDue => Sys2Proof.Machine.execReservoirStepDue s
  | .reservoirChargeTimeout vhold => Sys2Proof.Machine.execReservoirChargeTimeout vhold s
  | .parallelShareLow station chan share => Sys2Proof.Machine.execParallelShareLow station chan share s
  | .cfgOpen r => Sys2Proof.Machine.execCfgOpen r s
  | .cfgWriteObject r => Sys2Proof.Machine.execCfgWriteObject r s
  | .cfgCommit r => Sys2Proof.Machine.execCfgCommit r s
  | .cfgDiscard r => Sys2Proof.Machine.execCfgDiscard r s
  | .cfgReadObject r => Sys2Proof.Machine.execCfgReadObject r s
  | .cfgExport r => Sys2Proof.Machine.execCfgExport r s
  | .cfgImport r => Sys2Proof.Machine.execCfgImport r s
  | .cfgDeleteObject r => Sys2Proof.Machine.execCfgDeleteObject r s
  | .cfgState r => Sys2Proof.Machine.execCfgState r s
  | .cfgIdleTimeout => Sys2Proof.Machine.execCfgIdleTimeout s
  | .stRead r => Sys2Proof.Machine.execStRead r s
  | .encoderEdge src a b => Sys2Proof.Machine.execEncoderEdge src a b s
  | .mainsCrossing => Sys2Proof.Machine.execMainsCrossing s
  | .mainsSourceLost => Sys2Proof.Machine.execMainsSourceLost s
  | .feltStall felt => Sys2Proof.Machine.execFeltStall felt s
  | .feltReferenceReceived chan ident data => Sys2Proof.Machine.execFeltReferenceReceived chan ident data s
  | .remoteFeltLost felt => Sys2Proof.Machine.execRemoteFeltLost felt s
  | .wheelDispatch felt adv => Sys2Proof.Machine.execWheelDispatch felt adv s
  | .parcelClose zone => Sys2Proof.Machine.execParcelClose zone s
  | .parcelLeave zone => Sys2Proof.Machine.execParcelLeave zone s
  | .parcelHandoffReceived chan ident data => Sys2Proof.Machine.execParcelHandoffReceived chan ident data s
  | .parcelHandoffTimeout zone parcel => Sys2Proof.Machine.execParcelHandoffTimeout zone parcel s
  | .adoptionGap zone => Sys2Proof.Machine.execAdoptionGap zone s
  | .feltStatus r => Sys2Proof.Machine.execFeltStatus r s
  | .feltSet r => Sys2Proof.Machine.execFeltSet r s
  | .wheelSchedule r => Sys2Proof.Machine.execWheelSchedule r s
  | .wheelCancel r => Sys2Proof.Machine.execWheelCancel r s
  | .wheelStatus r => Sys2Proof.Machine.execWheelStatus r s
  | .parcelRead r => Sys2Proof.Machine.execParcelRead r s
  | .parcelHistory r => Sys2Proof.Machine.execParcelHistory r s
  | .parcelHistoryComplete side sluice tag => Sys2Proof.Machine.execParcelHistoryComplete side sluice tag s
  | .wheelWait r => Sys2Proof.Machine.execWheelWait r s
  | .weirConversionEnd station conv => Sys2Proof.Machine.execWeirConversionEnd station conv s
  | .windowViolation station volts leftAt => Sys2Proof.Machine.execWindowViolation station volts leftAt s
  | .stationPublish station => Sys2Proof.Machine.execStationPublish station s
  | .rangePinExpired station => Sys2Proof.Machine.execRangePinExpired station s
  | .loopInputOverload station ua => Sys2Proof.Machine.execLoopInputOverload station ua s
  | .loopShuntReclose station ua => Sys2Proof.Machine.execLoopShuntReclose station ua s
  | .brxLimit bank ua limiting => Sys2Proof.Machine.execBrxLimit bank ua limiting s
  | .compStale station => Sys2Proof.Machine.execCompStale station s
  | .stillScan station conv => Sys2Proof.Machine.execStillScan station conv s
  | .weirSample r => Sys2Proof.Machine.execWeirSample r s
  | .weirRaw r => Sys2Proof.Machine.execWeirRaw r s
  | .weirTerminal r => Sys2Proof.Machine.execWeirTerminal r s
  | .weirLinEval r => Sys2Proof.Machine.execWeirLinEval r s
  | .islandLinkCheck => Sys2Proof.Machine.execIslandLinkCheck s
  | .islandLinkLost => Sys2Proof.Machine.execIslandLinkLost s
  | .islandLinkRestored => Sys2Proof.Machine.execIslandLinkRestored s
  | .islandTimeUpdate => Sys2Proof.Machine.execIslandTimeUpdate s
  | .islandRecordReceived rec => Sys2Proof.Machine.execIslandRecordReceived rec s
  | .islandWatchdog => Sys2Proof.Machine.execIslandWatchdog s
  | .islandStart digestOk shieldOpen chainBad paramBad torn => Sys2Proof.Machine.execIslandStart digestOk shieldOpen chainBad paramBad torn s
  | .sealChange opened => Sys2Proof.Machine.execSealChange opened s
  | .sealSampleUnpowered opened => Sys2Proof.Machine.execSealSampleUnpowered opened s
  | .shieldLoopOpen => Sys2Proof.Machine.execShieldLoopOpen s
  | .paramCrcCheck bad => Sys2Proof.Machine.execParamCrcCheck bad s
  | .paramSessionIdle => Sys2Proof.Machine.execParamSessionIdle s
  | .tapTrigger ident fd own data => Sys2Proof.Machine.execTapTrigger ident fd own data s
  | .grainTempRecord chan pairs openWire t0 t1 => Sys2Proof.Machine.execGrainTempRecord chan pairs openWire t0 t1 s
  | .wmLegalId r => Sys2Proof.Machine.execWmLegalId r s
  | .wmKey r => Sys2Proof.Machine.execWmKey r s
  | .wmStatus r => Sys2Proof.Machine.execWmStatus r s
  | .wmParamOpen r => Sys2Proof.Machine.execWmParamOpen r s
  | .wmParamWrite r => Sys2Proof.Machine.execWmParamWrite r s
  | .wmParamCommit r => Sys2Proof.Machine.execWmParamCommit r s
  | .wmParamDiscard r => Sys2Proof.Machine.execWmParamDiscard r s
  | .wmParamRead r => Sys2Proof.Machine.execWmParamRead r s
  | .wmAuditRead r => Sys2Proof.Machine.execWmAuditRead r s
  | .wmRecordRead r => Sys2Proof.Machine.execWmRecordRead r s
  | .moistureIntervalEnd sweeps => Sys2Proof.Machine.execMoistureIntervalEnd sweeps s
  | .engineThermalPause => Sys2Proof.Machine.execEngineThermalPause s
  | .engineThermalResume => Sys2Proof.Machine.execEngineThermalResume s
  | .mstStatus r => Sys2Proof.Machine.execMstStatus r s
  | .mstCaptureAir r => Sys2Proof.Machine.execMstCaptureAir r s
  | .mstLoopback r => Sys2Proof.Machine.execMstLoopback r s
  | .mstSpectrum r => Sys2Proof.Machine.execMstSpectrum r s
  | .rawSample chan plus minus overlap => Sys2Proof.Machine.execRawSample chan plus minus overlap s
  | .loadcellViolation chan cause land => Sys2Proof.Machine.execLoadcellViolation chan cause land s
  | .loadcellFaultCleared chan => Sys2Proof.Machine.execLoadcellFaultCleared chan s
  | .massRecordPeriod chan => Sys2Proof.Machine.execMassRecordPeriod chan s
  | .zeroTrackingStep chan => Sys2Proof.Machine.execZeroTrackingStep chan s
  | .weighRequestSettled chan => Sys2Proof.Machine.execWeighRequestSettled chan s
  | .weighSettleTimeout chan => Sys2Proof.Machine.execWeighSettleTimeout chan s
  | .cycleSettleEnd chan => Sys2Proof.Machine.execCycleSettleEnd chan s
  | .stillWeigh chan => Sys2Proof.Machine.execStillWeigh chan s
  | .wgtStatus r => Sys2Proof.Machine.execWgtStatus r s
  | .wgtRequest r => Sys2Proof.Machine.execWgtRequest r s
  | .wgtSignal r => Sys2Proof.Machine.execWgtSignal r s
  | .wgtSignalWindowEnd chan sig => Sys2Proof.Machine.execWgtSignalWindowEnd chan sig s
  | .permissiveClear zone => Sys2Proof.Machine.execPermissiveClear zone s
  | .deckleConfirmed zone entry => Sys2Proof.Machine.execDeckleConfirmed zone entry s
  | .deckleCleared zone entry => Sys2Proof.Machine.execDeckleCleared zone entry s
  | .feltStopReaction zone => Sys2Proof.Machine.execFeltStopReaction zone s
  | .targetTimeout zone => Sys2Proof.Machine.execTargetTimeout zone s
  | .heatPhaseTimeout zone => Sys2Proof.Machine.execHeatPhaseTimeout zone s
  | .plenumLoopStep zone => Sys2Proof.Machine.execPlenumLoopStep zone s
  | .plenumInvalidTimeout zone => Sys2Proof.Machine.execPlenumInvalidTimeout zone s
  | .exposureStep zone => Sys2Proof.Machine.execExposureStep zone s
  | .batchPhaseTimeout zone => Sys2Proof.Machine.execBatchPhaseTimeout zone s
  | .siloEvaluation zone => Sys2Proof.Machine.execSiloEvaluation zone s
  | .weighEmptyDetect zone => Sys2Proof.Machine.execWeighEmptyDetect zone s
  | .weighPhaseTimeout zone => Sys2Proof.Machine.execWeighPhaseTimeout zone s
  | .zoneStart r => Sys2Proof.Machine.execZoneStart r s
  | .zoneStop r => Sys2Proof.Machine.execZoneStop r s
  | .zoneStatus r => Sys2Proof.Machine.execZoneStatus r s
  | .zoneTarget r => Sys2Proof.Machine.execZoneTarget r s
  | .pulsePhaseEnd chan ua us => Sys2Proof.Machine.execPulsePhaseEnd chan ua us s
  | .peakStart bank => Sys2Proof.Machine.execPeakStart bank s
  | .pulseDeferLimit bank => Sys2Proof.Machine.execPulseDeferLimit bank s
  | .valveOvercurrent chan ua => Sys2Proof.Machine.execValveOvercurrent chan ua s
  | .bankOvercurrent bank ua => Sys2Proof.Machine.execBankOvercurrent bank ua s
  | .valveRetry chan => Sys2Proof.Machine.execValveRetry chan s
  | .lsLandLow chan unexplained => Sys2Proof.Machine.execLsLandLow chan unexplained s
  | .leakEscalation chan unexplained => Sys2Proof.Machine.execLeakEscalation chan unexplained s
  | .valveHeadroom chan ua duty => Sys2Proof.Machine.execValveHeadroom chan ua duty s
  | .coilModelStep chan meanSq meas => Sys2Proof.Machine.execCoilModelStep chan meanSq meas s
  | .kinkEvaluation chan slots => Sys2Proof.Machine.execKinkEvaluation chan slots s
  | .boostReadyChange uv => Sys2Proof.Machine.execBoostReadyChange uv s
  | .boostFault uv => Sys2Proof.Machine.execBoostFault uv s
  | .clampHotClear bank => Sys2Proof.Machine.execClampHotClear bank s
  | .vlvSet r => Sys2Proof.Machine.execVlvSet r s
  | .vlvPulse r => Sys2Proof.Machine.execVlvPulse r s
  | .vlvStatus r => Sys2Proof.Machine.execVlvStatus r s
  | .vlvBank r => Sys2Proof.Machine.execVlvBank r s
  | .vlvResetFault r => Sys2Proof.Machine.execVlvResetFault r s
  | .fioInputChange station level at_ => Sys2Proof.Machine.execFioInputChange station level at_ s
  | .fioCountEdge station => Sys2Proof.Machine.execFioCountEdge station s
  | .fioFreqGate station => Sys2Proof.Machine.execFioFreqGate station s
  | .fioOutputFault station => Sys2Proof.Machine.execFioOutputFault station s
  | .fioOutputFaultClear station => Sys2Proof.Machine.execFioOutputFaultClear station s
  | .outputCmdTimeout station => Sys2Proof.Machine.execOutputCmdTimeout station s
  | .loopOutputDeviation station ua mv => Sys2Proof.Machine.execLoopOutputDeviation station ua mv s
  | .loopOutputRecovered station ua mv => Sys2Proof.Machine.execLoopOutputRecovered station ua mv s
  | .fioSet r => Sys2Proof.Machine.execFioSet r s
  | .fioStatus r => Sys2Proof.Machine.execFioStatus r s
  | .fioFaultMask r => Sys2Proof.Machine.execFioFaultMask r s
  | .loopSet r => Sys2Proof.Machine.execLoopSet r s
  | .loopStatus r => Sys2Proof.Machine.execLoopStatus r s
  | .canFrameReceived chan f => Sys2Proof.Machine.execCanFrameReceived chan f s
  | .rxRingDrain chan => Sys2Proof.Machine.execRxRingDrain chan s
  | .canFrameSent chan start eof => Sys2Proof.Machine.execCanFrameSent chan start eof s
  | .canErrorStateChange chan tec rec bitError => Sys2Proof.Machine.execCanErrorStateChange chan tec rec bitError s
  | .busOff chan => Sys2Proof.Machine.execBusOff chan s
  | .busoffRecoveryDone chan => Sys2Proof.Machine.execBusoffRecoveryDone chan s
  | .failback chan => Sys2Proof.Machine.execFailback chan s
  | .frameSendTimeout chan handle => Sys2Proof.Machine.execFrameSendTimeout chan handle s
  | .periodicSend chan obj => Sys2Proof.Machine.execPeriodicSend chan obj s
  | .referenceMessageSend chan => Sys2Proof.Machine.execReferenceMessageSend chan s
  | .referenceMessage chan ident data eof => Sys2Proof.Machine.execReferenceMessage chan ident data eof s
  | .referenceMissing chan => Sys2Proof.Machine.execReferenceMissing chan s
  | .busSend r => Sys2Proof.Machine.execBusSend r s
  | .busTxWait r => Sys2Proof.Machine.execBusTxWait r s
  | .busSubscribe r => Sys2Proof.Machine.execBusSubscribe r s
  | .busUnsubscribe r => Sys2Proof.Machine.execBusUnsubscribe r s
  | .busRxWait r => Sys2Proof.Machine.execBusRxWait r s
  | .busObjRead r => Sys2Proof.Machine.execBusObjRead r s
  | .busStatus r => Sys2Proof.Machine.execBusStatus r s
  | .busRecover r => Sys2Proof.Machine.execBusRecover r s
  | .busCancel r => Sys2Proof.Machine.execBusCancel r s
  | .ethFrame port bytes fcsOk => Sys2Proof.Machine.execEthFrame port bytes fcsOk s
  | .arpRequest port mac ip target => Sys2Proof.Machine.execArpRequest port mac ip target s
  | .icmpEcho port mac ip dst data => Sys2Proof.Machine.execIcmpEcho port mac ip dst data s
  | .ptpMessage m => Sys2Proof.Machine.execPtpMessage m s
  | .loopProbeSend port => Sys2Proof.Machine.execLoopProbeSend port s
  | .loopProbeReturn port back => Sys2Proof.Machine.execLoopProbeReturn port back s
  | .loopGuardRelease => Sys2Proof.Machine.execLoopGuardRelease s
  | .phyPoll link gigabit => Sys2Proof.Machine.execPhyPoll link gigabit s
  | .linkChange port cause => Sys2Proof.Machine.execLinkChange port cause s
  | .springClockUpdate => Sys2Proof.Machine.execSpringClockUpdate s
  | .sessionIdle session => Sys2Proof.Machine.execSessionIdle session s
  | .authLockoutEnd addr via => Sys2Proof.Machine.execAuthLockoutEnd addr via s
  | .netSessionOpen r => Sys2Proof.Machine.execNetSessionOpen r s
  | .netSessionAuth r => Sys2Proof.Machine.execNetSessionAuth r s
  | .netSessionClose r => Sys2Proof.Machine.execNetSessionClose r s
  | .netStatus r => Sys2Proof.Machine.execNetStatus r s
  | .netKey r => Sys2Proof.Machine.execNetKey r s
  | .freshetOffer port mac ip dgram => Sys2Proof.Machine.execFreshetOffer port mac ip dgram s
  | .freshetOpen port mac ip dgram => Sys2Proof.Machine.execFreshetOpen port mac ip dgram s
  | .freshetChallenge port mac ip dgram => Sys2Proof.Machine.execFreshetChallenge port mac ip dgram s
  | .freshetAuth port mac ip dgram => Sys2Proof.Machine.execFreshetAuth port mac ip dgram s
  | .freshetAccept port mac ip dgram => Sys2Proof.Machine.execFreshetAccept port mac ip dgram s
  | .freshetGet port mac ip dgram => Sys2Proof.Machine.execFreshetGet port mac ip dgram s
  | .freshetData port mac ip dgram => Sys2Proof.Machine.execFreshetData port mac ip dgram s
  | .freshetRefuse port mac ip dgram => Sys2Proof.Machine.execFreshetRefuse port mac ip dgram s
  | .freshetDone port mac ip dgram => Sys2Proof.Machine.execFreshetDone port mac ip dgram s
  | .freshetOfferTimer port => Sys2Proof.Machine.execFreshetOfferTimer port s
  | .imageVerifyDone readBack => Sys2Proof.Machine.execImageVerifyDone readBack s
  | .sessionLockIdle => Sys2Proof.Machine.execSessionLockIdle s
  | .activationStart => Sys2Proof.Machine.execActivationStart s
  | .norBlockDone ok readable => Sys2Proof.Machine.execNorBlockDone ok readable s
  | .grantWindowClose => Sys2Proof.Machine.execGrantWindowClose s
  | .trialTimeJournal => Sys2Proof.Machine.execTrialTimeJournal s
  | .trialBootsClear => Sys2Proof.Machine.execTrialBootsClear s
  | .watermarkTrialTimeout => Sys2Proof.Machine.execWatermarkTrialTimeout s
  | .partialImageExpired => Sys2Proof.Machine.execPartialImageExpired s
  | .fshStatus r => Sys2Proof.Machine.execFshStatus r s
  | .fshOpen r => Sys2Proof.Machine.execFshOpen r s
  | .fshBlock r => Sys2Proof.Machine.execFshBlock r s
  | .fshGrant r => Sys2Proof.Machine.execFshGrant r s
  | .fshConfirm r => Sys2Proof.Machine.execFshConfirm r s
  | .fshDiscard r => Sys2Proof.Machine.execFshDiscard r s
  | .fshRestore r => Sys2Proof.Machine.execFshRestore r s
  | .reamTokenRefill code => Sys2Proof.Machine.execReamTokenRefill code s
  | .suppressionTimeout code => Sys2Proof.Machine.execSuppressionTimeout code s
  | .regionTestDone fails others => Sys2Proof.Machine.execRegionTestDone fails others s
  | .reamStatus r => Sys2Proof.Machine.execReamStatus r s
  | .reamRead r => Sys2Proof.Machine.execReamRead r s
  | .reamReadBulk r => Sys2Proof.Machine.execReamReadBulk r s
  | .reamReadBulkComplete side sluice tag => Sys2Proof.Machine.execReamReadBulkComplete side sluice tag s
  | .reamCodeInfo r => Sys2Proof.Machine.execReamCodeInfo r s
  | .reamChallenge r => Sys2Proof.Machine.execReamChallenge r s
  | .reamClear r => Sys2Proof.Machine.execReamClear r s
  | .reamTimeSet r => Sys2Proof.Machine.execReamTimeSet r s
  | .absStatus r => Sys2Proof.Machine.execAbsStatus r s
  | .ageRead r => Sys2Proof.Machine.execAgeRead r s
  | .ageRebase r => Sys2Proof.Machine.execAgeRebase r s
  | .ageingDaily ws => Sys2Proof.Machine.execAgeingDaily ws s
  | .ref25Lost windows => Sys2Proof.Machine.execRef25Lost windows s
  | .ref25Restored => Sys2Proof.Machine.execRef25Restored s
  | .pllLockLost pll => Sys2Proof.Machine.execPllLockLost pll s
  | .rtc32Failed => Sys2Proof.Machine.execRtc32Failed s
  | .rtc32Restored => Sys2Proof.Machine.execRtc32Restored s
  | .muxForced mux old new => Sys2Proof.Machine.execMuxForced mux old new s
  | .gateBusyTimeout block initiator addr => Sys2Proof.Machine.execGateBusyTimeout block initiator addr s
  | .oscCompensation item trim => Sys2Proof.Machine.execOscCompensation item trim s
  | .freqMeasureDone n m start => Sys2Proof.Machine.execFreqMeasureDone n m start s
  | .freqMeasureTimeout => Sys2Proof.Machine.execFreqMeasureTimeout s
  | .clkStatus r => Sys2Proof.Machine.execClkStatus r s
  | .clkGate r => Sys2Proof.Machine.execClkGate r s
  | .clkMeasure r => Sys2Proof.Machine.execClkMeasure r s
  | .tempSample temps => Sys2Proof.Machine.execTempSample temps s
  | .thermalModelCheck pred => Sys2Proof.Machine.execThermalModelCheck pred s
  | .thermalWarningClear => Sys2Proof.Machine.execThermalWarningClear s
  | .thermalTrip sensor rate mdeg => Sys2Proof.Machine.execThermalTrip sensor rate mdeg s
  | .tripHoldEnd temps => Sys2Proof.Machine.execTripHoldEnd temps s
  | .pwrStatus r => Sys2Proof.Machine.execPwrStatus r s
  | .thermStatus r => Sys2Proof.Machine.execThermStatus r s
  | .rsvMeasure r => Sys2Proof.Machine.execRsvMeasure r s
  | .applicationFaultStop => Sys2Proof.Machine.execApplicationFaultStop s
  | .airCaptureComplete sweeps => Sys2Proof.Machine.execAirCaptureComplete sweeps s
  | .leakCleared chan unexplained => Sys2Proof.Machine.execLeakCleared chan unexplained s
  | .headroomCleared chan openLoad => Sys2Proof.Machine.execHeadroomCleared chan openLoad s
  | .islandStationStale station => Sys2Proof.Machine.execIslandStationStale station s
  | .coinCellFitted uv => Sys2Proof.Machine.execCoinCellFitted uv s
  | .peaksBlockedLowSupply uv => Sys2Proof.Machine.execPeaksBlockedLowSupply uv s
  | .clearRefusalEnd => Sys2Proof.Machine.execClearRefusalEnd s

end Sys2Proof.Machine
end

