-- ==== Sys2Proof/Machine/Idle.lean ====
section
/-! DEFINITION. What the block does while no command waits: time goes on (spec/00_scope.md R12; spec/13_line_uplink.md R453;
spec/17_clocks.md R550; notes/assumptions/1.md). -/

namespace Sys2Proof.Machine

/-- The clock of the Spring domain runs while that has power (spec/18_power_reservoir_thermal.md R569). -/
def springTick (s : State) : State :=
  if s.power.springPowered then onPower (fun p => { p with springNs := p.springNs + 40 }) s else s

/-- One period of the 25 MHz device time: calendar, F0 and what derives from it, and the frames that wait at the ports.
In VAULT and ICE only the Spring domain keeps time. -/
def tick (s : State) : State :=
  match s.sys.mode with
  | .vault => if s.power.springPowered then springTick (advanceCal 40 s) else s
  | .ice => springTick s
  | _ => transmit (afterMove (passTime 40 (springTick s)))

/-- An idle step is settled as every command's effect is. -/
def idle (s : State) : State := settled s (tick s)

end Sys2Proof.Machine
end

