-- ==== Sys2Proof/Safety.lean ====
section
/-! DEFINITION. The words the statements use: what a sound state is, when a request is taken up, when an effect leaves the
mode alone, and what a command that only reports leaves alone. -/

namespace Sys2Proof.Machine

/-- RUN and STILL only without a HOLD cause, HOLD only with one (spec/01_one_view.md R33, R36, R38). -/
abbrev modeAgrees (s : State) : Prop :=
  (s.sys.mode = .run → s.sys.holdCauses = 0) ∧ (s.sys.mode = .still → s.sys.holdCauses = 0) ∧
    (s.sys.mode = .hold → s.sys.holdCauses ≠ 0)

/-- The application cores run only where Evver serves and an application may run (spec/01_one_view.md R25, R43). -/
abbrev appAgrees (s : State) : Prop :=
  s.sys.appRunning = true → s.sys.ready = true ∧ (s.sys.mode = .commission ∨ s.sys.mode = .run ∨ s.sys.mode = .hold)

/-- Each bank's supply switch is closed exactly where the rules want it, and the boost runs exactly where they want it
(spec/10_valve_drive.md R353, R354, R369, R379). -/
abbrev supplied (s : State) : Prop :=
  (∀ b, b < 3 → (bank s b).closed = hsWanted s b) ∧ (boostOn s = true ↔ s.valves.boost ≠ 0)

/-- What every step leaves true. -/
abbrev sound (s : State) : Prop := modeAgrees s ∧ appAgrees s ∧ supplied s

/-- Where the answer to a request goes. -/
def reqOrg (code : Nat) (r : Req) : Org :=
  { side := r.side, sluice := r.sluice % 16, tag := r.tag, code := code, flags := r.flags, bg := isBg code }

/-- The state once Evver has taken the request's window; a repeat of its datagram will be known (spec/02_sluices.md R62,
R84). -/
def taken (r : Req) (s : State) : State := heardTag r (takeWindow r.side r.sluice s)

/-- The state that the request is carried out on: its sluice has had its turn (R70). -/
def begun (code : Nat) (r : Req) (s : State) : State := takeTurn (r.sluice % 16) (serviceRank (r.sluice % 16) code r.flags) (taken r s)

/-- A request with this code is taken up: the interface is served, neither re-execution nor last gasp is under way, no waiting
request goes before it (R70), the sluice is the side's own command sluice and free, no segmented request is open on it, and every check of R66
passes. -/
def asks (code : Nat) (r : Req) (s : State) : Bool :=
  served s && !waits s (r.sluice % 16) (serviceRank (r.sluice % 16) code r.flags) &&
    match ownSluice s r.side r.sluice with
    | none => false
    | some sl => (sl.st == .idle || sl.st == .resp) && sl.role != 1 && sl.held.isNone &&
        (headerCheck s r.side (r.sluice % 16) code r.tag r.flags 0 r.payload.length (segmented r s) true).isNone

/-- The final answer of a foreground request, or of a background one answered at once. -/
def answered (code : Nat) (r : Req) (status : Nat) (data : List Byte) (t : State) : State := place (reqOrg code r) status data t

/-- The state once the switch has counted a frame of an external port and learned its sender (spec/13_line_uplink.md R453,
R469). -/
def counted (p : Nat) (mac : List Byte) (s : State) : State := learn mac p (modPort p (fun x => { x with rx := w32 (x.rx + 1) }) s)

/-- A frame of an external port goes further: the switch is on and the port is not blocked (spec/13_line_uplink.md R455,
R456). -/
abbrev comesIn (s : State) (p : Nat) : Prop := switchOn s = true ∧ p ≤ 2 ∧ portBlocked s p = false

/-- A PTP message comes to the ordinary clock, over its transport and in its domain (spec/13_line_uplink.md R459). -/
abbrev heardPtp (s : State) (m : PtpMsg) : Prop :=
  comesIn s m.port ∧ devicePort s = true ∧ s.absorb.reexecuting = false ∧ ordinaryClock s = true ∧ m.transport = g1 (netBody s) 34 ∧
    m.domain = g1 (netBody s) 33

/-- Its sender is the clock that is followed. -/
abbrev fromChosen (s : State) (m : PtpMsg) : Prop :=
  s.net.ptpChosen = some m.source ∧ s.net.ptpMasters.any (fun x => x.source == m.source) = true

def isAnnounce : PtpBody → Bool
  | .announce _ _ _ _ _ _ => true
  | _ => false

/-- The wheel entry that a WHEEL_SCHEDULE request of a side describes (spec/04_felt_time.md R172). -/
def entryOf (d : Side) (b : List Byte) : Entry :=
  { owner := .side d, felt := g1 b 0, kind := g1 b 1, policy := g1 b 2, report := g1 b 3, pos := g4 b 4, station := g2 b 8,
    value := i4 b 12, cookie := g4 b 16 }

/-- The fields of a WHEEL_SCHEDULE request are in range (spec/04_felt_time.md R172). -/
abbrev scheduleFields (b : List Byte) : Prop :=
  g1 b 0 ≤ 7 ∧ 1 ≤ g1 b 1 ∧ g1 b 1 ≤ 4 ∧ g1 b 2 ≤ 2 ∧ g1 b 3 ≤ 1 ∧ g2 b 10 = 0 ∧ (g1 b 1 = 1 → g2 b 8 = 0xFFFF ∧ i4 b 12 = 0)

/-- Its felt and station exist and fit its kind and value, and no zone's programme holds the station
(spec/04_felt_time.md R172). -/
abbrev scheduleFits (d : Side) (b : List Byte) (s : State) : Prop :=
  (feltOn s (g1 b 0) = true ∨ g1 b 0 = 0) ∧
  (g1 b 1 ≠ 1 → g2 b 8 < 128 ∧ stn s (g2 b 8) ≠ [] ∧ kindMatches s (g1 b 1) (g2 b 8) = true ∧
    entryValueOk s (g1 b 1) (g2 b 8) (i4 b 12) = true) ∧
  (3 ≤ g1 b 1 → inRunningZone s (g2 b 8) = true → d = .app ∧ zoneProg s (stnZone s (g2 b 8)) = 1)

/-- An effect that neither enters another mode nor changes a HOLD cause. -/
abbrev keepsMode (s t : State) : Prop := t.sys.mode = s.sys.mode ∧ t.sys.holdCauses = s.sys.holdCauses

/-- What settling an effect may still change where mode, causes, switches and boost stand as they should: interrupt status,
whether the application runs, what was sent, and a store of a waiting Ream record; and what a report may, the counter of free
values, which only goes up. Nothing else differs. -/

abbrev sameMachine (s t : State) : Prop :=
  t.sys = { s.sys with appRunning := t.sys.appRunning } ∧
  t.hifSpi = { s.hifSpi with irqStatus := t.hifSpi.irqStatus } ∧ t.hifApp = { s.hifApp with irqStatus := t.hifApp.irqStatus } ∧
  t.net = { s.net with sent := t.net.sent, ports := t.net.ports } ∧ t.power = { s.power with stores := t.power.stores } ∧
  t.hb = s.hb ∧ t.cfg = s.cfg ∧ t.stn = s.stn ∧ t.felt = s.felt ∧ t.weir = s.weir ∧ t.island = s.island ∧ t.engine = s.engine ∧
  t.wgt = s.wgt ∧ t.zones = s.zones ∧ t.valves = s.valves ∧ t.field = s.field ∧ t.bus = s.bus ∧ t.fsh = s.fsh ∧ t.ream = s.ream ∧
  t.absorb = s.absorb ∧ t.clk = s.clk ∧ s.fresh ≤ t.fresh ∧ t.pending = s.pending

/-- Commands that a sluice carries and that answer as R66 and R77 of spec/02_sluices.md say, with their codes. -/
def requestOf : Instr → Option (Nat × Req)
  | .sysStatus r => some (0x0001, r)
  | .sysHeartbeat r => some (0x0002, r)
  | .sysAbort r => some (0x0003, r)
  | .sysModeRequest r => some (0x0004, r)
  | .sysIdentify r => some (0x0005, r)
  | .sysReset r => some (0x0006, r)
  | .sysSluiceSetup r => some (0x0007, r)
  | .sysSluiceInfo r => some (0x0008, r)
  | .sysHeartbeatConfig r => some (0x0009, r)
  | .cfgOpen r => some (0x0101, r)
  | .cfgWriteObject r => some (0x0102, r)
  | .cfgCommit r => some (0x0103, r)
  | .cfgDiscard r => some (0x0104, r)
  | .cfgReadObject r => some (0x0105, r)
  | .cfgExport r => some (0x0106, r)
  | .cfgImport r => some (0x0107, r)
  | .cfgDeleteObject r => some (0x0108, r)
  | .cfgState r => some (0x0109, r)
  | .stRead r => some (0x0201, r)
  | .zoneStart r => some (0x0301, r)
  | .zoneStop r => some (0x0302, r)
  | .zoneStatus r => some (0x0303, r)
  | .zoneTarget r => some (0x0304, r)
  | .feltStatus r => some (0x0401, r)
  | .feltSet r => some (0x0402, r)
  | .wheelSchedule r => some (0x0403, r)
  | .wheelCancel r => some (0x0404, r)
  | .wheelStatus r => some (0x0405, r)
  | .parcelRead r => some (0x0406, r)
  | .parcelHistory r => some (0x0407, r)
  | .weirSample r => some (0x0501, r)
  | .weirRaw r => some (0x0502, r)
  | .weirTerminal r => some (0x0503, r)
  | .weirLinEval r => some (0x0504, r)
  | .wmLegalId r => some (0x0601, r)
  | .wmKey r => some (0x0602, r)
  | .wmStatus r => some (0x0603, r)
  | .wmParamOpen r => some (0x0604, r)
  | .wmParamWrite r => some (0x0605, r)
  | .wmParamCommit r => some (0x0606, r)
  | .wmParamDiscard r => some (0x0607, r)
  | .wmParamRead r => some (0x0608, r)
  | .wmAuditRead r => some (0x0609, r)
  | .wmRecordRead r => some (0x060A, r)
  | .mstStatus r => some (0x0701, r)
  | .mstCaptureAir r => some (0x0702, r)
  | .mstLoopback r => some (0x0703, r)
  | .mstSpectrum r => some (0x0704, r)
  | .wgtStatus r => some (0x0801, r)
  | .wgtRequest r => some (0x0802, r)
  | .wgtSignal r => some (0x0803, r)
  | .vlvSet r => some (0x0901, r)
  | .vlvPulse r => some (0x0902, r)
  | .vlvStatus r => some (0x0903, r)
  | .vlvBank r => some (0x0904, r)
  | .vlvResetFault r => some (0x0905, r)
  | .fioSet r => some (0x0A01, r)
  | .fioStatus r => some (0x0A02, r)
  | .fioFaultMask r => some (0x0A03, r)
  | .loopSet r => some (0x0A04, r)
  | .loopStatus r => some (0x0A05, r)
  | .busSend r => some (0x0B01, r)
  | .busSubscribe r => some (0x0B03, r)
  | .busUnsubscribe r => some (0x0B04, r)
  | .busObjRead r => some (0x0B06, r)
  | .busStatus r => some (0x0B07, r)
  | .busRecover r => some (0x0B08, r)
  | .busCancel r => some (0x0B09, r)
  | .netSessionClose r => some (0x0C03, r)
  | .netStatus r => some (0x0C04, r)
  | .netKey r => some (0x0C05, r)
  | .fshStatus r => some (0x0D01, r)
  | .fshOpen r => some (0x0D02, r)
  | .fshBlock r => some (0x0D03, r)
  | .fshGrant r => some (0x0D04, r)
  | .fshConfirm r => some (0x0D05, r)
  | .fshDiscard r => some (0x0D06, r)
  | .fshRestore r => some (0x0D07, r)
  | .reamStatus r => some (0x0E01, r)
  | .reamRead r => some (0x0E02, r)
  | .reamReadBulk r => some (0x0E03, r)
  | .reamCodeInfo r => some (0x0E04, r)
  | .reamChallenge r => some (0x0E05, r)
  | .reamClear r => some (0x0E06, r)
  | .reamTimeSet r => some (0x0E07, r)
  | .clkStatus r => some (0x0F01, r)
  | .clkGate r => some (0x0F02, r)
  | .clkMeasure r => some (0x0F03, r)
  | .pwrStatus r => some (0x0F20, r)
  | .thermStatus r => some (0x0F21, r)
  | .rsvMeasure r => some (0x0F22, r)
  | .absStatus r => some (0x0F50, r)
  | .ageRead r => some (0x0F51, r)
  | .ageRebase r => some (0x0F52, r)
  | _ => none

/-- Commands that only report. -/
def queryOf : Instr → Option (Nat × Req)
  | .sysStatus r => some (0x0001, r)
  | .sysIdentify r => some (0x0005, r)
  | .sysSluiceInfo r => some (0x0008, r)
  | .zoneStatus r => some (0x0303, r)
  | .wheelStatus r => some (0x0405, r)
  | .parcelRead r => some (0x0406, r)
  | .weirRaw r => some (0x0502, r)
  | .weirTerminal r => some (0x0503, r)
  | .weirLinEval r => some (0x0504, r)
  | .wmLegalId r => some (0x0601, r)
  | .wmKey r => some (0x0602, r)
  | .wmStatus r => some (0x0603, r)
  | .wmParamRead r => some (0x0608, r)
  | .wmRecordRead r => some (0x060A, r)
  | .mstStatus r => some (0x0701, r)
  | .wgtStatus r => some (0x0801, r)
  | .vlvStatus r => some (0x0903, r)
  | .loopStatus r => some (0x0A05, r)
  | .busStatus r => some (0x0B07, r)
  | .netStatus r => some (0x0C04, r)
  | .fshStatus r => some (0x0D01, r)
  | .reamStatus r => some (0x0E01, r)
  | .reamRead r => some (0x0E02, r)
  | .reamCodeInfo r => some (0x0E04, r)
  | .absStatus r => some (0x0F50, r)
  | .ageRead r => some (0x0F51, r)
  | _ => none

end Sys2Proof.Machine
end

