-- ==== Sys2Proof/Certificates/Slice0/Obligations.lean ====
section
/-! DEFINITION. The statements for the provers. `settled s E` is what follows every effect `E` of a command on `s`; where a
clause names a function of the model, it is the operation that the cited rule describes. -/

open Sys2Proof Sys2Proof.Machine

/-- A step carries out the front command; on an empty queue the block idles (the model's choice, notes/assumptions/1.md). -/
def Obligations.StepRunsFrontCommand : Prop :=
  (∀ (s : State) (c : Instr) (rest : List Instr), s.pending = c :: rest → step s = exec c { s with pending := rest }) ∧
  (∀ s : State, s.pending = [] → step s = .next (idle s) ∧ (idle s).pending = []) ∧
  (∀ s : State, s.pending = [] → s.sys.mode = .ice →
    step s = .next (settled s (if s.power.springPowered = true then onPower (fun p => { p with springNs := p.springNs + 40 }) s else s)))

/-- The spec gives the SR7 no event that stops it for good: every command completes, and none touches the queue. -/
def Obligations.EveryCommandAnswersNext : Prop :=
  (∀ (c : Instr) (s : State), ∃ t, exec c s = .next t ∧ t.pending = s.pending) ∧
  (∀ s : State, ∃ t, step s = .next t ∧ t.pending = s.pending.tail)

/-- The queue is served in order and wholly: the headline of a block that carries out commands. -/
def Obligations.QueueServedInOrder : Prop :=
  (∀ (s : State) (a b rest : List Instr), s.pending = a ++ (b ++ rest) →
    ∃ u t : State, core.run a.length s = .next u ∧ u.pending = b ++ rest ∧ core.run b.length u = .next t ∧ t.pending = rest ∧
      core.run (a.length + b.length) s = .next t)

/-- The mode and what depends on it agree after every step, so also from every state that agrees. -/
def Obligations.EveryStepLeavesSound : Prop :=
  (∀ s : State, ∃ t, step s = .next t ∧ sound t)

/-- Reset is sound. -/
def Obligations.ResetIsSound : Prop :=
  sound State.reset ∧ State.reset.sys.mode = .boot ∧ hrdy State.reset = false ∧ Memory.wf State.reset.mail.windows = true ∧
    State.reset.pending = []

/-- Reset values of the registers that a side reads (R14, R58–R60, R148) and of the clock gates (R551). -/
def Obligations.RegistersReadResetValues : Prop :=
  (∀ d : Side, d = .spi ∨ d = .app →
    hifWord State.reset d 0x00 = 0x5207B102 ∧ hifWord State.reset d 0x04 = 0x100 ∧ hifWord State.reset d 0x08 = 0 ∧
    hifWord State.reset d 0x0C = 0 ∧ hifWord State.reset d 0x10 = 0x80000000 ∧ hifWord State.reset d 0x14 = 0 ∧
    hifWord State.reset d 0x18 = 0 ∧ hifWord State.reset d 0x1C = 0 ∧
    hifWord State.reset d 0x24 = 0 ∧ hifWord State.reset d 0x28 = 0xFFFFFFFF ∧
    mirrorWord State.reset d 0x8100 = 0 ∧ mirrorWord State.reset d 0x8104 = 0 ∧ mirrorWord State.reset d 0x8108 = 0 ∧
    mirrorWord State.reset d 0x810C = 0) ∧
  (∀ f : Nat, f < 8 → mirror State.reset f = [0, if f = 0 then 1 else 0, 0, 0, 0, 0, 0, 0]) ∧
  State.reset.clk.gate0 = 0x33333331 ∧ State.reset.clk.gate1 = 0x43133333

/-- What a command leaves unchanged: its statement gives its effect E whole, and settling adds this much and no more. -/
def Obligations.SettlingIsQuiet : Prop :=
  (∀ s e : State, sound s → keepsMode s e → supplied e → e.pending = s.pending → (∀ j ∈ s.mail.jobs, j.answer = none) →
    sameMachine e (settled s e) ∧ (settled s e).fresh = e.fresh ∧ (settled s e).mail = { e.mail with udpOut := (settled s e).mail.udpOut } ∧
      (settled s e).net = { (sendAll s e).net with sent := (sendAll s e).net.sent.drop s.net.sent.length } ∧
      (settled s e).mail.udpOut = e.mail.udpOut.drop s.mail.udpOut.length ∧
      (hifOf (settled s e) .spi).irqStatus =
        (hifOf e .spi).irqStatus ||| (if faultPin e && !faultPin s then 0x40000000 else 0))

/-- Commands that only report change their sluice and its window, the SLU bit, and what was sent. -/
def Obligations.QueriesLeaveTheMachine : Prop :=
  (∀ (c : Instr) (code : Nat) (r : Req) (s : State) (a : Nat), queryOf c = some (code, r) → asks code r s = true → sound s → (∀ j ∈ s.mail.jobs, j.answer = none) →
    (a < winAddr (slKey r.side r.sluice) 0 ∨ winAddr (slKey r.side r.sluice) 0 + segRoom s r.side r.sluice + 16 ≤ a) →
    ∃ t, exec c s = .next t ∧ sameMachine s t ∧ Memory.read t.mail.windows a = Memory.read s.mail.windows a ∧ t.mail.jobs = s.mail.jobs ∧
      t.mail.notices = s.mail.notices) ∧
  (∀ (c : Instr) (code : Nat) (r : Req) (s : State) (k : Nat), queryOf c = some (code, r) → asks code r s = true → sound s → (∀ j ∈ s.mail.jobs, j.answer = none) →
    k ≠ slKey r.side r.sluice → ∃ t, exec c s = .next t ∧ tget t.mail.sluices k = tget s.mail.sluices k)

/-- Window memory: what an answer and a write store, and where (R62, R65, R71). -/
def Obligations.AnswersStandInTheirWindow : Prop :=
  (∀ (s : State) (o : Org) (st : Nat) (data : List Byte), (o.side = .spi ∨ o.side = .app) → Memory.wf s.mail.windows = true →
    Memory.wf (place o st data s).mail.windows = true ∧
    readWin (place o st data s) (slKey o.side o.sluice) 0 16 =
      header o.code o.tag (if data.length > segRoom s o.side o.sluice then 1 else 0) st data.length 0 0 ∧
    readWin (place o st data s) (slKey o.side o.sluice) 16 (min data.length (segRoom s o.side o.sluice)) =
      data.take (segRoom s o.side o.sluice)) ∧
  (∀ (s : State) (o : Org) (st : Nat) (data : List Byte) (a : Nat), (o.side = .spi ∨ o.side = .app) →
    (a < winAddr (slKey o.side o.sluice) 0 ∨
      winAddr (slKey o.side o.sluice) 16 + min data.length (segRoom s o.side o.sluice) ≤ a) →
    Memory.read (place o st data s).mail.windows a = Memory.read s.mail.windows a) ∧
  (∀ (s : State) (k off : Nat) (bs : List Byte) (a : Nat), Memory.wf s.mail.windows = true →
    Memory.wf (writeWin k off bs s).mail.windows = true ∧ readWin (writeWin k off bs s) k off bs.length = bs ∧
    ((a < winAddr k off ∨ winAddr k off + bs.length ≤ a) →
      Memory.read (writeWin k off bs s).mail.windows a = Memory.read s.mail.windows a))

/-- The checks of R66: the answer is the first failure's status, and nothing else happens. -/
def Obligations.RefusedRequestsAnswerTheirStatus : Prop :=
  (∀ (c : Instr) (code : Nat) (r : Req) (s : State) (sl : Sluice) (st : Nat), requestOf c = some (code, r) → served s = true →
    ownSluice s r.side r.sluice = some sl → (sl.st = .idle ∨ sl.st = .resp) → sl.role ≠ 1 → sl.held = none →
    headerCheck s r.side (r.sluice % 16) code r.tag r.flags 0 r.payload.length (segmented r s) true = some st →
    exec c s = .next (settled s (answered code r st [] (taken r s))))

/-- FELT_STATUS (R170). -/
def Obligations.FeltStatusReadsTheMirror : Prop :=
  (∀ (s : State) (r : Req), asks 0x0401 r s = true → g1 r.payload 0 ≤ 7 → g1 r.payload 1 = 0 → zeroAt r.payload 2 2 = true →
    exec (.feltStatus r) s = .next (settled s (answered 0x0401 r sOK ((mirror s (g1 r.payload 0)).flatMap p4) (begun 0x0401 r s)))) ∧
  (∀ (s : State) (r : Req), asks 0x0401 r s = true → g1 r.payload 0 ≤ 7 → g1 r.payload 1 = 1 → zeroAt r.payload 2 2 = true →
    exec (.feltStatus r) s =
      .next (settled s (answered 0x0401 r sOK ((mirror s (g1 r.payload 0)).flatMap p4)
        (modFelt (g1 r.payload 0) (fun x => { x with state := x.state &&& ~~~0x2A0 }) (begun 0x0401 r s))))) ∧
  (∀ (s : State) (r : Req), asks 0x0401 r s = true →
    (7 < g1 r.payload 0 ∨ 1 < g1 r.payload 1 ∨ zeroAt r.payload 2 2 = false) →
    exec (.feltStatus r) s = .next (settled s (answered 0x0401 r sBADOBJ [] (begun 0x0401 r s)))) ∧
  (∀ (s : State) (f : Nat), ((mirror s f).flatMap p4).length = 32) ∧
  (∀ (s : State) (o : Org) (st : Nat) (data : List Byte), (place o st data s).ream = s.ream)

/-- SYS_HEARTBEAT (R88). -/
def Obligations.HeartbeatEchoes : Prop :=
  (∀ (s : State) (r : Req), asks 0x0002 r s = true →
    r.payload.length = 4 ∧ (r.payload ++ zeros 4 ++ p8 s.sys.devTime).length = 16 ∧
    exec (.sysHeartbeat r) s =
      .next (settled s (answered 0x0002 r sOK (r.payload ++ zeros 4 ++ p8 s.sys.devTime)
        (hbRestart r.side (hbRestored r.side (begun 0x0002 r s)))))) ∧
  (∀ (s : State) (d : Side), hbLost s d = false → hbRestored d s = s) ∧
  (∀ (s : State) (d : Side) (t : Nat), s.hb.lost = [(d, t)] →
    hbRestored d s = setCause 0 false (note 0x0021 [sideCode d, nsMs (s.sys.devTime - t)]
      { s with hb := { s.hb with lost := [] } }))

/-- E = ½ · C · (VHOLD² − (18 V)²) (R563): ½ µF · µV² is 5·10⁻¹⁹ J, the unit of `energy`. -/
def Obligations.UsableEnergyIsComputed : Prop :=
  (∀ (s : State) (uv : Int), sound s → s.power.capKnown = true → 18000000 ≤ uv →
    ∃ t, exec (.reservoirEnergyUpdate uv) s = .next t ∧ (t.power.energy : Int) = s.power.capUf * (uv * uv - 18000000 * 18000000) ∧ t.power.vhold = uv) ∧
  (∀ (s : State) (uv : Int), sound s → uv < 18000000 →
    ∃ t, exec (.reservoirEnergyUpdate uv) s = .next t ∧ t.power.energy = 0) ∧
  (∀ (s : State) (uv : Int), sound s → s.power.capKnown = false →
    ∃ t, exec (.reservoirEnergyUpdate uv) s = .next t ∧ t.power.energy = 0)

/-- SPI frames (R54–R57). -/
def Obligations.SpiFramesAreCarriedOut : Prop :=
  (∀ (s : State) (addr : Nat) (data : List Byte), s.sys.mode ≠ .recovery → s.sys.ready = true →
    s.hifSpi.ctrl.getLsbD 1 = false →
    exec (.spiWrite addr data .whole) s = .next (settled s (hostStore .spi (addr % 65536) data (bareFrame 0 s)))) ∧
  (∀ (s : State) (addr : Nat) (data : List Byte), s.sys.mode ≠ .recovery → s.sys.ready = true →
    s.hifSpi.ctrl.getLsbD 1 = false →
    exec (.spiWrite addr data .insideByte) s =
      .next (settled s (hifErr .spi 4 (hostStore .spi (addr % 65536) data (bareFrame 0 s))))) ∧
  (∀ (s : State) (addr : Nat) (data : List Byte), s.sys.mode ≠ .recovery → s.sys.ready = true →
    s.hifSpi.ctrl.getLsbD 1 = false →
    exec (.spiWrite addr data .insideAddress) s = .next (settled s (hifErr .spi 4 (stubFrame s)))) ∧
  (∀ (s : State) (addr : Nat) (data : List Byte) (fin : FrameEnd), s.sys.mode ≠ .recovery → s.sys.ready = true →
    s.hifSpi.ctrl.getLsbD 1 = true →
    exec (.spiWrite addr data fin) s = .next (settled s (hifErr .spi 2 (bareFrame data.length s)))) ∧
  (∀ (s : State) (addr len : Nat), s.sys.mode ≠ .recovery → s.sys.ready = true → s.hifSpi.ctrl.getLsbD 1 = false →
    exec (.spiRead addr len .whole) s =
      .next (settled s (setMiso (statusByte s :: 0 :: 0 :: (hostRead .spi (addr % 65536) len s).1)
        (hostRead .spi (addr % 65536) len s).2))) ∧
  (∀ (s : State) (addr len : Nat), s.sys.mode ≠ .recovery → s.sys.ready = true → s.hifSpi.ctrl.getLsbD 1 = false →
    exec (.spiRead addr len .insideByte) s =
      .next (settled s (hifErr .spi 4 (setMiso (statusByte s :: 0 :: 0 :: (hostRead .spi (addr % 65536) len s).1)
        (hostRead .spi (addr % 65536) len s).2)))) ∧
  (∀ (s : State) (addr len : Nat), s.sys.mode ≠ .recovery → s.sys.ready = true → s.hifSpi.ctrl.getLsbD 1 = false →
    exec (.spiRead addr len .insideAddress) s = .next (settled s (hifErr .spi 4 (stubFrame s)))) ∧
  (∀ (s : State) (addr len : Nat) (fin : FrameEnd), s.sys.mode ≠ .recovery → s.sys.mode ≠ .vault → s.sys.ready = false →
    exec (.spiRead addr len fin) s =
      .next (settled s (modHif .spi (fun h => { h with notReady := true }) (bareFrame len s)))) ∧
  (∀ (s : State) (addr : Nat) (data : List Byte), served s = true → 1 ≤ data.length → data.length ≤ 4096 →
    exec (.spiWriteCrc addr data.length data
        (crc16 ((0x0A : Byte) :: beBytes 2 addr ++ beBytes 2 data.length ++ data)) .complete) s =
      .next (settled s (hostStore .spi (addr % 65536) data (bareFrame 0 s)))) ∧
  (∀ (s : State) (addr crc : Nat) (data : List Byte), served s = true → 1 ≤ data.length → data.length ≤ 4096 →
    crc16 ((0x0A : Byte) :: beBytes 2 addr ++ beBytes 2 data.length ++ data) ≠ crc →
    exec (.spiWriteCrc addr data.length data crc .complete) s = .next (settled s (hifErr .spi 3 (bareFrame 0 s)))) ∧
  (∀ (s : State) (addr len crc : Nat) (data : List Byte), served s = true → 1 ≤ len → len ≤ 4096 →
    exec (.spiWriteCrc addr len data crc .cut) s = .next (settled s (hifErr .spi 4 (bareFrame 0 s))) ∧
    exec (.spiWriteCrc addr len data crc .extra) s = .next (settled s (hifErr .spi 3 (bareFrame 0 s)))) ∧
  (∀ (s : State) (addr len extra : Nat), served s = true → 1 ≤ len → len ≤ 4096 →
    exec (.spiReadCrc addr len (.whole extra)) s =
      .next (settled s (setMiso
        (statusByte s :: 0 :: 0 :: (hostRead .spi (addr % 65536) len s).1 ++
          beBytes 2 (crc16 ((0x0B : Byte) :: beBytes 2 addr ++ beBytes 2 len ++ (hostRead .spi (addr % 65536) len s).1)) ++
          zeros extra)
        (hostRead .spi (addr % 65536) len s).2))) ∧
  (∀ (s : State) (addr len n : Nat), served s = true → 1 ≤ len → len ≤ 4096 → n < len →
    exec (.spiReadCrc addr len (.cut n)) s =
      .next (settled s (hifErr .spi 4 (setMiso (statusByte s :: 0 :: 0 :: (windowRead .spi (addr % 65536) n s).1)
        (windowRead .spi (addr % 65536) n s).2)))) ∧
  (∀ (s : State) (addr len n : Nat), served s = true → 1 ≤ len → len ≤ 4096 → len ≤ n →
    exec (.spiReadCrc addr len (.cut n)) s =
      .next (settled s (setMiso
        (statusByte s :: 0 :: 0 :: fit n ((hostRead .spi (addr % 65536) len s).1 ++
          beBytes 2 (crc16 ((0x0B : Byte) :: beBytes 2 addr ++ beBytes 2 len ++ (hostRead .spi (addr % 65536) len s).1))))
        (hostRead .spi (addr % 65536) len s).2))) ∧
  (∀ (s : State) (b : Byte), served s = true → b ≠ 0x02 → b ≠ 0x03 → b ≠ 0x0A → b ≠ 0x0B →
    exec (.spiFrameIgnored b) s = .next (settled s (setMiso [statusByte s, 0, 0] s)))

/-- Registers and latches (R13, R57, R59, R60, R148). -/
def Obligations.HostRegistersFollowAccessTypes : Prop :=
  (∀ (s : State) (d : Side) (v : Reg), served s = true →
    exec (.hifIrqStatusClear d v) s =
      .next (settled s (modHif d (fun h => { h with irqStatus := h.irqStatus &&& ~~~v }) s))) ∧
  (∀ (s : State) (d : Side) (v : Reg), served s = false →
    exec (.hifIrqStatusClear d v) s = .next (settled s (lateFrame d s)) ∧
    exec (.hifErrClear d v) s = .next (settled s (lateFrame d s))) ∧
  (∀ (s : State) (d : Side) (v : Reg), served s = true →
    exec (.hifErrClear d v) s = .next (settled s (modHif d (fun h => { h with err := h.err &&& ~~~v }) s))) ∧
  (∀ (s : State) (addr : Nat) (data : List Byte), s.sys.mode ≠ .recovery → s.sys.ready = true →
    s.hifSpi.ctrl.getLsbD 1 = false →
    exec (.registerWrite .spi addr data) s = .next (settled s (hostStore .spi (addr % 65536) data (bareFrame 0 s)))) ∧
  (∀ (s : State) (addr : Nat) (data : List Byte), s.sys.ready = true → appMay s addr data.length = true →
    exec (.registerWrite .app addr data) s = .next (settled s (setBusError false [] (hostStore .app addr data s)))) ∧
  (∀ (s : State) (addr : Nat) (data : List Byte), s.sys.ready = true → appMay s addr data.length = false →
    exec (.registerWrite .app addr data) s = .next (settled s (setBusError true [] s))) ∧
  (∀ (s : State) (n addr : Nat) (data : List Byte), exec (.registerWrite (.udp n) addr data) s = .next (settled s s)) ∧
  (∀ (s : State) (d : Side) (v : Reg), (d = .spi ∨ d = .app) →
    hostStore d 0x14 (leBytes 4 v.toNat) s = modHif d (fun h => { h with irqEnable := v &&& 0xF000FFFF#32 }) s ∧
    hostStore d 0x08 (leBytes 4 v.toNat) s = modHif d (fun h => { h with ctrl := v &&& 0x3#32 }) s ∧
    hostStore d 0x0C (leBytes 4 v.toNat) s = modHif d (fun h => { h with windowSel := v &&& 0x70F#32 }) s ∧
    hostStore d 0x04 (leBytes 4 v.toNat) s = s ∧ hostStore d 0x8100 (leBytes 4 v.toNat) s = s) ∧
  (∀ s : State, s.sys.ready = true →
    exec (.devtimeLoRead .app) s =
      .next (settled s (setBusError false (leBytes 4 (s.sys.devTime % 4294967296)) (latchTime .app s)))) ∧
  (∀ s : State, s.sys.mode ≠ .recovery → s.sys.ready = true → s.hifSpi.ctrl.getLsbD 1 = false →
    exec (.devtimeLoRead .spi) s =
      .next (settled s (setMiso (statusByte s :: 0 :: 0 :: leBytes 4 (s.sys.devTime % 4294967296)) (latchTime .spi s)))) ∧
  (∀ (s : State) (n f : Nat), exec (.devtimeLoRead (.udp n)) s = .next (settled s s) ∧
    exec (.feltPosRead (.udp n) f) s = .next (settled s s)) ∧
  (∀ (s : State) (f : Nat), f < 8 → s.sys.ready = true →
    exec (.feltPosRead .app f) s =
      .next (settled s (setBusError false (leBytes 4 (w32 (felt s f).pos)) (latchFelt .app f s)))) ∧
  (∀ (s : State) (f : Nat), f < 8 → s.sys.mode ≠ .recovery → s.sys.ready = true → s.hifSpi.ctrl.getLsbD 1 = false →
    exec (.feltPosRead .spi f) s =
      .next (settled s (setMiso (statusByte s :: 0 :: 0 :: leBytes 4 (w32 (felt s f).pos)) (latchFelt .spi f s))))

/-- Doorbell, release, segment timeout (R62–R64, R73, R74). -/
def Obligations.SluicesMoveOnDoorbellAndRelease : Prop :=
  (∀ (s : State) (d : Side) (v : Byte) (sl : Sluice), (d = .spi ∨ d = .app) → served s = true →
    ownSluice s d (v.toNat % 16) = some sl → (sl.st = .idle ∨ sl.st = .resp) → sl.role ≠ 1 →
    exec (.hifDoorbellWrite d v) s =
      .next (settled s (submit d (v.toNat % 16) (hdrOf (readWin s (slKey d (v.toNat % 16)) 0 16))
        (readWin s (slKey d (v.toNat % 16)) 16 (segRoom s d (v.toNat % 16))) s))) ∧
  (∀ (s : State) (d : Side) (v : Byte), (d = .spi ∨ d = .app) → served s = true → ownSluice s d (v.toNat % 16) = none →
    exec (.hifDoorbellWrite d v) s = .next (settled s (hifErr d 0 s)) ∧
    exec (.hifReleaseWrite d v) s = .next (settled s (hifErr d 0 s))) ∧
  (∀ (s : State) (d : Side) (v : Byte) (sl : Sluice), (d = .spi ∨ d = .app) → served s = true →
    ownSluice s d (v.toNat % 16) = some sl → sl.st ≠ .closed → (sl.st = .busy ∨ sl.role = 1) →
    exec (.hifDoorbellWrite d v) s = .next (settled s (hifErr d 1 s))) ∧
  (∀ (s : State) (d : Side) (v : Byte) (sl : Sluice), (d = .spi ∨ d = .app) → served s = true →
    ownSluice s d (v.toNat % 16) = some sl → sl.st ≠ .closed → sl.st ≠ .resp →
    exec (.hifReleaseWrite d v) s = .next (settled s (hifErr d 1 s))) ∧
  (∀ (s : State) (d : Side) (v : Byte) (sl : Sluice), (d = .spi ∨ d = .app) → served s = true →
    ownSluice s d (v.toNat % 16) = some sl → sl.st = .resp → sl.rest = none → sl.role ≠ 1 →
    exec (.hifReleaseWrite d v) s =
      .next (settled s (modSluice (slKey d (v.toNat % 16))
        (fun x => { x with st := .idle, notify := false, noticeOut := false }) s))) ∧
  (∀ (s : State) (d : Side) (v : Byte) (sl : Sluice), (d = .spi ∨ d = .app) → served s = true →
    ownSluice s d (v.toNat % 16) = some sl → sl.st = .resp → sl.rest = none → sl.role = 1 →
    exec (.hifReleaseWrite d v) s =
      .next (settled s (postQueued d (modSluice (slKey d (v.toNat % 16))
        (fun x => { x with st := .idle, notify := false, noticeOut := false }) s)))) ∧
  (∀ (s : State) (d : Side) (v : Byte) (sl : Sluice) (q : Rest), (d = .spi ∨ d = .app) → served s = true →
    ownSluice s d (v.toNat % 16) = some sl → sl.st = .resp → sl.rest = some q →
    exec (.hifReleaseWrite d v) s = .next (settled s (postSegment d (v.toNat % 16) q s))) ∧
  (∀ (s : State) (d : Side) (n : Nat) (sl : Sluice) (q : Held), ownSluice s d n = some sl → sl.held = some q →
    q.whole = false →
    exec (.segmentTimeout d n) s =
      .next (settled s (noteBy d 0x0023 [sideCode d, (n % 16 : Nat), q.tag, q.next] (endHeld d n q sTIMEOUT s)))) ∧
  (∀ (s : State) (d : Side) (n : Nat) (sl : Sluice), ownSluice s d n = some sl → sl.held = none →
    exec (.segmentTimeout d n) s = .next (settled s s))

/-- Evver/UDP, service UART, application accesses (R24, R70, R83, R84, R465). -/
def Obligations.DatagramsAndFramesAreCarried : Prop :=
  (∀ (s u : State) (src : UdpSrc) (dg : List Byte) (k : Nat), comesIn s src.via → u = counted src.via src.mac s → devicePort u = true →
    u.sys.mode ≠ .recovery → u.absorb.reexecuting = false → g2 dg 0 = 0x7645 → g1 dg 2 = 1 → g1 dg 3 ≤ 15 →
    dgramSide u src (g2 dg 4) (g1 dg 3) = some (.udp k) → 24 ≤ dg.length → dg.length ≤ 1032 →
    exec (.udpRequest src dg) s =
      .next (settled s (udpSubmit k (g1 dg 3) (hdrOf (dg.drop 8)) (dg.drop 24)
        (sessionSeen (.udp k) (sourceSeen src (if isGuest (.udp k) then openS0 (.udp k) u else u)))))) ∧
  (∀ (s u : State) (src : UdpSrc) (dg : List Byte) (k : Nat), comesIn s src.via → u = counted src.via src.mac s → devicePort u = true →
    u.sys.mode ≠ .recovery → u.absorb.reexecuting = false → g2 dg 0 = 0x7645 → g1 dg 2 = 2 → g1 dg 3 ≤ 15 →
    dgramSide u src (g2 dg 4) (g1 dg 3) = some (.udp k) →
    exec (.udpRelease src dg) s =
      .next (settled s (release (.udp k) (g1 dg 3)
        (sessionSeen (.udp k) (sourceSeen src (if isGuest (.udp k) then openS0 (.udp k) u else u)))))) ∧
  (∀ (s u : State) (src : UdpSrc) (dg : List Byte), comesIn s src.via → u = counted src.via src.mac s →
    (u.absorb.reexecuting = false ∨ u.sys.mode = .recovery) →
    (g2 dg 0 ≠ 0x7645 ∨ 15 < g1 dg 3 ∨ dgramSide u src (g2 dg 4) (g1 dg 3) = none) →
    exec (.udpRequest src dg) s = .next (settled s u) ∧ exec (.udpRelease src dg) s = .next (settled s u)) ∧
  (∀ (s u : State) (src : UdpSrc) (dg : List Byte), comesIn s src.via → u = counted src.via src.mac s → u.sys.mode ≠ .recovery →
    devicePort u = true → u.absorb.reexecuting = true →
    exec (.udpRequest src dg) s = .next (settled s (buffer (waitingOf (.dgram 1 src dg)) u)) ∧
      exec (.udpRelease src dg) s = .next (settled s (buffer (waitingOf (.dgram 2 src dg)) u))) ∧
  (∀ (s : State) (src : UdpSrc) (dg : List Byte), src.via ≤ 2 → switchOn s = true → portBlocked s src.via = true →
    exec (.udpRequest src dg) s = .next (settled s (modPort src.via (fun x => { x with rx := w32 (x.rx + 1) }) s)) ∧
      exec (.udpRelease src dg) s = .next (settled s (modPort src.via (fun x => { x with rx := w32 (x.rx + 1) }) s))) ∧
  (∀ (s : State) (src : UdpSrc) (dg : List Byte), src.via = 3 →
    exec (.udpRequest src dg) s = .next (settled s (datagram 1 src dg s)) ∧
      exec (.udpRelease src dg) s = .next (settled s (datagram 2 src dg s))) ∧
  (∀ (s : State) (id k n : Nat) (sl : Sluice), sessionNo s id = some k → ownSluice s (.udp k) n = some sl → sl.role = 1 →
    sl.noticeOut = true → sl.st = .resp →
    exec (.udpNoticeResend id n) s = .next (settled s (sendDgram k sl.lastAnswer s))) ∧
  (∀ (s : State) (frame dg : List Byte), s.sys.mode ≠ .recovery → hearsVia s 3 = true → dg.length ≤ 1032 →
    g1 dg 2 = 1 → unstuff frame = some (dg ++ beBytes 2 (crc16 dg)) →
    exec (.serviceUartFrame frame) s = .next (settled s (datagram 1 ⟨0, 0, 3, []⟩ dg s))) ∧
  (∀ (s : State) (frame dg : List Byte), s.sys.mode ≠ .recovery → hearsVia s 3 = true → dg.length ≤ 1032 →
    g1 dg 2 = 2 → unstuff frame = some (dg ++ beBytes 2 (crc16 dg)) →
    exec (.serviceUartFrame frame) s = .next (settled s (datagram 2 ⟨0, 0, 3, []⟩ dg s))) ∧
  (∀ (s : State) (b : Nat), s.net.baudDue = some b →
    exec .uartBaudChange s = .next (settled s { s with net := { s.net with baud := b, baudDue := none } })) ∧
  (∀ (s : State) (addr size : Nat), (addr < 0x80000000 ∨ 0xE0000000 < addr + size) →
    (addr < 0x40000000 ∨ 0x40010000 ≤ addr) →
    exec (.appAccessError addr size) s = .next (settled s { s with sys := { s.sys with busError := true, appData := [] } })) ∧
  (∀ (s : State) (addr size : Nat), 0x80000000 ≤ addr → addr + size ≤ 0xE0000000 →
    exec (.appAccessError addr size) s = .next (settled s { s with sys := { s.sys with busError := false, appData := [] } })) ∧
  (∀ (s : State) (addr size : Nat), 0x40000000 ≤ addr → addr < 0x40010000 → s.sys.ready = true →
    exec (.appAccessError addr size) s = .next (settled s (appLoad (addr - 0x40000000) size s)))

/-- Heartbeat (R79, R80, R88, R95). -/
def Obligations.HeartbeatActsAsConfigured : Prop :=
  (∀ (s : State) (d : Side), hbRuns s d = true → s.hb.warned.contains d = false →
    exec (.hbWarn d) s =
      .next (settled s (modHif d (fun h => { h with irqStatus := h.irqStatus ||| 0x20000000 })
        { s with hb := { s.hb with warned := d :: s.hb.warned } }))) ∧
  (∀ (s : State) (d : Side), (hbRuns s d = false ∨ s.hb.warned.contains d = true) → exec (.hbWarn d) s = .next (settled s s)) ∧
  (∀ (s : State) (d : Side), hbRuns s d = true →
    exec (.heartbeatLost d) s =
      .next (settled s (setCause 0 true (note 0x0020 [sideCode d, s.hb.timeoutMs]
        { s with hb := { s.hb with
            lost := (d, s.sys.devTime) :: s.hb.lost, started := s.hb.started.filter (fun e => e.1 != d) } })))) ∧
  (∀ (s : State) (d : Side), hbRuns s d = false → exec (.heartbeatLost d) s = .next (settled s s)) ∧
  (∀ (s : State) (r : Req), asks 0x0002 r s = true →
    exec (.sysHeartbeat r) s =
      .next (settled s (answered 0x0002 r sOK (r.payload ++ zeros 4 ++ p8 s.sys.devTime)
        (hbRestart r.side (hbRestored r.side (begun 0x0002 r s)))))) ∧
  (∀ (s : State) (r : Req) (own sides : List Side), asks 0x0009 r s = true → g1 r.payload 0 ≤ 1 → g1 r.payload 1 < 8 →
    zeroAt r.payload 2 2 = true → 50 ≤ g4 r.payload 4 → g4 r.payload 4 ≤ 60000 →
    own = (if isSession r.side && bitOf (g1 r.payload 1) 2 then [r.side] else []) →
    sides = (if bitOf (g1 r.payload 1) 0 then [.spi] else []) ++ (if bitOf (g1 r.payload 1) 1 then [.app] else []) ++ own →
    exec (.sysHeartbeatConfig r) s =
      .next (settled s (answered 0x0009 r sOK []
        (sides.foldl (fun t d => hbRestart d t)
          (((s.hb.lost.map (·.1)).filter (fun d => !(g1 r.payload 0 = 1 && sides.contains d))).foldl (fun t d => hbRestored d t)
            { begun 0x0009 r s with hb := { s.hb with enable := g1 r.payload 0 = 1, sides := sides, timeoutMs := g4 r.payload 4 } }))))) ∧
  (∀ (s : State) (r : Req), asks 0x0009 r s = true →
    (1 < g1 r.payload 0 ∨ 8 ≤ g1 r.payload 1 ∨ zeroAt r.payload 2 2 = false ∨ g4 r.payload 4 < 50 ∨ 60000 < g4 r.payload 4) →
    exec (.sysHeartbeatConfig r) s = .next (settled s (answered 0x0009 r sBADOBJ [] (begun 0x0009 r s))))

/-- SYS commands (R78, R87, R89, R91, R92, R94). -/
def Obligations.SysCommandsAnswer : Prop :=
  (∀ (s : State) (r : Req), asks 0x0001 r s = true →
    exec (.sysStatus r) s =
      .next (settled s (answered 0x0001 r sOK
        (statusHead (begun 0x0001 r s) ++ p2 s.absorb.lastFault ++ p1 (b01 s.island.sealPin + b01 s.sys.legal * 2) ++ zeros 1 ++
          p8 s.sys.devTime ++ q8 s.sys.calTime ++ p2 s.ream.epoch ++ p2 (eolDays s) ++
          p4 (w32 (s.ream.nextSeq + 4294967295)) ++ p4 (energyMj s) ++ zeros 4) (begun 0x0001 r s)))) ∧
  (∀ (s : State) (r : Req), asks 0x0005 r s = true →
    exec (.sysIdentify r) s =
      .next (settled s (answered 0x0005 r sOK
        (orderCode s ++ p8 s.sys.serial ++ p1 0xB1 ++ p1 0x02 ++ fit 3 ((evverVersion s).flatMap p1) ++
          (if s.island.linkUp then fit 3 ((wmVersion s).flatMap p1) else zeros 3)) (begun 0x0005 r s)))) ∧
  (∀ (s : State) (r : Req), asks 0x0008 r s = true →
    exec (.sysSluiceInfo r) s =
      .next (settled s (answered 0x0008 r sOK ((List.range 16).flatMap (sluiceEntry r.side (begun 0x0008 r s))) (begun 0x0008 r s)))) ∧
  (∀ (s : State) (r : Req) (o : Nat) (u : State), asks 0x0003 r s = true → g1 r.payload 0 = 0 → g1 r.payload 1 ≤ 15 →
    abortCommand r.side (g1 r.payload 1) (g2 r.payload 2) (begun 0x0003 r s) = (o, u) →
    exec (.sysAbort r) s =
      .next (settled s (answered 0x0003 r sOK (p1 o ++ zeros 3)
        (noteBy r.side 0x0022 [0, g1 r.payload 1, g2 r.payload 2, o] u)))) ∧
  (∀ (s : State) (r : Req), asks 0x0003 r s = true → g1 r.payload 0 = 1 → g1 r.payload 1 = 0 → g2 r.payload 2 ≤ 15 →
    exec (.sysAbort r) s =
      .next (settled s (answered 0x0003 r sOK (p1 3 ++ zeros 3)
        (noteBy r.side 0x0022 [1, 0, g2 r.payload 2, 3] (abortZone (g2 r.payload 2) (begun 0x0003 r s)))))) ∧
  (∀ (s : State) (r : Req), asks 0x0003 r s = true →
    (1 < g1 r.payload 0 ∨ 15 < g1 r.payload 1 ∨ (g1 r.payload 0 = 1 ∧ (g1 r.payload 1 ≠ 0 ∨ 15 < g2 r.payload 2))) →
    exec (.sysAbort r) s = .next (settled s (answered 0x0003 r sBADOBJ [] (begun 0x0003 r s)))) ∧
  (∀ (s : State) (r : Req), asks 0x0006 r s = true → g1 r.payload 0 = 0 → zeroAt r.payload 1 3 = true →
    exec (.sysReset r) s =
      .next (settled s (answered 0x0006 r sOK []
        { begun 0x0006 r s with sys := { s.sys with resetDue := some 0, target := some .boot, targetCause := 0, targetWake := 0 } }))) ∧
  (∀ (s : State) (r : Req), asks 0x0006 r s = true → g1 r.payload 0 = 1 → zeroAt r.payload 1 3 = true →
    exec (.sysReset r) s =
      .next (settled s (answered 0x0006 r sOK []
        { begun 0x0006 r s with
          sys := { s.sys with resetDue := some 1, target := some .boot, targetCause := 0, targetWake := 0 },
          power := { s.power with recoveryReq := true } }))) ∧
  (∀ (s : State) (r : Req), asks 0x0006 r s = true → (1 < g1 r.payload 0 ∨ zeroAt r.payload 1 3 = false) →
    exec (.sysReset r) s = .next (settled s (answered 0x0006 r sBADOBJ [] (begun 0x0006 r s))))

/-- SYS_SLUICE_SETUP (R93). -/
def Obligations.SluiceSetupClaimsAndReleases : Prop :=
  (∀ (s : State) (r : Req), asks 0x0007 r s = true → 1 ≤ g1 r.payload 0 → g1 r.payload 0 ≤ 15 →
    g1 r.payload 1 = 1 → 1 ≤ g1 r.payload 2 → g1 r.payload 2 ≤ 32 → (isSession r.side = true → g1 r.payload 2 = 1) →
    g1 r.payload 3 = 0 → (tget (begun 0x0007 r s).mail.sluices (g1 r.payload 0)).owner = none →
    (isSession r.side = true ∨ sramKib (begun 0x0007 r s) (g1 r.payload 0) + g1 r.payload 2 ≤ 254) →
    exec (.sysSluiceSetup r) s =
      .next (settled s (answered 0x0007 r sOK []
        (onMail (fun m => { m with
            sluices := tset m.sluices (g1 r.payload 0) { owner := some r.side, sizeKib := g1 r.payload 2, st := .idle, role := 0 } })
          (noteBy r.side 0x0024 [sideCode r.side, g1 r.payload 0, 1, g1 r.payload 2, 0] (begun 0x0007 r s)))))) ∧
  (∀ (s : State) (r : Req), asks 0x0007 r s = true → 1 ≤ g1 r.payload 0 → g1 r.payload 0 ≤ 15 →
    g1 r.payload 1 = 1 → 1 ≤ g1 r.payload 2 → g1 r.payload 2 ≤ 32 → (isSession r.side = true → g1 r.payload 2 = 1) →
    g1 r.payload 3 = 1 → noticeSluice (begun 0x0007 r s) r.side = none → (tget (begun 0x0007 r s).mail.sluices (g1 r.payload 0)).owner = none →
    (isSession r.side = true ∨ sramKib (begun 0x0007 r s) (g1 r.payload 0) + g1 r.payload 2 ≤ 254) →
    exec (.sysSluiceSetup r) s =
      .next (settled s (answered 0x0007 r sOK []
        (postQueued r.side (onMail (fun m => { m with
            sluices := tset m.sluices (g1 r.payload 0) { owner := some r.side, sizeKib := g1 r.payload 2, st := .idle, role := 1 } })
          (noteBy r.side 0x0024 [sideCode r.side, g1 r.payload 0, 1, g1 r.payload 2, 1] (begun 0x0007 r s))))))) ∧
  (∀ (s : State) (r : Req), asks 0x0007 r s = true → isSession r.side = false → 1 ≤ g1 r.payload 0 → g1 r.payload 0 ≤ 15 →
    g1 r.payload 1 = 1 → 1 ≤ g1 r.payload 2 → g1 r.payload 2 ≤ 32 → g1 r.payload 3 = 0 →
    (tget (begun 0x0007 r s).mail.sluices (g1 r.payload 0)).owner = none →
    254 < sramKib (begun 0x0007 r s) (g1 r.payload 0) + g1 r.payload 2 →
    exec (.sysSluiceSetup r) s = .next (settled s (answered 0x0007 r sLIMIT [] (begun 0x0007 r s)))) ∧
  (∀ (s : State) (r : Req) (sl : Sluice), asks 0x0007 r s = true → 1 ≤ g1 r.payload 0 → g1 r.payload 0 ≤ 15 →
    g1 r.payload 1 = 0 → 1 ≤ g1 r.payload 2 → g1 r.payload 2 ≤ 32 → (isSession r.side = true → g1 r.payload 2 = 1) →
    g1 r.payload 3 ≤ 1 → tget (begun 0x0007 r s).mail.sluices (g1 r.payload 0) = sl → sl.owner = some r.side → sl.st = .idle →
    sl.held = none → s.mail.jobs.any (fun j => j.org.side == r.side && j.org.sluice == g1 r.payload 0) = false →
    exec (.sysSluiceSetup r) s =
      .next (settled s (answered 0x0007 r sOK []
        (onMail (fun m => { m with sluices := tdel m.sluices (g1 r.payload 0) })
          (noteBy r.side 0x0024 [sideCode r.side, g1 r.payload 0, 0, g1 r.payload 2, g1 r.payload 3] (begun 0x0007 r s)))))) ∧
  (∀ (s : State) (r : Req), asks 0x0007 r s = true → 1 ≤ g1 r.payload 0 → g1 r.payload 0 ≤ 15 →
    g1 r.payload 1 = 0 → 1 ≤ g1 r.payload 2 → g1 r.payload 2 ≤ 32 → (isSession r.side = true → g1 r.payload 2 = 1) →
    g1 r.payload 3 ≤ 1 → (tget (begun 0x0007 r s).mail.sluices (g1 r.payload 0)).owner = none →
    exec (.sysSluiceSetup r) s = .next (settled s (answered 0x0007 r sOK [] (begun 0x0007 r s)))) ∧
  (∀ (s : State) (r : Req), asks 0x0007 r s = true → 1 ≤ g1 r.payload 0 → g1 r.payload 0 ≤ 15 →
    g1 r.payload 1 = 0 → 1 ≤ g1 r.payload 2 → g1 r.payload 2 ≤ 32 → (isSession r.side = true → g1 r.payload 2 = 1) →
    g1 r.payload 3 ≤ 1 → (tget (begun 0x0007 r s).mail.sluices (g1 r.payload 0)).owner = some r.side →
    (tget (begun 0x0007 r s).mail.sluices (g1 r.payload 0)).st ≠ .idle →
    exec (.sysSluiceSetup r) s = .next (settled s (answered 0x0007 r sBUSY [] (begun 0x0007 r s)))) ∧
  (∀ (s : State) (r : Req), asks 0x0007 r s = true →
    (g1 r.payload 0 = 0 ∨ 15 < g1 r.payload 0 ∨ 1 < g1 r.payload 1 ∨ 1 < g1 r.payload 3 ∨ g1 r.payload 2 = 0 ∨ 32 < g1 r.payload 2 ∨
      (isSession r.side = true ∧ g1 r.payload 2 ≠ 1)) →
    exec (.sysSluiceSetup r) s = .next (settled s (answered 0x0007 r sBADOBJ [] (begun 0x0007 r s))))

/-- SYS_MODE_REQUEST (R34, R42, R90). -/
def Obligations.ModeRequestStartsAllowedChanges : Prop :=
  (∀ (s : State) (r : Req), asks 0x0004 r s = true → zeroAt r.payload 1 3 = true → s.sys.target = none → s.cfg.txn = none →
    s.sys.mode = .commission → g1 r.payload 0 = 4 → s.sys.safePin = false → s.cfg.generation ≠ 0 →
    exec (.sysModeRequest r) s =
      .next (settled s (answered 0x0004 r sOK []
        { begun 0x0004 r s with sys := { s.sys with target := some .run, targetCause := 0x10, targetWake := 0 } }))) ∧
  (∀ (s : State) (r : Req), asks 0x0004 r s = true → zeroAt r.payload 1 3 = true → s.sys.target = none → s.cfg.txn = none →
    s.sys.mode = .run → g1 r.payload 0 = 4 → s.sys.safePin = false →
    exec (.sysModeRequest r) s = .next (settled s (answered 0x0004 r sOK [] (zonesAck (begun 0x0004 r s))))) ∧
  (∀ (s : State) (r : Req), asks 0x0004 r s = true → zeroAt r.payload 1 3 = true → s.sys.target = none → s.cfg.txn = none →
    (s.sys.mode = .run ∨ s.sys.mode = .hold) → g1 r.payload 0 = 3 → zonesQuiet (begun 0x0004 r s) = true →
    exec (.sysModeRequest r) s =
      .next (settled s (answered 0x0004 r sOK []
        { begun 0x0004 r s with sys := { s.sys with target := some .commission, targetCause := 0x10, targetWake := 0 } }))) ∧
  (∀ (s : State) (r : Req), asks 0x0004 r s = true → zeroAt r.payload 1 3 = true → s.sys.target = none → s.cfg.txn = none →
    s.sys.mode = .run → g1 r.payload 0 = 6 → zonesIdle (begun 0x0004 r s) = true →
    exec (.sysModeRequest r) s =
      .next (settled s (answered 0x0004 r sOK []
        { begun 0x0004 r s with sys := { s.sys with target := some .still, targetCause := 0x10, targetWake := 0 } }))) ∧
  (∀ (s : State) (r : Req), asks 0x0004 r s = true → zeroAt r.payload 1 3 = true → s.sys.target = none → s.cfg.txn = none →
    s.sys.mode = .run → g1 r.payload 0 = 7 → zonesIdle (begun 0x0004 r s) = true →
    exec (.sysModeRequest r) s =
      .next (settled s (answered 0x0004 r sOK []
        { begun 0x0004 r s with sys := { s.sys with target := some .ice, targetCause := 0x10, targetWake := 0 } }))) ∧
  (∀ (s : State) (r : Req), asks 0x0004 r s = true → zeroAt r.payload 1 3 = true → s.sys.target ≠ none →
    exec (.sysModeRequest r) s = .next (settled s (answered 0x0004 r sBUSY [] (begun 0x0004 r s)))) ∧
  (∀ (s : State) (r : Req), asks 0x0004 r s = true → zeroAt r.payload 1 3 = true → s.sys.target = none → s.cfg.txn ≠ none →
    exec (.sysModeRequest r) s = .next (settled s (answered 0x0004 r sWRONGMODE [] (begun 0x0004 r s)))) ∧
  (∀ (s : State) (r : Req), asks 0x0004 r s = true → zeroAt r.payload 1 3 = false →
    exec (.sysModeRequest r) s = .next (settled s (answered 0x0004 r sBADOBJ [] (begun 0x0004 r s)))) ∧
  (∀ (s : State) (r : Req), asks 0x0004 r s = true → zeroAt r.payload 1 3 = true → s.sys.target = none →
    ((g1 r.payload 0 ≠ 3 ∧ g1 r.payload 0 ≠ 4 ∧ g1 r.payload 0 ≠ 6 ∧ g1 r.payload 0 ≠ 7) ∨
      (g1 r.payload 0 = 4 ∧ ((s.sys.mode ≠ .run ∧ s.sys.mode ≠ .commission) ∨ s.sys.safePin = true ∨
        (s.sys.mode = .commission ∧ s.cfg.generation = 0))) ∨
      (g1 r.payload 0 = 3 ∧ ((s.sys.mode ≠ .run ∧ s.sys.mode ≠ .hold) ∨ zonesQuiet (begun 0x0004 r s) = false)) ∨
      ((g1 r.payload 0 = 6 ∨ g1 r.payload 0 = 7) ∧ (s.sys.mode ≠ .run ∨ zonesIdle (begun 0x0004 r s) = false))) →
    exec (.sysModeRequest r) s = .next (settled s (answered 0x0004 r sWRONGMODE [] (begun 0x0004 r s))))

/-- SAFE#, resets, watchdog (R33, R36, R92, R525, R595). -/
def Obligations.SafeAndResetsAct : Prop :=
  (∀ s : State, watched s = true →
    exec .safeAsserted s = .next (settled s (setCause 1 true { s with sys := { s.sys with safePin := true } }))) ∧
  (∀ s : State, watched s = true →
    exec .safeReleased s = .next (settled s (setCause 1 false { s with sys := { s.sys with safePin := false } }))) ∧
  (∀ s : State, watched s = false →
    exec .safeAsserted s = .next (settled s { s with sys := { s.sys with safePin := true } }) ∧
    exec .safeReleased s = .next (settled s { s with sys := { s.sys with safePin := false } })) ∧
  (∀ s : State, s.sys.mode ≠ .vault → s.power.lastGasp = false → s.sys.resetting = false →
    exec .rstAsserted s =
      .next (settled s (beginReset (tripsForgotten { s with sys := { s.sys with rstPin := true } })))) ∧
  (∀ s : State, (s.sys.mode = .vault ∨ s.power.lastGasp = true) →
    exec .rstAsserted s = .next (settled s { s with sys := { s.sys with rstPin := true } })) ∧
  (∀ s : State, s.sys.mode ≠ .vault → s.power.lastGasp = false → s.sys.resetting = true →
    exec .rstAsserted s = .next (settled s (tripsForgotten { s with sys := { s.sys with rstPin := true } }))) ∧
  (∀ s : State, s.sys.resetting = true → s.power.lastGasp = false →
    ∃ t, exec .internalReset s = .next t ∧ t.sys.mode = Mode.boot ∧ t.sys.ready = false ∧ t.sys.resetting = false ∧
      t.sys.devTime = 0 ∧ t.mail.jobs = [] ∧ t.cfg.txn = none ∧ t.hb.running = false) ∧
  (∀ s : State, exec .rstReleased s = .next (settled s { s with sys := { s.sys with rstPin := false } })) ∧
  (∀ s : State, s.sys.resetDue.isSome = true → served s = true → s.sys.resetting = false → s.power.lastGasp = false →
    exec .sysResetStart s = .next (settled s (beginReset s))) ∧
  (∀ s : State, s.sys.resetDue = none → exec .sysResetStart s = .next (settled s s)) ∧
  (∀ s : State, s.sys.resetting = false → exec .internalReset s = .next (settled s s)) ∧
  (∀ s : State, watched s = false → exec .watchdogExpired s = .next (settled s s)) ∧
  (∀ s : State, watched s = true → s.power.lastGasp = false →
    exec .watchdogExpired s =
      .next (settled s (bootReset (queueLost (finishStores 400
        (onAbsorb (fun a => { a with watchdogAt := some a.checkA, watchdogMode := modeCode s.sys.mode })
          (lastMode 3 (outputsOff s))))))))

/-- Start (R33, R35, R82, R489, R576, R594). -/
def Obligations.StartFollowsItsOrder : Prop :=
  (∀ (s : State) (vbat : Int) (c0 c1 : Bool), romRuns s = true → s.sys.norChecked = false → s.sys.norFound = none → s.fsh.journal = 0 →
    s.fsh.state ≠ 5 → s.power.tripHold = false → s.power.sticky.getLsbD 5 = false → floorOf s 1 ≤ (installedImg s 1).arb →
    s.power.recoveryReq = false → s.fsh.recoveryCause = 0 → s.absorb.repairCopy = false →
    ∃ t, exec (.norCheckDone true c0 c1 vbat) s = .next t ∧ t.sys.norChecked = true ∧ t.sys.mode = Mode.boot ∧
      t.power.vbat = vbat ∧ t.power.sticky.getLsbD 0 = false ∧ (t.absorb.dead = true ↔ c0 = false ∧ c1 = false)) ∧
  (∀ (s : State) (vbat : Int) (c0 c1 : Bool), romRuns s = true → s.sys.norChecked = false → s.sys.norFound = none → s.fsh.journal = 0 →
    s.fsh.state ≠ 5 → s.power.tripHold = false → s.power.sticky.getLsbD 5 = false →
    ∃ t, exec (.norCheckDone false c0 c1 vbat) s = .next t ∧ t.sys.mode = Mode.recovery ∧ t.fsh.recoveryCause = 1) ∧
  (∀ (s : State) (vbat : Int) (c0 c1 : Bool), romRuns s = true → s.sys.norChecked = false → s.sys.norFound = none → s.fsh.journal = 0 →
    s.fsh.state ≠ 5 → s.power.tripHold = false → s.power.sticky.getLsbD 5 = false → (installedImg s 1).arb < floorOf s 1 →
    ∃ t, exec (.norCheckDone true c0 c1 vbat) s = .next t ∧ t.sys.mode = Mode.recovery ∧ t.fsh.recoveryCause = 4) ∧
  (∀ (s : State) (vbat : Int) (c0 c1 : Bool), romRuns s = true → s.sys.norChecked = false → s.sys.norFound = none → s.fsh.journal = 0 →
    s.fsh.state ≠ 5 → s.power.tripHold = false → s.power.sticky.getLsbD 5 = false → floorOf s 1 ≤ (installedImg s 1).arb →
    s.power.recoveryReq = true →
    ∃ t, exec (.norCheckDone true c0 c1 vbat) s = .next t ∧ t.sys.mode = Mode.recovery ∧ t.fsh.recoveryCause = 3 ∧
      t.power.recoveryReq = false) ∧
  (∀ (s : State) (vbat : Int) (ok c0 c1 : Bool), romRuns s = true → s.sys.norChecked = false → s.sys.norFound = none →
    (s.fsh.journal = 4 ∨ s.fsh.journal = 8) → s.fsh.state ≠ 5 → s.power.tripHold = false → s.power.sticky.getLsbD 5 = false →
    loaderBlock s ≠ none → (s.fsh.journal = 4 → s.fsh.backed = []) →
    exec (.norCheckDone ok c0 c1 vbat) s = .next (settled s (loaderStays (coreTests c0 c1 (romSpring vbat s))))) ∧
  (∀ (s : State) (vbat : Int) (ok c0 c1 : Bool), romRuns s = true → s.sys.norChecked = false → s.sys.norFound = none → s.fsh.state ≠ 5 →
    s.power.tripHold = true →
    ∃ t, exec (.norCheckDone ok c0 c1 vbat) s = .next t ∧ t.sys.mode = Mode.boot ∧ t.sys.norFound = some ok ∧ t.sys.norChecked = false ∧
      t.power.vbat = vbat) ∧
  (∀ (s : State) (vbat : Int) (ok c0 c1 : Bool), (romRuns s = false ∨ s.sys.norChecked = true ∨ s.sys.norFound ≠ none) →
    exec (.norCheckDone ok c0 c1 vbat) s = .next (settled s s)) ∧
  (∀ s : State, romRuns s = true → s.sys.norChecked = true → s.sys.norStay = false → s.sys.resMeasured = true →
    bootHeld s = false → s.absorb.dead = false →
    exec .supervisorStart s = .next (settled s { s with sys := { s.sys with supervisor := true } })) ∧
  (∀ s : State, (romRuns s = false ∨ s.sys.norChecked = false ∨ s.sys.norStay = true ∨ s.sys.resMeasured = false ∨ bootHeld s = true ∨
      s.absorb.dead = true) →
    exec .supervisorStart s = .next (settled s s)) ∧
  (∀ s : State, (romRuns s = false ∨ s.sys.supervisor = false) → exec .evverReady s = .next (settled s s)) ∧
  (∀ s : State, romRuns s = true → s.sys.supervisor = true →
    exec .evverReady s =
      .next (settled s (placeSamples (refreshReserve (tellNotReady (startMode (startWorks (tellLostTxn (chooseConfig
        (tellWatchdog (tellSpring (tellLoader (tellLost (springUnknown (springTime
          { s with sys := { s.sys with ready := true } }))))))))))))))) ∧
  (∀ (s : State) (temps : List Int), romRuns s = true → s.power.tripHold = true → s.power.sticky.getLsbD 5 = false →
    (∀ t ∈ temps, t ≤ 105000) → s.power.tripAt + 10000000000 ≤ s.power.springNs →
    exec (.tripHoldEnd temps) s =
      .next (settled s (supervisorStartFx (romReleased (noteLater 0x0F34 [(s.power.springNs - s.power.tripAt) / 1000000000, temps.foldl max (temps.headD 0)]
        { s with power := { s.power with tripHold := false } }))))) ∧
  (∀ (s : State) (temps : List Int), (romRuns s = false ∨ s.power.tripHold = false ∨ s.power.sticky.getLsbD 5 = true ∨ (∃ t ∈ temps, 105000 < t) ∨
      s.power.springNs < s.power.tripAt + 10000000000) →
    exec (.tripHoldEnd temps) s = .next (settled s s))

/-- Mode changes and wakes (R34, R43–R47, R397, R442). -/
def Obligations.ModeChangesAndWakesComplete : Prop :=
  (∀ s : State, s.sys.mode = .commission → s.sys.target = some .run → s.sys.holdCauses = 0 →
    exec .modeChangeComplete s = .next (settled s (enterRun 0x10 0 (leaveCommission s)))) ∧
  (∀ s : State, s.sys.mode = .commission → s.sys.target = some .run → s.sys.holdCauses ≠ 0 →
    exec .modeChangeComplete s = .next (settled s (enterHold 0x10 0 (leaveCommission s)))) ∧
  (∀ s : State, s.sys.target = none → exec .modeChangeComplete s = .next (settled s s)) ∧
  (∀ (s : State) (m : Mode), s.sys.target = some m →
    ((s.sys.mode = .run ∧ m = .commission ∧ zonesQuiet s = false) ∨ (s.sys.mode = .hold ∧ m = .commission ∧ zonesQuiet s = false) ∨
      (s.sys.mode = .run ∧ (m = .still ∨ m = .ice) ∧ zonesIdle s = false)) →
    exec .modeChangeComplete s =
      .next (settled s { s with sys := { s.sys with target := none, targetCause := 0, targetWake := 0 } })) ∧
  (∀ s : State, (s.sys.mode = .run ∨ s.sys.mode = .hold) → s.sys.target = some .commission → zonesQuiet s = true →
    exec .modeChangeComplete s = .next (settled s (enterCommission 0x10 s))) ∧
  (∀ s : State, s.sys.mode = .run → s.sys.target = some .still → zonesIdle s = true →
    exec .modeChangeComplete s = .next (settled s (enterStill 0x10 s))) ∧
  (∀ s : State, s.sys.mode = .run → s.sys.target = some .ice → zonesIdle s = true → iceReady s = true →
    exec .modeChangeComplete s = .next (settled s (enterIce s))) ∧
  (∀ s : State, s.sys.mode = .run → s.sys.target = some .ice → zonesIdle s = true → iceReady s = false →
    exec .modeChangeComplete s = .next (settled s s)) ∧
  (∀ s : State, s.sys.mode = .still → s.sys.target = some .run →
    exec .modeChangeComplete s = .next (settled s (enterRun 0x13 s.sys.targetWake s))) ∧
  (∀ s : State, s.sys.mode = .still → s.sys.target = none →
    exec (.wakePin true) s =
      .next (settled s { s with
        sys := { s.sys with wakePin := true, target := some .run, targetCause := 0x13, targetWake := 6 } })) ∧
  (∀ s : State, s.sys.mode = .ice → s.power.lastGasp = false → s.sys.resetting = false →
    exec (.wakePin true) s =
      .next (settled s { s with
        sys := { s.sys with wakePin := true, mode := .boot, bootLite := true, targetWake := 6 },
        power := { s.power with iceNs := iceDuration s.power.iceAt s.power.springNs } })) ∧
  (∀ s : State, s.sys.mode ≠ .still → s.sys.mode ≠ .ice →
    exec (.wakePin true) s = .next (settled s { s with sys := { s.sys with wakePin := true } }) ∧
    exec .wakeTimer s = .next (settled s s)) ∧
  (∀ s : State, exec (.wakePin false) s = .next (settled s { s with sys := { s.sys with wakePin := false } })) ∧
  (∀ s : State, s.sys.mode = .still → s.sys.target = none → g4 (device s) 4 ≠ 0 →
    exec .wakeTimer s =
      .next (settled s { s with sys := { s.sys with target := some .run, targetCause := 0x13, targetWake := 5 } })) ∧
  (∀ (s : State) (bus : Nat), s.sys.mode = .ice → bus < 2 → bitOf (wakeBus s) bus = true → bitOf (wakeBus s) 2 = false →
    s.power.lastGasp = false → s.sys.resetting = false →
    exec (.frostBusWake bus .dominantEdge) s =
      .next (settled s { s with 
        sys := { s.sys with mode := .boot, bootLite := true, targetWake := 1 },
        power := { s.power with iceNs := iceDuration s.power.iceAt s.power.springNs } })) ∧
  (∀ (s : State) (bus ident dlc : Nat) (data : List Byte), s.sys.mode = .ice → frostWakes s bus (.frame ident dlc data) = true →
    s.power.lastGasp = false → s.sys.resetting = false →
    exec (.frostBusWake bus (.frame ident dlc data)) s =
      .next (settled s { s with
        sys := { s.sys with mode := .boot, bootLite := true, targetWake := 1 },
        power := { s.power with iceNs := iceDuration s.power.iceAt s.power.springNs } })) ∧
  (∀ (s : State) (bus : Nat) (w : BusWake) (fio : Nat), (s.sys.mode ≠ .ice ∨ (frostWakes s bus w = false ∧ wakeFio s fio = false)) →
    exec (.frostBusWake bus w) s = .next (settled s s) ∧ exec (.frostFieldWake fio) s = .next (settled s s)) ∧
  (∀ (s : State) (fio : Nat), s.sys.mode = .ice → wakeFio s fio = true → s.power.lastGasp = false → s.sys.resetting = false →
    exec (.frostFieldWake fio) s =
      .next (settled s { s with 
        sys := { s.sys with mode := .boot, bootLite := true, targetWake := 2 },
        power := { s.power with iceNs := iceDuration s.power.iceAt s.power.springNs } })) ∧
  (∀ s : State, s.sys.bootLite = true → s.sys.mode = .boot → s.sys.rstPin = false → s.sys.resetting = false →
    s.power.lastGasp = false →
    let s1 := springTime { s with
      sys := { s.sys with
        devTime := s.sys.devTime + s.power.iceNs, ready := true, bootLite := false, mode := .ice, autoDue := true } }
    let s2 := startWorks (tellLostTxn (tellRideThrough (vlogicNow (liteLosses (tellLoader s1)))))
    let s3 := unknownJumps (jumpFelt 3 0 (s1.sys.devTime / 1000 - s.sys.devTime / 1000) 2 s2)
    let s4 := { s3 with sys := { s3.sys with holdCauses := startCauses s3 } }
    exec .bootLiteComplete s =
      .next (settled s (placeSamples (refreshReserve (tellNotReady
        (if startCauses s3 = 0 then enterRun 0x13 s.sys.targetWake s4 else enterHold 0x13 s.sys.targetWake s4)))))) ∧
  (∀ s : State, s.sys.bootLite = false → exec .bootLiteComplete s = .next (settled s s))

/-- VLOGIC and the Spring domain's supply (R559, R560, R567–R569, R610). -/
def Obligations.LogicSupplyEventsAct : Prop :=
  (∀ (s : State) (uv : Int), watched s = true → uv < 17000000 → s.power.warnVlogic = false →
    exec (.vlogicWarning uv) s =
      .next (settled s (setCause 2 true (noteRom 0x0F20 [1, mvOf uv]
        { s with power := { s.power with vlogic := uv, warnVlogic := true } })))) ∧
  (∀ (s : State) (uv : Int), watched s = true → uv > 17500000 → s.power.warnVlogic = true →
    exec (.vlogicWarningCleared uv) s =
      .next (settled s (setCause 2 false (noteRom 0x0F20 [2, mvOf uv]
        { s with power := { s.power with vlogic := uv, warnVlogic := false } })))) ∧
  (∀ (s : State) (uv : Int), 17000000 ≤ uv → uv ≤ 17500000 →
    exec (.vlogicWarning uv) s = .next (settled s { s with power := { s.power with vlogic := uv } }) ∧
    exec (.vlogicWarningCleared uv) s = .next (settled s { s with power := { s.power with vlogic := uv } })) ∧
  (∀ (s : State) (uv uw : Int), (s.sys.mode = .vault ∨ s.sys.mode = .ice) →
    exec (.vlogicWarning uv) s = .next (settled s { s with power := { s.power with vlogic := uv } }) ∧
    exec (.vlogicWarningCleared uw) s = .next (settled s { s with power := { s.power with vlogic := uw } })) ∧
  (∀ (s : State) (uv : Int), (s.sys.mode = .boot ∨ s.sys.mode = .recovery) → uv < 17000000 → s.power.warnVlogic = false →
    exec (.vlogicWarning uv) s =
      .next (settled s (noteRom 0x0F20 [1, mvOf uv] { s with power := { s.power with vlogic := uv, warnVlogic := true } }))) ∧
  (∀ (s : State) (uv : Int) (us : Nat), 16000000 ≤ uv → s.power.dip = false →
    exec (.vlogicDip uv) s = .next (settled s { s with power := { s.power with vlogic := uv } }) ∧
    exec (.lastGasp uv) s = .next (settled s { s with power := { s.power with vlogic := uv } }) ∧
    exec (.rideThrough uv us) s = .next (settled s { s with power := { s.power with vlogic := uv } })) ∧
  (∀ (s : State) (uv : Int) (us : Nat), s.sys.ready = false → s.power.dip = true → s.power.lastGasp = false → 16500000 < uv →
    exec (.rideThrough uv us) s =
      .next (settled s (sticky 0x4 true (startCharger { s with power := { s.power with vlogic := uv, dip := false } })))) ∧
  (∀ (s : State) (uv : Int), s.sys.mode ≠ .vault → uv < 16000000 →
    exec (.vlogicDip uv) s =
      .next (settled s { s with power := { s.power with vlogic := uv, dip := true, charging := false } })) ∧
  (∀ (s : State) (uv : Int) (us : Nat), s.sys.ready = true → s.power.dip = true → s.power.lastGasp = false → 16500000 < uv →
    exec (.rideThrough uv us) s =
      .next (settled s (note 0x0F27 [us, mvOf s.power.vhold]
        (startCharger { s with power := { s.power with vlogic := uv, dip := false } })))) ∧
  (∀ (s : State) (uv : Int), s.sys.mode ≠ .vault → s.power.lastGasp = false → uv < 16000000 →
    exec (.lastGasp uv) s =
      .next (settled s (
        let t := noteRom 0x0010 [modeCode s.sys.mode, 0, 0x14, 0]
            { s with power := { s.power with
                vlogic := uv, lastGasp := true, charging := false, measuring := 0, stepDue := false, dip := true,
                gaspStores := 0 } };
        onAbsorb (fun a => { a with latch := false }) (busOff (outputsOff
          (onSys (fun y => { y with target := none, resetting := false, resetDue := none, appStopped := true })
            (if s.sys.mode = .commission then leaveCommission t else t))))))) ∧
  (∀ (s : State) (uv : Int), (s.sys.mode = .vault ∨ s.power.lastGasp = true) →
    exec (.lastGasp uv) s = .next (settled s { s with power := { s.power with vlogic := uv } })) ∧
  (∀ (s : State) (vhold : Int), s.power.lastGasp = true → s.power.coinCell = true →
    ∃ t, exec (.vaultEntry vhold) s = .next t ∧ t.sys.mode = Mode.vault ∧ t.sys.ready = false ∧ t.sys.holdCauses = 0 ∧
      t.power.lastGasp = false ∧ t.power.vlogicOff = true ∧ t.power.energy = 0 ∧ t.power.stores = [] ∧ t.island.running = false ∧
      t.power.vhold = vhold ∧ t.power.sticky.getLsbD 0 = true ∧
      (vhold ≤ 18000000 → s.sys.mode ≠ Mode.ice → t.power.sticky.getLsbD 3 = true)) ∧
  (∀ (s : State) (vhold : Int), s.power.lastGasp = true → s.power.coinCell = false →
    ∃ t, exec (.vaultEntry vhold) s = .next t ∧ t.sys.mode = Mode.vault ∧ t.sys.ready = false ∧ t.power.stores = [] ∧
      t.power.springPowered = false ∧ t.power.sticky = 0x2#32 ∧ t.ream.fallback = []) ∧
  (∀ (s : State) (vhold : Int), s.power.lastGasp = false → exec (.vaultEntry vhold) s = .next (settled s s)) ∧
  (∀ (s : State) (uv : Int), s.sys.mode = .vault → 17500000 < uv →
    ∃ t, exec (.vlogicRestored uv) s = .next t ∧ t.sys.mode = Mode.boot ∧ t.sys.ready = false ∧ t.sys.devTime = 0 ∧
      t.power.vlogicOff = false ∧ t.power.springPowered = true ∧ t.power.tripHold = false ∧ t.power.tripTimes = [] ∧
      t.power.vlogic = uv) ∧
  (∀ s : State, s.sys.mode = .vault →
    ∃ t, exec .vbatTrip s = .next t ∧ t.power.springPowered = false ∧ t.power.coinCell = false ∧ t.power.sticky = 0x2#32 ∧
      t.power.lastMode = 0#32 ∧ t.power.thermTrip = 0#32 ∧ t.power.sprVbat = 0#32 ∧ t.ream.fallback = []) ∧
  (∀ (s : State) (uv : Int), s.sys.mode ≠ .vault →
    exec .vbatTrip s = .next (settled s { s with power := { s.power with coinCell := false, vbat := 0 } }) ∧
    exec (.vlogicRestored uv) s = .next (settled s { s with power := { s.power with vlogic := uv } })) ∧
  (∀ (s : State) (uv : Int),
    exec (.coinCellFitted uv) s =
      .next (settled s { s with power := { s.power with coinCell := true, vbat := uv, springPowered := true } }))

/-- Field supplies (R353, R403, R560). -/
def Obligations.FieldSuppliesAct : Prop :=
  (∀ (s : State) (supply : Nat) (uv : Int), supply ≤ 1 →
    exec (.vfieldLow supply uv) s = .next (settled s (setSupply supply uv s))) ∧
  (∀ (s : State) (supply : Nat) (uv : Int) (s2 s4 : State), uv < 15000000 →
    ((supply = 0 ∧ s.field.sagIo = none) ∨ (supply = 1 ∧ s.field.sagVd = none)) →
    s2 = onField (fun f => if supply = 0 then { f with sagIo := some (s.sys.devTime : Int) } else { f with sagVd := some (s.sys.devTime : Int) })
      (setSupply supply uv s) →
    s4 = note 0x0A21 [supply, mvOf uv, outputsOn s] ((stationsOfType s2 0x41).foldl (fun t n => latchOff n t) s2) →
    s.sys.ready = true → watched s4 = true →
    exec (.vfieldSag supply uv) s = .next (settled s (setCause (3 + supply) true s4))) ∧
  (∀ (s : State) (supply : Nat) (uv q : Int) (s2 : State), 18000000 < uv →
    ((supply = 0 ∧ s.field.sagIo = some q) ∨ (supply = 1 ∧ s.field.sagVd = some q)) →
    s2 = onField (fun f => if supply = 0 then { f with sagIo := none } else { f with sagVd := none }) (setSupply supply uv s) →
    s.sys.ready = true → watched s2 = true →
    exec (.vfieldRecovered supply uv) s = .next (settled s (setCause (3 + supply) false
      (drawn 1 (note 0x0A22 [supply, sagMs q (if supply = 0 then s.field.lowIoAt else s.field.lowVdAt) s] s2))))) ∧
  (∀ (s : State) (supply : Nat) (uv : Int), uv < 15000000 →
    ((supply = 0 ∧ s.field.sagIo ≠ none) ∨ (supply = 1 ∧ s.field.sagVd ≠ none)) →
    exec (.vfieldSag supply uv) s = .next (settled s (setSupply supply uv s))) ∧
  (∀ (s : State) (supply : Nat) (uv : Int), 18000000 < uv →
    ((supply = 0 ∧ s.field.sagIo = none) ∨ (supply = 1 ∧ s.field.sagVd = none)) →
    exec (.vfieldRecovered supply uv) s = .next (settled s (setSupply supply uv s))) ∧
  (∀ (s : State) (supply : Nat) (uv : Int), (1 < supply ∨ (15000000 ≤ uv ∧ uv ≤ 18000000)) →
    exec (.vfieldSag supply uv) s = .next (settled s s) ∧ exec (.vfieldRecovered supply uv) s = .next (settled s s)) ∧
  (∀ (s : State) (supply : Nat) (uv : Int), 1 < supply → exec (.vfieldLow supply uv) s = .next (settled s s)) ∧
  (∀ (s : State) (uv : Int), 10000000 ≤ uv → uv ≤ 12000000 →
    exec (.vfieldVdCutoff uv) s = .next (settled s (setSupply 1 uv s)) ∧
    exec (.vfieldVdRestored uv) s = .next (settled s (setSupply 1 uv s))) ∧
  (∀ (s : State) (uv : Int), uv < 10000000 →
    exec (.vfieldVdCutoff uv) s =
      .next (settled s (modBank 2 (fun k => { k with lowCut := true }) (modBank 1 (fun k => { k with lowCut := true })
        (modBank 0 (fun k => { k with lowCut := true }) (setSupply 1 uv s)))))) ∧
  (∀ (s : State) (uv : Int), 12000000 < uv →
    exec (.vfieldVdRestored uv) s =
      .next (settled s (modBank 2 (fun k => { k with lowCut := false }) (modBank 1 (fun k => { k with lowCut := false })
        (modBank 0 (fun k => { k with lowCut := false }) (setSupply 1 uv s)))))) ∧
  (∀ (s : State) (uv : Int), exec (.vfieldIoNoSupply uv) s = .next (settled s (setSupply 0 uv s)))

/-- The Reservoir and its stores (R530, R562, R563, R565, R566, R580). -/
def Obligations.ReservoirAndStoresAct : Prop :=
  (∀ (s : State) (uv : Int), s.sys.ready = true → s.power.capKnown = true → s.power.below405 = true →
    810000000000000000 ≤ usableEnergy s.power.capUf uv →
    exec (.reservoirEnergyUpdate uv) s =
      .next (settled s (onPower (fun p => { p with below405 := false })
        (note 0x0F24 [2, energyMj (setVhold uv s)] (setVhold uv s))))) ∧
  (∀ (s : State) (uv : Int),
    (s.sys.ready = false ∨ s.power.below405 = decide ((if s.power.capKnown then usableEnergy s.power.capUf uv else 0) < 810000000000000000)) →
    exec (.reservoirEnergyUpdate uv) s = .next (settled s (setVhold uv s))) ∧
  (∀ (s : State) (us : Nat) (vhold : Int), s.power.measuring ≠ 0 → s.power.lastGasp = false → s.sys.mode ≠ .vault →
    exec (.reservoirMeasured us vhold) s = .next (settled s (capMeasured us vhold s))) ∧
  (∀ (s : State) (us : Nat) (vhold : Int), (s.power.measuring = 0 ∨ s.power.lastGasp = true ∨ s.sys.mode = .vault) →
    exec (.reservoirMeasured us vhold) s = .next (settled s s)) ∧
  (∀ s : State, s.sys.ready = true → s.power.measuring = 0 → s.power.lastGasp = false →
    s.power.stores.any (·.admitted) = false →
    exec .reservoirStepDue s = .next (settled s { s with power := { s.power with measuring := 2, charging := false, stepDue := false } })) ∧
  (∀ s : State, s.sys.ready = true → (s.power.measuring ≠ 0 ∨ s.power.lastGasp = true ∨ s.power.stores.any (·.admitted) = true) →
    exec .reservoirStepDue s = .next (settled s { s with power := { s.power with stepDue := true } })) ∧
  (∀ (s : State) (r : Req), asks 0x0F22 r s = true → s.power.measuring = 0 → s.power.stores.any (·.admitted) = false →
    20000000 ≤ s.power.vhold →
    exec (.rsvMeasure r) s =
      .next (settled s (settleRes (reqOrg 0x0F22 r) (.later (startStep (addJob { org := reqOrg 0x0F22 r } (begun 0x0F22 r s))))))) ∧
  (∀ (s : State) (r : Req), asks 0x0F22 r s = true → (s.power.measuring ≠ 0 ∨ s.power.stores.any (·.admitted) = true) →
    exec (.rsvMeasure r) s = .next (settled s (answered 0x0F22 r sBUSY [] (begun 0x0F22 r s)))) ∧
  (∀ (s : State) (r : Req), asks 0x0F22 r s = true → s.power.measuring = 0 → s.power.stores.any (·.admitted) = false →
    s.power.vhold < 20000000 →
    exec (.rsvMeasure r) s = .next (settled s (answered 0x0F22 r sNOENERGY [] (begun 0x0F22 r s)))) ∧
  (∀ (s : State) (vhold : Int), s.sys.mode ≠ .vault → vhold < 33000000 → s.power.charging = true →
    exec (.reservoirChargeTimeout vhold) s =
      .next (settled s (refreshReserve (noteRom 0x0F23 [2, s.power.capUf, mvOf vhold]
        (onPower (fun p => { p with resFault := true }) (setVhold vhold s)))))) ∧
  (∀ (s : State) (vhold : Int), (s.sys.mode = .vault ∨ 33000000 ≤ vhold ∨ (setVhold vhold s).power.charging = false) →
    exec (.reservoirChargeTimeout vhold) s = .next (settled s (refreshReserve (setVhold vhold s)))) ∧
  (∀ s : State, exec .storeAdmitted s = .next (settled s (admitWaiting s.power.stores.length s))) ∧
  (∀ (s : State) (i off : Nat) (x : Store) (u : State), s.power.stores[i]? = some x → x.admitted = true → s.power.lastGasp = false →
    (∀ b ∈ s.fsh.backed, x.act ≠ .freshetBlock b) → (∀ b ∈ List.range 256, x.act ≠ .freshetBlock b) →
    s.power.gaspStores = 0 → u = storeDone x.act (dropStore i s) → u.fsh.restartDue = false →
    (x.act = .reamRecord ∨ x.act = .cellMap ∨ x.act = .ageRecord ∨ x.act = .islandAudit ∨ x.act = .islandSeq ∨ x.act = .configMigrate) →
    exec (.storeWriteDone i true off) s = .next (settled s (stepWaiting u))) ∧
  (∀ (s : State) (i off : Nat) (x : Store), s.power.stores[i]? = some x → x.admitted = true → x.write < 3 →
    (x.act = .reamRecord ∨ x.act = .cellMap ∨ x.act = .ageRecord ∨ x.act = .islandAudit ∨ x.act = .islandSeq ∨ x.act = .configMigrate) →
    s.fsh.restartDue = false → s.power.stepDue = false →
    exec (.storeWriteDone i false off) s =
      .next (settled s (note 0x0F74 [x.cls, x.write + 1]
        (onAbsorb (fun a => { a with storeRetries := w32 (a.storeRetries + 1) })
          (onPower (fun p => { p with stores := lmod p.stores i (fun y => { y with write := y.write + 1 }) }) s))))) ∧
  (∀ (s : State) (i off : Nat) (x : Store), s.power.stores[i]? = some x → x.admitted = true → 3 ≤ x.write → x.act = .cellMap →
    s.fsh.restartDue = false → s.power.stepDue = false →
    exec (.storeWriteDone i false off) s =
      .next (settled s (noteFault 0x0F72 [storeClass .cellMap, off] (dropStore i s)))) ∧
  (∀ (s : State) (i off : Nat) (ok : Bool), (∀ x, s.power.stores[i]? = some x → x.admitted = false) → s.fsh.restartDue = false →
    s.power.stepDue = false → exec (.storeWriteDone i ok off) s = .next (settled s s))

/-- Temperatures and power commands (R573–R575, R580). -/
def Obligations.TemperaturesAct : Prop :=
  (∀ (s s1 : State) (temps : List TempIn), s.sys.ready = true →
    s1 = wearJunction (sampleAll temps s) →
    (∀ i ∈ List.range 14, warnCause s1 i = 0) →
    (∀ i ∈ List.range 14, (sensor s1 i).fast < 2 ∧ (sensor (refreshTempHot s1) i).fast < 2) →
    exec (.tempSample temps) s = .next (settled s (if islandUp s1 then refreshTempHot s1 else s1))) ∧
  (∀ (s s1 u : State) (temps : List TempIn) (k : Nat), s.sys.ready = true → s1.power.thermalWarn = false →
    s1 = wearJunction (sampleAll temps s) →
    k < 14 → warnCause s1 k ≠ 0 → (∀ j ∈ List.range k, warnCause s1 j = 0) →
    u = note 0x0F30 [k, warnCause s1 k, treated s1 k, roundDiv (treatedRate s1 k) 10]
        { s1 with power := { s1.power with thermalWarn := true, warnSince := s.sys.devTime } } →
    (∀ j ∈ List.range 14, (sensor u j).fast < 2 ∧ (sensor (refreshTempHot u) j).fast < 2) →
    exec (.tempSample temps) s = .next (settled s (if islandUp u then refreshTempHot u else u))) ∧
  (∀ (s s1 u : State) (temps : List TempIn) (k : Nat), s.sys.ready = true →
    s1 = wearJunction (sampleAll temps s) →
    (∀ j ∈ List.range 14, warnCause s1 j = 0) → u = (if islandUp s1 then refreshTempHot s1 else s1) → k < 14 →
    (sensor u k).substituted = false → 2 ≤ (sensor u k).fast → (∀ j ∈ List.range k, (sensor u j).fast < 2) →
    exec (.tempSample temps) s = .next (settled s (thermalTrip k true (sensor u k).raw u))) ∧
  (∀ (s : State) (temps : List TempIn) (pred : List (Nat × Nat × Int)), s.sys.ready = false →
    exec (.tempSample temps) s = .next (settled s s) ∧ exec (.thermalModelCheck pred) s = .next (settled s s)) ∧
  (∀ s : State, s.power.thermalWarn = true → allCool s = true →
    exec .thermalWarningClear s =
      .next (settled s (note 0x0F31 [nsMs (s.sys.devTime - s.power.warnSince) / 1000]
        { s with power := { s.power with thermalWarn := false } }))) ∧
  (∀ s : State, (s.power.thermalWarn = false ∨ allCool s = false) → exec .thermalWarningClear s = .next (settled s s)) ∧
  (∀ (s : State) (pred : List (Nat × Nat × Int)), s.sys.ready = true →
    exec (.thermalModelCheck pred) s =
      .next (settled s ((List.range 14).foldl (fun t i => judgeSensor pred i (isSuspect s pred i) t) s))) ∧
  (∀ (s : State) (i : Nat) (rate : Bool) (mdeg : Int), i ≤ 13 → (sensor s i).substituted = false → (rate = true ∨ 135000 ≤ mdeg) →
    s.sys.mode ≠ .vault → s.sys.mode ≠ .ice → s.power.lastGasp = false →
    exec (.thermalTrip i rate mdeg) s = .next (settled s (restartFor 0x15 2 (tripRegisters i rate mdeg s)))) ∧
  (∀ (s : State) (i : Nat) (rate : Bool) (mdeg : Int), i ≤ 13 → (sensor s i).substituted = false → (rate = true ∨ 135000 ≤ mdeg) →
    s.sys.mode ≠ .vault → s.sys.mode ≠ .ice → s.power.lastGasp = true →
    exec (.thermalTrip i rate mdeg) s = .next (settled s (tripRegisters i rate mdeg s))) ∧
  (∀ (s : State) (i : Nat) (rate : Bool) (mdeg : Int),
    (13 < i ∨ (sensor s i).substituted = true ∨ (rate = false ∧ mdeg < 135000) ∨ s.sys.mode = .vault ∨ s.sys.mode = .ice) →
    exec (.thermalTrip i rate mdeg) s = .next (settled s s)) ∧
  (∀ (s : State) (r : Req) (p : Power), asks 0x0F20 r s = true → p = s.power → g1 r.payload 0 ≤ 3 → zeroAt r.payload 1 3 = true →
    exec (.pwrStatus r) s =
      .next (settled s (answered 0x0F20 r sOK
        (q4 p.vlogic ++ q4 p.vfieldIo ++ q4 p.vfieldVd ++ q4 p.vhold ++ q4 p.vbat ++ p4 p.capUf ++ p4 (energyMj s) ++
          p4 (committedMj s) ++ p2 (p.stores.filter (fun x => !x.admitted)).length ++
          p1 (b01 p.warnVlogic + b01 s.field.lowIo * 2 + b01 s.field.lowVd * 4 + b01 p.resFault * 8 + b01 p.below405 * 16 +
            b01 p.charging * 32 + b01 (p.measuring != 0) * 64) ++
          zeros 1 ++ p4 p.sticky.toNat ++ p4 p.lastMode.toNat ++ p4 (thermTripWord s))
        { begun 0x0F20 r s with power := { p with
            sticky := if bitOf (g1 r.payload 0) 0 then p.sticky &&& 0x20 else p.sticky,
            thermTrip := if bitOf (g1 r.payload 0) 1 then p.thermTrip &&& ~~~0x8000 else p.thermTrip } }))) ∧
  (∀ (s : State) (r : Req), asks 0x0F20 r s = true → (3 < g1 r.payload 0 ∨ zeroAt r.payload 1 3 = false) →
    exec (.pwrStatus r) s = .next (settled s (answered 0x0F20 r sBADOBJ [] (begun 0x0F20 r s)))) ∧
  (∀ (s : State) (r : Req), asks 0x0F21 r s = true →
    exec (.thermStatus r) s =
      .next (settled s (answered 0x0F21 r sOK
        ((List.range 14).flatMap (sensorEntry s) ++ p1 (hottestOf s) ++ p1 (b01 s.power.thermalWarn) ++
          p1 (thermTrips s) ++ zeros 1 ++ p4 (Config.freeNat s.fresh)) (drawn 1 (begun 0x0F21 r s)))))

/-- Checkpoint and mismatch (R521–R524). -/
def Obligations.LockstepIsAbsorbed : Prop :=
  (∀ s : State, s.sys.ready = true → s.absorb.reexecuting = false →
    exec .checkpoint s =
      .next (settled s { s with absorb := { s.absorb with checkA := s.sys.devTime, checkB := s.sys.devTime } })) ∧
  (∀ s : State, (s.sys.ready = false ∨ s.absorb.reexecuting = true) → exec .checkpoint s = .next (settled s s)) ∧
  (∀ (s : State) (c0 c1 : Bool), s.sys.ready = true → s.absorb.core = 0 → s.absorb.dead = false → s.power.lastGasp = false →
    s.absorb.reexecuting = false → (recentMismatches s).length < 2 →
    exec (.lockstepMismatch none c0 c1) s =
      .next (settled s (setCause 5 true { s with absorb := { s.absorb with
        mismatchTimes := s.sys.devTime :: recentMismatches s, mismatches := w32 (s.absorb.mismatches + 1),
        mismatchDays := dayOf s.sys.calTime :: s.absorb.mismatchDays, latch := true, latchSince := s.sys.devTime,
        latchExpired := false, reexecuting := true } }))) ∧
  (∀ (s : State) (c0 c1 : Bool), s.sys.ready = true → s.absorb.core = 0 → s.absorb.dead = false → s.power.lastGasp = false →
    s.absorb.reexecuting = false → 2 ≤ (recentMismatches s).length →
    exec (.lockstepMismatch none c0 c1) s =
      .next (settled s (selfTest c0 c1 (setCause 5 true { s with absorb := { s.absorb with
        mismatchTimes := s.sys.devTime :: recentMismatches s, mismatches := w32 (s.absorb.mismatches + 1),
        mismatchDays := dayOf s.sys.calTime :: s.absorb.mismatchDays, latch := true, latchSince := s.sys.devTime,
        latchExpired := false, reexecuting := true } })))) ∧
  (∀ (s : State) (p : Nat) (c0 c1 : Bool), s.sys.ready = true → s.absorb.core = 0 → s.absorb.dead = false → s.power.lastGasp = false →
    s.absorb.reexecuting = false →
    exec (.lockstepMismatch (some p) c0 c1) s =
      .next (settled s (
        let u := note 0x0F51 [p, (recentMismatches s).length + 2] (onAbsorb (fun a => { a with
              divergences := w32 (a.divergences + 1), mismatchTimes := s.sys.devTime :: a.mismatchTimes })
            (setCause 5 true { s with absorb := { s.absorb with
              mismatchTimes := s.sys.devTime :: recentMismatches s, mismatches := w32 (s.absorb.mismatches + 1),
              mismatchDays := dayOf s.sys.calTime :: s.absorb.mismatchDays, latch := true, latchSince := s.sys.devTime,
              latchExpired := false, reexecuting := true } }));
        if 1 ≤ (recentMismatches s).length then selfTest c0 c1 u else u))) ∧
  (∀ (s : State) (p : Option Nat) (c0 c1 : Bool), s.sys.ready = true → s.absorb.core = 0 → s.absorb.dead = false → s.power.lastGasp = false →
    s.absorb.reexecuting = true →
    exec (.lockstepMismatch p c0 c1) s =
      .next (settled s (
        let u := note 0x0F51 [p.getD 0, (recentMismatches s).length + 1] { s with absorb := { s.absorb with
          mismatchTimes := s.sys.devTime :: recentMismatches s, divergences := w32 (s.absorb.divergences + 1) } };
        if 2 ≤ (recentMismatches s).length then selfTest c0 c1 u else u))) ∧
  (∀ (s : State) (p : Option Nat) (c0 c1 : Bool), (s.sys.ready = false ∨ s.absorb.core ≠ 0 ∨ s.absorb.dead = true) →
    exec (.lockstepMismatch p c0 c1) s = .next (settled s s)) ∧
  (∀ (s : State) (p : Option Nat) (c0 c1 : Bool), s.sys.ready = true → s.absorb.core = 0 → s.absorb.dead = false → s.power.lastGasp = true →
    exec (.lockstepMismatch p c0 c1) s = .next (settled s { s with absorb := { s.absorb with latch := true } })) ∧
  (∀ (s : State) (c0 c1 : Bool), (c0 = true ∨ c1 = true) →
    selfTest c0 c1 s = judgeAge 6 1000000 (note 0x0F52 [if c0 then 0 else 1, b01 (!c0) + b01 (!c1) * 2]
      { s with absorb := { s.absorb with core := if c0 then 1 else 2 } })) ∧
  (∀ s : State, selfTest false false s = { s with absorb := { s.absorb with dead := true } })

/-- The end of re-execution and of the latch (R40, R522, R525, R541). -/
def Obligations.ReexecutionAndLatchEnd : Prop :=
  (∀ (s : State) (n : Nat), s.absorb.reexecuting = true → s.absorb.dead = false → s.power.lastGasp = false →
    exec (.reexecutionComplete n) s =
      .next (settled s (hearAll
        (note 0x0F50 [(s.absorb.latchSince - max s.absorb.checkA s.absorb.checkB) / 1000, (s.sys.devTime - s.absorb.latchSince) / 1000, n]
          (resumeAll (setCause 5 false (onAbsorb (fun a => { a with reexecuting := false, latch := false, latchExpired := false })
            (rebaseValves (rebaseLoops s))))))))) ∧
  (∀ (s : State) (n : Nat), (s.absorb.reexecuting = false ∨ s.absorb.dead = true ∨ s.power.lastGasp = true) →
    exec (.reexecutionComplete n) s = .next (settled s s)) ∧
  (∀ s : State, s.absorb.latch = true → s.absorb.latchExpired = false → s.power.lastGasp = false →
    9500000 ≤ s.sys.devTime - s.absorb.latchSince →
    exec .latchExpired s =
      .next (settled s (holdEffects (noteFault 0x0F54 [(s.sys.devTime - s.absorb.latchSince) / 1000]
        { s with absorb := { s.absorb with latchExpired := true, latchExpiries := w32 (s.absorb.latchExpiries + 1) } })))) ∧
  (∀ s : State, (s.absorb.latch = false ∨ s.absorb.latchExpired = true ∨ s.power.lastGasp = true ∨
      s.sys.devTime - s.absorb.latchSince < 9500000) →
    exec .latchExpired s = .next (settled s s))

/-- Cells and memories (R207, R527–R529, R531). -/
def Obligations.CellsAndMemoriesAreAbsorbed : Prop :=
  (∀ (s : State) (bank cell check : Nat), bank ≤ 3 → cell < 8 → cellDead s bank cell = false →
    tfind s.absorb.spareServes bank = none →
    spareAlive (mapStore (onAbsorb (fun a => { a with cellFailed := (bank, cell) :: a.cellFailed }) s)) bank = true →
    spareAlive s bank = true →
    exec (.cellCheckFailed bank cell check) s =
      .next (settled s (note 0x0F60 [(cellTerm bank cell).1, (cellTerm bank cell).2, check]
        (substitute (cellTerm bank cell).1 (cellTerm bank cell).2
          (onAbsorb (fun a => { a with spareServes := tset a.spareServes bank cell, substitutions := w32 (a.substitutions + 1) })
            (mapStore (onAbsorb (fun a => { a with cellFailed := (bank, cell) :: a.cellFailed }) s))))))) ∧
  (∀ (s : State) (bank cell check : Nat), bank ≤ 3 → cell < 8 → cellDead s bank cell = false →
    (tfind s.absorb.spareServes bank ≠ none ∨ spareAlive s bank = false) →
    exec (.cellCheckFailed bank cell check) s =
      .next (settled s (noteFault 0x0F61 [(cellTerm bank cell).1, (cellTerm bank cell).2, check]
        (mapStore (onAbsorb (fun a => { a with cellFailed := (bank, cell) :: a.cellFailed }) s))))) ∧
  (∀ (s : State) (bank check : Nat), bank ≤ 3 → cellDead s bank 8 = false → tfind s.absorb.spareServes bank = none →
    exec (.cellCheckFailed bank 8 check) s =
      .next (settled s (note 0x0F62 [bank, check]
        (mapStore (onAbsorb (fun a => { a with cellFailed := (bank, 8) :: a.cellFailed }) s))))) ∧
  (∀ (s : State) (bank check c : Nat), bank ≤ 3 → cellDead s bank 8 = false → tfind s.absorb.spareServes bank = some c →
    exec (.cellCheckFailed bank 8 check) s =
      .next (settled s (noteFault 0x0F61 [(cellTerm bank c).1, (cellTerm bank c).2, check]
        (mapStore (onAbsorb (fun a => { a with cellFailed := (bank, 8) :: a.cellFailed }) s))))) ∧
  (∀ (s : State) (bank cell check : Nat), (3 < bank ∨ 8 < cell ∨ cellDead s bank cell = true) →
    exec (.cellCheckFailed bank cell check) s = .next (settled s s)) ∧
  (∀ (s : State) (bank : Nat) (pb sb : Bool) (u : State), bank ≤ 3 → spareReady s bank = true →
    u = { s with absorb := { s.absorb with
        shadowNext := tset s.absorb.shadowNext bank (((tfind s.absorb.shadowNext bank).getD 0 + 1) % 8) } } →
    exec (.shadowCheck bank true pb sb) s =
      .next (settled s (if pb then cellFails bank ((tfind s.absorb.shadowNext bank).getD 0) 4 (if sb then cellFails bank 8 4 u else u)
        else if sb then cellFails bank 8 4 u else u))) ∧
  (∀ (s : State) (bank : Nat) (df pb sb : Bool), (3 < bank ∨ spareReady s bank = false) →
    exec (.shadowCheck bank df pb sb) s = .next (settled s s)) ∧
  (∀ (s : State) (bank : Nat), bank ≤ 3 → spareReady s bank = true →
    exec (.shadowCheck bank false false false) s =
      .next (settled s { s with absorb := { s.absorb with
        shadowNext := tset s.absorb.shadowNext bank (((tfind s.absorb.shadowNext bank).getD 0 + 1) % 8) } })) ∧
  (∀ (s : State) (addr : Nat), exec (.memoryScrub 5 [(addr, 2)]) s =
      .next (settled s (note 0x0F70 [5, addr, 2]
        { s with absorb := { s.absorb with eccMram := w32 (s.absorb.eccMram + 2), mramDay := s.absorb.mramDay + 2 } }))) ∧
  (∀ (s : State) (mem : Nat) (fixes : List (Nat × Nat)), (mem = 2 ∨ mem = 3 ∨ mem = 5 ∨ mem = 6) →
    exec (.memoryScrub mem fixes) s = .next (settled s (fixes.foldl (fun t e => scrubbed mem e.1 e.2 s.absorb.pageScrubs t) s))) ∧
  (∀ (s : State) (fixes : List (Nat × Nat)),
    exec (.memoryScrub 4 fixes) s = .next (settled s (fixes.foldl (fun t e => scrubbed 4 e.1 e.2 s.absorb.norScrubs t)
      { s with absorb := { s.absorb with norScrubs := [] } }))) ∧
  (∀ (s : State) (mem : Nat) (fixes : List (Nat × Nat)), mem ≤ 1 →
    exec (.memoryScrub mem fixes) s = .next (settled s (fixes.foldl (fun t e => scrubbed mem e.1 e.2 s.absorb.pageScrubs t)
      { s with absorb := { s.absorb with pageScrubs := s.absorb.pageScrubs.filter (fun e => e.1 / 16777216 != mem) } }))) ∧
  (∀ (s : State) (addr : Nat) (both : Bool), s.sys.ready = true →
    exec (.eccError 5 addr true both) s =
      .next (settled s (note 0x0F70 [5, addr, 1]
        { s with absorb := { s.absorb with eccMram := w32 (s.absorb.eccMram + 1), mramDay := s.absorb.mramDay + 1 } }))) ∧
  (∀ (s : State) (mem addr : Nat) (both : Bool), s.sys.ready = true → mem ≤ 7 →
    exec (.eccError mem addr true both) s =
      .next (settled s (note 0x0F70 [mem, if mem ≤ 1 then addr / 4096 else addr, 1] (countFix mem 1 s)))) ∧
  (∀ (s : State) (addr : Nat) (both : Bool), s.sys.ready = true →
    exec (.eccError 0 addr false both) s =
      .next (settled s (dramError 0 addr (if both then unabsorbed 0 addr s else absorbed 0 addr 1 s))) ∧
    exec (.eccError 1 addr false both) s =
      .next (settled s (dramError 1 addr (unabsorbed 1 addr { s with sys := { s.sys with busError := true, appData := [] } }))) ∧
    exec (.eccError 2 addr false both) s = .next (settled s (lockstepMismatch none true true s)) ∧
    exec (.eccError 3 addr false both) s = .next (settled s (sluiceError addr s)) ∧
    exec (.eccError 5 addr false both) s = .next (settled s (mramError addr both s)) ∧
    exec (.eccError 6 addr false both) s = .next (settled s (nandError addr s)) ∧
    exec (.eccError 7 addr false both) s = .next (settled s (ringError addr s))) ∧
  (∀ (s : State) (addr : Nat) (both : Bool), s.sys.ready = true →
    exec (.eccError 4 addr false both) s =
      .next (settled s (restartFor 0x11 4 (unabsorbed 4 addr (onAbsorb
        (fun a => { a with norRefresh := a.norRefresh.filter (· != addr / 262144) ++ [addr / 262144] }) s))))) ∧
  (∀ (s : State) (mem addr : Nat) (fixed both : Bool), s.sys.ready = false →
    exec (.eccError mem addr fixed both) s = .next (settled s s)) ∧
  (∀ (s : State) (addr : Nat), s.sys.ready = true → 8388608 + 524288 ≤ addr →
    exec (.eccError 5 addr false false) s = .next (settled s (absorbed 5 addr 1 s))) ∧
  (∀ (s : State) (station chan share : Nat), outOn s station = true → 1 < (stnTerms s station).length →
    (stnTerms s station).contains chan = true → share < 50 →
    exec (.parallelShareLow station chan share) s = .next (settled s (note 0x0F68 [station, chan, share] s))) ∧
  (∀ (s : State) (station chan share : Nat), (outOn s station = false ∨ (stnTerms s station).length ≤ 1 ∨
      (stnTerms s station).contains chan = false ∨ 50 ≤ share) →
    exec (.parallelShareLow station chan share) s = .next (settled s s))

/-- Counters and ageing (R532–R539). -/
def Obligations.AgeingAndCountersAnswer : Prop :=
  (∀ (s : State) (r : Req) (a : Absorb), asks 0x0F50 r s = true → a = s.absorb →
    exec (.absStatus r) s =
      .next (settled s (answered 0x0F50 r sOK
        (p1 a.core ++ p1 (maskOf (List.range 4) (spareReady s)) ++ zeros 2 ++ p4 a.mismatches ++ p4 a.divergences ++
          p4 a.latchExpiries ++ p4 a.substitutions ++ p4 a.eccDram ++ p4 a.eccSram ++ p4 a.eccNor ++ p4 a.eccMram ++
          p4 a.uncorrAbsorbed ++ p4 a.uncorrUnabsorbed ++ p4 a.storeRetries ++ p4 a.pagesRetired ++ zeros 4) (begun 0x0F50 r s)))) ∧
  (∀ (s : State) (r : Req) (x : Age), asks 0x0F51 r s = true → g1 r.payload 0 ≤ 54 → zeroAt r.payload 1 3 = true →
    x = age s (g1 r.payload 0) →
    exec (.ageRead r) s =
      .next (settled s (answered 0x0F51 r sOK
        (p1 (g1 r.payload 0) ++
          p1 (b01 (isStep (g1 r.payload 0)) + b01 x.rebased * 2 + b01 (x.days < 90) * 4 + b01 (1000000 ≤ x.w) * 8) ++ p2 x.samples.length ++
          p4 (uField 4 x.w) ++ q4 x.slope ++ p2 x.days ++ p2 x.daysLo ++ p2 x.daysHi ++ zeros 2 ++ q8 x.lastSample ++ zeros 4) (begun 0x0F51 r s)))) ∧
  (∀ (s : State) (r : Req), asks 0x0F52 r s = true → g1 r.payload 0 ≤ 1 → zeroAt r.payload 1 3 = true →
    canStore (.ageRebase (reqOrg 0x0F52 r) (g1 r.payload 0)) (begun 0x0F52 r s) = true →
    exec (.ageRebase r) s =
      .next (settled s (requestStore (.ageRebase (reqOrg 0x0F52 r) (g1 r.payload 0))
        (addJob { org := reqOrg 0x0F52 r, a := g1 r.payload 0 } (begun 0x0F52 r s))))) ∧
  (∀ (s : State) (r : Req), asks 0x0F52 r s = true → 10 ≤ g1 r.payload 0 → g1 r.payload 0 ≤ 21 → zeroAt r.payload 1 3 = true →
    canStore (.ageRebase (reqOrg 0x0F52 r) (g1 r.payload 0)) (begun 0x0F52 r s) = true →
    exec (.ageRebase r) s =
      .next (settled s (requestStore (.ageRebase (reqOrg 0x0F52 r) (g1 r.payload 0))
        (addJob { org := reqOrg 0x0F52 r, a := g1 r.payload 0 } (begun 0x0F52 r s))))) ∧
  (∀ (s : State) (r : Req), asks 0x0F52 r s = true →
    ((1 < g1 r.payload 0 ∧ g1 r.payload 0 < 10) ∨ 21 < g1 r.payload 0 ∨ zeroAt r.payload 1 3 = false) →
    exec (.ageRebase r) s = .next (settled s (answered 0x0F52 r sBADOBJ [] (begun 0x0F52 r s)))) ∧
  (∀ (s : State) (r : Req), asks 0x0F51 r s = true → (54 < g1 r.payload 0 ∨ zeroAt r.payload 1 3 = false) →
    exec (.ageRead r) s = .next (settled s (answered 0x0F51 r sBADOBJ [] (begun 0x0F51 r s)))) ∧
  (∀ (s : State) (r : Req), asks 0x0F52 r s = true → (g1 r.payload 0 ≤ 1 ∨ (10 ≤ g1 r.payload 0 ∧ g1 r.payload 0 ≤ 21)) →
    zeroAt r.payload 1 3 = true →
    canStore (.ageRebase (reqOrg 0x0F52 r) (g1 r.payload 0)) (begun 0x0F52 r s) = false →
    exec (.ageRebase r) s =
      .next (settled s (answered 0x0F52 r sNOENERGY []
        (requestStore (.ageRebase (reqOrg 0x0F52 r) (g1 r.payload 0)) (begun 0x0F52 r s))))) ∧
  (∀ (s : State) (ws : List (Nat × Int)),
    exec (.ageingDaily ws) s =
      .next (settled s (requestStore .ageRecord { s with absorb := { s.absorb with
        daily := s.absorb.daily ++ [(s.sys.calTime, (List.range 55).filterMap (fun k =>
          (wearOf s k ((ws.find? (fun e => e.1 == k)).map (fun e => e.2))).map (fun w => (k, w))))],
        mramDay := 0, dramDay := 0,
        mismatchDays := s.absorb.mismatchDays.filter (fun d => decide (dayOf s.sys.calTime < d + 30)) } })))

/-- Field commands (R398, R402, R405, R412–R414). -/
def Obligations.FieldCommandsAct : Prop :=
  (∀ (s : State) (r : Req), asks 0x0A01 r s = true → g2 r.payload 2 = 0 → g2 r.payload 0 < 128 → isFieldOut s (g2 r.payload 0) = true →
    (stn s (g2 r.payload 0)).isEmpty = false → (i4 r.payload 4 = 0 ∨ i4 r.payload 4 = 1) → inRunningZone s (g2 r.payload 0) = false →
    exec (.fioSet r) s =
      .next (settled s (answered 0x0A01 r sOK [] (driveField (g2 r.payload 0) (i4 r.payload 4)
        (modFld (g2 r.payload 0) (fun f => { f with latched := false, commander := some r.side }) (begun 0x0A01 r s)))))) ∧
  (∀ (s : State) (r : Req), asks 0x0A01 r s = true → g2 r.payload 2 = 0 → g2 r.payload 0 < 128 → isFieldOut s (g2 r.payload 0) = true →
    (stn s (g2 r.payload 0)).isEmpty = false → (i4 r.payload 4 = 0 ∨ i4 r.payload 4 = 1) → inRunningZone s (g2 r.payload 0) = true →
    exec (.fioSet r) s = .next (settled s (answered 0x0A01 r sWRONGMODE [] (begun 0x0A01 r s)))) ∧
  (∀ (s : State) (r : Req), asks 0x0A01 r s = true → g2 r.payload 2 = 0 →
    (128 ≤ g2 r.payload 0 ∨ (stn s (g2 r.payload 0)).isEmpty = true) →
    exec (.fioSet r) s = .next (settled s (answered 0x0A01 r sNOTFOUND [] (begun 0x0A01 r s)))) ∧
  (∀ (s : State) (r : Req), asks 0x0A01 r s = true →
    (g2 r.payload 2 ≠ 0 ∨ (g2 r.payload 0 < 128 ∧ (stn s (g2 r.payload 0)).isEmpty = false ∧
      (isFieldOut s (g2 r.payload 0) = false ∨ (i4 r.payload 4 ≠ 0 ∧ i4 r.payload 4 ≠ 1)))) →
    exec (.fioSet r) s = .next (settled s (answered 0x0A01 r sBADOBJ [] (begun 0x0A01 r s)))) ∧
  (∀ (s : State) (r : Req), asks 0x0A04 r s = true → g2 r.payload 2 = 0 →
    (128 ≤ g2 r.payload 0 ∨ (stn s (g2 r.payload 0)).isEmpty = true) →
    exec (.loopSet r) s = .next (settled s (answered 0x0A04 r sNOTFOUND [] (begun 0x0A04 r s)))) ∧
  (∀ (s : State) (r : Req), asks 0x0A04 r s = true →
    (g2 r.payload 2 ≠ 0 ∨ (g2 r.payload 0 < 128 ∧ (stn s (g2 r.payload 0)).isEmpty = false ∧
      (isLoopOut s (g2 r.payload 0) = false ∨ i4 r.payload 4 < 3800 ∨ 20500 < i4 r.payload 4))) →
    exec (.loopSet r) s = .next (settled s (answered 0x0A04 r sBADOBJ [] (begun 0x0A04 r s)))) ∧
  (∀ (s : State) (r : Req), asks 0x0A04 r s = true → g2 r.payload 2 = 0 → g2 r.payload 0 < 128 → isLoopOut s (g2 r.payload 0) = true →
    (stn s (g2 r.payload 0)).isEmpty = false → 3800 ≤ i4 r.payload 4 → i4 r.payload 4 ≤ 20500 → inRunningZone s (g2 r.payload 0) = true →
    exec (.loopSet r) s = .next (settled s (answered 0x0A04 r sWRONGMODE [] (begun 0x0A04 r s)))) ∧
  (∀ (s : State) (r : Req), asks 0x0A04 r s = true → g2 r.payload 2 = 0 → g2 r.payload 0 < 128 → isLoopOut s (g2 r.payload 0) = true →
    (stn s (g2 r.payload 0)).isEmpty = false → 3800 ≤ i4 r.payload 4 → i4 r.payload 4 ≤ 20500 → inRunningZone s (g2 r.payload 0) = false →
    exec (.loopSet r) s =
      .next (settled s (answered 0x0A04 r sOK [] (driveField (g2 r.payload 0) (i4 r.payload 4)
        (modFld (g2 r.payload 0) (fun f => { f with latched := false, commander := some r.side }) (begun 0x0A04 r s)))))) ∧
  (∀ (s : State) (r : Req), asks 0x0A02 r s = true → g1 r.payload 0 ≤ 1 → zeroAt r.payload 1 3 = true →
    exec (.fioStatus r) s =
      .next (settled s (answered 0x0A02 r sOK
        (p4 (fioMask s (isFieldIn s) &&& s.field.levels.toNat) ++ p4 (outCmd s) ++ p4 (outMon s) ++
          p4 (fioMask s (fun n => isFieldOut s n && (fld s n).latched)) ++ p4 s.field.mask.toNat ++
          p1 (b01 s.field.live + b01 s.field.sticky * 2) ++ zeros 3 ++ q4 s.power.vfieldIo ++ p4 s.field.faultCount ++
          p4 (faultMsNow s))
        (if g1 r.payload 0 = 1 then { begun 0x0A02 r s with field := { s.field with sticky := s.field.live } } else begun 0x0A02 r s)))) ∧
  (∀ (s : State) (r : Req), asks 0x0A02 r s = true → (1 < g1 r.payload 0 ∨ zeroAt r.payload 1 3 = false) →
    exec (.fioStatus r) s = .next (settled s (answered 0x0A02 r sBADOBJ [] (begun 0x0A02 r s)))) ∧
  (∀ (s : State) (r : Req), asks 0x0A03 r s = true → maskOk s (g4 r.payload 0) = false →
    exec (.fioFaultMask r) s = .next (settled s (answered 0x0A03 r sBADOBJ [] (begun 0x0A03 r s)))) ∧
  (∀ (s : State) (r : Req), asks 0x0A03 r s = true → maskOk s (g4 r.payload 0) = true →
    exec (.fioFaultMask r) s =
      .next (settled s (answered 0x0A03 r sOK [] (refreshFault (noteBy r.side 0x0A12 [sideCode r.side, g4 r.payload 0]
        { begun 0x0A03 r s with field := { s.field with mask := BitVec.ofNat 32 (g4 r.payload 0) } }))))) ∧
  (∀ (s : State) (r : Req) (mv : Int), asks 0x0A05 r s = true → g2 r.payload 2 = 0 → g2 r.payload 0 < 128 →
    isLoopOut s (g2 r.payload 0) = true → (stn s (g2 r.payload 0)).isEmpty = false →
    mv = (fld s (g2 r.payload 0)).termMv.getD (s32 (Config.freeNat s.fresh)) →
    exec (.loopStatus r) s =
      .next (settled s (answered 0x0A05 r sOK
        (q4 (fld s (g2 r.payload 0)).value ++ q4 (loopNow s (g2 r.payload 0)) ++ p2 (fieldFlags s (g2 r.payload 0)) ++
          p1 (g1 (stnPart s (g2 r.payload 0)) 0) ++ zeros 1 ++ q4 mv) (drawn 1 (begun 0x0A05 r s))))) ∧
  (∀ (s : State) (r : Req), asks 0x0A05 r s = true → g2 r.payload 2 = 0 →
    (128 ≤ g2 r.payload 0 ∨ (stn s (g2 r.payload 0)).isEmpty = true) →
    exec (.loopStatus r) s = .next (settled s (answered 0x0A05 r sNOTFOUND [] (begun 0x0A05 r s)))) ∧
  (∀ (s : State) (r : Req), asks 0x0A05 r s = true →
    (g2 r.payload 2 ≠ 0 ∨ (g2 r.payload 0 < 128 ∧ (stn s (g2 r.payload 0)).isEmpty = false ∧ isLoopOut s (g2 r.payload 0) = false)) →
    exec (.loopStatus r) s = .next (settled s (answered 0x0A05 r sBADOBJ [] (begun 0x0A05 r s))))

/-- Field events (R44, R392, R398–R400, R406). -/
def Obligations.FieldEventsAct : Prop :=
  (∀ (s : State) (n : Nat) (lvl : Bool) (q : Nat), inputRuns s n = true → inLevel s n ≠ lvl → inMode s n = 0 →
    exec (.fioInputChange n lvl q) s =
      .next (settled s (inputWakes n (zonesInput n (publishField n (min q s.sys.devTime)
        (modFld n (fun f => { f with value := levelValue (seeLevel n lvl s) n }) (seeLevel n lvl s))))))) ∧
  (∀ (s : State) (n : Nat) (lvl : Bool) (q : Nat), inputRuns s n = true → inLevel s n ≠ lvl → inMode s n ≠ 0 →
    exec (.fioInputChange n lvl q) s = .next (settled s (seeLevel n lvl s))) ∧
  (∀ (s : State) (n : Nat) (lvl : Bool) (q : Nat), (inputRuns s n = false ∨ inLevel s n = lvl) →
    exec (.fioInputChange n lvl q) s = .next (settled s s)) ∧
  (∀ (s : State) (n : Nat), inputRuns s n = true → inMode s n = 1 →
    (∀ q, (fld s n).lastEdge = some q → q + 50000 ≤ s.sys.devTime) →
    exec (.fioCountEdge n) s =
      .next (settled s (inputWakes n (zonesInput n (publishField n s.sys.devTime (modFld n (fun f =>
        { f with count := w32 (f.count + 1), rateHigh := false, lastEdge := some s.sys.devTime, value := s32 (f.count + 1) })
        (seeLevel n true s))))))) ∧
  (∀ (s : State) (n q : Nat), inputRuns s n = true → inMode s n = 1 → (fld s n).lastEdge = some q → s.sys.devTime < q + 50000 →
    exec (.fioCountEdge n) s =
      .next (settled s (inputWakes n (zonesInput n (publishField n s.sys.devTime (note 0x0A13 [n] (modFld n (fun f =>
        { f with count := w32 (f.count + 1), rateHigh := true, lastEdge := some s.sys.devTime, value := s32 (f.count + 1) })
        (seeLevel n true s)))))))) ∧
  (∀ (s : State) (n : Nat), inputRuns s n = true → inMode s n = 2 →
    (∀ q, (fld s n).lastEdge = some q → q + 50000 ≤ s.sys.devTime) →
    exec (.fioCountEdge n) s =
      .next (settled s (inputWakes n (modFld n (fun f =>
        { f with count := w32 (f.count + 1), rateHigh := false, lastEdge := some s.sys.devTime }) (seeLevel n true s))))) ∧
  (∀ (s : State) (n : Nat), (inputRuns s n = false ∨ inMode s n = 0) → exec (.fioCountEdge n) s = .next (settled s s)) ∧
  (∀ (s : State) (n : Nat), fieldRuns s = true → isFieldIn s n = true → inMode s n = 2 →
    (fld s n).gateStart + g4 (stnPart s n) 8 * 1000000 ≤ s.sys.devTime →
    exec (.fioFreqGate n) s =
      .next (settled s (zonesInput n (publishField n s.sys.devTime (modFld n (fun f =>
        { f with value := roundDiv (f.count * 1000) (g4 (stnPart s n) 8), count := 0, gateStart := s.sys.devTime }) s))))) ∧
  (∀ (s : State) (n : Nat), (fieldRuns s = false ∨ isFieldIn s n = false ∨ inMode s n ≠ 2 ∨
      s.sys.devTime < (fld s n).gateStart + g4 (stnPart s n) 8 * 1000000) →
    exec (.fioFreqGate n) s = .next (settled s s)) ∧
  (∀ (s : State) (n : Nat), fieldRuns s = true → isFieldOut s n = true → blankingOver s n = true →
    exec (.fioOutputFault n) s = .next (settled s (refreshFault (modFld n (fun f => { f with faulted := true }) s)))) ∧
  (∀ (s : State) (n : Nat), isFieldOut s n = true →
    exec (.fioOutputFaultClear n) s = .next (settled s (refreshFault (modFld n (fun f => { f with faulted := false }) s)))) ∧
  (∀ (s : State) (n : Nat), isFieldOut s n = false →
    exec (.fioOutputFault n) s = .next (settled s s) ∧ exec (.fioOutputFaultClear n) s = .next (settled s s)) ∧
  (∀ (s : State) (n : Nat), (fieldRuns s = false ∨ blankingOver s n = false) → exec (.fioOutputFault n) s = .next (settled s s)) ∧
  (∀ (s : State) (n : Nat), s.absorb.reexecuting = false → exec (.outputCmdTimeout n) s = .next (settled s (outputTimeout n s))) ∧
  (∀ (s : State) (n : Nat), (isFieldOut s n = true ∨ isLoopOut s n = true) → cmdTimeout s n ≠ 0 →
    (fld s n).safe = false → (fld s n).commander.isSome = true → (fld s n).cmdAt + cmdTimeout s n * 1000000 ≤ s.sys.devTime →
    outputTimeout n s = note 0x0A30 [n, cmdTimeout s n] (safeField n (modFld n (fun f => { f with timedOut := true }) s))) ∧
  (∀ (s : State) (n : Nat), s.absorb.reexecuting = true → exec (.outputCmdTimeout n) s = .next (settled s s)) ∧
  (∀ (s : State) (n : Nat) (ua mv : Int), fieldRuns s = true → isLoopOut s n = true → (100 ≤ ua ∨ loopTarget s n s.sys.devTime < 3600) →
    50 < (loopTarget s n s.sys.devTime - ua).natAbs → (fld s n).loopFault = false →
    exec (.loopOutputDeviation n ua mv) s =
      .next (settled s (note 0x0A31 [n, loopTarget s n s.sys.devTime, ua] (publishField n s.sys.devTime
        (modFld n (fun f => { f with measured := ua, termMv := some mv, loopFault := true }) s))))) ∧
  (∀ (s : State) (n : Nat) (ua mv : Int), fieldRuns s = true → isLoopOut s n = true → ua < 100 → 3600 ≤ loopTarget s n s.sys.devTime →
    (fld s n).openLoop = false →
    exec (.loopOutputDeviation n ua mv) s =
      .next (settled s (note 0x0A32 [n] (publishField n s.sys.devTime
        (modFld n (fun f => { f with measured := ua, termMv := some mv, openLoop := true }) s))))) ∧
  (∀ (s : State) (n : Nat) (ua mv : Int), fieldRuns s = true → isLoopOut s n = true → (100 ≤ ua ∨ loopTarget s n s.sys.devTime < 3600) →
    50 < (loopTarget s n s.sys.devTime - ua).natAbs → (fld s n).loopFault = true →
    exec (.loopOutputDeviation n ua mv) s =
      .next (settled s (publishField n s.sys.devTime (modFld n (fun f => { f with measured := ua, termMv := some mv }) s)))) ∧
  (∀ (s : State) (n : Nat) (ua mv : Int), (fieldRuns s = false ∨ isLoopOut s n = false ∨ (loopTarget s n s.sys.devTime - ua).natAbs ≤ 50) →
    exec (.loopOutputDeviation n ua mv) s = .next (settled s s)) ∧
  (∀ (s : State) (n : Nat) (ua mv : Int), fieldRuns s = true → isLoopOut s n = true → (ua - loopTarget s n s.sys.devTime).natAbs ≤ 50 →
    exec (.loopOutputRecovered n ua mv) s =
      .next (settled s (publishField n s.sys.devTime
        (modFld n (fun f => { f with measured := ua, termMv := some mv, loopFault := false, openLoop := false }) s)))) ∧
  (∀ (s : State) (n : Nat) (ua mv : Int), (fieldRuns s = false ∨ isLoopOut s n = false ∨ 50 < (ua - loopTarget s n s.sys.devTime).natAbs) →
    exec (.loopOutputRecovered n ua mv) s = .next (settled s s))

/-- VLV commands (R383–R386). -/
def Obligations.ValveCommandsAct : Prop :=
  (∀ (s : State) (r : Req), asks 0x0901 r s = true → g2 r.payload 2 = 0 → g2 r.payload 0 < 128 →
    (stn s (g2 r.payload 0)).isEmpty = false → isProp s (g2 r.payload 0) = true → 0 ≤ i4 r.payload 4 →
    i4 r.payload 4 ≤ iMax s (stnTerm s (g2 r.payload 0)) → inRunningZone s (g2 r.payload 0) = false →
    (chn s (stnTerm s (g2 r.payload 0))).latched = false →
    exec (.vlvSet r) s =
      .next (settled s (answered 0x0901 r sOK [] (driveProp (stnTerm s (g2 r.payload 0)) (i4 r.payload 4) false (begun 0x0901 r s))))) ∧
  (∀ (s : State) (r : Req), asks 0x0901 r s = true → g2 r.payload 2 = 0 → g2 r.payload 0 < 128 →
    (stn s (g2 r.payload 0)).isEmpty = false → isProp s (g2 r.payload 0) = true → 0 ≤ i4 r.payload 4 →
    i4 r.payload 4 ≤ iMax s (stnTerm s (g2 r.payload 0)) →
    (inRunningZone s (g2 r.payload 0) = true ∨ (chn s (stnTerm s (g2 r.payload 0))).latched = true) →
    exec (.vlvSet r) s = .next (settled s (answered 0x0901 r sWRONGMODE [] (begun 0x0901 r s)))) ∧
  (∀ (s : State) (r : Req), asks 0x0902 r s = true → g2 r.payload 2 = 0 → g2 r.payload 0 < 128 →
    (stn s (g2 r.payload 0)).isEmpty = false → isInj s (g2 r.payload 0) = true → 100 ≤ g4 r.payload 4 → g4 r.payload 4 ≤ 10000000 →
    inRunningZone s (g2 r.payload 0) = false →
    exec (.vlvPulse r) s =
      .next (settled s (pulseDue
        { chan := stnTerm s (g2 r.payload 0), station := g2 r.payload 0, lenUs := g4 r.payload 4, due := s.sys.devTime,
          org := some (reqOrg 0x0902 r) }
        (addJob { org := reqOrg 0x0902 r } (begun 0x0902 r s))))) ∧
  (∀ (s : State) (r : Req), asks 0x0902 r s = true → g2 r.payload 2 = 0 → g2 r.payload 0 < 128 →
    (stn s (g2 r.payload 0)).isEmpty = false → isInj s (g2 r.payload 0) = true → 100 ≤ g4 r.payload 4 → g4 r.payload 4 ≤ 10000000 →
    inRunningZone s (g2 r.payload 0) = true →
    exec (.vlvPulse r) s = .next (settled s (answered 0x0902 r sWRONGMODE [] (begun 0x0902 r s)))) ∧
  (∀ (s : State) (r : Req), asks 0x0901 r s = true → g2 r.payload 2 = 0 → (128 ≤ g2 r.payload 0 ∨ (stn s (g2 r.payload 0)).isEmpty = true) →
    exec (.vlvSet r) s = .next (settled s (answered 0x0901 r sNOTFOUND [] (begun 0x0901 r s)))) ∧
  (∀ (s : State) (r : Req), asks 0x0902 r s = true → g2 r.payload 2 = 0 → (128 ≤ g2 r.payload 0 ∨ (stn s (g2 r.payload 0)).isEmpty = true) →
    exec (.vlvPulse r) s = .next (settled s (answered 0x0902 r sNOTFOUND [] (begun 0x0902 r s)))) ∧
  (∀ (s : State) (r : Req), asks 0x0903 r s = true → g2 r.payload 2 = 0 → (128 ≤ g2 r.payload 0 ∨ (stn s (g2 r.payload 0)).isEmpty = true) →
    exec (.vlvStatus r) s = .next (settled s (answered 0x0903 r sNOTFOUND [] (begun 0x0903 r s)))) ∧
  (∀ (s : State) (r : Req), asks 0x0901 r s = true →
    (g2 r.payload 2 ≠ 0 ∨ (g2 r.payload 0 < 128 ∧ (stn s (g2 r.payload 0)).isEmpty = false ∧
      (isProp s (g2 r.payload 0) = false ∨ i4 r.payload 4 < 0 ∨ iMax s (stnTerm s (g2 r.payload 0)) < i4 r.payload 4))) →
    exec (.vlvSet r) s = .next (settled s (answered 0x0901 r sBADOBJ [] (begun 0x0901 r s)))) ∧
  (∀ (s : State) (r : Req), asks 0x0902 r s = true →
    (g2 r.payload 2 ≠ 0 ∨ (g2 r.payload 0 < 128 ∧ (stn s (g2 r.payload 0)).isEmpty = false ∧
      (isInj s (g2 r.payload 0) = false ∨ g4 r.payload 4 < 100 ∨ 10000000 < g4 r.payload 4))) →
    exec (.vlvPulse r) s = .next (settled s (answered 0x0902 r sBADOBJ [] (begun 0x0902 r s)))) ∧
  (∀ (s : State) (r : Req) (n c : Nat), asks 0x0903 r s = true → g2 r.payload 2 = 0 → n = g2 r.payload 0 → n < 128 → c = stnTerm s n →
    (stn s n).isEmpty = false → (isProp s n = true ∨ isInj s n = true) →
    exec (.vlvStatus r) s =
      .next (settled s (answered 0x0903 r sOK
        (p2 (valveFlags s n (valueOf s n)) ++ p1 (vlvState s c) ++ zeros 1 ++ q4 (vlvTarget s c) ++ q4 (vlvCurrent s c) ++
          p2 (vlvDuty s c) ++
          p2 (chn s c).kinkLast ++ q4 (roundRat ((coil s c).tw * 1000)) ++ q4 (roundRat ((coil s c).tb * 1000)) ++
          p4 (coil s c).rMeas ++ p4 (coil s c).pulses ++ p4 (coil s c).deferred ++ p4 (coil s c).refused ++ p4 (coil s c).cut ++
          p2 (kinkMean (chn s c)) ++ p1 (uField 1 (chn s c).misses) ++ p1 (min (coil s c).peakSlow 255)) (drawn 2 (begun 0x0903 r s))))) ∧
  (∀ (s : State) (r : Req), asks 0x0903 r s = true →
    (g2 r.payload 2 ≠ 0 ∨ (g2 r.payload 0 < 128 ∧ (stn s (g2 r.payload 0)).isEmpty = false ∧
      isProp s (g2 r.payload 0) = false ∧ isInj s (g2 r.payload 0) = false)) →
    exec (.vlvStatus r) s = .next (settled s (answered 0x0903 r sBADOBJ [] (begun 0x0903 r s)))) ∧
  (∀ (s : State) (r : Req) (k : Nat) (bk : Bank), asks 0x0904 r s = true → zeroAt r.payload 1 3 = true → k = g1 r.payload 0 → k ≤ 2 →
    bk = bank s k →
    exec (.vlvBank r) s =
      .next (settled s (answered 0x0904 r sOK
        (p1 (if bk.latched then 2 else b01 bk.closed) ++ p1 s.valves.boost ++ p1 (bk.peakOwner.getD 0xFF) ++
          p1 bk.queue.length ++ q4 s.valves.vbst ++ q4 s.power.vfieldVd ++
          q4 ((bankChans k).foldl (fun a c => a + nowUa s c) 0) ++ q4 (bankBudget s k) ++
          p2 (uField 2 (roundRat (clampPower s k * 1000))) ++ p2 (uField 2 bk.maxWaitUs) ++ p4 bk.refused ++ zeros 4) (begun 0x0904 r s)))) ∧
  (∀ (s : State) (r : Req), asks 0x0904 r s = true → (zeroAt r.payload 1 3 = false ∨ 2 < g1 r.payload 0) →
    exec (.vlvBank r) s = .next (settled s (answered 0x0904 r sBADOBJ [] (begun 0x0904 r s)))) ∧
  (∀ (s : State) (r : Req), asks 0x0905 r s = true → g1 r.payload 0 = 1 → g1 r.payload 1 = 0 → g2 r.payload 2 ≤ 2 →
    exec (.vlvResetFault r) s =
      .next (settled s (answered 0x0905 r sOK [] (noteBy r.side 0x0914 [256 + g2 r.payload 2, 2] (refreshBanks
        (modBank (g2 r.payload 2) (fun k => { k with latched := false, tripped := false, trips := [] }) (begun 0x0905 r s))))))) ∧
  (∀ (s : State) (r : Req) (n : Nat) (u : State), asks 0x0905 r s = true → g1 r.payload 0 = 0 → g1 r.payload 1 = 0 → n = g2 r.payload 2 →
    n < 128 → (stn s n).isEmpty = false → (isProp s n = true ∨ isInj s n = true) →
    u = modChan (stnTerm s n) (fun k =>
          { k with
            latched := false, stuck := false, misses := 0, trips := [], kinkSum := 0, kinkCount := 0,
            kinkRef := none, driftSaid := false, retrying := false, st := if k.st = 6 then 0 else k.st }) (begun 0x0905 r s) →
    exec (.vlvResetFault r) s =
      .next (settled s (answered 0x0905 r sOK [] (noteBy r.side 0x0914 [n, 2]
        (if isProp s n then retake (stnTerm s n) u else u))))) ∧
  (∀ (s : State) (r : Req), asks 0x0905 r s = true →
    (1 < g1 r.payload 0 ∨ g1 r.payload 1 ≠ 0 ∨ (g1 r.payload 0 = 1 ∧ 2 < g2 r.payload 2) ∨
      (g1 r.payload 0 = 0 ∧ g2 r.payload 2 < 128 ∧ (stn s (g2 r.payload 2)).isEmpty = false ∧
        isProp s (g2 r.payload 2) = false ∧ isInj s (g2 r.payload 2) = false)) →
    exec (.vlvResetFault r) s = .next (settled s (answered 0x0905 r sBADOBJ [] (begun 0x0905 r s)))) ∧
  (∀ (s : State) (r : Req), asks 0x0905 r s = true → g1 r.payload 0 = 0 → g1 r.payload 1 = 0 →
    (128 ≤ g2 r.payload 2 ∨ (stn s (g2 r.payload 2)).isEmpty = true) →
    exec (.vlvResetFault r) s = .next (settled s (answered 0x0905 r sNOTFOUND [] (begun 0x0905 r s))))

/-- Injector pulses (R354, R364, R365, R369, R376, R378). -/
def Obligations.InjectorPulsesRun : Prop :=
  (∀ (s : State) (c us : Nat) (ua : Int), chanIsInj s c = true → (chn s c).phase = 1 → iPeak s c ≤ ua →
    us * 1000 < (chn s c).pulseEnd - (chn s c).pulseStart →
    exec (.pulsePhaseEnd c ua us) s =
      .next (settled s (modChan c (fun k => { k with phase := 2, phaseAt := some s.sys.devTime, st := 2, current := ua }) s))) ∧
  (∀ (s : State) (c us : Nat) (ua : Int), chanIsInj s c = true → (chn s c).phase = 1 → ua < iPeak s c → iPeak s c ≤ ua * 10 →
    us * 1000 < (chn s c).pulseEnd - (chn s c).pulseStart →
    exec (.pulsePhaseEnd c ua us) s =
      .next (settled s (modChan c (fun k => { k with phase := 2, phaseAt := some s.sys.devTime, st := 2, current := ua })
        (modCoil c (fun k => { k with peakSlow := k.peakSlow + 1 }) s)))) ∧
  (∀ (s : State) (c us : Nat) (ua : Int), chanIsInj s c = true → (chn s c).phase = 1 → ua < iPeak s c → ua * 10 < iPeak s c →
    us * 1000 < (chn s c).pulseEnd - (chn s c).pulseStart →
    exec (.pulsePhaseEnd c ua us) s =
      .next (settled s (modChan c (fun k => { k with phase := 2, phaseAt := some s.sys.devTime, st := 2, current := ua })
        (note 0x0915 [(chanStn s c).getD 0, 2] (modChan c (fun k => { k with openLoad := true })
          (modCoil c (fun k => { k with peakSlow := k.peakSlow + 1 }) s)))))) ∧
  (∀ (s : State) (c us : Nat) (ua : Int), chanIsInj s c = true → (((chn s c).phase = 1 ∧ iPeak s c ≤ ua) ∨ (chn s c).phase = 2) →
    (chn s c).pulseEnd - (chn s c).pulseStart ≤ us * 1000 →
    exec (.pulsePhaseEnd c ua us) s = .next (settled s (toOff c ua (freePeak c us s)))) ∧
  (∀ (s : State) (c us : Nat) (ua : Int), chanIsInj s c = true → (chn s c).phase = 2 →
    us * 1000 < (chn s c).pulseEnd - (chn s c).pulseStart →
    exec (.pulsePhaseEnd c ua us) s =
      .next (settled s (modChan c (fun k =>
          { k with phase := 3, phaseAt := some s.sys.devTime, st := 4, current := ua, charged := decaysFast s c (g1 (vpart s c) 52 == 1) false })
        (freePeak c us (decayTo c (g1 (vpart s c) 52 == 1) false ua (iHold s c) s))))) ∧
  (∀ (s : State) (c us : Nat) (ua : Int), chanIsInj s c = true → (chn s c).phase = 3 →
    us * 1000 < (chn s c).pulseEnd - (chn s c).pulseStart →
    exec (.pulsePhaseEnd c ua us) s =
      .next (settled s (modChan c (fun k => { k with phase := 4, phaseAt := some s.sys.devTime, st := 3, current := iHold s c, charged := false })
        (touchChan c s)))) ∧
  (∀ (s : State) (c us : Nat) (ua : Int), chanIsInj s c = true →
    (((chn s c).phase = 3 ∧ (chn s c).pulseEnd - (chn s c).pulseStart ≤ us * 1000) ∨ (chn s c).phase = 4) →
    exec (.pulsePhaseEnd c ua us) s = .next (settled s (toOff c ua s))) ∧
  (∀ (s : State) (c us : Nat) (ua : Int), chanIsInj s c = true → (chn s c).phase = 5 →
    exec (.pulsePhaseEnd c ua us) s =
      .next (settled s (afterOff c (modChan c (fun k =>
        { k with phase := 0, phaseAt := some s.sys.devTime, st := 0, current := 0, charged := false,
                 offUs := us - (k.pulseEnd - k.pulseStart) / 1000 }) s)))) ∧
  (∀ (s : State) (c us : Nat) (ua : Int), (chanIsInj s c = false ∨ (chn s c).phase = 0) →
    exec (.pulsePhaseEnd c ua us) s = .next (settled s s)) ∧
  (∀ (s : State) (b : Nat) (q : PulseReq) (rest : List PulseReq), readyQueue s b = q :: rest → peakCauses s q.chan = [] →
    exec (.peakStart b) s = .next (settled s (startPulse q (dropPulse q s)))) ∧
  (∀ (s : State) (b : Nat), (∀ q ∈ (readyQueue s b).head?, peakCauses s q.chan ≠ []) →
    exec (.peakStart b) s = .next (settled s s)) ∧
  (∀ (s : State) (b : Nat) (q : PulseReq) (k : Nat),
    (readyQueue s b).find? (fun x => decide (x.since + deferUs s x.chan * 1000 ≤ s.sys.devTime)) = some q →
    (peakCauses s q.chan).head? = some k →
    exec (.pulseDeferLimit b) s = .next (settled s (refusePulse q k (dropPulse q s)))) ∧
  (∀ (s : State) (b : Nat) (q : PulseReq),
    (readyQueue s b).find? (fun x => decide (x.since + deferUs s x.chan * 1000 ≤ s.sys.devTime)) = some q →
    peakCauses s q.chan = [] →
    exec (.pulseDeferLimit b) s =
      .next (settled s (if (readyQueue s b).head? = some q then startPulse q (dropPulse q s) else refusePulse q 1 (dropPulse q s)))) ∧
  (∀ (s : State) (b : Nat), (readyQueue s b).find? (fun x => decide (x.since + deferUs s x.chan * 1000 ≤ s.sys.devTime)) = none →
    exec (.pulseDeferLimit b) s = .next (settled s s)) ∧
  (∀ (s : State) (uv : Int), (s.valves.boost = 1 ∨ s.valves.boost = 2) → 44000000 ≤ uv →
    exec (.boostReadyChange uv) s = .next (settled s { s with valves := { s.valves with vbst := uv, boost := 2 } })) ∧
  (∀ (s : State) (uv : Int), s.valves.boost = 3 → 44000000 ≤ uv →
    exec (.boostReadyChange uv) s =
      .next (settled s (note 0x0911 [2, uv / 1000] { s with valves := { s.valves with vbst := uv, boost := 2 } }))) ∧
  (∀ (s : State) (uv : Int), (s.valves.boost = 1 ∨ s.valves.boost = 2) → uv < 44000000 →
    exec (.boostReadyChange uv) s = .next (settled s { s with valves := { s.valves with vbst := uv, boost := 1 } })) ∧
  (∀ (s : State) (uv : Int), (s.valves.boost = 0 ∨ (s.valves.boost = 3 ∧ uv < 44000000)) →
    exec (.boostReadyChange uv) s = .next (settled s { s with valves := { s.valves with vbst := uv } })) ∧
  (∀ (s : State) (uv : Int), s.valves.boost = 1 → uv < 44000000 →
    exec (.boostFault uv) s =
      .next (settled s (refuseWaiting (noteFault 0x0911 [1, uv / 1000] { s with valves := { s.valves with vbst := uv, boost := 3 } })))) ∧
  (∀ (s : State) (uv : Int), (s.valves.boost ≠ 1 ∨ 44000000 ≤ uv) → exec (.boostFault uv) s = .next (settled s s)) ∧
  (∀ (s : State) (b : Nat), (bank s b).clampHot = true → clampPower s b < (1 : Rat) / 5 →
    (bank s b).clampHotAt + 10000000000 ≤ s.sys.devTime →
    exec (.clampHotClear b) s =
      .next (settled s (note 0x0917 [b, 2, roundRat (clampPower s b * 1000)] (modBank b (fun k => { k with clampHot := false }) s)))) ∧
  (∀ (s : State) (b : Nat), ((bank s b).clampHot = false ∨ (1 : Rat) / 5 ≤ clampPower s b ∨
      s.sys.devTime < (bank s b).clampHotAt + 10000000000) →
    exec (.clampHotClear b) s = .next (settled s s)) ∧
  (∀ (s : State) (uv : Int), uv < 15000000 →
    exec (.peaksBlockedLowSupply uv) s = .next (settled s (setVfieldVd uv s)) ∧ (setVfieldVd uv s).valves.peaksBlocked = true ∧
      (setVfieldVd uv s).field.lowVd = true ∧ (setVfieldVd uv s).power.vfieldVd = uv) ∧
  (∀ (s : State) (uv : Int), 15000000 ≤ uv → exec (.peaksBlockedLowSupply uv) s = .next (settled s s))

/-- Valve protection (R363, R370, R371, R373, R374, R379, R380). -/
def Obligations.ValveProtectionActs : Prop :=
  (∀ (s : State) (c n : Nat) (ua : Int) (ts : List Nat) (u : State), chanStn s c = some n → (if isProp s n then 3500000 else 10000000) < ua →
    ts = tripsNow s.sys.devTime (chn s c).trips →
    u = note 0x0913 [n, ua] (modChan c
        (fun k => { k with overcurrent := true, trips := ts, retrying := isProp s n }) (tripChan c ua s)) →
    exec (.valveOvercurrent c ua) s =
      .next (settled s (if 3 ≤ ts.length then
        noteFault 0x0914 [n, 1] (modChan c (fun k => { k with latched := true, st := 6, retrying := false }) u) else u))) ∧
  (∀ (s : State) (c : Nat) (ua : Int), 1 ≤ (chn s c).phase → (chn s c).phase ≤ 4 →
    (chn (tripChan c ua s) c).phase = 0 ∧ (chn (tripChan c ua s) c).pulseCut = true ∧
      (coil (tripChan c ua s) c).cut = (coil s c).cut + 1 ∧ (bank (tripChan c ua s) (c / 4)).peakOwner ≠ some c) ∧
  (∀ (s : State) (c : Nat) (ua : Int), (chanStn s c = none ∨ ua ≤ 3500000) →
    exec (.valveOvercurrent c ua) s = .next (settled s s)) ∧
  (∀ (s : State) (b : Nat) (ua : Int) (ts : List Nat) (u : State), b ≤ 2 → 18000000 < ua → ts = tripsNow s.sys.devTime (bank s b).trips →
    u = note 0x0913 [256 + b, ua] (refreshBanks (modBank b (fun k => { k with tripped := true, trips := ts }) s)) →
    exec (.bankOvercurrent b ua) s =
      .next (settled s (if 3 ≤ ts.length then noteFault 0x0914 [256 + b, 1] (modBank b (fun k => { k with latched := true }) u) else u))) ∧
  (∀ (s : State) (b : Nat) (ua : Int), (2 < b ∨ ua ≤ 18000000) → exec (.bankOvercurrent b ua) s = .next (settled s s)) ∧
  (∀ (s : State) (c : Nat), ((bank s (c / 4)).tripped = false ∨ (bank s (c / 4)).latched = true) → (chn s c).retrying = true →
    (chn s c).latched = false →
    exec (.valveRetry c) s =
      .next (settled s (retake c (modChan c (fun k => { k with retrying := false, st := 0 }) s)))) ∧
  (∀ (s : State) (c : Nat) (u : State), (bank s (c / 4)).tripped = true → (bank s (c / 4)).latched = false →
    u = refreshBanks (modBank (c / 4) (fun k => { k with tripped := false }) s) →
    ((chn u c).retrying = false ∨ (chn u c).latched = true) →
    exec (.valveRetry c) s = .next (settled s u)) ∧
  (∀ (s : State) (c : Nat), (bank s (c / 4)).tripped = false → ((chn s c).retrying = false ∨ (chn s c).latched = true) →
    exec (.valveRetry c) s = .next (settled s s)) ∧
  (∀ (s : State) (c n : Nat) (ua : Int), (bank s (c / 4)).closed = true → chanOff s c = true → ua < 50000 →
    ¬ (0 < expectedUa s c ∧ expectedUa s c ≤ 2 * ua) → chanStn s c = some n → (chn s c).openLoad = false →
    exec (.lsLandLow c ua) s =
      .next (settled s (note 0x0915 [n, 0] (modChan c (fun k => { k with openLoad := true }) s)))) ∧
  (∀ (s : State) (c n : Nat) (ua : Int), (bank s (c / 4)).closed = true → chanOff s c = true → 50000 ≤ ua → ua < 200000 →
    ¬ (0 < expectedUa s c ∧ expectedUa s c ≤ 2 * ua) → chanStn s c = some n → (chn s c).leak = false →
    exec (.lsLandLow c ua) s =
      .next (settled s (note 0x091C [n, 1, ua, expectedUa s c] (modChan c (fun k => { k with leak := true }) s)))) ∧
  (∀ (s : State) (c : Nat) (ua : Int), (bank s (c / 4)).closed = true → chanOff s c = true →
    (200000 ≤ ua ∨ (0 < expectedUa s c ∧ expectedUa s c ≤ 2 * ua)) →
    exec (.lsLandLow c ua) s =
      .next (settled s (noteFault 0x0919 [c / 4, c, ua] (refreshBanks (modBank (c / 4) (fun k => { k with latched := true }) s))))) ∧
  (∀ (s : State) (c : Nat) (ua : Int), ((bank s (c / 4)).closed = false ∨ chanOff s c = false ∨
      (ua < 50000 ∧ ¬ (0 < expectedUa s c ∧ expectedUa s c ≤ 2 * ua) ∧ (chn s c).openLoad = true) ∨
      (50000 ≤ ua ∧ ua < 200000 ∧ ¬ (0 < expectedUa s c ∧ expectedUa s c ≤ 2 * ua) ∧ (chn s c).leak = true)) →
    exec (.lsLandLow c ua) s = .next (settled s s)) ∧
  (∀ (s : State) (c : Nat) (ua : Int), (chn s c).leak = true →
    exec (.leakEscalation c ua) s =
      .next (settled s (noteFault 0x0919 [c / 4, c, ua] (refreshBanks (modBank (c / 4) (fun k => { k with latched := true }) s))))) ∧
  (∀ (s : State) (c : Nat) (ua : Int), (chn s c).leak = true →
    exec (.leakCleared c ua) s =
      .next (settled s (note 0x091C [(chanStn s c).getD 0, 2, ua, expectedUa s c] (modChan c (fun k => { k with leak := false }) s)))) ∧
  (∀ (s : State) (c : Nat) (ua : Int), (chn s c).leak = false →
    exec (.leakEscalation c ua) s = .next (settled s s) ∧ exec (.leakCleared c ua) s = .next (settled s s)) ∧
  (∀ (s : State) (c n duty : Nat) (ua goal : Int) (u : State), chanStn s c = some n → u = touchChan c s → 9500 ≤ duty →
    ((chn u c).st = 1 ∨ (chn u c).phase = 4) →
    goal = (if chanIsInj u c then iHold u c else slewed u c u.sys.devTime) → (goal < 100000 ∨ goal ≤ ua * 10) →
    ua * 100 < goal * 98 → (chn u c).headroom = false → chanStn u c = some n →
    exec (.valveHeadroom c ua duty) s =
      .next (settled s (note 0x0912 [n, goal, ua, u.power.vfieldVd / 1000]
        (modChan c (fun k => { k with headroom := true }) (modChan c (fun k => { k with current := ua, duty := duty }) u))))) ∧
  (∀ (s : State) (c n duty : Nat) (ua goal : Int) (u : State), chanStn s c = some n → u = touchChan c s → 9500 ≤ duty →
    ((chn u c).st = 1 ∨ (chn u c).phase = 4) →
    goal = (if chanIsInj u c then iHold u c else slewed u c u.sys.devTime) → 100000 ≤ goal → ua * 10 < goal →
    (chn u c).openLoad = false → chanStn u c = some n →
    exec (.valveHeadroom c ua duty) s =
      .next (settled s (note 0x0915 [n, 1]
        (modChan c (fun k => { k with openLoad := true }) (modChan c (fun k => { k with current := ua, duty := duty }) u))))) ∧
  (∀ (s : State) (c duty : Nat) (ua : Int), duty < 9500 → exec (.valveHeadroom c ua duty) s = .next (settled s s)) ∧
  (∀ (s : State) (c : Nat),
    exec (.headroomCleared c false) s = .next (settled s (modChan c (fun k => { k with headroom := false }) (touchChan c s))) ∧
    exec (.headroomCleared c true) s = .next (settled s (modChan c (fun k => { k with openLoad := false }) (touchChan c s)))) ∧
  (∀ (s : State) (c n : Nat) (ms : Rat) (m : Option CoilMeas) (u : State) (w1 : Rat), u = touchChan c s → chanStn u c = some n →
    w1 = (coil u c).tw + (1 : Rat) / 10 / rf32 (vpart u c) 16 *
      (windingR u c * meanSquare u c ms - ((coil u c).tw - (coil u c).tb) / rf32 (vpart u c) 8) →
    (∀ x ∈ m, x.i ≤ 0 ∨ measures u c = false) →
    exec (.coilModelStep c ms m) s =
      .next (settled s (coilLevels c (modChan c (fun k => { k with heldLong := false }) (modCoil c (fun k =>
        { k with
          tw := w1,
          tb := k.tb + (1 : Rat) / 10 / rf32 (vpart u c) 20 *
            ((w1 - k.tb) / rf32 (vpart u c) 8 - (k.tb - coilAmbient u c) / rf32 (vpart u c) 12) }) u))))) ∧
  (∀ (s : State) (c n : Nat) (ms : Rat) (m : CoilMeas) (u : State) (w1 rr tm : Rat), u = touchChan c s → chanStn u c = some n →
    w1 = (coil u c).tw + (1 : Rat) / 10 / rf32 (vpart u c) 16 *
      (windingR u c * meanSquare u c ms - ((coil u c).tw - (coil u c).tb) / rf32 (vpart u c) 8) →
    0 < m.i → measures u c = true →
    rr = (m.duty * ((u.power.vfieldVd : Rat) / 1000000 - m.bank * m.rHs) - m.i * m.rLs) / m.i →
    tm = 20 + (rr / ((g4 (vpart u c) 0 : Rat) / 1000) - 1) / ((393 : Rat) / 100000) → absRat (tm - w1) < 10 →
    exec (.coilModelStep c ms (some m)) s =
      .next (settled s (coilLevels c (modChan c (fun k => { k with heldLong := false }) (modCoil c (fun k =>
        { k with tw := w1 + (tm - w1) / 5, rMeas := uField 4 (roundRat (rr * 1000)), mismatchSince := none, mismatchSaid := false })
        (modCoil c (fun k =>
          { k with
            tw := w1,
            tb := k.tb + (1 : Rat) / 10 / rf32 (vpart u c) 20 *
              ((w1 - k.tb) / rf32 (vpart u c) 8 - (k.tb - coilAmbient u c) / rf32 (vpart u c) 12) }) u)))))) ∧
  (∀ (s : State) (c : Nat) (ms : Rat) (m : Option CoilMeas), chanStn (touchChan c s) c = none →
    exec (.coilModelStep c ms m) s = .next (settled s (touchChan c s))) ∧
  (∀ (s : State) (c n : Nat) (slots : List Int), chanStn s c = some n → isInj s n = true → g2 (vpart s c) 58 ≠ 0 →
    kinkUsable s c = true → kinkSlot slots (g2 (vpart s c) 56) (g2 (vpart s c) 58) (g2 (vpart s c) 60) = none →
    (chn s c).misses + 1 < g1 (vpart s c) 62 →
    exec (.kinkEvaluation c slots) s =
      .next (settled s (modChan c (fun k => { k with misses := k.misses + 1 }) s))) ∧
  (∀ (s : State) (c n : Nat) (slots : List Int), chanStn s c = some n → isInj s n = true → g2 (vpart s c) 58 ≠ 0 →
    kinkUsable s c = true → kinkSlot slots (g2 (vpart s c) 56) (g2 (vpart s c) 58) (g2 (vpart s c) 60) = none →
    g1 (vpart s c) 62 ≤ (chn s c).misses + 1 → (chn s c).stuck = false →
    exec (.kinkEvaluation c slots) s =
      .next (settled s (note 0x0918 [n, 1, kinkMean (chn s c), (chn s c).kinkRef.getD (Config.freeNat s.fresh)]
        (drawn 1 (modChan c (fun k => { k with misses := k.misses + 1, stuck := true }) s))))) ∧
  (∀ (s : State) (c n k : Nat) (slots : List Int), chanStn s c = some n → isInj s n = true → g2 (vpart s c) 58 ≠ 0 →
    kinkUsable s c = true → kinkSlot slots (g2 (vpart s c) 56) (g2 (vpart s c) 58) (g2 (vpart s c) 60) = some k →
    (chn s c).kinkCount < 63 →
    exec (.kinkEvaluation c slots) s =
      .next (settled s (modChan c (fun x =>
        { x with
          misses := 0, stuck := false, kinks := (k * 10 :: x.kinks).take 64, kinkCount := x.kinkCount + 1,
          kinkSum := x.kinkSum + k * 10, kinkRef := none, kinkLast := k * 10 }) s))) ∧
  (∀ (s : State) (c n : Nat) (slots : List Int), chanStn s c = some n →
    (isInj s n = false ∨ g2 (vpart s c) 58 = 0 ∨ kinkUsable s c = false) →
    exec (.kinkEvaluation c slots) s = .next (settled s s))

/-- BUS commands (R429, R444–R449). -/
def Obligations.BusCommandsAct : Prop :=
  (∀ (s : State) (r : Req) (w c e : Nat), asks 0x0B01 r s = true → w = g4 r.payload 4 → c = g1 r.payload 0 → e = effChan s c → c ≤ 3 →
    g1 r.payload 1 = 0xFF → g1 r.payload 2 ≤ 3 → g1 r.payload 2 ≠ 2 → (g1 r.payload 2 = 0 ∨ chFd s c = true) →
    lenOf (bitOf (g1 r.payload 2) 0) (g1 r.payload 3) = true → r.payload.length = 16 + g1 r.payload 3 → g1 r.payload 12 ≤ 1 →
    zeroAt r.payload 13 3 = true → chOn s c = true → (ch s c).st ≠ 0 →
    listenOnly s c = false → objMode s c = false → identOk w = true → (ownIdents s c).contains w = false →
    (buffered s e).length < 3 →
    exec (.busSend r) s =
      .next (settled s (answered 0x0B01 r (if (ch s e).st = 4 ∨ (ch s e).st = 5 then sDEFERRED else sOK)
        (p4 s.bus.nextHandle ++ p1 e ++ zeros 3)
        (putFrame e
          { handle := s.bus.nextHandle, side := some r.side, cookie := g4 r.payload 8, report := g1 r.payload 12 == 1, home := c,
            fmt := g1 r.payload 2, ident := identBits w, ext := identExt w,
            data := slice r.payload 16 (g1 r.payload 3), moved := e != c, accepted := s.sys.devTime }
          (onBus (fun b => { b with nextHandle := b.nextHandle % 4294967295 + 1 }) (begun 0x0B01 r s)))))) ∧
  (∀ (s : State) (r : Req) (c k : Nat) (e : List Byte), asks 0x0B01 r s = true → c = g1 r.payload 0 → k = g1 r.payload 1 → c ≤ 3 →
    g1 r.payload 2 = 0 → r.payload.length = 16 + g1 r.payload 3 → g1 r.payload 12 ≤ 1 → zeroAt r.payload 13 3 = true →
    chOn s c = true → (ch s c).st ≠ 0 → listenOnly s c = false → objMode s c = true → objEntry s c k = some e → entSend e = true →
    g1 e 14 ≠ 1 → g4 r.payload 4 = 0 → g1 r.payload 3 = entLen e → objPending s c k = false →
    exec (.busSend r) s =
      .next (settled s (answered 0x0B01 r (if (ch s (effChan s c)).st = 4 ∨ (ch s (effChan s c)).st = 5 then sDEFERRED else sOK)
        (p4 s.bus.nextHandle ++ p1 (effChan s c) ++ zeros 3)
        (sendObj c k
          { handle := s.bus.nextHandle, side := some r.side, cookie := g4 r.payload 8, report := g1 r.payload 12 == 1, home := c,
            fmt := 0, ident := identBits 0, ext := identExt 0, data := slice r.payload 16 (g1 r.payload 3),
            moved := effChan s c != c, accepted := s.sys.devTime, what := 1, slot := k }
          (onBus (fun b => { b with nextHandle := b.nextHandle % 4294967295 + 1 })
            (modObj k (fun x => { x with data := slice r.payload 16 (g1 r.payload 3) }) (begun 0x0B01 r s))))))) ∧
  (∀ (s : State) (r : Req) (c : Nat), asks 0x0B01 r s = true → c = g1 r.payload 0 → c ≤ 3 →
    g1 r.payload 1 = 0xFF → g1 r.payload 2 = 0 → g1 r.payload 3 ≤ 8 → r.payload.length = 16 + g1 r.payload 3 → g1 r.payload 12 ≤ 1 →
    zeroAt r.payload 13 3 = true → chOn s c = true → (ch s c).st ≠ 0 → listenOnly s c = false → objMode s c = false →
    identOk (g4 r.payload 4) = true → (ownIdents s c).contains (g4 r.payload 4) = false → 3 ≤ (buffered s (effChan s c)).length →
    exec (.busSend r) s = .next (settled s (answered 0x0B01 r sBUSY [] (begun 0x0B01 r s)))) ∧
  (∀ (s : State) (r : Req), asks 0x0B01 r s = true → g1 r.payload 0 ≤ 3 → g1 r.payload 2 ≤ 3 → g1 r.payload 12 ≤ 1 →
    zeroAt r.payload 13 3 = true → r.payload.length = 16 + g1 r.payload 3 →
    (chOn s (g1 r.payload 0) = false ∨ (ch s (g1 r.payload 0)).st = 0 ∨ listenOnly s (g1 r.payload 0) = true) →
    exec (.busSend r) s = .next (settled s (answered 0x0B01 r sWRONGMODE [] (begun 0x0B01 r s)))) ∧
  (∀ (s : State) (r : Req), asks 0x0B01 r s = true → g1 r.payload 0 ≤ 3 → g1 r.payload 2 ≤ 3 → g1 r.payload 12 ≤ 1 →
    zeroAt r.payload 13 3 = true → r.payload.length ≠ 16 + g1 r.payload 3 →
    exec (.busSend r) s = .next (settled s (answered 0x0B01 r sBADLEN [] (begun 0x0B01 r s)))) ∧
  (∀ (s : State) (r : Req), asks 0x0B01 r s = true →
    (3 < g1 r.payload 0 ∨ 3 < g1 r.payload 2 ∨ 1 < g1 r.payload 12 ∨ zeroAt r.payload 13 3 = false) →
    exec (.busSend r) s = .next (settled s (answered 0x0B01 r sBADOBJ [] (begun 0x0B01 r s)))) ∧
  (∀ (s : State) (r : Req), asks 0x0B02 r s = true →
    exec (.busTxWait r) s =
      .next (settled s (serveTxWait r.side (answered 0x0B02 r sPENDING []
        (addJob { org := { reqOrg 0x0B02 r with bg := true } } (begun 0x0B02 r s)))))) ∧
  (∀ (s : State) (r : Req), asks 0x0B05 r s = true →
    exec (.busRxWait r) s =
      .next (settled s (serveRxWait r.side (answered 0x0B05 r sPENDING []
        (addJob { org := { reqOrg 0x0B05 r with bg := true } } (begun 0x0B05 r s)))))) ∧
  (∀ (s : State) (r : Req), asks 0x0B03 r s = true → g1 r.payload 0 ≤ 3 → g1 r.payload 1 ≤ 1 → g2 r.payload 2 = 0 →
    identOk (g4 r.payload 4) = true → g4 r.payload 8 < 536870912 → (s.bus.subs.filter (fun x => x.side == r.side)).length < 64 →
    s.bus.subs.length < 256 →
    exec (.busSubscribe r) s =
      .next (settled s (answered 0x0B03 r sOK (p4 s.bus.nextSub) { begun 0x0B03 r s with bus := { s.bus with
        subs := s.bus.subs ++ [{
          handle := s.bus.nextSub, side := r.side, chan := g1 r.payload 0, own := g1 r.payload 1 == 1,
          ident := identBits (g4 r.payload 4), ext := identExt (g4 r.payload 4), mask := g4 r.payload 8 }],
        nextSub := s.bus.nextSub % 4294967295 + 1 } }))) ∧
  (∀ (s : State) (r : Req), asks 0x0B03 r s = true → g1 r.payload 0 ≤ 3 → g1 r.payload 1 ≤ 1 → g2 r.payload 2 = 0 →
    identOk (g4 r.payload 4) = true → g4 r.payload 8 < 536870912 →
    (64 ≤ (s.bus.subs.filter (fun x => x.side == r.side)).length ∨ 256 ≤ s.bus.subs.length) →
    exec (.busSubscribe r) s = .next (settled s (answered 0x0B03 r sLIMIT [] (begun 0x0B03 r s)))) ∧
  (∀ (s : State) (r : Req), asks 0x0B03 r s = true →
    (3 < g1 r.payload 0 ∨ 1 < g1 r.payload 1 ∨ g2 r.payload 2 ≠ 0 ∨ identOk (g4 r.payload 4) = false ∨ 536870912 ≤ g4 r.payload 8) →
    exec (.busSubscribe r) s = .next (settled s (answered 0x0B03 r sBADOBJ [] (begun 0x0B03 r s)))) ∧
  (∀ (s : State) (r : Req), asks 0x0B04 r s = true →
    s.bus.subs.any (fun x => x.handle == g4 r.payload 0 && x.side == r.side) = false →
    exec (.busUnsubscribe r) s = .next (settled s (answered 0x0B04 r sNOTFOUND [] (begun 0x0B04 r s)))) ∧
  (∀ (s : State) (r : Req), asks 0x0B04 r s = true →
    s.bus.subs.any (fun x => x.handle == g4 r.payload 0 && x.side == r.side) = true →
    exec (.busUnsubscribe r) s =
      .next (settled s (answered 0x0B04 r sOK [] { begun 0x0B04 r s with bus := { s.bus with
        subs := s.bus.subs.filter (fun x => !(x.handle == g4 r.payload 0 && x.side == r.side)) } }))) ∧
  (∀ (s : State) (r : Req) (c : Nat) (e : List Byte), asks 0x0B06 r s = true → zeroAt r.payload 1 3 = true →
    objChan s (g1 r.payload 0) = some c → objEntry s c (g1 r.payload 0) = some e → entSend e = false →
    exec (.busObjRead r) s =
      .next (settled s (answered 0x0B06 r sOK
        (p1 (b01 (tget s.bus.objs (g1 r.payload 0)).isNew + b01 (tget s.bus.objs (g1 r.payload 0)).overwritten * 2) ++ zeros 7 ++
          rxEntry (tget s.bus.objs (g1 r.payload 0)).frame)
        (modObj (g1 r.payload 0) (fun x => { x with isNew := false, overwritten := false }) (begun 0x0B06 r s))))) ∧
  (∀ (s : State) (r : Req), asks 0x0B06 r s = true → zeroAt r.payload 1 3 = true →
    (objChan s (g1 r.payload 0) = none ∨
      ∀ c ∈ objChan s (g1 r.payload 0), ∀ e ∈ objEntry s c (g1 r.payload 0), entSend e = true) →
    exec (.busObjRead r) s = .next (settled s (answered 0x0B06 r sNOTFOUND [] (begun 0x0B06 r s)))) ∧
  (∀ (s : State) (r : Req), asks 0x0B06 r s = true → zeroAt r.payload 1 3 = false →
    exec (.busObjRead r) s = .next (settled s (answered 0x0B06 r sBADOBJ [] (begun 0x0B06 r s)))) ∧
  (∀ (s : State) (r : Req), asks 0x0B07 r s = true → (3 < g1 r.payload 0 ∨ zeroAt r.payload 1 3 = false) →
    exec (.busStatus r) s = .next (settled s (answered 0x0B07 r sBADOBJ [] (begun 0x0B07 r s)))) ∧
  (∀ (s : State) (r : Req) (k : Chn), asks 0x0B07 r s = true → g1 r.payload 0 ≤ 3 → zeroAt r.payload 1 3 = true →
    k = ch s (g1 r.payload 0) →
    exec (.busStatus r) s =
      .next (settled s (answered 0x0B07 r sOK
        (p1 k.st ++ p1 (min k.tec 255) ++ p1 (min k.rxErr 255) ++ p1 (k.failedTo.getD 0xFF) ++
          p1 (uField 1 (k.pending.length + k.overflow.length : Nat)) ++ p1 (k.master.getD 0xFF) ++ p1 (min k.tdcNs 255) ++ zeros 1 ++
          q8 k.masterOffset ++ p4 k.rxFrames ++ p4 k.overruns ++ p4 k.busoffs ++ p4 k.late ++
          p8 (sofAt (g1 r.payload 0) s.sys.devTime) ++ p8 s.sys.devTime) (begun 0x0B07 r s)))) ∧
  (∀ (s : State) (r : Req), asks 0x0B08 r s = true → g1 r.payload 0 ≤ 3 → g1 r.payload 1 = 0 → g2 r.payload 2 = 0 →
    (ch s (g1 r.payload 0)).st = 4 →
    exec (.busRecover r) s =
      .next (settled s (answered 0x0B08 r sOK []
        (modCh (g1 r.payload 0) (fun k => { k with st := 5, recoverCause := 2 }) (begun 0x0B08 r s))))) ∧
  (∀ (s : State) (r : Req), asks 0x0B08 r s = true → g1 r.payload 0 ≤ 3 → g1 r.payload 1 = 1 → g2 r.payload 2 = 0 →
    (ch s (g1 r.payload 0)).st = 1 → (ch s (g1 r.payload 0)).failedTo ≠ none →
    exec (.busRecover r) s = .next (settled s (answered 0x0B08 r sOK [] (failBack (g1 r.payload 0) (begun 0x0B08 r s))))) ∧
  (∀ (s : State) (r : Req), asks 0x0B08 r s = true → g1 r.payload 0 ≤ 3 → g2 r.payload 2 = 0 →
    ((g1 r.payload 1 = 0 ∧ (ch s (g1 r.payload 0)).st ≠ 4) ∨
      (g1 r.payload 1 = 1 ∧ ((ch s (g1 r.payload 0)).st ≠ 1 ∨ (ch s (g1 r.payload 0)).failedTo = none))) →
    exec (.busRecover r) s = .next (settled s (answered 0x0B08 r sWRONGMODE [] (begun 0x0B08 r s)))) ∧
  (∀ (s : State) (r : Req), asks 0x0B08 r s = true → (3 < g1 r.payload 0 ∨ 1 < g1 r.payload 1 ∨ g2 r.payload 2 ≠ 0) →
    exec (.busRecover r) s = .next (settled s (answered 0x0B08 r sBADOBJ [] (begun 0x0B08 r s)))) ∧
  (∀ (s : State) (r : Req) (c h : Nat) (fs : List TxFrame), asks 0x0B09 r s = true → h = g4 r.payload 0 → h ≠ 0 → c ≤ 3 →
    fs = ((ch s c).pending ++ (ch s c).overflow).filter (fun f => f.handle == h) → fs ≠ [] →
    (∀ x ∈ List.range c, ∀ f ∈ (ch s x).pending ++ (ch s x).overflow, f.handle ≠ h) →
    fs.any (onWireNow s c) = false →
    exec (.busCancel r) s =
      .next (settled s (answered 0x0B09 r sOK []
        (refill c (fs.foldl (fun t f => txOutcome f sABORTED c 0 0 t)
          (drawn 1 (modCh c (fun k =>
              { k with pending := k.pending.filter (fun f => f.handle != h), overflow := k.overflow.filter (fun f => f.handle != h) })
            (begun 0x0B09 r s)))))))) ∧
  (∀ (s : State) (r : Req) (c h : Nat) (fs : List TxFrame), asks 0x0B09 r s = true → h = g4 r.payload 0 → h ≠ 0 → c ≤ 3 →
    fs = ((ch s c).pending ++ (ch s c).overflow).filter (fun f => f.handle == h) → fs ≠ [] →
    (∀ x ∈ List.range c, ∀ f ∈ (ch s x).pending ++ (ch s x).overflow, f.handle ≠ h) →
    fs.any (onWireNow s c) = true →
    exec (.busCancel r) s =
      .next (settled s (answered 0x0B09 r sNOTFOUND []
        (drawn 1 (modCh c (fun k => { k with pending := k.pending.map (fun f => if f.handle = h then { f with onWire := true } else f) })
          (begun 0x0B09 r s)))))) ∧
  (∀ (s : State) (r : Req), asks 0x0B09 r s = true →
    (∀ c ∈ List.range 4, ∀ f ∈ (ch s c).pending ++ (ch s c).overflow, f.handle ≠ g4 r.payload 0 ∨ f.handle = 0) →
    exec (.busCancel r) s = .next (settled s (answered 0x0B09 r sNOTFOUND [] (begun 0x0B09 r s))))

/-- Bus events (R425–R434). -/
def Obligations.BusEventsAct : Prop :=
  (∀ (s : State) (c : Nat) (f : CanIn), c ≤ 3 → busUp s c = true → (ch s c).st ≠ 0 → carriesOwn s c f.ident = false →
    s.sys.mode ≠ .still → (ch s c).ring.length < 1024 → (ch s c).ringLost = 0 →
    exec (.canFrameReceived c f) s =
      .next (settled s (modCh c (fun k =>
        { k with
          ring := k.ring ++ [{
            ident := identBits f.ident, ext := identExt f.ident, fflags := f.fflags.setWidth 8, data := f.data.take 64,
            eof := f.eof, sof := sofAt c f.start, seq := w32 ((ch s c).rxFrames + 1), chan := c }],
          ringLost := 0, rxFrames := w32 (k.rxFrames + 1) }) s))) ∧
  (∀ (s : State) (c : Nat) (f : CanIn), c ≤ 3 → busUp s c = true → (ch s c).st ≠ 0 → carriesOwn s c f.ident = false → s.sys.mode ≠ .still →
    exec (.canFrameReceived c f) s = .next (settled s (ringFrame c f.ident (f.fflags.setWidth 8) f.data f.start f.eof s))) ∧
  (∀ (s : State) (c : Nat) (f : CanIn), c ≤ 3 → busUp s c = true → (ch s c).st ≠ 0 → carriesOwn s c f.ident = true → s.sys.mode ≠ .still →
    exec (.canFrameReceived c f) s =
      .next (settled s (note 0x0B32 [c, identBits f.ident] (ringFrame c f.ident (f.fflags.setWidth 8) f.data f.start f.eof s)))) ∧
  (∀ (s : State) (c : Nat) (f : CanIn), c ≤ 3 → busUp s c = true → (ch s c).st ≠ 0 → carriesOwn s c f.ident = false → s.sys.mode = .still →
    exec (.canFrameReceived c f) s =
      .next (settled s (if wakesStill s c f.ident (dlcOf f.data.length) then
        wakeFrom 1 (ringFrame c f.ident (f.fflags.setWidth 8) f.data f.start f.eof s)
        else ringFrame c f.ident (f.fflags.setWidth 8) f.data f.start f.eof s))) ∧
  (∀ (s : State) (c : Nat) (f : CanIn), (3 < c ∨ busUp s c = false ∨ (ch s c).st = 0) →
    exec (.canFrameReceived c f) s = .next (settled s s)) ∧
  (∀ (s : State) (c : Nat), s.absorb.reexecuting = false → s.sys.mode ≠ .ice →
    exec (.rxRingDrain c) s =
      .next (settled s ((ch s c).ring.foldl (fun t f => deliver c f t) (modCh c (fun k => { k with ring := [] }) s)))) ∧
  (∀ (s : State) (c : Nat), (s.absorb.reexecuting = true ∨ s.sys.mode = .ice) → exec (.rxRingDrain c) s = .next (settled s s)) ∧
  (∀ (s : State) (c start eof : Nat) (f : TxFrame), offered s c start = some f → busUp s c = true → (ch s c).st ≠ 0 → (ch s c).st < 4 →
    listenOnly s c = false → f.what ≠ 2 → f.what ≠ 3 →
    exec (.canFrameSent c start eof) s =
      .next (settled s (txOutcome f sOK c eof (sofAt c start) (measureDelay c f
        (ringFrame c (identWord f.ident f.ext)
          (BitVec.ofNat 8 (f.fmt % 4 + b01 ((ch s c).st == 3 && bitOf f.fmt 0) * 4 + 0x10)) f.data start eof
          (refill c (modCh c (fun k => { k with pending := k.pending.erase f }) s))))))) ∧
  (∀ (s : State) (c start eof : Nat), (offered s c start = none ∨ busUp s c = false ∨ (ch s c).st = 0 ∨ 4 ≤ (ch s c).st ∨ listenOnly s c = true) →
    exec (.canFrameSent c start eof) s = .next (settled s s)) ∧
  (∀ (s : State) (c : Nat), c ≤ 3 → busUp s c = true → (ch s c).st = 1 → listenOnly s c = false →
    exec (.canErrorStateChange c 96 10 none) s =
      .next (settled s (note 0x0B20 [c, 2, 96, 10] (modCh c (fun k => { k with tec := 96, rxErr := 10, st := 2 }) s)))) ∧
  (∀ (s : State) (c tec rec st : Nat), c ≤ 3 → busUp s c = true → 1 ≤ (ch s c).st → (ch s c).st ≤ 3 → listenOnly s c = false → tec ≤ 255 →
    st = (if 127 < tec ∨ 127 < rec then 3 else if 96 ≤ tec ∨ 96 ≤ rec then 2 else 1) → (st = (ch s c).st ∨ st = 1) →
    exec (.canErrorStateChange c tec rec none) s =
      .next (settled s (modCh c (fun k => { k with
        tec := tec, rxErr := rec, st := st, activeSince := if st = 1 ∧ k.st ≠ 1 then s.sys.devTime else k.activeSince }) s))) ∧
  (∀ (s : State) (c rec w : Nat), c ≤ 3 → busUp s c = true → 1 ≤ (ch s c).st → (ch s c).st ≤ 3 → listenOnly s c = false →
    exec (.canErrorStateChange c 256 rec (some w)) s =
      .next (settled s (busOffFx c (modCh c (fun k => { k with rxErr := rec }) (bitErrorSeen c w s))))) ∧
  (∀ (s : State) (c tec rec : Nat) (w : Option Nat), (3 < c ∨ busUp s c = false ∨ (ch s c).st = 0 ∨ 4 ≤ (ch s c).st ∨ listenOnly s c = true) →
    exec (.canErrorStateChange c tec rec w) s = .next (settled s s) ∧ exec (.busOff c) s = .next (settled s s)) ∧
  (∀ (s : State) (c : Nat) (u : State), c ≤ 3 → busUp s c = true → 1 ≤ (ch s c).st → (ch s c).st ≤ 3 → listenOnly s c = false →
    (4 ≤ partnerOf s c ∨ chOn s (partnerOf s c) = false ∨ listenOnly s (partnerOf s c) = true ∨ (ch s (partnerOf s c)).st = 0 ∨
      4 ≤ (ch s (partnerOf s c)).st) →
    u = ((ch s c).pending ++ (ch s c).overflow).foldl (fun t f => txOutcome f sDEFERRED c 0 0 t)
        (note 0x0B22 [c, (ch s c).pending.length + (ch s c).overflow.length] (modCh c (fun k =>
          { k with st := 4, tec := 256, busoffs := w32 (k.busoffs + 1), busOffAt := s.sys.devTime }) s)) →
    exec (.busOff c) s =
      .next (settled s (if autoRecover s c then modCh c (fun k => { k with st := 5, recoverCause := 1 }) u else u))) ∧
  (∀ (s : State) (c : Nat) (u : State), c ≤ 3 → busUp s c = true → 1 ≤ (ch s c).st → (ch s c).st ≤ 3 → listenOnly s c = false →
    partnerOf s c < 4 → chOn s (partnerOf s c) = true → listenOnly s (partnerOf s c) = false → (ch s (partnerOf s c)).st ≠ 0 →
    (ch s (partnerOf s c)).st < 4 →
    u = ((ch s c).pending ++ (ch s c).overflow).foldl (fun t f => txOutcome f sDEFERRED c 0 0 t)
        (note 0x0B22 [c, (ch s c).pending.length + (ch s c).overflow.length] (modCh c (fun k =>
          { k with st := 4, tec := 256, busoffs := w32 (k.busoffs + 1), busOffAt := s.sys.devTime }) s)) →
    exec (.busOff c) s =
      .next (settled s (if autoRecover s c then modCh c (fun k => { k with st := 5, recoverCause := 1 }) (failOver c (partnerOf s c) u)
        else failOver c (partnerOf s c) u))) ∧
  (∀ (s : State) (c : Nat), (ch s c).st = 5 →
    exec (.busoffRecoveryDone c) s =
      .next (settled s (note 0x0B23 [c, nsMs (s.sys.devTime - (ch s c).busOffAt), (ch s c).recoverCause]
        (modCh c (fun k => { k with st := 1, tec := 0, rxErr := 0, activeSince := s.sys.devTime }) s)))) ∧
  (∀ (s : State) (c : Nat), (ch s c).st ≠ 5 → exec (.busoffRecoveryDone c) s = .next (settled s s)) ∧
  (∀ (s : State) (c : Nat), autoFailback s c = true → (ch s c).st = 1 → (ch s c).activeSince + 10000000000 ≤ s.sys.devTime →
    exec (.failback c) s = .next (settled s (failBack c s))) ∧
  (∀ (s : State) (c : Nat), (autoFailback s c = false ∨ (ch s c).st ≠ 1 ∨ s.sys.devTime < (ch s c).activeSince + 10000000000) →
    exec (.failback c) s = .next (settled s s)) ∧
  (∀ (s : State) (c h : Nat) (f : TxFrame), ((ch s c).st = 1 ∨ (ch s c).st = 2) → h ≠ 0 →
    ((ch s c).pending ++ (ch s c).overflow).find? (fun g => g.handle == h && !g.late && decide (g.accepted + 10000000000 ≤ s.sys.devTime)) = some f →
    exec (.frameSendTimeout c h) s =
      .next (settled s (txOutcome f sTIMEOUT c 0 0 (modCh c (fun k => { k with
        pending := k.pending.map (fun g => if g.handle = h ∧ g.late = false ∧ g.accepted + 10000000000 ≤ s.sys.devTime then { g with late := true } else g),
        overflow := k.overflow.map (fun g => if g.handle = h ∧ g.late = false ∧ g.accepted + 10000000000 ≤ s.sys.devTime then { g with late := true } else g) }) s)))) ∧
  (∀ (s : State) (c h : Nat), ((ch s c).st = 0 ∨ 2 < (ch s c).st ∨ (∀ g ∈ (ch s c).pending ++ (ch s c).overflow,
      g.handle ≠ h ∨ g.late = true ∨ s.sys.devTime < g.accepted + 10000000000)) →
    exec (.frameSendTimeout c h) s = .next (settled s s)) ∧
  (∀ (s : State) (c k : Nat) (e : List Byte), objEntry s c k = some e → busUp s c = true → (ch s c).st ≠ 0 → entSend e = true →
    g2 e 12 ≠ 0 → objPending s c k = false →
    exec (.periodicSend c k) s = .next (settled s (sendObj c k {} s))) ∧
  (∀ (s : State) (c k : Nat) (e : List Byte), objEntry s c k = some e → busUp s c = true → (ch s c).st ≠ 0 → entSend e = true →
    g2 e 12 ≠ 0 → objPending s c k = true →
    exec (.periodicSend c k) s = .next (settled s (modCh c (fun x => { x with late := x.late + 1 }) s))) ∧
  (∀ (s : State) (c k : Nat), (busUp s c = false ∨ (ch s c).st = 0 ∨ (∀ e ∈ objEntry s c k, entSend e = false ∨ g2 e 12 = 0)) →
    exec (.periodicSend c k) s = .next (settled s s))

/-- Time reference (R436–R438). -/
def Obligations.BusTimeReferenceActs : Prop :=
  (∀ (s : State) (c cyc w : Nat), c ≤ 2 → busUp s c = true → (ch s c).st ≠ 0 → timeRole s c = 1 →
    cyc = (if (ch s c).sending ∨ (ch s c).prevEof.isSome then ((ch s c).cycle + 1) % 64 else (ch s c).cycle) →
    w = refIdent s c + masterPrio s c →
    exec (.referenceMessageSend c) s =
      .next (settled s (setMaster c (plantAddr s) (masterPrio s c)
        (pend (effChan s c)
          { home := c, what := 2, fmt := 1, ident := identBits w, ext := identExt w,
            data := p1 cyc ++ p1 (plantAddr s) ++ zeros 2 ++ p8 (if (ch s c).sending then (ch s c).myPrevEof.getD 0 else 0),
            moved := effChan s c != c, accepted := s.sys.devTime }
          (dropInternal 2 c (effChan s c) (modCh c (fun k =>
            { k with sending := true, cycle := cyc, masterIdent := w, masterOffset := 0 }) s)))))) ∧
  (∀ (s : State) (c id eof : Nat) (data : List Byte), c ≤ 2 → busUp s c = true → (ch s c).st ≠ 0 → timeRole s c ≠ 0 →
    refIdent s c ≤ id → id ≤ refIdent s c + 7 → ((ch s c).sending = false ∨ id < refIdent s c + masterPrio s c) →
    exec (.referenceMessage c id data eof) s =
      .next (settled s (
        let u := modCh c (fun k =>
          { k with
            masterOffset := (match k.prevEof with
              | some e => if g8 data 4 ≠ 0 ∧ k.masterIdent = id ∧ g1 data 0 % 64 = (k.cycle + 1) % 64 then (g8 data 4 : Int) - e
                else k.masterOffset
              | none => k.masterOffset),
            prevEof := some eof, cycle := g1 data 0 % 64, masterIdent := id, refMissing := false, sending := false }) s;
        sendFeltRef c (latchFelts c (setMaster c (g1 data 1) (id - refIdent s c)
          (if (ch s c).sending then dropInternal 2 c (effChan s c) u else u)))))) ∧
  (∀ (s : State) (c id eof : Nat) (data : List Byte), c ≤ 2 → busUp s c = true → (ch s c).st ≠ 0 → timeRole s c ≠ 0 →
    refIdent s c + masterPrio s c ≤ id → id ≤ refIdent s c + 7 → (ch s c).sending = true →
    exec (.referenceMessage c id data eof) s = .next (settled s (modCh c (fun k => { k with refMissing := false }) s))) ∧
  (∀ (s : State) (c id eof : Nat) (data : List Byte), (2 < c ∨ busUp s c = false ∨ (ch s c).st = 0 ∨ timeRole s c = 0 ∨ id < refIdent s c ∨
      refIdent s c + 7 < id) →
    exec (.referenceMessage c id data eof) s = .next (settled s s)) ∧
  (∀ (s : State) (c : Nat), c ≤ 2 → busUp s c = true → (ch s c).st ≠ 0 → timeRole s c ≠ 0 → (ch s c).refMissing = false →
    exec (.referenceMissing c) s =
      .next (settled s (note 0x0B33 [c, 3] (modCh c (fun k => { k with refMissing := true, master := none }) s)))) ∧
  (∀ (s : State) (c : Nat), (2 < c ∨ busUp s c = false ∨ (ch s c).st = 0 ∨ timeRole s c = 0) →
    exec (.referenceMissing c) s = .next (settled s s) ∧ exec (.referenceMessageSend c) s = .next (settled s s)) ∧
  (∀ (s : State) (c : Nat), (ch s c).refMissing = true → exec (.referenceMissing c) s = .next (settled s s))

/-- Felt sources (R134, R137–R139, R142, R146, R159). -/
def Obligations.FeltSourcesMoveFelts : Prop :=
  (∀ (s : State) (f : Nat) (a b : Bool) (d : Int), f < 8 → encOn s f = true → feltsCount s = true → encMode s f = 0 →
    ((felt s f).a != a) = true → (felt s f).b = b → (∀ q ∈ (felt s f).lastEdge, 5000 ≤ s.sys.devTime - q) →
    d = (if a ≠ b then 1 else -1) →
    exec (.encoderEdge f a b) s =
      .next (settled s (afterMove (moveFelt 3 f (if encInvert s f then -d else d)
        (modFelt f (fun y => { y with a := a, b := b, lastEdge := some s.sys.devTime }) (seeChans (encChans s f) [a, b] s)))))) ∧
  (∀ (s : State) (f : Nat) (a b : Bool) (d : Int), f < 8 → encOn s f = true → feltsCount s = true → encMode s f = 0 →
    (felt s f).a = a → ((felt s f).b != b) = true → (∀ q ∈ (felt s f).lastEdge, 5000 ≤ s.sys.devTime - q) →
    d = (if a = b then 1 else -1) →
    exec (.encoderEdge f a b) s =
      .next (settled s (afterMove (moveFelt 3 f (if encInvert s f then -d else d)
        (modFelt f (fun y => { y with a := a, b := b, lastEdge := some s.sys.devTime }) (seeChans (encChans s f) [a, b] s)))))) ∧
  (∀ (s : State) (f : Nat) (b : Bool) (d : Int), f < 8 → encOn s f = true → feltsCount s = true → encMode s f ≠ 0 → (felt s f).a = false →
    (∀ q ∈ (felt s f).lastEdge, 5000 ≤ s.sys.devTime - q) → d = (if encMode s f = 1 ∧ b = true then -1 else 1) →
    exec (.encoderEdge f true b) s =
      .next (settled s (afterMove (moveFelt 3 f (if encInvert s f then -d else d)
        (modFelt f (fun y => { y with a := true, b := b, lastEdge := some s.sys.devTime }) (seeChans (encChans s f) [true, b] s)))))) ∧
  (∀ (s : State) (f q : Nat) (a b : Bool) (d : Int), f < 8 → encOn s f = true → feltsCount s = true → encMode s f = 0 → (felt s f).lastEdge = some q →
    s.sys.devTime - q < 5000 → ((felt s f).a != a) = true → (felt s f).b = b → d = (if a ≠ b then 1 else -1) →
    exec (.encoderEdge f a b) s =
      .next (settled s (afterMove (moveFelt 3 f (if encInvert s f then -d else d) (note 0x0418 [f]
        (modFelt f (fun y => { y with a := a, b := b, lastEdge := some s.sys.devTime, state := setBit 7 true y.state }) (seeChans (encChans s f) [a, b] s))))))) ∧
  (∀ (s : State) (f : Nat) (a b : Bool), f < 8 → encOn s f = true → feltsCount s = true → ((encMode s f = 0 ∧ (felt s f).a = a ∧ (felt s f).b = b) ∨
      (encMode s f ≠ 0 ∧ (a = false ∨ (felt s f).a = true))) →
    exec (.encoderEdge f a b) s = .next (settled s (modFelt f (fun y => { y with a := a, b := b }) (seeChans (encChans s f) [a, b] s)))) ∧
  (∀ (s : State) (f : Nat) (a b : Bool), encOn s f = true → feltsCount s = true → encMode s f = 0 → ((felt s f).a != a) = true →
    ((felt s f).b != b) = true →
    exec (.encoderEdge f a b) s =
      .next (settled s (note 0x0417 [f, (felt s f).qerrs + 1]
        (encFlag f 5 0 (modFelt f (fun y => { y with a := a, b := b, qerrs := y.qerrs + 1 }) (seeChans (encChans s f) [a, b] s)))))) ∧
  (∀ (s : State) (f : Nat) (a b : Bool) (d : Int), 256 ≤ f → encOn s f = true → feltsCount s = true → encMode s f = 0 →
    ((felt s f).a != a) = true → (felt s f).b = b → (∀ q ∈ (felt s f).lastEdge, 5000 ≤ s.sys.devTime - q) →
    d = (if encInvert s f then (if a ≠ b then -1 else 1) else if a ≠ b then 1 else -1) →
    exec (.encoderEdge f a b) s =
      .next (settled s (publishEncoder f (countRate f d (modFelt f (fun y =>
        { y with a := a, b := b, lastEdge := some s.sys.devTime, pos := u32 (y.pos + d), time := s.sys.devTime }) (seeChans (encChans s f) [a, b] s)))))) ∧
  (∀ (s : State) (f : Nat) (a b : Bool), (encOn s f = false ∨ feltsCount s = false) → exec (.encoderEdge f a b) s = .next (settled s s)) ∧
  (∀ (s : State) (w : Nat), feltOn s 1 = true → feltsCount s = true → feltSource s 1 = 1 → (felt s 1).locked = true →
    w = min (felt s 1).slew.toNat 32 → 0 ≤ (felt s 1).slew →
    exec .mainsCrossing s =
      .next (settled s (afterMove (moveFelt 3 1 (256 - (felt s 1).advanced + w)
        (modFelt 1 (fun y => { y with advanced := 0, slew := y.slew - w }) s))))) ∧
  (∀ (s : State) (w : Nat), feltOn s 1 = true → feltsCount s = true → feltSource s 1 = 1 → (felt s 1).locked = false → w = (256 - (felt s 1).pos % 256) % 256 →
    (felt s 1).state.getLsbD 6 = true →
    exec .mainsCrossing s =
      .next (settled s (note 0x0416 [1, w]
        (modFelt 1 (fun y => { y with locked := true, advanced := 0, slew := w, state := setBit 6 false y.state }) s)))) ∧
  (∀ (s : State) (w : Nat), feltOn s 1 = true → feltsCount s = true → feltSource s 1 = 1 → (felt s 1).locked = false → w = (256 - (felt s 1).pos % 256) % 256 →
    (felt s 1).state.getLsbD 6 = false →
    exec .mainsCrossing s =
      .next (settled s (modFelt 1 (fun y => { y with locked := true, advanced := 0, slew := w, state := setBit 6 false y.state }) s))) ∧
  (∀ s : State, (feltOn s 1 = false ∨ feltSource s 1 ≠ 1 ∨ feltsCount s = false) → exec .mainsCrossing s = .next (settled s s)) ∧
  (∀ s : State, feltOn s 1 = true → feltsCount s = true → (felt s 1).locked = true →
    exec .mainsSourceLost s =
      .next (settled s (note 0x0415 [1] (stopFelt 3 1 false
        (modFelt 1 (fun y => { y with locked := false, slew := 0, state := setBit 6 true y.state }) s))))) ∧
  (∀ s : State, (feltOn s 1 = false ∨ (felt s 1).locked = false ∨ feltsCount s = false) → exec .mainsSourceLost s = .next (settled s s)) ∧
  (∀ (s : State) (f : Nat), 1 ≤ f → f < 8 → feltOn s f = true → feltsCount s = true →
    exec (.feltStall f) s = .next (settled s (stopFelt 3 f true s))) ∧
  (∀ (s : State) (f : Nat), 256 ≤ f → encOn s f = true → feltsCount s = true →
    exec (.feltStall f) s = .next (settled s (publishEncoder f (modFelt f (fun y => { y with rate := 0, hist := [] }) s)))) ∧
  (∀ (s : State) (f : Nat), ((256 ≤ f ∧ encOn s f = false) ∨ (8 ≤ f ∧ f < 256) ∨ f = 0 ∨ (f < 8 ∧ feltOn s f = false) ∨ feltsCount s = false) →
    exec (.feltStall f) s = .next (settled s s)) ∧
  (∀ (s : State) (chan : Nat) (data : List Byte) (es : List (List Byte)), chan ≤ 2 → busUp s chan = true → (ch s chan).st ≠ 0 →
    es = chunks 10 (min 6 (g1 data 2)) (data.drop 4) →
    exec (.feltReferenceReceived chan (feltIdent s chan + g1 data 0) data) s =
      .next (settled s (es.foldl (fun t e => [6, 7].foldl (fun u f =>
        if followsRemote u f chan (g1 data 0) (g1 e 0) then remoteEntry f (g4 e 2) (i4 e 6) u else u) t) s))) ∧
  (∀ (s : State) (chan w : Nat) (data : List Byte), (2 < chan ∨ busUp s chan = false ∨ (ch s chan).st = 0 ∨
      w ≠ feltIdent s chan + g1 data 0) →
    exec (.feltReferenceReceived chan w data) s = .next (settled s s)) ∧
  (∀ (s : State) (f : Nat), feltOn s f = true → feltsCount s = true → feltSource s f = 4 → (felt s f).state.getLsbD 6 = false →
    exec (.remoteFeltLost f) s =
      .next (settled s (note 0x0415 [f] (stopFelt 3 f false
        (modFelt f (fun y => { y with state := setBit 6 true (setBit 8 false y.state), slew := 0 }) s))))) ∧
  (∀ (s : State) (f : Nat), (feltOn s f = false ∨ feltSource s f ≠ 4 ∨ (felt s f).state.getLsbD 6 = true ∨ feltsCount s = false) →
    exec (.remoteFeltLost f) s = .next (settled s s))

/-- Felt and wheel commands (R149–R157, R170–R175). -/
def Obligations.FeltAndWheelCommandsAct : Prop :=
  (∀ (s : State) (r : Req), asks 0x0401 r s = true → g1 r.payload 0 ≤ 7 → g1 r.payload 1 = 1 → zeroAt r.payload 2 2 = true →
    exec (.feltStatus r) s =
      .next (settled s (answered 0x0401 r sOK ((mirror s (g1 r.payload 0)).flatMap p4)
        (modFelt (g1 r.payload 0) (fun x => { x with state := setBit 9 false (setBit 7 false (setBit 5 false x.state)) })
          (begun 0x0401 r s))))) ∧
  (∀ (s : State) (r : Req), asks 0x0401 r s = true → g1 r.payload 0 ≤ 7 → g1 r.payload 1 = 0 → zeroAt r.payload 2 2 = true →
    exec (.feltStatus r) s =
      .next (settled s (answered 0x0401 r sOK ((mirror s (g1 r.payload 0)).flatMap p4) (begun 0x0401 r s)))) ∧
  (∀ (s : State) (r : Req), asks 0x0401 r s = true → (7 < g1 r.payload 0 ∨ 1 < g1 r.payload 1 ∨ zeroAt r.payload 2 2 = false) →
    exec (.feltStatus r) s = .next (settled s (answered 0x0401 r sBADOBJ [] (begun 0x0401 r s)))) ∧
  (∀ (s : State) (r : Req), asks 0x0402 r s = true → 2 ≤ g1 r.payload 0 → g1 r.payload 0 ≤ 7 → zeroAt r.payload 1 3 = true →
    feltOn s (g1 r.payload 0) = true → feltSource s (g1 r.payload 0) ≠ 4 →
    (zonesOf s (g1 r.payload 0)).any (fun z => zoneRunning s z) = false →
    exec (.feltSet r) s =
      .next (settled s (answered 0x0402 r sOK []
        (afterMove (jumpFelt 3 (g1 r.payload 0) (posDist (felt s (g1 r.payload 0)).pos (g4 r.payload 4)) 1 (begun 0x0402 r s)))))) ∧
  (∀ (s : State) (r : Req), asks 0x0402 r s = true →
    (g1 r.payload 0 < 2 ∨ 7 < g1 r.payload 0 ∨ zeroAt r.payload 1 3 = false ∨ g1 (objBody s 4 (g1 r.payload 0)) 0 = 4) →
    exec (.feltSet r) s = .next (settled s (answered 0x0402 r sBADOBJ [] (begun 0x0402 r s)))) ∧
  (∀ (s : State) (r : Req), asks 0x0402 r s = true → 2 ≤ g1 r.payload 0 → g1 r.payload 0 ≤ 7 → zeroAt r.payload 1 3 = true →
    g1 (objBody s 4 (g1 r.payload 0)) 0 ≠ 4 → feltOn s (g1 r.payload 0) = false →
    exec (.feltSet r) s = .next (settled s (answered 0x0402 r sNOTFOUND [] (begun 0x0402 r s)))) ∧
  (∀ (s : State) (r : Req), asks 0x0402 r s = true → 2 ≤ g1 r.payload 0 → g1 r.payload 0 ≤ 7 → zeroAt r.payload 1 3 = true →
    feltOn s (g1 r.payload 0) = true → g1 (objBody s 4 (g1 r.payload 0)) 0 ≠ 4 →
    (zonesOf s (g1 r.payload 0)).any (fun z => zoneRunning s z) = true →
    exec (.feltSet r) s = .next (settled s (answered 0x0402 r sWRONGMODE [] (begun 0x0402 r s)))) ∧
  (∀ (s : State) (r : Req) (e : Entry) (d : Int) (sp : Bool), asks 0x0403 r s = true → scheduleFields r.payload →
    scheduleFits r.side r.payload s → e = entryOf r.side r.payload → d = posDist (felt s e.felt).pos e.pos →
    0 < d → d ≤ (horizon (slotK s e.felt) : Int) → roomFor s e = some sp → (e.kind = 4 → overlapAtPlanning s e = false) →
    exec (.wheelSchedule r) s =
      .next (settled s (answered 0x0403 r sOK (p4 s.felt.nextHandle ++ q4 d) (putEntry e sp (begun 0x0403 r s))))) ∧
  (∀ (s : State) (r : Req) (e : Entry) (d : Int), asks 0x0403 r s = true → scheduleFields r.payload →
    scheduleFits r.side r.payload s → e = entryOf r.side r.payload → d = posDist (felt s e.felt).pos e.pos → d ≤ 0 →
    exec (.wheelSchedule r) s =
      .next (settled s (answered 0x0403 r sOK (p4 s.felt.nextHandle ++ q4 d)
        (actEntry { e with handle := s.felt.nextHandle } 1 (nextHandle (begun 0x0403 r s)))))) ∧
  (∀ (s : State) (r : Req) (e : Entry), asks 0x0403 r s = true → scheduleFields r.payload →
    scheduleFits r.side r.payload s → e = entryOf r.side r.payload →
    (horizon (slotK s e.felt) : Int) < posDist (felt s e.felt).pos e.pos →
    exec (.wheelSchedule r) s = .next (settled s (answered 0x0403 r sLIMIT [] (begun 0x0403 r s)))) ∧
  (∀ (s : State) (r : Req) (e : Entry), asks 0x0403 r s = true → scheduleFields r.payload →
    scheduleFits r.side r.payload s → e = entryOf r.side r.payload → 0 < posDist (felt s e.felt).pos e.pos →
    posDist (felt s e.felt).pos e.pos ≤ (horizon (slotK s e.felt) : Int) → roomFor s e = none →
    exec (.wheelSchedule r) s = .next (settled s (answered 0x0403 r sWHEELFULL [] (wheelFull e (begun 0x0403 r s))))) ∧
  (∀ (s : State) (r : Req) (e : Entry) (sp : Bool), asks 0x0403 r s = true → scheduleFields r.payload →
    scheduleFits r.side r.payload s → e = entryOf r.side r.payload → 0 < posDist (felt s e.felt).pos e.pos →
    posDist (felt s e.felt).pos e.pos ≤ (horizon (slotK s e.felt) : Int) → roomFor s e = some sp → e.kind = 4 →
    overlapAtPlanning s e = true →
    exec (.wheelSchedule r) s = .next (settled s (answered 0x0403 r sOVERLAP [] (begun 0x0403 r s)))) ∧
  (∀ (s : State) (r : Req), asks 0x0403 r s = true → ¬ scheduleFields r.payload →
    exec (.wheelSchedule r) s = .next (settled s (answered 0x0403 r sBADOBJ [] (begun 0x0403 r s)))) ∧
  (∀ (s : State) (r : Req), asks 0x0403 r s = true → scheduleFields r.payload →
    ((feltOn s (g1 r.payload 0) = false ∧ g1 r.payload 0 ≠ 0) ∨
      (g1 r.payload 1 ≠ 1 ∧ (128 ≤ g2 r.payload 8 ∨ stn s (g2 r.payload 8) = []))) →
    exec (.wheelSchedule r) s = .next (settled s (answered 0x0403 r sNOTFOUND [] (begun 0x0403 r s)))) ∧
  (∀ (s : State) (r : Req), asks 0x0403 r s = true → scheduleFields r.payload → (feltOn s (g1 r.payload 0) = true ∨ g1 r.payload 0 = 0) →
    g1 r.payload 1 ≠ 1 → g2 r.payload 8 < 128 → stn s (g2 r.payload 8) ≠ [] →
    (kindMatches s (g1 r.payload 1) (g2 r.payload 8) = false ∨ entryValueOk s (g1 r.payload 1) (g2 r.payload 8) (i4 r.payload 12) = false) →
    exec (.wheelSchedule r) s = .next (settled s (answered 0x0403 r sBADOBJ [] (begun 0x0403 r s)))) ∧
  (∀ (s : State) (r : Req), asks 0x0403 r s = true → scheduleFields r.payload → (feltOn s (g1 r.payload 0) = true ∨ g1 r.payload 0 = 0) →
    3 ≤ g1 r.payload 1 → g2 r.payload 8 < 128 → stn s (g2 r.payload 8) ≠ [] →
    kindMatches s (g1 r.payload 1) (g2 r.payload 8) = true → entryValueOk s (g1 r.payload 1) (g2 r.payload 8) (i4 r.payload 12) = true →
    inRunningZone s (g2 r.payload 8) = true → (r.side ≠ .app ∨ zoneProg s (stnZone s (g2 r.payload 8)) ≠ 1) →
    exec (.wheelSchedule r) s = .next (settled s (answered 0x0403 r sWRONGMODE [] (begun 0x0403 r s)))) ∧
  (∀ (s : State) (r : Req), asks 0x0404 r s = true →
    s.felt.entries.any (fun e => e.handle == g4 r.payload 0 && e.owner == .side r.side) = true →
    exec (.wheelCancel r) s =
      .next (settled s (answered 0x0404 r sOK []
        (endEntries (fun e => e.handle == g4 r.payload 0 && e.owner == .side r.side) 7 (begun 0x0404 r s))))) ∧
  (∀ (s : State) (r : Req), asks 0x0404 r s = true →
    (∀ e ∈ s.felt.entries, e.handle ≠ g4 r.payload 0 ∨ e.owner ≠ .side r.side) →
    exec (.wheelCancel r) s = .next (settled s (answered 0x0404 r sNOTFOUND [] (begun 0x0404 r s)))) ∧
  (∀ (s : State) (r : Req) (f : Nat) (es : List Entry), asks 0x0405 r s = true → f = g1 r.payload 0 → f ≤ 7 → zeroAt r.payload 1 3 = true →
    es = entriesOn s f →
    exec (.wheelStatus r) s =
      .next (settled s (answered 0x0405 r sOK
        (p4 es.length ++ p4 (es.filter (·.spilled)).length ++ p4 (poolUsed s) ++ p2 (worstSlot es (slotK s f)).1 ++
          p2 (worstSlot es (slotK s f)).2 ++ p1 (slotK s f) ++ p1 (suggestedK s f) ++ zeros 2 ++ p4 (horizon (slotK s f)))
        (begun 0x0405 r s)))) ∧
  (∀ (s : State) (r : Req), asks 0x0405 r s = true → (7 < g1 r.payload 0 ∨ zeroAt r.payload 1 3 = false) →
    exec (.wheelStatus r) s = .next (settled s (answered 0x0405 r sBADOBJ [] (begun 0x0405 r s)))) ∧
  (∀ (s : State) (r : Req), asks 0x0408 r s = true →
    exec (.wheelWait r) s =
      .next (settled s (serveWheelWait r.side (answered 0x0408 r sPENDING []
        (addJob { org := { reqOrg 0x0408 r with bg := true } } (begun 0x0408 r s)))))) ∧
  (∀ (s : State) (adv : Nat), 0 < adv →
    exec (.wheelDispatch 0 adv) s = .next (settled s (afterMove (dispatchDue 0 (passTime (adv * 1000) s))))) ∧
  (∀ (s : State) (adv n : Nat), (felt s 1).locked = true → n = min adv (255 - (felt s 1).advanced.toNat) → 0 < n →
    exec (.wheelDispatch 1 adv) s =
      .next (settled s (afterMove (dispatchDue 1 (moveFelt 3 1 n (modFelt 1 (fun y => { y with advanced := y.advanced + n }) s)))))) ∧
  (∀ (s : State) (f adv n : Nat), 2 ≤ f → feltOn s f = true → feltSource s f = 4 → (felt s f).state.getLsbD 6 = false →
    0 ≤ (felt s f).slew → 0 ≤ (felt s f).advanced → n = min adv ((felt s f).slew.toNat - (felt s f).advanced.toNat) → 0 < n →
    exec (.wheelDispatch f adv) s =
      .next (settled s (afterMove (dispatchDue f (moveFelt 3 f n (modFelt f (fun y =>
        { y with advanced := y.advanced + n, state := if y.advanced + n = y.slew then setBit 8 false y.state else y.state }) s)))))) ∧
  (∀ (s : State) (f adv : Nat), (adv = 0 ∨ (f = 1 ∧ (felt s 1).locked = false) ∨
      (2 ≤ f ∧ (feltOn s f = false ∨ feltSource s f ≠ 4 ∨ (felt s f).state.getLsbD 6 = true))) →
    exec (.wheelDispatch f adv) s = .next (settled s (afterMove (dispatchDue f s))))

/-- Parcels and the station table (R132, R163, R165, R167, R168, R176). -/
def Obligations.ParcelsAndStationsAct : Prop :=
  (∀ (s : State) (z : Nat) (p : Parcel), z < 16 → cutsOwn s z = true → zoneRunning s z = true → ¬ (zoneType s z = 4 ∧ (zone s z).st = 3) →
    (parcels s z).find? isOpen = some p → p.flags.getLsbD 8 = false → forwardFelt s z = true →
    posDist (zonePos s z) (w32 (p.start + zoneParcelLen s z)) ≤ 0 →
    exec (.parcelClose z) s =
      .next (settled s (cutParcel z (w32 (p.start + zoneParcelLen s z)) (w32 (p.start + zoneParcelLen s z)) 0 s))) ∧
  (∀ (s : State) (z : Nat), z < 16 → cutsOwn s z = true → zoneRunning s z = true → ¬ (zoneType s z = 4 ∧ (zone s z).st = 3) →
    (∀ p ∈ (parcels s z).find? isOpen, p.flags.getLsbD 8 = true) →
    exec (.parcelClose z) s = .next (settled s (cutParcel z (zonePos s z) (zonePos s z) 0 s))) ∧
  (∀ (s : State) (z : Nat), (16 ≤ z ∨ cutsOwn s z = false ∨ zoneRunning s z = false ∨ (zoneType s z = 4 ∧ (zone s z).st = 3)) →
    exec (.parcelClose z) s = .next (settled s s)) ∧
  (∀ (s : State) (z : Nat) (p : Parcel), (parcels s z).find? isOpen = some p → p.flags.getLsbD 8 = false →
    (forwardFelt s z = false ∨ 0 < posDist (zonePos s z) (w32 (p.start + zoneParcelLen s z))) →
    exec (.parcelClose z) s = .next (settled s s)) ∧
  (∀ (s : State) (z : Nat), z < 16 → forwardFelt s z = true →
    exec (.parcelLeave z) s = .next (settled s (leaveAll z s))) ∧
  (∀ (s : State) (z : Nat), (16 ≤ z ∨ forwardFelt s z = false) → exec (.parcelLeave z) s = .next (settled s s)) ∧
  (∀ (s : State) (chan id : Nat) (data : List Byte), chan ≤ 3 → busUp s chan = true → (ch s chan).st ≠ 0 → handoffOn s chan = true →
    exec (.parcelHandoffReceived chan id data) s =
      .next (settled s ((zonesOn s).foldl (fun t z =>
        if upstreamDev t z != 0xFF && upstreamDev t z != plantAddr t &&
            id == identBits (handoffIdent t chan + upstreamDev t z * 16 + upstreamZone t z) then adopt z (g4 data 0) t else t) s))) ∧
  (∀ (s : State) (chan id : Nat) (data : List Byte), (3 < chan ∨ busUp s chan = false ∨ (ch s chan).st = 0 ∨ handoffOn s chan = false) →
    exec (.parcelHandoffReceived chan id data) s = .next (settled s s)) ∧
  (∀ (s : State) (z id : Nat), (∃ c ∈ List.range 4, ∃ f ∈ (ch s c).pending ++ (ch s c).overflow,
      f.what = 4 ∧ f.parcel = id ∧ f.slot = z ∧ f.moved = false) →
    exec (.parcelHandoffTimeout z id) s =
      .next (settled s (note 0x0441 [z, id]
        (onFelt (fun x =>
            { x with
              history := x.history.map (fun p => if p.id = id && p.zone = z then { p with flags := p.flags ||| 0x800 } else p),
              leaving := x.leaving.map (fun p => if p.id = id && p.zone = z then { p with flags := p.flags ||| 0x800 } else p) })
          ([0, 1, 2, 3].foldl (fun t c => modCh c (fun k => { k with
              pending := k.pending.filter (fun g => !(g.what == 4 && g.parcel == id && g.slot == z && !g.moved)),
              overflow := k.overflow.filter (fun g => !(g.what == 4 && g.parcel == id && g.slot == z && !g.moved)) }) t) s))))) ∧
  (∀ (s : State) (z id : Nat), (∀ c ∈ List.range 4, ∀ f ∈ (ch s c).pending ++ (ch s c).overflow,
      f.what ≠ 4 ∨ f.parcel ≠ id ∨ f.slot ≠ z ∨ f.moved = true) →
    exec (.parcelHandoffTimeout z id) s = .next (settled s s)) ∧
  (∀ (s : State) (z : Nat) (p : Parcel), z < 16 → zoneParcelLen s z ≠ 0 → upstreamDev s z ≠ 0xFF → zoneRunning s z = true →
    forwardFelt s z = true → (parcels s z).find? isOpen = some p → posDist (zonePos s z) (w32 (p.start + zoneParcelLen s z)) ≤ 0 →
    exec (.adoptionGap z) s =
      .next (settled s (cutParcel z (w32 (p.start + zoneParcelLen s z)) (w32 (p.start + zoneParcelLen s z)) 0x8 s))) ∧
  (∀ (s : State) (z : Nat), z < 16 → zoneParcelLen s z ≠ 0 → upstreamDev s z ≠ 0xFF → zoneRunning s z = true →
    forwardFelt s z = true → (parcels s z).find? isOpen = none →
    exec (.adoptionGap z) s = .next (settled s (cutParcel z (zonePos s z) (zonePos s z) 0x8 s))) ∧
  (∀ (s : State) (z : Nat), (16 ≤ z ∨ zoneParcelLen s z = 0 ∨ upstreamDev s z = 0xFF ∨ zoneRunning s z = false ∨ forwardFelt s z = false ∨
      (∃ p ∈ (parcels s z).find? isOpen, 0 < posDist (zonePos s z) (w32 (p.start + zoneParcelLen s z)))) →
    exec (.adoptionGap z) s = .next (settled s s)) ∧
  (∀ (s : State) (r : Req) (ps : List Parcel), asks 0x0406 r s = true → g1 r.payload 0 ≤ 15 → g1 r.payload 1 = 0 → 1 ≤ g2 r.payload 2 →
    g2 r.payload 2 ≤ 4096 → zonePresent s (g1 r.payload 0) = true →
    ps = ((parcels s (g1 r.payload 0)).dropWhile (fun p => p.id != g4 r.payload 4)).take (g2 r.payload 2) → ps ≠ [] →
    exec (.parcelRead r) s =
      .next (settled s (answered 0x0406 r sOK (p2 ps.length ++ zeros 2 ++ ps.flatMap (parcelRecord s)) (begun 0x0406 r s)))) ∧
  (∀ (s : State) (r : Req) (ps : List Parcel), asks 0x0406 r s = true → g1 r.payload 0 ≤ 15 → g1 r.payload 1 = 1 → 1 ≤ g2 r.payload 2 →
    g2 r.payload 2 ≤ 4096 → zonePresent s (g1 r.payload 0) = true →
    ps = ((parcels s (g1 r.payload 0)).drop (g4 r.payload 4)).take (g2 r.payload 2) → ps ≠ [] →
    exec (.parcelRead r) s =
      .next (settled s (answered 0x0406 r sOK (p2 ps.length ++ zeros 2 ++ ps.flatMap (parcelRecord s)) (begun 0x0406 r s)))) ∧
  (∀ (s : State) (r : Req), asks 0x0406 r s = true →
    (15 < g1 r.payload 0 ∨ 1 < g1 r.payload 1 ∨ g2 r.payload 2 = 0 ∨ 4096 < g2 r.payload 2) →
    exec (.parcelRead r) s = .next (settled s (answered 0x0406 r sBADOBJ [] (begun 0x0406 r s)))) ∧
  (∀ (s : State) (r : Req), asks 0x0406 r s = true → g1 r.payload 0 ≤ 15 → g1 r.payload 1 ≤ 1 → 1 ≤ g2 r.payload 2 →
    g2 r.payload 2 ≤ 4096 → (zonePresent s (g1 r.payload 0) = false ∨
      (g1 r.payload 1 = 0 ∧ (∀ p ∈ parcels s (g1 r.payload 0), p.id ≠ g4 r.payload 4)) ∨
      (g1 r.payload 1 = 1 ∧ (parcels s (g1 r.payload 0)).length ≤ g4 r.payload 4)) →
    exec (.parcelRead r) s = .next (settled s (answered 0x0406 r sNOTFOUND [] (begun 0x0406 r s)))) ∧
  (∀ (s : State) (r : Req), asks 0x0407 r s = true → (15 < g1 r.payload 0 ∨ zeroAt r.payload 1 7 = false) →
    exec (.parcelHistory r) s = .next (settled s (answered 0x0407 r sBADOBJ [] (begun 0x0407 r s)))) ∧
  (∀ (s : State) (r : Req), asks 0x0407 r s = true → g1 r.payload 0 ≤ 15 → zeroAt r.payload 1 7 = true →
    zonePresent s (g1 r.payload 0) = false →
    exec (.parcelHistory r) s = .next (settled s (answered 0x0407 r sNOTFOUND [] (begun 0x0407 r s)))) ∧
  (∀ (s : State) (r : Req), asks 0x0407 r s = true → g1 r.payload 0 ≤ 15 → zeroAt r.payload 1 7 = true →
    zonePresent s (g1 r.payload 0) = true →
    exec (.parcelHistory r) s =
      .next (settled s (answered 0x0407 r sPENDING []
        (addJob { org := { reqOrg 0x0407 r with bg := true }, a := g1 r.payload 0, data := r.payload } (begun 0x0407 r s))))) ∧
  (∀ (s : State) (d : Side) (n tag : Nat) (j : Job) (rs : List Parcel),
    (waitingJobs s 0x0407).find? (fun x => x.org.side == d && x.org.sluice == n && x.org.tag == tag) = some j →
    rs = (s.felt.history.filter (fun p => p.zone == j.a && decide (i8 j.data 8 ≤ p.enteredAt) && decide (p.enteredAt ≤ i8 j.data 16))).take
      16383 →
    exec (.parcelHistoryComplete d n tag) s =
      .next (settled s (finish j.org sOK (p2 rs.length ++ zeros 2 ++ rs.flatMap (parcelRecord s)) s))) ∧
  (∀ (s : State) (d : Side) (n tag : Nat),
    (∀ x ∈ waitingJobs s 0x0407, x.org.side ≠ d ∨ x.org.sluice ≠ n ∨ x.org.tag ≠ tag) →
    exec (.parcelHistoryComplete d n tag) s = .next (settled s s)) ∧
  (∀ (s : State) (r : Req), asks 0x0201 r s = true → (g2 r.payload 2 = 0 ∨ 128 < g2 r.payload 0 + g2 r.payload 2) →
    exec (.stRead r) s = .next (settled s (answered 0x0201 r sBADOBJ [] (begun 0x0201 r s)))) ∧
  (∀ (s : State) (r : Req) (ns : List Nat), asks 0x0201 r s = true → 1 ≤ g2 r.payload 2 → g2 r.payload 0 + g2 r.payload 2 ≤ 128 →
    ns = (List.range (g2 r.payload 2)).map (· + g2 r.payload 0) →
    exec (.stRead r) s =
      .next (settled s (answered 0x0201 r sOK (p2 ns.length ++ zeros 2 ++ ns.flatMap (stEntry s))
        (onStn (fun x => { x with encFlags := s.stn.encFlags.filter (fun e => !ns.contains e.1) }) (begun 0x0201 r s)))))

/-- Weir conversions (R183, R189–R206). -/
def Obligations.WeirConversionsAct : Prop :=
  (∀ (s : State) (n : Nat) (c : Conv), n < 128 → converting s n = true →
    exec (.weirConversionEnd n c) s = .next (settled s (convert n c s))) ∧
  (∀ (s : State) (n : Nat) (c : Conv), (128 ≤ n ∨ converting s n = false) →
    exec (.weirConversionEnd n c) s = .next (settled s s)) ∧
  (∀ (s : State) (n : Nat) (c : Conv) (q : Rat) (off : List Rat) (v : Int) (tm : Nat), n < 128 → converting s n = true → stnType s n = 3 →
    hasCells s n = true → g1 (stnPart s n) 4 = g1 (stnPart s n) 5 → wLin (stnPart s n) = 0 → wComp (stnPart s n) = 0xFFFF →
    g4 (stnPart s n) 28 = 0 → (wst s n).mark = 0 → (wst s n).pinned = false → (wst s n).afterChange = false →
    (wst s n).substituted = false → c.saturated = false → c.clean = true → settleCount (stnPart s n) ≤ (wst s n).count + 1 →
    filtered (stnPart s n) (wst s n) c = (q, off) → v = roundRat (q * 1000000) → -2147483647 ≤ v → v ≤ 2147483647 →
    tm = round40 ((s.sys.devTime - windowNs (stnPart s n) + s.sys.devTime) / 2) →
    exec (.weirConversionEnd n c) s =
      .next (settled s (storeLatest n (wRange s n) { published := true, flags := alarmBits s n v 8 9, value := v, time := tm } false false
        (modWst n (fun x => { x with
          afterChange := false, count := x.count + 1, lastRaw := q, heldOff := off, s := some q, x := none, t := none,
          convRange := wRange s n, convTime := tm, lands := 0, pendingMark := 0, pair := none, phase := 0, lastGood := some (v, tm) }) s)))) ∧
  (∀ (s : State) (n : Nat) (c : Conv) (q : Rat) (off : List Rat) (tm : Nat), n < 128 → converting s n = true → hasCells s n = false →
    stnType s n = 3 → wComp (stnPart s n) = 0xFFFF →
    (wst s n).pinned = false → (wst s n).afterChange = false → (wst s n).substituted = false → c.clean = true →
    filtered (stnPart s n) (wst s n) c = (q, off) →
    tm = round40 ((s.sys.devTime - windowNs (stnPart s n) + s.sys.devTime) / 2) →
    exec (.weirConversionEnd n c) s =
      .next (settled s (storeLatest n (wRange s n) { published := true, flags := 0x4000, value := invalidValue, time := tm } false true
        (modWst n (fun x => { x with
          afterChange := false, count := x.count + 1, lastRaw := q, heldOff := off, s := none, x := none, t := none,
          convRange := wRange s n, convTime := tm, lands := 0, pendingMark := 0, pair := none, phase := 0 }) s)))) ∧
  (∀ (s u : State) (n : Nat) (c : Conv) (q : Rat) (off : List Rat) (tm : Nat), n < 128 → converting s n = true → hasCells s n = true →
    stnType s n = 3 → wComp (stnPart s n) = 0xFFFF →
    (wst s n).pinned = false → (wst s n).afterChange = false → (wst s n).substituted = false → c.clean = false →
    (wst s n).mark = 0 → (wst s n).pendingMark ≠ 0 → filtered (stnPart s n) (wst s n) c = (q, off) →
    tm = round40 ((s.sys.devTime - windowNs (stnPart s n) + s.sys.devTime) / 2) →
    u = markStation n (wst s n).pendingMark (wst s n).landsHit (modWst n (fun x => { x with
          afterChange := false, count := x.count + 1, lastRaw := q, heldOff := off, s := none, x := none, t := none,
          convRange := wRange s n, convTime := tm, pair := none, phase := 0 }) s) →
    exec (.weirConversionEnd n c) s =
      .next (settled s (storeLatest n (wRange s n) { published := true, flags := markBits (wst u n), value := invalidValue, time := tm } false true u))) ∧
  (∀ (s : State) (n : Nat) (volts : List Int) (t : Nat), n < 128 → weirOn s = true → isWeir s n = true → stnType s n ≠ 0x10 →
    (wst s n).pendingMark = 0 → outside s n volts ≠ [] →
    exec (.windowViolation n volts t) s =
      .next (settled s (modWst n (fun x => { x with
        lands := ((outside s n volts).map (fun l => 2 ^ l.1)).sum, landsHit := ((outside s n volts).map (fun l => 2 ^ l.1)).sum,
        landMv := ((outside s n volts).head?.getD (0, 0)).2,
        pendingMark := classify s n (outside s n volts), pendingAt := t }) s))) ∧
  (∀ (s : State) (n : Nat) (volts : List Int) (t : Nat), n < 128 → weirOn s = true → isWeir s n = true → stnType s n ≠ 0x10 →
    (wst s n).pendingMark ≠ 0 → (wst s n).pendingAt = t → outside s n volts ≠ [] →
    exec (.windowViolation n volts t) s =
      .next (settled s (modWst n (fun x => { x with
        lands := ((outside s n volts).map (fun l => 2 ^ l.1)).sum, landsHit := ((outside s n volts).map (fun l => 2 ^ l.1)).sum,
        landMv := ((outside s n volts).head?.getD (0, 0)).2,
        pendingMark := if x.pendingMark = 1 ∨ ∃ l ∈ outside s n volts, pulledAway s n l = true then 1 else 2 }) s))) ∧
  (∀ (s : State) (n : Nat) (volts : List Int) (t : Nat), n < 128 → weirOn s = true → isWeir s n = true → stnType s n ≠ 0x10 → outside s n volts = [] →
    exec (.windowViolation n volts t) s =
      .next (settled s (modWst n (fun x => { x with lands := 0, pendingMark := if converting s n then x.pendingMark else 0 }) s))) ∧
  (∀ (s : State) (n t : Nat) (volts : List Int), (128 ≤ n ∨ isWeir s n = false ∨ weirOn s = false ∨ stnType s n = 0x10) →
    exec (.windowViolation n volts t) s = .next (settled s s)) ∧
  (∀ (s : State) (n : Nat), (128 ≤ n ∨ isWeir s n = false) →
    exec (.rangePinExpired n) s = .next (settled s s) ∧
      exec (.compStale n) s = .next (settled s s)) ∧
  (∀ (s : State) (n : Nat), n < 128 → isWeir s n = true →
    exec (.rangePinExpired n) s = .next (settled s (modWst n (fun x => { x with pinned := false }) s))) ∧
  (∀ (s : State) (n : Nat) (ua : Int), n < 128 → weirOn s = true → stnType s n = 4 → 32000 < ua →
    exec (.loopInputOverload n ua) s =
      .next (settled s (note 0x0514 [n, ua] (modWst n (fun x => { x with shuntOpen := true }) s)))) ∧
  (∀ (s : State) (n : Nat) (ua : Int), (128 ≤ n ∨ stnType s n ≠ 4 ∨ ua ≤ 32000 ∨ weirOn s = false) →
    exec (.loopInputOverload n ua) s = .next (settled s s)) ∧
  (∀ (s : State) (n : Nat) (ua : Int), n < 128 → weirOn s = true → stnType s n = 4 →
    exec (.loopShuntReclose n ua) s =
      .next (settled s (modWst n (fun x => { x with shuntOpen := x.shuntOpen && decide (32000 ≤ ua) }) s))) ∧
  (∀ (s : State) (n : Nat) (ua : Int), (128 ≤ n ∨ stnType s n ≠ 4 ∨ weirOn s = false) → exec (.loopShuntReclose n ua) s = .next (settled s s)) ∧
  (∀ (s u : State) (bank : Nat) (ua : Int), bank ≤ 2 → weirOn s = true → s.weir.brxLimit.contains bank = false →
    u = note 0x0516 [bank * 8, ua] (onWeir (fun w => { w with brxLimit := bank :: w.brxLimit }) s) →
    exec (.brxLimit bank ua true) s =
      .next (settled s ((stationsBy u (fun n => stnType u n == 5 && stnTerm u n / 8 == bank)).foldl
        (fun t n => weirPublish n { published := true, flags := 4, value := invalidValue, time := s.sys.devTime }
          (modWst n (fun x => { x with flags := 4, value := invalidValue, time := s.sys.devTime, has := true }) t)) u))) ∧
  (∀ (s : State) (bank : Nat) (ua : Int), bank ≤ 2 → weirOn s = true →
    exec (.brxLimit bank ua false) s =
      .next (settled s (onWeir (fun w => { w with brxLimit := w.brxLimit.filter (· != bank) }) s))) ∧
  (∀ (s : State) (bank : Nat) (ua : Int) (lim : Bool), (3 ≤ bank ∨ weirOn s = false ∨ (lim = true ∧ s.weir.brxLimit.contains bank = true)) →
    exec (.brxLimit bank ua lim) s = .next (settled s s)) ∧
  (∀ (s : State) (n : Nat), n < 128 → isWeir s n = true → wComp (stnPart s n) ≠ 0xFFFF → (wst s n).compStale = false →
    exec (.compStale n) s =
      .next (settled s (note 0x0515 [n, wComp (stnPart s n)] (modWst n (fun x => { x with compStale := true }) s)))) ∧
  (∀ (s : State) (n : Nat), (wComp (stnPart s n) = 0xFFFF ∨ (wst s n).compStale = true) →
    exec (.compStale n) s = .next (settled s s)) ∧
  (∀ (s u : State) (n : Nat) (c : Conv), s.sys.mode = .still → n < 128 → isWeir s n = true → g1 (stnPart s n) 22 = 1 →
    u = convert n c (modWst n (fun x => { x with count := settleCount (stnPart s n) }) s) →
    exec (.stillScan n c) s =
      .next (settled s (if (wst u n).stored ≠ (wst s n).stored ∧ (wst u n).value ≠ invalidValue ∧
        ((i4 (stnPart s n) 32 ≠ -2147483648 ∧ (wst u n).value ≤ i4 (stnPart s n) 32) ∨
          (i4 (stnPart s n) 36 ≠ 2147483647 ∧ i4 (stnPart s n) 36 ≤ (wst u n).value)) then wakeFrom 4 u else u))) ∧
  (∀ (s : State) (n : Nat) (c : Conv), (s.sys.mode ≠ .still ∨ 128 ≤ n ∨ isWeir s n = false ∨ g1 (stnPart s n) 22 ≠ 1) →
    exec (.stillScan n c) s = .next (settled s s))

/-- Weir commands (R212–R216). -/
def Obligations.WeirCommandsAct : Prop :=
  (∀ (s : State) (r : Req), asks 0x0501 r s = true → g2 r.payload 2 = 0 → g2 r.payload 0 < 128 → isWeir s (g2 r.payload 0) = true →
    exec (.weirSample r) s =
      .next (settled s (addJob { org := reqOrg 0x0501 r, a := g2 r.payload 0 }
        (modWst (g2 r.payload 0) (fun x => { x with running := true, count := if stnSampleMode s (g2 r.payload 0) = 2 ∧ x.running = false then 0 else x.count })
          (begun 0x0501 r s))))) ∧
  (∀ (s : State) (r : Req), asks 0x0501 r s = true → (g2 r.payload 2 ≠ 0 ∨ (stn s (g2 r.payload 0) ≠ [] ∧
      g2 r.payload 0 < 128 ∧ isWeir s (g2 r.payload 0) = false)) →
    exec (.weirSample r) s = .next (settled s (answered 0x0501 r sBADOBJ [] (begun 0x0501 r s)))) ∧
  (∀ (s : State) (r : Req), asks 0x0501 r s = true → g2 r.payload 2 = 0 → (128 ≤ g2 r.payload 0 ∨ stn s (g2 r.payload 0) = []) →
    exec (.weirSample r) s = .next (settled s (answered 0x0501 r sNOTFOUND [] (begun 0x0501 r s)))) ∧
  (∀ (s : State) (r : Req) (n : Nat) (x : WeirSt) (q : Rat), asks 0x0502 r s = true → n = g2 r.payload 0 → g2 r.payload 2 = 0 → n < 128 →
    isWeir s n = true → x = wst s n → x.s = some q →
    exec (.weirRaw r) s =
      .next (settled s (answered 0x0502 r sOK
        (p4 (f32.encode q) ++ f32Or x.x ++ f32Or x.t ++ q4 x.value ++ p2 x.flags ++ p1 x.convRange ++
          p1 (if pairs (stnType s n) then 1 - x.phase else 0) ++
          p1 (min 255 (x.changes.filter (fun e => s.sys.devTime - e.1 ≤ 1000000000)).length) ++ p1 x.lands ++ zeros 2 ++ p8 x.convTime)
        (drawn 1 (begun 0x0502 r s))))) ∧
  (∀ (s : State) (r : Req) (n : Nat) (x : WeirSt), asks 0x0502 r s = true → n = g2 r.payload 0 → g2 r.payload 2 = 0 → n < 128 →
    isWeir s n = true → x = wst s n → x.s = none →
    exec (.weirRaw r) s =
      .next (settled s (answered 0x0502 r sOK
        (p4 (Config.freeNat s.fresh) ++ f32Or x.x ++ f32Or x.t ++ q4 x.value ++ p2 x.flags ++ p1 x.convRange ++
          p1 (if pairs (stnType s n) then 1 - x.phase else 0) ++
          p1 (min 255 (x.changes.filter (fun e => s.sys.devTime - e.1 ≤ 1000000000)).length) ++ p1 x.lands ++ zeros 2 ++ p8 x.convTime)
        (drawn 1 (begun 0x0502 r s))))) ∧
  (∀ (s : State) (r : Req), asks 0x0502 r s = true → (g2 r.payload 2 ≠ 0 ∨ (stn s (g2 r.payload 0) ≠ [] ∧
      g2 r.payload 0 < 128 ∧ isWeir s (g2 r.payload 0) = false)) →
    exec (.weirRaw r) s = .next (settled s (answered 0x0502 r sBADOBJ [] (begun 0x0502 r s)))) ∧
  (∀ (s : State) (r : Req), asks 0x0502 r s = true → g2 r.payload 2 = 0 → (128 ≤ g2 r.payload 0 ∨ stn s (g2 r.payload 0) = []) →
    exec (.weirRaw r) s = .next (settled s (answered 0x0502 r sNOTFOUND [] (begun 0x0502 r s)))) ∧
  (∀ (s : State) (r : Req) (k t : Nat), asks 0x0503 r s = true → k = g1 r.payload 0 → t = g1 r.payload 1 → g2 r.payload 2 = 0 →
    (k = 1 ∧ t < 24 ∨ k = 2 ∧ t < 8) →
    exec (.weirTerminal r) s =
      .next (settled s (answered 0x0503 r sOK
        (p1 (cellState s k t) ++
          p1 (b01 (spareAlive s (cellBank k t) && !(tfind s.absorb.spareServes (cellBank k t)).isSome)) ++
          p2 ((stationAt s k t).getD 0xFFFF) ++ p4 (w32 (tget s.weir.openWires (k * 256 + t))) ++
          q8 (tget s.weir.substitutedAt (k * 256 + t))) (begun 0x0503 r s)))) ∧
  (∀ (s : State) (r : Req), asks 0x0503 r s = true →
    (g2 r.payload 2 ≠ 0 ∨ ¬ ((g1 r.payload 0 = 1 ∧ g1 r.payload 1 < 24) ∨ (g1 r.payload 0 = 2 ∧ g1 r.payload 1 < 8))) →
    exec (.weirTerminal r) s = .next (settled s (answered 0x0503 r sBADOBJ [] (begun 0x0503 r s)))) ∧
  (∀ (s : State) (r : Req) (n : Nat) (sv t : Rat) (b : List Byte) (l : Lin), asks 0x0504 r s = true → n = g2 r.payload 0 → g2 r.payload 2 = 0 →
    g1 r.payload 5 = 0 → ((g1 r.payload 4 = 0 ∧ b = stn s n) ∨
      (g1 r.payload 4 = 1 ∧ ∃ x ∈ s.cfg.txn, x.owner = r.side ∧ b = workingStn x n)) → n < 128 → b ≠ [] →
    ((1 ≤ g2 b 0 ∧ g2 b 0 ≤ 6) ∨ g2 b 0 = 0x10) → gf32 r.payload 6 = some sv → gf32 r.payload 10 = some t →
    l.y = (linearise (g2 b 0) (b.drop 64) sv (some t) (if wComp (b.drop 64) = 0xFFFF then ((i4 (b.drop 64) 24 : Int) : Rat) / 1000 else t)).y →
    l.outOfCurve = (linearise (g2 b 0) (b.drop 64) sv (some t) (if wComp (b.drop 64) = 0xFFFF then ((i4 (b.drop 64) 24 : Int) : Rat) / 1000 else t)).outOfCurve →
    exec (.weirLinEval r) s =
      .next (settled s (answered 0x0504 r sOK
        (p8 (f64.encode l.y) ++ q4 (saturateRound l.y l.outOfCurve).1 ++ p2 (saturateRound l.y l.outOfCurve).2 ++ zeros 2)
        (begun 0x0504 r s)))) ∧
  (∀ (s : State) (r : Req) (n : Nat) (b : List Byte), asks 0x0504 r s = true → n = g2 r.payload 0 → g2 r.payload 2 = 0 →
    g1 r.payload 5 = 0 → ((g1 r.payload 4 = 0 ∧ b = stn s n) ∨
      (g1 r.payload 4 = 1 ∧ ∃ x ∈ s.cfg.txn, x.owner = r.side ∧ b = workingStn x n)) → n < 128 → b ≠ [] →
    ((1 ≤ g2 b 0 ∧ g2 b 0 ≤ 6) ∨ g2 b 0 = 0x10) → (gf32 r.payload 6 = none ∨ gf32 r.payload 10 = none) →
    exec (.weirLinEval r) s =
      .next (settled s (answered 0x0504 r sOK
        (p8 (Config.freeNat s.fresh) ++ p4 (Config.freeNat (s.fresh + 1)) ++ p2 (Config.freeNat (s.fresh + 2) % 4 * 16) ++ zeros 2)
        (drawn 3 (begun 0x0504 r s))))) ∧
  (∀ (s : State) (r : Req), asks 0x0504 r s = true → (g2 r.payload 2 ≠ 0 ∨ 1 < g1 r.payload 4 ∨ g1 r.payload 5 ≠ 0 ∨
      (g1 r.payload 4 = 1 ∧ (s.cfg.txn.map (·.owner)) ≠ some r.side)) →
    exec (.weirLinEval r) s = .next (settled s (answered 0x0504 r sBADOBJ [] (begun 0x0504 r s)))) ∧
  (∀ (s : State) (r : Req), asks 0x0504 r s = true → g2 r.payload 2 = 0 → g1 r.payload 5 = 0 → g1 r.payload 4 = 0 →
    (128 ≤ g2 r.payload 0 ∨ stn s (g2 r.payload 0) = []) →
    exec (.weirLinEval r) s = .next (settled s (answered 0x0504 r sNOTFOUND [] (begun 0x0504 r s)))) ∧
  (∀ (s : State) (r : Req), asks 0x0504 r s = true → g2 r.payload 2 = 0 → g1 r.payload 5 = 0 → g1 r.payload 4 = 0 →
    g2 r.payload 0 < 128 → stn s (g2 r.payload 0) ≠ [] → isWeir s (g2 r.payload 0) = false →
    exec (.weirLinEval r) s = .next (settled s (answered 0x0504 r sBADOBJ [] (begun 0x0504 r s))))

/-- Island events (R220–R235, R250–R255). -/
def Obligations.IslandEventsAct : Prop :=
  (∀ s : State, exec .islandLinkCheck s = .next (settled s s)) ∧
  (∀ s : State, s.island.linkUp = true → s.island.session = none →
    exec .islandLinkLost s =
      .next (settled s (allStale (islandJobsTimeout (note 0x0621 [s.island.lastSeq.getD (Config.freeNat s.fresh)]
        (drawn 1 (onIsland (fun i => { i with linkUp := false }) s))))))) ∧
  (∀ (s : State) (p : PSession), s.island.linkUp = true → s.island.session = some p →
    exec .islandLinkLost s = .next (settled s (
      let u := note 0x0621 [s.island.lastSeq.getD (Config.freeNat s.fresh)]
        (drawn 1 (onIsland (fun i => { i with linkUp := false }) s));
      allStale (islandJobsTimeout (if p.writing then u else discardSession 3 sTIMEOUT u))))) ∧
  (∀ s : State, s.island.linkUp = false →
    exec .islandLinkLost s = .next (settled s s) ∧ exec .islandTimeUpdate s = .next (settled s s)) ∧
  (∀ s : State, s.island.linkUp = false → s.fsh.state ≠ 4 →
    exec .islandLinkRestored s =
      .next (settled s (takeSelection (note 0x0622 [s.island.buffered.length, s.island.dropped]
        (onIsland (fun i =>
          { i with
            linkUp := true, outbox := i.outbox ++ i.buffered, buffered := [], lost := w32 (i.lost + i.dropped), dropped := 0 }) s))))) ∧
  (∀ s : State, s.island.linkUp = false →
    exec .islandLinkRestored s =
      .next (settled s (watermarkServes (wmVersion s) (takeSelection (note 0x0622 [s.island.buffered.length, s.island.dropped]
        (onIsland (fun i =>
          { i with
            linkUp := true, outbox := i.outbox ++ i.buffered, buffered := [], lost := w32 (i.lost + i.dropped), dropped := 0 }) s)))))) ∧
  (∀ s : State, s.island.linkUp = true → exec .islandLinkRestored s = .next (settled s (watermarkServes (wmVersion s) s))) ∧
  (∀ (s : State) (d : Int), s.island.linkUp = true → islandUp s = true → d = s.sys.calTime - islandCal s s.sys.devTime → d.natAbs ≤ 1000 →
    exec .islandTimeUpdate s =
      .next (settled s (onIsland (fun i =>
        { i with calOffset := s.sys.calTime - (nsMs s.sys.devTime : Int), openedAt := i.openedAt + d }) s))) ∧
  (∀ (s : State) (d : Int), s.island.linkUp = true → islandUp s = true → d = s.sys.calTime - islandCal s s.sys.devTime → 1000 < d.natAbs →
    exec .islandTimeUpdate s =
      .next (settled s (audit 0x0A 0 (q8 (islandCal s s.sys.devTime) ++ q8 s.sys.calTime)
        (onIsland (fun i =>
          { i with
            calOffset := s.sys.calTime - (nsMs s.sys.devTime : Int), openedAt := i.openedAt + d, epoch := (i.epoch + 1) % 65536 }) s)))) ∧
  (∀ s : State, islandUp s = false →
    exec .islandTimeUpdate s = .next (settled s s) ∧ exec .islandWatchdog s = .next (settled s s)) ∧
  (∀ (s u : State) (r : List Byte), s.island.linkUp = true → s.absorb.reexecuting = false → s.sys.ready = true →
    u = onIsland (fun i => { i with outbox := i.outbox.filter (· != r) }) s →
    exec (.islandRecordReceived r) s =
      .next (settled s (if recordAuthentic r = true ∧ (∀ n ∈ s.island.lastSeq, n < g4 r 4) then acceptRecord r u else refuseRecord r u))) ∧
  (∀ (s : State) (r : List Byte), (s.island.linkUp = false ∨ s.absorb.reexecuting = true ∨ s.sys.ready = false) →
    exec (.islandRecordReceived r) s = .next (settled s s)) ∧
  (∀ s : State, islandUp s = true →
    exec .islandWatchdog s =
      .next (settled s (note 0x0623 [1, (islandSramLost s).island.seqEnd] (allStale (onIsland (fun i => { i with running := false }) (islandSramLost s)))))) ∧
  (∀ (s : State) (d sh torn : Bool) (cb : Option Nat) (pb : List (Nat × Nat)), ¬ (s.fsh.state = 4 ∧ s.fsh.img.kind = 3 ∧ s.fsh.bankReady = true) →
    (s.sys.mode = .vault ∨ s.sys.mode = .ice ∨ s.sys.mode = .recovery) →
    exec (.islandStart d sh cb pb torn) s = .next (settled s s)) ∧
  (∀ (s : State) (sh torn : Bool) (cb : Option Nat) (pb : List (Nat × Nat)), ¬ (s.fsh.state = 4 ∧ s.fsh.img.kind = 3 ∧ s.fsh.bankReady = true) →
    s.sys.mode ≠ .vault → s.sys.mode ≠ .ice → s.sys.mode ≠ .recovery →
    exec (.islandStart false sh cb pb torn) s =
      .next (settled s (allStale (noteFault 0x0623 [2, (islandSramLost s).island.seqEnd]
        (onIsland (fun i => { i with running := false, failed := true }) (islandSramLost s)))))) ∧
  (∀ s : State, ¬ (s.fsh.state = 4 ∧ s.fsh.img.kind = 3 ∧ s.fsh.bankReady = true) → s.sys.mode ≠ .vault → s.sys.mode ≠ .ice → s.sys.mode ≠ .recovery →
    (islandSramLost s).island.abandoned = none →
    exec (.islandStart true false none [] false) s =
      .next (settled s (takeSelection (onEngine (fun e => { e with intervalAt := some s.sys.devTime })
        (sealTakeUp (tamperCopied (tellUnpowered (askSeq (onIsland (fun i =>
          { i with
            running := true, failed := false, torn := false, seqNext := i.seqEnd,
            calOffset := s.sys.calTime - (nsMs s.sys.devTime : Int) }) (islandSramLost s))))))))))  ∧
  (∀ (s : State) (sh torn : Bool) (cb : Option Nat) (pb : List (Nat × Nat)), ¬ (s.fsh.state = 4 ∧ s.fsh.img.kind = 3 ∧ s.fsh.bankReady = true) →
    exec (.islandStart true sh cb pb torn) s = .next (settled s (islandStarts true sh cb pb torn s))) ∧
  (∀ (s : State) (sh torn : Bool) (cb : Option Nat) (pb : List (Nat × Nat)), s.fsh.state = 4 → s.fsh.img.kind = 3 → s.fsh.bankReady = true →
    exec (.islandStart true sh cb pb torn) s =
      .next (settled s (watermarkServes (wmVersion s) (islandStarts true sh cb pb torn s))) ∧
    exec (.islandStart false sh cb pb torn) s = .next (settled s (watermarkTrialTimeoutFx s))) ∧
  (∀ s : State, islandUp s = true → s.sys.mode ≠ .vault → s.sys.mode ≠ .ice → s.sys.legal = true → s.island.sealSeen = false →
    s.island.sealMissed = [] → s.island.trail.length + s.island.waiting.length < 8191 →
    exec (.sealChange true) s =
      .next (settled s (note 0x0610 [s.island.openings + 1] (audit 2 0 (p4 (s.island.openings + 1))
        (onIsland (fun i =>
          { i with
            sealPin := true, sealSeen := true, openings := s.island.openings + 1, openedAt := islandCal s s.sys.devTime,
            openedDev := s.sys.devTime, objsChanged := 0 }) s))))) ∧
  (∀ s : State, islandUp s = true → s.sys.mode ≠ .vault → s.sys.mode ≠ .ice → s.sys.legal = true → s.island.sealSeen = false →
    s.island.sealMissed = [] → 8191 ≤ s.island.trail.length + s.island.waiting.length →
    exec (.sealChange true) s =
      .next (settled s (note 0x0610 [s.island.openings + 1] (audit 2 0 (p4 (s.island.openings + 1))
        (onIsland (fun i =>
          { i with
            sealPin := true, sealSeen := true, openings := s.island.openings + 1, openedAt := islandCal s s.sys.devTime,
            openedDev := s.sys.devTime, objsChanged := 0, fullCount := i.fullCount + 1 }) s))))) ∧
  (∀ (s : State) (secs : Nat), islandUp s = true → s.sys.mode ≠ .vault → s.sys.mode ≠ .ice → s.sys.legal = true → s.island.sealSeen = true →
    s.island.sealMissed = [] → ¬ (s.fsh.state = 4 ∧ s.fsh.img.kind = 3) →
    s.island.trail.length + s.island.waiting.length < 8191 → s.island.session = none →
    secs = (islandCal s s.sys.devTime - s.island.openedAt).toNat / 1000 →
    exec (.sealChange false) s =
      .next (settled s (note 0x0611 [s.island.objsChanged, secs] (audit 3 0 (p2 s.island.objsChanged ++ zeros 2 ++ p4 secs)
        (onIsland (fun i => { i with sealPin := false, sealSeen := false, closedAt := s.sys.devTime }) s))))) ∧
  (∀ (s : State) (p : PSession) (secs : Nat), islandUp s = true → s.sys.mode ≠ .vault → s.sys.mode ≠ .ice → s.sys.legal = true →
    s.island.sealSeen = true → s.island.sealMissed = [] → ¬ (s.fsh.state = 4 ∧ s.fsh.img.kind = 3) → s.island.session = some p →
    secs = (islandCal s s.sys.devTime - s.island.openedAt).toNat / 1000 →
    exec (.sealChange false) s = .next (settled s (
      let u := onIsland (fun i => { i with sealPin := false, sealSeen := false, closedAt := s.sys.devTime }) s;
      if p.writing then onIsland (fun i => { i with closeAfter := some secs }) u else sealClosed secs (discardSession 1 sSEALED u)))) ∧
  (∀ s : State, s.sys.mode ≠ .vault → s.sys.mode ≠ .ice → s.sys.legal = true → s.fsh.state = 4 → s.fsh.img.kind = 3 →
    exec (.sealChange false) s = .next (settled s (
      let u := cancelStore .islandBank (onFsh (fun f => { f with state := 3, outcome := sSEALED, grantUsed := false, bankReady := false })
        (sealMoved false s));
      if s.fsh.bankReady then allStale (onIsland (fun i => { i with running := false }) (islandSramLost u)) else u))) ∧
  (∀ (s : State) (opened : Bool), s.sys.mode ≠ .vault → s.sys.mode ≠ .ice → ¬ (s.fsh.state = 4 ∧ s.fsh.img.kind = 3) → islandUp s = false →
    exec (.sealChange opened) s = .next (settled s (onIsland (fun i =>
      { i with sealPin := opened, sealMissed := if opened = i.sealPin then i.sealMissed else i.sealMissed ++ [opened] }) s))) ∧
  (∀ (s : State) (opened : Bool), s.sys.mode ≠ .vault → s.sys.mode ≠ .ice → ¬ (s.fsh.state = 4 ∧ s.fsh.img.kind = 3) → islandUp s = true →
    s.island.sealMissed = [] → opened = s.island.sealSeen →
    exec (.sealChange opened) s = .next (settled s (onIsland (fun i => { i with sealPin := opened }) s))) ∧
  (∀ (s : State) (opened : Bool), s.sys.mode ≠ .vault → s.sys.mode ≠ .ice → islandUp s = true → s.sys.legal = false →
    s.island.sealMissed = [] →
    exec (.sealChange opened) s = .next (settled s (onIsland (fun i => { i with sealPin := opened, sealSeen := opened }) s))) ∧
  (∀ (s : State) (opened : Bool), (s.sys.mode = .vault ∨ s.sys.mode = .ice) → ¬ (s.fsh.state = 4 ∧ s.fsh.img.kind = 3) →
    exec (.sealChange opened) s = .next (settled s s)) ∧
  (∀ (s : State) (opened : Bool), (s.sys.mode = .vault ∨ s.sys.mode = .ice) → opened ≠ s.island.sealPin →
    exec (.sealSampleUnpowered opened) s =
      .next (settled s (onIsland (fun i =>
        { i with
          sealPin := opened, unpoweredCount := i.unpoweredCount + 1,
          unpoweredFirst := if i.unpoweredCount = 0 then s.power.springNs / 1000000 else i.unpoweredFirst }) s))) ∧
  (∀ (s : State) (opened : Bool), ((s.sys.mode ≠ .vault ∧ s.sys.mode ≠ .ice) ∨ opened = s.island.sealPin) →
    exec (.sealSampleUnpowered opened) s = .next (settled s s)) ∧
  (∀ s : State, islandUp s = true → s.sys.mode ≠ .vault → s.sys.mode ≠ .ice → s.island.tamperedFlash = false → tamperTold s = false →
    canStore .islandAudit s = true →
    exec .shieldLoopOpen s =
      .next (settled s (onIsland (fun i => { i with tamperedFlash := true })
        (note 0x0650 [s.sys.calTime] (audit 0x0B 0 [] (onIsland (fun i => { i with tampered := true }) s)))))) ∧
  (∀ s : State, islandUp s = true → s.sys.mode ≠ .vault → s.sys.mode ≠ .ice → s.island.tamperedFlash = false → tamperTold s = false →
    canStore .islandAudit s = false →
    exec .shieldLoopOpen s =
      .next (settled s (note 0x0650 [s.sys.calTime] (audit 0x0B 0 [] (onIsland (fun i => { i with tampered := true }) s))))) ∧
  (∀ s : State, (islandUp s = false ∨ s.sys.mode = .vault ∨ s.sys.mode = .ice ∨ s.island.tamperedFlash = true) →
    exec .shieldLoopOpen s = .next (settled s (onIsland (fun i => { i with tampered := true }) s))) ∧
  (∀ (s : State) (cls i : Nat), islandUp s = true →
    exec (.paramCrcCheck [(cls, i)]) s =
      .next (settled s (noteFault 0x0651 [cls, i]
        (audit 8 0 (p1 cls ++ zeros 1 ++ p2 i) (onIsland (fun x =>
        { x with paramFault := true, faultFrom := if x.paramFault then x.faultFrom else s.sys.devTime }) s))))) ∧
  (∀ (s : State) (bad : List (Nat × Nat)), islandUp s = true →
    exec (.paramCrcCheck bad) s = .next (settled s (bad.foldl (fun t k => paramBroken k.1 k.2 t) s))) ∧
  (∀ (s : State) (bad : List (Nat × Nat)), islandUp s = false → exec (.paramCrcCheck bad) s = .next (settled s s)) ∧
  (∀ (s : State) (p : PSession), s.island.session = some p → p.writing = false →
    exec .paramSessionIdle s = .next (settled s (discardSession 2 sTIMEOUT s))) ∧
  (∀ s : State, (∀ p ∈ s.island.session, p.writing = true) → exec .paramSessionIdle s = .next (settled s s)) ∧
  (∀ (s u : State) (d : List Byte) (fd : Bool), tapOn s = true → fd = (g1 (paramBody s 5 0) 1 == 1) → d.length = 8 → 1 ≤ g1 d 0 → g1 d 0 ≤ 4 →
    (g1 d 1 = 1 ∨ g1 d 1 = 2) → zeroAt d 4 4 = true → s.island.tapCounter ≠ some (g2 d 2) →
    u = note 0x0640 [g1 d 0, g1 d 1, g2 d 2] (onIsland (fun i =>
        { i with
          tapCounter := some (g2 d 2), tapTriggers := (i.tapTriggers + 1) % 65536,
          tapGaps := if ∃ k ∈ s.island.tapCounter, g2 d 2 ≠ (k + 1) % 65536 then (i.tapGaps + 1) % 65536 else i.tapGaps }) s) →
    exec (.tapTrigger (g4 (paramBody s 5 0) 4) fd false d) s =
      .next (settled s (if wOn s (g1 d 1) then (wgtAsk (g1 d 1) { kind := g1 d 0, source := 1, since := s.sys.devTime } u).2 else u))) ∧
  (∀ (s : State) (w : Nat) (d : List Byte) (fd own : Bool), (tapOn s = false ∨ own = true ∨ w ≠ g4 (paramBody s 5 0) 4 ∨
      fd ≠ (g1 (paramBody s 5 0) 1 == 1) ∨ d.length ≠ 8 ∨ g1 d 0 = 0 ∨ 4 < g1 d 0 ∨ (g1 d 1 ≠ 1 ∧ g1 d 1 ≠ 2) ∨ zeroAt d 4 4 = false ∨
      s.island.tapCounter = some (g2 d 2)) →
    exec (.tapTrigger w fd own d) s = .next (settled s s)) ∧
  (∀ (s u : State) (ch : Nat) (rs : List Rat) (ow : Bool) (t0 t1 : Nat) (cal : List Byte) (r : Rat),
    u = (if t0 < s.island.committedAt then onIsland (fun i => { i with params := paramsAt s t0 }) s else s) → ch ≤ 1 →
    islandUp s = true → pllDown s 2 = false → grainMeasured s ch = true → cal = paramBody u 4 ch → cal ≠ [] →
    r = ratDiv rs.sum (rs.length : Nat) → (ow = true ∨ rs = []) →
    exec (.grainTempRecord ch rs ow t0 t1) s =
      .next (settled s (
        let v := makeRecord (3 + ch) 4 0x20 t0 t1
          (q4 invalidValue ++ p4 (if rs = [] then Config.freeNat (s.fresh + 1) else uField 4 (roundRat (r * 1000))) ++ p1 (g1 cal 0) ++ p1 1 ++
            p2 rs.length ++ zeros 20) (drawn 2 u);
        if t0 < s.island.committedAt then onIsland (fun i => { i with params := s.island.params }) v else v))) ∧
  (∀ (s u : State) (ch : Nat) (rs : List Rat) (t0 t1 : Nat) (cal : List Byte) (r : Rat) (g : Rat × Bool) (v : Int),
    u = (if t0 < s.island.committedAt then onIsland (fun i => { i with params := paramsAt s t0 }) s else s) → ch ≤ 1 →
    islandUp s = true → pllDown s 2 = false → grainMeasured s ch = true → cal = paramBody u 4 ch → cal ≠ [] → rs ≠ [] →
    r = rs.sum / (rs.length : Nat) → g.1 = (gtLaw cal r s.fresh).1 → g.2 = (gtLaw cal r s.fresh).2 →
    v = (if g.2 then roundRat (g.1 * 1000) else invalidValue) →
    exec (.grainTempRecord ch rs false t0 t1) s =
      .next (settled s (
        let w := makeRecord (3 + ch) 4 (if v ≠ invalidValue ∧ i4 cal 8 ≤ v ∧ v ≤ i4 cal 12 then 0 else 0x20) t0 t1
          (q4 v ++ p4 (uField 4 (roundRat (r * 1000))) ++ p1 (g1 cal 0) ++ p1 (if g.2 then 0 else 2) ++ p2 rs.length ++ zeros 20)
          (drawn 2 (if v = invalidValue then u else onIsland (fun i => { i with gtTemp := tset i.gtTemp ch (v, s.sys.devTime) }) u));
        if t0 < s.island.committedAt then onIsland (fun i => { i with params := s.island.params }) w else w))) ∧
  (∀ (s : State) (ch : Nat) (rs : List Rat) (ow : Bool) (t0 t1 : Nat), s.island.committedAt ≤ t0 →
    (1 < ch ∨ paramBody s 4 ch = [] ∨ islandUp s = false ∨ pllDown s 2 = true ∨ grainMeasured s ch = false) →
    exec (.grainTempRecord ch rs ow t0 t1) s = .next (settled s s)) ∧
  (∀ (s : State) (n : Nat), n < 128 → s.sys.ready = true → stnSampleMode s n = 0 → isWeir s n = true → (wst s n).has = true →
    exec (.stationPublish n) s =
      .next (settled s (weirPublish n { published := true, flags := (wst s n).flags, value := (wst s n).value, time := (wst s n).time } s))) ∧
  (∀ (s : State) (n : Nat), n < 128 → s.sys.ready = true → stnSampleMode s n = 0 → isWeir s n = false → isIsland s n = true →
    exec (.stationPublish n) s = .next (settled s (islandPublish n s))) ∧
  (∀ (s : State) (n : Nat), n < 128 → s.sys.ready = true → stnSampleMode s n = 0 → isWeir s n = false → isIsland s n = false →
    (isProp s n = true ∨ stnType s n = 0x31) →
    exec (.stationPublish n) s = .next (settled s (publishValve n s))) ∧
  (∀ (s : State) (n : Nat), n < 128 → s.sys.ready = true → stnSampleMode s n = 0 → isWeir s n = false → isIsland s n = false →
    isProp s n = false → stnType s n ≠ 0x31 → isLoopOut s n = true →
    exec (.stationPublish n) s = .next (settled s (publishField n s.sys.devTime s))) ∧
  (∀ (s : State) (n : Nat), (128 ≤ n ∨ s.sys.ready = false ∨ stnSampleMode s n ≠ 0 ∨ (isWeir s n = true ∧ (wst s n).has = false) ∨
      (isWeir s n = false ∧ isIsland s n = false ∧ isProp s n = false ∧ stnType s n ≠ 0x31 ∧ isLoopOut s n = false)) →
    exec (.stationPublish n) s = .next (settled s s)) ∧
  (∀ (s : State) (n : Nat), n < 128 → isIsland s n = true → s.island.stale.contains n = false →
    exec (.islandStationStale n) s =
      .next (settled s (islandPublish n (onIsland (fun i => { i with stale := n :: i.stale }) s)))) ∧
  (∀ (s : State) (n : Nat), (128 ≤ n ∨ isIsland s n = false ∨ s.island.stale.contains n = true) →
    exec (.islandStationStale n) s = .next (settled s s))

/-- Watermark commands (R231, R232, R236, R241, R257–R259). -/
def Obligations.WatermarkCommandsAct : Prop :=
  (∀ (s : State) (r : Req), asks 0x0601 r s = true → s.sys.legal = true → linkDown s = false →
    exec (.wmLegalId r) s =
      .next (settled s (answered 0x0601 r sOK
        (asciiName 12 [87, 65, 84, 69, 82, 77, 65, 82, 75] ++ (wmVersion s).flatMap p1 ++ p1 (sealByte s) ++
          p4 (wmCheck s) ++ p4 (paramCrc s) ++ p4 (s.island.trail.length - 1) ++ p2 s.island.epoch ++ zeros 2) (begun 0x0601 r s)))) ∧
  (∀ (s : State) (r : Req), asks 0x0602 r s = true → linkDown s = false →
    exec (.wmKey r) s =
      .next (settled s (answered 0x0602 r sOK
        (p8 s.sys.serial ++ orderCode s ++ leBytes 32 (publicKey Config.islandKey).1 ++ leBytes 32 (publicKey Config.islandKey).2 ++
          (fit 68 Config.deviceCertificate).take 4 ++ zeros 4 ++ (fit 68 Config.deviceCertificate).drop 4) (begun 0x0602 r s)))) ∧
  (∀ (s : State) (r : Req), asks 0x0601 r s = true → linkDown s = true →
    exec (.wmLegalId r) s = .next (settled s (answered 0x0601 r sTIMEOUT [] (begun 0x0601 r s)))) ∧
  (∀ (s : State) (r : Req), asks 0x0602 r s = true → linkDown s = true →
    exec (.wmKey r) s = .next (settled s (answered 0x0602 r sTIMEOUT [] (begun 0x0602 r s)))) ∧
  (∀ (s : State) (r : Req), asks 0x0603 r s = true → s.island.linkUp = true → (s.island.running = true ∨ s.island.failed = true) →
    exec (.wmStatus r) s =
      .next (settled s (answered 0x0603 r sOK
        (p1 (if s.island.failed then 2 else 1) ++ p1 (sealByte s) ++
          p1 ((s.island.session.map (fun p => if p.queued then 2 else 1)).getD 0) ++ p1 (min 255 (s.island.unpoweredShown + s.island.fullCount)) ++
          (List.range 5).flatMap (fun t => p2 (tget s.island.reasons t).toNat) ++
          p2 (if s.sys.legal then 8192 - s.island.trail.length else 0) ++
          p4 (w32 (s.island.lastSigned.getD (Config.freeNat s.fresh))) ++ p4 s.island.sigFailures ++ p4 (w32 (s.island.lost + s.island.dropped)) ++
          q4 (tget s.power.sensors 12).raw ++ q4 (tget s.power.sensors 13).raw ++ p2 s.island.tapTriggers ++ p2 s.island.tapGaps)
        (drawn 1 (begun 0x0603 r s))))) ∧
  (∀ (s : State) (r : Req), asks 0x0603 r s = true → (s.island.linkUp = false ∨ (s.island.running = false ∧ s.island.failed = false)) →
    exec (.wmStatus r) s = .next (settled s (answered 0x0603 r sTIMEOUT [] (begun 0x0603 r s)))) ∧
  (∀ (s : State) (r : Req), asks 0x0604 r s = true → linkDown s = false → s.sys.legal = true → s.island.sealPin = true →
    s.island.session = none → s.island.trail.length ≤ 8064 →
    exec (.wmParamOpen r) s =
      .next (settled s (answered 0x0604 r sOK (p4 (paramCrc s))
        (setSession (some { owner := r.side, lastCmd := s.sys.devTime }) (begun 0x0604 r s))))) ∧
  (∀ (s : State) (r : Req), asks 0x0604 r s = true → linkDown s = false → s.sys.legal = false → s.sys.mode = .commission →
    s.island.session = none →
    exec (.wmParamOpen r) s =
      .next (settled s (answered 0x0604 r sOK (p4 (paramCrc s))
        (setSession (some { owner := r.side, lastCmd := s.sys.devTime }) (begun 0x0604 r s))))) ∧
  (∀ (s : State) (r : Req), asks 0x0604 r s = true → linkDown s = true →
    exec (.wmParamOpen r) s = .next (settled s (answered 0x0604 r sTIMEOUT [] (begun 0x0604 r s)))) ∧
  (∀ (s : State) (r : Req), asks 0x0604 r s = true → linkDown s = false → s.sys.legal = false → s.sys.mode ≠ .commission →
    exec (.wmParamOpen r) s = .next (settled s (answered 0x0604 r sWRONGMODE [] (begun 0x0604 r s)))) ∧
  (∀ (s : State) (r : Req), asks 0x0604 r s = true → linkDown s = false → s.sys.legal = true → s.island.sealPin = false →
    exec (.wmParamOpen r) s = .next (settled s (answered 0x0604 r sSEALED [] (begun 0x0604 r s)))) ∧
  (∀ (s : State) (r : Req), asks 0x0604 r s = true → linkDown s = false → s.sys.legal = true → s.island.sealPin = true → s.island.session ≠ none →
    exec (.wmParamOpen r) s = .next (settled s (answered 0x0604 r sBUSY [] (begun 0x0604 r s)))) ∧
  (∀ (s : State) (r : Req), asks 0x0604 r s = true → linkDown s = false → s.sys.legal = true → s.island.sealPin = true → s.island.session = none → 8064 < s.island.trail.length →
    exec (.wmParamOpen r) s = .next (settled s (answered 0x0604 r sLIMIT [] (begun 0x0604 r s)))) ∧
  (∀ (s : State) (r : Req) (st : Nat), asks 0x0605 r s = true → ownSession (reqOrg 0x0605 r) s = .inr st →
    exec (.wmParamWrite r) s = .next (settled s (answered 0x0605 r st [] (begun 0x0605 r s)))) ∧
  (∀ (s : State) (r : Req) (p q : PSession), asks 0x0605 r s = true → ownSession (reqOrg 0x0605 r) s = .inl p →
    g4 r.payload 8 = (r.payload.drop 12).length → g1 r.payload 1 = 0 → g2 r.payload 6 = 0 →
    okIndex (g1 r.payload 0) (g2 r.payload 2) = true → r.payload.drop 12 ≠ [] →
    okParam (g1 r.payload 0) (g2 r.payload 4) (r.payload.drop 12) = true →
    stageParam { cls := g1 r.payload 0, index := g2 r.payload 2, format := g2 r.payload 4, body := r.payload.drop 12 }
      { p with lastCmd := s.sys.devTime } = some q →
    exec (.wmParamWrite r) s = .next (settled s (answered 0x0605 r sOK [] (setSession (some q) (begun 0x0605 r s))))) ∧
  (∀ (s : State) (r : Req) (p : PSession), asks 0x0605 r s = true → ownSession (reqOrg 0x0605 r) s = .inl p →
    g4 r.payload 8 = 0 → r.payload.length = 12 → g1 r.payload 1 = 0 → g2 r.payload 6 = 0 →
    okIndex (g1 r.payload 0) (g2 r.payload 2) = true →
    (committedSet s p).any (fun x => x.cls == g1 r.payload 0 && x.index == g2 r.payload 2) = false →
    exec (.wmParamWrite r) s =
      .next (settled s (answered 0x0605 r sNOTFOUND [] (setSession (some { p with lastCmd := s.sys.devTime }) (begun 0x0605 r s))))) ∧
  (∀ (s : State) (r : Req) (p : PSession), asks 0x0605 r s = true → ownSession (reqOrg 0x0605 r) s = .inl p →
    g4 r.payload 8 = 0 → r.payload.length = 12 → g1 r.payload 1 = 0 → g2 r.payload 6 = 0 →
    okIndex (g1 r.payload 0) (g2 r.payload 2) = true →
    (committedSet s p).any (fun x => x.cls == g1 r.payload 0 && x.index == g2 r.payload 2) = true →
    exec (.wmParamWrite r) s =
      .next (settled s (answered 0x0605 r sOK []
        (setSession (some (stageDelete (g1 r.payload 0) (g2 r.payload 2) { p with lastCmd := s.sys.devTime })) (begun 0x0605 r s))))) ∧
  (∀ (s : State) (r : Req) (p : PSession), asks 0x0605 r s = true → ownSession (reqOrg 0x0605 r) s = .inl p → (g4 r.payload 8 ≠ (r.payload.drop 12).length ∨ g1 r.payload 1 ≠ 0 ∨ g2 r.payload 6 ≠ 0 ∨
      okIndex (g1 r.payload 0) (g2 r.payload 2) = false) →
    exec (.wmParamWrite r) s =
      .next (settled s (answered 0x0605 r sBADOBJ [] (setSession (some { p with lastCmd := s.sys.devTime }) (begun 0x0605 r s))))) ∧
  (∀ (s : State) (r : Req) (p : PSession), asks 0x0605 r s = true → ownSession (reqOrg 0x0605 r) s = .inl p → g4 r.payload 8 = (r.payload.drop 12).length → g1 r.payload 1 = 0 → g2 r.payload 6 = 0 →
    okIndex (g1 r.payload 0) (g2 r.payload 2) = true → r.payload.drop 12 ≠ [] →
    okParam (g1 r.payload 0) (g2 r.payload 4) (r.payload.drop 12) = false →
    exec (.wmParamWrite r) s =
      .next (settled s (answered 0x0605 r sBADOBJ [] (setSession (some { p with lastCmd := s.sys.devTime }) (begun 0x0605 r s))))) ∧
  (∀ (s : State) (r : Req) (p : PSession), asks 0x0605 r s = true → ownSession (reqOrg 0x0605 r) s = .inl p →
    g4 r.payload 8 = (r.payload.drop 12).length → g1 r.payload 1 = 0 → g2 r.payload 6 = 0 →
    okIndex (g1 r.payload 0) (g2 r.payload 2) = true → r.payload.drop 12 ≠ [] →
    okParam (g1 r.payload 0) (g2 r.payload 4) (r.payload.drop 12) = true →
    stageParam { cls := g1 r.payload 0, index := g2 r.payload 2, format := g2 r.payload 4, body := r.payload.drop 12 }
      { p with lastCmd := s.sys.devTime } = none →
    exec (.wmParamWrite r) s =
      .next (settled s (answered 0x0605 r sLIMIT [] (setSession (some { p with lastCmd := s.sys.devTime }) (begun 0x0605 r s))))) ∧
  (∀ (s : State) (r : Req) (st : Nat), asks 0x0606 r s = true → ownSession (reqOrg 0x0606 r) s = .inr st →
    exec (.wmParamCommit r) s = .next (settled s (answered 0x0606 r st [] (begun 0x0606 r s)))) ∧
  (∀ (s : State) (r : Req) (p : PSession), asks 0x0606 r s = true → ownSession (reqOrg 0x0606 r) s = .inl p →
    gtMissing (committedSet s p) = false → canStore (.islandParam none) s = true →
    exec (.wmParamCommit r) s =
      .next (settled s (addJob { org := reqOrg 0x0606 r }
        (requestStore (.islandParam (some (reqOrg 0x0606 r)))
          (setSession (some { p with lastCmd := s.sys.devTime, writing := true }) (captureEnds sBADOBJ (begun 0x0606 r s))))))) ∧
  (∀ (s : State) (r : Req) (p : PSession), asks 0x0606 r s = true → ownSession (reqOrg 0x0606 r) s = .inl p →
    gtMissing (committedSet s p) = false → canStore (.islandParam none) s = false →
    exec (.wmParamCommit r) s =
      .next (settled s (answered 0x0606 r sNOENERGY []
        (requestStore (.islandParam none) (setSession (some { p with lastCmd := s.sys.devTime, queued := true })
          (captureEnds sBADOBJ (begun 0x0606 r s))))))) ∧
  (∀ (s : State) (r : Req) (p : PSession), asks 0x0606 r s = true → ownSession (reqOrg 0x0606 r) s = .inl p →
    gtMissing (committedSet s p) = true →
    exec (.wmParamCommit r) s =
      .next (settled s (answered 0x0606 r sNOTFOUND [] (setSession (some { p with lastCmd := s.sys.devTime }) (begun 0x0606 r s))))) ∧
  (∀ (s : State) (r : Req) (st : Nat), asks 0x0607 r s = true → ownSession (reqOrg 0x0607 r) s = .inr st →
    exec (.wmParamDiscard r) s = .next (settled s (answered 0x0607 r st [] (begun 0x0607 r s)))) ∧
  (∀ (s : State) (r : Req) (p : PSession), asks 0x0607 r s = true → ownSession (reqOrg 0x0607 r) s = .inl p →
    exec (.wmParamDiscard r) s = .next (settled s (answered 0x0607 r sOK [] (discardSession 0 sOK (begun 0x0607 r s))))) ∧
  (∀ (s : State) (r : Req), asks 0x0608 r s = true → linkDown s = true →
    exec (.wmParamRead r) s = .next (settled s (answered 0x0608 r sTIMEOUT [] (begun 0x0608 r s)))) ∧
  (∀ (s : State) (r : Req), asks 0x0608 r s = true → linkDown s = false → (g1 r.payload 1 ≠ 0 ∨ okIndex (g1 r.payload 0) (g2 r.payload 2) = false) →
    exec (.wmParamRead r) s = .next (settled s (answered 0x0608 r sBADOBJ [] (begun 0x0608 r s)))) ∧
  (∀ (s : State) (r : Req), asks 0x0608 r s = true → linkDown s = false → g1 r.payload 1 = 0 → okIndex (g1 r.payload 0) (g2 r.payload 2) = true →
    paramObj s (g1 r.payload 0) (g2 r.payload 2) = none →
    exec (.wmParamRead r) s = .next (settled s (answered 0x0608 r sNOTFOUND [] (begun 0x0608 r s)))) ∧
  (∀ (s : State) (r : Req) (p : IParam), asks 0x0608 r s = true → linkDown s = false → g1 r.payload 1 = 0 →
    okIndex (g1 r.payload 0) (g2 r.payload 2) = true → paramObj s (g1 r.payload 0) (g2 r.payload 2) = some p →
    exec (.wmParamRead r) s =
      .next (settled s (answered 0x0608 r sOK
        (p4 (w32 (tget s.island.versions (g1 r.payload 0 * 256 + g2 r.payload 2))) ++ p4 (paramObjCrc p) ++ paramBytes p)
        (begun 0x0608 r s)))) ∧
  (∀ (s : State) (r : Req), asks 0x0609 r s = true → linkDown s = true →
    exec (.wmAuditRead r) s = .next (settled s (answered 0x0609 r sTIMEOUT [] (begun 0x0609 r s)))) ∧
  (∀ (s : State) (r : Req), asks 0x0609 r s = true → linkDown s = false → (g2 r.payload 4 = 0 ∨ 256 < g2 r.payload 4 ∨ g2 r.payload 6 ≠ 0) →
    exec (.wmAuditRead r) s = .next (settled s (answered 0x0609 r sBADOBJ [] (begun 0x0609 r s)))) ∧
  (∀ (s : State) (r : Req), asks 0x0609 r s = true → linkDown s = false → 1 ≤ g2 r.payload 4 → g2 r.payload 4 ≤ 256 → g2 r.payload 6 = 0 →
    s.island.trail.length ≤ g4 r.payload 0 →
    exec (.wmAuditRead r) s = .next (settled s (answered 0x0609 r sNOTFOUND [] (begun 0x0609 r s)))) ∧
  (∀ (s : State) (r : Req) (es : List Audit), asks 0x0609 r s = true → s.sys.legal = true → linkDown s = false →
    1 ≤ g2 r.payload 4 → g2 r.payload 4 ≤ 256 → g2 r.payload 6 = 0 → g4 r.payload 0 < s.island.trail.length →
    es = (s.island.trail.reverse.drop (g4 r.payload 0)).take (g2 r.payload 4) →
    exec (.wmAuditRead r) s =
      .next (settled s (
        let body := p2 es.length ++ zeros 2 ++ p4 s.island.trail.length ++ es.flatMap auditBytes ++ slice r.payload 8 8;
        let sg := ecdsaSign Config.islandKey (Config.signNonce s.fresh) body;
        answered 0x0609 r sOK (body ++ leBytes 32 sg.1 ++ leBytes 32 sg.2) (drawn 1 (begun 0x0609 r s))))) ∧
  (∀ (s : State) (r : Req), asks 0x060A r s = true → linkDown s = true →
    exec (.wmRecordRead r) s = .next (settled s (answered 0x060A r sTIMEOUT [] (begun 0x060A r s)))) ∧
  (∀ (s : State) (r : Req), asks 0x060A r s = true → linkDown s = false → (4 < g1 r.payload 0 ∨ g2 r.payload 2 ≠ 0) →
    exec (.wmRecordRead r) s = .next (settled s (answered 0x060A r sBADOBJ [] (begun 0x060A r s)))) ∧
  (∀ (s : State) (r : Req), asks 0x060A r s = true → linkDown s = false → g1 r.payload 0 ≤ 4 → g2 r.payload 2 = 0 →
    tfind s.island.latest (g1 r.payload 0 * 256 + g1 r.payload 1) = none →
    exec (.wmRecordRead r) s = .next (settled s (answered 0x060A r sNOTFOUND [] (begun 0x060A r s)))) ∧
  (∀ (s : State) (r : Req) (b : List Byte), asks 0x060A r s = true → linkDown s = false → g1 r.payload 0 ≤ 4 → g2 r.payload 2 = 0 →
    tfind s.island.latest (g1 r.payload 0 * 256 + g1 r.payload 1) = some b →
    exec (.wmRecordRead r) s = .next (settled s (answered 0x060A r sOK b (begun 0x060A r s))))

/-- Moisture engine (R265–R289). -/
def Obligations.MoistureEngineActs : Prop :=
  (∀ (s u : State) (ws : List Sweep),
    u = (if s.sys.devTime - 100000000 < s.island.committedAt then onIsland (fun i => { i with params := paramsAt s (s.sys.devTime - 100000000) }) s else s) →
    sweeping u = true → loopDue s (s.sys.devTime - 100000000) = false →
    exec (.moistureIntervalEnd ws) s =
      .next (settled s (
        let v := loopOverdue (s.sys.devTime - 100000000) u;
        let w := intervalOver (calFor s (s.sys.devTime - 100000000)) (nextSeqNo v)
          (moistureRecord v.engine ws (calFor s (s.sys.devTime - 100000000)) (s.sys.devTime - 100000000) s.sys.devTime v);
        if s.sys.devTime - 100000000 < s.island.committedAt then onIsland (fun i => { i with params := s.island.params }) w else w))) ∧
  (∀ (s u : State) (ws : List Sweep),
    u = (if s.sys.devTime - 100000000 < s.island.committedAt then onIsland (fun i => { i with params := paramsAt s (s.sys.devTime - 100000000) }) s else s) →
    sweeping u = true → s.sys.mode ≠ .still → loopDue s (s.sys.devTime - 100000000) = true →
    exec (.moistureIntervalEnd ws) s =
      .next (settled s (
        let v := loopOverdue (s.sys.devTime - 100000000) u;
        let x := intervalLoop (ws.take 5) (s.sys.devTime - 100000000) v;
        let w := intervalOver (calFor s (s.sys.devTime - 100000000)) (nextSeqNo x)
          (moistureRecord v.engine (ws.drop 5) (calFor s (s.sys.devTime - 100000000)) (s.sys.devTime - 100000000 + 10000000) s.sys.devTime x);
        if s.sys.devTime - 100000000 < s.island.committedAt then onIsland (fun i => { i with params := s.island.params }) w else w))) ∧
  (∀ (s u : State) (ws : List Sweep),
    u = (if s.sys.devTime - 100000000 < s.island.committedAt then onIsland (fun i => { i with params := paramsAt s (s.sys.devTime - 100000000) }) s else s) →
    sweeping u = true → s.sys.mode = .still → loopDue s (s.sys.devTime - 100000000) = true →
    exec (.moistureIntervalEnd ws) s =
      .next (settled s (
        let x := intervalLoop (ws.take 5) (s.sys.devTime - 100000000 - 10000000) (loopOverdue (s.sys.devTime - 100000000) u);
        let w := intervalOver (calFor s (s.sys.devTime - 100000000)) (nextSeqNo x)
          (moistureRecord x.engine (ws.drop 5) (calFor s (s.sys.devTime - 100000000)) (s.sys.devTime - 100000000) s.sys.devTime x);
        if s.sys.devTime - 100000000 < s.island.committedAt then onIsland (fun i => { i with params := s.island.params }) w else w))) ∧
  (∀ (s : State) (ws : List Sweep), sweeping s = false → s.island.committedAt ≤ s.sys.devTime - 100000000 →
    exec (.moistureIntervalEnd ws) s = .next (settled s s)) ∧
  (∀ (s : State) (a b : Int), islandUp s = true → s.engine.st ≠ 4 → a = (tget s.power.sensors 12).raw → b = (tget s.power.sensors 13).raw →
    (120000 ≤ a ∨ 120000 ≤ b) →
    exec .engineThermalPause s =
      .next (settled s (note 0x0718 [1, a, b] (onEngine (fun e => { e with st := 4, intervalAt := none }) s)))) ∧
  (∀ s : State, (islandUp s = false ∨ s.engine.st = 4 ∨ ((tget s.power.sensors 12).raw < 120000 ∧ (tget s.power.sensors 13).raw < 120000)) →
    exec .engineThermalPause s = .next (settled s s)) ∧
  (∀ (s : State) (a b : Int), s.engine.st = 4 → a = (tget s.power.sensors 12).raw → b = (tget s.power.sensors 13).raw →
    a < 110000 → b < 110000 →
    exec .engineThermalResume s =
      .next (settled s (note 0x0718 [2, a, b] (onEngine (fun e =>
        { e with
          st := if e.capture ≠ none then 3 else 0, loopOwed := true, intervalAt := some s.sys.devTime, captureAt := s.sys.devTime }) s)))) ∧
  (∀ s : State, (s.engine.st ≠ 4 ∨ 110000 ≤ (tget s.power.sensors 12).raw ∨ 110000 ≤ (tget s.power.sensors 13).raw) →
    exec .engineThermalResume s = .next (settled s s)) ∧
  (∀ (s : State) (ws : List Sweep) (o : Org) (len fill cable : Nat) (p : PSession), s.engine.capture = some (o, len, fill, cable) →
    s.island.session = some p → s.engine.st ≠ 4 → islandUp s = true →
    exec (.airCaptureComplete ws) s =
      .next (settled s (stageCapture o p len fill cable (ws.drop 5) (loopBack (ws.take 5) s.engine.captureAt 3
        (onEngine (fun e => { e with capture := none, st := 0, intervalAt := some s.sys.devTime }) s))))) ∧
  (∀ (s : State) (ws : List Sweep), (s.engine.capture = none ∨ s.island.session = none) → s.engine.captureCut = true → islandUp s = true →
    exec (.airCaptureComplete ws) s =
      .next (settled s (loopBack (ws.take 5) s.engine.captureAt 3 (onEngine (fun e => { e with captureCut := false }) s)))) ∧
  (∀ (s : State) (ws : List Sweep), (islandUp s = false ∨ (s.engine.capture = none ∧ s.engine.captureCut = false) ∨
      (s.engine.capture ≠ none ∧ s.island.session ≠ none ∧ s.engine.st = 4)) →
    exec (.airCaptureComplete ws) s = .next (settled s s)) ∧
  (∀ (s : State) (r : Req) (e : Engine), asks 0x0701 r s = true → linkDown s = false → e = s.engine →
    exec (.mstStatus r) s =
      .next (settled s (answered 0x0701 r sOK
        (p1 (if e.st ≠ 0 then e.st else if sweeping s = false then 0 else if inLoop s then 2 else 1) ++ p1 e.calActive ++ p1 e.refState ++
          zeros 1 ++ q8 e.lastLoop ++ p4 ((e.lastLoopDev.map (fun t => 60000 - nsMs (s.sys.devTime - t))).getD 0) ++ p4 (w32 e.intervals) ++
          p1 e.excluded ++ zeros 3 ++ p4 e.lastSeq ++ zeros 4) (begun 0x0701 r s)))) ∧
  (∀ (s : State) (r : Req), asks 0x0701 r s = true → linkDown s = true →
    exec (.mstStatus r) s = .next (settled s (answered 0x0701 r sTIMEOUT [] (begun 0x0701 r s)))) ∧
  (∀ (s : State) (r : Req) (p : PSession), asks 0x0702 r s = true → linkDown s = false → (s.sys.legal = false ∨ s.island.sealPin = true) →
    s.island.session = some p → p.owner = r.side → p.queued = false → p.writing = false → s.engine.capture = none →
    s.engine.loopForced = none → 20000 ≤ g4 r.payload 0 → g4 r.payload 0 ≤ 1000000 → 1000 ≤ g2 r.payload 4 →
    g2 r.payload 4 ≤ 10000 → g2 r.payload 6 ≤ 10000 →
    exec (.mstCaptureAir r) s =
      .next (settled s (addJob { org := reqOrg 0x0702 r } (onEngine (fun e =>
        { e with
          capture := some (reqOrg 0x0702 r, g4 r.payload 0, g2 r.payload 4, g2 r.payload 6), captureAt := s.sys.devTime,
          st := if e.st = 4 then 4 else 3 })
        (setSession (some { p with lastCmd := s.sys.devTime }) (begun 0x0702 r s)))))) ∧
  (∀ (s : State) (r : Req), asks 0x0702 r s = true → linkDown s = true →
    exec (.mstCaptureAir r) s = .next (settled s (answered 0x0702 r sTIMEOUT [] (begun 0x0702 r s)))) ∧
  (∀ (s : State) (r : Req), asks 0x0702 r s = true → linkDown s = false → s.sys.legal = true → s.island.sealPin = false →
    exec (.mstCaptureAir r) s = .next (settled s (answered 0x0702 r sSEALED [] (begun 0x0702 r s)))) ∧
  (∀ (s : State) (r : Req), asks 0x0702 r s = true → linkDown s = false → (s.sys.legal = false ∨ s.island.sealPin = true) →
    (s.island.session = none ∨ (s.island.session.map (·.owner)) ≠ some r.side ∨ g4 r.payload 0 < 20000 ∨ 1000000 < g4 r.payload 0 ∨
      g2 r.payload 4 < 1000 ∨ 10000 < g2 r.payload 4 ∨ 10000 < g2 r.payload 6) →
    exec (.mstCaptureAir r) s = .next (settled s (answered 0x0702 r sBADOBJ [] (begun 0x0702 r s)))) ∧
  (∀ (s : State) (r : Req) (p : PSession), asks 0x0702 r s = true → linkDown s = false → (s.sys.legal = false ∨ s.island.sealPin = true) →
    s.island.session = some p → p.owner = r.side → 20000 ≤ g4 r.payload 0 → g4 r.payload 0 ≤ 1000000 → 1000 ≤ g2 r.payload 4 →
    g2 r.payload 4 ≤ 10000 → g2 r.payload 6 ≤ 10000 →
    (p.queued = true ∨ p.writing = true ∨ s.engine.capture ≠ none ∨ s.engine.loopForced ≠ none) →
    exec (.mstCaptureAir r) s = .next (settled s (answered 0x0702 r sBUSY [] (begun 0x0702 r s)))) ∧
  (∀ (s : State) (r : Req), asks 0x0703 r s = true → linkDown s = false → s.engine.st ≠ 4 → s.engine.capture = none →
    s.engine.loopForced = none → applicator s ≠ [] → s.engine.hasInterval = true →
    exec (.mstLoopback r) s =
      .next (settled s (addJob { org := reqOrg 0x0703 r }
        (onEngine (fun e => { e with loopForced := some (reqOrg 0x0703 r, s.sys.devTime) }) (begun 0x0703 r s))))) ∧
  (∀ (s : State) (r : Req), asks 0x0703 r s = true → linkDown s = true →
    exec (.mstLoopback r) s = .next (settled s (answered 0x0703 r sTIMEOUT [] (begun 0x0703 r s)))) ∧
  (∀ (s : State) (r : Req), asks 0x0703 r s = true → linkDown s = false → s.engine.st = 4 →
    exec (.mstLoopback r) s = .next (settled s (answered 0x0703 r sWRONGMODE [] (begun 0x0703 r s)))) ∧
  (∀ (s : State) (r : Req), asks 0x0703 r s = true → linkDown s = false → s.engine.st ≠ 4 → (s.engine.capture ≠ none ∨ s.engine.loopForced ≠ none) →
    exec (.mstLoopback r) s = .next (settled s (answered 0x0703 r sBUSY [] (begun 0x0703 r s)))) ∧
  (∀ (s : State) (r : Req), asks 0x0703 r s = true → linkDown s = false → s.engine.st ≠ 4 → s.engine.capture = none → s.engine.loopForced = none →
    (applicator s = [] ∨ s.engine.hasInterval = false) →
    exec (.mstLoopback r) s = .next (settled s (answered 0x0703 r sNOTFOUND [] (begun 0x0703 r s)))) ∧
  (∀ (s : State) (r : Req), asks 0x0704 r s = true → linkDown s = false → applicator s ≠ [] → s.engine.hasInterval = true →
    s.island.unsigned = [] → s.island.seqNext + (spectrumStarts s).length ≤ s.island.seqEnd →
    exec (.mstSpectrum r) s =
      .next (settled s (answered 0x0704 r sOK (spectrumAnswer (begun 0x0704 r s)).1 (spectrumAnswer (begun 0x0704 r s)).2))) ∧
  (∀ (s : State) (r : Req), asks 0x0704 r s = true → linkDown s = false → applicator s ≠ [] → s.engine.hasInterval = true →
    (s.island.unsigned ≠ [] ∨ s.island.seqEnd < s.island.seqNext + (spectrumStarts s).length) →
    exec (.mstSpectrum r) s = .next (settled s (askSeq (addJob { org := reqOrg 0x0704 r } (begun 0x0704 r s))))) ∧
  (∀ (s : State) (r : Req), asks 0x0704 r s = true → linkDown s = true →
    exec (.mstSpectrum r) s = .next (settled s (answered 0x0704 r sTIMEOUT [] (begun 0x0704 r s)))) ∧
  (∀ (s : State) (r : Req), asks 0x0704 r s = true → linkDown s = false → (applicator s = [] ∨ s.engine.hasInterval = false) →
    exec (.mstSpectrum r) s = .next (settled s (answered 0x0704 r sNOTFOUND [] (begun 0x0704 r s))))

/-- Weighing (R294–R316). -/
def Obligations.WeighingActs : Prop :=
  (∀ (s : State) (c : Nat) (a b : Int) (v : Bool), s.island.committedAt ≤ windowStart s c → (weighing s c = true ∨ weighStill s c = true) →
    exec (.rawSample c a b v) s =
      .next (settled s (tryInitialZero c
        (wPush c (modW c (takeRaw (if v then none else some (a - b)) s.sys.devTime) s))))) ∧
  (∀ (s u : State) (c : Nat) (a b : Int) (v : Bool), windowStart s c < s.island.committedAt → u = onIsland (fun i => { i with params := paramsAt s (windowStart s c) }) s →
    (weighing u c = true ∨ weighStill u c = true) →
    exec (.rawSample c a b v) s =
      .next (settled s (onIsland (fun i => { i with params := s.island.params }) (tryInitialZero c
        (wPush c (modW c (takeRaw (if v then none else some (a - b)) s.sys.devTime) u)))))) ∧
  (∀ (s : State) (c : Nat) (a b : Int) (v : Bool), s.island.committedAt ≤ windowStart s c → weighing s c = false → weighStill s c = false →
    exec (.rawSample c a b v) s = .next (settled s s)) ∧
  (∀ (s : State) (c cause land : Nat), (weighing s c = true ∨ weighStill s c = true) →
    ((cause = 1 ∧ (wch s c).openWire = false) ∨ (cause = 2 ∧ (wch s c).excFault = false)) →
    exec (.loadcellViolation c cause land) s =
      .next (settled s (note 0x0814 [c, cause, land] (modW c (fun w =>
        { w with
          openWire := w.openWire || cause == 1, excFault := w.excFault || cause == 2,
          faultAt := if w.openWire || w.excFault then w.faultAt else s.sys.devTime,
          cflags := if w.cycle ≠ 0 then w.cflags ||| 0x40 else w.cflags }) s)))) ∧
  (∀ (s : State) (c cause land : Nat), ((weighing s c = false ∧ weighStill s c = false) ∨ (cause ≠ 1 ∧ cause ≠ 2) ∨
      (cause = 1 ∧ (wch s c).openWire = true) ∨ (cause = 2 ∧ (wch s c).excFault = true)) →
    exec (.loadcellViolation c cause land) s = .next (settled s s)) ∧
  (∀ (s : State) (c : Nat), ((wch s c).openWire = true ∨ (wch s c).excFault = true) →
    exec (.loadcellFaultCleared c) s =
      .next (settled s (note 0x0815 [c, nsMs (s.sys.devTime - (wch s c).faultAt)]
        (modW c (fun w => { w with openWire := false, excFault := false }) s)))) ∧
  (∀ (s : State) (c : Nat), (wch s c).openWire = false → (wch s c).excFault = false →
    exec (.loadcellFaultCleared c) s = .next (settled s s)) ∧
  (∀ (s : State) (c : Nat), s.island.committedAt ≤ windowStart s c → weighing s c = true →
    exec (.massRecordPeriod c) s = .next (settled s (massRecord c 0 s))) ∧
  (∀ (s : State) (c : Nat), s.island.committedAt ≤ windowStart s c → weighStill s c = true →
    exec (.stillWeigh c) s = .next (settled s (modW c windowClears (massRecord c 0 s)))) ∧
  (∀ (s : State) (c : Nat), s.island.committedAt ≤ windowStart s c → weighing s c = false → exec (.massRecordPeriod c) s = .next (settled s s)) ∧
  (∀ (s : State) (c : Nat), s.island.committedAt ≤ windowStart s c → weighStill s c = false → exec (.stillWeigh c) s = .next (settled s s)) ∧
  (∀ (s u : State) (c : Nat), windowStart s c < s.island.committedAt → u = onIsland (fun i => { i with params := paramsAt s (windowStart s c) }) s →
    exec (.massRecordPeriod c) s =
      .next (settled s (onIsland (fun i => { i with params := s.island.params }) (if weighing u c then massRecord c 0 u else u))) ∧
    exec (.stillWeigh c) s =
      .next (settled s (onIsland (fun i => { i with params := s.island.params }) (if weighStill u c then massRecord c 0 u else u)))) ∧
  (∀ (s : State) (c : Nat) (z0 m e dt : Rat), (wch s c).z0 = some z0 → wMass s c = some m → weighing s c = true → e = (wE s c : Nat) →
    g1 (wcal s c) 34 = 1 → (wch s c).stable = true → (wch s c).tare = 0 → (wch s c).pending = none → 2 * absRat m ≤ e →
    dt = (min 1000000000 (s.sys.devTime - (wch s c).lastTrack) : Nat) / 1000000000 →
    50 * absRat ((wch s c).zeroOffset + clampRat (-(e / 2 * dt)) (e / 2 * dt) m - z0) ≤ (wMax s c : Nat) →
    exec (.zeroTrackingStep c) s =
      .next (settled s (modW c (fun w =>
        { w with
          zeroOffset := (wch s c).zeroOffset + clampRat (-(e / 2 * dt)) (e / 2 * dt) m, lastTrack := s.sys.devTime }) s))) ∧
  (∀ (s : State) (c : Nat), ((wch s c).z0 = none ∨ wMass s c = none ∨ weighing s c = false ∨ g1 (wcal s c) 34 ≠ 1 ∨
      (wch s c).stable = false ∨ (wch s c).tare ≠ 0 ∨ (wch s c).pending ≠ none ∨ (∃ m ∈ wMass s c, (wE s c : Rat) < 2 * absRat m)) →
    exec (.zeroTrackingStep c) s = .next (settled s s)) ∧
  (∀ (s : State) (c : Nat) (q : WReq), weighing s c = true → (wch s c).pending = some q → needsStable q.kind = true →
    (wch s c).stable = true →
    exec (.weighRequestSettled c) s =
      .next (settled s (answerReq c q (actReq c q.kind (if q.source = 1 then 1 else 0) s).1 (nextSeqNo s)
        (actReq c q.kind (if q.source = 1 then 1 else 0) s).2))) ∧
  (∀ (s : State) (c : Nat), (weighing s c = false ∨ (wch s c).stable = false ∨ (∀ q ∈ (wch s c).pending, needsStable q.kind = false)) →
    exec (.weighRequestSettled c) s = .next (settled s s)) ∧
  (∀ (s : State) (c : Nat) (q : WReq), weighing s c = true → (wch s c).pending = some q → needsStable q.kind = true →
    exec (.weighSettleTimeout c) s = .next (settled s (answerReq c q sTIMEOUT 0 s))) ∧
  (∀ (s : State) (c : Nat), (weighing s c = false ∨ (∀ q ∈ (wch s c).pending, needsStable q.kind = false)) →
    exec (.weighSettleTimeout c) s = .next (settled s s)) ∧
  (∀ (s : State) (c : Nat) (x : Rat), s.island.committedAt ≤ windowStart s c → weighing s c = true → (wch s c).cycle = 1 → (wch s c).next = none →
    (wch s c).stable = true → wFaultBits s c = 0 → wSignal s c = some x →
    wOver s c (wLaw s c x - (wch s c).zeroOffset) = false →
    exec (.cycleSettleEnd c) s =
      .next (settled s (cycleStore c 2 (modW c (fun w =>
        { w with
          settleMs := max w.settleMs (nsMs (s.sys.devTime - (wch s c).settleStart)),
          nextFull := some (wLaw s c x - (wch s c).zeroOffset), fullStart := some (wEnd s c - wFilter s c * 10000000) })
        (refreshTempHot s))))) ∧
  (∀ (s : State) (c t0 : Nat), weighing s c = true → ((wch s c).cycle = 1 ∧ t0 = windowStart s c ∨
      (wch s c).cycle = 3 ∧ t0 = (wch s c).fullStart.getD (windowStart s c)) → (wch s c).next = none →
    exec (.cycleSettleEnd c) s =
      .next (settled s (if t0 < s.island.committedAt then
        onIsland (fun i => { i with params := s.island.params }) (settleEnd c (onIsland (fun i => { i with params := paramsAt s t0 }) s))
        else settleEnd c s))) ∧
  (∀ (s : State) (c : Nat), (weighing s c = false ∨ ((wch s c).cycle ≠ 1 ∧ (wch s c).cycle ≠ 3) ∨ (wch s c).next ≠ none) →
    exec (.cycleSettleEnd c) s = .next (settled s s)) ∧
  (∀ (s : State) (r : Req), asks 0x0801 r s = true → linkDown s = false →
    exec (.wgtStatus r) s = .next (settled s (answered 0x0801 r sOK (wgtEntry s 1 ++ wgtEntry s 2) (begun 0x0801 r s)))) ∧
  (∀ (s : State) (r : Req), asks 0x0801 r s = true → linkDown s = true →
    exec (.wgtStatus r) s = .next (settled s (answered 0x0801 r sTIMEOUT [] (begun 0x0801 r s)))) ∧
  (∀ (s : State) (r : Req) (c : Nat), asks 0x0802 r s = true → linkDown s = false → c = g1 r.payload 0 → (c = 1 ∨ c = 2) →
    needsStable (g1 r.payload 1) = true → g2 r.payload 2 = 0 → wOn s c = true → (wch s c).pending = none →
    kindBarred s c (g1 r.payload 1) = false → ((wch s c).stable = false ∨ s.sys.mode = .still) →
    exec (.wgtRequest r) s =
      .next (settled s (answered 0x0802 r sPENDING [] (addJob { org := reqOrg 0x0802 r, a := c }
        (modW c (fun w => { w with
            pending := some { kind := g1 r.payload 1, source := 0, org := some (reqOrg 0x0802 r), since := s.sys.devTime },
            lastStatus := sPENDING, lastSource := 0 }) (begun 0x0802 r s)))))) ∧
  (∀ (s : State) (r : Req) (c : Nat), asks 0x0802 r s = true → linkDown s = false → c = g1 r.payload 0 → (c = 1 ∨ c = 2) →
    (g1 r.payload 1 = 6 ∨ g1 r.payload 1 = 7) → g2 r.payload 2 = 0 → wOn s c = true → (wch s c).pending = none →
    kindBarred s c (g1 r.payload 1) = false →
    exec (.wgtRequest r) s =
      .next (settled s (answered 0x0802 r sPENDING [] (addJob { org := reqOrg 0x0802 r, a := c }
        (modW c (fun w => { w with pending := w.pending.map (fun q => { q with org := some (reqOrg 0x0802 r) }) })
          (cycleStore c (if g1 r.payload 1 = 6 then 3 else 4) (modW c (fun w => { w with
            pending := some { kind := g1 r.payload 1, source := 0, since := s.sys.devTime },
            lastStatus := sPENDING, lastSource := 0 }) (begun 0x0802 r s)))))))) ∧
  (∀ (s u : State) (r : Req) (c k : Nat) (q : WReq), asks 0x0802 r s = true → linkDown s = false → c = g1 r.payload 0 → k = g1 r.payload 1 →
    (c = 1 ∨ c = 2) → 1 ≤ k → k ≤ 8 → k ≠ 6 → k ≠ 7 → g2 r.payload 2 = 0 → wOn s c = true → (wch s c).pending = none →
    kindBarred s c k = false → (needsStable k = true → (wch s c).stable = true ∧ s.sys.mode ≠ .still) → q = { kind := k, source := 0, since := s.sys.devTime } →
    (actReq c k 0 (begun 0x0802 r s)).1 = sOK → u = (actReq c k 0 (begun 0x0802 r s)).2 →
    exec (.wgtRequest r) s = .next (settled s (
        let no := if k = 5 then 0 else nextSeqNo s;
        answered 0x0802 r sPENDING [] (finish (reqOrg 0x0802 r) sOK (p4 no) (addJob { org := reqOrg 0x0802 r, a := c } (answerReq c q sOK no u)))))) ∧
  (∀ (s u : State) (r : Req) (c k : Nat) (q : WReq), asks 0x0802 r s = true → linkDown s = false → c = g1 r.payload 0 → k = g1 r.payload 1 →
    (c = 1 ∨ c = 2) → 1 ≤ k → k ≤ 8 → k ≠ 6 → k ≠ 7 → g2 r.payload 2 = 0 → wOn s c = true → (wch s c).pending = none →
    kindBarred s c k = false → (needsStable k = true → (wch s c).stable = true ∧ s.sys.mode ≠ .still) → q = { kind := k, source := 0, since := s.sys.devTime } →
    (actReq c k 0 (begun 0x0802 r s)).1 = sLIMIT → u = (actReq c k 0 (begun 0x0802 r s)).2 →
    exec (.wgtRequest r) s =
      .next (settled s (answered 0x0802 r sPENDING [] (addJob { org := reqOrg 0x0802 r, a := c, answer := some (sLIMIT, []) }
        (answerReq c q sLIMIT (if k = 5 then 0 else nextSeqNo s) u))))) ∧
  (∀ (s : State) (r : Req) (c : Nat), asks 0x0802 r s = true → linkDown s = false → c = g1 r.payload 0 → (c = 1 ∨ c = 2) →
    1 ≤ g1 r.payload 1 → g1 r.payload 1 ≤ 8 → g2 r.payload 2 = 0 → wOn s c = true → (wch s c).pending = none →
    kindBarred s c (g1 r.payload 1) = true →
    exec (.wgtRequest r) s =
      .next (settled s (answered 0x0802 r sWRONGMODE []
        (answerReq c { kind := g1 r.payload 1, source := 0, since := s.sys.devTime } sWRONGMODE 0 (begun 0x0802 r s))))) ∧
  (∀ (s : State) (r : Req) (c : Nat), asks 0x0802 r s = true → linkDown s = false → c = g1 r.payload 0 → (c = 1 ∨ c = 2) →
    1 ≤ g1 r.payload 1 → g1 r.payload 1 ≤ 8 → g2 r.payload 2 = 0 → wOn s c = true → (wch s c).pending ≠ none →
    exec (.wgtRequest r) s =
      .next (settled s (answered 0x0802 r sBUSY [] (note 0x0812 [c, 0, g1 r.payload 1, sBUSY]
        (modW c (fun w => { w with lastStatus := sBUSY, lastSource := 0 }) (begun 0x0802 r s)))))) ∧
  (∀ (s : State) (r : Req), asks 0x0802 r s = true → linkDown s = true →
    exec (.wgtRequest r) s = .next (settled s (answered 0x0802 r sTIMEOUT [] (begun 0x0802 r s)))) ∧
  (∀ (s : State) (r : Req), asks 0x0802 r s = true → linkDown s = false → ((g1 r.payload 0 ≠ 1 ∧ g1 r.payload 0 ≠ 2) ∨ g1 r.payload 1 = 0 ∨
    8 < g1 r.payload 1 ∨ g2 r.payload 2 ≠ 0) →
    exec (.wgtRequest r) s = .next (settled s (answered 0x0802 r sBADOBJ [] (begun 0x0802 r s)))) ∧
  (∀ (s : State) (r : Req), asks 0x0802 r s = true → linkDown s = false → (g1 r.payload 0 = 1 ∨ g1 r.payload 0 = 2) → 1 ≤ g1 r.payload 1 →
    g1 r.payload 1 ≤ 8 → g2 r.payload 2 = 0 → wOn s (g1 r.payload 0) = false →
    exec (.wgtRequest r) s = .next (settled s (answered 0x0802 r sNOTFOUND [] (begun 0x0802 r s)))) ∧
  (∀ (s : State) (r : Req) (c : Nat), asks 0x0803 r s = true → linkDown s = false → c = g1 r.payload 0 → (c = 1 ∨ c = 2) →
    g1 r.payload 1 = 0 → 100 ≤ g2 r.payload 2 → g2 r.payload 2 ≤ 10000 → wOn s c = true → (wch s c).cycle = 0 →
    exec (.wgtSignal r) s =
      .next (settled s (answered 0x0803 r sPENDING [] (addJob { org := reqOrg 0x0803 r, a := c, b := g2 r.payload 2 }
        (modW c (fun w => { w with windows := w.windows ++ [{ org := reqOrg 0x0803 r, start := s.sys.devTime }] }) (begun 0x0803 r s)))))) ∧
  (∀ (s : State) (r : Req), asks 0x0803 r s = true → linkDown s = true →
    exec (.wgtSignal r) s = .next (settled s (answered 0x0803 r sTIMEOUT [] (begun 0x0803 r s)))) ∧
  (∀ (s : State) (r : Req), asks 0x0803 r s = true → linkDown s = false → ((g1 r.payload 0 ≠ 1 ∧ g1 r.payload 0 ≠ 2) ∨ g1 r.payload 1 ≠ 0 ∨
    g2 r.payload 2 < 100 ∨ 10000 < g2 r.payload 2) →
    exec (.wgtSignal r) s = .next (settled s (answered 0x0803 r sBADOBJ [] (begun 0x0803 r s)))) ∧
  (∀ (s : State) (r : Req), asks 0x0803 r s = true → linkDown s = false → (g1 r.payload 0 = 1 ∨ g1 r.payload 0 = 2) → g1 r.payload 1 = 0 →
    100 ≤ g2 r.payload 2 → g2 r.payload 2 ≤ 10000 → wOn s (g1 r.payload 0) = false →
    exec (.wgtSignal r) s = .next (settled s (answered 0x0803 r sNOTFOUND [] (begun 0x0803 r s)))) ∧
  (∀ (s : State) (r : Req), asks 0x0803 r s = true → linkDown s = false → (g1 r.payload 0 = 1 ∨ g1 r.payload 0 = 2) → g1 r.payload 1 = 0 →
    100 ≤ g2 r.payload 2 → g2 r.payload 2 ≤ 10000 → wOn s (g1 r.payload 0) = true → (wch s (g1 r.payload 0)).cycle ≠ 0 →
    exec (.wgtSignal r) s = .next (settled s (answered 0x0803 r sBUSY [] (begun 0x0803 r s)))) ∧
  (∀ (s : State) (c : Nat) (g : SignalWin) (j : Job) (w : SigWindow) (q : Rat),
    windowEnding s c = some j →
    w = ((wch s c).windows.find? (fun x => x.org == j.org)).getD { org := j.org, start := s.sys.devTime } →
    q = (if w.n = 0 then Config.freeRat s.fresh else (w.sum : Rat) / ((2 * w.n : Nat) : Rat)) →
    exec (.wgtSignalWindowEnd c g) s =
      .next (settled s (makeRecord c 0x13 0 w.start (w.start + j.b * 1000000)
        (q4 (sField 4 (roundRat q)) ++ p4 g.sdev ++ p4 g.sense ++ p2 g.exc ++ p2 (uField 2 w.n) ++ p2 j.b ++ zeros 14)
        (modW c (fun x => { x with windows := x.windows.filter (fun y => y.org != j.org) }) (commitJob j.org
          (modJob j.org (fun x => { x with c := (w.start + (w.start + j.b * 1000000)) / 2 }) (drawn 1 s))))))) ∧
  (∀ (s : State) (c : Nat) (g : SignalWin), windowEnding s c = none →
    exec (.wgtSignalWindowEnd c g) s = .next (settled s s))

/-- Zone programme steps (R320–R345). -/
def Obligations.ZoneProgrammesStep : Prop :=
  (∀ (s : State) (z i : Nat), s.absorb.reexecuting = true → stepping s z = true →
    exec (.permissiveClear z) s = .next (settled s (onAbsorb (fun a => { a with late := a.late ++ [.step z .permissiveClear] }) s)) ∧
    exec (.deckleConfirmed z i) s = .next (settled s (onAbsorb (fun a => { a with late := a.late ++ [.step z (.deckleConfirmed i)] }) s)) ∧
    exec (.deckleCleared z i) s = .next (settled s (onAbsorb (fun a => { a with late := a.late ++ [.step z (.deckleCleared i)] }) s)) ∧
    exec (.feltStopReaction z) s = .next (settled s (onAbsorb (fun a => { a with late := a.late ++ [.step z .feltStop] }) s)) ∧
    exec (.targetTimeout z) s = .next (settled s (onAbsorb (fun a => { a with late := a.late ++ [.step z .targetTimeout] }) s)) ∧
    exec (.heatPhaseTimeout z) s = .next (settled s (onAbsorb (fun a => { a with late := a.late ++ [.step z .heatPhase] }) s)) ∧
    exec (.plenumLoopStep z) s = .next (settled s (onAbsorb (fun a => { a with late := a.late ++ [.step z .plenumLoop] }) s)) ∧
    exec (.plenumInvalidTimeout z) s = .next (settled s (onAbsorb (fun a => { a with late := a.late ++ [.step z .plenumInvalid] }) s)) ∧
    exec (.exposureStep z) s = .next (settled s (onAbsorb (fun a => { a with late := a.late ++ [.step z .exposure] }) s)) ∧
    exec (.batchPhaseTimeout z) s = .next (settled s (onAbsorb (fun a => { a with late := a.late ++ [.step z .batchPhase] }) s)) ∧
    exec (.siloEvaluation z) s = .next (settled s (onAbsorb (fun a => { a with late := a.late ++ [.step z .silo] }) s)) ∧
    exec (.weighEmptyDetect z) s = .next (settled s (onAbsorb (fun a => { a with late := a.late ++ [.step z .weighEmpty] }) s)) ∧
    exec (.weighPhaseTimeout z) s = .next (settled s (onAbsorb (fun a => { a with late := a.late ++ [.step z .weighPhase] }) s))) ∧
  (∀ (s : State) (z i : Nat), stepping s z = false →
    exec (.permissiveClear z) s = .next (settled s s) ∧
    exec (.deckleConfirmed z i) s = .next (settled s s) ∧
    exec (.deckleCleared z i) s = .next (settled s s) ∧
    exec (.feltStopReaction z) s = .next (settled s s) ∧
    exec (.targetTimeout z) s = .next (settled s s) ∧
    exec (.heatPhaseTimeout z) s = .next (settled s s) ∧
    exec (.plenumLoopStep z) s = .next (settled s s) ∧
    exec (.plenumInvalidTimeout z) s = .next (settled s s) ∧
    exec (.exposureStep z) s = .next (settled s s) ∧
    exec (.batchPhaseTimeout z) s = .next (settled s s) ∧
    exec (.siloEvaluation z) s = .next (settled s s) ∧
    exec (.weighEmptyDetect z) s = .next (settled s s) ∧
    exec (.weighPhaseTimeout z) s = .next (settled s s)) ∧
  (∀ (s : State) (z : Nat), s.absorb.reexecuting = false → stepping s z = true → permOpen s z = [] →
    exec (.permissiveClear z) s = .next (settled s (zonesEval (clearCause z 2 s)))) ∧
  (∀ (s : State) (z : Nat), s.absorb.reexecuting = false → (stepping s z = false ∨ permOpen s z ≠ []) →
    exec (.permissiveClear z) s = .next (settled s s)) ∧
  (∀ (s : State) (z i : Nat) (e : List Byte), s.absorb.reexecuting = false → stepping s z = true → i < deckleCount s z → (zone s z).deckle.getLsbD i = false →
    e = deckleEntry s z i → deckleViolated s z i = true → g1 e 2 = 1 →
    exec (.deckleConfirmed z i) s =
      .next (settled s (raiseCause z 3 (g2 e 0) (note 0x0330 [z, i, valueOf s (g2 e 0), 1] (modZone z (fun q =>
        { q with deckle := q.deckle ||| BitVec.ofNat 16 (2 ^ i), deckleAt := tset q.deckleAt i s.sys.devTime }) s))))) ∧
  (∀ (s u : State) (z i : Nat) (e : List Byte), s.absorb.reexecuting = false → stepping s z = true → i < deckleCount s z →
    (zone s z).deckle.getLsbD i = false → e = deckleEntry s z i → deckleViolated s z i = true → g1 e 2 ≠ 1 →
    u = note 0x0330 [z, i, valueOf s (g2 e 0), g1 e 2] (modZone z (fun q =>
        { q with deckle := q.deckle ||| BitVec.ofNat 16 (2 ^ i), deckleAt := tset q.deckleAt i s.sys.devTime }) s) →
    exec (.deckleConfirmed z i) s = .next (settled s (if g1 e 2 = 2 then zonesEval (stopOrderly z u) else u))) ∧
  (∀ (s : State) (z i : Nat), s.absorb.reexecuting = false →
    (deckleCount s z ≤ i ∨ (zone s z).deckle.getLsbD i = true ∨ deckleViolated s z i = false) →
    exec (.deckleConfirmed z i) s = .next (settled s s)) ∧
  (∀ (s u : State) (z i : Nat), s.absorb.reexecuting = false → stepping s z = true → (zone s z).deckle.getLsbD i = true → deckleInside s z i = true →
    u = note 0x0331 [z, i, nsMs (s.sys.devTime - tget (zone s z).deckleAt i)]
      (modZone z (fun q => { q with deckle := q.deckle &&& ~~~(BitVec.ofNat 16 (2 ^ i)), deckleAt := tdel q.deckleAt i }) s) →
    (List.range 16).any (fun j => (zone u z).deckle.getLsbD j && g1 (deckleEntry u z j) 2 == 1) = false →
    exec (.deckleCleared z i) s = .next (settled s (zonesEval (clearCause z 3 u)))) ∧
  (∀ (s u : State) (z i : Nat), s.absorb.reexecuting = false → stepping s z = true → (zone s z).deckle.getLsbD i = true →
    deckleInside s z i = true →
    u = note 0x0331 [z, i, nsMs (s.sys.devTime - tget (zone s z).deckleAt i)]
      (modZone z (fun q => { q with deckle := q.deckle &&& ~~~(BitVec.ofNat 16 (2 ^ i)), deckleAt := tdel q.deckleAt i }) s) →
    (List.range 16).any (fun j => (zone u z).deckle.getLsbD j && g1 (deckleEntry u z j) 2 == 1) = true →
    exec (.deckleCleared z i) s = .next (settled s u)) ∧
  (∀ (s : State) (z i : Nat), s.absorb.reexecuting = false → ((zone s z).deckle.getLsbD i = false ∨ deckleInside s z i = false) →
    exec (.deckleCleared z i) s = .next (settled s s)) ∧
  (∀ (s : State) (z : Nat), s.absorb.reexecuting = false → stepping s z = true → (zone s z).st = 2 → stopMs s z ≠ 0 → (felt s (zoneFelt s z)).state.getLsbD 1 = true →
    exec (.feltStopReaction z) s = .next (settled s (
      if stopAction s z = 1 then raiseCause z 8 0xFFFF (note 0x0340 [z, stopAction s z] s)
      else if stopAction s z = 2 then zonesEval (stopOrderly z (note 0x0340 [z, stopAction s z] s))
      else note 0x0340 [z, stopAction s z] s))) ∧
  (∀ (s : State) (z : Nat), s.absorb.reexecuting = false → ((zone s z).st ≠ 2 ∨ stopMs s z = 0 ∨ (felt s (zoneFelt s z)).state.getLsbD 1 = false) →
    exec (.feltStopReaction z) s = .next (settled s s)) ∧
  (∀ (s : State) (z : Nat), s.absorb.reexecuting = false → stepping s z = true → (zone s z).st = 2 → zoneProg s z = 1 → g4 (zp s z) 28 ≠ 0 →
    exec (.targetTimeout z) s = .next (settled s (raiseCause z 7 0xFFFF s))) ∧
  (∀ (s : State) (z : Nat), s.absorb.reexecuting = false → ((zone s z).st ≠ 2 ∨ zoneProg s z ≠ 1 ∨ g4 (zp s z) 28 = 0) →
    exec (.targetTimeout z) s = .next (settled s s)) ∧
  (∀ (s : State) (z : Nat), s.absorb.reexecuting = false → stepping s z = true → hasHeat s z = true → (zone s z).phase = 2 → inputOn s (zFlame s z) = false →
    exec (.heatPhaseTimeout z) s =
      .next (settled s (raiseCause z 4 (zFlame s z) (note 0x0322 [z, 2] (burnerTo z false s))))) ∧
  (∀ (s : State) (z n m : Nat), s.absorb.reexecuting = false → stepping s z = true → hasHeat s z = true → (zone s z).phase = 1 →
    (zProofs s z).find? (fun p => !inputOn s p.2) = some (n, m) →
    exec (.heatPhaseTimeout z) s = .next (settled s (raiseCause z 5 n (note 0x0321 [z, n] s)))) ∧
  (∀ (s : State) (z : Nat), s.absorb.reexecuting = false → (hasHeat s z = false ∨ (zone s z).phase = 0 ∨ (zone s z).phase = 4 ∨
      (zone s z).phase = 7 ∨ 8 < (zone s z).phase ∨ ((zone s z).phase = 1 ∧ ∀ p ∈ zProofs s z, inputOn s p.2 = true) ∨
      ((zone s z).phase = 2 ∧ inputOn s (zFlame s z) = true)) →
    exec (.heatPhaseTimeout z) s = .next (settled s s)) ∧
  (∀ (s : State) (z : Nat), s.absorb.reexecuting = false → stepping s z = true → hasHeat s z = true → (zone s z).phase = 3 →
    exec (.heatPhaseTimeout z) s =
      .next (settled s (zonesEval (if zoneType s z = 2 ∧ (zone s z).st = 1 then batchRun z s else enterPhase z 2 4 s)))) ∧
  (∀ (s : State) (z : Nat), s.absorb.reexecuting = false → stepping s z = true → hasHeat s z = true → (zone s z).phase = 5 →
    exec (.heatPhaseTimeout z) s = .next (settled s (zonesEval (enterPhase z (zone s z).st (if zoneType s z = 2 then 8 else 6) s)))) ∧
  (∀ (s : State) (z : Nat), s.absorb.reexecuting = false → stepping s z = true → hasHeat s z = true → (zone s z).phase = 6 →
    exec (.heatPhaseTimeout z) s = .next (settled s (zonesEval (goIdle z 0 s)))) ∧
  (∀ (s : State) (z : Nat), s.absorb.reexecuting = false → stepping s z = true → hasHeat s z = true → (zone s z).phase = 8 →
    exec (.heatPhaseTimeout z) s =
      .next (settled s (zonesEval (if (zone s z).st = 3 then goIdle z 0 s else enterPhase z (zone s z).st 9 s)))) ∧
  (∀ (s u : State) (z ns : Nat) (tp : Int), s.absorb.reexecuting = false → stepping s z = true → hasHeat s z = true → (zone s z).st = 2 → (zone s z).phase = 4 →
    ns = lawNs 100000000 s.sys.devTime false (zone s z).loopLast → target s z 2 = none → plenumVal s z = some tp → zoneProg s z ≠ 1 →
    u = plenumLaw z tp ns s →
    exec (.plenumLoopStep z) s = .next (settled s (
      let v := modZone z (fun q =>
        { q with
          loopLast := some (s.sys.devTime, false),
          batch := if (highFire s z : Int) ≤ q.heat.u then { q.batch with highFireMs := q.batch.highFireMs + ns / 1000000 } else q.batch }) u;
      if zoneType s z = 1 then columnTrim z ns v else v))) ∧
  (∀ (s : State) (z ns : Nat) (ua : Int), s.absorb.reexecuting = false → stepping s z = true → hasHeat s z = true → (zone s z).st = 2 → (zone s z).phase = 4 →
    ns = lawNs 100000000 s.sys.devTime false (zone s z).loopLast → target s z 2 = some ua →
    exec (.plenumLoopStep z) s = .next (settled s (
      let v := modZone z (fun q =>
        { q with
          loopLast := some (s.sys.devTime, false),
          batch := if (highFire s z : Int) ≤ q.heat.u then { q.batch with highFireMs := q.batch.highFireMs + ns / 1000000 } else q.batch })
        (valveTo z (ua : Int) s);
      if zoneType s z = 1 then columnTrim z ns v else v))) ∧
  (∀ (s : State) (z ns : Nat), s.absorb.reexecuting = false → stepping s z = true → hasHeat s z = true → (zone s z).st = 2 → (zone s z).phase = 4 →
    ns = lawNs 100000000 s.sys.devTime false (zone s z).loopLast → target s z 2 = none → (plenumVal s z = none ∨ zoneProg s z = 1) →
    exec (.plenumLoopStep z) s = .next (settled s (
      let v := modZone z (fun q =>
        { q with
          loopLast := some (s.sys.devTime, false),
          batch := if (highFire s z : Int) ≤ q.heat.u then { q.batch with highFireMs := q.batch.highFireMs + ns / 1000000 } else q.batch })
        (if plenumVal s z = none ∧ (zone s z).heat.plenumHeld = true then valveTo z (lowFire s z : Int) s else s);
      if zoneType s z = 1 then columnTrim z ns v else v))) ∧
  (∀ (s : State) (z : Nat), s.absorb.reexecuting = false → (hasHeat s z = false ∨ (zone s z).st ≠ 2 ∨ (zone s z).phase ≠ 4) →
    exec (.plenumLoopStep z) s = .next (settled s s) ∧ exec (.plenumInvalidTimeout z) s = .next (settled s s)) ∧
  (∀ (s : State) (z : Nat), s.absorb.reexecuting = false → (plenumVal s z ≠ none ∨ zoneProg s z = 1 ∨ (zone s z).heat.plenumHeld = true) →
    exec (.plenumInvalidTimeout z) s = .next (settled s s)) ∧
  (∀ (s : State) (z : Nat), s.absorb.reexecuting = false → stepping s z = true → hasHeat s z = true → (zone s z).st = 2 → (zone s z).phase = 4 →
    plenumVal s z = none → zoneProg s z ≠ 1 → (zone s z).heat.plenumHeld = false →
    exec (.plenumInvalidTimeout z) s =
      .next (settled s (note 0x0323 [z, plenumStn s z]
        (valveTo z (lowFire s z : Int) (modZone z (fun q => { q with heat := { q.heat with plenumHeld := true } }) s))))) ∧
  (∀ (s : State) (z ns : Nat) (tp : Int), s.absorb.reexecuting = false → stepping s z = true → zoneType s z = 1 → plenumVal s z = some tp →
    ns = lawNs 1000000000 s.sys.devTime false (zone s z).expLast →
    exec (.exposureStep z) s =
      .next (settled s (modParcels z (fun p =>
        if 0 < posDist (zonePos s z) (p.start + g4 (zb s z) 80)
        then { p with exposure := p.exposure + max 0 (((tp - i4 (zb s z) 100 : Int) : Rat) / 1000) * ((ns : Rat) / 3600000000000) } else p)
        (modZone z (fun q => { q with expLast := some (s.sys.devTime, false) }) s)))) ∧
  (∀ (s : State) (z : Nat), s.absorb.reexecuting = false → stepping s z = true → zoneType s z = 1 → plenumVal s z = none →
    exec (.exposureStep z) s = .next (settled s (modZone z (fun q => { q with expLast := some (s.sys.devTime, false) }) s))) ∧
  (∀ (s : State) (z : Nat), s.absorb.reexecuting = false → zoneType s z ≠ 1 →
    exec (.exposureStep z) s = .next (settled s s)) ∧
  (∀ (s : State) (z : Nat), s.absorb.reexecuting = false → stepping s z = true → zoneType s z = 2 → (zone s z).st = 2 → (zone s z).phase = 7 →
    exec (.batchPhaseTimeout z) s = .next (settled s (raiseCause z 6 (g2 (zb s z) 66) s))) ∧
  (∀ (s : State) (z : Nat), s.absorb.reexecuting = false → stepping s z = true → zoneType s z = 2 → (zone s z).st = 2 → (zone s z).phase = 4 →
    exec (.batchPhaseTimeout z) s = .next (settled s (zonesEval (enterPhase z 2 5 (note 0x0332 [z, valueOf s (g2 (zb s z) 72)] s))))) ∧
  (∀ (s : State) (z : Nat), s.absorb.reexecuting = false → stepping s z = true → zoneType s z = 2 → (zone s z).st = 2 → (zone s z).phase = 8 →
    exec (.batchPhaseTimeout z) s = .next (settled s (zonesEval (enterPhase z 2 9 s)))) ∧
  (∀ (s : State) (z : Nat), s.absorb.reexecuting = false → stepping s z = true → zoneType s z = 2 → (zone s z).st = 2 → (zone s z).phase = 9 →
    exec (.batchPhaseTimeout z) s = .next (settled s (raiseCause z 6 (g2 (zb s z) 70) s))) ∧
  (∀ (s : State) (z : Nat), s.absorb.reexecuting = false → (zoneType s z ≠ 2 ∨ (zone s z).st ≠ 2 ∨ ((zone s z).phase ≠ 4 ∧ (zone s z).phase ≠ 7 ∧ (zone s z).phase ≠ 8 ∧
      (zone s z).phase ≠ 9)) →
    exec (.batchPhaseTimeout z) s = .next (settled s s)) ∧
  (∀ (s : State) (z : Nat) (vs hots : List (Nat × Nat × Int)) (mean : Rat), s.absorb.reexecuting = false → stepping s z = true →
    zoneType s z = 3 → (zone s z).st = 2 →
    vs = siloValid s z → vs ≠ [] → hots = vs.filter (fun x => hotCause s z vs x != 0) →
    mean = ((vs.map (fun x => x.2.2)).sum : Int) / (vs.length : Nat) →
    exec (.siloEvaluation z) s =
      .next (settled s (
        let top := vs.foldl (fun a x => if x.2.2 > a.2.2 then x else a) (vs.headD (0, 0, invalidValue));
        let news := hots.filter (fun x => !(zone s z).silo.hotSeen.contains x.1);
        let keep := fun (l : List (Nat × Int)) =>
          l.filter (fun p => s.sys.devTime < p.1 + 86400000000000) ++
            (l.filter (fun p => !(s.sys.devTime < p.1 + 86400000000000))).take 1;
        siloAerate z (some mean) (modZone z (fun q =>
          { q with
            silo := { q.silo with
              hot := hots.map (·.1), hotSeen := q.silo.hotSeen ++ news.map (·.1),
              past := vs.foldl (fun t x => tmod t x.1 (fun l => keep ((s.sys.devTime, x.2.2) :: l))) q.silo.past,
              mean := roundRat mean, hottest := top.2.2, hottestIdx := top.1 } })
          (siloCount z (news.foldl (fun t x => note 0x0350 [z, x.1, hotCause s z vs x, x.2.2] t) s)))))) ∧
  (∀ (s : State) (z : Nat), s.absorb.reexecuting = false → stepping s z = true → zoneType s z = 3 → (zone s z).st = 2 → siloValid s z = [] →
    exec (.siloEvaluation z) s =
      .next (settled s (siloAerate z none (modZone z (fun q =>
          { q with silo := { q.silo with hot := [], mean := invalidValue, hottest := invalidValue, hottestIdx := 0 } }) (siloCount z s))))) ∧
  (∀ (s : State) (z : Nat), s.absorb.reexecuting = false → (zoneType s z ≠ 3 ∨ (zone s z).st ≠ 2) →
    exec (.siloEvaluation z) s = .next (settled s s)) ∧
  (∀ (s : State) (z : Nat) (g : Int), s.absorb.reexecuting = false → stepping s z = true → zoneType s z = 5 → (zone s z).st = 2 → (zone s z).phase = 3 →
    (zone s z).weigh.disOn = true → weighGross s z = some g → g ≤ i4 (zb s z) 16 →
    exec (.weighEmptyDetect z) s =
      .next (settled s (zonesEval (modZone z (fun q =>
        { q with weigh := { q.weigh with disOn := false, proving := some s.sys.devTime } }) (driveAny (g2 (zb s z) 4) 0 s))))) ∧
  (∀ (s : State) (z : Nat), s.absorb.reexecuting = false → (zoneType s z ≠ 5 ∨ (zone s z).st ≠ 2 ∨ (zone s z).phase ≠ 3 ∨ (zone s z).weigh.disOn = false ∨
      (∀ g ∈ weighGross s z, i4 (zb s z) 16 < g)) →
    exec (.weighEmptyDetect z) s = .next (settled s s)) ∧
  (∀ (s : State) (z : Nat), s.absorb.reexecuting = false → stepping s z = true → zoneType s z = 5 →
    ((zone s z).st = 1 ∨ (zone s z).st = 2 ∧ ((zone s z).phase = 1 ∨ (zone s z).phase = 3)) →
    exec (.weighPhaseTimeout z) s = .next (settled s (raiseCause z 6 0xFFFF s))) ∧
  (∀ (s : State) (z : Nat), s.absorb.reexecuting = false → (zoneType s z ≠ 5 ∨ ((zone s z).st ≠ 1 ∧ ¬ ((zone s z).st = 2 ∧ ((zone s z).phase = 1 ∨ (zone s z).phase = 3)))) →
    exec (.weighPhaseTimeout z) s = .next (settled s s))

/-- Zone commands (R319, R345–R348). -/
def Obligations.ZoneCommandsAct : Prop :=
  (∀ (s : State) (r : Req) (z : Nat), asks 0x0301 r s = true → z = g1 r.payload 0 → z ≤ 15 → zeroAt r.payload 1 3 = true →
    zonePresent s z = true → permOpen s z = [] → (zone s z).st = 0 →
    exec (.zoneStart r) s =
      .next (settled s (answered 0x0301 r sOK [] (zonesEval (startZone z (modZone z (fun q => { q with stopAsked := false })
        (onPower (fun p => { p with noAutostart := p.noAutostart.filter (· != z) }) (begun 0x0301 r s)))))))) ∧
  (∀ (s : State) (r : Req) (z : Nat), asks 0x0301 r s = true → z = g1 r.payload 0 → z ≤ 15 → zeroAt r.payload 1 3 = true →
    zonePresent s z = true → permOpen s z = [] → (zone s z).st = 4 → (zone s z).causes ≠ 0 → (zone s z).causes &&& unlatched = 0 →
    exec (.zoneStart r) s =
      .next (settled s (answered 0x0301 r sOK [] (zonesEval (startSeq z (modZone z (fun q => { q with stopAsked := false })
        (onPower (fun p => { p with noAutostart := p.noAutostart.filter (· != z) }) (begun 0x0301 r s)))))))) ∧
  (∀ (s : State) (r : Req), asks 0x0301 r s = true → g1 r.payload 0 ≤ 15 → zeroAt r.payload 1 3 = true →
    zonePresent s (g1 r.payload 0) = true → (permOpen s (g1 r.payload 0) ≠ [] ∨ ((zone s (g1 r.payload 0)).st ≠ 0 ∧
      ((zone s (g1 r.payload 0)).st ≠ 4 ∨ (zone s (g1 r.payload 0)).causes = 0 ∨ (zone s (g1 r.payload 0)).causes &&& unlatched ≠ 0))) →
    exec (.zoneStart r) s = .next (settled s (answered 0x0301 r sWRONGMODE [] (begun 0x0301 r s)))) ∧
  (∀ (s : State) (r : Req), asks 0x0301 r s = true → (15 < g1 r.payload 0 ∨ zeroAt r.payload 1 3 = false) →
    exec (.zoneStart r) s = .next (settled s (answered 0x0301 r sBADOBJ [] (begun 0x0301 r s)))) ∧
  (∀ (s : State) (r : Req), asks 0x0301 r s = true → g1 r.payload 0 ≤ 15 → zeroAt r.payload 1 3 = true → zonePresent s (g1 r.payload 0) = false →
    exec (.zoneStart r) s = .next (settled s (answered 0x0301 r sNOTFOUND [] (begun 0x0301 r s)))) ∧
  (∀ (s : State) (r : Req), asks 0x0302 r s = true → g1 r.payload 0 ≤ 15 → g1 r.payload 1 = 1 → zeroAt r.payload 2 2 = true →
    zonePresent s (g1 r.payload 0) = true →
    exec (.zoneStop r) s = .next (settled s (answered 0x0302 r sOK [] (stopNow (g1 r.payload 0) (begun 0x0302 r s))))) ∧
  (∀ (s : State) (r : Req), asks 0x0302 r s = true → g1 r.payload 0 ≤ 15 → g1 r.payload 1 = 0 → zeroAt r.payload 2 2 = true →
    zonePresent s (g1 r.payload 0) = true →
    exec (.zoneStop r) s =
      .next (settled s (answered 0x0302 r sOK [] (zonesEval (stopOrderly (g1 r.payload 0) (begun 0x0302 r s)))))) ∧
  (∀ (s : State) (r : Req), asks 0x0302 r s = true → (15 < g1 r.payload 0 ∨ 1 < g1 r.payload 1 ∨ zeroAt r.payload 2 2 = false) →
    exec (.zoneStop r) s = .next (settled s (answered 0x0302 r sBADOBJ [] (begun 0x0302 r s)))) ∧
  (∀ (s : State) (r : Req), asks 0x0302 r s = true → g1 r.payload 0 ≤ 15 → g1 r.payload 1 ≤ 1 → zeroAt r.payload 2 2 = true →
    zonePresent s (g1 r.payload 0) = false →
    exec (.zoneStop r) s = .next (settled s (answered 0x0302 r sNOTFOUND [] (begun 0x0302 r s)))) ∧
  (∀ (s : State) (r : Req) (z : Nat) (q : Zone), asks 0x0303 r s = true → z = g1 r.payload 0 → z ≤ 15 → zeroAt r.payload 1 3 = true →
    zonePresent s z = true → q = zone s z →
    exec (.zoneStatus r) s =
      .next (settled s (answered 0x0303 r sOK
        (p1 q.st ++ p1 q.phase ++ p2 q.causes.toNat ++ p1 (zoneType s z) ++ p1 (zoneFelt s z) ++ p2 q.deckle.toNat ++
          p4 (parcels s z).length ++ p4 q.lastParcel ++ (zoneValues s z).flatMap (fun v => q4 (sField 4 v)) ++ q8 q.since)
        (begun 0x0303 r s)))) ∧
  (∀ (s : State) (r : Req), asks 0x0303 r s = true → (15 < g1 r.payload 0 ∨ zeroAt r.payload 1 3 = false) →
    exec (.zoneStatus r) s = .next (settled s (answered 0x0303 r sBADOBJ [] (begun 0x0303 r s)))) ∧
  (∀ (s : State) (r : Req), asks 0x0303 r s = true → g1 r.payload 0 ≤ 15 → zeroAt r.payload 1 3 = true → zonePresent s (g1 r.payload 0) = false →
    exec (.zoneStatus r) s = .next (settled s (answered 0x0303 r sNOTFOUND [] (begun 0x0303 r s)))) ∧
  (∀ (s : State) (r : Req) (z : Nat), asks 0x0304 r s = true → z = g1 r.payload 0 → z ≤ 15 → zonePresent s z = true →
    g1 r.payload 1 ≠ 0 → targetFor s z (g1 r.payload 1) = true → g2 r.payload 2 = 0xFFFF → zoneProg s z ≠ 0 → r.side = .app →
    (zone s z).st ≠ 0 → targetInRange s z (g1 r.payload 1) 0xFFFF (i4 r.payload 4) = true →
    exec (.zoneTarget r) s =
      .next (settled s (answered 0x0304 r sOK [] (zonesEval (modZone z (fun q =>
        { q with targets := tset q.targets (g1 r.payload 1) (i4 r.payload 4) }) (begun 0x0304 r s)))))) ∧
  (∀ (s : State) (r : Req) (z n : Nat), asks 0x0304 r s = true → z = g1 r.payload 0 → z ≤ 15 → zonePresent s z = true →
    g1 r.payload 1 = 0 → zoneType s z = 6 → n = g2 r.payload 2 → n < 128 → stnZone s n = z →
    (isFieldOut s n = true ∨ isLoopOut s n = true ∨ isProp s n = true) → zoneProg s z ≠ 0 → r.side = .app → (zone s z).st = 2 →
    targetInRange s z 0 n (i4 r.payload 4) = true →
    exec (.zoneTarget r) s =
      .next (settled s (answered 0x0304 r sOK [] (zonesEval (modFld n (fun f => { f with commander := some .app })
        (driveAny n (i4 r.payload 4) (modZone z (fun q => { q with targets := q.targets }) (begun 0x0304 r s)))))))) ∧
  (∀ (s : State) (r : Req) (z : Nat), asks 0x0304 r s = true → z = g1 r.payload 0 → z ≤ 15 → zonePresent s z = true →
    (targetFor s z (g1 r.payload 1) = false ∨ (g1 r.payload 1 ≠ 0 ∧ g2 r.payload 2 ≠ 0xFFFF) ∨ (g1 r.payload 1 = 0 ∧
      (128 ≤ g2 r.payload 2 ∨ stnZone s (g2 r.payload 2) ≠ z ∨ (isFieldOut s (g2 r.payload 2) = false ∧
        isLoopOut s (g2 r.payload 2) = false ∧ isProp s (g2 r.payload 2) = false)))) →
    exec (.zoneTarget r) s = .next (settled s (answered 0x0304 r sBADOBJ [] (begun 0x0304 r s)))) ∧
  (∀ (s : State) (r : Req) (z : Nat), asks 0x0304 r s = true → z = g1 r.payload 0 → z ≤ 15 → zonePresent s z = true →
    targetFor s z (g1 r.payload 1) = true → (g1 r.payload 1 ≠ 0 → g2 r.payload 2 = 0xFFFF) →
    (g1 r.payload 1 = 0 → g2 r.payload 2 < 128 ∧ stnZone s (g2 r.payload 2) = z ∧ (isFieldOut s (g2 r.payload 2) = true ∨
      isLoopOut s (g2 r.payload 2) = true ∨ isProp s (g2 r.payload 2) = true)) →
    (zoneProg s z = 0 ∨ r.side ≠ .app ∨ (zone s z).st = 0 ∨ (g1 r.payload 1 = 0 ∧ (zone s z).st ≠ 2)) →
    exec (.zoneTarget r) s = .next (settled s (answered 0x0304 r sWRONGMODE [] (begun 0x0304 r s)))) ∧
  (∀ (s : State) (r : Req) (z : Nat), asks 0x0304 r s = true → z = g1 r.payload 0 → z ≤ 15 → zonePresent s z = true →
    targetFor s z (g1 r.payload 1) = true → (g1 r.payload 1 ≠ 0 → g2 r.payload 2 = 0xFFFF) →
    (g1 r.payload 1 = 0 → g2 r.payload 2 < 128 ∧ stnZone s (g2 r.payload 2) = z ∧ (isFieldOut s (g2 r.payload 2) = true ∨
      isLoopOut s (g2 r.payload 2) = true ∨ isProp s (g2 r.payload 2) = true)) →
    zoneProg s z ≠ 0 → r.side = .app → (zone s z).st ≠ 0 → (g1 r.payload 1 = 0 → (zone s z).st = 2) →
    targetInRange s z (g1 r.payload 1) (g2 r.payload 2) (i4 r.payload 4) = false →
    exec (.zoneTarget r) s = .next (settled s (answered 0x0304 r sLIMIT [] (begun 0x0304 r s)))) ∧
  (∀ (s : State) (r : Req), asks 0x0304 r s = true → 15 < g1 r.payload 0 →
    exec (.zoneTarget r) s = .next (settled s (answered 0x0304 r sBADOBJ [] (begun 0x0304 r s)))) ∧
  (∀ (s : State) (r : Req), asks 0x0304 r s = true → g1 r.payload 0 ≤ 15 → zonePresent s (g1 r.payload 0) = false →
    exec (.zoneTarget r) s = .next (settled s (answered 0x0304 r sNOTFOUND [] (begun 0x0304 r s))))

/-- Configuration transactions (R110–R129). -/
def Obligations.ConfigurationCommandsAct : Prop :=
  (∀ (s : State) (r : Req) (os : List Obj), asks 0x0101 r s = true → s.cfg.txn = none →
    os = (if s.sys.mode = .commission then s.cfg.salvage.getD s.cfg.active else s.cfg.active) →
    exec (.cfgOpen r) s =
      .next (settled s (answered 0x0101 r sOK (p4 s.cfg.generation ++ p1 (if s.sys.mode = .commission then 0 else 1) ++ zeros 3)
        (ownerSeen r.side (onCfg (fun c =>
          { c with
            salvage := none,
            txn := some { owner := r.side, full := decide (s.sys.mode = .commission), baseGen := s.cfg.generation, objs := os,
                          lastCmd := s.sys.devTime } }) (begun 0x0101 r s)))))) ∧
  (∀ (s : State) (r : Req), asks 0x0101 r s = true → s.cfg.txn ≠ none →
    exec (.cfgOpen r) s = .next (settled s (answered 0x0101 r sBUSY [] (ownerSeen r.side (begun 0x0101 r s))))) ∧
  (∀ (s : State) (r : Req) (t : Txn) (o : Obj), asks 0x0102 r s = true → s.cfg.txn = some t → t.owner = r.side → fixed t = false →
    o = { kind := g1 r.payload 0, index := g2 r.payload 2, format := g2 r.payload 4, flags := g2 r.payload 6, body := r.payload.drop 16 } →
    g4 r.payload 8 = o.body.length → o.index < indices o.kind → g1 r.payload 1 = 0 → o.flags ≤ 1 → o.format = formatOf o.kind →
    (g4 r.payload 12 = 0 ∨ g4 r.payload 12 = t.baseGen) → (t.full = true ∨ liveChange s.cfg.active o = true) →
    exec (.cfgWriteObject r) s =
      .next (settled s (answered 0x0102 r sOK [] (ownerSeen r.side (modTxn (fun t => { t with objs := putObj o t.objs }) (begun 0x0102 r s)))))) ∧
  (∀ (s : State) (r : Req), asks 0x0102 r s = true → (s.cfg.txn.map (·.owner)) ≠ some r.side →
    exec (.cfgWriteObject r) s = .next (settled s (answered 0x0102 r sBADOBJ [] (ownerSeen r.side (begun 0x0102 r s))))) ∧
  (∀ (s : State) (r : Req), asks 0x0103 r s = true → (s.cfg.txn.map (·.owner)) ≠ some r.side →
    exec (.cfgCommit r) s = .next (settled s (answered 0x0103 r sBADOBJ [] (ownerSeen r.side (begun 0x0103 r s))))) ∧
  (∀ (s : State) (r : Req), asks 0x0104 r s = true → (s.cfg.txn.map (·.owner)) ≠ some r.side →
    exec (.cfgDiscard r) s = .next (settled s (answered 0x0104 r sBADOBJ [] (ownerSeen r.side (begun 0x0104 r s))))) ∧
  (∀ (s : State) (r : Req), asks 0x0107 r s = true → (s.cfg.txn.map (·.owner)) ≠ some r.side →
    exec (.cfgImport r) s = .next (settled s (answered 0x0107 r sBADOBJ [] (ownerSeen r.side (begun 0x0107 r s))))) ∧
  (∀ (s : State) (r : Req), asks 0x0108 r s = true → (s.cfg.txn.map (·.owner)) ≠ some r.side →
    exec (.cfgDeleteObject r) s = .next (settled s (answered 0x0108 r sBADOBJ [] (ownerSeen r.side (begun 0x0108 r s))))) ∧
  (∀ (s : State) (r : Req) (t : Txn), asks 0x0102 r s = true → s.cfg.txn = some t → t.owner = r.side → fixed t = true →
    exec (.cfgWriteObject r) s = .next (settled s (answered 0x0102 r sBUSY [] (ownerSeen r.side (begun 0x0102 r s))))) ∧
  (∀ (s : State) (r : Req) (t : Txn), asks 0x0107 r s = true → s.cfg.txn = some t → t.owner = r.side → fixed t = true →
    exec (.cfgImport r) s = .next (settled s (answered 0x0107 r sBUSY [] (ownerSeen r.side (begun 0x0107 r s))))) ∧
  (∀ (s : State) (r : Req) (t : Txn), asks 0x0108 r s = true → s.cfg.txn = some t → t.owner = r.side → fixed t = true →
    exec (.cfgDeleteObject r) s = .next (settled s (answered 0x0108 r sBUSY [] (ownerSeen r.side (begun 0x0108 r s))))) ∧
  (∀ (s : State) (r : Req) (t : Txn), asks 0x0103 r s = true → s.cfg.txn = some t → t.owner = r.side → fixed t = true →
    exec (.cfgCommit r) s = .next (settled s (answered 0x0103 r sBUSY (zeros 8 ++ p4 s.cfg.generation) (ownerSeen r.side (begun 0x0103 r s))))) ∧
  (∀ (s : State) (r : Req) (t : Txn), asks 0x0104 r s = true → s.cfg.txn = some t → t.owner = r.side → t.committing = true →
    exec (.cfgDiscard r) s = .next (settled s (answered 0x0104 r sBUSY [] (ownerSeen r.side (begun 0x0104 r s))))) ∧
  (∀ (s : State) (r : Req) (t : Txn), asks 0x0102 r s = true → s.cfg.txn = some t → t.owner = r.side → fixed t = false → g4 r.payload 8 ≠ (r.payload.drop 16).length →
    exec (.cfgWriteObject r) s = .next (settled s (answered 0x0102 r sBADLEN [] (ownerSeen r.side (begun 0x0102 r s))))) ∧
  (∀ (s : State) (r : Req) (t : Txn), asks 0x0102 r s = true → s.cfg.txn = some t → t.owner = r.side → fixed t = false →
    g4 r.payload 8 = (r.payload.drop 16).length → (indices (g1 r.payload 0) ≤ g2 r.payload 2 ∨ g1 r.payload 1 ≠ 0 ∨ 1 < g2 r.payload 6 ∨
      formatOf (g1 r.payload 0) < g2 r.payload 4) →
    exec (.cfgWriteObject r) s = .next (settled s (answered 0x0102 r sBADOBJ [] (ownerSeen r.side (begun 0x0102 r s))))) ∧
  (∀ (s : State) (r : Req) (t : Txn), asks 0x0102 r s = true → s.cfg.txn = some t → t.owner = r.side → fixed t = false →
    g4 r.payload 8 = (r.payload.drop 16).length → g2 r.payload 2 < indices (g1 r.payload 0) → g1 r.payload 1 = 0 → g2 r.payload 6 ≤ 1 →
    (g2 r.payload 4 < formatOf (g1 r.payload 0) ∨ (g2 r.payload 4 = formatOf (g1 r.payload 0) ∧ g4 r.payload 12 ≠ 0 ∧
      g4 r.payload 12 ≠ t.baseGen)) →
    exec (.cfgWriteObject r) s = .next (settled s (answered 0x0102 r sSTALE [] (ownerSeen r.side (begun 0x0102 r s))))) ∧
  (∀ (s : State) (r : Req) (t : Txn) (o : Obj), asks 0x0102 r s = true → s.cfg.txn = some t → t.owner = r.side → fixed t = false →
    o = { kind := g1 r.payload 0, index := g2 r.payload 2, format := g2 r.payload 4, flags := g2 r.payload 6, body := r.payload.drop 16 } →
    g4 r.payload 8 = o.body.length → o.index < indices o.kind → g1 r.payload 1 = 0 → o.flags ≤ 1 → o.format = formatOf o.kind →
    (g4 r.payload 12 = 0 ∨ g4 r.payload 12 = t.baseGen) → t.full = false → liveChange s.cfg.active o = false →
    exec (.cfgWriteObject r) s = .next (settled s (answered 0x0102 r sWRONGMODE [] (ownerSeen r.side (begun 0x0102 r s))))) ∧
  (∀ (s : State) (r : Req) (t : Txn) (f : Fail), asks 0x0103 r s = true → s.cfg.txn = some t → t.owner = r.side → fixed t = false →
    validate s t = some f →
    exec (.cfgCommit r) s =
      .next (settled s (answered 0x0103 r (ruleStatus f.rule)
        (p1 f.kind ++ p1 f.rule ++ p2 f.index ++ p4 f.field ++ p4 s.cfg.generation) (ownerSeen r.side (begun 0x0103 r s))))) ∧
  (∀ (s : State) (r : Req) (t : Txn), asks 0x0103 r s = true → s.cfg.txn = some t → t.owner = r.side → fixed t = false →
    validate s t = none → canStore (.configSlot (some (reqOrg 0x0103 r))) s = true →
    exec (.cfgCommit r) s =
      .next (settled s (ownerSeen r.side (requestStore (.configSlot (some (reqOrg 0x0103 r)))
        (modTxn (fun t => { t with committing := true }) (addJob { org := reqOrg 0x0103 r } (begun 0x0103 r s))))))) ∧
  (∀ (s : State) (r : Req) (t : Txn), asks 0x0103 r s = true → s.cfg.txn = some t → t.owner = r.side → fixed t = false →
    validate s t = none → canStore (.configSlot (some (reqOrg 0x0103 r))) s = false →
    exec (.cfgCommit r) s =
      .next (settled s (answered 0x0103 r sNOENERGY (zeros 8 ++ p4 s.cfg.generation)
        (ownerSeen r.side (requestStore (.configSlot none)
          (noteBy r.side 0x0112 [sideCode r.side, energyMj s, ((3 * (50 + committedMj s) + 600) / 2 : Nat)]
            (modTxn (fun t => { t with queued := some s.sys.devTime }) (begun 0x0103 r s)))))))) ∧
  (∀ (s : State) (r : Req) (t : Txn), asks 0x0104 r s = true → s.cfg.txn = some t → t.owner = r.side → t.committing = false →
    exec (.cfgDiscard r) s =
      .next (settled s (answered 0x0104 r sOK [] (ownerSeen r.side (discardTxn 0 (begun 0x0104 r s)))))) ∧
  (∀ (s : State) (r : Req) (o : Obj), asks 0x0105 r s = true → g2 r.payload 2 < indices (g1 r.payload 0) → g1 r.payload 1 = 0 →
    objIn s.cfg.active (g1 r.payload 0) (g2 r.payload 2) = some o →
    exec (.cfgReadObject r) s =
      .next (settled s (answered 0x0105 r sOK (objBytes s.cfg.generation o) (ownerSeen r.side (begun 0x0105 r s))))) ∧
  (∀ (s : State) (r : Req) (t : Txn) (o : Obj), asks 0x0105 r s = true → g2 r.payload 2 < indices (g1 r.payload 0) → g1 r.payload 1 = 1 →
    s.cfg.txn = some t → t.owner = r.side → objIn t.objs (g1 r.payload 0) (g2 r.payload 2) = some o →
    exec (.cfgReadObject r) s =
      .next (settled s (answered 0x0105 r sOK (objBytes t.baseGen o) (ownerSeen r.side (begun 0x0105 r s))))) ∧
  (∀ (s : State) (r : Req), asks 0x0105 r s = true → (indices (g1 r.payload 0) ≤ g2 r.payload 2 ∨ 1 < g1 r.payload 1 ∨ (g1 r.payload 1 = 1 ∧ (s.cfg.txn.map (·.owner)) ≠ some r.side)) →
    exec (.cfgReadObject r) s = .next (settled s (answered 0x0105 r sBADOBJ [] (ownerSeen r.side (begun 0x0105 r s))))) ∧
  (∀ (s : State) (r : Req), asks 0x0105 r s = true → g2 r.payload 2 < indices (g1 r.payload 0) → g1 r.payload 1 = 0 →
    objIn s.cfg.active (g1 r.payload 0) (g2 r.payload 2) = none →
    exec (.cfgReadObject r) s = .next (settled s (answered 0x0105 r sNOTFOUND [] (ownerSeen r.side (begun 0x0105 r s))))) ∧
  (∀ (s : State) (r : Req) (t : Txn), asks 0x0105 r s = true → s.cfg.txn = some t → t.owner = r.side → g2 r.payload 2 < indices (g1 r.payload 0) →
    g1 r.payload 1 = 1 → objIn t.objs (g1 r.payload 0) (g2 r.payload 2) = none →
    exec (.cfgReadObject r) s = .next (settled s (answered 0x0105 r sNOTFOUND [] (ownerSeen r.side (begun 0x0105 r s))))) ∧
  (∀ (s : State) (r : Req) (t : Txn), asks 0x0106 r s = true → g1 r.payload 0 = 1 → zeroAt r.payload 1 3 = true → s.cfg.txn = some t →
    exec (.cfgExport r) s =
      .next (settled s (answered 0x0106 r sOK (bundle s t.baseGen t.objs) (ownerSeen r.side (begun 0x0106 r s))))) ∧
  (∀ (s : State) (r : Req), asks 0x0106 r s = true → (1 < g1 r.payload 0 ∨ zeroAt r.payload 1 3 = false ∨ (g1 r.payload 0 = 1 ∧ s.cfg.txn = none)) →
    exec (.cfgExport r) s = .next (settled s (answered 0x0106 r sBADOBJ [] (ownerSeen r.side (begun 0x0106 r s))))) ∧
  (∀ (s : State) (r : Req), asks 0x0106 r s = true → g1 r.payload 0 = 0 → zeroAt r.payload 1 3 = true →
    exec (.cfgExport r) s =
      .next (settled s (answered 0x0106 r sOK (bundle s s.cfg.generation s.cfg.active) (ownerSeen r.side (begun 0x0106 r s))))) ∧
  (∀ (s : State) (r : Req) (t : Txn) (os : List Obj), asks 0x0107 r s = true → s.cfg.txn = some t → t.owner = r.side → fixed t = false →
    g1 r.payload 0 ≤ 1 → zeroAt r.payload 1 3 = true → (importObjs s (r.payload.drop 4)).toOption = some os →
    exec (.cfgImport r) s =
      .next (settled s (answered 0x0107 r sOK [] (ownerSeen r.side (modTxn (fun x =>
        { x with
          objs := if g1 r.payload 0 = 0 then (emptyObjs.filter (fun y => !os.any (fun z => z.kind == y.kind))) ++ os
        else os.foldl (fun a y => putObj y a) t.objs }) (begun 0x0107 r s)))))) ∧
  (∀ (s : State) (r : Req) (t : Txn), asks 0x0107 r s = true → s.cfg.txn = some t → t.owner = r.side → fixed t = false → (1 < g1 r.payload 0 ∨ zeroAt r.payload 1 3 = false) →
    exec (.cfgImport r) s = .next (settled s (answered 0x0107 r sBADOBJ [] (ownerSeen r.side (begun 0x0107 r s))))) ∧
  (∀ (s : State) (r : Req) (t : Txn) (b : List Byte), asks 0x0107 r s = true → s.cfg.txn = some t → t.owner = r.side → fixed t = false →
    g1 r.payload 0 ≤ 1 → zeroAt r.payload 1 3 = true → b = r.payload.drop 4 → b.length ≤ 131072 →
    (g4 b 0 ≠ 0x42464743 ∨ b.length < 32 ∨ g4 b 28 ≠ crc32 (b.take 28 ++ b.drop 32) ∨ runSchema s < g2 b 4 ∨
      parseObjs (g2 b 6) (b.drop 32) = none) →
    exec (.cfgImport r) s = .next (settled s (answered 0x0107 r sBADOBJ [] (ownerSeen r.side (begun 0x0107 r s))))) ∧
  (∀ (s : State) (r : Req) (t : Txn) (b : List Byte) (os : List Obj), asks 0x0107 r s = true → s.cfg.txn = some t → t.owner = r.side →
    fixed t = false → g1 r.payload 0 ≤ 1 → zeroAt r.payload 1 3 = true → b = r.payload.drop 4 → b.length ≤ 131072 →
    g4 b 0 = 0x42464743 → 32 ≤ b.length → g4 b 28 = crc32 (b.take 28 ++ b.drop 32) → g2 b 4 ≤ runSchema s →
    parseObjs (g2 b 6) (b.drop 32) = some os → os.any (fun o => convertObj o == .stale) = true →
    exec (.cfgImport r) s = .next (settled s (answered 0x0107 r sSTALE [] (ownerSeen r.side (begun 0x0107 r s))))) ∧
  (∀ (s : State) (r : Req) (t : Txn), asks 0x0108 r s = true → s.cfg.txn = some t → t.owner = r.side → fixed t = false →
    g1 r.payload 1 = 0 → g2 r.payload 2 < indices (g1 r.payload 0) → indices (g1 r.payload 0) ≠ 1 →
    objIn t.objs (g1 r.payload 0) (g2 r.payload 2) ≠ none →
    exec (.cfgDeleteObject r) s =
      .next (settled s (answered 0x0108 r sOK [] (ownerSeen r.side (modTxn (fun x =>
        { x with objs := x.objs.filter (fun y => !(y.kind == g1 r.payload 0 && y.index == g2 r.payload 2)) }) (begun 0x0108 r s)))))) ∧
  (∀ (s : State) (r : Req) (t : Txn), asks 0x0108 r s = true → s.cfg.txn = some t → t.owner = r.side → fixed t = false →
    (g1 r.payload 1 ≠ 0 ∨ indices (g1 r.payload 0) ≤ g2 r.payload 2 ∨ indices (g1 r.payload 0) = 1) →
    exec (.cfgDeleteObject r) s = .next (settled s (answered 0x0108 r sBADOBJ [] (ownerSeen r.side (begun 0x0108 r s))))) ∧
  (∀ (s : State) (r : Req) (t : Txn), asks 0x0108 r s = true → s.cfg.txn = some t → t.owner = r.side → fixed t = false → g1 r.payload 1 = 0 →
    g2 r.payload 2 < indices (g1 r.payload 0) → indices (g1 r.payload 0) ≠ 1 → objIn t.objs (g1 r.payload 0) (g2 r.payload 2) = none →
    exec (.cfgDeleteObject r) s = .next (settled s (answered 0x0108 r sNOTFOUND [] (ownerSeen r.side (begun 0x0108 r s))))) ∧
  (∀ (s : State) (r : Req), asks 0x0109 r s = true → s.cfg.txn = none →
    exec (.cfgState r) s =
      .next (settled s (answered 0x0109 r sOK (zeros 8 ++ p4 s.cfg.generation ++ zeros 4) (begun 0x0109 r s)))) ∧
  (∀ (s : State) (r : Req) (t : Txn), asks 0x0109 r s = true → s.cfg.txn = some t →
    exec (.cfgState r) s =
      .next (settled s (answered 0x0109 r sOK
        (p1 (if t.queued = none then 1 else 2) ++ p1 (sideCode t.owner) ++ p1 (b01 (!t.full)) ++ zeros 1 ++ p4 t.baseGen ++ p4 s.cfg.generation ++
          p4 (nsMs (s.sys.devTime - t.lastCmd) / 1000)) (ownerSeen r.side (begun 0x0109 r s))))) ∧
  (∀ (s : State) (t : Txn), s.cfg.txn = some t → fixed t = false →
    exec .cfgIdleTimeout s = .next (settled s (discardTxn 1 s))) ∧
  (∀ s : State, (∀ t ∈ s.cfg.txn, fixed t = true) → exec .cfgIdleTimeout s = .next (settled s s))

/-- Line events (R453–R464). -/
def Obligations.LineEventsAct : Prop :=
  (∀ (s : State) (p : Nat) (b : List Byte), switchOn s = true → p ≤ 2 → (port s p).link = true →
    exec (.ethFrame p b false) s = .next (settled s (modPort p (fun x => { x with fcs := w32 (x.fcs + 1) }) s))) ∧
  (∀ (s u : State) (p : Nat) (b : List Byte), switchOn s = true → p ≤ 2 → (port s p).link = true → 64 ≤ b.length → b.length ≤ 1522 →
    (tagOf b = none ∨ s.net.applied = false ∨ netVids s = [] ∨ (netVids s).contains ((tagOf b).getD 0 % 4096) = true) →
    (portBlocked s p = false ∨ isProbe b = true) → u = counted p (slice b 6 6) s →
    exec (.ethFrame p b true) s = .next (settled s (deviceTakes p b ((egress u p b).foldl (fun t q => enqueue q b t) u)))) ∧
  (∀ (s u : State) (p : Nat) (b : List Byte), switchOn s = true → p ≤ 2 → (port s p).link = true → 64 ≤ b.length → b.length ≤ 1522 →
    (tagOf b = none ∨ s.net.applied = false ∨ netVids s = [] ∨ (netVids s).contains ((tagOf b).getD 0 % 4096) = true) →
    portBlocked s p = false → u = counted p (slice b 6 6) s → slice b 0 6 ≠ s.net.mac → g1 b 0 % 2 = 0 → slice b 6 6 ≠ s.net.mac →
    exec (.ethFrame p b true) s = .next (settled s ((egress u p b).foldl (fun t q => enqueue q b t) u))) ∧
  (∀ (s : State) (p : Nat) (b : List Byte), switchOn s = true → p ≤ 2 → (port s p).link = true → 64 ≤ b.length → b.length ≤ 1522 →
    ((portBlocked s p = true ∧ isProbe b = false) ∨
      (tagOf b ≠ none ∧ s.net.applied = true ∧ netVids s ≠ [] ∧ (netVids s).contains ((tagOf b).getD 0 % 4096) = false)) →
    exec (.ethFrame p b true) s = .next (settled s (modPort p (fun x => { x with rx := w32 (x.rx + 1) }) s))) ∧
  (∀ (s : State) (p : Nat) (b : List Byte) (k : Bool), (switchOn s = false ∨ 2 < p ∨ (port s p).link = false ∨
      (k = true ∧ (b.length < 64 ∨ 1522 < b.length))) →
    exec (.ethFrame p b k) s = .next (settled s s)) ∧
  (∀ (s u : State) (p : Nat) (mac ip : List Byte), comesIn s p → u = counted p mac s → devicePort s = true → s.absorb.reexecuting = false →
    exec (.arpRequest p mac ip (ipAddr s)) s =
      .next (settled s (enqueue p (deviceFrame s (fit 6 mac) 0x0806
        (asciiBytes [0, 1, 8, 0, 6, 4, 0, 2] ++ s.net.mac ++ ipAddr s ++ fit 6 mac ++ fit 4 ip)) u))) ∧
  (∀ (s u : State) (p : Nat) (mac ip d msg : List Byte), comesIn s p → u = counted p mac s → devicePort s = true → s.absorb.reexecuting = false →
    msg = zeros 2 ++ beBytes 2 (inetSum (zeros 4 ++ d)) ++ d →
    exec (.icmpEcho p mac ip (ipAddr s) d) s =
      .next (settled s (enqueue p (deviceFrame s (fit 6 mac) 0x0800 (ipHeader s 1 msg.length ip ++ msg)) u))) ∧
  (∀ (s u : State) (p : Nat) (mac ip dst d : List Byte), comesIn s p → u = counted p mac s →
    (devicePort s = false ∨ (s.absorb.reexecuting = false ∧ dst ≠ ipAddr s)) →
    exec (.arpRequest p mac ip dst) s = .next (settled s u) ∧ exec (.icmpEcho p mac ip dst d) s = .next (settled s u)) ∧
  (∀ (s u v : State) (p : Nat) (mac ip dst d : List Byte) (m : PtpMsg), comesIn s p → u = counted p mac s → v = counted p [] s → devicePort s = true →
    s.absorb.reexecuting = true → m.port = p → m.body ≠ .silent →
    exec (.arpRequest p mac ip dst) s = .next (settled s (buffer ⟨0, 64, .arp p mac ip dst⟩ u)) ∧
    exec (.icmpEcho p mac ip dst d) s = .next (settled s (buffer ⟨0, max 64 (42 + d.length), .echo p mac ip dst d⟩ u)) ∧
    exec (.ptpMessage m) s = .next (settled s (buffer (waitingOf (.ptp m)) v))) ∧
  (∀ (s : State) (p : Nat) (mac ip dst d : List Byte) (m : PtpMsg), switchOn s = true → p ≤ 2 → portBlocked s p = true → m.port = p → m.body ≠ .silent →
    exec (.arpRequest p mac ip dst) s = .next (settled s (modPort p (fun x => { x with rx := w32 (x.rx + 1) }) s)) ∧
    exec (.icmpEcho p mac ip dst d) s = .next (settled s (modPort p (fun x => { x with rx := w32 (x.rx + 1) }) s)) ∧
    exec (.ptpMessage m) s = .next (settled s (modPort p (fun x => { x with rx := w32 (x.rx + 1) }) s))) ∧
  (∀ (s : State) (p : Nat) (mac ip dst d : List Byte) (m : PtpMsg), (switchOn s = false ∨ 2 < p) → m.port = p → m.body ≠ .silent →
    exec (.arpRequest p mac ip dst) s = .next (settled s s) ∧ exec (.icmpEcho p mac ip dst d) s = .next (settled s s) ∧
    exec (.ptpMessage m) s = .next (settled s s)) ∧
  (∀ (s u : State) (m : PtpMsg) (gm a q b k : Nat) (utc : Int) (l : List PtpMaster), heardPtp s m → u = counted m.port [] s →
    m.body = .announce gm a q b k utc →
    l = { source := m.source, rank := [a, q, b, gm, k, m.source], utcOffset := utc } :: s.net.ptpMasters.filter (fun x => x.source != m.source) →
    exec (.ptpMessage m) s = .next (settled s (noteLock u (ptpChoose l u)))) ∧
  (∀ (s : State) (m : PtpMsg) (l : List PtpMaster), devicePort s = true → ordinaryClock s = true → m.transport = g1 (netBody s) 34 →
    m.domain = g1 (netBody s) 33 → m.body = .silent → l = s.net.ptpMasters.filter (fun x => x.source != m.source) →
    exec (.ptpMessage m) s = .next (settled s (noteLock s (ptpChoose l s)))) ∧
  (∀ (s u : State) (m : PtpMsg) (origin : Int), heardPtp s m → u = counted m.port [] s → m.body = .sync false origin → fromChosen s m →
    exec (.ptpMessage m) s = .next (settled s (noteLock u (askDelay origin m.correction (onNet (fun n => { n with
      ptpExchange := { n.ptpExchange with syncSeq := m.seq, origin := none, correction := m.correction, arrived := calendarNs s, left := none } }) u))))) ∧
  (∀ (s u : State) (m : PtpMsg) (origin : Int), heardPtp s m → u = counted m.port [] s → m.body = .sync true origin → fromChosen s m →
    exec (.ptpMessage m) s = .next (settled s (noteLock u (onNet (fun n => { n with
      ptpExchange := { n.ptpExchange with syncSeq := m.seq, origin := none, correction := m.correction, arrived := calendarNs s, left := none } }) u)))) ∧
  (∀ (s u : State) (m : PtpMsg) (origin : Int), heardPtp s m → u = counted m.port [] s → m.body = .followUp origin → fromChosen s m →
    m.seq = s.net.ptpExchange.syncSeq → s.net.ptpExchange.origin = none →
    exec (.ptpMessage m) s = .next (settled s (noteLock u (askDelay origin (s.net.ptpExchange.correction + m.correction) u)))) ∧
  (∀ (s u : State) (m : PtpMsg) (x : PtpExchange) (c : PtpMaster) (t1 t3 rt off : Int), heardPtp s m → u = counted m.port [] s →
    m.body = .delayResp (beNat (portIdentity s)) rt → s.net.ptpChosen = some m.source →
    s.net.ptpMasters.find? (fun y => y.source == m.source) = some c → x = s.net.ptpExchange → x.origin = some t1 → x.left = some t3 →
    m.seq = x.delaySeq →
    off = ((x.arrived - (t1 - c.utcOffset * 1000000000)) - ((rt - m.correction.fdiv 65536 - c.utcOffset * 1000000000) - t3)).fdiv 2 →
    exec (.ptpMessage m) s =
      .next (settled s (noteLock u (ptpOffsetSeen off (onNet (fun n => { n with ptpExchange := { x with origin := none, left := none } }) u))))) ∧
  (∀ (s u : State) (m : PtpMsg), comesIn s m.port → s.absorb.reexecuting = false → u = counted m.port [] s → m.body ≠ .silent →
    (devicePort s = false ∨ ordinaryClock s = false ∨ m.transport ≠ g1 (netBody s) 34 ∨ m.domain ≠ g1 (netBody s) 33 ∨
      (isAnnounce m.body = false ∧ s.net.ptpChosen ≠ some m.source)) →
    exec (.ptpMessage m) s = .next (settled s u)) ∧
  (∀ (s u : State) (m : PtpMsg) (x : PtpExchange) (k : Nat) (o : Int), heardPtp s m → u = counted m.port [] s → x = s.net.ptpExchange →
    ((m.body = .followUp o ∧ (m.seq ≠ x.syncSeq ∨ x.origin ≠ none)) ∨ (m.body = .delayResp k o ∧ (x.origin = none ∨ x.left = none ∨
      k ≠ beNat (portIdentity s) ∨ m.seq ≠ x.delaySeq))) →
    exec (.ptpMessage m) s = .next (settled s u)) ∧
  (∀ (s : State) (m : PtpMsg), m.body = .silent → (devicePort s = false ∨ ordinaryClock s = false ∨ m.transport ≠ g1 (netBody s) 34 ∨
      m.domain ≠ g1 (netBody s) 33) →
    exec (.ptpMessage m) s = .next (settled s s)) ∧
  (∀ (s : State) (p : Nat), devicePort s = true → loopGuard s = true → p < 3 →
    exec (.loopProbeSend p) s =
      .next (settled s (enqueue p (deviceFrame s (fit 6 Config.probeDst) 0x88B5 Config.probeBody) s))) ∧
  (∀ (s : State) (p : Nat), (devicePort s = false ∨ loopGuard s = false ∨ 3 ≤ p) → exec (.loopProbeSend p) s = .next (settled s s)) ∧
  (∀ (s u : State) (p back b : Nat), switchOn s = true → devicePort s = true → loopGuard s = true → p ≠ back → back ≤ 2 →
    u = counted back s.net.mac s → b = (if back = 0 then 2 else 1) → portBlocked s b = false →
    exec (.loopProbeReturn p back) s =
      .next (settled s (note 0x0C12 [b, 1]
        (onNet (fun n => { n with blocked := (b, s.sys.devTime) :: n.blocked.filter (fun e => e.1 != b) }) u)))) ∧
  (∀ (s u : State) (p back b : Nat), switchOn s = true → devicePort s = true → loopGuard s = true → p ≠ back → back ≤ 2 →
    u = counted back s.net.mac s → b = (if back = 0 then 2 else 1) → portBlocked s b = true →
    exec (.loopProbeReturn p back) s =
      .next (settled s (onNet (fun n => { n with blocked := (b, s.sys.devTime) :: n.blocked.filter (fun e => e.1 != b) }) u))) ∧
  (∀ (s u : State) (p back : Nat), switchOn s = true → back ≤ 2 → u = counted back s.net.mac s → (devicePort s = false ∨ loopGuard s = false ∨ p = back) →
    exec (.loopProbeReturn p back) s = .next (settled s u)) ∧
  (∀ (s : State) (p back : Nat), (switchOn s = false ∨ 2 < back) → exec (.loopProbeReturn p back) s = .next (settled s s)) ∧
  (∀ (s : State) (l : List (Nat × Nat)), l = s.net.blocked.filter (fun e => decide (e.2 + 10000000000 ≤ s.sys.devTime)) →
    exec .loopGuardRelease s = .next (settled s (l.foldl (fun t e => note 0x0C12 [e.1, 2] t) (onNet (fun n =>
      { n with blocked := n.blocked.filter (fun e => decide (s.sys.devTime < e.2 + 10000000000)) }) s)))) ∧
  (∀ (s : State) (link gb : Bool) (cause : Nat), devicePort s = true → uplinkMode s = 1 →
    cause = (if link = false then 2 else if gb then 1 else 3) →
    exec (.phyPoll link gb) s = .next (settled s (linkTo 2 cause s))) ∧
  (∀ (s : State) (link gb : Bool), (devicePort s = false ∨ uplinkMode s ≠ 1) → exec (.phyPoll link gb) s = .next (settled s s)) ∧
  (∀ (s : State) (p : Nat), switchOn s = true → p < 2 → (port s p).link = false → (port s p).wrongSpeed = false → s.sys.ready = true →
    exec (.linkChange p 1) s =
      .next (settled s (note 0x0C10 [p, 1] (modPort p (fun x => { x with link := true, wrongSpeed := false, queues := x.queues }) s)))) ∧
  (∀ (s : State) (p cause : Nat), switchOn s = true → ((p < 2 ∧ (cause = 1 ∨ cause = 2)) ∨
      (p = 2 ∧ 1 ≤ cause ∧ cause ≤ 3 ∧ uplinkMode s ≠ 0 ∧ s.net.applied = true)) →
    exec (.linkChange p cause) s = .next (settled s (linkTo p cause s))) ∧
  (∀ (s : State) (p cause : Nat), (switchOn s = false ∨ 2 < p ∨ cause = 0 ∨ 3 < cause ∨ (p < 2 ∧ cause = 3) ∨
      (p = 2 ∧ (uplinkMode s = 0 ∨ s.net.applied = false))) →
    exec (.linkChange p cause) s = .next (settled s s)) ∧
  (∀ s : State, s.sys.ready = true → s.power.springPowered = true →
    exec .springClockUpdate s =
      .next (settled s (onPower (fun p => { p with springNs := s.sys.calTime * 1000000 + (s.sys.calPs / 1000 : Nat) }) s))) ∧
  (∀ s : State, (s.sys.ready = false ∨ s.power.springPowered = false) → exec .springClockUpdate s = .next (settled s s)) ∧
  (∀ (s : State) (id k : Nat), sessionNo s id = some k → (tget s.net.sessions k).lastSeen + idleSeconds s * 1000000000 ≤ s.sys.devTime →
    exec (.sessionIdle id) s = .next (settled s (closeSession k 3 s))) ∧
  (∀ (s : State) (id : Nat), (∀ k ∈ sessionNo s id, s.sys.devTime < (tget s.net.sessions k).lastSeen + idleSeconds s * 1000000000) →
    exec (.sessionIdle id) s = .next (settled s s)) ∧
  (∀ (s : State) (addr via : Nat),
    exec (.authLockoutEnd addr via) s =
      .next (settled s (onNet (fun n => { n with lockouts := n.lockouts.filter (· != (if via = 3 then (0, 3) else (addr, 0))) }) s)))

/-- Session commands (R461–R465, R468, R469). -/
def Obligations.SessionCommandsAct : Prop :=
  (∀ (s u : State) (r q : Req) (src : UdpSrc) (d : Side), srcOf r.side = some src →
    dgramSide s src 0 (r.sluice % 16) = some d → srcOf d = some src → q = { r with side := d } → u = openS0 d s → asks 0x0C01 q u = true →
    (s.net.key ≠ none ∨ firstKeyWay s src.via = true) →
    exec (.netSessionOpen r) s =
      .next (settled s (answered 0x0C01 q sOK (randomBytes 8 s ++ serialBytes s) (drawn 8 (onNet (fun n =>
        { n with
          nonces := { addr := src.addr, port := src.port, via := src.via, client := r.payload, device := randomBytes 8 s,
                      at_ := s.sys.devTime } ::
            n.nonces.filter (fun x => !(x.addr == src.addr && x.port == src.port && x.via == src.via)) }) (begun 0x0C01 q u)))))) ∧
  (∀ (s u : State) (r q : Req) (src : UdpSrc) (d : Side), srcOf r.side = some src →
    dgramSide s src 0 (r.sluice % 16) = some d → srcOf d = some src → q = { r with side := d } → u = openS0 d s → asks 0x0C01 q u = true →
    s.net.key = none → firstKeyWay s src.via = false →
    exec (.netSessionOpen r) s = .next (settled s (answered 0x0C01 q sAUTH [] (begun 0x0C01 q u)))) ∧
  (∀ (s : State) (r : Req) (src : UdpSrc), srcOf r.side = some src → dgramSide s src 0 (r.sluice % 16) = none →
    exec (.netSessionOpen r) s = .next (settled s s) ∧ exec (.netSessionAuth r) s = .next (settled s s)) ∧
  (∀ (s : State) (r : Req), srcOf r.side = none → asks 0x0C01 r s = true →
    exec (.netSessionOpen r) s = .next (settled s (answered 0x0C01 r sBADOBJ [] (begun 0x0C01 r s)))) ∧
  (∀ (s : State) (r : Req), srcOf r.side = none → asks 0x0C02 r s = true →
    exec (.netSessionAuth r) s = .next (settled s (answered 0x0C02 r sAUTH [] (begun 0x0C02 r s)))) ∧
  (∀ (s u : State) (r q : Req) (src : UdpSrc) (d : Side) (e : Nonce) (k : List Byte), srcOf r.side = some src →
    dgramSide s src 0 (r.sluice % 16) = some d → srcOf d = some src → q = { r with side := d } → u = openS0 d s → asks 0x0C02 q u = true →
    s.net.key = some k → nonceOf s src = some e → s.sys.devTime ≤ e.at_ + 5000000000 → s.net.sessions.length < min 4 (maxSessions s) →
    exec (.netSessionAuth r) s =
      .next (settled s (
        let t := onNet (fun n => { n with nonces := n.nonces.filter (· != e) }) (begun 0x0C02 q u);
        if (r.payload == lineProof k labelEvvr e.client e.device (serialBytes s)) = true then
          answered 0x0C02 q sOK (p2 (freshId s) ++ zeros 2 ++ lineProof k labelRvve e.device e.client (serialBytes s))
            (note 0x0C11 [freshId s, src.addr, 1] (openS0 (.udp (2 * s.net.sessionNext)) (drawn 2 (onNet (fun n =>
              { n with
                sessionNext := n.sessionNext + 1,
                sessions := tset n.sessions (2 * s.net.sessionNext)
                  { id := freshId s, addr := src.addr, port := src.port, via := src.via, lastSeen := s.sys.devTime } }) t))))
        else answered 0x0C02 q sAUTH [] (wrongProof src t)))) ∧
  (∀ (s u : State) (r q : Req) (src : UdpSrc) (d : Side) (e : Nonce), srcOf r.side = some src →
    dgramSide s src 0 (r.sluice % 16) = some d → srcOf d = some src → q = { r with side := d } → u = openS0 d s → asks 0x0C02 q u = true →
    firstKeyWay s src.via = true → nonceOf s src = some e → s.sys.devTime ≤ e.at_ + 5000000000 →
    s.net.sessions.length < min 4 (maxSessions s) →
    exec (.netSessionAuth r) s =
      .next (settled s (
        let t := onNet (fun n => { n with nonces := n.nonces.filter (· != e) }) (begun 0x0C02 q u);
        if r.payload.all (· == 0) = true then
          answered 0x0C02 q sOK (p2 (freshId s) ++ zeros 2 ++ zeros 16)
            (note 0x0C11 [freshId s, src.addr, 1] (openS0 (.udp (2 * s.net.sessionNext)) (drawn 2 (onNet (fun n =>
              { n with
                sessionNext := n.sessionNext + 1,
                sessions := tset n.sessions (2 * s.net.sessionNext)
                  { id := freshId s, addr := src.addr, port := src.port, via := src.via, lastSeen := s.sys.devTime } }) t))))
        else answered 0x0C02 q sAUTH [] (wrongProof src t)))) ∧
  (∀ (s u : State) (r q : Req) (src : UdpSrc) (d : Side) (e : Nonce) (k : List Byte), srcOf r.side = some src →
    dgramSide s src 0 (r.sluice % 16) = some d → srcOf d = some src → q = { r with side := d } → u = openS0 d s → asks 0x0C02 q u = true →
    s.net.key = some k → nonceOf s src = some e → s.sys.devTime ≤ e.at_ + 5000000000 → min 4 (maxSessions s) ≤ s.net.sessions.length →
    exec (.netSessionAuth r) s =
      .next (settled s (
        let t := onNet (fun n => { n with nonces := n.nonces.filter (· != e) }) (begun 0x0C02 q u);
        if (r.payload == lineProof k labelEvvr e.client e.device (serialBytes s)) = true then answered 0x0C02 q sLIMIT [] t
        else answered 0x0C02 q sAUTH [] (wrongProof src t)))) ∧
  (∀ (s u : State) (r q : Req) (src : UdpSrc) (d : Side) (e : Nonce), srcOf r.side = some src →
    dgramSide s src 0 (r.sluice % 16) = some d → srcOf d = some src → q = { r with side := d } → u = openS0 d s → asks 0x0C02 q u = true →
    (s.net.key ≠ none ∨ firstKeyWay s src.via = true) → nonceOf s src = some e → e.at_ + 5000000000 < s.sys.devTime →
    exec (.netSessionAuth r) s =
      .next (settled s (answered 0x0C02 q sTIMEOUT [] (onNet (fun n => { n with nonces := n.nonces.filter (· != e) }) (begun 0x0C02 q u))))) ∧
  (∀ (s u : State) (r q : Req) (src : UdpSrc) (d : Side), srcOf r.side = some src →
    dgramSide s src 0 (r.sluice % 16) = some d → srcOf d = some src → q = { r with side := d } → u = openS0 d s → asks 0x0C02 q u = true →
    (nonceOf s src = none ∨ (s.net.key = none ∧ firstKeyWay s src.via = false)) →
    exec (.netSessionAuth r) s = .next (settled s (answered 0x0C02 q sAUTH [] (begun 0x0C02 q u)))) ∧
  (∀ (s : State) (r : Req) (k : Nat), asks 0x0C03 r s = true → g2 r.payload 0 ≠ 0 → zeroAt r.payload 2 2 = true →
    (s.net.sessions.find? (fun e => e.2.id == g2 r.payload 0)).map (·.1) = some k →
    exec (.netSessionClose r) s =
      .next (settled s (closeSession k 2 (answered 0x0C03 r sOK [] (begun 0x0C03 r s))))) ∧
  (∀ (s : State) (r : Req) (k : Nat), asks 0x0C03 r s = true → g2 r.payload 0 = 0 → zeroAt r.payload 2 2 = true → r.side = .udp k →
    tfind s.net.sessions k ≠ none →
    exec (.netSessionClose r) s =
      .next (settled s (closeSession k 2 (answered 0x0C03 r sOK [] (begun 0x0C03 r s))))) ∧
  (∀ (s : State) (r : Req), asks 0x0C03 r s = true → zeroAt r.payload 2 2 = false →
    exec (.netSessionClose r) s = .next (settled s (answered 0x0C03 r sBADOBJ [] (begun 0x0C03 r s)))) ∧
  (∀ (s : State) (r : Req), asks 0x0C03 r s = true → zeroAt r.payload 2 2 = true → ((g2 r.payload 0 ≠ 0 ∧
      ∀ e ∈ s.net.sessions, e.2.id ≠ g2 r.payload 0) ∨ (g2 r.payload 0 = 0 ∧ (r.side = .spi ∨ r.side = .app))) →
    exec (.netSessionClose r) s = .next (settled s (answered 0x0C03 r sNOTFOUND [] (begun 0x0C03 r s)))) ∧
  (∀ (s : State) (r : Req), asks 0x0C04 r s = true →
    exec (.netStatus r) s =
      .next (settled s (answered 0x0C04 r sOK
        (fit 6 s.net.mac ++ p1 (maskOf [0, 1, 2] (fun p => (port s p).link) + b01 (!s.net.blocked.isEmpty) * 8) ++ p1 s.net.ptpState ++
          q4 s.net.ptpOffset ++ p1 s.net.sessions.length ++ p1 (b01 s.net.key.isSome) ++ zeros 2 ++
          [0, 1, 2].flatMap (fun p => p4 (port s p).rx ++ p4 (port s p).tx ++ p4 (port s p).drops ++ p4 (port s p).fcs))
        (begun 0x0C04 r s)))) ∧
  (∀ (s : State) (r : Req), asks 0x0C05 r s = true → r.payload.all (· == 0) = false →
    canStore (.netKey (reqOrg 0x0C05 r) r.payload) s = true →
    exec (.netKey r) s =
      .next (settled s (requestStore (.netKey (reqOrg 0x0C05 r) r.payload) (addJob { org := reqOrg 0x0C05 r } (begun 0x0C05 r s))))) ∧
  (∀ (s : State) (r : Req), asks 0x0C05 r s = true → r.payload.all (· == 0) = false →
    canStore (.netKey (reqOrg 0x0C05 r) r.payload) s = false →
    exec (.netKey r) s =
      .next (settled s (answered 0x0C05 r sNOENERGY [] (requestStore (.netKey (reqOrg 0x0C05 r) r.payload) (begun 0x0C05 r s))))) ∧
  (∀ (s : State) (r : Req), asks 0x0C05 r s = true → r.payload.all (· == 0) = true →
    exec (.netKey r) s = .next (settled s (answered 0x0C05 r sBADOBJ [] (begun 0x0C05 r s))))

/-- Freshet handshake (R476–R482). -/
def Obligations.FreshetHandshakeActs : Prop :=
  (∀ (s v : State) (p : Nat) (mac ip d : List Byte), comesIn s p → v = counted p mac s → hears s p 1 d = true → s.absorb.reexecuting = false → accepts s p = true →
    exec (.freshetOffer p mac ip d) s =
      .next (settled s (
        let peer := peerOf mac ip;
        let j := judgeOffer (.line p) (fshBody d) none v;
        if j.1.status ≠ sOK then sendRefuse p peer 0 j.1.status j.1.retry j.2
        else if j.1.way = 0 then sendFsh p peer 9 0 0 0 (p2 sOK) j.2
        else if (shake v p).taker = 3 ∧ v.fsh.lock = some (.line p) then nextGet p j.2
        else sendFsh p peer 2 0 0 0 (randomBytes 8 j.2) (drawn 8 (modShake p (fun k =>
          { k with
            taker := 1, offer := fshBody d, clientNonce := randomBytes 8 j.2, takerSession := 0, peer := peer, buf := [] }) j.2))))) ∧
  (∀ (s v : State) (p : Nat) (mac ip d : List Byte), comesIn s p → v = counted p mac s → (devicePort s = false ∨ (s.absorb.reexecuting = false ∧ (hears s p 1 d = false ∨ accepts s p = false))) →
    exec (.freshetOffer p mac ip d) s = .next (settled s v)) ∧
  (∀ (s v : State) (p : Nat) (mac ip d : List Byte), comesIn s p → v = counted p mac s → hears s p 2 d = true → s.absorb.reexecuting = false → offering s = true → forwards s p = true → (fshBody d).length = 8 →
    exec (.freshetOpen p mac ip d) s =
      .next (settled s (sendFsh p (peerOf mac ip) 3 0 0 0 (randomBytes 8 v ++ serialBytes v) (drawn 8 (modShake p (fun k =>
        { k with
          holder := 1, hClientNonce := fshBody d, hDevNonce := randomBytes 8 v, hNonceAt := v.sys.devTime }) v))))) ∧
  (∀ (s v : State) (p : Nat) (mac ip d : List Byte), comesIn s p → v = counted p mac s → (devicePort s = false ∨ (s.absorb.reexecuting = false ∧ (hears s p 2 d = false ∨ offering s = false ∨ forwards s p = false ∨ (fshBody d).length ≠ 8))) →
    exec (.freshetOpen p mac ip d) s = .next (settled s v)) ∧
  (∀ (s v : State) (p : Nat) (mac ip d : List Byte) (b : List Byte), comesIn s p → v = counted p mac s → hears s p 3 d = true → s.absorb.reexecuting = false → (shake s p).taker = 1 → (shake s p).peer = peerOf mac ip → b = fshBody d → b.length = 16 →
    exec (.freshetChallenge p mac ip d) s =
      .next (settled s (sendFsh p (peerOf mac ip) 4 0 0 0
        (lineProof (lineKey v) labelTaker (shake v p).clientNonce (b.take 8) (b.drop 8))
        (modShake p (fun x => { x with taker := 2, devNonce := b.take 8, holderSerial := g8 b 8 }) v)))) ∧
  (∀ (s v : State) (p : Nat) (mac ip d : List Byte), comesIn s p → v = counted p mac s → (devicePort s = false ∨ (s.absorb.reexecuting = false ∧ (hears s p 3 d = false ∨ (shake s p).taker ≠ 1 ∨ (shake s p).peer ≠ peerOf mac ip ∨ (fshBody d).length ≠ 16))) →
    exec (.freshetChallenge p mac ip d) s = .next (settled s v)) ∧
  (∀ (s v : State) (p : Nat) (mac ip d : List Byte), comesIn s p → v = counted p mac s → hears s p 4 d = true → s.absorb.reexecuting = false → (shake s p).holder = 1 → s.sys.devTime ≤ (shake s p).hNonceAt + 5000000000 →
    exec (.freshetAuth p mac ip d) s =
      .next (settled s (
        let k := shake v p;
        let id := if leNat 2 (randomBytes 2 v) = 0 then 1 else leNat 2 (randomBytes 2 v);
        if fshBody d = lineProof (lineKey v) labelTaker k.hClientNonce k.hDevNonce (serialBytes v) then
          sendFsh p (peerOf mac ip) 5 id 0 0
            (p2 id ++ zeros 2 ++ lineProof (lineKey v) labelHolder k.hDevNonce k.hClientNonce (serialBytes v))
            (drawn 2 (modShake p (fun x => { x with holder := 2, hSession := id, hGetAt := v.sys.devTime }) v))
        else sendRefuse p (peerOf mac ip) 0 sAUTH 0 (modShake p (fun x => { x with holder := 0 }) v)))) ∧
  (∀ (s v : State) (p : Nat) (mac ip d : List Byte), comesIn s p → v = counted p mac s → (devicePort s = false ∨ (s.absorb.reexecuting = false ∧ (hears s p 4 d = false ∨ (shake s p).holder ≠ 1 ∨ (shake s p).hNonceAt + 5000000000 < s.sys.devTime))) →
    exec (.freshetAuth p mac ip d) s = .next (settled s v)) ∧
  (∀ (s v : State) (p : Nat) (mac ip d : List Byte) (b : List Byte), comesIn s p → v = counted p mac s → hears s p 5 d = true → s.absorb.reexecuting = false → (shake s p).taker = 2 → (shake s p).peer = peerOf mac ip → b = fshBody d → b.length = 20 →
    exec (.freshetAccept p mac ip d) s =
      .next (settled s (
        let k := shake v p;
        let ends := modShake p (fun x => { x with taker := 0 });
        let j := judgeOffer (.line p) k.offer none v;
        if b.drop 4 ≠ lineProof (lineKey v) labelHolder k.devNonce k.clientNonce (p8 k.holderSerial) then
          sendRefuse p k.peer (g2 b 0) sAUTH 0 (ends v)
        else if j.1.status ≠ sOK then sendRefuse p k.peer (g2 b 0) j.1.status j.1.retry (ends j.2)
        else if j.1.way = 0 then sendFsh p k.peer 9 (g2 b 0) 0 0 (p2 sOK) (ends j.2)
        else nextGet p (takeLock (.line p) (imgOf k.offer []) j.1.way
          (modShake p (fun x => { x with taker := 3, takerSession := g2 b 0, buf := [] }) j.2))))) ∧
  (∀ (s v : State) (p : Nat) (mac ip d : List Byte), comesIn s p → v = counted p mac s → (devicePort s = false ∨ (s.absorb.reexecuting = false ∧ (hears s p 5 d = false ∨ (shake s p).taker ≠ 2 ∨ (shake s p).peer ≠ peerOf mac ip ∨ (fshBody d).length ≠ 20))) →
    exec (.freshetAccept p mac ip d) s = .next (settled s v)) ∧
  (∀ (s v : State) (p : Nat) (mac ip d : List Byte), comesIn s p → v = counted p mac s → hears s p 6 d = true → s.absorb.reexecuting = false → (shake s p).holder = 2 → g2 d 4 = (shake s p).hSession → g4 d 12 ≤ 8192 → offering s = true →
    exec (.freshetGet p mac ip d) s =
      .next (settled s (sendPieces p (peerOf mac ip) (shake v p).hSession 8 (g4 d 8) (g4 d 12)
        (modShake p (fun x => { x with hGetAt := v.sys.devTime }) v)))) ∧
  (∀ (s v : State) (p : Nat) (mac ip d : List Byte), comesIn s p → v = counted p mac s → (devicePort s = false ∨ (s.absorb.reexecuting = false ∧ (hears s p 6 d = false ∨ (shake s p).holder ≠ 2 ∨ g2 d 4 ≠ (shake s p).hSession ∨ 8192 < g4 d 12 ∨ offering s = false))) →
    exec (.freshetGet p mac ip d) s = .next (settled s v)) ∧
  (∀ (s v : State) (p : Nat) (mac ip d : List Byte) (b : List Byte) (off : Nat) (u : State), comesIn s p → v = counted p mac s → hears s p 7 d = true → s.absorb.reexecuting = false → (shake s p).taker = 3 → (shake s p).peer = peerOf mac ip → g2 d 4 = (shake s p).takerSession →
    s.fsh.lock = some (.line p) → s.fsh.state = 1 → blockWaits s = false → off = g4 d 8 → off = (shake s p).want → b = fshBody d → b ≠ [] →
    b.length = g4 d 12 → b.length ≤ 1024 → off + b.length ≤ (shake s p).wantEnd → u = modShake p (fun x => { x with want := off + b.length }) v → off < payloadAt s.fsh.img →
    exec (.freshetData p mac ip d) s =
      .next (settled s (
        let t := modShake p (fun x => { x with buf := x.buf ++ b }) u;
        if ((shake v p).buf ++ b).length = 32 * v.fsh.img.blocks then tableCome p t
        else if off + b.length = (shake v p).wantEnd then nextGet p t else t))) ∧
  (∀ (s v : State) (p : Nat) (mac ip d : List Byte) (b : List Byte) (off : Nat) (u : State), comesIn s p → v = counted p mac s → hears s p 7 d = true → s.absorb.reexecuting = false → (shake s p).taker = 3 → (shake s p).peer = peerOf mac ip → g2 d 4 = (shake s p).takerSession →
    s.fsh.lock = some (.line p) → s.fsh.state = 1 → blockWaits s = false → off = g4 d 8 → off = (shake s p).want → b = fshBody d → b ≠ [] →
    b.length = g4 d 12 → b.length ≤ 1024 → off + b.length ≤ (shake s p).wantEnd → u = modShake p (fun x => { x with want := off + b.length }) v → payloadAt s.fsh.img ≤ off →
    exec (.freshetData p mac ip d) s =
      .next (settled s (
        let q := off - payloadAt v.fsh.img;
        let r := takePiece (.line p) (q / 65536) (q % 65536) b u;
        if r.1 = .partly then (if off + b.length = (shake v p).wantEnd then nextGet p r.2 else r.2)
        else if r.1 = .bad then nextGet p r.2
        else stageBlock (q / 65536) r.2))) ∧
  (∀ (s v : State) (p : Nat) (mac ip d : List Byte), comesIn s p → v = counted p mac s → (devicePort s = false ∨ (s.absorb.reexecuting = false ∧ (hears s p 7 d = false ∨ (shake s p).taker ≠ 3 ∨ (shake s p).peer ≠ peerOf mac ip ∨ g2 d 4 ≠ (shake s p).takerSession ∨
      s.fsh.lock ≠ some (.line p) ∨ s.fsh.state ≠ 1 ∨ blockWaits s = true ∨ g4 d 8 ≠ (shake s p).want ∨ fshBody d = [] ∨
      (fshBody d).length ≠ g4 d 12 ∨ 1024 < (fshBody d).length ∨ (shake s p).wantEnd < g4 d 8 + (fshBody d).length))) →
    exec (.freshetData p mac ip d) s = .next (settled s v)) ∧
  (∀ (s v : State) (p : Nat) (mac ip d : List Byte), comesIn s p → v = counted p mac s → hears s p 8 d = true → s.absorb.reexecuting = false → (fshBody d).length = 4 → ((shake s p).taker ≠ 0 ∧ (shake s p).peer = peerOf mac ip ∧ g2 d 4 = (shake s p).takerSession) →
    exec (.freshetRefuse p mac ip d) s =
      .next (settled s (
        let t := modShake p (fun x => { x with taker := 0 }) v;
        if v.fsh.lock = some (.line p) then endLock 3 t else t))) ∧
  (∀ (s v : State) (p : Nat) (mac ip d : List Byte), comesIn s p → v = counted p mac s → hears s p 8 d = true → s.absorb.reexecuting = false → (fshBody d).length = 4 → ¬((shake s p).taker ≠ 0 ∧ (shake s p).peer = peerOf mac ip ∧ g2 d 4 = (shake s p).takerSession) → (shake s p).firstOffer ≠ none →
    exec (.freshetRefuse p mac ip d) s =
      .next (settled s (
        if g2 (fshBody d) 0 = sBUSY then
          modShake p (fun x => { x with holder := 0, notBefore := v.sys.devTime + g2 (fshBody d) 2 * 1000000000 }) v
        else forwardEnds p (g2 (fshBody d) 0) v))) ∧
  (∀ (s v : State) (p : Nat) (mac ip d : List Byte), comesIn s p → v = counted p mac s → (devicePort s = false ∨ (s.absorb.reexecuting = false ∧ (hears s p 8 d = false ∨ (fshBody d).length ≠ 4 ∨ (¬((shake s p).taker ≠ 0 ∧ (shake s p).peer = peerOf mac ip ∧ g2 d 4 = (shake s p).takerSession) ∧ (shake s p).firstOffer = none)))) →
    exec (.freshetRefuse p mac ip d) s = .next (settled s v)) ∧
  (∀ (s v : State) (p : Nat) (mac ip d : List Byte), comesIn s p → v = counted p mac s → hears s p 9 d = true → s.absorb.reexecuting = false → (fshBody d).length = 2 → (shake s p).firstOffer ≠ none →
    exec (.freshetDone p mac ip d) s =
      .next (settled s (
        if g2 (fshBody d) 0 = sOK then note 0x0D28 [p, sOK] (modShake p (fun k => { k with stopped := true, holder := 0 }) v)
        else note 0x0D28 [p, g2 (fshBody d) 0] (modShake p (fun x => { x with holder := 0 }) v)))) ∧
  (∀ (s v : State) (p : Nat) (mac ip d : List Byte), comesIn s p → v = counted p mac s → (devicePort s = false ∨ (s.absorb.reexecuting = false ∧ (hears s p 9 d = false ∨ (fshBody d).length ≠ 2 ∨ (shake s p).firstOffer = none))) →
    exec (.freshetDone p mac ip d) s = .next (settled s v)) ∧
  (∀ (s v : State) (p n : Nat) (mac ip d : List Byte), comesIn s p → v = counted p mac s → devicePort s = true → s.absorb.reexecuting = true →
    n = max 64 (18 + (28 + d.length)) →
    exec (.freshetOffer p mac ip d) s = .next (settled s (buffer ⟨0, n, .freshet 1 p mac ip d⟩ v)) ∧
    exec (.freshetOpen p mac ip d) s = .next (settled s (buffer ⟨0, n, .freshet 2 p mac ip d⟩ v)) ∧
    exec (.freshetChallenge p mac ip d) s = .next (settled s (buffer ⟨0, n, .freshet 3 p mac ip d⟩ v)) ∧
    exec (.freshetAuth p mac ip d) s = .next (settled s (buffer ⟨0, n, .freshet 4 p mac ip d⟩ v)) ∧
    exec (.freshetAccept p mac ip d) s = .next (settled s (buffer ⟨0, n, .freshet 5 p mac ip d⟩ v)) ∧
    exec (.freshetGet p mac ip d) s = .next (settled s (buffer ⟨0, n, .freshet 6 p mac ip d⟩ v)) ∧
    exec (.freshetData p mac ip d) s = .next (settled s (buffer ⟨0, n, .freshet 7 p mac ip d⟩ v)) ∧
    exec (.freshetRefuse p mac ip d) s = .next (settled s (buffer ⟨0, n, .freshet 8 p mac ip d⟩ v)) ∧
    exec (.freshetDone p mac ip d) s = .next (settled s (buffer ⟨0, n, .freshet 9 p mac ip d⟩ v))) ∧
  (∀ (s : State) (p : Nat) (mac ip d : List Byte), switchOn s = true → p ≤ 2 → portBlocked s p = true →
    exec (.freshetOffer p mac ip d) s = .next (settled s (modPort p (fun x => { x with rx := w32 (x.rx + 1) }) s)) ∧
    exec (.freshetOpen p mac ip d) s = .next (settled s (modPort p (fun x => { x with rx := w32 (x.rx + 1) }) s)) ∧
    exec (.freshetChallenge p mac ip d) s = .next (settled s (modPort p (fun x => { x with rx := w32 (x.rx + 1) }) s)) ∧
    exec (.freshetAuth p mac ip d) s = .next (settled s (modPort p (fun x => { x with rx := w32 (x.rx + 1) }) s)) ∧
    exec (.freshetAccept p mac ip d) s = .next (settled s (modPort p (fun x => { x with rx := w32 (x.rx + 1) }) s)) ∧
    exec (.freshetGet p mac ip d) s = .next (settled s (modPort p (fun x => { x with rx := w32 (x.rx + 1) }) s)) ∧
    exec (.freshetData p mac ip d) s = .next (settled s (modPort p (fun x => { x with rx := w32 (x.rx + 1) }) s)) ∧
    exec (.freshetRefuse p mac ip d) s = .next (settled s (modPort p (fun x => { x with rx := w32 (x.rx + 1) }) s)) ∧
    exec (.freshetDone p mac ip d) s = .next (settled s (modPort p (fun x => { x with rx := w32 (x.rx + 1) }) s))) ∧
  (∀ (s : State) (p : Nat) (mac ip d : List Byte), (switchOn s = false ∨ 2 < p) →
    exec (.freshetOffer p mac ip d) s = .next (settled s s) ∧
    exec (.freshetOpen p mac ip d) s = .next (settled s s) ∧
    exec (.freshetChallenge p mac ip d) s = .next (settled s s) ∧
    exec (.freshetAuth p mac ip d) s = .next (settled s s) ∧
    exec (.freshetAccept p mac ip d) s = .next (settled s s) ∧
    exec (.freshetGet p mac ip d) s = .next (settled s s) ∧
    exec (.freshetData p mac ip d) s = .next (settled s s) ∧
    exec (.freshetRefuse p mac ip d) s = .next (settled s s) ∧
    exec (.freshetDone p mac ip d) s = .next (settled s s)) ∧
  (∀ (s : State) (p : Nat), devicePort s = true → p ≤ 1 → (port s p).link = true → offering s = true → forwards s p = true →
    (shake s p).stopped = false → (shake s p).notBefore ≤ s.sys.devTime →
    exec (.freshetOfferTimer p) s =
      .next (settled s (
        if (shake s p).firstOffer.getD s.sys.devTime + 86400000000000 ≤ s.sys.devTime then forwardEnds p sTIMEOUT s
        else sendFsh p (asciiBytes (List.replicate 10 255)) 1 0 0 0 s.fsh.img.header
          (modShake p (fun x => { x with firstOffer := some ((shake s p).firstOffer.getD s.sys.devTime) }) s)))) ∧
  (∀ (s : State) (p : Nat), (devicePort s = false ∨ 1 < p ∨ (port s p).link = false ∨ offering s = false ∨ forwards s p = false ∨
      (shake s p).stopped = true ∨ s.sys.devTime < (shake s p).notBefore) →
    exec (.freshetOfferTimer p) s = .next (settled s s))

/-- Freshet activation (R477–R491). -/
def Obligations.FreshetActivationActs : Prop :=
  (∀ (s : State) (b : List Byte) (im : Img), s.fsh.state = 2 → served s = true → im = s.fsh.img →
    exec (.imageVerifyDone b) s =
      .next (settled s (
        let v := tellHolder sOK (noteRom 0x0D13 [im.kind, versionWord im.version, im.arb] (onFsh (fun f => { f with state := 3 }) s));
        if sha256 b = im.digest ∧ headerSigned s im.header = true then
          (if s.sys.mode ≠ .recovery then v
           else if im.kind = 1 then askBlock (noteLater 0x0D20 [im.kind, im.arb, im.blocks] (journalActivation v))
           else romBoot (confirmNow (onFsh (fun f => { f with loaderCopy := 1 - f.loaderCopy }) v)))
        else emptySlot (tellHolder sBADOBJ (noteRom 0x0D14 [im.kind, im.arb] s))))) ∧
  (∀ (s : State) (b : List Byte), (s.fsh.state ≠ 2 ∨ served s = false) → exec (.imageVerifyDone b) s = .next (settled s s)) ∧
  (∀ (s : State) (d : Side), s.fsh.lock = some (.side d) → s.fsh.lastBlock + 60000000000 ≤ s.sys.devTime →
    exec .sessionLockIdle s =
      .next (settled s (noteRom 0x0D11 [sideCode d, 2] (onFsh (fun f => { f with lock := none }) s)))) ∧
  (∀ (s : State) (p : Nat), s.fsh.lock = some (.line p) → s.fsh.lastBlock + 60000000000 ≤ s.sys.devTime →
    exec .sessionLockIdle s =
      .next (settled s (endLock 2 (modShake p (fun x => { x with taker := 0 }) s)))) ∧
  (∀ s : State, (s.fsh.lock = none ∨ s.sys.devTime < s.fsh.lastBlock + 60000000000) → exec .sessionLockIdle s = .next (settled s s)) ∧
  (∀ s : State, s.fsh.state = 1 → s.fsh.lock = none → exec .partialImageExpired s = .next (settled s (emptySlot s))) ∧
  (∀ s : State, (s.fsh.state ≠ 1 ∨ s.fsh.lock ≠ none) → exec .partialImageExpired s = .next (settled s s)) ∧
  (∀ (s : State) (im : Img), s.fsh.state = 3 → s.sys.ready = true → windowClear s = true → kindReady s = true → sealWaits s = false →
    im = s.fsh.img →
    exec .activationStart s =
      .next (settled s (
        let u := note 0x0D20 [im.kind, im.arb, im.blocks] (onFsh (fun f =>
          { f with state := 4, outcome := sOK, grantUsed := grantOpen s, doneBlocks := [], bankReady := false }) s);
        if im.kind = 1 then requestStore (.journal 1) (bootWanted u)
        else if im.kind = 2 then requestStore (.loaderCopy 0) u
        else if im.kind = 3 then requestStore .islandBank u
        else requestStore (.journal im.kind) u))) ∧
  (∀ s : State, s.fsh.state = 3 → s.sys.ready = true → windowClear s = true → kindReady s = true → sealWaits s = true →
    exec .activationStart s = .next (settled s (onFsh (fun f => { f with outcome := sSEALED }) s))) ∧
  (∀ s : State, (s.fsh.state ≠ 3 ∨ s.sys.ready = false ∨ windowClear s = false ∨ kindReady s = false) →
    exec .activationStart s = .next (settled s s)) ∧
  (∀ (s u : State) (i b : Nat) (q : Bool), (s.sys.mode = .boot ∨ s.sys.mode = .recovery) → loaderStore s = some (i, b) →
    u = onAbsorb (fun a => { a with norErases := tmod a.norErases b (· + 1) }) (dropStore i s) → s.fsh.journal = 4 →
    exec (.norBlockDone true q) s = .next (settled s (loaderNext (onFsh (fun f =>
      { f with backed := f.backed.filter (· != b) ++ [b], doneBlocks := f.doneBlocks ++ [b], blockTries := 0 }) u)))) ∧
  (∀ (s u : State) (i b : Nat) (q : Bool), (s.sys.mode = .boot ∨ s.sys.mode = .recovery) → loaderStore s = some (i, b) →
    u = onAbsorb (fun a => { a with norErases := tmod a.norErases b (· + 1) }) (dropStore i s) → s.fsh.journal = 4 → s.fsh.blockTries < 2 →
    exec (.norBlockDone false q) s = .next (settled s (loaderNext (onFsh (fun f =>
      { f with backed := f.backed.filter (· != b) ++ [b], blockTries := f.blockTries + 1 }) u)))) ∧
  (∀ (s u : State) (i b : Nat) (q : Bool), (s.sys.mode = .boot ∨ s.sys.mode = .recovery) → loaderStore s = some (i, b) →
    u = onAbsorb (fun a => { a with norErases := tmod a.norErases b (· + 1) }) (dropStore i s) → s.fsh.journal = 4 → 2 ≤ s.fsh.blockTries →
    exec (.norBlockDone false q) s = .next (settled s (loaderNext (noteLater 0x0D27 [b] (onFsh (fun f =>
      { f with state := 8, journal := 8, backed := f.backed.filter (· < b), doneBlocks := [], blockTries := 0 }) u))))) ∧
  (∀ (s u : State) (i b : Nat) (q : Bool), (s.sys.mode = .boot ∨ s.sys.mode = .recovery) → loaderStore s = some (i, b) →
    u = onAbsorb (fun a => { a with norErases := tmod a.norErases b (· + 1) }) (dropStore i s) → s.fsh.journal = 8 →
    exec (.norBlockDone q true) s = .next (settled s (loaderNext (onFsh (fun f => { f with doneBlocks := f.doneBlocks ++ [b] }) u)))) ∧
  (∀ (s u : State) (i b : Nat) (q : Bool), (s.sys.mode = .boot ∨ s.sys.mode = .recovery) → loaderStore s = some (i, b) →
    u = onAbsorb (fun a => { a with norErases := tmod a.norErases b (· + 1) }) (dropStore i s) → s.fsh.journal = 8 →
    exec (.norBlockDone q false) s =
      .next (settled s (loaderNext (unabsorbed 6 b (onFsh (fun f => { f with journal := 0, state := 7, recoveryCause := 5 }) u))))) ∧
  (∀ (s u : State) (i b : Nat) (q e : Bool), (s.sys.mode = .boot ∨ s.sys.mode = .recovery) → loaderStore s = some (i, b) →
    u = onAbsorb (fun a => { a with norErases := tmod a.norErases b (· + 1) }) (dropStore i s) → s.fsh.journal ≠ 4 → s.fsh.journal ≠ 8 →
    exec (.norBlockDone q e) s = .next (settled s (loaderNext (noteLater 0x0F73 [4, b * 262144, 64 - s.absorb.pagesRetired]
      (onAbsorb (fun a => { a with norRefresh := a.norRefresh.filter (· != b) }) u))))) ∧
  (∀ (s : State) (q e : Bool), ((s.sys.mode ≠ .boot ∧ s.sys.mode ≠ .recovery) ∨ loaderStore s = none) →
    exec (.norBlockDone q e) s = .next (settled s s)) ∧
  (∀ s : State, s.fsh.grantHeld = true → s.sys.ready = true → s.fsh.notAfter ≠ 0 → s.fsh.notAfter ≤ s.sys.calTime → s.fsh.grantUsed = false →
    s.fsh.state = 3 → bitOf s.fsh.grantKinds (s.fsh.img.kind - 1) = true →
    exec .grantWindowClose s =
      .next (settled s (drawn 1 (note 0x0D26 [s.fsh.grantKinds, windowReason s]
        (onFsh (fun f => { f with grantHeld := false, grantKinds := 0, grantUsed := false }) s))))) ∧
  (∀ s : State, s.fsh.grantHeld = true → s.sys.ready = true → s.fsh.notAfter ≠ 0 → s.fsh.notAfter ≤ s.sys.calTime → (s.fsh.grantUsed = true ∨
      s.fsh.state ≠ 3 ∨ bitOf s.fsh.grantKinds (s.fsh.img.kind - 1) = false) →
    exec .grantWindowClose s = .next (settled s (onFsh (fun f => { f with grantHeld := false, grantKinds := 0, grantUsed := false }) s))) ∧
  (∀ s : State, (s.fsh.grantHeld = false ∨ s.sys.ready = false ∨ s.fsh.notAfter = 0 ∨ s.sys.calTime < s.fsh.notAfter) →
    exec .grantWindowClose s = .next (settled s s)) ∧
  (∀ s : State, s.fsh.state = 5 → s.sys.ready = true → 60 < s.fsh.trialLeft →
    exec .trialTimeJournal s =
      .next (settled s (requestStore (.journal 5) (onFsh (fun f => { f with trialLeft := f.trialLeft - 60 }) s)))) ∧
  (∀ s : State, s.fsh.state = 5 → s.sys.ready = true → s.fsh.trialLeft ≤ 60 →
    exec .trialTimeJournal s = .next (settled s (failTrial 2 (onFsh (fun f => { f with trialLeft := 0 }) s)))) ∧
  (∀ s : State, s.fsh.state = 5 → s.sys.ready = true →
    exec .trialBootsClear s =
      .next (settled s (requestStore (.journal 5) (onFsh (fun f => { f with trialBoots := 0 }) s)))) ∧
  (∀ s : State, (s.fsh.state ≠ 5 ∨ s.sys.ready = false) →
    exec .trialTimeJournal s = .next (settled s s) ∧ exec .trialBootsClear s = .next (settled s s)) ∧
  (∀ s : State, s.sys.appRunning = true → onTrial s 4 = true → s.fsh.trialBoots < maxTrialBoots s →
    exec .applicationFaultStop s =
      .next (settled s (requestStore (.journal 5) (onFsh (fun f => { f with trialBoots := f.trialBoots + 1 })
        (onSys (fun y => { y with appStopped := true }) s))))) ∧
  (∀ s : State, s.sys.appRunning = true → onTrial s 4 = true → maxTrialBoots s ≤ s.fsh.trialBoots →
    exec .applicationFaultStop s = .next (settled s (failTrial 1 (onSys (fun y => { y with appStopped := true }) s)))) ∧
  (∀ s : State, s.sys.appRunning = true → onTrial s 4 = false →
    exec .applicationFaultStop s = .next (settled s (onSys (fun y => { y with appStopped := true }) s))) ∧
  (∀ s : State, s.sys.appRunning = false → exec .applicationFaultStop s = .next (settled s s)) ∧
  (∀ s : State, s.fsh.state = 4 → s.fsh.img.kind = 3 → s.fsh.bankReady = true →
    exec .watermarkTrialTimeout s =
      .next (settled s (trialFails 3 (allStale (onIsland (fun i => { i with running := false, failed := false }) (islandSramLost s)))))) ∧
  (∀ s : State, (s.fsh.state ≠ 4 ∨ s.fsh.img.kind ≠ 3 ∨ s.fsh.bankReady = false) → exec .watermarkTrialTimeout s = .next (settled s s))

/-- Freshet commands (R477–R488, R494, R495). -/
def Obligations.FreshetCommandsAct : Prop :=
  (∀ (s : State) (r : Req) (f : Freshet), asks 0x0D01 r s = true → f = s.fsh →
    exec (.fshStatus r) s =
      .next (settled s (answered 0x0D01 r sOK
        (p1 (modeCode s.sys.mode) ++ p1 f.state ++ p1 f.img.kind ++ p1 ((f.source.map sourceCode).getD 0) ++
          fit 3 (f.img.version.flatMap p1) ++ p1 f.recoveryCause ++ p4 f.img.arb ++ p4 f.img.blocks ++
          p4 (if f.state = 4 ∨ f.state = 8 then f.doneBlocks.length else f.marked.length) ++
          p1 f.trialBoots ++ p1 (b01 f.grantHeld + b01 (grantOpen s) * 2) ++ zeros 2 ++ p4 f.trialLeft ++ p4 (floorOf s 1) ++
          p4 (floorOf s 2) ++ p4 (floorOf s 3) ++ p4 (floorOf s 4)) (begun 0x0D01 r s)))) ∧
  (∀ (s : State) (r : Req), asks 0x0D02 r s = true → s.sys.mode ≠ .recovery → accepts s 2 = false →
    exec (.fshOpen r) s =
      .next (settled s (answered 0x0D02 r sAUTH [] (begun 0x0D02 r s)))) ∧
  (∀ (s : State) (r : Req), asks 0x0D02 r s = true → (s.sys.mode = .recovery ∨ accepts s 2 = true) → shapeOk (r.payload.take 256) = true →
    r.payload.length ≠ 256 + 32 * g4 (r.payload.take 256) 20 →
    exec (.fshOpen r) s =
      .next (settled s (answered 0x0D02 r sBADLEN [] (begun 0x0D02 r s)))) ∧
  (∀ (s : State) (r : Req), asks 0x0D02 r s = true → s.sys.mode = .recovery → ¬(shapeOk (r.payload.take 256) = true ∧ r.payload.length ≠ 256 + 32 * g4 (r.payload.take 256) 20) →
    2 < g1 r.payload 6 →
    exec (.fshOpen r) s =
      .next (settled s (answered 0x0D02 r sBADOBJ [] (begun 0x0D02 r s)))) ∧
  (∀ (s : State) (r : Req), asks 0x0D02 r s = true → (s.sys.mode = .recovery ∨ accepts s 2 = true) →
    ¬(shapeOk (r.payload.take 256) = true ∧ r.payload.length ≠ 256 + 32 * g4 (r.payload.take 256) 20) →
    ¬(s.sys.mode = .recovery ∧ 2 < g1 (r.payload.take 256) 6) →
    exec (.fshOpen r) s =
      .next (settled s (
        let h := r.payload.take 256;
        let table := r.payload.drop 256;
        let src : Source := .side r.side;
        let j := judgeOffer src h (some table) (begun 0x0D02 r s);
        if j.1.status = sBUSY then answered 0x0D02 r sBUSY (p4 0 ++ p2 j.1.retry ++ zeros 2) j.2
        else if j.1.status ≠ sOK then answered 0x0D02 r j.1.status [] j.2
        else if j.1.way = 0 then answered 0x0D02 r sOK (p4 (g4 h 20) ++ p2 0 ++ zeros 2) j.2
        else if j.1.way = 1 then
          answered 0x0D02 r sOK (p4 (firstMissing j.2) ++ p2 0 ++ zeros 2) (takeLock src (imgOf h table) 1
            (onFsh (fun f => { f with img := { f.img with table := table } }) j.2))
        else answered 0x0D02 r sOK (p4 0 ++ p2 0 ++ zeros 2) (takeLock src (imgOf h table) 2 j.2)))) ∧
  (∀ (s : State) (r : Req), asks 0x0D03 r s = true → (s.fsh.lock ≠ some (.side r.side) ∨ s.fsh.state ≠ 1 ∨ s.fsh.img.blocks ≤ g4 r.payload 0 ∨ g4 r.payload 4 % 16 ≠ 0 ∨
      blockLen s.fsh.img (g4 r.payload 0) < g4 r.payload 4 + (r.payload.drop 8).length) →
    exec (.fshBlock r) s =
      .next (settled s (answered 0x0D03 r sBADOBJ [] (begun 0x0D03 r s)))) ∧
  (∀ (s : State) (r : Req), asks 0x0D03 r s = true → s.fsh.lock = some (.side r.side) → s.fsh.state = 1 →
    g4 r.payload 0 < s.fsh.img.blocks → g4 r.payload 4 % 16 = 0 → g4 r.payload 4 + (r.payload.drop 8).length ≤ blockLen s.fsh.img (g4 r.payload 0) → blockWaits s = true →
    exec (.fshBlock r) s =
      .next (settled s (answered 0x0D03 r sBUSY [] (begun 0x0D03 r s)))) ∧
  (∀ (s : State) (r : Req), asks 0x0D03 r s = true → s.fsh.lock = some (.side r.side) → s.fsh.state = 1 →
    g4 r.payload 0 < s.fsh.img.blocks → g4 r.payload 4 % 16 = 0 → g4 r.payload 4 + (r.payload.drop 8).length ≤ blockLen s.fsh.img (g4 r.payload 0) → blockWaits s = false →
    s.fsh.marked.contains (g4 r.payload 0) = true →
    exec (.fshBlock r) s =
      .next (settled s (answered 0x0D03 r sOK (p4 s.fsh.marked.length ++ p1 1 ++ zeros 3) (begun 0x0D03 r s)))) ∧
  (∀ (s : State) (r : Req), asks 0x0D03 r s = true → s.fsh.lock = some (.side r.side) → s.fsh.state = 1 →
    g4 r.payload 0 < s.fsh.img.blocks → g4 r.payload 4 % 16 = 0 → g4 r.payload 4 + (r.payload.drop 8).length ≤ blockLen s.fsh.img (g4 r.payload 0) → blockWaits s = false →
    s.fsh.marked.contains (g4 r.payload 0) = false →
    exec (.fshBlock r) s =
      .next (settled s (
        let j := takePiece (.side r.side) (g4 r.payload 0) (g4 r.payload 4) (r.payload.drop 8) (begun 0x0D03 r s);
        if j.1 = .partly then answered 0x0D03 r sOK (p4 s.fsh.marked.length ++ p1 0 ++ zeros 3) j.2
        else if j.1 = .bad then answered 0x0D03 r sBADOBJ [] j.2
        else if canStore (.freshetStage (g4 r.payload 0)) j.2 = true then
          stageBlock (g4 r.payload 0) (addJob { org := reqOrg 0x0D03 r, a := g4 r.payload 0 } j.2)
        else answered 0x0D03 r sNOENERGY [] (stageBlock (g4 r.payload 0) j.2)))) ∧
  (∀ (s : State) (r : Req), asks 0x0D04 r s = true → g1 r.payload 0 ≤ 15 → zeroAt r.payload 1 7 = true →
    exec (.fshGrant r) s =
      .next (settled s (answered 0x0D04 r sOK [] (onFsh (fun f =>
        { f with
          grantHeld := true, grantUsed := false, grantKinds := g1 r.payload 0, notBefore := i8 r.payload 8, notAfter := i8 r.payload 16 })
        (begun 0x0D04 r s))))) ∧
  (∀ (s : State) (r : Req), asks 0x0D04 r s = true → (15 < g1 r.payload 0 ∨ zeroAt r.payload 1 7 = false) →
    exec (.fshGrant r) s =
      .next (settled s (answered 0x0D04 r sBADOBJ [] (begun 0x0D04 r s)))) ∧
  (∀ (s : State) (r : Req) (o : Org), asks 0x0D05 r s = true → o = reqOrg 0x0D05 r → s.fsh.state = 5 → zeroAt r.payload 1 3 = true →
    g1 r.payload 0 = s.fsh.img.kind → g4 r.payload 4 = s.fsh.img.arb →
    canStore (.floor (g1 r.payload 0) (g4 r.payload 4) (some o)) s = true →
    exec (.fshConfirm r) s =
      .next (settled s (requestStore (.floor (g1 r.payload 0) (g4 r.payload 4) (some o))
        (addJob { org := o } (cancelStore (.floor (g1 r.payload 0) (g4 r.payload 4) none) (begun 0x0D05 r s)))))) ∧
  (∀ (s : State) (r : Req) (o : Org), asks 0x0D05 r s = true → o = reqOrg 0x0D05 r → s.fsh.state = 5 → zeroAt r.payload 1 3 = true →
    g1 r.payload 0 = s.fsh.img.kind → g4 r.payload 4 = s.fsh.img.arb →
    canStore (.floor (g1 r.payload 0) (g4 r.payload 4) (some o)) s = false →
    exec (.fshConfirm r) s =
      .next (settled s (answered 0x0D05 r sNOENERGY []
        (if storing (.floor (g1 r.payload 0) (g4 r.payload 4) none) s = true then begun 0x0D05 r s
         else requestStore (.floor (g1 r.payload 0) (g4 r.payload 4) none) (begun 0x0D05 r s))))) ∧
  (∀ (s : State) (r : Req), asks 0x0D05 r s = true → s.fsh.state ≠ 5 →
    exec (.fshConfirm r) s =
      .next (settled s (answered 0x0D05 r sWRONGMODE [] (begun 0x0D05 r s)))) ∧
  (∀ (s : State) (r : Req), asks 0x0D05 r s = true → s.fsh.state = 5 → (zeroAt r.payload 1 3 = false ∨ g1 r.payload 0 ≠ s.fsh.img.kind ∨ g4 r.payload 4 ≠ s.fsh.img.arb) →
    exec (.fshConfirm r) s =
      .next (settled s (answered 0x0D05 r sBADOBJ [] (begun 0x0D05 r s)))) ∧
  (∀ (s : State) (r : Req), asks 0x0D06 r s = true → s.fsh.state ≠ 4 → s.fsh.state ≠ 5 → s.fsh.state ≠ 8 → (s.fsh.lock = none ∨ s.fsh.lock = some (.side r.side)) →
    exec (.fshDiscard r) s =
      .next (settled s (answered 0x0D06 r sOK [] (emptySlot (endLock 3 (begun 0x0D06 r s)))))) ∧
  (∀ (s : State) (r : Req), asks 0x0D06 r s = true → (s.fsh.state = 4 ∨ s.fsh.state = 5 ∨ s.fsh.state = 8) →
    exec (.fshDiscard r) s =
      .next (settled s (answered 0x0D06 r sWRONGMODE [] (begun 0x0D06 r s)))) ∧
  (∀ (s : State) (r : Req), asks 0x0D06 r s = true → s.fsh.state ≠ 4 → s.fsh.state ≠ 5 → s.fsh.state ≠ 8 → s.fsh.lock ≠ none → s.fsh.lock ≠ some (.side r.side) →
    exec (.fshDiscard r) s =
      .next (settled s (answered 0x0D06 r sBADOBJ [] (begun 0x0D06 r s)))) ∧
  (∀ (s : State) (r : Req), asks 0x0D07 r s = true → s.fsh.backed ≠ [] →
    exec (.fshRestore r) s =
      .next (settled s (answered 0x0D07 r sOK []
        (askBlock (onFsh (fun f => { f with state := 8, journal := 8, doneBlocks := [] }) (begun 0x0D07 r s)))))) ∧
  (∀ (s : State) (r : Req), asks 0x0D07 r s = true → s.fsh.backed = [] →
    exec (.fshRestore r) s =
      .next (settled s (answered 0x0D07 r sWRONGMODE [] (begun 0x0D07 r s))))

/-- Ream (R504–R516). -/
def Obligations.ReamActs : Prop :=
  (∀ (s : State) (code : Nat) (b : Bucket), tfind s.ream.buckets code = some b →
    exec (.reamTokenRefill code) s =
      .next (settled s (onReam (fun m => { m with buckets := tset m.buckets code { b with spent := b.spent - 1 } }) s))) ∧
  (∀ (s : State) (code : Nat), tfind s.ream.buckets code = none → exec (.reamTokenRefill code) s = .next (settled s s)) ∧
  (∀ (s : State) (code : Nat), (tget s.ream.buckets code).withheld ≠ 0 →
    (tget s.ream.buckets code).last + 3600000000000 ≤ s.sys.devTime →
    exec (.suppressionTimeout code) s =
      .next (settled s (onReam (fun m =>
        pushRec (makeRec s code 0 (min (tget s.ream.buckets code).withheld 65535) 4 0 (List.replicate 8 0))
          { m with buckets := tset m.buckets code { tget s.ream.buckets code with withheld := 0, last := s.sys.devTime } }) s))) ∧
  (∀ (s : State) (code : Nat), ((tget s.ream.buckets code).withheld = 0 ∨ s.sys.devTime < (tget s.ream.buckets code).last + 3600000000000) →
    exec (.suppressionTimeout code) s = .next (settled s s)) ∧
  (∀ s : State, s.ream.fbState = 1 →
    exec (.regionTestDone false false) s = .next (settled s (onReam (fun m => { m with fbState := 2, merged := 0 }) s))) ∧
  (∀ s u : State, s.ream.fbState = 1 → s.ream.retired < 16 → u = onReam (fun m => { m with retired := m.retired + 1 }) s →
    exec (.regionTestDone true false) s =
      .next (settled s (onReam (fun m => { m with fbState := 2, merged := 0 })
        (note 0x0E32 [s.ream.failOffset / 4096, s.ream.retired + 1]
          (onReam (fun m => { m with ring := m.ring.take (ringCapacity u) }) u))))) ∧
  (∀ (s : State) (q e : Bool), s.ream.fbState = 1 → (e = true ∨ (q = true ∧ 16 ≤ s.ream.retired)) →
    exec (.regionTestDone q e) s =
      .next (settled s (cancelReam (noteFault 0x0E30 [3, s.ream.failOffset] (onReam (fun m => { m with fbState := 3 }) s))))) ∧
  (∀ (s : State) (q e : Bool), s.ream.fbState ≠ 1 → exec (.regionTestDone q e) s = .next (settled s s)) ∧
  (∀ (s : State) (r : Req) (m : Ream), asks 0x0E01 r s = true → m = s.ream →
    exec (.reamStatus r) s =
      .next (settled s (answered 0x0E01 r sOK
        (p4 (newestSeq s) ++ p4 (oldestSeq s) ++ p4 m.floor ++ p4 (ringCapacity s) ++ p1 m.retired ++ p1 m.fbState ++
          p2 m.fallback.length ++ p4 m.fbOverwritten ++ p2 m.queue.length ++ p2 m.epoch ++ p4 m.lost ++ p2 m.boot ++ zeros 2)
        (begun 0x0E01 r s)))) ∧
  (∀ (s : State) (r : Req), asks 0x0E02 r s = true → 1 ≤ g2 r.payload 4 → g2 r.payload 4 ≤ 256 → zeroAt r.payload 10 2 = true →
    exec (.reamRead r) s =
      .next (settled s (answered 0x0E02 r sOK (readAnswer r.payload s) (begun 0x0E02 r s)))) ∧
  (∀ (s : State) (r : Req), asks 0x0E02 r s = true → (g2 r.payload 4 = 0 ∨ 256 < g2 r.payload 4 ∨ zeroAt r.payload 10 2 = false) →
    exec (.reamRead r) s =
      .next (settled s (answered 0x0E02 r sBADOBJ [] (begun 0x0E02 r s)))) ∧
  (∀ (s : State) (r : Req), asks 0x0E03 r s = true → 1 ≤ g2 r.payload 4 → g2 r.payload 4 ≤ 16383 → zeroAt r.payload 10 2 = true →
    exec (.reamReadBulk r) s =
      .next (settled s (answered 0x0E03 r sPENDING [] (addJob { org := reqOrg 0x0E03 r, data := r.payload } (begun 0x0E03 r s))))) ∧
  (∀ (s : State) (r : Req), asks 0x0E03 r s = true → (g2 r.payload 4 = 0 ∨ 16383 < g2 r.payload 4 ∨ zeroAt r.payload 10 2 = false) →
    exec (.reamReadBulk r) s =
      .next (settled s (answered 0x0E03 r sBADOBJ [] (begun 0x0E03 r s)))) ∧
  (∀ (s : State) (d : Side) (n tag : Nat) (j : Job),
    (waitingJobs s 0x0E03).find? (fun x => x.org.side == d && x.org.sluice == n && x.org.tag == tag) = some j →
    exec (.reamReadBulkComplete d n tag) s = .next (settled s (finish j.org sOK (readAnswer j.data s) s))) ∧
  (∀ (s : State) (d : Side) (n tag : Nat),
    (waitingJobs s 0x0E03).find? (fun x => x.org.side == d && x.org.sluice == n && x.org.tag == tag) = none →
    exec (.reamReadBulkComplete d n tag) s = .next (settled s s)) ∧
  (∀ (s : State) (r : Req), asks 0x0E04 r s = true → zeroAt r.payload 2 2 = true → eventRow (g2 r.payload 0) = none →
    exec (.reamCodeInfo r) s =
      .next (settled s (answered 0x0E04 r sOK (zeros 24) (begun 0x0E04 r s)))) ∧
  (∀ (s : State) (r : Req), asks 0x0E04 r s = true → zeroAt r.payload 2 2 = false →
    exec (.reamCodeInfo r) s =
      .next (settled s (answered 0x0E04 r sBADOBJ [] (begun 0x0E04 r s)))) ∧
  (∀ (s : State) (r : Req) (n : Nat) (row : Nat × List Nat × Bool), asks 0x0E04 r s = true → zeroAt r.payload 2 2 = true → n = g2 r.payload 0 → eventRow n = some row → bucketLimits s n = none →
    exec (.reamCodeInfo r) s =
      .next (settled s (answered 0x0E04 r sOK
        (p1 1 ++ p1 (row.2.1.sum / 4) ++ p1 (if eventProtected n = true then 3 else 0) ++ zeros 1 ++
          fit 8 (row.2.1.map (BitVec.ofNat 8)) ++ zeros 8 ++ p2 (min (tget s.ream.buckets n).withheld 65535) ++ zeros 2) (begun 0x0E04 r s)))) ∧
  (∀ (s : State) (r : Req) (n a p m : Nat) (row : Nat × List Nat × Bool), asks 0x0E04 r s = true → zeroAt r.payload 2 2 = true → n = g2 r.payload 0 → eventRow n = some row → bucketLimits s n = some (a, p, m) →
    exec (.reamCodeInfo r) s =
      .next (settled s (answered 0x0E04 r sOK
        (p1 1 ++ p1 (row.2.1.sum / 4) ++
          p1 (if eventProtected n = true then 3 else if ((policyEntry s n).map (fun e => bitOf (g1 e 2) 0)).getD false = true then 2 else 1) ++
          zeros 1 ++ fit 8 (row.2.1.map (BitVec.ofNat 8)) ++
          (p2 a ++ p2 p ++ p2 m ++ p2 (m - (tget s.ream.buckets n).spent)) ++ p2 (min (tget s.ream.buckets n).withheld 65535) ++ zeros 2) (begun 0x0E04 r s)))) ∧
  (∀ (s : State) (r : Req), asks 0x0E05 r s = true → s.net.key ≠ none → s.ream.refusing = false → clearable s (g4 r.payload 0) = true →
    exec (.reamChallenge r) s =
      .next (settled s (answered 0x0E05 r sOK (randomBytes 8 s ++ p8 s.sys.serial) (drawn 8 (onReam (fun m =>
        { m with challenge := some (leNat 8 (randomBytes 8 s), g4 r.payload 0, s.sys.devTime) }) (begun 0x0E05 r s)))))) ∧
  (∀ (s : State) (r : Req), asks 0x0E05 r s = true → (s.net.key = none ∨ s.ream.refusing = true) →
    exec (.reamChallenge r) s =
      .next (settled s (answered 0x0E05 r sAUTH [] (begun 0x0E05 r s)))) ∧
  (∀ (s : State) (r : Req), asks 0x0E05 r s = true → s.net.key ≠ none → s.ream.refusing = false → clearable s (g4 r.payload 0) = false →
    exec (.reamChallenge r) s =
      .next (settled s (answered 0x0E05 r sBADOBJ [] (begun 0x0E05 r s)))) ∧
  (∀ (s : State) (r : Req) (u : State) (nonce up t : Nat) (o : Org), asks 0x0E06 r s = true → s.net.key ≠ none → s.ream.refusing = false →
    clearable s (g4 r.payload 0) = true → s.ream.fallback = [] → s.ream.challenge = some (nonce, up, t) →
    u = onReam (fun m => { m with challenge := none }) (begun 0x0E06 r s) → up = g4 r.payload 0 → s.sys.devTime ≤ t + 60000000000 → o = reqOrg 0x0E06 r →
    exec (.reamClear r) s =
      .next (settled s (
        if r.payload.drop 4 ≠ clearProof s nonce up then answered 0x0E06 r sAUTH [] (wrongClear r.side u)
        else if canStore (.reamFloor o up) s = true then
          requestStore (.reamFloor o up) (addJob { org := o } u)
        else answered 0x0E06 r sNOENERGY [] (requestStore (.reamFloor o up) u)))) ∧
  (∀ (s : State) (r : Req) (u : State) (nonce up t : Nat), asks 0x0E06 r s = true → s.net.key ≠ none → s.ream.refusing = false →
    clearable s (g4 r.payload 0) = true → s.ream.fallback = [] → s.ream.challenge = some (nonce, up, t) →
    u = onReam (fun m => { m with challenge := none }) (begun 0x0E06 r s) → (up ≠ g4 r.payload 0 ∨ t + 60000000000 < s.sys.devTime) →
    exec (.reamClear r) s =
      .next (settled s (answered 0x0E06 r sAUTH [] u))) ∧
  (∀ (s : State) (r : Req), asks 0x0E06 r s = true → (s.net.key = none ∨ s.ream.refusing = true) →
    exec (.reamClear r) s =
      .next (settled s (answered 0x0E06 r sAUTH [] (begun 0x0E06 r s)))) ∧
  (∀ (s : State) (r : Req), asks 0x0E06 r s = true → s.net.key ≠ none → s.ream.refusing = false → clearable s (g4 r.payload 0) = false →
    exec (.reamClear r) s =
      .next (settled s (answered 0x0E06 r sBADOBJ [] (begun 0x0E06 r s)))) ∧
  (∀ (s : State) (r : Req), asks 0x0E06 r s = true → s.net.key ≠ none → s.ream.refusing = false → clearable s (g4 r.payload 0) = true →
    s.ream.fallback ≠ [] →
    exec (.reamClear r) s =
      .next (settled s (answered 0x0E06 r sBUSY [] (begun 0x0E06 r s)))) ∧
  (∀ (s : State) (r : Req), asks 0x0E06 r s = true → s.net.key ≠ none → s.ream.refusing = false → clearable s (g4 r.payload 0) = true →
    s.ream.fallback = [] → s.ream.challenge = none →
    exec (.reamClear r) s =
      .next (settled s (answered 0x0E06 r sAUTH [] (begun 0x0E06 r s)))) ∧
  (∀ s : State, s.ream.refusing = true → (∀ t ∈ s.ream.wrongProofs, t + 600000000000 ≤ s.sys.devTime) →
    exec .clearRefusalEnd s = .next (settled s (onReam (fun m => { m with refusing := false, wrongProofs := [] }) s))) ∧
  (∀ s : State, (s.ream.refusing = false ∨ ∃ t ∈ s.ream.wrongProofs, s.sys.devTime < t + 600000000000) →
    exec .clearRefusalEnd s = .next (settled s s)) ∧
  (∀ (s : State) (r : Req) (u : State), asks 0x0E07 r s = true → 0 ≤ i8 r.payload 0 → i8 r.payload 0 < 3155760000000 → s.net.ptpState ≠ 3 →
    u = timeSet (i8 r.payload 0) 1 (sideCode r.side) (addJob { org := reqOrg 0x0E07 r } (begun 0x0E07 r s)) →
    exec (.reamTimeSet r) s =
      .next (settled s (finish (reqOrg 0x0E07 r) sOK (p2 u.ream.epoch ++ zeros 2 ++ p4 (w32 (u.ream.nextSeq + 4294967295))) u))) ∧
  (∀ (s : State) (r : Req), asks 0x0E07 r s = true → (i8 r.payload 0 < 0 ∨ 3155760000000 ≤ i8 r.payload 0) →
    exec (.reamTimeSet r) s =
      .next (settled s (answered 0x0E07 r sBADOBJ [] (begun 0x0E07 r s)))) ∧
  (∀ (s : State) (r : Req), asks 0x0E07 r s = true → 0 ≤ i8 r.payload 0 → i8 r.payload 0 < 3155760000000 → s.net.ptpState = 3 →
    exec (.reamTimeSet r) s =
      .next (settled s (answered 0x0E07 r sWRONGMODE [] (begun 0x0E07 r s))))

/-- Clocks (R545–R555). -/
def Obligations.ClocksAct : Prop :=
  (∀ (s : State) (w : Nat), s.sys.mode ≠ .ice → s.sys.mode ≠ .vault → s.absorb.reexecuting = false →
    exec (.ref25Lost w) s = .next (settled s (coastNow 7 w s))) ∧
  (∀ (s : State) (w : Nat), s.sys.mode ≠ .ice → s.sys.mode ≠ .vault → s.absorb.reexecuting = true →
    exec (.ref25Lost w) s = .next (settled s (onClk (fun c => { c with coastDue := some (7, w) }) s))) ∧
  (∀ (s : State) (w p : Nat), (s.sys.mode = .ice ∨ s.sys.mode = .vault) →
    exec (.ref25Lost w) s = .next (settled s s) ∧ exec .ref25Restored s = .next (settled s s) ∧
    exec (.pllLockLost p) s = .next (settled s s)) ∧
  (∀ (s u : State) (t ms : Nat), s.clk.coastSince = some t → s.sys.mode ≠ .ice → s.sys.mode ≠ .vault → ms = nsMs (s.sys.devTime - t) →
    u = onClk (fun c =>
      { c with coastSince := none, coastPlls := 0, coastMs := w32 (c.coastMs + ms), state := (c.state ||| 0x7) &&& ~~~0x60 }) s →
    exec .ref25Restored s = .next (settled s (noteRom 0x0F13 [ms] u))) ∧
  (∀ s : State, s.clk.coastSince = none → exec .ref25Restored s = .next (settled s s)) ∧
  (∀ (s : State) (p : Nat), p < 3 → pllDown s p = false → s.sys.mode ≠ .ice → s.sys.mode ≠ .vault → s.absorb.reexecuting = false →
    exec (.pllLockLost p) s = .next (settled s (coastNow (2 ^ p) 0 (noteRom 0x0F17 [p] s)))) ∧
  (∀ (s : State) (p : Nat), p < 3 → pllDown s p = false → s.sys.mode ≠ .ice → s.sys.mode ≠ .vault → s.absorb.reexecuting = true →
    exec (.pllLockLost p) s =
      .next (settled s (onClk (fun c => { c with coastDue := some (2 ^ p, 0) }) (noteRom 0x0F17 [p] s)))) ∧
  (∀ (s : State) (p : Nat), (3 ≤ p ∨ pllDown s p = true) → exec (.pllLockLost p) s = .next (settled s s)) ∧
  (∀ s u : State, s.clk.rtcFailed = false → u = clkSticky 0x8 (clkState 0x80 false (onClk (fun c => { c with rtcFailed := true }) s)) →
    exec .rtc32Failed s = .next (settled s (noteRom 0x0F15 [1] u)) ∧
    exec .rtc32Restored s = .next (settled s s)) ∧
  (∀ s u : State, s.clk.rtcFailed = true → u = clkState 0x80 true (onClk (fun c => { c with rtcFailed := false }) s) →
    exec .rtc32Restored s = .next (settled s (noteRom 0x0F15 [2] u)) ∧
    exec .rtc32Failed s = .next (settled s s)) ∧
  (∀ (s : State) (m a b : Nat),
    exec (.muxForced m a b) s =
      .next (settled s (noteRom 0x0F11 [m, a, b] (clkSticky 0x1 s)))) ∧
  (∀ (s u : State) (block i addr : Nat), u = noteRom 0x0F12 [block, i, addr] (clkSticky 0x2 s) →
    exec (.gateBusyTimeout block i addr) s =
      .next (settled s (if i = 2 then onSys (fun y => { y with busError := true }) u else u))) ∧
  (∀ (s : State) (item : Nat) (trim : Int),
    exec (.oscCompensation item trim) s =
      .next (settled s (if item = 0 then onPower (fun p => { p with rtcOffset := trim }) s else s))) ∧
  (∀ (s : State) (n m start : Nat) (o : Org) (a b g : Nat), s.clk.measure = some (o, a, b, g) →
    sourceRuns s a = true → sourceRuns s b = true →
    exec (.freqMeasureDone n m start) s =
      .next (settled s (drawn 2 (finish o sOK (p4 n ++ p4 m ++ freqFigures s a b n m ++ p8 start)
        (onClk (fun c => { c with measure := none }) (commitJob o s)))))) ∧
  (∀ (s : State) (n m start : Nat) (o : Org) (a b g : Nat), s.clk.measure = some (o, a, b, g) →
    (sourceRuns s a = false ∨ sourceRuns s b = false) → exec (.freqMeasureDone n m start) s = .next (settled s s)) ∧
  (∀ (s : State) (o : Org) (a b g : Nat), s.clk.measure = some (o, a, b, g) →
    exec .freqMeasureTimeout s = .next (settled s (finish o sTIMEOUT [] (onClk (fun c => { c with measure := none }) s)))) ∧
  (∀ (s : State) (n m start : Nat), s.clk.measure = none →
    exec (.freqMeasureDone n m start) s = .next (settled s s) ∧ exec .freqMeasureTimeout s = .next (settled s s)) ∧
  (∀ (s : State) (r : Req), asks 0x0F01 r s = true → g1 r.payload 0 ≤ 1 → zeroAt r.payload 1 3 = true →
    exec (.clkStatus r) s =
      .next (settled s (answered 0x0F01 r sOK
        (p4 (clkStateWord s) ++ p4 s.clk.sticky.toNat ++ p4 s.clk.gate0.toNat ++ p4 s.clk.gate1.toNat ++ p4 (openWord s) ++
          p4 (coastTotal s)) (if g1 r.payload 0 = 1 then onClk (fun c => { c with sticky := 0 }) (begun 0x0F01 r s) else begun 0x0F01 r s)))) ∧
  (∀ (s : State) (r : Req), asks 0x0F01 r s = true → (1 < g1 r.payload 0 ∨ zeroAt r.payload 1 3 = false) →
    exec (.clkStatus r) s =
      .next (settled s (answered 0x0F01 r sBADOBJ [] (begun 0x0F01 r s)))) ∧
  (∀ (s : State) (r : Req) (u t : State) (q : Nat) (v : Reg), asks 0x0F02 r s = true → q = g1 r.payload 0 → q ≤ 1 → zeroAt r.payload 1 3 = true →
    v = BitVec.ofNat 32 (g4 r.payload 4) → v &&& gateFixed q = gateReset q &&& gateFixed q →
    u = onClk (fun c => if q = 0 then { c with gate0 := v } else { c with gate1 := v }) (begun 0x0F02 r s) →
    t = noteBy r.side 0x0F16 [sideCode r.side, q, (gateReg s q).toNat, v.toNat] u →
    exec (.clkGate r) s =
      .next (settled s (finish (reqOrg 0x0F02 r) sOK (p4 (openWord t)) (addJob { org := reqOrg 0x0F02 r } t)))) ∧
  (∀ (s : State) (r : Req) (q : Nat) (v : Reg), asks 0x0F02 r s = true → q = g1 r.payload 0 → v = BitVec.ofNat 32 (g4 r.payload 4) →
    (1 < q ∨ zeroAt r.payload 1 3 = false ∨ v &&& gateFixed q ≠ gateReset q &&& gateFixed q) →
    exec (.clkGate r) s =
      .next (settled s (answered 0x0F02 r sBADOBJ [] (begun 0x0F02 r s)))) ∧
  (∀ (s : State) (r : Req), asks 0x0F03 r s = true → g1 r.payload 0 ≤ 23 → g1 r.payload 1 ≤ 23 → g1 r.payload 0 ≠ g1 r.payload 1 →
    zeroAt r.payload 2 2 = true → 1 ≤ g4 r.payload 4 → g4 r.payload 4 ≤ 1000000 → gateOpen s 13 = true → s.clk.measure = none →
    exec (.clkMeasure r) s =
      .next (settled s (addJob { org := reqOrg 0x0F03 r }
        (onClk (fun c => { c with measure := some (reqOrg 0x0F03 r, g1 r.payload 0, g1 r.payload 1, g4 r.payload 4) })
          (begun 0x0F03 r s))))) ∧
  (∀ (s : State) (r : Req), asks 0x0F03 r s = true → (23 < g1 r.payload 0 ∨ 23 < g1 r.payload 1 ∨ g1 r.payload 0 = g1 r.payload 1 ∨
      zeroAt r.payload 2 2 = false ∨ g4 r.payload 4 = 0 ∨ 1000000 < g4 r.payload 4) →
    exec (.clkMeasure r) s =
      .next (settled s (answered 0x0F03 r sBADOBJ [] (begun 0x0F03 r s)))) ∧
  (∀ (s : State) (r : Req), asks 0x0F03 r s = true → g1 r.payload 0 ≤ 23 → g1 r.payload 1 ≤ 23 → g1 r.payload 0 ≠ g1 r.payload 1 →
    zeroAt r.payload 2 2 = true → 1 ≤ g4 r.payload 4 → g4 r.payload 4 ≤ 1000000 → gateOpen s 13 = false →
    exec (.clkMeasure r) s =
      .next (settled s (answered 0x0F03 r sWRONGMODE [] (begun 0x0F03 r s)))) ∧
  (∀ (s : State) (r : Req), asks 0x0F03 r s = true → g1 r.payload 0 ≤ 23 → g1 r.payload 1 ≤ 23 → g1 r.payload 0 ≠ g1 r.payload 1 →
    zeroAt r.payload 2 2 = true → 1 ≤ g4 r.payload 4 → g4 r.payload 4 ≤ 1000000 → gateOpen s 13 = true → s.clk.measure ≠ none →
    exec (.clkMeasure r) s =
      .next (settled s (answered 0x0F03 r sBUSY [] (begun 0x0F03 r s))))
end

