-- ==== Sys2Proof/Laws/State.lean ====
section
/-! SUPPORT. Every part of the state after a change of one part: each by rfl, so that no proof unfolds a record update. -/

namespace Sys2Proof.Machine

/-! onSys. -/
@[simp] theorem onSys_sys (f : Sys → Sys) (s : State) : (onSys f s).sys = f s.sys := rfl
@[simp] theorem onSys_hifSpi (f : Sys → Sys) (s : State) : (onSys f s).hifSpi = s.hifSpi := rfl
@[simp] theorem onSys_hifApp (f : Sys → Sys) (s : State) : (onSys f s).hifApp = s.hifApp := rfl
@[simp] theorem onSys_mail (f : Sys → Sys) (s : State) : (onSys f s).mail = s.mail := rfl
@[simp] theorem onSys_hb (f : Sys → Sys) (s : State) : (onSys f s).hb = s.hb := rfl
@[simp] theorem onSys_cfg (f : Sys → Sys) (s : State) : (onSys f s).cfg = s.cfg := rfl
@[simp] theorem onSys_stn (f : Sys → Sys) (s : State) : (onSys f s).stn = s.stn := rfl
@[simp] theorem onSys_felt (f : Sys → Sys) (s : State) : (onSys f s).felt = s.felt := rfl
@[simp] theorem onSys_weir (f : Sys → Sys) (s : State) : (onSys f s).weir = s.weir := rfl
@[simp] theorem onSys_island (f : Sys → Sys) (s : State) : (onSys f s).island = s.island := rfl
@[simp] theorem onSys_engine (f : Sys → Sys) (s : State) : (onSys f s).engine = s.engine := rfl
@[simp] theorem onSys_wgt (f : Sys → Sys) (s : State) : (onSys f s).wgt = s.wgt := rfl
@[simp] theorem onSys_zones (f : Sys → Sys) (s : State) : (onSys f s).zones = s.zones := rfl
@[simp] theorem onSys_valves (f : Sys → Sys) (s : State) : (onSys f s).valves = s.valves := rfl
@[simp] theorem onSys_field (f : Sys → Sys) (s : State) : (onSys f s).field = s.field := rfl
@[simp] theorem onSys_bus (f : Sys → Sys) (s : State) : (onSys f s).bus = s.bus := rfl
@[simp] theorem onSys_net (f : Sys → Sys) (s : State) : (onSys f s).net = s.net := rfl
@[simp] theorem onSys_fsh (f : Sys → Sys) (s : State) : (onSys f s).fsh = s.fsh := rfl
@[simp] theorem onSys_ream (f : Sys → Sys) (s : State) : (onSys f s).ream = s.ream := rfl
@[simp] theorem onSys_absorb (f : Sys → Sys) (s : State) : (onSys f s).absorb = s.absorb := rfl
@[simp] theorem onSys_clk (f : Sys → Sys) (s : State) : (onSys f s).clk = s.clk := rfl
@[simp] theorem onSys_power (f : Sys → Sys) (s : State) : (onSys f s).power = s.power := rfl
@[simp] theorem onSys_fresh (f : Sys → Sys) (s : State) : (onSys f s).fresh = s.fresh := rfl
@[simp] theorem onSys_pending (f : Sys → Sys) (s : State) : (onSys f s).pending = s.pending := rfl

/-! onMail. -/
@[simp] theorem onMail_sys (f : Mail → Mail) (s : State) : (onMail f s).sys = s.sys := rfl
@[simp] theorem onMail_hifSpi (f : Mail → Mail) (s : State) : (onMail f s).hifSpi = s.hifSpi := rfl
@[simp] theorem onMail_hifApp (f : Mail → Mail) (s : State) : (onMail f s).hifApp = s.hifApp := rfl
@[simp] theorem onMail_mail (f : Mail → Mail) (s : State) : (onMail f s).mail = f s.mail := rfl
@[simp] theorem onMail_hb (f : Mail → Mail) (s : State) : (onMail f s).hb = s.hb := rfl
@[simp] theorem onMail_cfg (f : Mail → Mail) (s : State) : (onMail f s).cfg = s.cfg := rfl
@[simp] theorem onMail_stn (f : Mail → Mail) (s : State) : (onMail f s).stn = s.stn := rfl
@[simp] theorem onMail_felt (f : Mail → Mail) (s : State) : (onMail f s).felt = s.felt := rfl
@[simp] theorem onMail_weir (f : Mail → Mail) (s : State) : (onMail f s).weir = s.weir := rfl
@[simp] theorem onMail_island (f : Mail → Mail) (s : State) : (onMail f s).island = s.island := rfl
@[simp] theorem onMail_engine (f : Mail → Mail) (s : State) : (onMail f s).engine = s.engine := rfl
@[simp] theorem onMail_wgt (f : Mail → Mail) (s : State) : (onMail f s).wgt = s.wgt := rfl
@[simp] theorem onMail_zones (f : Mail → Mail) (s : State) : (onMail f s).zones = s.zones := rfl
@[simp] theorem onMail_valves (f : Mail → Mail) (s : State) : (onMail f s).valves = s.valves := rfl
@[simp] theorem onMail_field (f : Mail → Mail) (s : State) : (onMail f s).field = s.field := rfl
@[simp] theorem onMail_bus (f : Mail → Mail) (s : State) : (onMail f s).bus = s.bus := rfl
@[simp] theorem onMail_net (f : Mail → Mail) (s : State) : (onMail f s).net = s.net := rfl
@[simp] theorem onMail_fsh (f : Mail → Mail) (s : State) : (onMail f s).fsh = s.fsh := rfl
@[simp] theorem onMail_ream (f : Mail → Mail) (s : State) : (onMail f s).ream = s.ream := rfl
@[simp] theorem onMail_absorb (f : Mail → Mail) (s : State) : (onMail f s).absorb = s.absorb := rfl
@[simp] theorem onMail_clk (f : Mail → Mail) (s : State) : (onMail f s).clk = s.clk := rfl
@[simp] theorem onMail_power (f : Mail → Mail) (s : State) : (onMail f s).power = s.power := rfl
@[simp] theorem onMail_fresh (f : Mail → Mail) (s : State) : (onMail f s).fresh = s.fresh := rfl
@[simp] theorem onMail_pending (f : Mail → Mail) (s : State) : (onMail f s).pending = s.pending := rfl

/-! onHb. -/
@[simp] theorem onHb_sys (f : Heartbeat → Heartbeat) (s : State) : (onHb f s).sys = s.sys := rfl
@[simp] theorem onHb_hifSpi (f : Heartbeat → Heartbeat) (s : State) : (onHb f s).hifSpi = s.hifSpi := rfl
@[simp] theorem onHb_hifApp (f : Heartbeat → Heartbeat) (s : State) : (onHb f s).hifApp = s.hifApp := rfl
@[simp] theorem onHb_mail (f : Heartbeat → Heartbeat) (s : State) : (onHb f s).mail = s.mail := rfl
@[simp] theorem onHb_hb (f : Heartbeat → Heartbeat) (s : State) : (onHb f s).hb = f s.hb := rfl
@[simp] theorem onHb_cfg (f : Heartbeat → Heartbeat) (s : State) : (onHb f s).cfg = s.cfg := rfl
@[simp] theorem onHb_stn (f : Heartbeat → Heartbeat) (s : State) : (onHb f s).stn = s.stn := rfl
@[simp] theorem onHb_felt (f : Heartbeat → Heartbeat) (s : State) : (onHb f s).felt = s.felt := rfl
@[simp] theorem onHb_weir (f : Heartbeat → Heartbeat) (s : State) : (onHb f s).weir = s.weir := rfl
@[simp] theorem onHb_island (f : Heartbeat → Heartbeat) (s : State) : (onHb f s).island = s.island := rfl
@[simp] theorem onHb_engine (f : Heartbeat → Heartbeat) (s : State) : (onHb f s).engine = s.engine := rfl
@[simp] theorem onHb_wgt (f : Heartbeat → Heartbeat) (s : State) : (onHb f s).wgt = s.wgt := rfl
@[simp] theorem onHb_zones (f : Heartbeat → Heartbeat) (s : State) : (onHb f s).zones = s.zones := rfl
@[simp] theorem onHb_valves (f : Heartbeat → Heartbeat) (s : State) : (onHb f s).valves = s.valves := rfl
@[simp] theorem onHb_field (f : Heartbeat → Heartbeat) (s : State) : (onHb f s).field = s.field := rfl
@[simp] theorem onHb_bus (f : Heartbeat → Heartbeat) (s : State) : (onHb f s).bus = s.bus := rfl
@[simp] theorem onHb_net (f : Heartbeat → Heartbeat) (s : State) : (onHb f s).net = s.net := rfl
@[simp] theorem onHb_fsh (f : Heartbeat → Heartbeat) (s : State) : (onHb f s).fsh = s.fsh := rfl
@[simp] theorem onHb_ream (f : Heartbeat → Heartbeat) (s : State) : (onHb f s).ream = s.ream := rfl
@[simp] theorem onHb_absorb (f : Heartbeat → Heartbeat) (s : State) : (onHb f s).absorb = s.absorb := rfl
@[simp] theorem onHb_clk (f : Heartbeat → Heartbeat) (s : State) : (onHb f s).clk = s.clk := rfl
@[simp] theorem onHb_power (f : Heartbeat → Heartbeat) (s : State) : (onHb f s).power = s.power := rfl
@[simp] theorem onHb_fresh (f : Heartbeat → Heartbeat) (s : State) : (onHb f s).fresh = s.fresh := rfl
@[simp] theorem onHb_pending (f : Heartbeat → Heartbeat) (s : State) : (onHb f s).pending = s.pending := rfl

/-! onCfg. -/
@[simp] theorem onCfg_sys (f : Cfg → Cfg) (s : State) : (onCfg f s).sys = s.sys := rfl
@[simp] theorem onCfg_hifSpi (f : Cfg → Cfg) (s : State) : (onCfg f s).hifSpi = s.hifSpi := rfl
@[simp] theorem onCfg_hifApp (f : Cfg → Cfg) (s : State) : (onCfg f s).hifApp = s.hifApp := rfl
@[simp] theorem onCfg_mail (f : Cfg → Cfg) (s : State) : (onCfg f s).mail = s.mail := rfl
@[simp] theorem onCfg_hb (f : Cfg → Cfg) (s : State) : (onCfg f s).hb = s.hb := rfl
@[simp] theorem onCfg_cfg (f : Cfg → Cfg) (s : State) : (onCfg f s).cfg = f s.cfg := rfl
@[simp] theorem onCfg_stn (f : Cfg → Cfg) (s : State) : (onCfg f s).stn = s.stn := rfl
@[simp] theorem onCfg_felt (f : Cfg → Cfg) (s : State) : (onCfg f s).felt = s.felt := rfl
@[simp] theorem onCfg_weir (f : Cfg → Cfg) (s : State) : (onCfg f s).weir = s.weir := rfl
@[simp] theorem onCfg_island (f : Cfg → Cfg) (s : State) : (onCfg f s).island = s.island := rfl
@[simp] theorem onCfg_engine (f : Cfg → Cfg) (s : State) : (onCfg f s).engine = s.engine := rfl
@[simp] theorem onCfg_wgt (f : Cfg → Cfg) (s : State) : (onCfg f s).wgt = s.wgt := rfl
@[simp] theorem onCfg_zones (f : Cfg → Cfg) (s : State) : (onCfg f s).zones = s.zones := rfl
@[simp] theorem onCfg_valves (f : Cfg → Cfg) (s : State) : (onCfg f s).valves = s.valves := rfl
@[simp] theorem onCfg_field (f : Cfg → Cfg) (s : State) : (onCfg f s).field = s.field := rfl
@[simp] theorem onCfg_bus (f : Cfg → Cfg) (s : State) : (onCfg f s).bus = s.bus := rfl
@[simp] theorem onCfg_net (f : Cfg → Cfg) (s : State) : (onCfg f s).net = s.net := rfl
@[simp] theorem onCfg_fsh (f : Cfg → Cfg) (s : State) : (onCfg f s).fsh = s.fsh := rfl
@[simp] theorem onCfg_ream (f : Cfg → Cfg) (s : State) : (onCfg f s).ream = s.ream := rfl
@[simp] theorem onCfg_absorb (f : Cfg → Cfg) (s : State) : (onCfg f s).absorb = s.absorb := rfl
@[simp] theorem onCfg_clk (f : Cfg → Cfg) (s : State) : (onCfg f s).clk = s.clk := rfl
@[simp] theorem onCfg_power (f : Cfg → Cfg) (s : State) : (onCfg f s).power = s.power := rfl
@[simp] theorem onCfg_fresh (f : Cfg → Cfg) (s : State) : (onCfg f s).fresh = s.fresh := rfl
@[simp] theorem onCfg_pending (f : Cfg → Cfg) (s : State) : (onCfg f s).pending = s.pending := rfl

/-! onStn. -/
@[simp] theorem onStn_sys (f : Stn → Stn) (s : State) : (onStn f s).sys = s.sys := rfl
@[simp] theorem onStn_hifSpi (f : Stn → Stn) (s : State) : (onStn f s).hifSpi = s.hifSpi := rfl
@[simp] theorem onStn_hifApp (f : Stn → Stn) (s : State) : (onStn f s).hifApp = s.hifApp := rfl
@[simp] theorem onStn_mail (f : Stn → Stn) (s : State) : (onStn f s).mail = s.mail := rfl
@[simp] theorem onStn_hb (f : Stn → Stn) (s : State) : (onStn f s).hb = s.hb := rfl
@[simp] theorem onStn_cfg (f : Stn → Stn) (s : State) : (onStn f s).cfg = s.cfg := rfl
@[simp] theorem onStn_stn (f : Stn → Stn) (s : State) : (onStn f s).stn = f s.stn := rfl
@[simp] theorem onStn_felt (f : Stn → Stn) (s : State) : (onStn f s).felt = s.felt := rfl
@[simp] theorem onStn_weir (f : Stn → Stn) (s : State) : (onStn f s).weir = s.weir := rfl
@[simp] theorem onStn_island (f : Stn → Stn) (s : State) : (onStn f s).island = s.island := rfl
@[simp] theorem onStn_engine (f : Stn → Stn) (s : State) : (onStn f s).engine = s.engine := rfl
@[simp] theorem onStn_wgt (f : Stn → Stn) (s : State) : (onStn f s).wgt = s.wgt := rfl
@[simp] theorem onStn_zones (f : Stn → Stn) (s : State) : (onStn f s).zones = s.zones := rfl
@[simp] theorem onStn_valves (f : Stn → Stn) (s : State) : (onStn f s).valves = s.valves := rfl
@[simp] theorem onStn_field (f : Stn → Stn) (s : State) : (onStn f s).field = s.field := rfl
@[simp] theorem onStn_bus (f : Stn → Stn) (s : State) : (onStn f s).bus = s.bus := rfl
@[simp] theorem onStn_net (f : Stn → Stn) (s : State) : (onStn f s).net = s.net := rfl
@[simp] theorem onStn_fsh (f : Stn → Stn) (s : State) : (onStn f s).fsh = s.fsh := rfl
@[simp] theorem onStn_ream (f : Stn → Stn) (s : State) : (onStn f s).ream = s.ream := rfl
@[simp] theorem onStn_absorb (f : Stn → Stn) (s : State) : (onStn f s).absorb = s.absorb := rfl
@[simp] theorem onStn_clk (f : Stn → Stn) (s : State) : (onStn f s).clk = s.clk := rfl
@[simp] theorem onStn_power (f : Stn → Stn) (s : State) : (onStn f s).power = s.power := rfl
@[simp] theorem onStn_fresh (f : Stn → Stn) (s : State) : (onStn f s).fresh = s.fresh := rfl
@[simp] theorem onStn_pending (f : Stn → Stn) (s : State) : (onStn f s).pending = s.pending := rfl

/-! onFelt. -/
@[simp] theorem onFelt_sys (f : FeltSys → FeltSys) (s : State) : (onFelt f s).sys = s.sys := rfl
@[simp] theorem onFelt_hifSpi (f : FeltSys → FeltSys) (s : State) : (onFelt f s).hifSpi = s.hifSpi := rfl
@[simp] theorem onFelt_hifApp (f : FeltSys → FeltSys) (s : State) : (onFelt f s).hifApp = s.hifApp := rfl
@[simp] theorem onFelt_mail (f : FeltSys → FeltSys) (s : State) : (onFelt f s).mail = s.mail := rfl
@[simp] theorem onFelt_hb (f : FeltSys → FeltSys) (s : State) : (onFelt f s).hb = s.hb := rfl
@[simp] theorem onFelt_cfg (f : FeltSys → FeltSys) (s : State) : (onFelt f s).cfg = s.cfg := rfl
@[simp] theorem onFelt_stn (f : FeltSys → FeltSys) (s : State) : (onFelt f s).stn = s.stn := rfl
@[simp] theorem onFelt_felt (f : FeltSys → FeltSys) (s : State) : (onFelt f s).felt = f s.felt := rfl
@[simp] theorem onFelt_weir (f : FeltSys → FeltSys) (s : State) : (onFelt f s).weir = s.weir := rfl
@[simp] theorem onFelt_island (f : FeltSys → FeltSys) (s : State) : (onFelt f s).island = s.island := rfl
@[simp] theorem onFelt_engine (f : FeltSys → FeltSys) (s : State) : (onFelt f s).engine = s.engine := rfl
@[simp] theorem onFelt_wgt (f : FeltSys → FeltSys) (s : State) : (onFelt f s).wgt = s.wgt := rfl
@[simp] theorem onFelt_zones (f : FeltSys → FeltSys) (s : State) : (onFelt f s).zones = s.zones := rfl
@[simp] theorem onFelt_valves (f : FeltSys → FeltSys) (s : State) : (onFelt f s).valves = s.valves := rfl
@[simp] theorem onFelt_field (f : FeltSys → FeltSys) (s : State) : (onFelt f s).field = s.field := rfl
@[simp] theorem onFelt_bus (f : FeltSys → FeltSys) (s : State) : (onFelt f s).bus = s.bus := rfl
@[simp] theorem onFelt_net (f : FeltSys → FeltSys) (s : State) : (onFelt f s).net = s.net := rfl
@[simp] theorem onFelt_fsh (f : FeltSys → FeltSys) (s : State) : (onFelt f s).fsh = s.fsh := rfl
@[simp] theorem onFelt_ream (f : FeltSys → FeltSys) (s : State) : (onFelt f s).ream = s.ream := rfl
@[simp] theorem onFelt_absorb (f : FeltSys → FeltSys) (s : State) : (onFelt f s).absorb = s.absorb := rfl
@[simp] theorem onFelt_clk (f : FeltSys → FeltSys) (s : State) : (onFelt f s).clk = s.clk := rfl
@[simp] theorem onFelt_power (f : FeltSys → FeltSys) (s : State) : (onFelt f s).power = s.power := rfl
@[simp] theorem onFelt_fresh (f : FeltSys → FeltSys) (s : State) : (onFelt f s).fresh = s.fresh := rfl
@[simp] theorem onFelt_pending (f : FeltSys → FeltSys) (s : State) : (onFelt f s).pending = s.pending := rfl

/-! onWeir. -/
@[simp] theorem onWeir_sys (f : Weir → Weir) (s : State) : (onWeir f s).sys = s.sys := rfl
@[simp] theorem onWeir_hifSpi (f : Weir → Weir) (s : State) : (onWeir f s).hifSpi = s.hifSpi := rfl
@[simp] theorem onWeir_hifApp (f : Weir → Weir) (s : State) : (onWeir f s).hifApp = s.hifApp := rfl
@[simp] theorem onWeir_mail (f : Weir → Weir) (s : State) : (onWeir f s).mail = s.mail := rfl
@[simp] theorem onWeir_hb (f : Weir → Weir) (s : State) : (onWeir f s).hb = s.hb := rfl
@[simp] theorem onWeir_cfg (f : Weir → Weir) (s : State) : (onWeir f s).cfg = s.cfg := rfl
@[simp] theorem onWeir_stn (f : Weir → Weir) (s : State) : (onWeir f s).stn = s.stn := rfl
@[simp] theorem onWeir_felt (f : Weir → Weir) (s : State) : (onWeir f s).felt = s.felt := rfl
@[simp] theorem onWeir_weir (f : Weir → Weir) (s : State) : (onWeir f s).weir = f s.weir := rfl
@[simp] theorem onWeir_island (f : Weir → Weir) (s : State) : (onWeir f s).island = s.island := rfl
@[simp] theorem onWeir_engine (f : Weir → Weir) (s : State) : (onWeir f s).engine = s.engine := rfl
@[simp] theorem onWeir_wgt (f : Weir → Weir) (s : State) : (onWeir f s).wgt = s.wgt := rfl
@[simp] theorem onWeir_zones (f : Weir → Weir) (s : State) : (onWeir f s).zones = s.zones := rfl
@[simp] theorem onWeir_valves (f : Weir → Weir) (s : State) : (onWeir f s).valves = s.valves := rfl
@[simp] theorem onWeir_field (f : Weir → Weir) (s : State) : (onWeir f s).field = s.field := rfl
@[simp] theorem onWeir_bus (f : Weir → Weir) (s : State) : (onWeir f s).bus = s.bus := rfl
@[simp] theorem onWeir_net (f : Weir → Weir) (s : State) : (onWeir f s).net = s.net := rfl
@[simp] theorem onWeir_fsh (f : Weir → Weir) (s : State) : (onWeir f s).fsh = s.fsh := rfl
@[simp] theorem onWeir_ream (f : Weir → Weir) (s : State) : (onWeir f s).ream = s.ream := rfl
@[simp] theorem onWeir_absorb (f : Weir → Weir) (s : State) : (onWeir f s).absorb = s.absorb := rfl
@[simp] theorem onWeir_clk (f : Weir → Weir) (s : State) : (onWeir f s).clk = s.clk := rfl
@[simp] theorem onWeir_power (f : Weir → Weir) (s : State) : (onWeir f s).power = s.power := rfl
@[simp] theorem onWeir_fresh (f : Weir → Weir) (s : State) : (onWeir f s).fresh = s.fresh := rfl
@[simp] theorem onWeir_pending (f : Weir → Weir) (s : State) : (onWeir f s).pending = s.pending := rfl

/-! onIsland. -/
@[simp] theorem onIsland_sys (f : Island → Island) (s : State) : (onIsland f s).sys = s.sys := rfl
@[simp] theorem onIsland_hifSpi (f : Island → Island) (s : State) : (onIsland f s).hifSpi = s.hifSpi := rfl
@[simp] theorem onIsland_hifApp (f : Island → Island) (s : State) : (onIsland f s).hifApp = s.hifApp := rfl
@[simp] theorem onIsland_mail (f : Island → Island) (s : State) : (onIsland f s).mail = s.mail := rfl
@[simp] theorem onIsland_hb (f : Island → Island) (s : State) : (onIsland f s).hb = s.hb := rfl
@[simp] theorem onIsland_cfg (f : Island → Island) (s : State) : (onIsland f s).cfg = s.cfg := rfl
@[simp] theorem onIsland_stn (f : Island → Island) (s : State) : (onIsland f s).stn = s.stn := rfl
@[simp] theorem onIsland_felt (f : Island → Island) (s : State) : (onIsland f s).felt = s.felt := rfl
@[simp] theorem onIsland_weir (f : Island → Island) (s : State) : (onIsland f s).weir = s.weir := rfl
@[simp] theorem onIsland_island (f : Island → Island) (s : State) : (onIsland f s).island = f s.island := rfl
@[simp] theorem onIsland_engine (f : Island → Island) (s : State) : (onIsland f s).engine = s.engine := rfl
@[simp] theorem onIsland_wgt (f : Island → Island) (s : State) : (onIsland f s).wgt = s.wgt := rfl
@[simp] theorem onIsland_zones (f : Island → Island) (s : State) : (onIsland f s).zones = s.zones := rfl
@[simp] theorem onIsland_valves (f : Island → Island) (s : State) : (onIsland f s).valves = s.valves := rfl
@[simp] theorem onIsland_field (f : Island → Island) (s : State) : (onIsland f s).field = s.field := rfl
@[simp] theorem onIsland_bus (f : Island → Island) (s : State) : (onIsland f s).bus = s.bus := rfl
@[simp] theorem onIsland_net (f : Island → Island) (s : State) : (onIsland f s).net = s.net := rfl
@[simp] theorem onIsland_fsh (f : Island → Island) (s : State) : (onIsland f s).fsh = s.fsh := rfl
@[simp] theorem onIsland_ream (f : Island → Island) (s : State) : (onIsland f s).ream = s.ream := rfl
@[simp] theorem onIsland_absorb (f : Island → Island) (s : State) : (onIsland f s).absorb = s.absorb := rfl
@[simp] theorem onIsland_clk (f : Island → Island) (s : State) : (onIsland f s).clk = s.clk := rfl
@[simp] theorem onIsland_power (f : Island → Island) (s : State) : (onIsland f s).power = s.power := rfl
@[simp] theorem onIsland_fresh (f : Island → Island) (s : State) : (onIsland f s).fresh = s.fresh := rfl
@[simp] theorem onIsland_pending (f : Island → Island) (s : State) : (onIsland f s).pending = s.pending := rfl

/-! onEngine. -/
@[simp] theorem onEngine_sys (f : Engine → Engine) (s : State) : (onEngine f s).sys = s.sys := rfl
@[simp] theorem onEngine_hifSpi (f : Engine → Engine) (s : State) : (onEngine f s).hifSpi = s.hifSpi := rfl
@[simp] theorem onEngine_hifApp (f : Engine → Engine) (s : State) : (onEngine f s).hifApp = s.hifApp := rfl
@[simp] theorem onEngine_mail (f : Engine → Engine) (s : State) : (onEngine f s).mail = s.mail := rfl
@[simp] theorem onEngine_hb (f : Engine → Engine) (s : State) : (onEngine f s).hb = s.hb := rfl
@[simp] theorem onEngine_cfg (f : Engine → Engine) (s : State) : (onEngine f s).cfg = s.cfg := rfl
@[simp] theorem onEngine_stn (f : Engine → Engine) (s : State) : (onEngine f s).stn = s.stn := rfl
@[simp] theorem onEngine_felt (f : Engine → Engine) (s : State) : (onEngine f s).felt = s.felt := rfl
@[simp] theorem onEngine_weir (f : Engine → Engine) (s : State) : (onEngine f s).weir = s.weir := rfl
@[simp] theorem onEngine_island (f : Engine → Engine) (s : State) : (onEngine f s).island = s.island := rfl
@[simp] theorem onEngine_engine (f : Engine → Engine) (s : State) : (onEngine f s).engine = f s.engine := rfl
@[simp] theorem onEngine_wgt (f : Engine → Engine) (s : State) : (onEngine f s).wgt = s.wgt := rfl
@[simp] theorem onEngine_zones (f : Engine → Engine) (s : State) : (onEngine f s).zones = s.zones := rfl
@[simp] theorem onEngine_valves (f : Engine → Engine) (s : State) : (onEngine f s).valves = s.valves := rfl
@[simp] theorem onEngine_field (f : Engine → Engine) (s : State) : (onEngine f s).field = s.field := rfl
@[simp] theorem onEngine_bus (f : Engine → Engine) (s : State) : (onEngine f s).bus = s.bus := rfl
@[simp] theorem onEngine_net (f : Engine → Engine) (s : State) : (onEngine f s).net = s.net := rfl
@[simp] theorem onEngine_fsh (f : Engine → Engine) (s : State) : (onEngine f s).fsh = s.fsh := rfl
@[simp] theorem onEngine_ream (f : Engine → Engine) (s : State) : (onEngine f s).ream = s.ream := rfl
@[simp] theorem onEngine_absorb (f : Engine → Engine) (s : State) : (onEngine f s).absorb = s.absorb := rfl
@[simp] theorem onEngine_clk (f : Engine → Engine) (s : State) : (onEngine f s).clk = s.clk := rfl
@[simp] theorem onEngine_power (f : Engine → Engine) (s : State) : (onEngine f s).power = s.power := rfl
@[simp] theorem onEngine_fresh (f : Engine → Engine) (s : State) : (onEngine f s).fresh = s.fresh := rfl
@[simp] theorem onEngine_pending (f : Engine → Engine) (s : State) : (onEngine f s).pending = s.pending := rfl

/-! onWgt. -/
@[simp] theorem onWgt_sys (f : Tbl WChan → Tbl WChan) (s : State) : (onWgt f s).sys = s.sys := rfl
@[simp] theorem onWgt_hifSpi (f : Tbl WChan → Tbl WChan) (s : State) : (onWgt f s).hifSpi = s.hifSpi := rfl
@[simp] theorem onWgt_hifApp (f : Tbl WChan → Tbl WChan) (s : State) : (onWgt f s).hifApp = s.hifApp := rfl
@[simp] theorem onWgt_mail (f : Tbl WChan → Tbl WChan) (s : State) : (onWgt f s).mail = s.mail := rfl
@[simp] theorem onWgt_hb (f : Tbl WChan → Tbl WChan) (s : State) : (onWgt f s).hb = s.hb := rfl
@[simp] theorem onWgt_cfg (f : Tbl WChan → Tbl WChan) (s : State) : (onWgt f s).cfg = s.cfg := rfl
@[simp] theorem onWgt_stn (f : Tbl WChan → Tbl WChan) (s : State) : (onWgt f s).stn = s.stn := rfl
@[simp] theorem onWgt_felt (f : Tbl WChan → Tbl WChan) (s : State) : (onWgt f s).felt = s.felt := rfl
@[simp] theorem onWgt_weir (f : Tbl WChan → Tbl WChan) (s : State) : (onWgt f s).weir = s.weir := rfl
@[simp] theorem onWgt_island (f : Tbl WChan → Tbl WChan) (s : State) : (onWgt f s).island = s.island := rfl
@[simp] theorem onWgt_engine (f : Tbl WChan → Tbl WChan) (s : State) : (onWgt f s).engine = s.engine := rfl
@[simp] theorem onWgt_wgt (f : Tbl WChan → Tbl WChan) (s : State) : (onWgt f s).wgt = f s.wgt := rfl
@[simp] theorem onWgt_zones (f : Tbl WChan → Tbl WChan) (s : State) : (onWgt f s).zones = s.zones := rfl
@[simp] theorem onWgt_valves (f : Tbl WChan → Tbl WChan) (s : State) : (onWgt f s).valves = s.valves := rfl
@[simp] theorem onWgt_field (f : Tbl WChan → Tbl WChan) (s : State) : (onWgt f s).field = s.field := rfl
@[simp] theorem onWgt_bus (f : Tbl WChan → Tbl WChan) (s : State) : (onWgt f s).bus = s.bus := rfl
@[simp] theorem onWgt_net (f : Tbl WChan → Tbl WChan) (s : State) : (onWgt f s).net = s.net := rfl
@[simp] theorem onWgt_fsh (f : Tbl WChan → Tbl WChan) (s : State) : (onWgt f s).fsh = s.fsh := rfl
@[simp] theorem onWgt_ream (f : Tbl WChan → Tbl WChan) (s : State) : (onWgt f s).ream = s.ream := rfl
@[simp] theorem onWgt_absorb (f : Tbl WChan → Tbl WChan) (s : State) : (onWgt f s).absorb = s.absorb := rfl
@[simp] theorem onWgt_clk (f : Tbl WChan → Tbl WChan) (s : State) : (onWgt f s).clk = s.clk := rfl
@[simp] theorem onWgt_power (f : Tbl WChan → Tbl WChan) (s : State) : (onWgt f s).power = s.power := rfl
@[simp] theorem onWgt_fresh (f : Tbl WChan → Tbl WChan) (s : State) : (onWgt f s).fresh = s.fresh := rfl
@[simp] theorem onWgt_pending (f : Tbl WChan → Tbl WChan) (s : State) : (onWgt f s).pending = s.pending := rfl

/-! onZones. -/
@[simp] theorem onZones_sys (f : Tbl Zone → Tbl Zone) (s : State) : (onZones f s).sys = s.sys := rfl
@[simp] theorem onZones_hifSpi (f : Tbl Zone → Tbl Zone) (s : State) : (onZones f s).hifSpi = s.hifSpi := rfl
@[simp] theorem onZones_hifApp (f : Tbl Zone → Tbl Zone) (s : State) : (onZones f s).hifApp = s.hifApp := rfl
@[simp] theorem onZones_mail (f : Tbl Zone → Tbl Zone) (s : State) : (onZones f s).mail = s.mail := rfl
@[simp] theorem onZones_hb (f : Tbl Zone → Tbl Zone) (s : State) : (onZones f s).hb = s.hb := rfl
@[simp] theorem onZones_cfg (f : Tbl Zone → Tbl Zone) (s : State) : (onZones f s).cfg = s.cfg := rfl
@[simp] theorem onZones_stn (f : Tbl Zone → Tbl Zone) (s : State) : (onZones f s).stn = s.stn := rfl
@[simp] theorem onZones_felt (f : Tbl Zone → Tbl Zone) (s : State) : (onZones f s).felt = s.felt := rfl
@[simp] theorem onZones_weir (f : Tbl Zone → Tbl Zone) (s : State) : (onZones f s).weir = s.weir := rfl
@[simp] theorem onZones_island (f : Tbl Zone → Tbl Zone) (s : State) : (onZones f s).island = s.island := rfl
@[simp] theorem onZones_engine (f : Tbl Zone → Tbl Zone) (s : State) : (onZones f s).engine = s.engine := rfl
@[simp] theorem onZones_wgt (f : Tbl Zone → Tbl Zone) (s : State) : (onZones f s).wgt = s.wgt := rfl
@[simp] theorem onZones_zones (f : Tbl Zone → Tbl Zone) (s : State) : (onZones f s).zones = f s.zones := rfl
@[simp] theorem onZones_valves (f : Tbl Zone → Tbl Zone) (s : State) : (onZones f s).valves = s.valves := rfl
@[simp] theorem onZones_field (f : Tbl Zone → Tbl Zone) (s : State) : (onZones f s).field = s.field := rfl
@[simp] theorem onZones_bus (f : Tbl Zone → Tbl Zone) (s : State) : (onZones f s).bus = s.bus := rfl
@[simp] theorem onZones_net (f : Tbl Zone → Tbl Zone) (s : State) : (onZones f s).net = s.net := rfl
@[simp] theorem onZones_fsh (f : Tbl Zone → Tbl Zone) (s : State) : (onZones f s).fsh = s.fsh := rfl
@[simp] theorem onZones_ream (f : Tbl Zone → Tbl Zone) (s : State) : (onZones f s).ream = s.ream := rfl
@[simp] theorem onZones_absorb (f : Tbl Zone → Tbl Zone) (s : State) : (onZones f s).absorb = s.absorb := rfl
@[simp] theorem onZones_clk (f : Tbl Zone → Tbl Zone) (s : State) : (onZones f s).clk = s.clk := rfl
@[simp] theorem onZones_power (f : Tbl Zone → Tbl Zone) (s : State) : (onZones f s).power = s.power := rfl
@[simp] theorem onZones_fresh (f : Tbl Zone → Tbl Zone) (s : State) : (onZones f s).fresh = s.fresh := rfl
@[simp] theorem onZones_pending (f : Tbl Zone → Tbl Zone) (s : State) : (onZones f s).pending = s.pending := rfl

/-! onValves. -/
@[simp] theorem onValves_sys (f : Valves → Valves) (s : State) : (onValves f s).sys = s.sys := rfl
@[simp] theorem onValves_hifSpi (f : Valves → Valves) (s : State) : (onValves f s).hifSpi = s.hifSpi := rfl
@[simp] theorem onValves_hifApp (f : Valves → Valves) (s : State) : (onValves f s).hifApp = s.hifApp := rfl
@[simp] theorem onValves_mail (f : Valves → Valves) (s : State) : (onValves f s).mail = s.mail := rfl
@[simp] theorem onValves_hb (f : Valves → Valves) (s : State) : (onValves f s).hb = s.hb := rfl
@[simp] theorem onValves_cfg (f : Valves → Valves) (s : State) : (onValves f s).cfg = s.cfg := rfl
@[simp] theorem onValves_stn (f : Valves → Valves) (s : State) : (onValves f s).stn = s.stn := rfl
@[simp] theorem onValves_felt (f : Valves → Valves) (s : State) : (onValves f s).felt = s.felt := rfl
@[simp] theorem onValves_weir (f : Valves → Valves) (s : State) : (onValves f s).weir = s.weir := rfl
@[simp] theorem onValves_island (f : Valves → Valves) (s : State) : (onValves f s).island = s.island := rfl
@[simp] theorem onValves_engine (f : Valves → Valves) (s : State) : (onValves f s).engine = s.engine := rfl
@[simp] theorem onValves_wgt (f : Valves → Valves) (s : State) : (onValves f s).wgt = s.wgt := rfl
@[simp] theorem onValves_zones (f : Valves → Valves) (s : State) : (onValves f s).zones = s.zones := rfl
@[simp] theorem onValves_valves (f : Valves → Valves) (s : State) : (onValves f s).valves = f s.valves := rfl
@[simp] theorem onValves_field (f : Valves → Valves) (s : State) : (onValves f s).field = s.field := rfl
@[simp] theorem onValves_bus (f : Valves → Valves) (s : State) : (onValves f s).bus = s.bus := rfl
@[simp] theorem onValves_net (f : Valves → Valves) (s : State) : (onValves f s).net = s.net := rfl
@[simp] theorem onValves_fsh (f : Valves → Valves) (s : State) : (onValves f s).fsh = s.fsh := rfl
@[simp] theorem onValves_ream (f : Valves → Valves) (s : State) : (onValves f s).ream = s.ream := rfl
@[simp] theorem onValves_absorb (f : Valves → Valves) (s : State) : (onValves f s).absorb = s.absorb := rfl
@[simp] theorem onValves_clk (f : Valves → Valves) (s : State) : (onValves f s).clk = s.clk := rfl
@[simp] theorem onValves_power (f : Valves → Valves) (s : State) : (onValves f s).power = s.power := rfl
@[simp] theorem onValves_fresh (f : Valves → Valves) (s : State) : (onValves f s).fresh = s.fresh := rfl
@[simp] theorem onValves_pending (f : Valves → Valves) (s : State) : (onValves f s).pending = s.pending := rfl

/-! onField. -/
@[simp] theorem onField_sys (f : FieldSys → FieldSys) (s : State) : (onField f s).sys = s.sys := rfl
@[simp] theorem onField_hifSpi (f : FieldSys → FieldSys) (s : State) : (onField f s).hifSpi = s.hifSpi := rfl
@[simp] theorem onField_hifApp (f : FieldSys → FieldSys) (s : State) : (onField f s).hifApp = s.hifApp := rfl
@[simp] theorem onField_mail (f : FieldSys → FieldSys) (s : State) : (onField f s).mail = s.mail := rfl
@[simp] theorem onField_hb (f : FieldSys → FieldSys) (s : State) : (onField f s).hb = s.hb := rfl
@[simp] theorem onField_cfg (f : FieldSys → FieldSys) (s : State) : (onField f s).cfg = s.cfg := rfl
@[simp] theorem onField_stn (f : FieldSys → FieldSys) (s : State) : (onField f s).stn = s.stn := rfl
@[simp] theorem onField_felt (f : FieldSys → FieldSys) (s : State) : (onField f s).felt = s.felt := rfl
@[simp] theorem onField_weir (f : FieldSys → FieldSys) (s : State) : (onField f s).weir = s.weir := rfl
@[simp] theorem onField_island (f : FieldSys → FieldSys) (s : State) : (onField f s).island = s.island := rfl
@[simp] theorem onField_engine (f : FieldSys → FieldSys) (s : State) : (onField f s).engine = s.engine := rfl
@[simp] theorem onField_wgt (f : FieldSys → FieldSys) (s : State) : (onField f s).wgt = s.wgt := rfl
@[simp] theorem onField_zones (f : FieldSys → FieldSys) (s : State) : (onField f s).zones = s.zones := rfl
@[simp] theorem onField_valves (f : FieldSys → FieldSys) (s : State) : (onField f s).valves = s.valves := rfl
@[simp] theorem onField_field (f : FieldSys → FieldSys) (s : State) : (onField f s).field = f s.field := rfl
@[simp] theorem onField_bus (f : FieldSys → FieldSys) (s : State) : (onField f s).bus = s.bus := rfl
@[simp] theorem onField_net (f : FieldSys → FieldSys) (s : State) : (onField f s).net = s.net := rfl
@[simp] theorem onField_fsh (f : FieldSys → FieldSys) (s : State) : (onField f s).fsh = s.fsh := rfl
@[simp] theorem onField_ream (f : FieldSys → FieldSys) (s : State) : (onField f s).ream = s.ream := rfl
@[simp] theorem onField_absorb (f : FieldSys → FieldSys) (s : State) : (onField f s).absorb = s.absorb := rfl
@[simp] theorem onField_clk (f : FieldSys → FieldSys) (s : State) : (onField f s).clk = s.clk := rfl
@[simp] theorem onField_power (f : FieldSys → FieldSys) (s : State) : (onField f s).power = s.power := rfl
@[simp] theorem onField_fresh (f : FieldSys → FieldSys) (s : State) : (onField f s).fresh = s.fresh := rfl
@[simp] theorem onField_pending (f : FieldSys → FieldSys) (s : State) : (onField f s).pending = s.pending := rfl

/-! onBus. -/
@[simp] theorem onBus_sys (f : Bus → Bus) (s : State) : (onBus f s).sys = s.sys := rfl
@[simp] theorem onBus_hifSpi (f : Bus → Bus) (s : State) : (onBus f s).hifSpi = s.hifSpi := rfl
@[simp] theorem onBus_hifApp (f : Bus → Bus) (s : State) : (onBus f s).hifApp = s.hifApp := rfl
@[simp] theorem onBus_mail (f : Bus → Bus) (s : State) : (onBus f s).mail = s.mail := rfl
@[simp] theorem onBus_hb (f : Bus → Bus) (s : State) : (onBus f s).hb = s.hb := rfl
@[simp] theorem onBus_cfg (f : Bus → Bus) (s : State) : (onBus f s).cfg = s.cfg := rfl
@[simp] theorem onBus_stn (f : Bus → Bus) (s : State) : (onBus f s).stn = s.stn := rfl
@[simp] theorem onBus_felt (f : Bus → Bus) (s : State) : (onBus f s).felt = s.felt := rfl
@[simp] theorem onBus_weir (f : Bus → Bus) (s : State) : (onBus f s).weir = s.weir := rfl
@[simp] theorem onBus_island (f : Bus → Bus) (s : State) : (onBus f s).island = s.island := rfl
@[simp] theorem onBus_engine (f : Bus → Bus) (s : State) : (onBus f s).engine = s.engine := rfl
@[simp] theorem onBus_wgt (f : Bus → Bus) (s : State) : (onBus f s).wgt = s.wgt := rfl
@[simp] theorem onBus_zones (f : Bus → Bus) (s : State) : (onBus f s).zones = s.zones := rfl
@[simp] theorem onBus_valves (f : Bus → Bus) (s : State) : (onBus f s).valves = s.valves := rfl
@[simp] theorem onBus_field (f : Bus → Bus) (s : State) : (onBus f s).field = s.field := rfl
@[simp] theorem onBus_bus (f : Bus → Bus) (s : State) : (onBus f s).bus = f s.bus := rfl
@[simp] theorem onBus_net (f : Bus → Bus) (s : State) : (onBus f s).net = s.net := rfl
@[simp] theorem onBus_fsh (f : Bus → Bus) (s : State) : (onBus f s).fsh = s.fsh := rfl
@[simp] theorem onBus_ream (f : Bus → Bus) (s : State) : (onBus f s).ream = s.ream := rfl
@[simp] theorem onBus_absorb (f : Bus → Bus) (s : State) : (onBus f s).absorb = s.absorb := rfl
@[simp] theorem onBus_clk (f : Bus → Bus) (s : State) : (onBus f s).clk = s.clk := rfl
@[simp] theorem onBus_power (f : Bus → Bus) (s : State) : (onBus f s).power = s.power := rfl
@[simp] theorem onBus_fresh (f : Bus → Bus) (s : State) : (onBus f s).fresh = s.fresh := rfl
@[simp] theorem onBus_pending (f : Bus → Bus) (s : State) : (onBus f s).pending = s.pending := rfl

/-! onNet. -/
@[simp] theorem onNet_sys (f : Net → Net) (s : State) : (onNet f s).sys = s.sys := rfl
@[simp] theorem onNet_hifSpi (f : Net → Net) (s : State) : (onNet f s).hifSpi = s.hifSpi := rfl
@[simp] theorem onNet_hifApp (f : Net → Net) (s : State) : (onNet f s).hifApp = s.hifApp := rfl
@[simp] theorem onNet_mail (f : Net → Net) (s : State) : (onNet f s).mail = s.mail := rfl
@[simp] theorem onNet_hb (f : Net → Net) (s : State) : (onNet f s).hb = s.hb := rfl
@[simp] theorem onNet_cfg (f : Net → Net) (s : State) : (onNet f s).cfg = s.cfg := rfl
@[simp] theorem onNet_stn (f : Net → Net) (s : State) : (onNet f s).stn = s.stn := rfl
@[simp] theorem onNet_felt (f : Net → Net) (s : State) : (onNet f s).felt = s.felt := rfl
@[simp] theorem onNet_weir (f : Net → Net) (s : State) : (onNet f s).weir = s.weir := rfl
@[simp] theorem onNet_island (f : Net → Net) (s : State) : (onNet f s).island = s.island := rfl
@[simp] theorem onNet_engine (f : Net → Net) (s : State) : (onNet f s).engine = s.engine := rfl
@[simp] theorem onNet_wgt (f : Net → Net) (s : State) : (onNet f s).wgt = s.wgt := rfl
@[simp] theorem onNet_zones (f : Net → Net) (s : State) : (onNet f s).zones = s.zones := rfl
@[simp] theorem onNet_valves (f : Net → Net) (s : State) : (onNet f s).valves = s.valves := rfl
@[simp] theorem onNet_field (f : Net → Net) (s : State) : (onNet f s).field = s.field := rfl
@[simp] theorem onNet_bus (f : Net → Net) (s : State) : (onNet f s).bus = s.bus := rfl
@[simp] theorem onNet_net (f : Net → Net) (s : State) : (onNet f s).net = f s.net := rfl
@[simp] theorem onNet_fsh (f : Net → Net) (s : State) : (onNet f s).fsh = s.fsh := rfl
@[simp] theorem onNet_ream (f : Net → Net) (s : State) : (onNet f s).ream = s.ream := rfl
@[simp] theorem onNet_absorb (f : Net → Net) (s : State) : (onNet f s).absorb = s.absorb := rfl
@[simp] theorem onNet_clk (f : Net → Net) (s : State) : (onNet f s).clk = s.clk := rfl
@[simp] theorem onNet_power (f : Net → Net) (s : State) : (onNet f s).power = s.power := rfl
@[simp] theorem onNet_fresh (f : Net → Net) (s : State) : (onNet f s).fresh = s.fresh := rfl
@[simp] theorem onNet_pending (f : Net → Net) (s : State) : (onNet f s).pending = s.pending := rfl

/-! onFsh. -/
@[simp] theorem onFsh_sys (f : Freshet → Freshet) (s : State) : (onFsh f s).sys = s.sys := rfl
@[simp] theorem onFsh_hifSpi (f : Freshet → Freshet) (s : State) : (onFsh f s).hifSpi = s.hifSpi := rfl
@[simp] theorem onFsh_hifApp (f : Freshet → Freshet) (s : State) : (onFsh f s).hifApp = s.hifApp := rfl
@[simp] theorem onFsh_mail (f : Freshet → Freshet) (s : State) : (onFsh f s).mail = s.mail := rfl
@[simp] theorem onFsh_hb (f : Freshet → Freshet) (s : State) : (onFsh f s).hb = s.hb := rfl
@[simp] theorem onFsh_cfg (f : Freshet → Freshet) (s : State) : (onFsh f s).cfg = s.cfg := rfl
@[simp] theorem onFsh_stn (f : Freshet → Freshet) (s : State) : (onFsh f s).stn = s.stn := rfl
@[simp] theorem onFsh_felt (f : Freshet → Freshet) (s : State) : (onFsh f s).felt = s.felt := rfl
@[simp] theorem onFsh_weir (f : Freshet → Freshet) (s : State) : (onFsh f s).weir = s.weir := rfl
@[simp] theorem onFsh_island (f : Freshet → Freshet) (s : State) : (onFsh f s).island = s.island := rfl
@[simp] theorem onFsh_engine (f : Freshet → Freshet) (s : State) : (onFsh f s).engine = s.engine := rfl
@[simp] theorem onFsh_wgt (f : Freshet → Freshet) (s : State) : (onFsh f s).wgt = s.wgt := rfl
@[simp] theorem onFsh_zones (f : Freshet → Freshet) (s : State) : (onFsh f s).zones = s.zones := rfl
@[simp] theorem onFsh_valves (f : Freshet → Freshet) (s : State) : (onFsh f s).valves = s.valves := rfl
@[simp] theorem onFsh_field (f : Freshet → Freshet) (s : State) : (onFsh f s).field = s.field := rfl
@[simp] theorem onFsh_bus (f : Freshet → Freshet) (s : State) : (onFsh f s).bus = s.bus := rfl
@[simp] theorem onFsh_net (f : Freshet → Freshet) (s : State) : (onFsh f s).net = s.net := rfl
@[simp] theorem onFsh_fsh (f : Freshet → Freshet) (s : State) : (onFsh f s).fsh = f s.fsh := rfl
@[simp] theorem onFsh_ream (f : Freshet → Freshet) (s : State) : (onFsh f s).ream = s.ream := rfl
@[simp] theorem onFsh_absorb (f : Freshet → Freshet) (s : State) : (onFsh f s).absorb = s.absorb := rfl
@[simp] theorem onFsh_clk (f : Freshet → Freshet) (s : State) : (onFsh f s).clk = s.clk := rfl
@[simp] theorem onFsh_power (f : Freshet → Freshet) (s : State) : (onFsh f s).power = s.power := rfl
@[simp] theorem onFsh_fresh (f : Freshet → Freshet) (s : State) : (onFsh f s).fresh = s.fresh := rfl
@[simp] theorem onFsh_pending (f : Freshet → Freshet) (s : State) : (onFsh f s).pending = s.pending := rfl

/-! onReam. -/
@[simp] theorem onReam_sys (f : Ream → Ream) (s : State) : (onReam f s).sys = s.sys := rfl
@[simp] theorem onReam_hifSpi (f : Ream → Ream) (s : State) : (onReam f s).hifSpi = s.hifSpi := rfl
@[simp] theorem onReam_hifApp (f : Ream → Ream) (s : State) : (onReam f s).hifApp = s.hifApp := rfl
@[simp] theorem onReam_mail (f : Ream → Ream) (s : State) : (onReam f s).mail = s.mail := rfl
@[simp] theorem onReam_hb (f : Ream → Ream) (s : State) : (onReam f s).hb = s.hb := rfl
@[simp] theorem onReam_cfg (f : Ream → Ream) (s : State) : (onReam f s).cfg = s.cfg := rfl
@[simp] theorem onReam_stn (f : Ream → Ream) (s : State) : (onReam f s).stn = s.stn := rfl
@[simp] theorem onReam_felt (f : Ream → Ream) (s : State) : (onReam f s).felt = s.felt := rfl
@[simp] theorem onReam_weir (f : Ream → Ream) (s : State) : (onReam f s).weir = s.weir := rfl
@[simp] theorem onReam_island (f : Ream → Ream) (s : State) : (onReam f s).island = s.island := rfl
@[simp] theorem onReam_engine (f : Ream → Ream) (s : State) : (onReam f s).engine = s.engine := rfl
@[simp] theorem onReam_wgt (f : Ream → Ream) (s : State) : (onReam f s).wgt = s.wgt := rfl
@[simp] theorem onReam_zones (f : Ream → Ream) (s : State) : (onReam f s).zones = s.zones := rfl
@[simp] theorem onReam_valves (f : Ream → Ream) (s : State) : (onReam f s).valves = s.valves := rfl
@[simp] theorem onReam_field (f : Ream → Ream) (s : State) : (onReam f s).field = s.field := rfl
@[simp] theorem onReam_bus (f : Ream → Ream) (s : State) : (onReam f s).bus = s.bus := rfl
@[simp] theorem onReam_net (f : Ream → Ream) (s : State) : (onReam f s).net = s.net := rfl
@[simp] theorem onReam_fsh (f : Ream → Ream) (s : State) : (onReam f s).fsh = s.fsh := rfl
@[simp] theorem onReam_ream (f : Ream → Ream) (s : State) : (onReam f s).ream = f s.ream := rfl
@[simp] theorem onReam_absorb (f : Ream → Ream) (s : State) : (onReam f s).absorb = s.absorb := rfl
@[simp] theorem onReam_clk (f : Ream → Ream) (s : State) : (onReam f s).clk = s.clk := rfl
@[simp] theorem onReam_power (f : Ream → Ream) (s : State) : (onReam f s).power = s.power := rfl
@[simp] theorem onReam_fresh (f : Ream → Ream) (s : State) : (onReam f s).fresh = s.fresh := rfl
@[simp] theorem onReam_pending (f : Ream → Ream) (s : State) : (onReam f s).pending = s.pending := rfl

/-! onAbsorb. -/
@[simp] theorem onAbsorb_sys (f : Absorb → Absorb) (s : State) : (onAbsorb f s).sys = s.sys := rfl
@[simp] theorem onAbsorb_hifSpi (f : Absorb → Absorb) (s : State) : (onAbsorb f s).hifSpi = s.hifSpi := rfl
@[simp] theorem onAbsorb_hifApp (f : Absorb → Absorb) (s : State) : (onAbsorb f s).hifApp = s.hifApp := rfl
@[simp] theorem onAbsorb_mail (f : Absorb → Absorb) (s : State) : (onAbsorb f s).mail = s.mail := rfl
@[simp] theorem onAbsorb_hb (f : Absorb → Absorb) (s : State) : (onAbsorb f s).hb = s.hb := rfl
@[simp] theorem onAbsorb_cfg (f : Absorb → Absorb) (s : State) : (onAbsorb f s).cfg = s.cfg := rfl
@[simp] theorem onAbsorb_stn (f : Absorb → Absorb) (s : State) : (onAbsorb f s).stn = s.stn := rfl
@[simp] theorem onAbsorb_felt (f : Absorb → Absorb) (s : State) : (onAbsorb f s).felt = s.felt := rfl
@[simp] theorem onAbsorb_weir (f : Absorb → Absorb) (s : State) : (onAbsorb f s).weir = s.weir := rfl
@[simp] theorem onAbsorb_island (f : Absorb → Absorb) (s : State) : (onAbsorb f s).island = s.island := rfl
@[simp] theorem onAbsorb_engine (f : Absorb → Absorb) (s : State) : (onAbsorb f s).engine = s.engine := rfl
@[simp] theorem onAbsorb_wgt (f : Absorb → Absorb) (s : State) : (onAbsorb f s).wgt = s.wgt := rfl
@[simp] theorem onAbsorb_zones (f : Absorb → Absorb) (s : State) : (onAbsorb f s).zones = s.zones := rfl
@[simp] theorem onAbsorb_valves (f : Absorb → Absorb) (s : State) : (onAbsorb f s).valves = s.valves := rfl
@[simp] theorem onAbsorb_field (f : Absorb → Absorb) (s : State) : (onAbsorb f s).field = s.field := rfl
@[simp] theorem onAbsorb_bus (f : Absorb → Absorb) (s : State) : (onAbsorb f s).bus = s.bus := rfl
@[simp] theorem onAbsorb_net (f : Absorb → Absorb) (s : State) : (onAbsorb f s).net = s.net := rfl
@[simp] theorem onAbsorb_fsh (f : Absorb → Absorb) (s : State) : (onAbsorb f s).fsh = s.fsh := rfl
@[simp] theorem onAbsorb_ream (f : Absorb → Absorb) (s : State) : (onAbsorb f s).ream = s.ream := rfl
@[simp] theorem onAbsorb_absorb (f : Absorb → Absorb) (s : State) : (onAbsorb f s).absorb = f s.absorb := rfl
@[simp] theorem onAbsorb_clk (f : Absorb → Absorb) (s : State) : (onAbsorb f s).clk = s.clk := rfl
@[simp] theorem onAbsorb_power (f : Absorb → Absorb) (s : State) : (onAbsorb f s).power = s.power := rfl
@[simp] theorem onAbsorb_fresh (f : Absorb → Absorb) (s : State) : (onAbsorb f s).fresh = s.fresh := rfl
@[simp] theorem onAbsorb_pending (f : Absorb → Absorb) (s : State) : (onAbsorb f s).pending = s.pending := rfl

/-! onClk. -/
@[simp] theorem onClk_sys (f : Clk → Clk) (s : State) : (onClk f s).sys = s.sys := rfl
@[simp] theorem onClk_hifSpi (f : Clk → Clk) (s : State) : (onClk f s).hifSpi = s.hifSpi := rfl
@[simp] theorem onClk_hifApp (f : Clk → Clk) (s : State) : (onClk f s).hifApp = s.hifApp := rfl
@[simp] theorem onClk_mail (f : Clk → Clk) (s : State) : (onClk f s).mail = s.mail := rfl
@[simp] theorem onClk_hb (f : Clk → Clk) (s : State) : (onClk f s).hb = s.hb := rfl
@[simp] theorem onClk_cfg (f : Clk → Clk) (s : State) : (onClk f s).cfg = s.cfg := rfl
@[simp] theorem onClk_stn (f : Clk → Clk) (s : State) : (onClk f s).stn = s.stn := rfl
@[simp] theorem onClk_felt (f : Clk → Clk) (s : State) : (onClk f s).felt = s.felt := rfl
@[simp] theorem onClk_weir (f : Clk → Clk) (s : State) : (onClk f s).weir = s.weir := rfl
@[simp] theorem onClk_island (f : Clk → Clk) (s : State) : (onClk f s).island = s.island := rfl
@[simp] theorem onClk_engine (f : Clk → Clk) (s : State) : (onClk f s).engine = s.engine := rfl
@[simp] theorem onClk_wgt (f : Clk → Clk) (s : State) : (onClk f s).wgt = s.wgt := rfl
@[simp] theorem onClk_zones (f : Clk → Clk) (s : State) : (onClk f s).zones = s.zones := rfl
@[simp] theorem onClk_valves (f : Clk → Clk) (s : State) : (onClk f s).valves = s.valves := rfl
@[simp] theorem onClk_field (f : Clk → Clk) (s : State) : (onClk f s).field = s.field := rfl
@[simp] theorem onClk_bus (f : Clk → Clk) (s : State) : (onClk f s).bus = s.bus := rfl
@[simp] theorem onClk_net (f : Clk → Clk) (s : State) : (onClk f s).net = s.net := rfl
@[simp] theorem onClk_fsh (f : Clk → Clk) (s : State) : (onClk f s).fsh = s.fsh := rfl
@[simp] theorem onClk_ream (f : Clk → Clk) (s : State) : (onClk f s).ream = s.ream := rfl
@[simp] theorem onClk_absorb (f : Clk → Clk) (s : State) : (onClk f s).absorb = s.absorb := rfl
@[simp] theorem onClk_clk (f : Clk → Clk) (s : State) : (onClk f s).clk = f s.clk := rfl
@[simp] theorem onClk_power (f : Clk → Clk) (s : State) : (onClk f s).power = s.power := rfl
@[simp] theorem onClk_fresh (f : Clk → Clk) (s : State) : (onClk f s).fresh = s.fresh := rfl
@[simp] theorem onClk_pending (f : Clk → Clk) (s : State) : (onClk f s).pending = s.pending := rfl

/-! onPower. -/
@[simp] theorem onPower_sys (f : Power → Power) (s : State) : (onPower f s).sys = s.sys := rfl
@[simp] theorem onPower_hifSpi (f : Power → Power) (s : State) : (onPower f s).hifSpi = s.hifSpi := rfl
@[simp] theorem onPower_hifApp (f : Power → Power) (s : State) : (onPower f s).hifApp = s.hifApp := rfl
@[simp] theorem onPower_mail (f : Power → Power) (s : State) : (onPower f s).mail = s.mail := rfl
@[simp] theorem onPower_hb (f : Power → Power) (s : State) : (onPower f s).hb = s.hb := rfl
@[simp] theorem onPower_cfg (f : Power → Power) (s : State) : (onPower f s).cfg = s.cfg := rfl
@[simp] theorem onPower_stn (f : Power → Power) (s : State) : (onPower f s).stn = s.stn := rfl
@[simp] theorem onPower_felt (f : Power → Power) (s : State) : (onPower f s).felt = s.felt := rfl
@[simp] theorem onPower_weir (f : Power → Power) (s : State) : (onPower f s).weir = s.weir := rfl
@[simp] theorem onPower_island (f : Power → Power) (s : State) : (onPower f s).island = s.island := rfl
@[simp] theorem onPower_engine (f : Power → Power) (s : State) : (onPower f s).engine = s.engine := rfl
@[simp] theorem onPower_wgt (f : Power → Power) (s : State) : (onPower f s).wgt = s.wgt := rfl
@[simp] theorem onPower_zones (f : Power → Power) (s : State) : (onPower f s).zones = s.zones := rfl
@[simp] theorem onPower_valves (f : Power → Power) (s : State) : (onPower f s).valves = s.valves := rfl
@[simp] theorem onPower_field (f : Power → Power) (s : State) : (onPower f s).field = s.field := rfl
@[simp] theorem onPower_bus (f : Power → Power) (s : State) : (onPower f s).bus = s.bus := rfl
@[simp] theorem onPower_net (f : Power → Power) (s : State) : (onPower f s).net = s.net := rfl
@[simp] theorem onPower_fsh (f : Power → Power) (s : State) : (onPower f s).fsh = s.fsh := rfl
@[simp] theorem onPower_ream (f : Power → Power) (s : State) : (onPower f s).ream = s.ream := rfl
@[simp] theorem onPower_absorb (f : Power → Power) (s : State) : (onPower f s).absorb = s.absorb := rfl
@[simp] theorem onPower_clk (f : Power → Power) (s : State) : (onPower f s).clk = s.clk := rfl
@[simp] theorem onPower_power (f : Power → Power) (s : State) : (onPower f s).power = f s.power := rfl
@[simp] theorem onPower_fresh (f : Power → Power) (s : State) : (onPower f s).fresh = s.fresh := rfl
@[simp] theorem onPower_pending (f : Power → Power) (s : State) : (onPower f s).pending = s.pending := rfl

/-! drawn. -/
@[simp] theorem drawn_sys (n : Nat) (s : State) : (drawn n s).sys = s.sys := rfl
@[simp] theorem drawn_hifSpi (n : Nat) (s : State) : (drawn n s).hifSpi = s.hifSpi := rfl
@[simp] theorem drawn_hifApp (n : Nat) (s : State) : (drawn n s).hifApp = s.hifApp := rfl
@[simp] theorem drawn_mail (n : Nat) (s : State) : (drawn n s).mail = s.mail := rfl
@[simp] theorem drawn_hb (n : Nat) (s : State) : (drawn n s).hb = s.hb := rfl
@[simp] theorem drawn_cfg (n : Nat) (s : State) : (drawn n s).cfg = s.cfg := rfl
@[simp] theorem drawn_stn (n : Nat) (s : State) : (drawn n s).stn = s.stn := rfl
@[simp] theorem drawn_felt (n : Nat) (s : State) : (drawn n s).felt = s.felt := rfl
@[simp] theorem drawn_weir (n : Nat) (s : State) : (drawn n s).weir = s.weir := rfl
@[simp] theorem drawn_island (n : Nat) (s : State) : (drawn n s).island = s.island := rfl
@[simp] theorem drawn_engine (n : Nat) (s : State) : (drawn n s).engine = s.engine := rfl
@[simp] theorem drawn_wgt (n : Nat) (s : State) : (drawn n s).wgt = s.wgt := rfl
@[simp] theorem drawn_zones (n : Nat) (s : State) : (drawn n s).zones = s.zones := rfl
@[simp] theorem drawn_valves (n : Nat) (s : State) : (drawn n s).valves = s.valves := rfl
@[simp] theorem drawn_field (n : Nat) (s : State) : (drawn n s).field = s.field := rfl
@[simp] theorem drawn_bus (n : Nat) (s : State) : (drawn n s).bus = s.bus := rfl
@[simp] theorem drawn_net (n : Nat) (s : State) : (drawn n s).net = s.net := rfl
@[simp] theorem drawn_fsh (n : Nat) (s : State) : (drawn n s).fsh = s.fsh := rfl
@[simp] theorem drawn_ream (n : Nat) (s : State) : (drawn n s).ream = s.ream := rfl
@[simp] theorem drawn_absorb (n : Nat) (s : State) : (drawn n s).absorb = s.absorb := rfl
@[simp] theorem drawn_clk (n : Nat) (s : State) : (drawn n s).clk = s.clk := rfl
@[simp] theorem drawn_power (n : Nat) (s : State) : (drawn n s).power = s.power := rfl
@[simp] theorem drawn_fresh (n : Nat) (s : State) : (drawn n s).fresh = s.fresh + n := rfl
@[simp] theorem drawn_pending (n : Nat) (s : State) : (drawn n s).pending = s.pending := rfl

/-! Taking a window changes the sluices alone. -/
@[simp] theorem taken_sys (r : Req) (s : State) : (taken r s).sys = s.sys := rfl
@[simp] theorem taken_hifSpi (r : Req) (s : State) : (taken r s).hifSpi = s.hifSpi := rfl
@[simp] theorem taken_hifApp (r : Req) (s : State) : (taken r s).hifApp = s.hifApp := rfl
@[simp] theorem taken_hb (r : Req) (s : State) : (taken r s).hb = s.hb := rfl
@[simp] theorem taken_cfg (r : Req) (s : State) : (taken r s).cfg = s.cfg := rfl
@[simp] theorem taken_stn (r : Req) (s : State) : (taken r s).stn = s.stn := rfl
@[simp] theorem taken_felt (r : Req) (s : State) : (taken r s).felt = s.felt := rfl
@[simp] theorem taken_weir (r : Req) (s : State) : (taken r s).weir = s.weir := rfl
@[simp] theorem taken_island (r : Req) (s : State) : (taken r s).island = s.island := rfl
@[simp] theorem taken_engine (r : Req) (s : State) : (taken r s).engine = s.engine := rfl
@[simp] theorem taken_wgt (r : Req) (s : State) : (taken r s).wgt = s.wgt := rfl
@[simp] theorem taken_zones (r : Req) (s : State) : (taken r s).zones = s.zones := rfl
@[simp] theorem taken_valves (r : Req) (s : State) : (taken r s).valves = s.valves := rfl
@[simp] theorem taken_field (r : Req) (s : State) : (taken r s).field = s.field := rfl
@[simp] theorem taken_bus (r : Req) (s : State) : (taken r s).bus = s.bus := rfl
@[simp] theorem taken_net (r : Req) (s : State) : (taken r s).net = s.net := rfl
@[simp] theorem taken_fsh (r : Req) (s : State) : (taken r s).fsh = s.fsh := rfl
@[simp] theorem taken_ream (r : Req) (s : State) : (taken r s).ream = s.ream := rfl
@[simp] theorem taken_absorb (r : Req) (s : State) : (taken r s).absorb = s.absorb := rfl
@[simp] theorem taken_clk (r : Req) (s : State) : (taken r s).clk = s.clk := rfl
@[simp] theorem taken_power (r : Req) (s : State) : (taken r s).power = s.power := rfl
@[simp] theorem taken_fresh (r : Req) (s : State) : (taken r s).fresh = s.fresh := rfl
@[simp] theorem taken_pending (r : Req) (s : State) : (taken r s).pending = s.pending := rfl
@[simp] theorem taken_jobs (r : Req) (s : State) : (taken r s).mail.jobs = s.mail.jobs := by
  unfold taken heardTag onMail; cases r.side <;> rfl
@[simp] theorem taken_windows (r : Req) (s : State) : (taken r s).mail.windows = s.mail.windows := by
  unfold taken heardTag onMail; cases r.side <;> rfl
@[simp] theorem taken_notices (r : Req) (s : State) : (taken r s).mail.notices = s.mail.notices := by
  unfold taken heardTag onMail; cases r.side <;> rfl
@[simp] theorem taken_udpOut (r : Req) (s : State) : (taken r s).mail.udpOut = s.mail.udpOut := by
  unfold taken heardTag onMail; cases r.side <;> rfl
@[simp] theorem taken_udpSeq (r : Req) (s : State) : (taken r s).mail.udpSeq = s.mail.udpSeq := by
  unfold taken heardTag onMail; cases r.side <;> rfl

/-! The turn of a sluice changes the mail alone. -/
@[simp] theorem begun_sys (c : Nat) (r : Req) (s : State) : (begun c r s).sys = s.sys := rfl
@[simp] theorem begun_hifSpi (c : Nat) (r : Req) (s : State) : (begun c r s).hifSpi = s.hifSpi := rfl
@[simp] theorem begun_hifApp (c : Nat) (r : Req) (s : State) : (begun c r s).hifApp = s.hifApp := rfl
@[simp] theorem begun_hb (c : Nat) (r : Req) (s : State) : (begun c r s).hb = s.hb := rfl
@[simp] theorem begun_cfg (c : Nat) (r : Req) (s : State) : (begun c r s).cfg = s.cfg := rfl
@[simp] theorem begun_stn (c : Nat) (r : Req) (s : State) : (begun c r s).stn = s.stn := rfl
@[simp] theorem begun_felt (c : Nat) (r : Req) (s : State) : (begun c r s).felt = s.felt := rfl
@[simp] theorem begun_weir (c : Nat) (r : Req) (s : State) : (begun c r s).weir = s.weir := rfl
@[simp] theorem begun_island (c : Nat) (r : Req) (s : State) : (begun c r s).island = s.island := rfl
@[simp] theorem begun_engine (c : Nat) (r : Req) (s : State) : (begun c r s).engine = s.engine := rfl
@[simp] theorem begun_wgt (c : Nat) (r : Req) (s : State) : (begun c r s).wgt = s.wgt := rfl
@[simp] theorem begun_zones (c : Nat) (r : Req) (s : State) : (begun c r s).zones = s.zones := rfl
@[simp] theorem begun_valves (c : Nat) (r : Req) (s : State) : (begun c r s).valves = s.valves := rfl
@[simp] theorem begun_field (c : Nat) (r : Req) (s : State) : (begun c r s).field = s.field := rfl
@[simp] theorem begun_bus (c : Nat) (r : Req) (s : State) : (begun c r s).bus = s.bus := rfl
@[simp] theorem begun_net (c : Nat) (r : Req) (s : State) : (begun c r s).net = s.net := rfl
@[simp] theorem begun_fsh (c : Nat) (r : Req) (s : State) : (begun c r s).fsh = s.fsh := rfl
@[simp] theorem begun_ream (c : Nat) (r : Req) (s : State) : (begun c r s).ream = s.ream := rfl
@[simp] theorem begun_absorb (c : Nat) (r : Req) (s : State) : (begun c r s).absorb = s.absorb := rfl
@[simp] theorem begun_clk (c : Nat) (r : Req) (s : State) : (begun c r s).clk = s.clk := rfl
@[simp] theorem begun_power (c : Nat) (r : Req) (s : State) : (begun c r s).power = s.power := rfl
@[simp] theorem begun_fresh (c : Nat) (r : Req) (s : State) : (begun c r s).fresh = s.fresh := rfl
@[simp] theorem begun_pending (c : Nat) (r : Req) (s : State) : (begun c r s).pending = s.pending := rfl
@[simp] theorem begun_jobs (c : Nat) (r : Req) (s : State) : (begun c r s).mail.jobs = s.mail.jobs := by
  unfold begun takeTurn onMail; dsimp only; split <;> simp
@[simp] theorem begun_windows (c : Nat) (r : Req) (s : State) : (begun c r s).mail.windows = s.mail.windows := by
  unfold begun takeTurn onMail; dsimp only; split <;> simp
@[simp] theorem begun_notices (c : Nat) (r : Req) (s : State) : (begun c r s).mail.notices = s.mail.notices := by
  unfold begun takeTurn onMail; dsimp only; split <;> simp
@[simp] theorem begun_udpOut (c : Nat) (r : Req) (s : State) : (begun c r s).mail.udpOut = s.mail.udpOut := by
  unfold begun takeTurn onMail; dsimp only; split <;> simp
@[simp] theorem begun_udpSeq (c : Nat) (r : Req) (s : State) : (begun c r s).mail.udpSeq = s.mail.udpSeq := by
  unfold begun takeTurn onMail; dsimp only; split <;> simp

end Sys2Proof.Machine
end

