-- ==== Sys2Proof/Laws/Memory.lean ====
section
/-! SUPPORT. Window memory: every operation keeps the canonical form, a read after a write gives the value written, and a
write leaves every other byte alone. -/

namespace Sys2Proof.Machine

theorem Memory.wfFrom_mono {m : List Host.Cell} {lo hi : Nat} (h : lo ≤ hi) (w : Memory.wfFrom hi m = true) :
    Memory.wfFrom lo m = true := by
  cases m with
  | nil => rfl
  | cons c r =>
    obtain ⟨k, b⟩ := c
    simp only [Memory.wfFrom, Bool.and_eq_true, decide_eq_true_eq] at w ⊢
    exact ⟨⟨Nat.le_trans h w.1.1, w.1.2⟩, w.2⟩

theorem Memory.write_wfFrom (m : List Host.Cell) (a : Nat) (b : Byte) (lo : Nat) (hl : lo ≤ a) (w : Memory.wfFrom lo m = true) :
    Memory.wfFrom lo (Memory.write m a b) = true := by
  induction m generalizing lo with
  | nil =>
    unfold Memory.write
    split
    · rfl
    · next h =>
      simp only [Memory.wfFrom, Bool.and_eq_true, decide_eq_true_eq]
      exact ⟨⟨hl, by simpa using h⟩, trivial⟩
  | cons c r ih =>
    obtain ⟨k, v⟩ := c
    simp only [Memory.wfFrom, Bool.and_eq_true, decide_eq_true_eq] at w
    unfold Memory.write
    split
    · next hk =>
      split
      · simp only [Memory.wfFrom, Bool.and_eq_true, decide_eq_true_eq]
        exact w
      · next hb =>
        simp only [Memory.wfFrom, Bool.and_eq_true, decide_eq_true_eq]
        exact ⟨⟨hl, by simpa using hb⟩, ⟨hk, w.1.2⟩, w.2⟩
    · split
      · next hk hk2 =>
        subst hk2
        split
        · exact Memory.wfFrom_mono (by omega) w.2
        · next hb =>
          simp only [Memory.wfFrom, Bool.and_eq_true, decide_eq_true_eq]
          exact ⟨⟨hl, by simpa using hb⟩, w.2⟩
      · next hk hk2 =>
        simp only [Memory.wfFrom, Bool.and_eq_true, decide_eq_true_eq]
        exact ⟨w.1, ih (k + 1) (by omega) w.2⟩

/-- A write keeps the canonical form. -/
theorem Memory.write_wf (m : List Host.Cell) (a : Nat) (b : Byte) (w : Memory.wf m = true) : Memory.wf (Memory.write m a b) = true :=
  Memory.write_wfFrom m a b 0 (Nat.zero_le _) w

/-- So does a run of writes. -/
theorem Memory.writeBytes_wf (m : List Host.Cell) (a : Nat) (bs : List Byte) (w : Memory.wf m = true) :
    Memory.wf (Memory.writeBytes m a bs) = true := by
  induction bs generalizing m a with
  | nil => exact w
  | cons b r ih => exact ih _ _ (Memory.write_wf m a b w)

/-- The window memory of reset lists nothing. -/
theorem Memory.reset_wf : Memory.wf State.reset.mail.windows = true := rfl

theorem writeWin_wf (key off : Nat) (bs : List Byte) (s : State) (w : Memory.wf s.mail.windows = true) :
    Memory.wf (writeWin key off bs s).mail.windows = true := Memory.writeBytes_wf _ _ _ w

/-- Below its first address a canonical memory reads as zero. -/
theorem Memory.read_below {m : List Host.Cell} {lo a : Nat} (w : Memory.wfFrom lo m = true) (h : a < lo) : Memory.read m a = 0 := by
  induction m generalizing lo with
  | nil => rfl
  | cons c r ih =>
    obtain ⟨k, v⟩ := c
    simp only [Memory.wfFrom, Bool.and_eq_true, decide_eq_true_eq] at w
    rw [Memory.read, if_neg (by omega)]
    exact ih w.2 (by omega)

theorem Memory.read_write_from (m : List Host.Cell) (a : Nat) (b : Byte) (x lo : Nat) (w : Memory.wfFrom lo m = true) :
    Memory.read (Memory.write m a b) x = if x = a then b else Memory.read m x := by
  induction m generalizing lo with
  | nil =>
    by_cases hb : b = 0
    · simp [Memory.write, Memory.read, hb]
    · simp only [Memory.write, if_neg hb, Memory.read, eq_comm]
  | cons c r ih =>
    obtain ⟨k, v⟩ := c
    simp only [Memory.wfFrom, Bool.and_eq_true, decide_eq_true_eq] at w
    unfold Memory.write
    by_cases hk : a < k
    · rw [if_pos hk]
      by_cases hb : b = 0
      · rw [if_pos hb]
        by_cases hx : x = a
        · rw [if_pos hx, hx, hb, Memory.read, if_neg (by omega)]
          exact Memory.read_below w.2 (by omega)
        · rw [if_neg hx]
      · rw [if_neg hb]
        by_cases hx : x = a
        · simp [Memory.read, hx]
        · rw [if_neg hx, Memory.read, if_neg (Ne.symm hx)]
    · rw [if_neg hk]
      by_cases hk2 : a = k
      · rw [if_pos hk2]
        by_cases hb : b = 0
        · rw [if_pos hb]
          by_cases hx : x = a
          · rw [if_pos hx, hb]
            exact Memory.read_below w.2 (by omega)
          · rw [if_neg hx, Memory.read, if_neg (by omega)]
        · rw [if_neg hb]
          by_cases hx : x = a
          · simp [Memory.read, hx]
          · rw [if_neg hx, Memory.read, if_neg (by omega), Memory.read, if_neg (by omega)]
      · rw [if_neg hk2, Memory.read, Memory.read]
        by_cases hx : k = x
        · rw [if_pos hx, if_pos hx, if_neg (by omega)]
        · rw [if_neg hx, if_neg hx]
          exact ih (k + 1) w.2

/-- A read after a write: the byte written there, what stood there elsewhere. -/
theorem Memory.read_write (m : List Host.Cell) (a : Nat) (b : Byte) (x : Nat) (w : Memory.wf m = true) :
    Memory.read (Memory.write m a b) x = if x = a then b else Memory.read m x := Memory.read_write_from m a b x 0 w

end Sys2Proof.Machine
end

