-- ==== Sys2Proof/Laws/Ops.lean ====
section
/-! SUPPORT. What each shared operation can change, said once: an event touches the recorder, an answer the sluices and the
interrupt status, the end of a command these and the transaction it was for, a store request the queue of stores. -/

namespace Sys2Proof.Machine

/-- Raising an event changes the recorder only. -/
theorem raiseEv_touches (code : Nat) (fields : List Int) (actor flags : Nat) (s : State) :
    raiseEv code fields actor flags s = { s with ream := (raiseEv code fields actor flags s).ream } := by
  unfold raiseEv
  dsimp only
  split
  · split <;> rfl
  · rfl

theorem note_touches (code : Nat) (fields : List Int) (s : State) :
    note code fields s = { s with ream := (note code fields s).ream } := raiseEv_touches code fields 0 0 s

theorem noteBy_touches (d : Side) (code : Nat) (fields : List Int) (s : State) :
    noteBy d code fields s = { s with ream := (noteBy d code fields s).ream } := raiseEv_touches code fields (sideCode d) 0 s

/-- An unabsorbed fault changes the recorder and what is told of the last fault. -/
theorem noteFault_touches (code : Nat) (fields : List Int) (s : State) :
    noteFault code fields s =
      { s with absorb := { s.absorb with lastFault := code, faultActive := true }, ream := (noteFault code fields s).ream } :=
  raiseEv_touches code fields 0 32 _

/-- A store request changes the queue of stores only. -/
theorem requestStore_touches (a : StoreAct) (s : State) :
    requestStore a s = { s with power := { s.power with stores := (requestStore a s).power.stores } } := rfl

theorem cancelStore_touches (a : StoreAct) (s : State) :
    cancelStore a s = { s with power := { s.power with stores := (cancelStore a s).power.stores } } := rfl

/-- The recorder's pump changes the queue of stores only. -/
theorem pumpReam_touches (s : State) :
    pumpReam s = { s with power := { s.power with stores := (pumpReam s).power.stores } } := by
  unfold pumpReam
  dsimp only
  split <;> rfl

/-- What an answer can change: the sluices and what is sent, and the interrupt status of the register sides. -/
abbrev answersOnly (s t : State) : Prop :=
  t = { s with
    mail := t.mail, hifSpi := { s.hifSpi with irqStatus := t.hifSpi.irqStatus },
    hifApp := { s.hifApp with irqStatus := t.hifApp.irqStatus } }

theorem placeRaw_touches (d : Side) (n : Nat) (body : List Byte) (s : State) : answersOnly s (placeRaw d n body s) := by
  cases d <;> rfl

theorem placeFirst_touches (d : Side) (n code tag status : Nat) (data : List Byte) (extra : Nat) (s : State) :
    answersOnly s (placeFirst d n code tag status data extra s) := by
  unfold placeFirst
  cases d <;> rfl

theorem place_touches (o : Org) (status : Nat) (data : List Byte) (s : State) : answersOnly s (place o status data s) := by
  unfold place placeGone placeFirst
  cases o.side <;> split <;> (try split) <;> rfl

theorem placePending_touches (o : Org) (s : State) : answersOnly s (placePending o s) := placeFirst_touches ..

theorem queueNotice_touches (q : Notice) (s : State) : answersOnly s (queueNotice q s) := by
  unfold queueNotice
  split <;> rfl

theorem answersOnly_modSluice {s t : State} (key : Nat) (f : Sluice → Sluice) (h : answersOnly (modSluice key f s) t) :
    answersOnly s t := h

theorem postNotice_touches (q : Notice) (s : State) : answersOnly s (postNotice q s) := by
  unfold postNotice
  split
  · split
    · split
      · exact answersOnly_modSluice _ _ (placeFirst_touches ..)
      · exact queueNotice_touches q s
    · exact queueNotice_touches q s
  · exact queueNotice_touches q s

/-- What the end of a command can change: an answer's parts, and the transaction that a CFG_COMMIT ends. -/
abbrev endsOnly (s t : State) : Prop :=
  t = { s with
    mail := t.mail, cfg := { s.cfg with txn := t.cfg.txn }, hifSpi := { s.hifSpi with irqStatus := t.hifSpi.irqStatus },
    hifApp := { s.hifApp with irqStatus := t.hifApp.irqStatus } }

theorem endsOnly_of_answersOnly {s t u : State} (h : answersOnly t u) (ht : endsOnly s t) : endsOnly s u := by
  rw [h, ht]

theorem answerJob_touches (o : Org) (status : Nat) (data : List Byte) (s : State) : endsOnly s (answerJob o status data s) := by
  unfold answerJob
  split
  · rfl
  · have ht : endsOnly s (txnAnswered o (dropJob o s)) := by unfold txnAnswered; split <;> rfl
    dsimp only
    split
    · exact endsOnly_of_answersOnly (postNotice_touches ..) ht
    · exact endsOnly_of_answersOnly (place_touches ..) ht

theorem finish_touches (o : Org) (status : Nat) (data : List Byte) (s : State) : endsOnly s (finish o status data s) := by
  unfold finish
  split
  · rfl
  · split
    · rfl
    · split
      · rfl
      · exact answerJob_touches ..

/-- A random or free value drawn moves their counter only. -/
theorem drawn_touches (n : Nat) (s : State) : drawn n s = { s with fresh := s.fresh + n } := rfl

end Sys2Proof.Machine
end

