-- ==== Sys2Proof/Laws/Serve.lean ====
section
/-! SUPPORT. What serving a command can do, said once: a request that is taken up goes to its handler on the state with its
window taken, and one that a check refuses is answered with that check's status (spec/02_sluices.md R62, R66). -/

namespace Sys2Proof.Machine

/-- A request that is taken up is the handler's. -/
theorem serve_of_asks {code : Nat} {h : Org → List Byte → State → Res} {r : Req} {s : State} (ha : asks code r s = true) :
    serve code h r s = settleRes (reqOrg code r) (h (reqOrg code r) r.payload (begun code r s)) := by
  unfold asks at ha
  cases hs : ownSluice s r.side r.sluice with
  | none => simp [hs] at ha
  | some sl =>
    simp only [hs, Bool.and_eq_true, Bool.not_eq_true', bne_iff_ne, ne_eq, Bool.or_eq_true, beq_iff_eq,
      Option.isNone_iff_eq_none] at ha
    obtain ⟨⟨hv, hre⟩, ⟨⟨hst, hrole⟩, hheld⟩, hc⟩ := ha
    have hst' : (match sl.st with | .closed => false | .busy => false | _ => true) = true := by
      rcases hst with h1 | h1 <;> rw [h1]
    cases hq : sl.st <;> simp_all [serve, reqOrg, taken, begun]

@[simp] theorem settleRes_done (o : Org) (st : Nat) (d : List Byte) (s : State) : settleRes o (.done st d s) = place o st d s := rfl

@[simp] theorem settleRes_later_bg (o : Org) (s : State) (h : o.bg = true) : settleRes o (.later s) = placePending o s := by
  simp [settleRes, h]

@[simp] theorem settleRes_later (o : Org) (s : State) (h : o.bg = false) : settleRes o (.later s) = s := by
  simp [settleRes, h]

/-- A request that a check of R66 refuses is answered with that check's status, its window taken. -/
theorem serve_refused {code : Nat} {h : Org → List Byte → State → Res} {r : Req} {s : State} {sl : Sluice} {st : Nat}
    (hv : served s = true) (ho : ownSluice s r.side r.sluice = some sl) (hst : sl.st = .idle ∨ sl.st = .resp)
    (hr : sl.role ≠ 1) (hh : sl.held = none)
    (hc : headerCheck s r.side (r.sluice % 16) code r.tag r.flags 0 r.payload.length (segmented r s) true = some st) :
    serve code h r s = answered code r st [] (taken r s) := by
  rcases hst with h1 | h1 <;> simp [serve, hv, ho, h1, hr, hh, hc, answered, reqOrg, taken]

/-! What follows every effect. -/

@[simp] theorem settled_pending (b s : State) : (settled b s).pending = b.pending := rfl
@[simp] theorem settled_mode (b s : State) : (settled b s).sys.mode = modeUnder s.sys.mode s.sys.holdCauses := rfl
@[simp] theorem settled_holdCauses (b s : State) : (settled b s).sys.holdCauses = s.sys.holdCauses := rfl

/-- No effect leaves the block by another door: each command's outcome is its effect, settled. -/
theorem settle_eq (b s : State) : settle b s = .next (settled b s) := rfl

/-- The mode that the causes leave agrees with them. -/
theorem modeUnder_agrees (m : Mode) (c : BitVec 6) :
    (modeUnder m c = .run → c = 0) ∧ (modeUnder m c = .still → c = 0) ∧ (modeUnder m c = .hold → c ≠ 0) := by
  by_cases hc : c = 0
  · subst hc; cases m <;> decide
  · cases m <;> simp only [modeUnder, if_neg hc] <;> simp_all

end Sys2Proof.Machine
end

