-- ==== Sys2Proof/WellFormed.lean ====
section
/-! DEFINITION. Which commands can be given: every operand within the range that the spec gives its field, its number or its
event. The device answers a request whose fields are wrong; what is checked here is only that the operands exist. -/

namespace Sys2Proof

/-- A 32-bit signed reading. -/
def int32 (i : Int) : Bool := decide (-2147483648 ≤ i) && decide (i ≤ 2147483647)

/-- A side with a register copy (spec/02_sluices.md R52). -/
def hostSide : Side → Bool
  | .udp _ => false
  | _ => true

/-- A request fits its header: sluice, tag, flags and length (spec/02_sluices.md R62, R65, R71). -/
def reqOk (r : Req) : Bool :=
  decide (r.sluice < 16) && decide (r.tag < 65536) && decide (r.flags < 65536) && decide (r.payload.length ≤ 1048576)

/-- A source of datagrams (spec/13_line_uplink.md R462). -/
def srcOk (x : UdpSrc) : Bool := decide (x.addr < 4294967296) && decide (x.port < 65536) && decide (x.via < 4) &&
  (x.mac.isEmpty || x.mac.length == 6)

/-- The body of a PTP message fits its fields: portIdentity 10 bytes, clockIdentity and rank fields, 16-bit UTC offset
(spec/13_line_uplink.md R459; notes/assumptions/154.md). -/
def ptpBodyOk : PtpBody → Bool
  | .announce grandmaster priority1 quality priority2 steps utcOffset =>
    decide (grandmaster < 18446744073709551616) && decide (priority1 < 256) && decide (quality < 4294967296) &&
      decide (priority2 < 256) && decide (steps < 65536) && decide (-32768 ≤ utcOffset) && decide (utcOffset ≤ 32767)
  | .delayResp requester _ => decide (requester < 1208925819614629174706176)
  | _ => true

/-- A PTP message to the ordinary clock (spec/13_line_uplink.md R459). -/
def ptpOk (m : PtpMsg) : Bool :=
  decide (m.transport < 2) && decide (m.domain < 256) && decide (m.port < 3) && decide (m.source < 1208925819614629174706176) &&
    decide (m.seq < 65536) && ptpBodyOk m.body

/-- A sweep: 201 points, each with 320 samples of 16 bits per channel (spec/07_moisture_engine.md R264). -/
def samplesOk (l : List Int) : Bool := l.length == 320 && l.all (fun x => decide (-32768 ≤ x) && decide (x ≤ 32767))
def sweepOk (w : Sweep) : Bool := w.length == 201 && w.all (fun q => samplesOk q.a && samplesOk q.b)

/-- A classical wake-up frame (spec/12_priority_bus.md R442). -/
def wakeOk : BusWake → Bool
  | .dominantEdge => true
  | .pattern => true
  | .frame ident dlc data => decide (ident < 4294967296) && decide (dlc ≤ 8) && data.length == dlc

/-- A CAN or CAN FD frame (spec/12_priority_bus.md R427). -/
def frameOk (f : CanIn) : Bool :=
  decide (f.ident < 2048 || 2147483648 ≤ f.ident && f.ident < 2684354560) && decide (f.data.length ≤ 64)

def wellFormed (i : Instr) : Bool :=
  match i with
  | .spiWrite addr _ _ => decide (addr < 65536)
  | .spiRead addr len _ => decide (addr < 65536) && decide (len < 65537)
  | .spiWriteCrc addr len _ crc _ => decide (addr < 65536) && decide (len < 65536) && decide (crc < 65536)
  | .spiReadCrc addr len _ => decide (addr < 65536) && decide (len < 65536)
  | .spiFrameIgnored instr => instr != 0x02 && instr != 0x03 && instr != 0x0A && instr != 0x0B
  | .hifDoorbellWrite side _ => hostSide side
  | .hifReleaseWrite side _ => hostSide side
  | .hifIrqStatusClear side _ => hostSide side
  | .hifErrClear side _ => hostSide side
  | .registerWrite side addr _ => hostSide side && decide (addr < 65536)
  | .devtimeLoRead side => hostSide side
  | .feltPosRead side felt => hostSide side && decide (felt < 8)
  | .appAccessError addr size => decide (addr < 4294967296) && (size == 1 || size == 2 || size == 4 || size == 8 || size == 16)
  | .segmentTimeout _ sluice => decide (sluice < 16)
  | .udpRequest src _ => srcOk src
  | .udpRelease src _ => srcOk src
  | .udpNoticeResend session sluice => decide (session < 65536) && decide (sluice < 16)
  | .serviceUartFrame _ => true
  | .uartBaudChange => true
  | .hbWarn _ => true
  | .heartbeatLost _ => true
  | .sysStatus r => reqOk r
  | .sysHeartbeat r => reqOk r
  | .sysAbort r => reqOk r
  | .sysModeRequest r => reqOk r
  | .sysIdentify r => reqOk r
  | .sysReset r => reqOk r
  | .sysResetStart => true
  | .sysSluiceSetup r => reqOk r
  | .sysSluiceInfo r => reqOk r
  | .sysHeartbeatConfig r => reqOk r
  | .safeAsserted => true
  | .safeReleased => true
  | .rstAsserted => true
  | .internalReset => true
  | .rstReleased => true
  | .vlogicWarning uv => int32 uv
  | .vlogicWarningCleared uv => int32 uv
  | .vlogicDip uv => int32 uv
  | .rideThrough uv _ => int32 uv
  | .lastGasp uv => int32 uv
  | .vaultEntry vhold => int32 vhold
  | .vlogicRestored uv => int32 uv
  | .vbatTrip => true
  | .norCheckDone _ _ _ vbat => int32 vbat
  | .reservoirMeasured _ vhold => int32 vhold
  | .supervisorStart => true
  | .evverReady => true
  | .modeChangeComplete => true
  | .wakePin _ => true
  | .wakeTimer => true
  | .frostBusWake bus w => decide (bus < 2) && wakeOk w
  | .frostFieldWake fio => decide (fio < 32)
  | .bootLiteComplete => true
  | .vfieldLow supply uv => decide (supply < 2) && int32 uv
  | .vfieldSag supply uv => decide (supply < 2) && int32 uv
  | .vfieldRecovered supply uv => decide (supply < 2) && int32 uv
  | .vfieldVdCutoff uv => int32 uv
  | .vfieldVdRestored uv => int32 uv
  | .vfieldIoNoSupply uv => int32 uv
  | .checkpoint => true
  | .lockstepMismatch _ _ _ => true
  | .reexecutionComplete _ => true
  | .latchExpired => true
  | .watchdogExpired => true
  | .cellCheckFailed bank cell check => decide (bank < 4) && decide (cell < 9) && decide (check < 5)
  | .shadowCheck bank _ _ _ => decide (bank < 4)
  | .memoryScrub memory _ => decide (memory < 8)
  | .eccError memory _ _ _ => decide (memory < 8)
  | .storeAdmitted => true
  | .storeWriteDone _ _ _ => true
  | .reservoirEnergyUpdate vhold => int32 vhold
  | .reservoirStepDue => true
  | .reservoirChargeTimeout vhold => int32 vhold
  | .parallelShareLow station chan _ => decide (station < 128) && decide (chan < 32)
  | .cfgOpen r => reqOk r
  | .cfgWriteObject r => reqOk r
  | .cfgCommit r => reqOk r
  | .cfgDiscard r => reqOk r
  | .cfgReadObject r => reqOk r
  | .cfgExport r => reqOk r
  | .cfgImport r => reqOk r
  | .cfgDeleteObject r => reqOk r
  | .cfgState r => reqOk r
  | .cfgIdleTimeout => true
  | .stRead r => reqOk r
  | .encoderEdge src _ _ => decide (src < 384)
  | .mainsCrossing => true
  | .mainsSourceLost => true
  | .feltStall felt => decide (felt < 384)
  | .feltReferenceReceived chan ident data => decide (chan < 4) && decide (ident < 4294967296) && decide (data.length ≤ 64)
  | .remoteFeltLost felt => decide (felt < 8)
  | .wheelDispatch felt _ => decide (felt < 8)
  | .parcelClose zone => decide (zone < 16)
  | .parcelLeave zone => decide (zone < 16)
  | .parcelHandoffReceived chan ident data => decide (chan < 4) && decide (ident < 4294967296) && decide (data.length ≤ 64)
  | .parcelHandoffTimeout zone _ => decide (zone < 16)
  | .adoptionGap zone => decide (zone < 16)
  | .feltStatus r => reqOk r
  | .feltSet r => reqOk r
  | .wheelSchedule r => reqOk r
  | .wheelCancel r => reqOk r
  | .wheelStatus r => reqOk r
  | .parcelRead r => reqOk r
  | .parcelHistory r => reqOk r
  | .parcelHistoryComplete _ sluice tag => decide (sluice < 16) && decide (tag < 65536)
  | .wheelWait r => reqOk r
  | .weirConversionEnd station _ => decide (station < 128)
  | .windowViolation station _ _ => decide (station < 128)
  | .stationPublish station => decide (station < 128)
  | .rangePinExpired station => decide (station < 128)
  | .loopInputOverload station ua => decide (station < 128) && int32 ua
  | .loopShuntReclose station ua => decide (station < 128) && int32 ua
  | .brxLimit bank ua _ => decide (bank < 3) && int32 ua
  | .compStale station => decide (station < 128)
  | .stillScan station _ => decide (station < 128)
  | .weirSample r => reqOk r
  | .weirRaw r => reqOk r
  | .weirTerminal r => reqOk r
  | .weirLinEval r => reqOk r
  | .islandLinkCheck => true
  | .islandLinkLost => true
  | .islandLinkRestored => true
  | .islandTimeUpdate => true
  | .islandRecordReceived rec => rec.length == 128
  | .islandWatchdog => true
  | .islandStart _ _ _ paramBad _ => paramBad.all (fun k => decide (k.1 < 256) && decide (k.2 < 256))
  | .sealChange _ => true
  | .sealSampleUnpowered _ => true
  | .shieldLoopOpen => true
  | .paramCrcCheck bad => bad.all (fun k => decide (k.1 < 256) && decide (k.2 < 256))
  | .paramSessionIdle => true
  | .tapTrigger ident _ _ data => decide (ident < 4294967296) && decide (data.length ≤ 64)
  | .grainTempRecord chan _ _ _ _ => decide (chan < 2)
  | .wmLegalId r => reqOk r
  | .wmKey r => reqOk r
  | .wmStatus r => reqOk r
  | .wmParamOpen r => reqOk r
  | .wmParamWrite r => reqOk r
  | .wmParamCommit r => reqOk r
  | .wmParamDiscard r => reqOk r
  | .wmParamRead r => reqOk r
  | .wmAuditRead r => reqOk r
  | .wmRecordRead r => reqOk r
  | .moistureIntervalEnd sweeps => (sweeps.length == 50 || sweeps.length == 55) && sweeps.all sweepOk
  | .engineThermalPause => true
  | .engineThermalResume => true
  | .mstStatus r => reqOk r
  | .mstCaptureAir r => reqOk r
  | .mstLoopback r => reqOk r
  | .mstSpectrum r => reqOk r
  | .rawSample chan plus minus _ => (chan == 1 || chan == 2) && int32 plus && int32 minus
  | .loadcellViolation chan cause land => (chan == 1 || chan == 2) && (cause == 1 || cause == 2) && decide (land < 8)
  | .loadcellFaultCleared chan => (chan == 1 || chan == 2)
  | .massRecordPeriod chan => (chan == 1 || chan == 2)
  | .zeroTrackingStep chan => (chan == 1 || chan == 2)
  | .weighRequestSettled chan => (chan == 1 || chan == 2)
  | .weighSettleTimeout chan => (chan == 1 || chan == 2)
  | .cycleSettleEnd chan => (chan == 1 || chan == 2)
  | .stillWeigh chan => (chan == 1 || chan == 2)
  | .wgtStatus r => reqOk r
  | .wgtRequest r => reqOk r
  | .wgtSignal r => reqOk r
  | .wgtSignalWindowEnd chan _ => (chan == 1 || chan == 2)
  | .permissiveClear zone => decide (zone < 16)
  | .deckleConfirmed zone entry => decide (zone < 16) && decide (entry < 16)
  | .deckleCleared zone entry => decide (zone < 16) && decide (entry < 16)
  | .feltStopReaction zone => decide (zone < 16)
  | .targetTimeout zone => decide (zone < 16)
  | .heatPhaseTimeout zone => decide (zone < 16)
  | .plenumLoopStep zone => decide (zone < 16)
  | .plenumInvalidTimeout zone => decide (zone < 16)
  | .exposureStep zone => decide (zone < 16)
  | .batchPhaseTimeout zone => decide (zone < 16)
  | .siloEvaluation zone => decide (zone < 16)
  | .weighEmptyDetect zone => decide (zone < 16)
  | .weighPhaseTimeout zone => decide (zone < 16)
  | .zoneStart r => reqOk r
  | .zoneStop r => reqOk r
  | .zoneStatus r => reqOk r
  | .zoneTarget r => reqOk r
  | .pulsePhaseEnd chan ua _ => decide (chan < 12) && int32 ua
  | .peakStart bank => decide (bank < 3)
  | .pulseDeferLimit bank => decide (bank < 3)
  | .valveOvercurrent chan ua => decide (chan < 12) && int32 ua
  | .bankOvercurrent bank ua => decide (bank < 3) && int32 ua
  | .valveRetry chan => decide (chan < 12)
  | .lsLandLow chan unexplained => decide (chan < 12) && int32 unexplained
  | .leakEscalation chan unexplained => decide (chan < 12) && int32 unexplained
  | .valveHeadroom chan ua _ => decide (chan < 12) && int32 ua
  | .coilModelStep chan _ _ => decide (chan < 12)
  | .kinkEvaluation chan _ => decide (chan < 12)
  | .boostReadyChange uv => int32 uv
  | .boostFault uv => int32 uv
  | .clampHotClear bank => decide (bank < 3)
  | .vlvSet r => reqOk r
  | .vlvPulse r => reqOk r
  | .vlvStatus r => reqOk r
  | .vlvBank r => reqOk r
  | .vlvResetFault r => reqOk r
  | .fioInputChange station _ _ => decide (station < 128)
  | .fioCountEdge station => decide (station < 128)
  | .fioFreqGate station => decide (station < 128)
  | .fioOutputFault station => decide (station < 128)
  | .fioOutputFaultClear station => decide (station < 128)
  | .outputCmdTimeout station => decide (station < 128)
  | .loopOutputDeviation station ua mv => decide (station < 128) && int32 ua && int32 mv
  | .loopOutputRecovered station ua mv => decide (station < 128) && int32 ua && int32 mv
  | .fioSet r => reqOk r
  | .fioStatus r => reqOk r
  | .fioFaultMask r => reqOk r
  | .loopSet r => reqOk r
  | .loopStatus r => reqOk r
  | .canFrameReceived chan f => decide (chan < 4) && frameOk f
  | .rxRingDrain chan => decide (chan < 4)
  | .canFrameSent chan _ _ => decide (chan < 4)
  | .canErrorStateChange chan _ _ _ => decide (chan < 4)
  | .busOff chan => decide (chan < 4)
  | .busoffRecoveryDone chan => decide (chan < 4)
  | .failback chan => decide (chan < 4)
  | .frameSendTimeout chan _ => decide (chan < 4)
  | .periodicSend chan obj => decide (chan < 4) && decide (obj < 256)
  | .referenceMessageSend chan => decide (chan < 4)
  | .referenceMessage chan ident data _ => decide (chan < 4) && decide (ident < 4294967296) && decide (data.length ≤ 64)
  | .referenceMissing chan => decide (chan < 4)
  | .busSend r => reqOk r
  | .busTxWait r => reqOk r
  | .busSubscribe r => reqOk r
  | .busUnsubscribe r => reqOk r
  | .busRxWait r => reqOk r
  | .busObjRead r => reqOk r
  | .busStatus r => reqOk r
  | .busRecover r => reqOk r
  | .busCancel r => reqOk r
  | .ethFrame port _ _ => decide (port < 3)
  | .arpRequest port mac ip target => decide (port < 3) && mac.length == 6 && ip.length == 4 && target.length == 4
  | .icmpEcho port mac ip dst _ => decide (port < 3) && mac.length == 6 && ip.length == 4 && dst.length == 4
  | .ptpMessage m => ptpOk m
  | .loopProbeSend port => decide (port < 3)
  | .loopProbeReturn port back => decide (port < 3) && decide (back < 3)
  | .loopGuardRelease => true
  | .phyPoll _ _ => true
  | .linkChange port cause => decide (port < 3) && (cause == 1 || cause == 2 || cause == 3)
  | .springClockUpdate => true
  | .sessionIdle session => decide (session < 65536)
  | .authLockoutEnd addr via => decide (addr < 4294967296) && decide (via < 4)
  | .netSessionOpen r => reqOk r
  | .netSessionAuth r => reqOk r
  | .netSessionClose r => reqOk r
  | .netStatus r => reqOk r
  | .netKey r => reqOk r
  | .freshetOffer port mac ip _ => decide (port < 3) && mac.length == 6 && ip.length == 4
  | .freshetOpen port mac ip _ => decide (port < 3) && mac.length == 6 && ip.length == 4
  | .freshetChallenge port mac ip _ => decide (port < 3) && mac.length == 6 && ip.length == 4
  | .freshetAuth port mac ip _ => decide (port < 3) && mac.length == 6 && ip.length == 4
  | .freshetAccept port mac ip _ => decide (port < 3) && mac.length == 6 && ip.length == 4
  | .freshetGet port mac ip _ => decide (port < 3) && mac.length == 6 && ip.length == 4
  | .freshetData port mac ip _ => decide (port < 3) && mac.length == 6 && ip.length == 4
  | .freshetRefuse port mac ip _ => decide (port < 3) && mac.length == 6 && ip.length == 4
  | .freshetDone port mac ip _ => decide (port < 3) && mac.length == 6 && ip.length == 4
  | .freshetOfferTimer port => decide (port < 3)
  | .imageVerifyDone _ => true
  | .sessionLockIdle => true
  | .activationStart => true
  | .norBlockDone _ _ => true
  | .grantWindowClose => true
  | .trialTimeJournal => true
  | .trialBootsClear => true
  | .watermarkTrialTimeout => true
  | .partialImageExpired => true
  | .fshStatus r => reqOk r
  | .fshOpen r => reqOk r
  | .fshBlock r => reqOk r
  | .fshGrant r => reqOk r
  | .fshConfirm r => reqOk r
  | .fshDiscard r => reqOk r
  | .fshRestore r => reqOk r
  | .reamTokenRefill code => decide (code < 65536)
  | .suppressionTimeout code => decide (code < 65536)
  | .regionTestDone _ _ => true
  | .reamStatus r => reqOk r
  | .reamRead r => reqOk r
  | .reamReadBulk r => reqOk r
  | .reamReadBulkComplete _ sluice tag => decide (sluice < 16) && decide (tag < 65536)
  | .reamCodeInfo r => reqOk r
  | .reamChallenge r => reqOk r
  | .reamClear r => reqOk r
  | .reamTimeSet r => reqOk r
  | .absStatus r => reqOk r
  | .ageRead r => reqOk r
  | .ageRebase r => reqOk r
  | .ageingDaily ws => ws.all (fun e => decide (e.1 < 55))
  | .ref25Lost _ => true
  | .ref25Restored => true
  | .pllLockLost pll => decide (pll < 3)
  | .rtc32Failed => true
  | .rtc32Restored => true
  | .muxForced mux old new => decide (mux < 32) && decide (old < 32) && decide (new < 32)
  | .gateBusyTimeout block initiator _ => decide (block < 16) && decide (initiator < 32)
  | .oscCompensation item trim => decide (item < 2) && int32 trim
  | .freqMeasureDone n m _ => decide (n < 4294967296) && decide (m < 4294967296)
  | .freqMeasureTimeout => true
  | .clkStatus r => reqOk r
  | .clkGate r => reqOk r
  | .clkMeasure r => reqOk r
  | .tempSample temps => temps.length == 14
  | .thermalModelCheck pred => pred.all (fun p => decide (p.1 < 14) && decide (p.2.1 < 14))
  | .thermalWarningClear => true
  | .thermalTrip sensor _ mdeg => decide (sensor < 14) && int32 mdeg
  | .tripHoldEnd temps => temps.length == 14
  | .pwrStatus r => reqOk r
  | .thermStatus r => reqOk r
  | .rsvMeasure r => reqOk r
  | .applicationFaultStop => true
  | .airCaptureComplete sweeps => sweeps.length == 255 && sweeps.all sweepOk
  | .leakCleared chan unexplained => decide (chan < 12) && int32 unexplained
  | .headroomCleared chan _ => decide (chan < 12)
  | .islandStationStale station => decide (station < 128)
  | .coinCellFitted uv => int32 uv
  | .peaksBlockedLowSupply uv => int32 uv
  | .clearRefusalEnd => true

end Sys2Proof
end

