-- ==== Sys2Proof/Tests/Slice0.lean ====
section
/-! SUPPORT. Tests: what the well-formedness checks refuse, worked examples of the spec, and for every clause of the
statements a state and operands that meet its hypotheses. -/

open Sys2Proof Sys2Proof.Machine

namespace Sys2Proof.Tests

set_option Elab.async false

/-- RUN, served, with a command sluice S1 and a notice sluice S2 of the SPI side. -/
def wSl : Tbl Sluice :=
  [(1, { owner := some .spi, sizeKib := 4, st := .idle }), (2, { owner := some .spi, sizeKib := 1, st := .idle, role := 1 }),
    (slKey .spi 0, { owner := some .spi, sizeKib := 1, st := .idle })]

def wRun : State :=
  { State.reset with
    sys := { mode := .run, ready := true, supervisor := true, autoDue := false }
    mail := { sluices := wSl }
    ream := { nextSeq := 1, floor := 1 } }

def wMode (m : Mode) (s : State) : State := onSys (fun y => { y with mode := m }) s

/-- A request of the SPI side on S1. -/
def rq (b : List Byte) : Req := { side := .spi, sluice := 1, tag := 7, flags := 0, payload := b }

/-- The active configuration holds these objects. -/
def wCfg (os : List Obj) (s : State) : State := onCfg (fun c => { c with active := os, generation := 1 }) s

/-- An open Evver/UDP session in slot 0, with its S0 and a notice sluice S3 whose notice is out. -/
def wUdp : State :=
  onMail (fun m =>
    { m with
      sluices := wSl ++ [(3, { owner := some (.udp 0), sizeKib := 1, st := .resp, role := 1, noticeOut := true, lastAnswer := [1, 2] }),
        (slKey (.udp 0) 0, { owner := some (.udp 0), sizeKib := 1, st := .idle })] })
    (onNet (fun n => { n with applied := true, sessions := [(0, { id := 9, addr := 0x0A000001, port := 4000, via := 2 })] }) wRun)

/-- A datagram of that session: SYS_STATUS on sluice `n`, or its RELEASE. -/
def wDg (kind n : Nat) : List Byte :=
  p2 0x7645 ++ p1 kind ++ p1 n ++ p2 9 ++ p2 1 ++ (if kind = 1 then header 1 5 0 0 0 0 0 else [])

/-- The heartbeat watches the SPI side and runs. -/
def wHb : State := onHb (fun _ => { enable := true, sides := [.spi], timeoutMs := 1000, started := [(.spi, 0)], running := true }) wRun

/-- ICE, with wakes by the bus lands B0 and B1 and by FIO3 configured. -/
def wIce : State :=
  onSys (fun y => { y with mode := .ice, ready := false })
    (wCfg [{ kind := 1, flags := 1, body := zeros 8 ++ p4 8 ++ [3] ++ zeros 3 }] wRun)

/-- An enabled STATION of a type on terminals of a kind, with the other fields zero and its own part `p`. -/
def wStnP (n type kind : Nat) (terms : List Nat) (p : List Byte) : Obj :=
  { kind := 2, index := n, flags := 1,
    body := p2 type ++ [0xFF, 0] ++ p1 kind ++ p1 terms.length ++ terms.flatMap p1 ++ List.replicate (8 - terms.length) 0xFF ++ zeros 10 ++
      p4 0x80000000 ++ p4 0x7FFFFFFF ++ zeros 32 ++ p }

def wStn (n type kind : Nat) (terms : List Nat) : Obj := wStnP n type kind terms (zeros 16)

/-- Field stations: inputs 1 level, 2 count, 3 frequency; outputs 4, and 5 in zone 2; loop output 6 with a command timeout. -/
def wFio : State :=
  wCfg [wStnP 1 0x40 4 [0] ([1, 0, 1, 0] ++ zeros 12), wStnP 2 0x40 4 [1] ([1, 1] ++ zeros 14),
    wStnP 3 0x40 4 [2] ([1, 2, 0, 0] ++ p4 20 ++ p4 100 ++ zeros 4), wStn 4 0x41 4 [4],
    { wStn 5 0x41 4 [5] with body := p2 0x41 ++ [2, 0, 4, 1, 5] ++ zeros 73 }, wStnP 6 0x50 5 [0] ([0, 0, 0, 0] ++ p4 500 ++ zeros 8)] wRun

/-- Proportional valve station 10 on terminal 2 and injector station 11 on terminal 4. -/
def wValve : State :=
  wCfg [wStnP 10 0x30 5 [2] (p4 20000 ++ zeros 36 ++ p4 1000000 ++ zeros 20),
    wStnP 11 0x31 5 [4] (p4 2000 ++ zeros 36 ++ p4 4000000 ++ p4 500000 ++ zeros 8 ++ p2 50 ++ p2 500 ++ p2 100 ++ [3, 0])] wRun

/-- The same with bank 0 closed. -/
def wBankOn : State := modBank 0 (fun k => { k with closed := true }) wValve

/-- Bus A in TRIPLE mode, Bus B with a periodic send object 8 and a receive object 9, Bus C a potential time master, all
error-active. -/
def wBus : State :=
  [0, 1, 2].foldl (fun t c => modCh c (fun k => { k with st := 1 }) t)
    (wCfg [{ kind := 5, index := 0, flags := 1, body := zeros 16 ++ [0xFF] ++ zeros 79 },
      { kind := 5, index := 1, flags := 1,
        body := [0, 0, 1] ++ zeros 13 ++ [0, 1, 0, 2] ++ zeros 76 ++ [8, 0, 0, 4] ++ p4 0x80000300 ++ p4 0 ++ p2 100 ++ [0, 0] ++
          [9, 1, 0, 8] ++ p4 0x80000200 ++ p4 0x1FFFFFFF ++ zeros 4 },
      { kind := 5, index := 2, flags := 1, body := zeros 16 ++ [0xFF, 0, 0, 0, 1, 2] ++ p2 100 ++ p4 0x10 ++ p4 0x20 ++ zeros 64 }] wRun)

/-- F1 mains, F2 an encoder felt, F6 a remote felt of device 4's F3 over Bus C. -/
def wFelt : State :=
  modCh 2 (fun k => { k with st := 1 })
    (wCfg [{ kind := 4, index := 1, flags := 1, body := [1] ++ zeros 63 }, { kind := 4, index := 2, flags := 1, body := [2] ++ zeros 63 },
      { kind := 4, index := 6, flags := 1, body := [4] ++ zeros 23 ++ [3, 2, 4] ++ zeros 1 ++ p4 1 ++ p4 1 ++ zeros 28 },
      { kind := 5, index := 2, flags := 1, body := zeros 20 ++ [0, 0] ++ p2 100 ++ p4 0x10 ++ p4 0x20 ++ [1] ++ zeros 3 ++ p4 0x80001000 ++ zeros 56 }] wRun)

/-- A ZONE object of a type on a felt with a parcel length, its other fields zero or unused, and a type part. -/
def wZoneP (z type felt plen : Nat) (up : List Byte) (p : List Byte) : Obj :=
  { kind := 3, index := z, flags := 1,
    body := p1 type ++ p1 felt ++ [0, 0] ++ p4 plen ++ zeros 28 ++ up ++ List.replicate 26 0xFF ++ zeros 288 ++ p }


/-- Zone 1 on felt 2 runs, cuts its own parcels of length 1000, has parcel 7 open at start 0, and Bus C carries hand-offs. -/
def wParcelUp (dev : Nat) : State :=
  onFelt (fun x => { x with parcels := tset x.parcels 1 [{ id := 7, flags := 1, zone := 1, start := 0 }] })
    (modFelt 2 (fun f => { f with pos := 2000 })
      { wFelt with
        zones := tset wFelt.zones 1 { st := 2 }
        cfg := { wFelt.cfg with active := wFelt.cfg.active ++ [wZoneP 1 1 2 1000 [dev, 0] (zeros 64)] } })
def wParcel : State := wParcelUp 0xFF
def wAdopt : State := wParcelUp 9

/-- Weir stations: 20 a voltage on terminal 0, 21 a loop input on terminal 1, 22 a voltage that 20 compensates. -/
def wWeirPart (comp : Nat) : List Byte := [0, 0, 0, 0, 7, 7, 0, 1, 0, 0] ++ p2 comp ++ zeros 8 ++ [0, 0, 1, 0] ++ zeros 8 ++ p4 0 ++
  p4 0x80000000 ++ p4 0x7FFFFFFF ++ zeros 80
def wWeir : State :=
  wCfg [wStnP 20 3 1 [0] (wWeirPart 0xFFFF), wStnP 21 4 1 [1] (wWeirPart 0xFFFF), wStnP 22 3 1 [2] (wWeirPart 20)] wRun

/-- An open parameter session of the SPI side, the seal open. -/
def wOpen : State := onIsland (fun i => { i with sealPin := true, session := some { owner := .spi } }) wRun

/-- LEGAL_TERMINAL on identifier 0x123 and a GT_CAL of channel 0, Bus D on. -/
def wTap : State :=
  onIsland (fun i =>
      { i with
        params := [{ cls := 4, index := 0, format := 1, body := [1, 0, 0, 0] ++ p4 100000 ++ q4 (-40000) ++ p4 150000 },
          { cls := 5, index := 0, format := 1, body := [1, 0, 0, 0, 0x23, 1, 0, 0] }] })
    (wCfg [{ kind := 5, index := 3, flags := 1, body := zeros 96 }] wRun)

/-- A grain temperature station 30 on island terminal 3. -/
def wIslStn : State := wCfg [wStn 30 0x22 6 [3]] wRun

/-- A Moisture station 31 with calibration 0, and an APPLICATOR of zeros. -/
def wMst : State :=
  onIsland (fun i => { i with params := [{ cls := 2, index := 0, format := 1, body := zeros 3248 }] }) (wCfg [wStn 31 0x20 6 [0]] wRun)

/-- Scale channel 1: WEIGH_CAL of e = 1 kg, Max = 1,000 kg, 1 g per nV/V, a two-sample filter, and its station 32. -/
def wScale (mode : Nat) (w : WChan) : State :=
  onWgt (fun t => tset t 1 w)
    (onIsland (fun i =>
        { i with
          params := [{ cls := 3, index := 0, format := 1,
                       body := [1] ++ p1 mode ++ [2, 20] ++ p4 1000000 ++ p4 1000 ++ p4 0 ++ p4 0 ++ p4 0x3F800000 ++ p4 0 ++ p2 5 ++ p2 200 ++
                         p2 1000 ++ [1, 0] ++ p4 80 ++ zeros 24 }] })
      (wCfg [wStn 32 0x21 6 [1]] wRun))

/-- The same scale with still_scan set. -/
def wStillScale : State :=
  { wScale 0 {} with cfg := { (wScale 0 {}).cfg with active := [wStnP 32 0x21 6 [1] ([0, 0, 1] ++ zeros 13)] } }

/-- Zone 1 of a type and programme on felt 2, with deckle entries, a type body, a zone state and station values. -/
def wZone (type prog n : Nat) (entries part : List Byte) (q : Zone) (vals : Tbl StVal) : State :=
  let z : Obj :=
    { kind := 3, index := 1, flags := 1,
      body := p1 type ++ [2, 0, 0] ++ p4 0 ++ p1 prog ++ zeros 23 ++
        p4 1000 ++ [0xFF, 0xFF, 0, 1] ++ List.replicate 16 0xFF ++ p4 500 ++ p4 1000 ++ List.replicate 16 0xFF ++ [0] ++ p1 n ++
        zeros 14 ++ fit 256 entries ++ part }
  { wFelt with
    cfg := { wFelt.cfg with active := wFelt.cfg.active ++ [z] }
    zones := [(1, q)]
    stn := { vals := vals } }

/-- The heat part of a COLUMN or BATCH: fan 40, burner 41, flame 42, valve 10, plenum 43 with a setpoint of 90 °C. -/
def wHeat : List Byte :=
  p2 40 ++ List.replicate 14 0xFF ++ p2 41 ++ p2 42 ++ p2 10 ++ p2 43 ++ q4 90000 ++ p4 100000 ++ p4 1000000 ++ p4 0x3F800000 ++ p4 0 ++
    zeros 84

/-- COMMISSION, the empty configuration active and open in a full transaction of the SPI side. -/
def wTx : Txn := { owner := .spi, full := true, baseGen := 1, objs := emptyObjs, lastCmd := 0 }
def wTxn : State := wMode .commission (onCfg (fun c => { c with txn := some wTx }) (wCfg emptyObjs wRun))

/-- The empty configuration applied to the line, ordinary clock and loop guard on, an SGMII uplink, links up. -/
def wNet : State :=
  onNet (fun n => { n with applied := true, ptpState := 1, ports := [(0, { link := true }), (1, { link := true }), (2, { link := true })] })
    (wCfg [mkObj 6 0 true (p1 192 ++ p1 168 ++ p1 0 ++ p1 10 ++ zeros 11 ++ [1] ++ zeros 16 ++ [3, 0, 0, 2] ++ p2 60 ++ [0x0F, 1] ++ zeros 24)]
      wRun)

/-- A PTP message of clock 7 on LINE0, and a device that follows that clock. -/
def wPtp (b : PtpBody) : PtpMsg := { transport := 0, domain := 0, port := 0, source := 7, seq := 0, correction := 0, body := b }
def wPtpHeard (x : PtpExchange) : State :=
  onNet (fun n =>
    { n with ptpState := 2, ptpMasters := [{ source := 7, rank := [], utcOffset := 37 }], ptpChosen := some 7, ptpExchange := x }) wNet

/-- A keyed line, and a session-0 request of 0.0.0.10:4000 over port 2 with its nonce pair. -/
def wGuest : State :=
  onNet (fun n =>
    { n with key := some (zeros 32), nonces := [{ addr := 10, port := 4000, via := 2, client := zeros 8, device := zeros 8 }] }) wNet
def wGr (b : List Byte) : Req := { side := guestSide ⟨10, 4000, 2, []⟩, sluice := 0, tag := 7, flags := 0, payload := b }

/-- The same with the FRESHET defaults; an installed image that is offered; an own and a neighbour's transfer of one block. -/
def wFsh : State :=
  { wNet with net := { wNet.net with key := some (zeros 32) }, cfg := { wNet.cfg with active := wNet.cfg.active ++ [defaultFreshet] } }
def wFd (kind session off n : Nat) (b : List Byte) : List Byte :=
  p2 0x7346 ++ p1 kind ++ zeros 1 ++ p2 session ++ zeros 2 ++ p4 off ++ p4 n ++ b
def wHeld : State := onFsh (fun f => { f with state := 6, img := { kind := 2, blocks := 1, header := zeros 256, table := zeros 32 } }) wFsh
def wOwn : State :=
  onFsh (fun f => { f with state := 1, lock := some (.side .spi), img := { kind := 4, length := 100, blocks := 1, table := zeros 32 } }) wFsh
def wTake : State :=
  modShake 0 (fun k => { k with taker := 3, takerSession := 5, peer := peerOf (zeros 6) [10, 0, 0, 1], want := 288, wantEnd := 388 })
    (onFsh (fun f => { f with lock := some (.line 0) }) wOwn)

/-- A ring of three records. -/
def wRing : State := onReam (fun m => { m with ring := [{ seq := 3, code := 1 }, { seq := 2, code := 1 }, { seq := 1, code := 1 }], nextSeq := 4 }) wRun
theorem meets_StepRunsFrontCommand_1 :
    (({ wRun with pending := [.safeAsserted, .safeReleased] } : State).pending = (.safeAsserted : Instr) :: ([.safeReleased] : List Instr)) := by decide +kernel

theorem meets_StepRunsFrontCommand_2 :
    ((wRun : State).pending = []) := by decide +kernel

theorem meets_StepRunsFrontCommand_3 :
    ((wIce : State).pending = []) ∧
    ((wIce : State).sys.mode = .ice) := by decide +kernel

theorem meets_QueueServedInOrder_1 :
    (({ wRun with pending := [.safeAsserted, .safeReleased] } : State).pending = ([.safeAsserted] : List Instr) ++ (([.safeReleased] : List Instr) ++ ([] : List Instr))) := by decide +kernel

theorem meets_SettlingIsQuiet_1 :
    (sound (wRun : State)) ∧
    (keepsMode (wRun : State) (onField (fun f => { f with faultCount := 3 }) wRun : State)) ∧
    (supplied (onField (fun f => { f with faultCount := 3 }) wRun : State)) ∧
    ((onField (fun f => { f with faultCount := 3 }) wRun : State).pending = (wRun : State).pending) ∧
    ((∀ j ∈ (wRun : State).mail.jobs, j.answer = none)) := by decide +kernel

theorem meets_QueriesLeaveTheMachine_1 :
    (queryOf (.sysStatus (rq []) : Instr) = some ((0x0001 : Nat), (rq [] : Req))) ∧
    (asks (0x0001 : Nat) (rq [] : Req) (wRun : State) = true) ∧
    (sound (wRun : State)) ∧
    ((∀ j ∈ (wRun : State).mail.jobs, j.answer = none)) ∧
    (((0 : Nat) < winAddr (slKey (rq [] : Req).side (rq [] : Req).sluice) 0 ∨ winAddr (slKey (rq [] : Req).side (rq [] : Req).sluice) 0 + segRoom (wRun : State) (rq [] : Req).side (rq [] : Req).sluice + 16 ≤ (0 : Nat))) := by decide +kernel

theorem meets_QueriesLeaveTheMachine_2 :
    (queryOf (.sysStatus (rq []) : Instr) = some ((0x0001 : Nat), (rq [] : Req))) ∧
    (asks (0x0001 : Nat) (rq [] : Req) (wRun : State) = true) ∧
    (sound (wRun : State)) ∧
    ((∀ j ∈ (wRun : State).mail.jobs, j.answer = none)) ∧
    ((2 : Nat) ≠ slKey (rq [] : Req).side (rq [] : Req).sluice) := by decide +kernel

theorem meets_AnswersStandInTheirWindow_1 :
    (((reqOrg 1 (rq []) : Org).side = .spi ∨ (reqOrg 1 (rq []) : Org).side = .app)) ∧
    (Memory.wf (wRun : State).mail.windows = true) := by decide +kernel

theorem meets_AnswersStandInTheirWindow_2 :
    (((reqOrg 1 (rq []) : Org).side = .spi ∨ (reqOrg 1 (rq []) : Org).side = .app)) ∧
    (((3 : Nat) < winAddr (slKey (reqOrg 1 (rq []) : Org).side (reqOrg 1 (rq []) : Org).sluice) 0 ∨ winAddr (slKey (reqOrg 1 (rq []) : Org).side (reqOrg 1 (rq []) : Org).sluice) 16 + min ([1, 2, 3] : List Byte).length (segRoom (wRun : State) (reqOrg 1 (rq []) : Org).side (reqOrg 1 (rq []) : Org).sluice) ≤ (3 : Nat))) := by decide +kernel

theorem meets_AnswersStandInTheirWindow_3 :
    (Memory.wf (wRun : State).mail.windows = true) := by decide +kernel

theorem meets_RefusedRequestsAnswerTheirStatus_1 :
    (requestOf (.sysStatus (rq [1]) : Instr) = some ((0x0001 : Nat), (rq [1] : Req))) ∧
    (served (wRun : State) = true) ∧
    (ownSluice (wRun : State) (rq [1] : Req).side (rq [1] : Req).sluice = some ({ owner := some .spi, sizeKib := 4, st := .idle } : Sluice)) ∧
    ((({ owner := some .spi, sizeKib := 4, st := .idle } : Sluice).st = .idle ∨ ({ owner := some .spi, sizeKib := 4, st := .idle } : Sluice).st = .resp)) ∧
    (({ owner := some .spi, sizeKib := 4, st := .idle } : Sluice).role ≠ 1) ∧
    (({ owner := some .spi, sizeKib := 4, st := .idle } : Sluice).held = none) ∧
    (headerCheck (wRun : State) (rq [1] : Req).side ((rq [1] : Req).sluice % 16) (0x0001 : Nat) (rq [1] : Req).tag (rq [1] : Req).flags 0 (rq [1] : Req).payload.length (segmented (rq [1] : Req) (wRun : State)) true = some (sBADLEN : Nat)) := by decide +kernel

theorem meets_FeltStatusReadsTheMirror_1 :
    (asks 0x0401 (rq [1, 0, 0, 0] : Req) (wFelt : State) = true) ∧
    (g1 (rq [1, 0, 0, 0] : Req).payload 0 ≤ 7) ∧
    (g1 (rq [1, 0, 0, 0] : Req).payload 1 = 0) ∧
    (zeroAt (rq [1, 0, 0, 0] : Req).payload 2 2 = true) := by decide +kernel

theorem meets_FeltStatusReadsTheMirror_2 :
    (asks 0x0401 (rq [1, 1, 0, 0] : Req) (wFelt : State) = true) ∧
    (g1 (rq [1, 1, 0, 0] : Req).payload 0 ≤ 7) ∧
    (g1 (rq [1, 1, 0, 0] : Req).payload 1 = 1) ∧
    (zeroAt (rq [1, 1, 0, 0] : Req).payload 2 2 = true) := by decide +kernel

theorem meets_FeltStatusReadsTheMirror_3 :
    (asks 0x0401 (rq [8, 0, 0, 0] : Req) (wFelt : State) = true) ∧
    ((7 < g1 (rq [8, 0, 0, 0] : Req).payload 0 ∨ 1 < g1 (rq [8, 0, 0, 0] : Req).payload 1 ∨ zeroAt (rq [8, 0, 0, 0] : Req).payload 2 2 = false)) := by decide +kernel

theorem meets_HeartbeatEchoes_1 :
    (asks 0x0002 (rq [1, 2, 3, 4] : Req) (wHb : State) = true) := by decide +kernel

theorem meets_HeartbeatEchoes_2 :
    (hbLost (wHb : State) (.spi : Side) = false) := by decide +kernel

theorem meets_HeartbeatEchoes_3 :
    ((onHb (fun h => { h with lost := [(.spi, 5)] }) wHb : State).hb.lost = [((.spi : Side), (5 : Nat))]) := by decide +kernel

theorem meets_UsableEnergyIsComputed_1 :
    (sound (onPower (fun p => { p with capUf := 3300, capKnown := true }) wRun : State)) ∧
    ((onPower (fun p => { p with capUf := 3300, capKnown := true }) wRun : State).power.capKnown = true) ∧
    (18000000 ≤ (34000000 : Int)) := by decide +kernel

theorem meets_UsableEnergyIsComputed_2 :
    (sound (onPower (fun p => { p with capUf := 3300, capKnown := true }) wRun : State)) ∧
    ((17999999 : Int) < 18000000) := by decide +kernel

theorem meets_UsableEnergyIsComputed_3 :
    (sound (wRun : State)) ∧
    ((wRun : State).power.capKnown = false) := by decide +kernel

theorem meets_SpiFramesAreCarriedOut_1 :
    ((wRun : State).sys.mode ≠ .recovery) ∧
    ((wRun : State).sys.ready = true) ∧
    ((wRun : State).hifSpi.ctrl.getLsbD 1 = false) := by decide +kernel

theorem meets_SpiFramesAreCarriedOut_2 :
    ((wRun : State).sys.mode ≠ .recovery) ∧
    ((wRun : State).sys.ready = true) ∧
    ((wRun : State).hifSpi.ctrl.getLsbD 1 = false) := by decide +kernel

theorem meets_SpiFramesAreCarriedOut_3 :
    ((wRun : State).sys.mode ≠ .recovery) ∧
    ((wRun : State).sys.ready = true) ∧
    ((wRun : State).hifSpi.ctrl.getLsbD 1 = false) := by decide +kernel

theorem meets_SpiFramesAreCarriedOut_4 :
    ((modHif .spi (fun h => { h with ctrl := 2 }) wRun : State).sys.mode ≠ .recovery) ∧
    ((modHif .spi (fun h => { h with ctrl := 2 }) wRun : State).sys.ready = true) ∧
    ((modHif .spi (fun h => { h with ctrl := 2 }) wRun : State).hifSpi.ctrl.getLsbD 1 = true) := by decide +kernel

theorem meets_SpiFramesAreCarriedOut_5 :
    ((wRun : State).sys.mode ≠ .recovery) ∧
    ((wRun : State).sys.ready = true) ∧
    ((wRun : State).hifSpi.ctrl.getLsbD 1 = false) := by decide +kernel

theorem meets_SpiFramesAreCarriedOut_6 :
    ((wRun : State).sys.mode ≠ .recovery) ∧
    ((wRun : State).sys.ready = true) ∧
    ((wRun : State).hifSpi.ctrl.getLsbD 1 = false) := by decide +kernel

theorem meets_SpiFramesAreCarriedOut_7 :
    ((wRun : State).sys.mode ≠ .recovery) ∧
    ((wRun : State).sys.ready = true) ∧
    ((wRun : State).hifSpi.ctrl.getLsbD 1 = false) := by decide +kernel

theorem meets_SpiFramesAreCarriedOut_8 :
    ((wMode .boot (onSys (fun y => { y with ready := false }) wRun) : State).sys.mode ≠ .recovery) ∧
    ((wMode .boot (onSys (fun y => { y with ready := false }) wRun) : State).sys.mode ≠ .vault) ∧
    ((wMode .boot (onSys (fun y => { y with ready := false }) wRun) : State).sys.ready = false) := by decide +kernel

theorem meets_SpiFramesAreCarriedOut_9 :
    (served (wRun : State) = true) ∧
    (1 ≤ ([1,2,3,4] : List Byte).length) ∧
    (([1,2,3,4] : List Byte).length ≤ 4096) := by decide +kernel

theorem meets_SpiFramesAreCarriedOut_10 :
    (served (wRun : State) = true) ∧
    (1 ≤ ([1,2,3,4] : List Byte).length) ∧
    (([1,2,3,4] : List Byte).length ≤ 4096) ∧
    (crc16 ((0x0A : Byte) :: beBytes 2 (0xC : Nat) ++ beBytes 2 ([1,2,3,4] : List Byte).length ++ ([1,2,3,4] : List Byte)) ≠ (0 : Nat)) := by decide +kernel

theorem meets_SpiFramesAreCarriedOut_11 :
    (served (wRun : State) = true) ∧
    (1 ≤ (4 : Nat)) ∧
    ((4 : Nat) ≤ 4096) := by decide +kernel

theorem meets_SpiFramesAreCarriedOut_12 :
    (served (wRun : State) = true) ∧
    (1 ≤ (8 : Nat)) ∧
    ((8 : Nat) ≤ 4096) := by decide +kernel

theorem meets_SpiFramesAreCarriedOut_13 :
    (served (wRun : State) = true) ∧
    (1 ≤ (8 : Nat)) ∧
    ((8 : Nat) ≤ 4096) ∧
    ((3 : Nat) < (8 : Nat)) := by decide +kernel

theorem meets_SpiFramesAreCarriedOut_14 :
    (served (wRun : State) = true) ∧
    (1 ≤ (8 : Nat)) ∧
    ((8 : Nat) ≤ 4096) ∧
    ((8 : Nat) ≤ (9 : Nat)) := by decide +kernel

theorem meets_SpiFramesAreCarriedOut_15 :
    (served (wRun : State) = true) ∧
    ((0x9F : Byte) ≠ 0x02) ∧
    ((0x9F : Byte) ≠ 0x03) ∧
    ((0x9F : Byte) ≠ 0x0A) ∧
    ((0x9F : Byte) ≠ 0x0B) := by decide +kernel

theorem meets_HostRegistersFollowAccessTypes_1 :
    (served (wRun : State) = true) := by decide +kernel

theorem meets_HostRegistersFollowAccessTypes_2 :
    (served (wMode .boot (onSys (fun y => { y with ready := false }) wRun) : State) = false) := by decide +kernel

theorem meets_HostRegistersFollowAccessTypes_3 :
    (served (hifErr .spi 2 wRun : State) = true) := by decide +kernel

theorem meets_HostRegistersFollowAccessTypes_4 :
    ((wRun : State).sys.mode ≠ .recovery) ∧
    ((wRun : State).sys.ready = true) ∧
    ((wRun : State).hifSpi.ctrl.getLsbD 1 = false) := by decide +kernel

theorem meets_HostRegistersFollowAccessTypes_5 :
    ((wRun : State).sys.ready = true) ∧
    (appMay (wRun : State) (0x14 : Nat) ([1, 2, 3, 4] : List Byte).length = true) := by decide +kernel

theorem meets_HostRegistersFollowAccessTypes_6 :
    ((wRun : State).sys.ready = true) ∧
    (appMay (wRun : State) (0x200 : Nat) ([1, 2, 3, 4] : List Byte).length = false) := by decide +kernel

theorem meets_HostRegistersFollowAccessTypes_8 :
    (((.spi : Side) = .spi ∨ (.spi : Side) = .app)) := by decide +kernel

theorem meets_HostRegistersFollowAccessTypes_9 :
    ((onSys (fun y => { y with devTime := 0x123456789A8, calTime := -5 }) wRun : State).sys.ready = true) := by decide +kernel

theorem meets_HostRegistersFollowAccessTypes_10 :
    ((onSys (fun y => { y with devTime := 0x123456789A8, calTime := -5 }) wRun : State).sys.mode ≠ .recovery) ∧
    ((onSys (fun y => { y with devTime := 0x123456789A8, calTime := -5 }) wRun : State).sys.ready = true) ∧
    ((onSys (fun y => { y with devTime := 0x123456789A8, calTime := -5 }) wRun : State).hifSpi.ctrl.getLsbD 1 = false) := by decide +kernel

theorem meets_HostRegistersFollowAccessTypes_12 :
    ((7 : Nat) < 8) ∧
    ((modFelt 7 (fun x => { x with pos := 0x12345678 }) wRun : State).sys.ready = true) := by decide +kernel

theorem meets_HostRegistersFollowAccessTypes_13 :
    ((7 : Nat) < 8) ∧
    ((modFelt 7 (fun x => { x with pos := 0x12345678 }) wRun : State).sys.mode ≠ .recovery) ∧
    ((modFelt 7 (fun x => { x with pos := 0x12345678 }) wRun : State).sys.ready = true) ∧
    ((modFelt 7 (fun x => { x with pos := 0x12345678 }) wRun : State).hifSpi.ctrl.getLsbD 1 = false) := by decide +kernel

theorem meets_SluicesMoveOnDoorbellAndRelease_1 :
    (((.spi : Side) = .spi ∨ (.spi : Side) = .app)) ∧
    (served (writeWin 1 0 (header 1 9 0 0 0 0 0) wRun : State) = true) ∧
    (ownSluice (writeWin 1 0 (header 1 9 0 0 0 0 0) wRun : State) (.spi : Side) ((1 : Byte).toNat % 16) = some ({ owner := some .spi, sizeKib := 4, st := .idle } : Sluice)) ∧
    ((({ owner := some .spi, sizeKib := 4, st := .idle } : Sluice).st = .idle ∨ ({ owner := some .spi, sizeKib := 4, st := .idle } : Sluice).st = .resp)) ∧
    (({ owner := some .spi, sizeKib := 4, st := .idle } : Sluice).role ≠ 1) := by decide +kernel

theorem meets_SluicesMoveOnDoorbellAndRelease_2 :
    (((.spi : Side) = .spi ∨ (.spi : Side) = .app)) ∧
    (served (wRun : State) = true) ∧
    (ownSluice (wRun : State) (.spi : Side) ((9 : Byte).toNat % 16) = none) := by decide +kernel

theorem meets_SluicesMoveOnDoorbellAndRelease_3 :
    (((.spi : Side) = .spi ∨ (.spi : Side) = .app)) ∧
    (served (modSluice 1 (fun x => { x with st := .busy }) wRun : State) = true) ∧
    (ownSluice (modSluice 1 (fun x => { x with st := .busy }) wRun : State) (.spi : Side) ((1 : Byte).toNat % 16) = some ({ owner := some .spi, sizeKib := 4, st := .busy } : Sluice)) ∧
    (({ owner := some .spi, sizeKib := 4, st := .busy } : Sluice).st ≠ .closed) ∧
    ((({ owner := some .spi, sizeKib := 4, st := .busy } : Sluice).st = .busy ∨ ({ owner := some .spi, sizeKib := 4, st := .busy } : Sluice).role = 1)) := by decide +kernel

theorem meets_SluicesMoveOnDoorbellAndRelease_4 :
    (((.spi : Side) = .spi ∨ (.spi : Side) = .app)) ∧
    (served (wRun : State) = true) ∧
    (ownSluice (wRun : State) (.spi : Side) ((1 : Byte).toNat % 16) = some ({ owner := some .spi, sizeKib := 4, st := .idle } : Sluice)) ∧
    (({ owner := some .spi, sizeKib := 4, st := .idle } : Sluice).st ≠ .closed) ∧
    (({ owner := some .spi, sizeKib := 4, st := .idle } : Sluice).st ≠ .resp) := by decide +kernel

theorem meets_SluicesMoveOnDoorbellAndRelease_5 :
    (((.spi : Side) = .spi ∨ (.spi : Side) = .app)) ∧
    (served (modSluice 1 (fun x => { x with st := .resp }) wRun : State) = true) ∧
    (ownSluice (modSluice 1 (fun x => { x with st := .resp }) wRun : State) (.spi : Side) ((1 : Byte).toNat % 16) = some ({ owner := some .spi, sizeKib := 4, st := .resp } : Sluice)) ∧
    (({ owner := some .spi, sizeKib := 4, st := .resp } : Sluice).st = .resp) ∧
    (({ owner := some .spi, sizeKib := 4, st := .resp } : Sluice).rest = none) ∧
    (({ owner := some .spi, sizeKib := 4, st := .resp } : Sluice).role ≠ 1) := by decide +kernel

theorem meets_SluicesMoveOnDoorbellAndRelease_6 :
    (((.spi : Side) = .spi ∨ (.spi : Side) = .app)) ∧
    (served (onMail (fun m => { m with notices := [{ side := .spi, code := 0x408, tag := 3 }] }) (modSluice 2 (fun x => { x with st := .resp }) wRun) : State) = true) ∧
    (ownSluice (onMail (fun m => { m with notices := [{ side := .spi, code := 0x408, tag := 3 }] }) (modSluice 2 (fun x => { x with st := .resp }) wRun) : State) (.spi : Side) ((2 : Byte).toNat % 16) = some ({ owner := some .spi, sizeKib := 1, st := .resp, role := 1 } : Sluice)) ∧
    (({ owner := some .spi, sizeKib := 1, st := .resp, role := 1 } : Sluice).st = .resp) ∧
    (({ owner := some .spi, sizeKib := 1, st := .resp, role := 1 } : Sluice).rest = none) ∧
    (({ owner := some .spi, sizeKib := 1, st := .resp, role := 1 } : Sluice).role = 1) := by decide +kernel

theorem meets_SluicesMoveOnDoorbellAndRelease_7 :
    (((.spi : Side) = .spi ∨ (.spi : Side) = .app)) ∧
    (served (modSluice 1 (fun x => { x with st := .resp, rest := some { code := 5, next := 1, data := [1] } }) wRun : State) = true) ∧
    (ownSluice (modSluice 1 (fun x => { x with st := .resp, rest := some { code := 5, next := 1, data := [1] } }) wRun : State) (.spi : Side) ((1 : Byte).toNat % 16) = some ({ owner := some .spi, sizeKib := 4, st := .resp, rest := some { code := 5, next := 1, data := [1] } } : Sluice)) ∧
    (({ owner := some .spi, sizeKib := 4, st := .resp, rest := some { code := 5, next := 1, data := [1] } } : Sluice).st = .resp) ∧
    (({ owner := some .spi, sizeKib := 4, st := .resp, rest := some { code := 5, next := 1, data := [1] } } : Sluice).rest = some ({ code := 5, next := 1, data := [1] } : Rest)) := by decide +kernel

theorem meets_SluicesMoveOnDoorbellAndRelease_8 :
    (ownSluice (modSluice 1 (fun x => { x with st := .busy, held := some { code := 0x102, length := 4096, next := 1, whole := false } }) wRun : State) (.spi : Side) (1 : Nat) = some ({ owner := some .spi, sizeKib := 4, st := .busy, held := some { code := 0x102, length := 4096, next := 1, whole := false } } : Sluice)) ∧
    (({ owner := some .spi, sizeKib := 4, st := .busy, held := some { code := 0x102, length := 4096, next := 1, whole := false } } : Sluice).held = some ({ code := 0x102, length := 4096, next := 1, whole := false } : Held)) ∧
    (({ code := 0x102, length := 4096, next := 1, whole := false } : Held).whole = false) := by decide +kernel

theorem meets_SluicesMoveOnDoorbellAndRelease_9 :
    (ownSluice (wRun : State) (.spi : Side) (1 : Nat) = some ({ owner := some .spi, sizeKib := 4, st := .idle } : Sluice)) ∧
    (({ owner := some .spi, sizeKib := 4, st := .idle } : Sluice).held = none) := by decide +kernel

theorem meets_DatagramsAndFramesAreCarried_1 :
    (comesIn (wUdp : State) (⟨0x0A000001, 4000, 2, []⟩ : UdpSrc).via) ∧
    ((counted 2 [] wUdp : State) = counted (⟨0x0A000001, 4000, 2, []⟩ : UdpSrc).via (⟨0x0A000001, 4000, 2, []⟩ : UdpSrc).mac (wUdp : State)) ∧
    (devicePort (counted 2 [] wUdp : State) = true) ∧
    ((counted 2 [] wUdp : State).sys.mode ≠ .recovery) ∧
    ((counted 2 [] wUdp : State).absorb.reexecuting = false) ∧
    (g2 (wDg 1 0 : List Byte) 0 = 0x7645) ∧
    (g1 (wDg 1 0 : List Byte) 2 = 1) ∧
    (g1 (wDg 1 0 : List Byte) 3 ≤ 15) ∧
    (dgramSide (counted 2 [] wUdp : State) (⟨0x0A000001, 4000, 2, []⟩ : UdpSrc) (g2 (wDg 1 0 : List Byte) 4) (g1 (wDg 1 0 : List Byte) 3) = some (.udp (0 : Nat))) ∧
    (24 ≤ (wDg 1 0 : List Byte).length) ∧
    ((wDg 1 0 : List Byte).length ≤ 1032) := by decide +kernel

theorem meets_DatagramsAndFramesAreCarried_2 :
    (comesIn (wUdp : State) (⟨0x0A000001, 4000, 2, []⟩ : UdpSrc).via) ∧
    ((counted 2 [] wUdp : State) = counted (⟨0x0A000001, 4000, 2, []⟩ : UdpSrc).via (⟨0x0A000001, 4000, 2, []⟩ : UdpSrc).mac (wUdp : State)) ∧
    (devicePort (counted 2 [] wUdp : State) = true) ∧
    ((counted 2 [] wUdp : State).sys.mode ≠ .recovery) ∧
    ((counted 2 [] wUdp : State).absorb.reexecuting = false) ∧
    (g2 (wDg 2 0 : List Byte) 0 = 0x7645) ∧
    (g1 (wDg 2 0 : List Byte) 2 = 2) ∧
    (g1 (wDg 2 0 : List Byte) 3 ≤ 15) ∧
    (dgramSide (counted 2 [] wUdp : State) (⟨0x0A000001, 4000, 2, []⟩ : UdpSrc) (g2 (wDg 2 0 : List Byte) 4) (g1 (wDg 2 0 : List Byte) 3) = some (.udp (0 : Nat))) := by decide +kernel

theorem meets_DatagramsAndFramesAreCarried_3 :
    (comesIn (wUdp : State) (⟨0x0A000002, 4000, 2, []⟩ : UdpSrc).via) ∧
    ((counted 2 [] wUdp : State) = counted (⟨0x0A000002, 4000, 2, []⟩ : UdpSrc).via (⟨0x0A000002, 4000, 2, []⟩ : UdpSrc).mac (wUdp : State)) ∧
    (((counted 2 [] wUdp : State).absorb.reexecuting = false ∨ (counted 2 [] wUdp : State).sys.mode = .recovery)) ∧
    ((g2 (wDg 2 0 : List Byte) 0 ≠ 0x7645 ∨ 15 < g1 (wDg 2 0 : List Byte) 3 ∨ dgramSide (counted 2 [] wUdp : State) (⟨0x0A000002, 4000, 2, []⟩ : UdpSrc) (g2 (wDg 2 0 : List Byte) 4) (g1 (wDg 2 0 : List Byte) 3) = none)) := by decide +kernel

theorem meets_DatagramsAndFramesAreCarried_4 :
    (comesIn (onAbsorb (fun a => { a with reexecuting := true }) wUdp : State) (⟨0x0A000001, 4000, 2, []⟩ : UdpSrc).via) ∧
    ((counted 2 [] (onAbsorb (fun a => { a with reexecuting := true }) wUdp) : State) = counted (⟨0x0A000001, 4000, 2, []⟩ : UdpSrc).via (⟨0x0A000001, 4000, 2, []⟩ : UdpSrc).mac (onAbsorb (fun a => { a with reexecuting := true }) wUdp : State)) ∧
    ((counted 2 [] (onAbsorb (fun a => { a with reexecuting := true }) wUdp) : State).sys.mode ≠ .recovery) ∧
    (devicePort (counted 2 [] (onAbsorb (fun a => { a with reexecuting := true }) wUdp) : State) = true) ∧
    ((counted 2 [] (onAbsorb (fun a => { a with reexecuting := true }) wUdp) : State).absorb.reexecuting = true) := by decide +kernel

theorem meets_DatagramsAndFramesAreCarried_5 :
    ((⟨0x0A000001, 4000, 1, []⟩ : UdpSrc).via ≤ 2) ∧
    (switchOn (onNet (fun n => { n with blocked := [(1, 0)] }) wUdp : State) = true) ∧
    (portBlocked (onNet (fun n => { n with blocked := [(1, 0)] }) wUdp : State) (⟨0x0A000001, 4000, 1, []⟩ : UdpSrc).via = true) := by decide +kernel

theorem meets_DatagramsAndFramesAreCarried_6 :
    ((⟨0, 0, 3, []⟩ : UdpSrc).via = 3) := by decide +kernel

theorem meets_DatagramsAndFramesAreCarried_7 :
    (sessionNo (wUdp : State) (9 : Nat) = some (0 : Nat)) ∧
    (ownSluice (wUdp : State) (.udp (0 : Nat)) (3 : Nat) = some ({ owner := some (.udp 0), sizeKib := 1, st := .resp, role := 1, noticeOut := true, lastAnswer := [1, 2] } : Sluice)) ∧
    (({ owner := some (.udp 0), sizeKib := 1, st := .resp, role := 1, noticeOut := true, lastAnswer := [1, 2] } : Sluice).role = 1) ∧
    (({ owner := some (.udp 0), sizeKib := 1, st := .resp, role := 1, noticeOut := true, lastAnswer := [1, 2] } : Sluice).noticeOut = true) ∧
    (({ owner := some (.udp 0), sizeKib := 1, st := .resp, role := 1, noticeOut := true, lastAnswer := [1, 2] } : Sluice).st = .resp) := by decide +kernel

theorem meets_DatagramsAndFramesAreCarried_8 :
    ((wRun : State).sys.mode ≠ .recovery) ∧
    (hearsVia (wRun : State) 3 = true) ∧
    ((wDg 1 0 : List Byte).length ≤ 1032) ∧
    (g1 (wDg 1 0 : List Byte) 2 = 1) ∧
    (unstuff (wDg 1 0 ++ beBytes 2 (crc16 (wDg 1 0)) : List Byte) = some ((wDg 1 0 : List Byte) ++ beBytes 2 (crc16 (wDg 1 0 : List Byte)))) := by decide +kernel

theorem meets_DatagramsAndFramesAreCarried_9 :
    ((wRun : State).sys.mode ≠ .recovery) ∧
    (hearsVia (wRun : State) 3 = true) ∧
    ((wDg 2 0 : List Byte).length ≤ 1032) ∧
    (g1 (wDg 2 0 : List Byte) 2 = 2) ∧
    (unstuff (wDg 2 0 ++ beBytes 2 (crc16 (wDg 2 0)) : List Byte) = some ((wDg 2 0 : List Byte) ++ beBytes 2 (crc16 (wDg 2 0 : List Byte)))) := by decide +kernel

theorem meets_DatagramsAndFramesAreCarried_10 :
    ((onNet (fun x => { x with baudDue := some 921600 }) wRun : State).net.baudDue = some (921600 : Nat)) := by decide +kernel

theorem meets_DatagramsAndFramesAreCarried_11 :
    (((0x50000000 : Nat) < 0x80000000 ∨ 0xE0000000 < (0x50000000 : Nat) + (4 : Nat))) ∧
    (((0x50000000 : Nat) < 0x40000000 ∨ 0x40010000 ≤ (0x50000000 : Nat))) := by decide +kernel

theorem meets_DatagramsAndFramesAreCarried_12 :
    (0x80000000 ≤ (0x80000000 : Nat)) ∧
    ((0x80000000 : Nat) + (8 : Nat) ≤ 0xE0000000) := by decide +kernel

theorem meets_DatagramsAndFramesAreCarried_13 :
    (0x40000000 ≤ (0x40000004 : Nat)) ∧
    ((0x40000004 : Nat) < 0x40010000) ∧
    ((wRun : State).sys.ready = true) := by decide +kernel

theorem meets_HeartbeatActsAsConfigured_1 :
    (hbRuns (wHb : State) (.spi : Side) = true) ∧
    ((wHb : State).hb.warned.contains (.spi : Side) = false) := by decide +kernel

theorem meets_HeartbeatActsAsConfigured_2 :
    ((hbRuns (wRun : State) (.app : Side) = false ∨ (wRun : State).hb.warned.contains (.app : Side) = true)) := by decide +kernel

theorem meets_HeartbeatActsAsConfigured_3 :
    (hbRuns (wHb : State) (.spi : Side) = true) := by decide +kernel

theorem meets_HeartbeatActsAsConfigured_4 :
    (hbRuns (wRun : State) (.app : Side) = false) := by decide +kernel

theorem meets_HeartbeatActsAsConfigured_5 :
    (asks 0x0002 (rq [1, 2, 3, 4] : Req) (onHb (fun h => { h with lost := [(.spi, 5)] }) wHb : State) = true) := by decide +kernel

theorem meets_HeartbeatActsAsConfigured_6 :
    (asks 0x0009 (rq ([1, 2, 0, 0] ++ p4 2000) : Req) (onHb (fun h => { h with lost := [(.spi, 5)] }) wHb : State) = true) ∧
    (g1 (rq ([1, 2, 0, 0] ++ p4 2000) : Req).payload 0 ≤ 1) ∧
    (g1 (rq ([1, 2, 0, 0] ++ p4 2000) : Req).payload 1 < 8) ∧
    (zeroAt (rq ([1, 2, 0, 0] ++ p4 2000) : Req).payload 2 2 = true) ∧
    (50 ≤ g4 (rq ([1, 2, 0, 0] ++ p4 2000) : Req).payload 4) ∧
    (g4 (rq ([1, 2, 0, 0] ++ p4 2000) : Req).payload 4 ≤ 60000) ∧
    (([] : List Side) = (if isSession (rq ([1, 2, 0, 0] ++ p4 2000) : Req).side && bitOf (g1 (rq ([1, 2, 0, 0] ++ p4 2000) : Req).payload 1) 2 then [(rq ([1, 2, 0, 0] ++ p4 2000) : Req).side] else [])) ∧
    (([.app] : List Side) = (if bitOf (g1 (rq ([1, 2, 0, 0] ++ p4 2000) : Req).payload 1) 0 then [.spi] else []) ++ (if bitOf (g1 (rq ([1, 2, 0, 0] ++ p4 2000) : Req).payload 1) 1 then [.app] else []) ++ ([] : List Side)) := by decide +kernel

theorem meets_HeartbeatActsAsConfigured_7 :
    (asks 0x0009 (rq ([1, 3, 0, 0] ++ p4 49) : Req) (wHb : State) = true) ∧
    ((1 < g1 (rq ([1, 3, 0, 0] ++ p4 49) : Req).payload 0 ∨ 8 ≤ g1 (rq ([1, 3, 0, 0] ++ p4 49) : Req).payload 1 ∨ zeroAt (rq ([1, 3, 0, 0] ++ p4 49) : Req).payload 2 2 = false ∨ g4 (rq ([1, 3, 0, 0] ++ p4 49) : Req).payload 4 < 50 ∨ 60000 < g4 (rq ([1, 3, 0, 0] ++ p4 49) : Req).payload 4)) := by decide +kernel

theorem meets_SysCommandsAnswer_1 :
    (asks 0x0001 (rq [] : Req) (wRun : State) = true) := by decide +kernel

theorem meets_SysCommandsAnswer_2 :
    (asks 0x0005 (rq [] : Req) (wRun : State) = true) := by decide +kernel

theorem meets_SysCommandsAnswer_3 :
    (asks 0x0008 (rq [] : Req) (wRun : State) = true) := by decide +kernel

theorem meets_SysCommandsAnswer_4 :
    (asks 0x0003 ({ side := .spi, sluice := 0, tag := 7, flags := 0, payload := [0, 1, 9, 0] } : Req) (wRun : State) = true) ∧
    (g1 ({ side := .spi, sluice := 0, tag := 7, flags := 0, payload := [0, 1, 9, 0] } : Req).payload 0 = 0) ∧
    (g1 ({ side := .spi, sluice := 0, tag := 7, flags := 0, payload := [0, 1, 9, 0] } : Req).payload 1 ≤ 15) ∧
    (abortCommand ({ side := .spi, sluice := 0, tag := 7, flags := 0, payload := [0, 1, 9, 0] } : Req).side (g1 ({ side := .spi, sluice := 0, tag := 7, flags := 0, payload := [0, 1, 9, 0] } : Req).payload 1) (g2 ({ side := .spi, sluice := 0, tag := 7, flags := 0, payload := [0, 1, 9, 0] } : Req).payload 2) (begun 0x0003 ({ side := .spi, sluice := 0, tag := 7, flags := 0, payload := [0, 1, 9, 0] } : Req) (wRun : State)) = ((2 : Nat), (taken { side := .spi, sluice := 0, tag := 7, flags := 0, payload := [0, 1, 9, 0] } wRun : State))) := by decide +kernel

theorem meets_SysCommandsAnswer_5 :
    (asks 0x0003 ({ side := .spi, sluice := 0, tag := 7, flags := 0, payload := [1, 0, 2, 0] } : Req) (wRun : State) = true) ∧
    (g1 ({ side := .spi, sluice := 0, tag := 7, flags := 0, payload := [1, 0, 2, 0] } : Req).payload 0 = 1) ∧
    (g1 ({ side := .spi, sluice := 0, tag := 7, flags := 0, payload := [1, 0, 2, 0] } : Req).payload 1 = 0) ∧
    (g2 ({ side := .spi, sluice := 0, tag := 7, flags := 0, payload := [1, 0, 2, 0] } : Req).payload 2 ≤ 15) := by decide +kernel

theorem meets_SysCommandsAnswer_6 :
    (asks 0x0003 ({ side := .spi, sluice := 0, tag := 7, flags := 0, payload := [1, 0, 16, 0] } : Req) (wRun : State) = true) ∧
    ((1 < g1 ({ side := .spi, sluice := 0, tag := 7, flags := 0, payload := [1, 0, 16, 0] } : Req).payload 0 ∨ 15 < g1 ({ side := .spi, sluice := 0, tag := 7, flags := 0, payload := [1, 0, 16, 0] } : Req).payload 1 ∨ (g1 ({ side := .spi, sluice := 0, tag := 7, flags := 0, payload := [1, 0, 16, 0] } : Req).payload 0 = 1 ∧ (g1 ({ side := .spi, sluice := 0, tag := 7, flags := 0, payload := [1, 0, 16, 0] } : Req).payload 1 ≠ 0 ∨ 15 < g2 ({ side := .spi, sluice := 0, tag := 7, flags := 0, payload := [1, 0, 16, 0] } : Req).payload 2)))) := by decide +kernel

theorem meets_SysCommandsAnswer_7 :
    (asks 0x0006 (rq [0, 0, 0, 0] : Req) (wRun : State) = true) ∧
    (g1 (rq [0, 0, 0, 0] : Req).payload 0 = 0) ∧
    (zeroAt (rq [0, 0, 0, 0] : Req).payload 1 3 = true) := by decide +kernel

theorem meets_SysCommandsAnswer_8 :
    (asks 0x0006 (rq [1, 0, 0, 0] : Req) (wRun : State) = true) ∧
    (g1 (rq [1, 0, 0, 0] : Req).payload 0 = 1) ∧
    (zeroAt (rq [1, 0, 0, 0] : Req).payload 1 3 = true) := by decide +kernel

theorem meets_SysCommandsAnswer_9 :
    (asks 0x0006 (rq [2, 0, 0, 0] : Req) (wRun : State) = true) ∧
    ((1 < g1 (rq [2, 0, 0, 0] : Req).payload 0 ∨ zeroAt (rq [2, 0, 0, 0] : Req).payload 1 3 = false)) := by decide +kernel

theorem meets_SluiceSetupClaimsAndReleases_1 :
    (asks 0x0007 (rq [4, 1, 8, 0] : Req) (wRun : State) = true) ∧
    (1 ≤ g1 (rq [4, 1, 8, 0] : Req).payload 0) ∧
    (g1 (rq [4, 1, 8, 0] : Req).payload 0 ≤ 15) ∧
    (g1 (rq [4, 1, 8, 0] : Req).payload 1 = 1) ∧
    (1 ≤ g1 (rq [4, 1, 8, 0] : Req).payload 2) ∧
    (g1 (rq [4, 1, 8, 0] : Req).payload 2 ≤ 32) ∧
    ((isSession (rq [4, 1, 8, 0] : Req).side = true → g1 (rq [4, 1, 8, 0] : Req).payload 2 = 1)) ∧
    (g1 (rq [4, 1, 8, 0] : Req).payload 3 = 0) ∧
    ((tget (begun 0x0007 (rq [4, 1, 8, 0] : Req) (wRun : State)).mail.sluices (g1 (rq [4, 1, 8, 0] : Req).payload 0)).owner = none) ∧
    ((isSession (rq [4, 1, 8, 0] : Req).side = true ∨ sramKib (begun 0x0007 (rq [4, 1, 8, 0] : Req) (wRun : State)) (g1 (rq [4, 1, 8, 0] : Req).payload 0) + g1 (rq [4, 1, 8, 0] : Req).payload 2 ≤ 254)) := by decide +kernel

theorem meets_SluiceSetupClaimsAndReleases_2 :
    (asks 0x0007 (rq [4, 1, 8, 1] : Req) (onMail (fun m => { m with sluices := tdel m.sluices 2 }) wRun : State) = true) ∧
    (1 ≤ g1 (rq [4, 1, 8, 1] : Req).payload 0) ∧
    (g1 (rq [4, 1, 8, 1] : Req).payload 0 ≤ 15) ∧
    (g1 (rq [4, 1, 8, 1] : Req).payload 1 = 1) ∧
    (1 ≤ g1 (rq [4, 1, 8, 1] : Req).payload 2) ∧
    (g1 (rq [4, 1, 8, 1] : Req).payload 2 ≤ 32) ∧
    ((isSession (rq [4, 1, 8, 1] : Req).side = true → g1 (rq [4, 1, 8, 1] : Req).payload 2 = 1)) ∧
    (g1 (rq [4, 1, 8, 1] : Req).payload 3 = 1) ∧
    (noticeSluice (begun 0x0007 (rq [4, 1, 8, 1] : Req) (onMail (fun m => { m with sluices := tdel m.sluices 2 }) wRun : State)) (rq [4, 1, 8, 1] : Req).side = none) ∧
    ((tget (begun 0x0007 (rq [4, 1, 8, 1] : Req) (onMail (fun m => { m with sluices := tdel m.sluices 2 }) wRun : State)).mail.sluices (g1 (rq [4, 1, 8, 1] : Req).payload 0)).owner = none) ∧
    ((isSession (rq [4, 1, 8, 1] : Req).side = true ∨ sramKib (begun 0x0007 (rq [4, 1, 8, 1] : Req) (onMail (fun m => { m with sluices := tdel m.sluices 2 }) wRun : State)) (g1 (rq [4, 1, 8, 1] : Req).payload 0) + g1 (rq [4, 1, 8, 1] : Req).payload 2 ≤ 254)) := by decide +kernel

theorem meets_SluiceSetupClaimsAndReleases_3 :
    (asks 0x0007 (rq [4, 1, 8, 0] : Req) (onMail (fun m => { m with sluices := (List.range 10).foldl (fun t i => tset t (i + 5) { owner := some .app, sizeKib := 25, st := .idle }) m.sluices }) wRun : State) = true) ∧
    (isSession (rq [4, 1, 8, 0] : Req).side = false) ∧
    (1 ≤ g1 (rq [4, 1, 8, 0] : Req).payload 0) ∧
    (g1 (rq [4, 1, 8, 0] : Req).payload 0 ≤ 15) ∧
    (g1 (rq [4, 1, 8, 0] : Req).payload 1 = 1) ∧
    (1 ≤ g1 (rq [4, 1, 8, 0] : Req).payload 2) ∧
    (g1 (rq [4, 1, 8, 0] : Req).payload 2 ≤ 32) ∧
    (g1 (rq [4, 1, 8, 0] : Req).payload 3 = 0) ∧
    ((tget (begun 0x0007 (rq [4, 1, 8, 0] : Req) (onMail (fun m => { m with sluices := (List.range 10).foldl (fun t i => tset t (i + 5) { owner := some .app, sizeKib := 25, st := .idle }) m.sluices }) wRun : State)).mail.sluices (g1 (rq [4, 1, 8, 0] : Req).payload 0)).owner = none) ∧
    (254 < sramKib (begun 0x0007 (rq [4, 1, 8, 0] : Req) (onMail (fun m => { m with sluices := (List.range 10).foldl (fun t i => tset t (i + 5) { owner := some .app, sizeKib := 25, st := .idle }) m.sluices }) wRun : State)) (g1 (rq [4, 1, 8, 0] : Req).payload 0) + g1 (rq [4, 1, 8, 0] : Req).payload 2) := by decide +kernel

theorem meets_SluiceSetupClaimsAndReleases_4 :
    (asks 0x0007 (rq [2, 0, 1, 0] : Req) (wRun : State) = true) ∧
    (1 ≤ g1 (rq [2, 0, 1, 0] : Req).payload 0) ∧
    (g1 (rq [2, 0, 1, 0] : Req).payload 0 ≤ 15) ∧
    (g1 (rq [2, 0, 1, 0] : Req).payload 1 = 0) ∧
    (1 ≤ g1 (rq [2, 0, 1, 0] : Req).payload 2) ∧
    (g1 (rq [2, 0, 1, 0] : Req).payload 2 ≤ 32) ∧
    ((isSession (rq [2, 0, 1, 0] : Req).side = true → g1 (rq [2, 0, 1, 0] : Req).payload 2 = 1)) ∧
    (g1 (rq [2, 0, 1, 0] : Req).payload 3 ≤ 1) ∧
    (tget (begun 0x0007 (rq [2, 0, 1, 0] : Req) (wRun : State)).mail.sluices (g1 (rq [2, 0, 1, 0] : Req).payload 0) = ({ owner := some .spi, sizeKib := 1, st := .idle, role := 1 } : Sluice)) ∧
    (({ owner := some .spi, sizeKib := 1, st := .idle, role := 1 } : Sluice).owner = some (rq [2, 0, 1, 0] : Req).side) ∧
    (({ owner := some .spi, sizeKib := 1, st := .idle, role := 1 } : Sluice).st = .idle) ∧
    (({ owner := some .spi, sizeKib := 1, st := .idle, role := 1 } : Sluice).held = none) ∧
    ((wRun : State).mail.jobs.any (fun j => j.org.side == (rq [2, 0, 1, 0] : Req).side && j.org.sluice == g1 (rq [2, 0, 1, 0] : Req).payload 0) = false) := by decide +kernel

theorem meets_SluiceSetupClaimsAndReleases_5 :
    (asks 0x0007 (rq [9, 0, 1, 0] : Req) (wRun : State) = true) ∧
    (1 ≤ g1 (rq [9, 0, 1, 0] : Req).payload 0) ∧
    (g1 (rq [9, 0, 1, 0] : Req).payload 0 ≤ 15) ∧
    (g1 (rq [9, 0, 1, 0] : Req).payload 1 = 0) ∧
    (1 ≤ g1 (rq [9, 0, 1, 0] : Req).payload 2) ∧
    (g1 (rq [9, 0, 1, 0] : Req).payload 2 ≤ 32) ∧
    ((isSession (rq [9, 0, 1, 0] : Req).side = true → g1 (rq [9, 0, 1, 0] : Req).payload 2 = 1)) ∧
    (g1 (rq [9, 0, 1, 0] : Req).payload 3 ≤ 1) ∧
    ((tget (begun 0x0007 (rq [9, 0, 1, 0] : Req) (wRun : State)).mail.sluices (g1 (rq [9, 0, 1, 0] : Req).payload 0)).owner = none) := by decide +kernel

theorem meets_SluiceSetupClaimsAndReleases_6 :
    (asks 0x0007 (rq [1, 0, 1, 0] : Req) (wRun : State) = true) ∧
    (1 ≤ g1 (rq [1, 0, 1, 0] : Req).payload 0) ∧
    (g1 (rq [1, 0, 1, 0] : Req).payload 0 ≤ 15) ∧
    (g1 (rq [1, 0, 1, 0] : Req).payload 1 = 0) ∧
    (1 ≤ g1 (rq [1, 0, 1, 0] : Req).payload 2) ∧
    (g1 (rq [1, 0, 1, 0] : Req).payload 2 ≤ 32) ∧
    ((isSession (rq [1, 0, 1, 0] : Req).side = true → g1 (rq [1, 0, 1, 0] : Req).payload 2 = 1)) ∧
    (g1 (rq [1, 0, 1, 0] : Req).payload 3 ≤ 1) ∧
    ((tget (begun 0x0007 (rq [1, 0, 1, 0] : Req) (wRun : State)).mail.sluices (g1 (rq [1, 0, 1, 0] : Req).payload 0)).owner = some (rq [1, 0, 1, 0] : Req).side) ∧
    ((tget (begun 0x0007 (rq [1, 0, 1, 0] : Req) (wRun : State)).mail.sluices (g1 (rq [1, 0, 1, 0] : Req).payload 0)).st ≠ .idle) := by decide +kernel

theorem meets_SluiceSetupClaimsAndReleases_7 :
    (asks 0x0007 (rq [16, 1, 1, 0] : Req) (wRun : State) = true) ∧
    ((g1 (rq [16, 1, 1, 0] : Req).payload 0 = 0 ∨ 15 < g1 (rq [16, 1, 1, 0] : Req).payload 0 ∨ 1 < g1 (rq [16, 1, 1, 0] : Req).payload 1 ∨ 1 < g1 (rq [16, 1, 1, 0] : Req).payload 3 ∨ g1 (rq [16, 1, 1, 0] : Req).payload 2 = 0 ∨ 32 < g1 (rq [16, 1, 1, 0] : Req).payload 2 ∨ (isSession (rq [16, 1, 1, 0] : Req).side = true ∧ g1 (rq [16, 1, 1, 0] : Req).payload 2 ≠ 1))) := by decide +kernel

theorem meets_ModeRequestStartsAllowedChanges_1 :
    (asks 0x0004 (rq [4, 0, 0, 0] : Req) (wCfg [] (wMode .commission wRun) : State) = true) ∧
    (zeroAt (rq [4, 0, 0, 0] : Req).payload 1 3 = true) ∧
    ((wCfg [] (wMode .commission wRun) : State).sys.target = none) ∧
    ((wCfg [] (wMode .commission wRun) : State).cfg.txn = none) ∧
    ((wCfg [] (wMode .commission wRun) : State).sys.mode = .commission) ∧
    (g1 (rq [4, 0, 0, 0] : Req).payload 0 = 4) ∧
    ((wCfg [] (wMode .commission wRun) : State).sys.safePin = false) ∧
    ((wCfg [] (wMode .commission wRun) : State).cfg.generation ≠ 0) := by decide +kernel

theorem meets_ModeRequestStartsAllowedChanges_2 :
    (asks 0x0004 (rq [4, 0, 0, 0] : Req) (wRun : State) = true) ∧
    (zeroAt (rq [4, 0, 0, 0] : Req).payload 1 3 = true) ∧
    ((wRun : State).sys.target = none) ∧
    ((wRun : State).cfg.txn = none) ∧
    ((wRun : State).sys.mode = .run) ∧
    (g1 (rq [4, 0, 0, 0] : Req).payload 0 = 4) ∧
    ((wRun : State).sys.safePin = false) := by decide +kernel

theorem meets_ModeRequestStartsAllowedChanges_3 :
    (asks 0x0004 (rq [3, 0, 0, 0] : Req) (wRun : State) = true) ∧
    (zeroAt (rq [3, 0, 0, 0] : Req).payload 1 3 = true) ∧
    ((wRun : State).sys.target = none) ∧
    ((wRun : State).cfg.txn = none) ∧
    (((wRun : State).sys.mode = .run ∨ (wRun : State).sys.mode = .hold)) ∧
    (g1 (rq [3, 0, 0, 0] : Req).payload 0 = 3) ∧
    (zonesQuiet (begun 0x0004 (rq [3, 0, 0, 0] : Req) (wRun : State)) = true) := by decide +kernel

theorem meets_ModeRequestStartsAllowedChanges_4 :
    (asks 0x0004 (rq [6, 0, 0, 0] : Req) (wRun : State) = true) ∧
    (zeroAt (rq [6, 0, 0, 0] : Req).payload 1 3 = true) ∧
    ((wRun : State).sys.target = none) ∧
    ((wRun : State).cfg.txn = none) ∧
    ((wRun : State).sys.mode = .run) ∧
    (g1 (rq [6, 0, 0, 0] : Req).payload 0 = 6) ∧
    (zonesIdle (begun 0x0004 (rq [6, 0, 0, 0] : Req) (wRun : State)) = true) := by decide +kernel

theorem meets_ModeRequestStartsAllowedChanges_5 :
    (asks 0x0004 (rq [7, 0, 0, 0] : Req) (wRun : State) = true) ∧
    (zeroAt (rq [7, 0, 0, 0] : Req).payload 1 3 = true) ∧
    ((wRun : State).sys.target = none) ∧
    ((wRun : State).cfg.txn = none) ∧
    ((wRun : State).sys.mode = .run) ∧
    (g1 (rq [7, 0, 0, 0] : Req).payload 0 = 7) ∧
    (zonesIdle (begun 0x0004 (rq [7, 0, 0, 0] : Req) (wRun : State)) = true) := by decide +kernel

theorem meets_ModeRequestStartsAllowedChanges_6 :
    (asks 0x0004 (rq [4, 0, 0, 0] : Req) (onSys (fun y => { y with target := some .run }) wRun : State) = true) ∧
    (zeroAt (rq [4, 0, 0, 0] : Req).payload 1 3 = true) ∧
    ((onSys (fun y => { y with target := some .run }) wRun : State).sys.target ≠ none) := by decide +kernel

theorem meets_ModeRequestStartsAllowedChanges_7 :
    (asks 0x0004 (rq [4, 0, 0, 0] : Req) (wTxn : State) = true) ∧
    (zeroAt (rq [4, 0, 0, 0] : Req).payload 1 3 = true) ∧
    ((wTxn : State).sys.target = none) ∧
    ((wTxn : State).cfg.txn ≠ none) := by decide +kernel

theorem meets_ModeRequestStartsAllowedChanges_8 :
    (asks 0x0004 (rq [4, 1, 0, 0] : Req) (wRun : State) = true) ∧
    (zeroAt (rq [4, 1, 0, 0] : Req).payload 1 3 = false) := by decide +kernel

theorem meets_ModeRequestStartsAllowedChanges_9 :
    (asks 0x0004 (rq [0, 0, 0, 0] : Req) (wRun : State) = true) ∧
    (zeroAt (rq [0, 0, 0, 0] : Req).payload 1 3 = true) ∧
    ((wRun : State).sys.target = none) ∧
    (((g1 (rq [0, 0, 0, 0] : Req).payload 0 ≠ 3 ∧ g1 (rq [0, 0, 0, 0] : Req).payload 0 ≠ 4 ∧ g1 (rq [0, 0, 0, 0] : Req).payload 0 ≠ 6 ∧ g1 (rq [0, 0, 0, 0] : Req).payload 0 ≠ 7) ∨ (g1 (rq [0, 0, 0, 0] : Req).payload 0 = 4 ∧ (((wRun : State).sys.mode ≠ .run ∧ (wRun : State).sys.mode ≠ .commission) ∨ (wRun : State).sys.safePin = true ∨ ((wRun : State).sys.mode = .commission ∧ (wRun : State).cfg.generation = 0))) ∨ (g1 (rq [0, 0, 0, 0] : Req).payload 0 = 3 ∧ (((wRun : State).sys.mode ≠ .run ∧ (wRun : State).sys.mode ≠ .hold) ∨ zonesQuiet (begun 0x0004 (rq [0, 0, 0, 0] : Req) (wRun : State)) = false)) ∨ ((g1 (rq [0, 0, 0, 0] : Req).payload 0 = 6 ∨ g1 (rq [0, 0, 0, 0] : Req).payload 0 = 7) ∧ ((wRun : State).sys.mode ≠ .run ∨ zonesIdle (begun 0x0004 (rq [0, 0, 0, 0] : Req) (wRun : State)) = false)))) := by decide +kernel

theorem meets_SafeAndResetsAct_1 :
    (watched (wRun : State) = true) := by decide +kernel

theorem meets_SafeAndResetsAct_2 :
    (watched (setCause 1 true (onSys (fun y => { y with safePin := true, mode := .hold }) wRun) : State) = true) := by decide +kernel

theorem meets_SafeAndResetsAct_3 :
    (watched (wIce : State) = false) := by decide +kernel

theorem meets_SafeAndResetsAct_4 :
    ((wRun : State).sys.mode ≠ .vault) ∧
    ((wRun : State).power.lastGasp = false) ∧
    ((wRun : State).sys.resetting = false) := by decide +kernel

theorem meets_SafeAndResetsAct_5 :
    (((wMode .vault wRun : State).sys.mode = .vault ∨ (wMode .vault wRun : State).power.lastGasp = true)) := by decide +kernel

theorem meets_SafeAndResetsAct_6 :
    ((onSys (fun y => { y with resetting := true }) wRun : State).sys.mode ≠ .vault) ∧
    ((onSys (fun y => { y with resetting := true }) wRun : State).power.lastGasp = false) ∧
    ((onSys (fun y => { y with resetting := true }) wRun : State).sys.resetting = true) := by decide +kernel

theorem meets_SafeAndResetsAct_7 :
    ((onSys (fun y => { y with resetting := true }) wRun : State).sys.resetting = true) ∧
    ((onSys (fun y => { y with resetting := true }) wRun : State).power.lastGasp = false) := by decide +kernel

theorem meets_SafeAndResetsAct_9 :
    ((onSys (fun y => { y with resetDue := some 0 }) wRun : State).sys.resetDue.isSome = true) ∧
    (served (onSys (fun y => { y with resetDue := some 0 }) wRun : State) = true) ∧
    ((onSys (fun y => { y with resetDue := some 0 }) wRun : State).sys.resetting = false) ∧
    ((onSys (fun y => { y with resetDue := some 0 }) wRun : State).power.lastGasp = false) := by decide +kernel

theorem meets_SafeAndResetsAct_10 :
    ((wRun : State).sys.resetDue = none) := by decide +kernel

theorem meets_SafeAndResetsAct_11 :
    ((wRun : State).sys.resetting = false) := by decide +kernel

theorem meets_SafeAndResetsAct_12 :
    (watched (wIce : State) = false) := by decide +kernel

theorem meets_SafeAndResetsAct_13 :
    (watched (wRun : State) = true) ∧
    ((wRun : State).power.lastGasp = false) := by decide +kernel

theorem meets_StartFollowsItsOrder_1 :
    (romRuns (State.reset : State) = true) ∧
    ((State.reset : State).sys.norChecked = false) ∧
    ((State.reset : State).sys.norFound = none) ∧
    ((State.reset : State).fsh.journal = 0) ∧
    ((State.reset : State).fsh.state ≠ 5) ∧
    ((State.reset : State).power.tripHold = false) ∧
    ((State.reset : State).power.sticky.getLsbD 5 = false) ∧
    (floorOf (State.reset : State) 1 ≤ (installedImg (State.reset : State) 1).arb) ∧
    ((State.reset : State).power.recoveryReq = false) ∧
    ((State.reset : State).fsh.recoveryCause = 0) ∧
    ((State.reset : State).absorb.repairCopy = false) := by decide +kernel

theorem meets_StartFollowsItsOrder_2 :
    (romRuns (State.reset : State) = true) ∧
    ((State.reset : State).sys.norChecked = false) ∧
    ((State.reset : State).sys.norFound = none) ∧
    ((State.reset : State).fsh.journal = 0) ∧
    ((State.reset : State).fsh.state ≠ 5) ∧
    ((State.reset : State).power.tripHold = false) ∧
    ((State.reset : State).power.sticky.getLsbD 5 = false) := by decide +kernel

theorem meets_StartFollowsItsOrder_3 :
    (romRuns (onFsh (fun f => { f with floors := [(1, 9)] }) State.reset : State) = true) ∧
    ((onFsh (fun f => { f with floors := [(1, 9)] }) State.reset : State).sys.norChecked = false) ∧
    ((onFsh (fun f => { f with floors := [(1, 9)] }) State.reset : State).sys.norFound = none) ∧
    ((onFsh (fun f => { f with floors := [(1, 9)] }) State.reset : State).fsh.journal = 0) ∧
    ((onFsh (fun f => { f with floors := [(1, 9)] }) State.reset : State).fsh.state ≠ 5) ∧
    ((onFsh (fun f => { f with floors := [(1, 9)] }) State.reset : State).power.tripHold = false) ∧
    ((onFsh (fun f => { f with floors := [(1, 9)] }) State.reset : State).power.sticky.getLsbD 5 = false) ∧
    ((installedImg (onFsh (fun f => { f with floors := [(1, 9)] }) State.reset : State) 1).arb < floorOf (onFsh (fun f => { f with floors := [(1, 9)] }) State.reset : State) 1) := by decide +kernel

theorem meets_StartFollowsItsOrder_4 :
    (romRuns (onPower (fun p => { p with recoveryReq := true }) State.reset : State) = true) ∧
    ((onPower (fun p => { p with recoveryReq := true }) State.reset : State).sys.norChecked = false) ∧
    ((onPower (fun p => { p with recoveryReq := true }) State.reset : State).sys.norFound = none) ∧
    ((onPower (fun p => { p with recoveryReq := true }) State.reset : State).fsh.journal = 0) ∧
    ((onPower (fun p => { p with recoveryReq := true }) State.reset : State).fsh.state ≠ 5) ∧
    ((onPower (fun p => { p with recoveryReq := true }) State.reset : State).power.tripHold = false) ∧
    ((onPower (fun p => { p with recoveryReq := true }) State.reset : State).power.sticky.getLsbD 5 = false) ∧
    (floorOf (onPower (fun p => { p with recoveryReq := true }) State.reset : State) 1 ≤ (installedImg (onPower (fun p => { p with recoveryReq := true }) State.reset : State) 1).arb) ∧
    ((onPower (fun p => { p with recoveryReq := true }) State.reset : State).power.recoveryReq = true) := by decide +kernel

theorem meets_StartFollowsItsOrder_5 :
    (romRuns (onFsh (fun f => { f with journal := 4, state := 4, img := { kind := 1, blocks := 2 }, norBlocks := 2 }) State.reset : State) = true) ∧
    ((onFsh (fun f => { f with journal := 4, state := 4, img := { kind := 1, blocks := 2 }, norBlocks := 2 }) State.reset : State).sys.norChecked = false) ∧
    ((onFsh (fun f => { f with journal := 4, state := 4, img := { kind := 1, blocks := 2 }, norBlocks := 2 }) State.reset : State).sys.norFound = none) ∧
    (((onFsh (fun f => { f with journal := 4, state := 4, img := { kind := 1, blocks := 2 }, norBlocks := 2 }) State.reset : State).fsh.journal = 4 ∨ (onFsh (fun f => { f with journal := 4, state := 4, img := { kind := 1, blocks := 2 }, norBlocks := 2 }) State.reset : State).fsh.journal = 8)) ∧
    ((onFsh (fun f => { f with journal := 4, state := 4, img := { kind := 1, blocks := 2 }, norBlocks := 2 }) State.reset : State).fsh.state ≠ 5) ∧
    ((onFsh (fun f => { f with journal := 4, state := 4, img := { kind := 1, blocks := 2 }, norBlocks := 2 }) State.reset : State).power.tripHold = false) ∧
    ((onFsh (fun f => { f with journal := 4, state := 4, img := { kind := 1, blocks := 2 }, norBlocks := 2 }) State.reset : State).power.sticky.getLsbD 5 = false) ∧
    (loaderBlock (onFsh (fun f => { f with journal := 4, state := 4, img := { kind := 1, blocks := 2 }, norBlocks := 2 }) State.reset : State) ≠ none) ∧
    (((onFsh (fun f => { f with journal := 4, state := 4, img := { kind := 1, blocks := 2 }, norBlocks := 2 }) State.reset : State).fsh.journal = 4 → (onFsh (fun f => { f with journal := 4, state := 4, img := { kind := 1, blocks := 2 }, norBlocks := 2 }) State.reset : State).fsh.backed = [])) := by decide +kernel

theorem meets_StartFollowsItsOrder_6 :
    (romRuns (onPower (fun p => { p with tripHold := true }) State.reset : State) = true) ∧
    ((onPower (fun p => { p with tripHold := true }) State.reset : State).sys.norChecked = false) ∧
    ((onPower (fun p => { p with tripHold := true }) State.reset : State).sys.norFound = none) ∧
    ((onPower (fun p => { p with tripHold := true }) State.reset : State).fsh.state ≠ 5) ∧
    ((onPower (fun p => { p with tripHold := true }) State.reset : State).power.tripHold = true) := by decide +kernel

theorem meets_StartFollowsItsOrder_7 :
    ((romRuns (wRun : State) = false ∨ (wRun : State).sys.norChecked = true ∨ (wRun : State).sys.norFound ≠ none)) := by decide +kernel

theorem meets_StartFollowsItsOrder_8 :
    (romRuns (onSys (fun y => { y with norChecked := true, resMeasured := true }) State.reset : State) = true) ∧
    ((onSys (fun y => { y with norChecked := true, resMeasured := true }) State.reset : State).sys.norChecked = true) ∧
    ((onSys (fun y => { y with norChecked := true, resMeasured := true }) State.reset : State).sys.norStay = false) ∧
    ((onSys (fun y => { y with norChecked := true, resMeasured := true }) State.reset : State).sys.resMeasured = true) ∧
    (bootHeld (onSys (fun y => { y with norChecked := true, resMeasured := true }) State.reset : State) = false) ∧
    ((onSys (fun y => { y with norChecked := true, resMeasured := true }) State.reset : State).absorb.dead = false) := by decide +kernel

theorem meets_StartFollowsItsOrder_9 :
    ((romRuns (State.reset : State) = false ∨ (State.reset : State).sys.norChecked = false ∨ (State.reset : State).sys.norStay = true ∨ (State.reset : State).sys.resMeasured = false ∨ bootHeld (State.reset : State) = true ∨ (State.reset : State).absorb.dead = true)) := by decide +kernel

theorem meets_StartFollowsItsOrder_10 :
    ((romRuns (State.reset : State) = false ∨ (State.reset : State).sys.supervisor = false)) := by decide +kernel

theorem meets_StartFollowsItsOrder_11 :
    (romRuns (onSys (fun y => { y with norChecked := true, resMeasured := true, supervisor := true }) State.reset : State) = true) ∧
    ((onSys (fun y => { y with norChecked := true, resMeasured := true, supervisor := true }) State.reset : State).sys.supervisor = true) := by decide +kernel

theorem meets_StartFollowsItsOrder_12 :
    (romRuns (onPower (fun p => { p with tripHold := true, springNs := 12000000000 }) State.reset : State) = true) ∧
    ((onPower (fun p => { p with tripHold := true, springNs := 12000000000 }) State.reset : State).power.tripHold = true) ∧
    ((onPower (fun p => { p with tripHold := true, springNs := 12000000000 }) State.reset : State).power.sticky.getLsbD 5 = false) ∧
    ((∀ t ∈ ([104000, 105000] : List Int), t ≤ 105000)) ∧
    ((onPower (fun p => { p with tripHold := true, springNs := 12000000000 }) State.reset : State).power.tripAt + 10000000000 ≤ (onPower (fun p => { p with tripHold := true, springNs := 12000000000 }) State.reset : State).power.springNs) := by decide +kernel

theorem meets_StartFollowsItsOrder_13 :
    ((romRuns (onPower (fun p => { p with tripHold := true }) State.reset : State) = false ∨ (onPower (fun p => { p with tripHold := true }) State.reset : State).power.tripHold = false ∨ (onPower (fun p => { p with tripHold := true }) State.reset : State).power.sticky.getLsbD 5 = true ∨ (∃ t ∈ ([105001] : List Int), 105000 < t) ∨ (onPower (fun p => { p with tripHold := true }) State.reset : State).power.springNs < (onPower (fun p => { p with tripHold := true }) State.reset : State).power.tripAt + 10000000000)) := by decide +kernel

theorem meets_ModeChangesAndWakesComplete_1 :
    ((onSys (fun y => { y with mode := .commission, target := some .run }) wRun : State).sys.mode = .commission) ∧
    ((onSys (fun y => { y with mode := .commission, target := some .run }) wRun : State).sys.target = some .run) ∧
    ((onSys (fun y => { y with mode := .commission, target := some .run }) wRun : State).sys.holdCauses = 0) := by decide +kernel

theorem meets_ModeChangesAndWakesComplete_2 :
    ((onSys (fun y => { y with mode := .commission, target := some .run, holdCauses := 4 }) wRun : State).sys.mode = .commission) ∧
    ((onSys (fun y => { y with mode := .commission, target := some .run, holdCauses := 4 }) wRun : State).sys.target = some .run) ∧
    ((onSys (fun y => { y with mode := .commission, target := some .run, holdCauses := 4 }) wRun : State).sys.holdCauses ≠ 0) := by decide +kernel

theorem meets_ModeChangesAndWakesComplete_3 :
    ((wRun : State).sys.target = none) := by decide +kernel

theorem meets_ModeChangesAndWakesComplete_4 :
    ((onZones (fun z => tset z 1 { st := 2 }) (wZone 1 0 0 [] [] {} [] |> onSys (fun y => { y with target := some .still })) : State).sys.target = some (.still : Mode)) ∧
    ((((onZones (fun z => tset z 1 { st := 2 }) (wZone 1 0 0 [] [] {} [] |> onSys (fun y => { y with target := some .still })) : State).sys.mode = .run ∧ (.still : Mode) = .commission ∧ zonesQuiet (onZones (fun z => tset z 1 { st := 2 }) (wZone 1 0 0 [] [] {} [] |> onSys (fun y => { y with target := some .still })) : State) = false) ∨ ((onZones (fun z => tset z 1 { st := 2 }) (wZone 1 0 0 [] [] {} [] |> onSys (fun y => { y with target := some .still })) : State).sys.mode = .hold ∧ (.still : Mode) = .commission ∧ zonesQuiet (onZones (fun z => tset z 1 { st := 2 }) (wZone 1 0 0 [] [] {} [] |> onSys (fun y => { y with target := some .still })) : State) = false) ∨ ((onZones (fun z => tset z 1 { st := 2 }) (wZone 1 0 0 [] [] {} [] |> onSys (fun y => { y with target := some .still })) : State).sys.mode = .run ∧ ((.still : Mode) = .still ∨ (.still : Mode) = .ice) ∧ zonesIdle (onZones (fun z => tset z 1 { st := 2 }) (wZone 1 0 0 [] [] {} [] |> onSys (fun y => { y with target := some .still })) : State) = false))) := by decide +kernel

theorem meets_ModeChangesAndWakesComplete_5 :
    (((onSys (fun y => { y with target := some .commission }) wRun : State).sys.mode = .run ∨ (onSys (fun y => { y with target := some .commission }) wRun : State).sys.mode = .hold)) ∧
    ((onSys (fun y => { y with target := some .commission }) wRun : State).sys.target = some .commission) ∧
    (zonesQuiet (onSys (fun y => { y with target := some .commission }) wRun : State) = true) := by decide +kernel

theorem meets_ModeChangesAndWakesComplete_6 :
    ((onSys (fun y => { y with target := some .still }) wRun : State).sys.mode = .run) ∧
    ((onSys (fun y => { y with target := some .still }) wRun : State).sys.target = some .still) ∧
    (zonesIdle (onSys (fun y => { y with target := some .still }) wRun : State) = true) := by decide +kernel

theorem meets_ModeChangesAndWakesComplete_7 :
    ((onPower (fun p => { p with energy := 1000000000000000000 }) (onSys (fun y => { y with target := some .ice }) wRun) : State).sys.mode = .run) ∧
    ((onPower (fun p => { p with energy := 1000000000000000000 }) (onSys (fun y => { y with target := some .ice }) wRun) : State).sys.target = some .ice) ∧
    (zonesIdle (onPower (fun p => { p with energy := 1000000000000000000 }) (onSys (fun y => { y with target := some .ice }) wRun) : State) = true) ∧
    (iceReady (onPower (fun p => { p with energy := 1000000000000000000 }) (onSys (fun y => { y with target := some .ice }) wRun) : State) = true) := by decide +kernel

theorem meets_ModeChangesAndWakesComplete_8 :
    ((onReam (fun m => { m with queue := [{ seq := 1 }] }) (onPower (fun p => { p with energy := 0 }) (onSys (fun y => { y with target := some .ice }) wRun)) : State).sys.mode = .run) ∧
    ((onReam (fun m => { m with queue := [{ seq := 1 }] }) (onPower (fun p => { p with energy := 0 }) (onSys (fun y => { y with target := some .ice }) wRun)) : State).sys.target = some .ice) ∧
    (zonesIdle (onReam (fun m => { m with queue := [{ seq := 1 }] }) (onPower (fun p => { p with energy := 0 }) (onSys (fun y => { y with target := some .ice }) wRun)) : State) = true) ∧
    (iceReady (onReam (fun m => { m with queue := [{ seq := 1 }] }) (onPower (fun p => { p with energy := 0 }) (onSys (fun y => { y with target := some .ice }) wRun)) : State) = false) := by decide +kernel

theorem meets_ModeChangesAndWakesComplete_9 :
    ((onSys (fun y => { y with mode := .still, target := some .run, targetWake := 6 }) wRun : State).sys.mode = .still) ∧
    ((onSys (fun y => { y with mode := .still, target := some .run, targetWake := 6 }) wRun : State).sys.target = some .run) := by decide +kernel

theorem meets_ModeChangesAndWakesComplete_10 :
    ((wMode .still wRun : State).sys.mode = .still) ∧
    ((wMode .still wRun : State).sys.target = none) := by decide +kernel

theorem meets_ModeChangesAndWakesComplete_11 :
    ((onSys (fun y => { y with mode := .ice, ready := false }) wRun : State).sys.mode = .ice) ∧
    ((onSys (fun y => { y with mode := .ice, ready := false }) wRun : State).power.lastGasp = false) ∧
    ((onSys (fun y => { y with mode := .ice, ready := false }) wRun : State).sys.resetting = false) := by decide +kernel

theorem meets_ModeChangesAndWakesComplete_12 :
    ((wRun : State).sys.mode ≠ .still) ∧
    ((wRun : State).sys.mode ≠ .ice) := by decide +kernel

theorem meets_ModeChangesAndWakesComplete_14 :
    ((wCfg [{ kind := 1, flags := 1, body := zeros 4 ++ p4 1000 }] (wMode .still wRun) : State).sys.mode = .still) ∧
    ((wCfg [{ kind := 1, flags := 1, body := zeros 4 ++ p4 1000 }] (wMode .still wRun) : State).sys.target = none) ∧
    (g4 (device (wCfg [{ kind := 1, flags := 1, body := zeros 4 ++ p4 1000 }] (wMode .still wRun) : State)) 4 ≠ 0) := by decide +kernel

theorem meets_ModeChangesAndWakesComplete_15 :
    ((wIce : State).sys.mode = .ice) ∧
    ((0 : Nat) < 2) ∧
    (bitOf (wakeBus (wIce : State)) (0 : Nat) = true) ∧
    (bitOf (wakeBus (wIce : State)) 2 = false) ∧
    ((wIce : State).power.lastGasp = false) ∧
    ((wIce : State).sys.resetting = false) := by decide +kernel

theorem meets_ModeChangesAndWakesComplete_16 :
    ((onCfg (fun c => { c with active := [{ kind := 1, flags := 1, body := zeros 8 ++ p4 8 ++ [7] ++ zeros 3 }, { kind := 5, flags := 1, body := zeros 40 ++ [0, 1, 0, 0] ++ p4 0x123 ++ p4 0x1FFFFFFF ++ [8] ++ zeros 43 }] }) wIce : State).sys.mode = .ice) ∧
    (frostWakes (onCfg (fun c => { c with active := [{ kind := 1, flags := 1, body := zeros 8 ++ p4 8 ++ [7] ++ zeros 3 }, { kind := 5, flags := 1, body := zeros 40 ++ [0, 1, 0, 0] ++ p4 0x123 ++ p4 0x1FFFFFFF ++ [8] ++ zeros 43 }] }) wIce : State) (0 : Nat) (.frame (0x123 : Nat) (1 : Nat) ([8] : List Byte)) = true) ∧
    ((onCfg (fun c => { c with active := [{ kind := 1, flags := 1, body := zeros 8 ++ p4 8 ++ [7] ++ zeros 3 }, { kind := 5, flags := 1, body := zeros 40 ++ [0, 1, 0, 0] ++ p4 0x123 ++ p4 0x1FFFFFFF ++ [8] ++ zeros 43 }] }) wIce : State).power.lastGasp = false) ∧
    ((onCfg (fun c => { c with active := [{ kind := 1, flags := 1, body := zeros 8 ++ p4 8 ++ [7] ++ zeros 3 }, { kind := 5, flags := 1, body := zeros 40 ++ [0, 1, 0, 0] ++ p4 0x123 ++ p4 0x1FFFFFFF ++ [8] ++ zeros 43 }] }) wIce : State).sys.resetting = false) := by decide +kernel

theorem meets_ModeChangesAndWakesComplete_17 :
    (((wIce : State).sys.mode ≠ .ice ∨ (frostWakes (wIce : State) (2 : Nat) (.dominantEdge : BusWake) = false ∧ wakeFio (wIce : State) (0 : Nat) = false))) := by decide +kernel

theorem meets_ModeChangesAndWakesComplete_18 :
    ((wIce : State).sys.mode = .ice) ∧
    (wakeFio (wIce : State) (3 : Nat) = true) ∧
    ((wIce : State).power.lastGasp = false) ∧
    ((wIce : State).sys.resetting = false) := by decide +kernel

theorem meets_ModeChangesAndWakesComplete_19 :
    ((onPower (fun p => { p with iceNs := 1000 }) (onSys (fun y => { y with mode := .boot, ready := false, bootLite := true, targetWake := 6 }) wIce) : State).sys.bootLite = true) ∧
    ((onPower (fun p => { p with iceNs := 1000 }) (onSys (fun y => { y with mode := .boot, ready := false, bootLite := true, targetWake := 6 }) wIce) : State).sys.mode = .boot) ∧
    ((onPower (fun p => { p with iceNs := 1000 }) (onSys (fun y => { y with mode := .boot, ready := false, bootLite := true, targetWake := 6 }) wIce) : State).sys.rstPin = false) ∧
    ((onPower (fun p => { p with iceNs := 1000 }) (onSys (fun y => { y with mode := .boot, ready := false, bootLite := true, targetWake := 6 }) wIce) : State).sys.resetting = false) ∧
    ((onPower (fun p => { p with iceNs := 1000 }) (onSys (fun y => { y with mode := .boot, ready := false, bootLite := true, targetWake := 6 }) wIce) : State).power.lastGasp = false) := by decide +kernel

theorem meets_ModeChangesAndWakesComplete_20 :
    ((wRun : State).sys.bootLite = false) := by decide +kernel

theorem meets_LogicSupplyEventsAct_1 :
    (watched (wRun : State) = true) ∧
    ((16900000 : Int) < 17000000) ∧
    ((wRun : State).power.warnVlogic = false) := by decide +kernel

theorem meets_LogicSupplyEventsAct_2 :
    (watched (onSys (fun y => { y with mode := .hold, holdCauses := 4 }) (onPower (fun p => { p with warnVlogic := true }) wRun) : State) = true) ∧
    ((17600000 : Int) > 17500000) ∧
    ((onSys (fun y => { y with mode := .hold, holdCauses := 4 }) (onPower (fun p => { p with warnVlogic := true }) wRun) : State).power.warnVlogic = true) := by decide +kernel

theorem meets_LogicSupplyEventsAct_3 :
    (17000000 ≤ (17200000 : Int)) ∧
    ((17200000 : Int) ≤ 17500000) := by decide +kernel

theorem meets_LogicSupplyEventsAct_4 :
    (((wIce : State).sys.mode = .vault ∨ (wIce : State).sys.mode = .ice)) := by decide +kernel

theorem meets_LogicSupplyEventsAct_5 :
    (((wMode .boot wRun |> onSys (fun y => { y with ready := false }) : State).sys.mode = .boot ∨ (wMode .boot wRun |> onSys (fun y => { y with ready := false }) : State).sys.mode = .recovery)) ∧
    ((16500000 : Int) < 17000000) ∧
    ((wMode .boot wRun |> onSys (fun y => { y with ready := false }) : State).power.warnVlogic = false) := by decide +kernel

theorem meets_LogicSupplyEventsAct_6 :
    (16000000 ≤ (16000000 : Int)) ∧
    ((wRun : State).power.dip = false) := by decide +kernel

theorem meets_LogicSupplyEventsAct_7 :
    ((onPower (fun p => { p with dip := true }) (onSys (fun y => { y with ready := false, mode := .boot }) wRun) : State).sys.ready = false) ∧
    ((onPower (fun p => { p with dip := true }) (onSys (fun y => { y with ready := false, mode := .boot }) wRun) : State).power.dip = true) ∧
    ((onPower (fun p => { p with dip := true }) (onSys (fun y => { y with ready := false, mode := .boot }) wRun) : State).power.lastGasp = false) ∧
    (16500000 < (16600000 : Int)) := by decide +kernel

theorem meets_LogicSupplyEventsAct_8 :
    ((wRun : State).sys.mode ≠ .vault) ∧
    ((15900000 : Int) < 16000000) := by decide +kernel

theorem meets_LogicSupplyEventsAct_9 :
    ((onPower (fun p => { p with dip := true }) wRun : State).sys.ready = true) ∧
    ((onPower (fun p => { p with dip := true }) wRun : State).power.dip = true) ∧
    ((onPower (fun p => { p with dip := true }) wRun : State).power.lastGasp = false) ∧
    (16500000 < (16600000 : Int)) := by decide +kernel

theorem meets_LogicSupplyEventsAct_10 :
    ((wRun : State).sys.mode ≠ .vault) ∧
    ((wRun : State).power.lastGasp = false) ∧
    ((15000000 : Int) < 16000000) := by decide +kernel

theorem meets_LogicSupplyEventsAct_11 :
    (((wMode .vault wRun : State).sys.mode = .vault ∨ (wMode .vault wRun : State).power.lastGasp = true)) := by decide +kernel

theorem meets_LogicSupplyEventsAct_12 :
    ((onPower (fun p => { p with lastGasp := true, coinCell := true }) wRun : State).power.lastGasp = true) ∧
    ((onPower (fun p => { p with lastGasp := true, coinCell := true }) wRun : State).power.coinCell = true) := by decide +kernel

theorem meets_LogicSupplyEventsAct_13 :
    ((onPower (fun p => { p with lastGasp := true }) wRun : State).power.lastGasp = true) ∧
    ((onPower (fun p => { p with lastGasp := true }) wRun : State).power.coinCell = false) := by decide +kernel

theorem meets_LogicSupplyEventsAct_14 :
    ((wRun : State).power.lastGasp = false) := by decide +kernel

theorem meets_LogicSupplyEventsAct_15 :
    ((onSys (fun y => { y with mode := .vault, ready := false }) (onPower (fun p => { p with vlogicOff := true, tripHold := true }) wRun) : State).sys.mode = .vault) ∧
    (17500000 < (18000000 : Int)) := by decide +kernel

theorem meets_LogicSupplyEventsAct_16 :
    ((onSys (fun y => { y with mode := .vault, ready := false }) (onPower (fun p => { p with coinCell := true }) wRun) : State).sys.mode = .vault) := by decide +kernel

theorem meets_LogicSupplyEventsAct_17 :
    ((wRun : State).sys.mode ≠ .vault) := by decide +kernel

theorem meets_FieldSuppliesAct_1 :
    ((0 : Nat) ≤ 1) := by decide +kernel

theorem meets_FieldSuppliesAct_2 :
    ((14000000 : Int) < 15000000) ∧
    ((((0 : Nat) = 0 ∧ (wFio : State).field.sagIo = none) ∨ ((0 : Nat) = 1 ∧ (wFio : State).field.sagVd = none))) ∧
    ((onField (fun f => { f with sagIo := some (wFio.sys.devTime : Int) }) (setSupply 0 14000000 wFio) : State) = onField (fun f => if (0 : Nat) = 0 then { f with sagIo := some ((wFio : State).sys.devTime : Int) } else { f with sagVd := some ((wFio : State).sys.devTime : Int) }) (setSupply (0 : Nat) (14000000 : Int) (wFio : State))) ∧
    ((note 0x0A21 [0, 14000, outputsOn wFio] ((stationsOfType wFio 0x41).foldl (fun t n => latchOff n t) (onField (fun f => { f with sagIo := some (wFio.sys.devTime : Int) }) (setSupply 0 14000000 wFio))) : State) = note 0x0A21 [(0 : Nat), mvOf (14000000 : Int), outputsOn (wFio : State)] ((stationsOfType (onField (fun f => { f with sagIo := some (wFio.sys.devTime : Int) }) (setSupply 0 14000000 wFio) : State) 0x41).foldl (fun t n => latchOff n t) (onField (fun f => { f with sagIo := some (wFio.sys.devTime : Int) }) (setSupply 0 14000000 wFio) : State))) ∧
    ((wFio : State).sys.ready = true) ∧
    (watched (note 0x0A21 [0, 14000, outputsOn wFio] ((stationsOfType wFio 0x41).foldl (fun t n => latchOff n t) (onField (fun f => { f with sagIo := some (wFio.sys.devTime : Int) }) (setSupply 0 14000000 wFio))) : State) = true) := by decide +kernel

theorem meets_FieldSuppliesAct_3 :
    (18000000 < (19000000 : Int)) ∧
    ((((0 : Nat) = 0 ∧ (setCause 3 true (wMode .hold (onField (fun f => { f with sagIo := some 2000000 }) (onSys (fun y => { y with devTime := 900000000 }) wRun))) : State).field.sagIo = some (2000000 : Int)) ∨ ((0 : Nat) = 1 ∧ (setCause 3 true (wMode .hold (onField (fun f => { f with sagIo := some 2000000 }) (onSys (fun y => { y with devTime := 900000000 }) wRun))) : State).field.sagVd = some (2000000 : Int)))) ∧
    ((onField (fun f => { f with sagIo := none }) (setSupply 0 19000000 (setCause 3 true (wMode .hold (onField (fun f => { f with sagIo := some 2000000 }) (onSys (fun y => { y with devTime := 900000000 }) wRun))))) : State) = onField (fun f => if (0 : Nat) = 0 then { f with sagIo := none } else { f with sagVd := none }) (setSupply (0 : Nat) (19000000 : Int) (setCause 3 true (wMode .hold (onField (fun f => { f with sagIo := some 2000000 }) (onSys (fun y => { y with devTime := 900000000 }) wRun))) : State))) ∧
    ((setCause 3 true (wMode .hold (onField (fun f => { f with sagIo := some 2000000 }) (onSys (fun y => { y with devTime := 900000000 }) wRun))) : State).sys.ready = true) ∧
    (watched (onField (fun f => { f with sagIo := none }) (setSupply 0 19000000 (setCause 3 true (wMode .hold (onField (fun f => { f with sagIo := some 2000000 }) (onSys (fun y => { y with devTime := 900000000 }) wRun))))) : State) = true) := by decide +kernel

theorem meets_FieldSuppliesAct_4 :
    ((14000000 : Int) < 15000000) ∧
    ((((0 : Nat) = 0 ∧ (onField (fun f => { f with sagIo := some 5 }) wRun : State).field.sagIo ≠ none) ∨ ((0 : Nat) = 1 ∧ (onField (fun f => { f with sagIo := some 5 }) wRun : State).field.sagVd ≠ none))) := by decide +kernel

theorem meets_FieldSuppliesAct_5 :
    (18000000 < (19000000 : Int)) ∧
    ((((1 : Nat) = 0 ∧ (wRun : State).field.sagIo = none) ∨ ((1 : Nat) = 1 ∧ (wRun : State).field.sagVd = none))) := by decide +kernel

theorem meets_FieldSuppliesAct_6 :
    ((1 < (0 : Nat) ∨ (15000000 ≤ (16000000 : Int) ∧ (16000000 : Int) ≤ 18000000))) := by decide +kernel

theorem meets_FieldSuppliesAct_7 :
    (1 < (2 : Nat)) := by decide +kernel

theorem meets_FieldSuppliesAct_8 :
    (10000000 ≤ (11000000 : Int)) ∧
    ((11000000 : Int) ≤ 12000000) := by decide +kernel

theorem meets_FieldSuppliesAct_9 :
    ((9000000 : Int) < 10000000) := by decide +kernel

theorem meets_FieldSuppliesAct_10 :
    (12000000 < (13000000 : Int)) := by decide +kernel

theorem meets_ReservoirAndStoresAct_1 :
    ((onPower (fun p => { p with capUf := 3300, capKnown := true, below405 := true }) wRun : State).sys.ready = true) ∧
    ((onPower (fun p => { p with capUf := 3300, capKnown := true, below405 := true }) wRun : State).power.capKnown = true) ∧
    ((onPower (fun p => { p with capUf := 3300, capKnown := true, below405 := true }) wRun : State).power.below405 = true) ∧
    (810000000000000000 ≤ usableEnergy (onPower (fun p => { p with capUf := 3300, capKnown := true, below405 := true }) wRun : State).power.capUf (34000000 : Int)) := by decide +kernel

theorem meets_ReservoirAndStoresAct_2 :
    (((onPower (fun p => { p with capUf := 3300, capKnown := true, below405 := false }) wRun : State).sys.ready = false ∨ (onPower (fun p => { p with capUf := 3300, capKnown := true, below405 := false }) wRun : State).power.below405 = decide ((if (onPower (fun p => { p with capUf := 3300, capKnown := true, below405 := false }) wRun : State).power.capKnown then usableEnergy (onPower (fun p => { p with capUf := 3300, capKnown := true, below405 := false }) wRun : State).power.capUf (34000000 : Int) else 0) < 810000000000000000))) := by decide +kernel

theorem meets_ReservoirAndStoresAct_3 :
    ((onPower (fun p => { p with measuring := 2 }) wRun : State).power.measuring ≠ 0) ∧
    ((onPower (fun p => { p with measuring := 2 }) wRun : State).power.lastGasp = false) ∧
    ((onPower (fun p => { p with measuring := 2 }) wRun : State).sys.mode ≠ .vault) := by decide +kernel

theorem meets_ReservoirAndStoresAct_4 :
    (((onPower (fun p => { p with measuring := 0 }) wRun : State).power.measuring = 0 ∨ (onPower (fun p => { p with measuring := 0 }) wRun : State).power.lastGasp = true ∨ (onPower (fun p => { p with measuring := 0 }) wRun : State).sys.mode = .vault)) := by decide +kernel

theorem meets_ReservoirAndStoresAct_5 :
    ((onPower (fun p => { p with measuring := 0 }) wRun : State).sys.ready = true) ∧
    ((onPower (fun p => { p with measuring := 0 }) wRun : State).power.measuring = 0) ∧
    ((onPower (fun p => { p with measuring := 0 }) wRun : State).power.lastGasp = false) ∧
    ((onPower (fun p => { p with measuring := 0 }) wRun : State).power.stores.any (·.admitted) = false) := by decide +kernel

theorem meets_ReservoirAndStoresAct_6 :
    ((onPower (fun p => { p with measuring := 0, stores := [{ act := .cellMap, cls := 1, admitted := true }] }) wRun : State).sys.ready = true) ∧
    (((onPower (fun p => { p with measuring := 0, stores := [{ act := .cellMap, cls := 1, admitted := true }] }) wRun : State).power.measuring ≠ 0 ∨ (onPower (fun p => { p with measuring := 0, stores := [{ act := .cellMap, cls := 1, admitted := true }] }) wRun : State).power.lastGasp = true ∨ (onPower (fun p => { p with measuring := 0, stores := [{ act := .cellMap, cls := 1, admitted := true }] }) wRun : State).power.stores.any (·.admitted) = true)) := by decide +kernel

theorem meets_ReservoirAndStoresAct_7 :
    (asks 0x0F22 (rq [] : Req) (onPower (fun p => { p with measuring := 0, vhold := 33000000 }) wRun : State) = true) ∧
    ((onPower (fun p => { p with measuring := 0, vhold := 33000000 }) wRun : State).power.measuring = 0) ∧
    ((onPower (fun p => { p with measuring := 0, vhold := 33000000 }) wRun : State).power.stores.any (·.admitted) = false) ∧
    (20000000 ≤ (onPower (fun p => { p with measuring := 0, vhold := 33000000 }) wRun : State).power.vhold) := by decide +kernel

theorem meets_ReservoirAndStoresAct_8 :
    (asks 0x0F22 (rq [] : Req) (onPower (fun p => { p with measuring := 1, vhold := 33000000 }) wRun : State) = true) ∧
    (((onPower (fun p => { p with measuring := 1, vhold := 33000000 }) wRun : State).power.measuring ≠ 0 ∨ (onPower (fun p => { p with measuring := 1, vhold := 33000000 }) wRun : State).power.stores.any (·.admitted) = true)) := by decide +kernel

theorem meets_ReservoirAndStoresAct_9 :
    (asks 0x0F22 (rq [] : Req) (onPower (fun p => { p with measuring := 0, vhold := 19000000 }) wRun : State) = true) ∧
    ((onPower (fun p => { p with measuring := 0, vhold := 19000000 }) wRun : State).power.measuring = 0) ∧
    ((onPower (fun p => { p with measuring := 0, vhold := 19000000 }) wRun : State).power.stores.any (·.admitted) = false) ∧
    ((onPower (fun p => { p with measuring := 0, vhold := 19000000 }) wRun : State).power.vhold < 20000000) := by decide +kernel

theorem meets_ReservoirAndStoresAct_10 :
    ((onPower (fun p => { p with charging := true }) wRun : State).sys.mode ≠ .vault) ∧
    ((30000000 : Int) < 33000000) ∧
    ((onPower (fun p => { p with charging := true }) wRun : State).power.charging = true) := by decide +kernel

theorem meets_ReservoirAndStoresAct_11 :
    (((wRun : State).sys.mode = .vault ∨ 33000000 ≤ (33000000 : Int) ∨ (setVhold (33000000 : Int) (wRun : State)).power.charging = false)) := by decide +kernel

theorem meets_ReservoirAndStoresAct_13 :
    ((onPower (fun p => { p with stores := [{ act := .cellMap, cls := 4, admitted := true }] }) wRun : State).power.stores[(0 : Nat)]? = some ({ act := .cellMap, cls := 4, admitted := true } : Store)) ∧
    (({ act := .cellMap, cls := 4, admitted := true } : Store).admitted = true) ∧
    ((onPower (fun p => { p with stores := [{ act := .cellMap, cls := 4, admitted := true }] }) wRun : State).power.lastGasp = false) ∧
    ((∀ b ∈ (onPower (fun p => { p with stores := [{ act := .cellMap, cls := 4, admitted := true }] }) wRun : State).fsh.backed, ({ act := .cellMap, cls := 4, admitted := true } : Store).act ≠ .freshetBlock b)) ∧
    ((∀ b ∈ List.range 256, ({ act := .cellMap, cls := 4, admitted := true } : Store).act ≠ .freshetBlock b)) ∧
    ((onPower (fun p => { p with stores := [{ act := .cellMap, cls := 4, admitted := true }] }) wRun : State).power.gaspStores = 0) ∧
    ((storeDone .cellMap (dropStore 0 (onPower (fun p => { p with stores := [{ act := .cellMap, cls := 4, admitted := true }] }) wRun)) : State) = storeDone ({ act := .cellMap, cls := 4, admitted := true } : Store).act (dropStore (0 : Nat) (onPower (fun p => { p with stores := [{ act := .cellMap, cls := 4, admitted := true }] }) wRun : State))) ∧
    ((storeDone .cellMap (dropStore 0 (onPower (fun p => { p with stores := [{ act := .cellMap, cls := 4, admitted := true }] }) wRun)) : State).fsh.restartDue = false) ∧
    ((({ act := .cellMap, cls := 4, admitted := true } : Store).act = .reamRecord ∨ ({ act := .cellMap, cls := 4, admitted := true } : Store).act = .cellMap ∨ ({ act := .cellMap, cls := 4, admitted := true } : Store).act = .ageRecord ∨ ({ act := .cellMap, cls := 4, admitted := true } : Store).act = .islandAudit ∨ ({ act := .cellMap, cls := 4, admitted := true } : Store).act = .islandSeq ∨ ({ act := .cellMap, cls := 4, admitted := true } : Store).act = .configMigrate)) := by decide +kernel

theorem meets_ReservoirAndStoresAct_14 :
    ((onPower (fun p => { p with stores := [{ act := .cellMap, cls := 1, admitted := true, write := 2 }] }) wRun : State).power.stores[(0 : Nat)]? = some ({ act := .cellMap, cls := 1, admitted := true, write := 2 } : Store)) ∧
    (({ act := .cellMap, cls := 1, admitted := true, write := 2 } : Store).admitted = true) ∧
    (({ act := .cellMap, cls := 1, admitted := true, write := 2 } : Store).write < 3) ∧
    ((({ act := .cellMap, cls := 1, admitted := true, write := 2 } : Store).act = .reamRecord ∨ ({ act := .cellMap, cls := 1, admitted := true, write := 2 } : Store).act = .cellMap ∨ ({ act := .cellMap, cls := 1, admitted := true, write := 2 } : Store).act = .ageRecord ∨ ({ act := .cellMap, cls := 1, admitted := true, write := 2 } : Store).act = .islandAudit ∨ ({ act := .cellMap, cls := 1, admitted := true, write := 2 } : Store).act = .islandSeq ∨ ({ act := .cellMap, cls := 1, admitted := true, write := 2 } : Store).act = .configMigrate)) ∧
    ((onPower (fun p => { p with stores := [{ act := .cellMap, cls := 1, admitted := true, write := 2 }] }) wRun : State).fsh.restartDue = false) ∧
    ((onPower (fun p => { p with stores := [{ act := .cellMap, cls := 1, admitted := true, write := 2 }] }) wRun : State).power.stepDue = false) := by decide +kernel

theorem meets_ReservoirAndStoresAct_15 :
    ((onPower (fun p => { p with stores := [{ act := .cellMap, cls := 1, admitted := true, write := 3 }] }) wRun : State).power.stores[(0 : Nat)]? = some ({ act := .cellMap, cls := 1, admitted := true, write := 3 } : Store)) ∧
    (({ act := .cellMap, cls := 1, admitted := true, write := 3 } : Store).admitted = true) ∧
    (3 ≤ ({ act := .cellMap, cls := 1, admitted := true, write := 3 } : Store).write) ∧
    (({ act := .cellMap, cls := 1, admitted := true, write := 3 } : Store).act = .cellMap) ∧
    ((onPower (fun p => { p with stores := [{ act := .cellMap, cls := 1, admitted := true, write := 3 }] }) wRun : State).fsh.restartDue = false) ∧
    ((onPower (fun p => { p with stores := [{ act := .cellMap, cls := 1, admitted := true, write := 3 }] }) wRun : State).power.stepDue = false) := by decide +kernel

theorem meets_ReservoirAndStoresAct_16 :
    ((∀ x, (onPower (fun p => { p with stores := [{ act := .cellMap, cls := 1 }] }) wRun : State).power.stores[(0 : Nat)]? = some x → x.admitted = false)) ∧
    ((onPower (fun p => { p with stores := [{ act := .cellMap, cls := 1 }] }) wRun : State).fsh.restartDue = false) ∧
    ((onPower (fun p => { p with stores := [{ act := .cellMap, cls := 1 }] }) wRun : State).power.stepDue = false) := by decide +kernel

theorem meets_TemperaturesAct_1 :
    ((wRun : State).sys.ready = true) ∧
    ((wearJunction (sampleSensor 0 ⟨30000, 10, 10⟩ wRun) : State) = wearJunction (sampleAll ([⟨30000, 10, 10⟩] : List TempIn) (wRun : State))) ∧
    ((∀ i ∈ List.range 14, warnCause (wearJunction (sampleSensor 0 ⟨30000, 10, 10⟩ wRun) : State) i = 0)) ∧
    ((∀ i ∈ List.range 14, (sensor (wearJunction (sampleSensor 0 ⟨30000, 10, 10⟩ wRun) : State) i).fast < 2 ∧ (sensor (refreshTempHot (wearJunction (sampleSensor 0 ⟨30000, 10, 10⟩ wRun) : State)) i).fast < 2)) := by decide +kernel

theorem meets_TemperaturesAct_2 :
    ((wRun : State).sys.ready = true) ∧
    ((wearJunction (sampleSensor 0 ⟨115000, 10, 10⟩ wRun) : State).power.thermalWarn = false) ∧
    ((wearJunction (sampleSensor 0 ⟨115000, 10, 10⟩ wRun) : State) = wearJunction (sampleAll ([⟨115000, 10, 10⟩] : List TempIn) (wRun : State))) ∧
    ((0 : Nat) < 14) ∧
    (warnCause (wearJunction (sampleSensor 0 ⟨115000, 10, 10⟩ wRun) : State) (0 : Nat) ≠ 0) ∧
    ((∀ j ∈ List.range (0 : Nat), warnCause (wearJunction (sampleSensor 0 ⟨115000, 10, 10⟩ wRun) : State) j = 0)) ∧
    ((note 0x0F30 [0, 1, 115000, 1] (onPower (fun p => { p with thermalWarn := true, warnSince := wRun.sys.devTime }) (wearJunction (sampleSensor 0 ⟨115000, 10, 10⟩ wRun))) : State) = note 0x0F30 [(0 : Nat), warnCause (wearJunction (sampleSensor 0 ⟨115000, 10, 10⟩ wRun) : State) (0 : Nat), treated (wearJunction (sampleSensor 0 ⟨115000, 10, 10⟩ wRun) : State) (0 : Nat), roundDiv (treatedRate (wearJunction (sampleSensor 0 ⟨115000, 10, 10⟩ wRun) : State) (0 : Nat)) 10] { (wearJunction (sampleSensor 0 ⟨115000, 10, 10⟩ wRun) : State) with power := { (wearJunction (sampleSensor 0 ⟨115000, 10, 10⟩ wRun) : State).power with thermalWarn := true, warnSince := (wRun : State).sys.devTime } }) ∧
    ((∀ j ∈ List.range 14, (sensor (note 0x0F30 [0, 1, 115000, 1] (onPower (fun p => { p with thermalWarn := true, warnSince := wRun.sys.devTime }) (wearJunction (sampleSensor 0 ⟨115000, 10, 10⟩ wRun))) : State) j).fast < 2 ∧ (sensor (refreshTempHot (note 0x0F30 [0, 1, 115000, 1] (onPower (fun p => { p with thermalWarn := true, warnSince := wRun.sys.devTime }) (wearJunction (sampleSensor 0 ⟨115000, 10, 10⟩ wRun))) : State)) j).fast < 2)) := by decide +kernel

theorem meets_TemperaturesAct_3 :
    ((modSensor 0 (fun k => { k with fast := 1 }) wRun : State).sys.ready = true) ∧
    ((wearJunction (sampleSensor 0 ⟨30000, 10, 20000⟩ (modSensor 0 (fun k => { k with fast := 1 }) wRun)) : State) = wearJunction (sampleAll ([⟨30000, 10, 20000⟩] : List TempIn) (modSensor 0 (fun k => { k with fast := 1 }) wRun : State))) ∧
    ((∀ j ∈ List.range 14, warnCause (wearJunction (sampleSensor 0 ⟨30000, 10, 20000⟩ (modSensor 0 (fun k => { k with fast := 1 }) wRun)) : State) j = 0)) ∧
    ((refreshTempHot (wearJunction (sampleSensor 0 ⟨30000, 10, 20000⟩ (modSensor 0 (fun k => { k with fast := 1 }) wRun))) : State) = (if islandUp (wearJunction (sampleSensor 0 ⟨30000, 10, 20000⟩ (modSensor 0 (fun k => { k with fast := 1 }) wRun)) : State) then refreshTempHot (wearJunction (sampleSensor 0 ⟨30000, 10, 20000⟩ (modSensor 0 (fun k => { k with fast := 1 }) wRun)) : State) else (wearJunction (sampleSensor 0 ⟨30000, 10, 20000⟩ (modSensor 0 (fun k => { k with fast := 1 }) wRun)) : State))) ∧
    ((0 : Nat) < 14) ∧
    ((sensor (refreshTempHot (wearJunction (sampleSensor 0 ⟨30000, 10, 20000⟩ (modSensor 0 (fun k => { k with fast := 1 }) wRun))) : State) (0 : Nat)).substituted = false) ∧
    (2 ≤ (sensor (refreshTempHot (wearJunction (sampleSensor 0 ⟨30000, 10, 20000⟩ (modSensor 0 (fun k => { k with fast := 1 }) wRun))) : State) (0 : Nat)).fast) ∧
    ((∀ j ∈ List.range (0 : Nat), (sensor (refreshTempHot (wearJunction (sampleSensor 0 ⟨30000, 10, 20000⟩ (modSensor 0 (fun k => { k with fast := 1 }) wRun))) : State) j).fast < 2)) := by decide +kernel

theorem meets_TemperaturesAct_4 :
    ((wIce : State).sys.ready = false) := by decide +kernel

theorem meets_TemperaturesAct_5 :
    ((onPower (fun p => { p with thermalWarn := true }) wRun : State).power.thermalWarn = true) ∧
    (allCool (onPower (fun p => { p with thermalWarn := true }) wRun : State) = true) := by decide +kernel

theorem meets_TemperaturesAct_6 :
    (((wRun : State).power.thermalWarn = false ∨ allCool (wRun : State) = false)) := by decide +kernel

theorem meets_TemperaturesAct_7 :
    ((wRun : State).sys.ready = true) := by decide +kernel

theorem meets_TemperaturesAct_8 :
    ((13 : Nat) ≤ 13) ∧
    ((sensor (wRun : State) (13 : Nat)).substituted = false) ∧
    (((false : Bool) = true ∨ 135000 ≤ (135000 : Int))) ∧
    ((wRun : State).sys.mode ≠ .vault) ∧
    ((wRun : State).sys.mode ≠ .ice) ∧
    ((wRun : State).power.lastGasp = false) := by decide +kernel

theorem meets_TemperaturesAct_9 :
    ((13 : Nat) ≤ 13) ∧
    ((sensor (onPower (fun p => { p with lastGasp := true }) wRun : State) (13 : Nat)).substituted = false) ∧
    (((true : Bool) = true ∨ 135000 ≤ (120000 : Int))) ∧
    ((onPower (fun p => { p with lastGasp := true }) wRun : State).sys.mode ≠ .vault) ∧
    ((onPower (fun p => { p with lastGasp := true }) wRun : State).sys.mode ≠ .ice) ∧
    ((onPower (fun p => { p with lastGasp := true }) wRun : State).power.lastGasp = true) := by decide +kernel

theorem meets_TemperaturesAct_10 :
    ((13 < (14 : Nat) ∨ (sensor (wIce : State) (14 : Nat)).substituted = true ∨ ((true : Bool) = false ∧ (120000 : Int) < 135000) ∨ (wIce : State).sys.mode = .vault ∨ (wIce : State).sys.mode = .ice)) := by decide +kernel

theorem meets_TemperaturesAct_11 :
    (asks 0x0F20 (rq [3, 0, 0, 0] : Req) (onPower (fun p => { p with sticky := 0x3F, thermTrip := 0x01008103 }) wRun : State) = true) ∧
    (((onPower (fun p => { p with sticky := 0x3F, thermTrip := 0x01008103 }) wRun).power : Power) = (onPower (fun p => { p with sticky := 0x3F, thermTrip := 0x01008103 }) wRun : State).power) ∧
    (g1 (rq [3, 0, 0, 0] : Req).payload 0 ≤ 3) ∧
    (zeroAt (rq [3, 0, 0, 0] : Req).payload 1 3 = true) := by decide +kernel

theorem meets_TemperaturesAct_12 :
    (asks 0x0F20 (rq [4, 0, 0, 0] : Req) (wRun : State) = true) ∧
    ((3 < g1 (rq [4, 0, 0, 0] : Req).payload 0 ∨ zeroAt (rq [4, 0, 0, 0] : Req).payload 1 3 = false)) := by decide +kernel

theorem meets_TemperaturesAct_13 :
    (asks 0x0F21 (rq [] : Req) (wRun : State) = true) := by decide +kernel

theorem meets_LockstepIsAbsorbed_1 :
    ((onSys (fun y => { y with devTime := 1000000 }) wRun : State).sys.ready = true) ∧
    ((onSys (fun y => { y with devTime := 1000000 }) wRun : State).absorb.reexecuting = false) := by decide +kernel

theorem meets_LockstepIsAbsorbed_2 :
    (((onAbsorb (fun a => { a with reexecuting := true }) wRun : State).sys.ready = false ∨ (onAbsorb (fun a => { a with reexecuting := true }) wRun : State).absorb.reexecuting = true)) := by decide +kernel

theorem meets_LockstepIsAbsorbed_3 :
    ((wRun : State).sys.ready = true) ∧
    ((wRun : State).absorb.core = 0) ∧
    ((wRun : State).absorb.dead = false) ∧
    ((wRun : State).power.lastGasp = false) ∧
    ((wRun : State).absorb.reexecuting = false) ∧
    ((recentMismatches (wRun : State)).length < 2) := by decide +kernel

theorem meets_LockstepIsAbsorbed_4 :
    ((onAbsorb (fun a => { a with mismatchTimes := [5, 4] }) wRun : State).sys.ready = true) ∧
    ((onAbsorb (fun a => { a with mismatchTimes := [5, 4] }) wRun : State).absorb.core = 0) ∧
    ((onAbsorb (fun a => { a with mismatchTimes := [5, 4] }) wRun : State).absorb.dead = false) ∧
    ((onAbsorb (fun a => { a with mismatchTimes := [5, 4] }) wRun : State).power.lastGasp = false) ∧
    ((onAbsorb (fun a => { a with mismatchTimes := [5, 4] }) wRun : State).absorb.reexecuting = false) ∧
    (2 ≤ (recentMismatches (onAbsorb (fun a => { a with mismatchTimes := [5, 4] }) wRun : State)).length) := by decide +kernel

theorem meets_LockstepIsAbsorbed_5 :
    ((wRun : State).sys.ready = true) ∧
    ((wRun : State).absorb.core = 0) ∧
    ((wRun : State).absorb.dead = false) ∧
    ((wRun : State).power.lastGasp = false) ∧
    ((wRun : State).absorb.reexecuting = false) := by decide +kernel

theorem meets_LockstepIsAbsorbed_6 :
    ((setCause 5 true (wMode .hold (onAbsorb (fun a => { a with reexecuting := true, latch := true, mismatchTimes := [0] }) wRun)) : State).sys.ready = true) ∧
    ((setCause 5 true (wMode .hold (onAbsorb (fun a => { a with reexecuting := true, latch := true, mismatchTimes := [0] }) wRun)) : State).absorb.core = 0) ∧
    ((setCause 5 true (wMode .hold (onAbsorb (fun a => { a with reexecuting := true, latch := true, mismatchTimes := [0] }) wRun)) : State).absorb.dead = false) ∧
    ((setCause 5 true (wMode .hold (onAbsorb (fun a => { a with reexecuting := true, latch := true, mismatchTimes := [0] }) wRun)) : State).power.lastGasp = false) ∧
    ((setCause 5 true (wMode .hold (onAbsorb (fun a => { a with reexecuting := true, latch := true, mismatchTimes := [0] }) wRun)) : State).absorb.reexecuting = true) := by decide +kernel

theorem meets_LockstepIsAbsorbed_7 :
    (((onAbsorb (fun a => { a with core := 1 }) wRun : State).sys.ready = false ∨ (onAbsorb (fun a => { a with core := 1 }) wRun : State).absorb.core ≠ 0 ∨ (onAbsorb (fun a => { a with core := 1 }) wRun : State).absorb.dead = true)) := by decide +kernel

theorem meets_LockstepIsAbsorbed_8 :
    ((onPower (fun p => { p with lastGasp := true }) wRun : State).sys.ready = true) ∧
    ((onPower (fun p => { p with lastGasp := true }) wRun : State).absorb.core = 0) ∧
    ((onPower (fun p => { p with lastGasp := true }) wRun : State).absorb.dead = false) ∧
    ((onPower (fun p => { p with lastGasp := true }) wRun : State).power.lastGasp = true) := by decide +kernel

theorem meets_LockstepIsAbsorbed_9 :
    (((true : Bool) = true ∨ (false : Bool) = true)) := by decide +kernel

theorem meets_ReexecutionAndLatchEnd_1 :
    ((onSys (fun y => { y with devTime := 5000000 }) (setCause 5 true (wMode .hold (onAbsorb (fun a => { a with reexecuting := true, latch := true, latchSince := 1000000 }) wRun))) : State).absorb.reexecuting = true) ∧
    ((onSys (fun y => { y with devTime := 5000000 }) (setCause 5 true (wMode .hold (onAbsorb (fun a => { a with reexecuting := true, latch := true, latchSince := 1000000 }) wRun))) : State).absorb.dead = false) ∧
    ((onSys (fun y => { y with devTime := 5000000 }) (setCause 5 true (wMode .hold (onAbsorb (fun a => { a with reexecuting := true, latch := true, latchSince := 1000000 }) wRun))) : State).power.lastGasp = false) := by decide +kernel

theorem meets_ReexecutionAndLatchEnd_2 :
    (((wRun : State).absorb.reexecuting = false ∨ (wRun : State).absorb.dead = true ∨ (wRun : State).power.lastGasp = true)) := by decide +kernel

theorem meets_ReexecutionAndLatchEnd_3 :
    ((onSys (fun y => { y with devTime := 10500000 }) (setCause 5 true (wMode .hold (onAbsorb (fun a => { a with reexecuting := true, latch := true, latchSince := 1000000 }) wRun))) : State).absorb.latch = true) ∧
    ((onSys (fun y => { y with devTime := 10500000 }) (setCause 5 true (wMode .hold (onAbsorb (fun a => { a with reexecuting := true, latch := true, latchSince := 1000000 }) wRun))) : State).absorb.latchExpired = false) ∧
    ((onSys (fun y => { y with devTime := 10500000 }) (setCause 5 true (wMode .hold (onAbsorb (fun a => { a with reexecuting := true, latch := true, latchSince := 1000000 }) wRun))) : State).power.lastGasp = false) ∧
    (9500000 ≤ (onSys (fun y => { y with devTime := 10500000 }) (setCause 5 true (wMode .hold (onAbsorb (fun a => { a with reexecuting := true, latch := true, latchSince := 1000000 }) wRun))) : State).sys.devTime - (onSys (fun y => { y with devTime := 10500000 }) (setCause 5 true (wMode .hold (onAbsorb (fun a => { a with reexecuting := true, latch := true, latchSince := 1000000 }) wRun))) : State).absorb.latchSince) := by decide +kernel

theorem meets_ReexecutionAndLatchEnd_4 :
    (((wRun : State).absorb.latch = false ∨ (wRun : State).absorb.latchExpired = true ∨ (wRun : State).power.lastGasp = true ∨ (wRun : State).sys.devTime - (wRun : State).absorb.latchSince < 9500000)) := by decide +kernel

theorem meets_CellsAndMemoriesAreAbsorbed_1 :
    ((1 : Nat) ≤ 3) ∧
    ((3 : Nat) < 8) ∧
    (cellDead (wRun : State) (1 : Nat) (3 : Nat) = false) ∧
    (tfind (wRun : State).absorb.spareServes (1 : Nat) = none) ∧
    (spareAlive (mapStore (onAbsorb (fun a => { a with cellFailed := ((1 : Nat), (3 : Nat)) :: a.cellFailed }) (wRun : State))) (1 : Nat) = true) ∧
    (spareAlive (wRun : State) (1 : Nat) = true) := by decide +kernel

theorem meets_CellsAndMemoriesAreAbsorbed_2 :
    ((1 : Nat) ≤ 3) ∧
    ((3 : Nat) < 8) ∧
    (cellDead (onAbsorb (fun a => { a with cellFailed := [(1, 2)], spareServes := [(1, 2)] }) wRun : State) (1 : Nat) (3 : Nat) = false) ∧
    ((tfind (onAbsorb (fun a => { a with cellFailed := [(1, 2)], spareServes := [(1, 2)] }) wRun : State).absorb.spareServes (1 : Nat) ≠ none ∨ spareAlive (onAbsorb (fun a => { a with cellFailed := [(1, 2)], spareServes := [(1, 2)] }) wRun : State) (1 : Nat) = false)) := by decide +kernel

theorem meets_CellsAndMemoriesAreAbsorbed_3 :
    ((1 : Nat) ≤ 3) ∧
    (cellDead (wRun : State) (1 : Nat) 8 = false) ∧
    (tfind (wRun : State).absorb.spareServes (1 : Nat) = none) := by decide +kernel

theorem meets_CellsAndMemoriesAreAbsorbed_4 :
    ((1 : Nat) ≤ 3) ∧
    (cellDead (onAbsorb (fun a => { a with cellFailed := [(1, 2)], spareServes := [(1, 2)] }) wRun : State) (1 : Nat) 8 = false) ∧
    (tfind (onAbsorb (fun a => { a with cellFailed := [(1, 2)], spareServes := [(1, 2)] }) wRun : State).absorb.spareServes (1 : Nat) = some (2 : Nat)) := by decide +kernel

theorem meets_CellsAndMemoriesAreAbsorbed_5 :
    ((3 < (4 : Nat) ∨ 8 < (3 : Nat) ∨ cellDead (wRun : State) (4 : Nat) (3 : Nat) = true)) := by decide +kernel

theorem meets_CellsAndMemoriesAreAbsorbed_6 :
    ((2 : Nat) ≤ 3) ∧
    (spareReady (wRun : State) (2 : Nat) = true) ∧
    ((onAbsorb (fun a => { a with shadowNext := [(2, 1)] }) wRun : State) = { (wRun : State) with absorb := { (wRun : State).absorb with shadowNext := tset (wRun : State).absorb.shadowNext (2 : Nat) (((tfind (wRun : State).absorb.shadowNext (2 : Nat)).getD 0 + 1) % 8) } }) := by decide +kernel

theorem meets_CellsAndMemoriesAreAbsorbed_7 :
    ((3 < (4 : Nat) ∨ spareReady (wRun : State) (4 : Nat) = false)) := by decide +kernel

theorem meets_CellsAndMemoriesAreAbsorbed_8 :
    ((3 : Nat) ≤ 3) ∧
    (spareReady (wRun : State) (3 : Nat) = true) := by decide +kernel

theorem meets_CellsAndMemoriesAreAbsorbed_10 :
    (((2 : Nat) = 2 ∨ (2 : Nat) = 3 ∨ (2 : Nat) = 5 ∨ (2 : Nat) = 6)) := by decide +kernel

theorem meets_CellsAndMemoriesAreAbsorbed_12 :
    ((1 : Nat) ≤ 1) := by decide +kernel

theorem meets_CellsAndMemoriesAreAbsorbed_13 :
    ((wRun : State).sys.ready = true) := by decide +kernel

theorem meets_CellsAndMemoriesAreAbsorbed_14 :
    ((wRun : State).sys.ready = true) ∧
    ((2 : Nat) ≤ 7) := by decide +kernel

theorem meets_CellsAndMemoriesAreAbsorbed_15 :
    ((wRun : State).sys.ready = true) := by decide +kernel

theorem meets_CellsAndMemoriesAreAbsorbed_16 :
    ((wRun : State).sys.ready = true) := by decide +kernel

theorem meets_CellsAndMemoriesAreAbsorbed_17 :
    ((wIce : State).sys.ready = false) := by decide +kernel

theorem meets_CellsAndMemoriesAreAbsorbed_18 :
    ((wRun : State).sys.ready = true) ∧
    (8388608 + 524288 ≤ (9000000 : Nat)) := by decide +kernel

theorem meets_CellsAndMemoriesAreAbsorbed_19 :
    (outOn (modFld 4 (fun f => { f with value := 1 }) (wCfg [wStn 4 0x41 4 [2, 3]] wRun) : State) (4 : Nat) = true) ∧
    (1 < (stnTerms (modFld 4 (fun f => { f with value := 1 }) (wCfg [wStn 4 0x41 4 [2, 3]] wRun) : State) (4 : Nat)).length) ∧
    ((stnTerms (modFld 4 (fun f => { f with value := 1 }) (wCfg [wStn 4 0x41 4 [2, 3]] wRun) : State) (4 : Nat)).contains (2 : Nat) = true) ∧
    ((30 : Nat) < 50) := by decide +kernel

theorem meets_CellsAndMemoriesAreAbsorbed_20 :
    ((outOn (wRun : State) (4 : Nat) = false ∨ (stnTerms (wRun : State) (4 : Nat)).length ≤ 1 ∨ (stnTerms (wRun : State) (4 : Nat)).contains (2 : Nat) = false ∨ 50 ≤ (30 : Nat))) := by decide +kernel

theorem meets_AgeingAndCountersAnswer_1 :
    (asks 0x0F50 (rq [] : Req) (wRun : State) = true) ∧
    ((wRun.absorb : Absorb) = (wRun : State).absorb) := by decide +kernel

theorem meets_AgeingAndCountersAnswer_2 :
    (asks 0x0F51 (rq [54, 0, 0, 0] : Req) (wRun : State) = true) ∧
    (g1 (rq [54, 0, 0, 0] : Req).payload 0 ≤ 54) ∧
    (zeroAt (rq [54, 0, 0, 0] : Req).payload 1 3 = true) ∧
    ((default : Age) = age (wRun : State) (g1 (rq [54, 0, 0, 0] : Req).payload 0)) := by decide +kernel

theorem meets_AgeingAndCountersAnswer_3 :
    (asks 0x0F52 (rq [1, 0, 0, 0] : Req) (onPower (fun p => { p with energy := 9000000000000000000 }) wRun : State) = true) ∧
    (g1 (rq [1, 0, 0, 0] : Req).payload 0 ≤ 1) ∧
    (zeroAt (rq [1, 0, 0, 0] : Req).payload 1 3 = true) ∧
    (canStore (.ageRebase (reqOrg 0x0F52 (rq [1, 0, 0, 0] : Req)) (g1 (rq [1, 0, 0, 0] : Req).payload 0)) (begun 0x0F52 (rq [1, 0, 0, 0] : Req) (onPower (fun p => { p with energy := 9000000000000000000 }) wRun : State)) = true) := by decide +kernel

theorem meets_AgeingAndCountersAnswer_4 :
    (asks 0x0F52 (rq [10, 0, 0, 0] : Req) (onPower (fun p => { p with energy := 9000000000000000000 }) wRun : State) = true) ∧
    (10 ≤ g1 (rq [10, 0, 0, 0] : Req).payload 0) ∧
    (g1 (rq [10, 0, 0, 0] : Req).payload 0 ≤ 21) ∧
    (zeroAt (rq [10, 0, 0, 0] : Req).payload 1 3 = true) ∧
    (canStore (.ageRebase (reqOrg 0x0F52 (rq [10, 0, 0, 0] : Req)) (g1 (rq [10, 0, 0, 0] : Req).payload 0)) (begun 0x0F52 (rq [10, 0, 0, 0] : Req) (onPower (fun p => { p with energy := 9000000000000000000 }) wRun : State)) = true) := by decide +kernel

theorem meets_AgeingAndCountersAnswer_5 :
    (asks 0x0F52 (rq [9, 0, 0, 0] : Req) (wRun : State) = true) ∧
    (((1 < g1 (rq [9, 0, 0, 0] : Req).payload 0 ∧ g1 (rq [9, 0, 0, 0] : Req).payload 0 < 10) ∨ 21 < g1 (rq [9, 0, 0, 0] : Req).payload 0 ∨ zeroAt (rq [9, 0, 0, 0] : Req).payload 1 3 = false)) := by decide +kernel

theorem meets_AgeingAndCountersAnswer_6 :
    (asks 0x0F51 (rq [55, 0, 0, 0] : Req) (wRun : State) = true) ∧
    ((54 < g1 (rq [55, 0, 0, 0] : Req).payload 0 ∨ zeroAt (rq [55, 0, 0, 0] : Req).payload 1 3 = false)) := by decide +kernel

theorem meets_AgeingAndCountersAnswer_7 :
    (asks 0x0F52 (rq [21, 0, 0, 0] : Req) (wRun : State) = true) ∧
    ((g1 (rq [21, 0, 0, 0] : Req).payload 0 ≤ 1 ∨ (10 ≤ g1 (rq [21, 0, 0, 0] : Req).payload 0 ∧ g1 (rq [21, 0, 0, 0] : Req).payload 0 ≤ 21))) ∧
    (zeroAt (rq [21, 0, 0, 0] : Req).payload 1 3 = true) ∧
    (canStore (.ageRebase (reqOrg 0x0F52 (rq [21, 0, 0, 0] : Req)) (g1 (rq [21, 0, 0, 0] : Req).payload 0)) (begun 0x0F52 (rq [21, 0, 0, 0] : Req) (wRun : State)) = false) := by decide +kernel

theorem meets_FieldCommandsAct_1 :
    (asks 0x0A01 (rq (p2 4 ++ [0, 0] ++ p4 1) : Req) (wFio : State) = true) ∧
    (g2 (rq (p2 4 ++ [0, 0] ++ p4 1) : Req).payload 2 = 0) ∧
    (g2 (rq (p2 4 ++ [0, 0] ++ p4 1) : Req).payload 0 < 128) ∧
    (isFieldOut (wFio : State) (g2 (rq (p2 4 ++ [0, 0] ++ p4 1) : Req).payload 0) = true) ∧
    ((stn (wFio : State) (g2 (rq (p2 4 ++ [0, 0] ++ p4 1) : Req).payload 0)).isEmpty = false) ∧
    ((i4 (rq (p2 4 ++ [0, 0] ++ p4 1) : Req).payload 4 = 0 ∨ i4 (rq (p2 4 ++ [0, 0] ++ p4 1) : Req).payload 4 = 1)) ∧
    (inRunningZone (wFio : State) (g2 (rq (p2 4 ++ [0, 0] ++ p4 1) : Req).payload 0) = false) := by decide +kernel

theorem meets_FieldCommandsAct_2 :
    (asks 0x0A01 (rq (p2 5 ++ [0, 0] ++ p4 1) : Req) (onZones (fun z => tset z 2 { st := 2 }) wFio : State) = true) ∧
    (g2 (rq (p2 5 ++ [0, 0] ++ p4 1) : Req).payload 2 = 0) ∧
    (g2 (rq (p2 5 ++ [0, 0] ++ p4 1) : Req).payload 0 < 128) ∧
    (isFieldOut (onZones (fun z => tset z 2 { st := 2 }) wFio : State) (g2 (rq (p2 5 ++ [0, 0] ++ p4 1) : Req).payload 0) = true) ∧
    ((stn (onZones (fun z => tset z 2 { st := 2 }) wFio : State) (g2 (rq (p2 5 ++ [0, 0] ++ p4 1) : Req).payload 0)).isEmpty = false) ∧
    ((i4 (rq (p2 5 ++ [0, 0] ++ p4 1) : Req).payload 4 = 0 ∨ i4 (rq (p2 5 ++ [0, 0] ++ p4 1) : Req).payload 4 = 1)) ∧
    (inRunningZone (onZones (fun z => tset z 2 { st := 2 }) wFio : State) (g2 (rq (p2 5 ++ [0, 0] ++ p4 1) : Req).payload 0) = true) := by decide +kernel

theorem meets_FieldCommandsAct_3 :
    (asks 0x0A01 (rq (p2 9 ++ [0, 0] ++ p4 1) : Req) (wFio : State) = true) ∧
    (g2 (rq (p2 9 ++ [0, 0] ++ p4 1) : Req).payload 2 = 0) ∧
    ((128 ≤ g2 (rq (p2 9 ++ [0, 0] ++ p4 1) : Req).payload 0 ∨ (stn (wFio : State) (g2 (rq (p2 9 ++ [0, 0] ++ p4 1) : Req).payload 0)).isEmpty = true)) := by decide +kernel

theorem meets_FieldCommandsAct_4 :
    (asks 0x0A01 (rq (p2 4 ++ [0, 0] ++ p4 2) : Req) (wFio : State) = true) ∧
    ((g2 (rq (p2 4 ++ [0, 0] ++ p4 2) : Req).payload 2 ≠ 0 ∨ (g2 (rq (p2 4 ++ [0, 0] ++ p4 2) : Req).payload 0 < 128 ∧ (stn (wFio : State) (g2 (rq (p2 4 ++ [0, 0] ++ p4 2) : Req).payload 0)).isEmpty = false ∧ (isFieldOut (wFio : State) (g2 (rq (p2 4 ++ [0, 0] ++ p4 2) : Req).payload 0) = false ∨ (i4 (rq (p2 4 ++ [0, 0] ++ p4 2) : Req).payload 4 ≠ 0 ∧ i4 (rq (p2 4 ++ [0, 0] ++ p4 2) : Req).payload 4 ≠ 1))))) := by decide +kernel

theorem meets_FieldCommandsAct_5 :
    (asks 0x0A04 (rq (p2 9 ++ [0, 0] ++ p4 12000) : Req) (wFio : State) = true) ∧
    (g2 (rq (p2 9 ++ [0, 0] ++ p4 12000) : Req).payload 2 = 0) ∧
    ((128 ≤ g2 (rq (p2 9 ++ [0, 0] ++ p4 12000) : Req).payload 0 ∨ (stn (wFio : State) (g2 (rq (p2 9 ++ [0, 0] ++ p4 12000) : Req).payload 0)).isEmpty = true)) := by decide +kernel

theorem meets_FieldCommandsAct_6 :
    (asks 0x0A04 (rq (p2 6 ++ [0, 0] ++ p4 3799) : Req) (wFio : State) = true) ∧
    ((g2 (rq (p2 6 ++ [0, 0] ++ p4 3799) : Req).payload 2 ≠ 0 ∨ (g2 (rq (p2 6 ++ [0, 0] ++ p4 3799) : Req).payload 0 < 128 ∧ (stn (wFio : State) (g2 (rq (p2 6 ++ [0, 0] ++ p4 3799) : Req).payload 0)).isEmpty = false ∧ (isLoopOut (wFio : State) (g2 (rq (p2 6 ++ [0, 0] ++ p4 3799) : Req).payload 0) = false ∨ i4 (rq (p2 6 ++ [0, 0] ++ p4 3799) : Req).payload 4 < 3800 ∨ 20500 < i4 (rq (p2 6 ++ [0, 0] ++ p4 3799) : Req).payload 4)))) := by decide +kernel

theorem meets_FieldCommandsAct_7 :
    (asks 0x0A04 (rq (p2 6 ++ [0, 0] ++ p4 12000) : Req) (onCfg (fun c => { c with active := c.active.map (fun o => if o.index = 6 then { o with body := p2 0x50 ++ [2, 0] ++ o.body.drop 4 } else o) }) (onZones (fun z => tset z 2 { st := 2 }) wFio) : State) = true) ∧
    (g2 (rq (p2 6 ++ [0, 0] ++ p4 12000) : Req).payload 2 = 0) ∧
    (g2 (rq (p2 6 ++ [0, 0] ++ p4 12000) : Req).payload 0 < 128) ∧
    (isLoopOut (onCfg (fun c => { c with active := c.active.map (fun o => if o.index = 6 then { o with body := p2 0x50 ++ [2, 0] ++ o.body.drop 4 } else o) }) (onZones (fun z => tset z 2 { st := 2 }) wFio) : State) (g2 (rq (p2 6 ++ [0, 0] ++ p4 12000) : Req).payload 0) = true) ∧
    ((stn (onCfg (fun c => { c with active := c.active.map (fun o => if o.index = 6 then { o with body := p2 0x50 ++ [2, 0] ++ o.body.drop 4 } else o) }) (onZones (fun z => tset z 2 { st := 2 }) wFio) : State) (g2 (rq (p2 6 ++ [0, 0] ++ p4 12000) : Req).payload 0)).isEmpty = false) ∧
    (3800 ≤ i4 (rq (p2 6 ++ [0, 0] ++ p4 12000) : Req).payload 4) ∧
    (i4 (rq (p2 6 ++ [0, 0] ++ p4 12000) : Req).payload 4 ≤ 20500) ∧
    (inRunningZone (onCfg (fun c => { c with active := c.active.map (fun o => if o.index = 6 then { o with body := p2 0x50 ++ [2, 0] ++ o.body.drop 4 } else o) }) (onZones (fun z => tset z 2 { st := 2 }) wFio) : State) (g2 (rq (p2 6 ++ [0, 0] ++ p4 12000) : Req).payload 0) = true) := by decide +kernel

theorem meets_FieldCommandsAct_8 :
    (asks 0x0A04 (rq (p2 6 ++ [0, 0] ++ p4 12000) : Req) (wFio : State) = true) ∧
    (g2 (rq (p2 6 ++ [0, 0] ++ p4 12000) : Req).payload 2 = 0) ∧
    (g2 (rq (p2 6 ++ [0, 0] ++ p4 12000) : Req).payload 0 < 128) ∧
    (isLoopOut (wFio : State) (g2 (rq (p2 6 ++ [0, 0] ++ p4 12000) : Req).payload 0) = true) ∧
    ((stn (wFio : State) (g2 (rq (p2 6 ++ [0, 0] ++ p4 12000) : Req).payload 0)).isEmpty = false) ∧
    (3800 ≤ i4 (rq (p2 6 ++ [0, 0] ++ p4 12000) : Req).payload 4) ∧
    (i4 (rq (p2 6 ++ [0, 0] ++ p4 12000) : Req).payload 4 ≤ 20500) ∧
    (inRunningZone (wFio : State) (g2 (rq (p2 6 ++ [0, 0] ++ p4 12000) : Req).payload 0) = false) := by decide +kernel

theorem meets_FieldCommandsAct_9 :
    (asks 0x0A02 (rq [1, 0, 0, 0] : Req) (wFio : State) = true) ∧
    (g1 (rq [1, 0, 0, 0] : Req).payload 0 ≤ 1) ∧
    (zeroAt (rq [1, 0, 0, 0] : Req).payload 1 3 = true) := by decide +kernel

theorem meets_FieldCommandsAct_10 :
    (asks 0x0A02 (rq [2, 0, 0, 0] : Req) (wFio : State) = true) ∧
    ((1 < g1 (rq [2, 0, 0, 0] : Req).payload 0 ∨ zeroAt (rq [2, 0, 0, 0] : Req).payload 1 3 = false)) := by decide +kernel

theorem meets_FieldCommandsAct_11 :
    (asks 0x0A03 (rq (p4 1) : Req) (wFio : State) = true) ∧
    (maskOk (wFio : State) (g4 (rq (p4 1) : Req).payload 0) = false) := by decide +kernel

theorem meets_FieldCommandsAct_12 :
    (asks 0x0A03 (rq (p4 0x10) : Req) (wFio : State) = true) ∧
    (maskOk (wFio : State) (g4 (rq (p4 0x10) : Req).payload 0) = true) := by decide +kernel

theorem meets_FieldCommandsAct_13 :
    (asks 0x0A05 (rq [6, 0, 0, 0] : Req) (modFld 6 (fun f => { f with termMv := some 9000 }) wFio : State) = true) ∧
    (g2 (rq [6, 0, 0, 0] : Req).payload 2 = 0) ∧
    (g2 (rq [6, 0, 0, 0] : Req).payload 0 < 128) ∧
    (isLoopOut (modFld 6 (fun f => { f with termMv := some 9000 }) wFio : State) (g2 (rq [6, 0, 0, 0] : Req).payload 0) = true) ∧
    ((stn (modFld 6 (fun f => { f with termMv := some 9000 }) wFio : State) (g2 (rq [6, 0, 0, 0] : Req).payload 0)).isEmpty = false) ∧
    ((9000 : Int) = (fld (modFld 6 (fun f => { f with termMv := some 9000 }) wFio : State) (g2 (rq [6, 0, 0, 0] : Req).payload 0)).termMv.getD (s32 (Config.freeNat (modFld 6 (fun f => { f with termMv := some 9000 }) wFio : State).fresh))) := by decide +kernel

theorem meets_FieldCommandsAct_14 :
    (asks 0x0A05 (rq [9, 0, 0, 0] : Req) (wFio : State) = true) ∧
    (g2 (rq [9, 0, 0, 0] : Req).payload 2 = 0) ∧
    ((128 ≤ g2 (rq [9, 0, 0, 0] : Req).payload 0 ∨ (stn (wFio : State) (g2 (rq [9, 0, 0, 0] : Req).payload 0)).isEmpty = true)) := by decide +kernel

theorem meets_FieldCommandsAct_15 :
    (asks 0x0A05 (rq [4, 0, 0, 0] : Req) (wFio : State) = true) ∧
    ((g2 (rq [4, 0, 0, 0] : Req).payload 2 ≠ 0 ∨ (g2 (rq [4, 0, 0, 0] : Req).payload 0 < 128 ∧ (stn (wFio : State) (g2 (rq [4, 0, 0, 0] : Req).payload 0)).isEmpty = false ∧ isLoopOut (wFio : State) (g2 (rq [4, 0, 0, 0] : Req).payload 0) = false))) := by decide +kernel

theorem meets_FieldEventsAct_1 :
    (inputRuns (wFio : State) (1 : Nat) = true) ∧
    (inLevel (wFio : State) (1 : Nat) ≠ (true : Bool)) ∧
    (inMode (wFio : State) (1 : Nat) = 0) := by decide +kernel

theorem meets_FieldEventsAct_2 :
    (inputRuns (wFio : State) (2 : Nat) = true) ∧
    (inLevel (wFio : State) (2 : Nat) ≠ (true : Bool)) ∧
    (inMode (wFio : State) (2 : Nat) ≠ 0) := by decide +kernel

theorem meets_FieldEventsAct_3 :
    ((inputRuns (wFio : State) (4 : Nat) = false ∨ inLevel (wFio : State) (4 : Nat) = (true : Bool))) := by decide +kernel

theorem meets_FieldEventsAct_4 :
    (inputRuns (onSys (fun y => { y with devTime := 60000 }) wFio : State) (2 : Nat) = true) ∧
    (inMode (onSys (fun y => { y with devTime := 60000 }) wFio : State) (2 : Nat) = 1) ∧
    ((∀ q, (fld (onSys (fun y => { y with devTime := 60000 }) wFio : State) (2 : Nat)).lastEdge = some q → q + 50000 ≤ (onSys (fun y => { y with devTime := 60000 }) wFio : State).sys.devTime)) := by decide +kernel

theorem meets_FieldEventsAct_5 :
    (inputRuns (modFld 2 (fun f => { f with lastEdge := some 20000 }) (onSys (fun y => { y with devTime := 60000 }) wFio) : State) (2 : Nat) = true) ∧
    (inMode (modFld 2 (fun f => { f with lastEdge := some 20000 }) (onSys (fun y => { y with devTime := 60000 }) wFio) : State) (2 : Nat) = 1) ∧
    ((fld (modFld 2 (fun f => { f with lastEdge := some 20000 }) (onSys (fun y => { y with devTime := 60000 }) wFio) : State) (2 : Nat)).lastEdge = some (20000 : Nat)) ∧
    ((modFld 2 (fun f => { f with lastEdge := some 20000 }) (onSys (fun y => { y with devTime := 60000 }) wFio) : State).sys.devTime < (20000 : Nat) + 50000) := by decide +kernel

theorem meets_FieldEventsAct_6 :
    (inputRuns (wFio : State) (3 : Nat) = true) ∧
    (inMode (wFio : State) (3 : Nat) = 2) ∧
    ((∀ q, (fld (wFio : State) (3 : Nat)).lastEdge = some q → q + 50000 ≤ (wFio : State).sys.devTime)) := by decide +kernel

theorem meets_FieldEventsAct_7 :
    ((inputRuns (wFio : State) (1 : Nat) = false ∨ inMode (wFio : State) (1 : Nat) = 0)) := by decide +kernel

theorem meets_FieldEventsAct_8 :
    (fieldRuns (onSys (fun y => { y with devTime := 200000000 }) wFio : State) = true) ∧
    (isFieldIn (onSys (fun y => { y with devTime := 200000000 }) wFio : State) (3 : Nat) = true) ∧
    (inMode (onSys (fun y => { y with devTime := 200000000 }) wFio : State) (3 : Nat) = 2) ∧
    ((fld (onSys (fun y => { y with devTime := 200000000 }) wFio : State) (3 : Nat)).gateStart + g4 (stnPart (onSys (fun y => { y with devTime := 200000000 }) wFio : State) (3 : Nat)) 8 * 1000000 ≤ (onSys (fun y => { y with devTime := 200000000 }) wFio : State).sys.devTime) := by decide +kernel

theorem meets_FieldEventsAct_9 :
    ((fieldRuns (wFio : State) = false ∨ isFieldIn (wFio : State) (3 : Nat) = false ∨ inMode (wFio : State) (3 : Nat) ≠ 2 ∨ (wFio : State).sys.devTime < (fld (wFio : State) (3 : Nat)).gateStart + g4 (stnPart (wFio : State) (3 : Nat)) 8 * 1000000)) := by decide +kernel

theorem meets_FieldEventsAct_10 :
    (fieldRuns (wFio : State) = true) ∧
    (isFieldOut (wFio : State) (4 : Nat) = true) ∧
    (blankingOver (wFio : State) (4 : Nat) = true) := by decide +kernel

theorem meets_FieldEventsAct_11 :
    (isFieldOut (modFld 4 (fun f => { f with faulted := true }) wFio : State) (4 : Nat) = true) := by decide +kernel

theorem meets_FieldEventsAct_12 :
    (isFieldOut (wFio : State) (1 : Nat) = false) := by decide +kernel

theorem meets_FieldEventsAct_13 :
    ((fieldRuns (modFld 4 (fun f => { f with switchedAt := some 0 }) wFio : State) = false ∨ blankingOver (modFld 4 (fun f => { f with switchedAt := some 0 }) wFio : State) (4 : Nat) = false)) := by decide +kernel

theorem meets_FieldEventsAct_14 :
    ((modFld 6 (fun f => { f with safe := false, commander := some .app }) (onSys (fun y => { y with devTime := 600000000 }) wFio) : State).absorb.reexecuting = false) := by decide +kernel

theorem meets_FieldEventsAct_15 :
    ((isFieldOut (modFld 6 (fun f => { f with safe := false, commander := some .app }) (onSys (fun y => { y with devTime := 600000000 }) wFio) : State) (6 : Nat) = true ∨ isLoopOut (modFld 6 (fun f => { f with safe := false, commander := some .app }) (onSys (fun y => { y with devTime := 600000000 }) wFio) : State) (6 : Nat) = true)) ∧
    (cmdTimeout (modFld 6 (fun f => { f with safe := false, commander := some .app }) (onSys (fun y => { y with devTime := 600000000 }) wFio) : State) (6 : Nat) ≠ 0) ∧
    ((fld (modFld 6 (fun f => { f with safe := false, commander := some .app }) (onSys (fun y => { y with devTime := 600000000 }) wFio) : State) (6 : Nat)).safe = false) ∧
    ((fld (modFld 6 (fun f => { f with safe := false, commander := some .app }) (onSys (fun y => { y with devTime := 600000000 }) wFio) : State) (6 : Nat)).commander.isSome = true) ∧
    ((fld (modFld 6 (fun f => { f with safe := false, commander := some .app }) (onSys (fun y => { y with devTime := 600000000 }) wFio) : State) (6 : Nat)).cmdAt + cmdTimeout (modFld 6 (fun f => { f with safe := false, commander := some .app }) (onSys (fun y => { y with devTime := 600000000 }) wFio) : State) (6 : Nat) * 1000000 ≤ (modFld 6 (fun f => { f with safe := false, commander := some .app }) (onSys (fun y => { y with devTime := 600000000 }) wFio) : State).sys.devTime) := by decide +kernel

theorem meets_FieldEventsAct_16 :
    ((onAbsorb (fun a => { a with reexecuting := true }) wFio : State).absorb.reexecuting = true) := by decide +kernel

theorem meets_FieldEventsAct_17 :
    (fieldRuns (modFld 6 (fun f => { f with value := 12000 }) wFio : State) = true) ∧
    (isLoopOut (modFld 6 (fun f => { f with value := 12000 }) wFio : State) (6 : Nat) = true) ∧
    ((100 ≤ (12051 : Int) ∨ loopTarget (modFld 6 (fun f => { f with value := 12000 }) wFio : State) (6 : Nat) (modFld 6 (fun f => { f with value := 12000 }) wFio : State).sys.devTime < 3600)) ∧
    (50 < (loopTarget (modFld 6 (fun f => { f with value := 12000 }) wFio : State) (6 : Nat) (modFld 6 (fun f => { f with value := 12000 }) wFio : State).sys.devTime - (12051 : Int)).natAbs) ∧
    ((fld (modFld 6 (fun f => { f with value := 12000 }) wFio : State) (6 : Nat)).loopFault = false) := by decide +kernel

theorem meets_FieldEventsAct_18 :
    (fieldRuns (modFld 6 (fun f => { f with value := 3600 }) wFio : State) = true) ∧
    (isLoopOut (modFld 6 (fun f => { f with value := 3600 }) wFio : State) (6 : Nat) = true) ∧
    ((99 : Int) < 100) ∧
    (3600 ≤ loopTarget (modFld 6 (fun f => { f with value := 3600 }) wFio : State) (6 : Nat) (modFld 6 (fun f => { f with value := 3600 }) wFio : State).sys.devTime) ∧
    ((fld (modFld 6 (fun f => { f with value := 3600 }) wFio : State) (6 : Nat)).openLoop = false) := by decide +kernel

theorem meets_FieldEventsAct_19 :
    (fieldRuns (modFld 6 (fun f => { f with value := 12000, loopFault := true }) wFio : State) = true) ∧
    (isLoopOut (modFld 6 (fun f => { f with value := 12000, loopFault := true }) wFio : State) (6 : Nat) = true) ∧
    ((100 ≤ (12051 : Int) ∨ loopTarget (modFld 6 (fun f => { f with value := 12000, loopFault := true }) wFio : State) (6 : Nat) (modFld 6 (fun f => { f with value := 12000, loopFault := true }) wFio : State).sys.devTime < 3600)) ∧
    (50 < (loopTarget (modFld 6 (fun f => { f with value := 12000, loopFault := true }) wFio : State) (6 : Nat) (modFld 6 (fun f => { f with value := 12000, loopFault := true }) wFio : State).sys.devTime - (12051 : Int)).natAbs) ∧
    ((fld (modFld 6 (fun f => { f with value := 12000, loopFault := true }) wFio : State) (6 : Nat)).loopFault = true) := by decide +kernel

theorem meets_FieldEventsAct_20 :
    ((fieldRuns (wFio : State) = false ∨ isLoopOut (wFio : State) (6 : Nat) = false ∨ (loopTarget (wFio : State) (6 : Nat) (wFio : State).sys.devTime - (0 : Int)).natAbs ≤ 50)) := by decide +kernel

theorem meets_FieldEventsAct_21 :
    (fieldRuns (modFld 6 (fun f => { f with loopFault := true }) wFio : State) = true) ∧
    (isLoopOut (modFld 6 (fun f => { f with loopFault := true }) wFio : State) (6 : Nat) = true) ∧
    (((30 : Int) - loopTarget (modFld 6 (fun f => { f with loopFault := true }) wFio : State) (6 : Nat) (modFld 6 (fun f => { f with loopFault := true }) wFio : State).sys.devTime).natAbs ≤ 50) := by decide +kernel

theorem meets_FieldEventsAct_22 :
    ((fieldRuns (wFio : State) = false ∨ isLoopOut (wFio : State) (6 : Nat) = false ∨ 50 < ((90 : Int) - loopTarget (wFio : State) (6 : Nat) (wFio : State).sys.devTime).natAbs)) := by decide +kernel

theorem meets_ValveCommandsAct_1 :
    (asks 0x0901 (rq (p2 10 ++ [0, 0] ++ p4 500000) : Req) (wValve : State) = true) ∧
    (g2 (rq (p2 10 ++ [0, 0] ++ p4 500000) : Req).payload 2 = 0) ∧
    (g2 (rq (p2 10 ++ [0, 0] ++ p4 500000) : Req).payload 0 < 128) ∧
    ((stn (wValve : State) (g2 (rq (p2 10 ++ [0, 0] ++ p4 500000) : Req).payload 0)).isEmpty = false) ∧
    (isProp (wValve : State) (g2 (rq (p2 10 ++ [0, 0] ++ p4 500000) : Req).payload 0) = true) ∧
    (0 ≤ i4 (rq (p2 10 ++ [0, 0] ++ p4 500000) : Req).payload 4) ∧
    (i4 (rq (p2 10 ++ [0, 0] ++ p4 500000) : Req).payload 4 ≤ iMax (wValve : State) (stnTerm (wValve : State) (g2 (rq (p2 10 ++ [0, 0] ++ p4 500000) : Req).payload 0))) ∧
    (inRunningZone (wValve : State) (g2 (rq (p2 10 ++ [0, 0] ++ p4 500000) : Req).payload 0) = false) ∧
    ((chn (wValve : State) (stnTerm (wValve : State) (g2 (rq (p2 10 ++ [0, 0] ++ p4 500000) : Req).payload 0))).latched = false) := by decide +kernel

theorem meets_ValveCommandsAct_2 :
    (asks 0x0901 (rq (p2 12 ++ [0, 0] ++ p4 500000) : Req) (onZones (fun z => tset z 3 { st := 2 }) (wCfg [wStnP 10 0x30 5 [2] (zeros 40 ++ p4 1000000 ++ zeros 20) , { wStnP 12 0x30 5 [3] (zeros 40 ++ p4 1000000 ++ zeros 20) with body := p2 0x30 ++ [3, 0, 5, 1, 3] ++ zeros 57 ++ zeros 40 ++ p4 1000000 }] wRun) : State) = true) ∧
    (g2 (rq (p2 12 ++ [0, 0] ++ p4 500000) : Req).payload 2 = 0) ∧
    (g2 (rq (p2 12 ++ [0, 0] ++ p4 500000) : Req).payload 0 < 128) ∧
    ((stn (onZones (fun z => tset z 3 { st := 2 }) (wCfg [wStnP 10 0x30 5 [2] (zeros 40 ++ p4 1000000 ++ zeros 20) , { wStnP 12 0x30 5 [3] (zeros 40 ++ p4 1000000 ++ zeros 20) with body := p2 0x30 ++ [3, 0, 5, 1, 3] ++ zeros 57 ++ zeros 40 ++ p4 1000000 }] wRun) : State) (g2 (rq (p2 12 ++ [0, 0] ++ p4 500000) : Req).payload 0)).isEmpty = false) ∧
    (isProp (onZones (fun z => tset z 3 { st := 2 }) (wCfg [wStnP 10 0x30 5 [2] (zeros 40 ++ p4 1000000 ++ zeros 20) , { wStnP 12 0x30 5 [3] (zeros 40 ++ p4 1000000 ++ zeros 20) with body := p2 0x30 ++ [3, 0, 5, 1, 3] ++ zeros 57 ++ zeros 40 ++ p4 1000000 }] wRun) : State) (g2 (rq (p2 12 ++ [0, 0] ++ p4 500000) : Req).payload 0) = true) ∧
    (0 ≤ i4 (rq (p2 12 ++ [0, 0] ++ p4 500000) : Req).payload 4) ∧
    (i4 (rq (p2 12 ++ [0, 0] ++ p4 500000) : Req).payload 4 ≤ iMax (onZones (fun z => tset z 3 { st := 2 }) (wCfg [wStnP 10 0x30 5 [2] (zeros 40 ++ p4 1000000 ++ zeros 20) , { wStnP 12 0x30 5 [3] (zeros 40 ++ p4 1000000 ++ zeros 20) with body := p2 0x30 ++ [3, 0, 5, 1, 3] ++ zeros 57 ++ zeros 40 ++ p4 1000000 }] wRun) : State) (stnTerm (onZones (fun z => tset z 3 { st := 2 }) (wCfg [wStnP 10 0x30 5 [2] (zeros 40 ++ p4 1000000 ++ zeros 20) , { wStnP 12 0x30 5 [3] (zeros 40 ++ p4 1000000 ++ zeros 20) with body := p2 0x30 ++ [3, 0, 5, 1, 3] ++ zeros 57 ++ zeros 40 ++ p4 1000000 }] wRun) : State) (g2 (rq (p2 12 ++ [0, 0] ++ p4 500000) : Req).payload 0))) ∧
    ((inRunningZone (onZones (fun z => tset z 3 { st := 2 }) (wCfg [wStnP 10 0x30 5 [2] (zeros 40 ++ p4 1000000 ++ zeros 20) , { wStnP 12 0x30 5 [3] (zeros 40 ++ p4 1000000 ++ zeros 20) with body := p2 0x30 ++ [3, 0, 5, 1, 3] ++ zeros 57 ++ zeros 40 ++ p4 1000000 }] wRun) : State) (g2 (rq (p2 12 ++ [0, 0] ++ p4 500000) : Req).payload 0) = true ∨ (chn (onZones (fun z => tset z 3 { st := 2 }) (wCfg [wStnP 10 0x30 5 [2] (zeros 40 ++ p4 1000000 ++ zeros 20) , { wStnP 12 0x30 5 [3] (zeros 40 ++ p4 1000000 ++ zeros 20) with body := p2 0x30 ++ [3, 0, 5, 1, 3] ++ zeros 57 ++ zeros 40 ++ p4 1000000 }] wRun) : State) (stnTerm (onZones (fun z => tset z 3 { st := 2 }) (wCfg [wStnP 10 0x30 5 [2] (zeros 40 ++ p4 1000000 ++ zeros 20) , { wStnP 12 0x30 5 [3] (zeros 40 ++ p4 1000000 ++ zeros 20) with body := p2 0x30 ++ [3, 0, 5, 1, 3] ++ zeros 57 ++ zeros 40 ++ p4 1000000 }] wRun) : State) (g2 (rq (p2 12 ++ [0, 0] ++ p4 500000) : Req).payload 0))).latched = true)) := by decide +kernel

theorem meets_ValveCommandsAct_3 :
    (asks 0x0902 (rq (p2 11 ++ [0, 0] ++ p4 5000) : Req) (wValve : State) = true) ∧
    (g2 (rq (p2 11 ++ [0, 0] ++ p4 5000) : Req).payload 2 = 0) ∧
    (g2 (rq (p2 11 ++ [0, 0] ++ p4 5000) : Req).payload 0 < 128) ∧
    ((stn (wValve : State) (g2 (rq (p2 11 ++ [0, 0] ++ p4 5000) : Req).payload 0)).isEmpty = false) ∧
    (isInj (wValve : State) (g2 (rq (p2 11 ++ [0, 0] ++ p4 5000) : Req).payload 0) = true) ∧
    (100 ≤ g4 (rq (p2 11 ++ [0, 0] ++ p4 5000) : Req).payload 4) ∧
    (g4 (rq (p2 11 ++ [0, 0] ++ p4 5000) : Req).payload 4 ≤ 10000000) ∧
    (inRunningZone (wValve : State) (g2 (rq (p2 11 ++ [0, 0] ++ p4 5000) : Req).payload 0) = false) := by decide +kernel

theorem meets_ValveCommandsAct_4 :
    (asks 0x0902 (rq (p2 11 ++ [0, 0] ++ p4 5000) : Req) (onZones (fun z => tset z 3 { st := 2 }) (wCfg [{ wStnP 11 0x31 5 [4] (zeros 64) with body := p2 0x31 ++ [3, 0, 5, 1, 4] ++ zeros 121 }] wRun) : State) = true) ∧
    (g2 (rq (p2 11 ++ [0, 0] ++ p4 5000) : Req).payload 2 = 0) ∧
    (g2 (rq (p2 11 ++ [0, 0] ++ p4 5000) : Req).payload 0 < 128) ∧
    ((stn (onZones (fun z => tset z 3 { st := 2 }) (wCfg [{ wStnP 11 0x31 5 [4] (zeros 64) with body := p2 0x31 ++ [3, 0, 5, 1, 4] ++ zeros 121 }] wRun) : State) (g2 (rq (p2 11 ++ [0, 0] ++ p4 5000) : Req).payload 0)).isEmpty = false) ∧
    (isInj (onZones (fun z => tset z 3 { st := 2 }) (wCfg [{ wStnP 11 0x31 5 [4] (zeros 64) with body := p2 0x31 ++ [3, 0, 5, 1, 4] ++ zeros 121 }] wRun) : State) (g2 (rq (p2 11 ++ [0, 0] ++ p4 5000) : Req).payload 0) = true) ∧
    (100 ≤ g4 (rq (p2 11 ++ [0, 0] ++ p4 5000) : Req).payload 4) ∧
    (g4 (rq (p2 11 ++ [0, 0] ++ p4 5000) : Req).payload 4 ≤ 10000000) ∧
    (inRunningZone (onZones (fun z => tset z 3 { st := 2 }) (wCfg [{ wStnP 11 0x31 5 [4] (zeros 64) with body := p2 0x31 ++ [3, 0, 5, 1, 4] ++ zeros 121 }] wRun) : State) (g2 (rq (p2 11 ++ [0, 0] ++ p4 5000) : Req).payload 0) = true) := by decide +kernel

theorem meets_ValveCommandsAct_5 :
    (asks 0x0901 (rq (p2 9 ++ [0, 0] ++ p4 5000) : Req) (wValve : State) = true) ∧
    (g2 (rq (p2 9 ++ [0, 0] ++ p4 5000) : Req).payload 2 = 0) ∧
    ((128 ≤ g2 (rq (p2 9 ++ [0, 0] ++ p4 5000) : Req).payload 0 ∨ (stn (wValve : State) (g2 (rq (p2 9 ++ [0, 0] ++ p4 5000) : Req).payload 0)).isEmpty = true)) := by decide +kernel

theorem meets_ValveCommandsAct_6 :
    (asks 0x0902 (rq (p2 9 ++ [0, 0] ++ p4 5000) : Req) (wValve : State) = true) ∧
    (g2 (rq (p2 9 ++ [0, 0] ++ p4 5000) : Req).payload 2 = 0) ∧
    ((128 ≤ g2 (rq (p2 9 ++ [0, 0] ++ p4 5000) : Req).payload 0 ∨ (stn (wValve : State) (g2 (rq (p2 9 ++ [0, 0] ++ p4 5000) : Req).payload 0)).isEmpty = true)) := by decide +kernel

theorem meets_ValveCommandsAct_7 :
    (asks 0x0903 (rq (p2 9 ++ [0, 0]) : Req) (wValve : State) = true) ∧
    (g2 (rq (p2 9 ++ [0, 0]) : Req).payload 2 = 0) ∧
    ((128 ≤ g2 (rq (p2 9 ++ [0, 0]) : Req).payload 0 ∨ (stn (wValve : State) (g2 (rq (p2 9 ++ [0, 0]) : Req).payload 0)).isEmpty = true)) := by decide +kernel

theorem meets_ValveCommandsAct_8 :
    (asks 0x0901 (rq (p2 10 ++ [1, 0] ++ p4 5000) : Req) (wValve : State) = true) ∧
    ((g2 (rq (p2 10 ++ [1, 0] ++ p4 5000) : Req).payload 2 ≠ 0 ∨ (g2 (rq (p2 10 ++ [1, 0] ++ p4 5000) : Req).payload 0 < 128 ∧ (stn (wValve : State) (g2 (rq (p2 10 ++ [1, 0] ++ p4 5000) : Req).payload 0)).isEmpty = false ∧ (isProp (wValve : State) (g2 (rq (p2 10 ++ [1, 0] ++ p4 5000) : Req).payload 0) = false ∨ i4 (rq (p2 10 ++ [1, 0] ++ p4 5000) : Req).payload 4 < 0 ∨ iMax (wValve : State) (stnTerm (wValve : State) (g2 (rq (p2 10 ++ [1, 0] ++ p4 5000) : Req).payload 0)) < i4 (rq (p2 10 ++ [1, 0] ++ p4 5000) : Req).payload 4)))) := by decide +kernel

theorem meets_ValveCommandsAct_9 :
    (asks 0x0902 (rq (p2 11 ++ [0, 0] ++ p4 99) : Req) (wValve : State) = true) ∧
    ((g2 (rq (p2 11 ++ [0, 0] ++ p4 99) : Req).payload 2 ≠ 0 ∨ (g2 (rq (p2 11 ++ [0, 0] ++ p4 99) : Req).payload 0 < 128 ∧ (stn (wValve : State) (g2 (rq (p2 11 ++ [0, 0] ++ p4 99) : Req).payload 0)).isEmpty = false ∧ (isInj (wValve : State) (g2 (rq (p2 11 ++ [0, 0] ++ p4 99) : Req).payload 0) = false ∨ g4 (rq (p2 11 ++ [0, 0] ++ p4 99) : Req).payload 4 < 100 ∨ 10000000 < g4 (rq (p2 11 ++ [0, 0] ++ p4 99) : Req).payload 4)))) := by decide +kernel

theorem meets_ValveCommandsAct_10 :
    (asks 0x0903 (rq (p2 11 ++ [0, 0]) : Req) (wValve : State) = true) ∧
    (g2 (rq (p2 11 ++ [0, 0]) : Req).payload 2 = 0) ∧
    ((11 : Nat) = g2 (rq (p2 11 ++ [0, 0]) : Req).payload 0) ∧
    ((11 : Nat) < 128) ∧
    ((4 : Nat) = stnTerm (wValve : State) (11 : Nat)) ∧
    ((stn (wValve : State) (11 : Nat)).isEmpty = false) ∧
    ((isProp (wValve : State) (11 : Nat) = true ∨ isInj (wValve : State) (11 : Nat) = true)) := by decide +kernel

theorem meets_ValveCommandsAct_11 :
    (asks 0x0903 (rq (p2 4 ++ [0, 0]) : Req) (wFio : State) = true) ∧
    ((g2 (rq (p2 4 ++ [0, 0]) : Req).payload 2 ≠ 0 ∨ (g2 (rq (p2 4 ++ [0, 0]) : Req).payload 0 < 128 ∧ (stn (wFio : State) (g2 (rq (p2 4 ++ [0, 0]) : Req).payload 0)).isEmpty = false ∧ isProp (wFio : State) (g2 (rq (p2 4 ++ [0, 0]) : Req).payload 0) = false ∧ isInj (wFio : State) (g2 (rq (p2 4 ++ [0, 0]) : Req).payload 0) = false))) := by decide +kernel

theorem meets_ValveCommandsAct_12 :
    (asks 0x0904 (rq [1, 0, 0, 0] : Req) (wValve : State) = true) ∧
    (zeroAt (rq [1, 0, 0, 0] : Req).payload 1 3 = true) ∧
    ((1 : Nat) = g1 (rq [1, 0, 0, 0] : Req).payload 0) ∧
    ((1 : Nat) ≤ 2) ∧
    ((default : Bank) = bank (wValve : State) (1 : Nat)) := by decide +kernel

theorem meets_ValveCommandsAct_13 :
    (asks 0x0904 (rq [3, 0, 0, 0] : Req) (wValve : State) = true) ∧
    ((zeroAt (rq [3, 0, 0, 0] : Req).payload 1 3 = false ∨ 2 < g1 (rq [3, 0, 0, 0] : Req).payload 0)) := by decide +kernel

theorem meets_ValveCommandsAct_14 :
    (asks 0x0905 (rq [1, 0, 1, 0] : Req) (modBank 1 (fun k => { k with latched := true, trips := [1, 2, 3] }) wValve : State) = true) ∧
    (g1 (rq [1, 0, 1, 0] : Req).payload 0 = 1) ∧
    (g1 (rq [1, 0, 1, 0] : Req).payload 1 = 0) ∧
    (g2 (rq [1, 0, 1, 0] : Req).payload 2 ≤ 2) := by decide +kernel

theorem meets_ValveCommandsAct_15 :
    (asks 0x0905 (rq [0, 0, 11, 0] : Req) (modChan 4 (fun k => { k with latched := true, st := 6, misses := 3 }) wValve : State) = true) ∧
    (g1 (rq [0, 0, 11, 0] : Req).payload 0 = 0) ∧
    (g1 (rq [0, 0, 11, 0] : Req).payload 1 = 0) ∧
    ((11 : Nat) = g2 (rq [0, 0, 11, 0] : Req).payload 2) ∧
    ((11 : Nat) < 128) ∧
    ((stn (modChan 4 (fun k => { k with latched := true, st := 6, misses := 3 }) wValve : State) (11 : Nat)).isEmpty = false) ∧
    ((isProp (modChan 4 (fun k => { k with latched := true, st := 6, misses := 3 }) wValve : State) (11 : Nat) = true ∨ isInj (modChan 4 (fun k => { k with latched := true, st := 6, misses := 3 }) wValve : State) (11 : Nat) = true)) ∧
    ((modChan 4 (fun k => { k with latched := false, stuck := false, misses := 0, trips := [], kinkSum := 0, kinkCount := 0, kinkRef := none, driftSaid := false, retrying := false, st := 0 }) (begun 0x0905 (rq [0, 0, 11, 0]) (modChan 4 (fun k => { k with latched := true, st := 6, misses := 3 }) wValve)) : State) = modChan (stnTerm (modChan 4 (fun k => { k with latched := true, st := 6, misses := 3 }) wValve : State) (11 : Nat)) (fun k => { k with latched := false, stuck := false, misses := 0, trips := [], kinkSum := 0, kinkCount := 0, kinkRef := none, driftSaid := false, retrying := false, st := if k.st = 6 then 0 else k.st }) (begun 0x0905 (rq [0, 0, 11, 0] : Req) (modChan 4 (fun k => { k with latched := true, st := 6, misses := 3 }) wValve : State))) := by decide +kernel

theorem meets_ValveCommandsAct_16 :
    (asks 0x0905 (rq [0, 0, 4, 0] : Req) (wFio : State) = true) ∧
    ((1 < g1 (rq [0, 0, 4, 0] : Req).payload 0 ∨ g1 (rq [0, 0, 4, 0] : Req).payload 1 ≠ 0 ∨ (g1 (rq [0, 0, 4, 0] : Req).payload 0 = 1 ∧ 2 < g2 (rq [0, 0, 4, 0] : Req).payload 2) ∨ (g1 (rq [0, 0, 4, 0] : Req).payload 0 = 0 ∧ g2 (rq [0, 0, 4, 0] : Req).payload 2 < 128 ∧ (stn (wFio : State) (g2 (rq [0, 0, 4, 0] : Req).payload 2)).isEmpty = false ∧ isProp (wFio : State) (g2 (rq [0, 0, 4, 0] : Req).payload 2) = false ∧ isInj (wFio : State) (g2 (rq [0, 0, 4, 0] : Req).payload 2) = false))) := by decide +kernel

theorem meets_ValveCommandsAct_17 :
    (asks 0x0905 (rq [0, 0, 9, 0] : Req) (wFio : State) = true) ∧
    (g1 (rq [0, 0, 9, 0] : Req).payload 0 = 0) ∧
    (g1 (rq [0, 0, 9, 0] : Req).payload 1 = 0) ∧
    ((128 ≤ g2 (rq [0, 0, 9, 0] : Req).payload 2 ∨ (stn (wFio : State) (g2 (rq [0, 0, 9, 0] : Req).payload 2)).isEmpty = true)) := by decide +kernel

theorem meets_InjectorPulsesRun_1 :
    (chanIsInj (modChan 4 (fun k => { k with st := 2, phase := 1, pulseStart := 0, pulseEnd := 5000000 }) wValve : State) (4 : Nat) = true) ∧
    ((chn (modChan 4 (fun k => { k with st := 2, phase := 1, pulseStart := 0, pulseEnd := 5000000 }) wValve : State) (4 : Nat)).phase = 1) ∧
    (iPeak (modChan 4 (fun k => { k with st := 2, phase := 1, pulseStart := 0, pulseEnd := 5000000 }) wValve : State) (4 : Nat) ≤ (4000000 : Int)) ∧
    ((500 : Nat) * 1000 < (chn (modChan 4 (fun k => { k with st := 2, phase := 1, pulseStart := 0, pulseEnd := 5000000 }) wValve : State) (4 : Nat)).pulseEnd - (chn (modChan 4 (fun k => { k with st := 2, phase := 1, pulseStart := 0, pulseEnd := 5000000 }) wValve : State) (4 : Nat)).pulseStart) := by decide +kernel

theorem meets_InjectorPulsesRun_2 :
    (chanIsInj (modChan 4 (fun k => { k with st := 2, phase := 1, pulseStart := 0, pulseEnd := 5000000 }) wValve : State) (4 : Nat) = true) ∧
    ((chn (modChan 4 (fun k => { k with st := 2, phase := 1, pulseStart := 0, pulseEnd := 5000000 }) wValve : State) (4 : Nat)).phase = 1) ∧
    ((3900000 : Int) < iPeak (modChan 4 (fun k => { k with st := 2, phase := 1, pulseStart := 0, pulseEnd := 5000000 }) wValve : State) (4 : Nat)) ∧
    (iPeak (modChan 4 (fun k => { k with st := 2, phase := 1, pulseStart := 0, pulseEnd := 5000000 }) wValve : State) (4 : Nat) ≤ (3900000 : Int) * 10) ∧
    ((500 : Nat) * 1000 < (chn (modChan 4 (fun k => { k with st := 2, phase := 1, pulseStart := 0, pulseEnd := 5000000 }) wValve : State) (4 : Nat)).pulseEnd - (chn (modChan 4 (fun k => { k with st := 2, phase := 1, pulseStart := 0, pulseEnd := 5000000 }) wValve : State) (4 : Nat)).pulseStart) := by decide +kernel

theorem meets_InjectorPulsesRun_3 :
    (chanIsInj (modChan 4 (fun k => { k with st := 2, phase := 1, pulseStart := 0, pulseEnd := 5000000 }) wValve : State) (4 : Nat) = true) ∧
    ((chn (modChan 4 (fun k => { k with st := 2, phase := 1, pulseStart := 0, pulseEnd := 5000000 }) wValve : State) (4 : Nat)).phase = 1) ∧
    ((100000 : Int) < iPeak (modChan 4 (fun k => { k with st := 2, phase := 1, pulseStart := 0, pulseEnd := 5000000 }) wValve : State) (4 : Nat)) ∧
    ((100000 : Int) * 10 < iPeak (modChan 4 (fun k => { k with st := 2, phase := 1, pulseStart := 0, pulseEnd := 5000000 }) wValve : State) (4 : Nat)) ∧
    ((500 : Nat) * 1000 < (chn (modChan 4 (fun k => { k with st := 2, phase := 1, pulseStart := 0, pulseEnd := 5000000 }) wValve : State) (4 : Nat)).pulseEnd - (chn (modChan 4 (fun k => { k with st := 2, phase := 1, pulseStart := 0, pulseEnd := 5000000 }) wValve : State) (4 : Nat)).pulseStart) := by decide +kernel

theorem meets_InjectorPulsesRun_4 :
    (chanIsInj (modChan 4 (fun k => { k with st := 2, phase := 1, pulseStart := 0, pulseEnd := 500000 }) wValve : State) (4 : Nat) = true) ∧
    ((((chn (modChan 4 (fun k => { k with st := 2, phase := 1, pulseStart := 0, pulseEnd := 500000 }) wValve : State) (4 : Nat)).phase = 1 ∧ iPeak (modChan 4 (fun k => { k with st := 2, phase := 1, pulseStart := 0, pulseEnd := 500000 }) wValve : State) (4 : Nat) ≤ (4000000 : Int)) ∨ (chn (modChan 4 (fun k => { k with st := 2, phase := 1, pulseStart := 0, pulseEnd := 500000 }) wValve : State) (4 : Nat)).phase = 2)) ∧
    ((chn (modChan 4 (fun k => { k with st := 2, phase := 1, pulseStart := 0, pulseEnd := 500000 }) wValve : State) (4 : Nat)).pulseEnd - (chn (modChan 4 (fun k => { k with st := 2, phase := 1, pulseStart := 0, pulseEnd := 500000 }) wValve : State) (4 : Nat)).pulseStart ≤ (500 : Nat) * 1000) := by decide +kernel

theorem meets_InjectorPulsesRun_5 :
    (chanIsInj (modChan 4 (fun k => { k with st := 2, phase := 2, pulseStart := 0, pulseEnd := 5000000 }) wValve : State) (4 : Nat) = true) ∧
    ((chn (modChan 4 (fun k => { k with st := 2, phase := 2, pulseStart := 0, pulseEnd := 5000000 }) wValve : State) (4 : Nat)).phase = 2) ∧
    ((900 : Nat) * 1000 < (chn (modChan 4 (fun k => { k with st := 2, phase := 2, pulseStart := 0, pulseEnd := 5000000 }) wValve : State) (4 : Nat)).pulseEnd - (chn (modChan 4 (fun k => { k with st := 2, phase := 2, pulseStart := 0, pulseEnd := 5000000 }) wValve : State) (4 : Nat)).pulseStart) := by decide +kernel

theorem meets_InjectorPulsesRun_6 :
    (chanIsInj (modChan 4 (fun k => { k with st := 4, phase := 3, pulseStart := 0, pulseEnd := 5000000 }) wValve : State) (4 : Nat) = true) ∧
    ((chn (modChan 4 (fun k => { k with st := 4, phase := 3, pulseStart := 0, pulseEnd := 5000000 }) wValve : State) (4 : Nat)).phase = 3) ∧
    ((1200 : Nat) * 1000 < (chn (modChan 4 (fun k => { k with st := 4, phase := 3, pulseStart := 0, pulseEnd := 5000000 }) wValve : State) (4 : Nat)).pulseEnd - (chn (modChan 4 (fun k => { k with st := 4, phase := 3, pulseStart := 0, pulseEnd := 5000000 }) wValve : State) (4 : Nat)).pulseStart) := by decide +kernel

theorem meets_InjectorPulsesRun_7 :
    (chanIsInj (modChan 4 (fun k => { k with st := 3, phase := 4, pulseStart := 0, pulseEnd := 5000000 }) wValve : State) (4 : Nat) = true) ∧
    ((((chn (modChan 4 (fun k => { k with st := 3, phase := 4, pulseStart := 0, pulseEnd := 5000000 }) wValve : State) (4 : Nat)).phase = 3 ∧ (chn (modChan 4 (fun k => { k with st := 3, phase := 4, pulseStart := 0, pulseEnd := 5000000 }) wValve : State) (4 : Nat)).pulseEnd - (chn (modChan 4 (fun k => { k with st := 3, phase := 4, pulseStart := 0, pulseEnd := 5000000 }) wValve : State) (4 : Nat)).pulseStart ≤ (5000 : Nat) * 1000) ∨ (chn (modChan 4 (fun k => { k with st := 3, phase := 4, pulseStart := 0, pulseEnd := 5000000 }) wValve : State) (4 : Nat)).phase = 4)) := by decide +kernel

theorem meets_InjectorPulsesRun_8 :
    (chanIsInj (modChan 4 (fun k => { k with st := 4, phase := 5, current := 100, pulseEnd := 5000000 }) wValve : State) (4 : Nat) = true) ∧
    ((chn (modChan 4 (fun k => { k with st := 4, phase := 5, current := 100, pulseEnd := 5000000 }) wValve : State) (4 : Nat)).phase = 5) := by decide +kernel

theorem meets_InjectorPulsesRun_9 :
    ((chanIsInj (wValve : State) (4 : Nat) = false ∨ (chn (wValve : State) (4 : Nat)).phase = 0)) := by decide +kernel

theorem meets_InjectorPulsesRun_10 :
    (readyQueue (modBank 1 (fun k => { k with queue := [{ chan := 4, station := 11, lenUs := 5000 }] }) (onPower (fun p => { p with vfieldVd := 24000000 }) (onValves (fun v => { v with boost := 2 }) wValve)) : State) (1 : Nat) = ({ chan := 4, station := 11, lenUs := 5000 } : PulseReq) :: ([] : List PulseReq)) ∧
    (peakCauses (modBank 1 (fun k => { k with queue := [{ chan := 4, station := 11, lenUs := 5000 }] }) (onPower (fun p => { p with vfieldVd := 24000000 }) (onValves (fun v => { v with boost := 2 }) wValve)) : State) ({ chan := 4, station := 11, lenUs := 5000 } : PulseReq).chan = []) := by decide +kernel

theorem meets_InjectorPulsesRun_11 :
    ((∀ q ∈ (readyQueue (modBank 1 (fun k => { k with queue := [{ chan := 4, station := 11, lenUs := 5000 }] }) wValve : State) (1 : Nat)).head?, peakCauses (modBank 1 (fun k => { k with queue := [{ chan := 4, station := 11, lenUs := 5000 }] }) wValve : State) q.chan ≠ [])) := by decide +kernel

theorem meets_InjectorPulsesRun_12 :
    ((readyQueue (modBank 1 (fun k => { k with queue := [{ chan := 4, station := 11, lenUs := 5000 }] }) (onSys (fun y => { y with devTime := 9000000000 }) wValve) : State) (1 : Nat)).find? (fun x => decide (x.since + deferUs (modBank 1 (fun k => { k with queue := [{ chan := 4, station := 11, lenUs := 5000 }] }) (onSys (fun y => { y with devTime := 9000000000 }) wValve) : State) x.chan * 1000 ≤ (modBank 1 (fun k => { k with queue := [{ chan := 4, station := 11, lenUs := 5000 }] }) (onSys (fun y => { y with devTime := 9000000000 }) wValve) : State).sys.devTime)) = some ({ chan := 4, station := 11, lenUs := 5000 } : PulseReq)) ∧
    ((peakCauses (modBank 1 (fun k => { k with queue := [{ chan := 4, station := 11, lenUs := 5000 }] }) (onSys (fun y => { y with devTime := 9000000000 }) wValve) : State) ({ chan := 4, station := 11, lenUs := 5000 } : PulseReq).chan).head? = some (2 : Nat)) := by decide +kernel

theorem meets_InjectorPulsesRun_13 :
    ((readyQueue (modBank 1 (fun k => { k with queue := [{ chan := 4, station := 11, lenUs := 5000 }] }) (onSys (fun y => { y with devTime := 9000000000 }) (onPower (fun p => { p with vfieldVd := 24000000 }) (onValves (fun v => { v with boost := 2 }) wValve))) : State) (1 : Nat)).find? (fun x => decide (x.since + deferUs (modBank 1 (fun k => { k with queue := [{ chan := 4, station := 11, lenUs := 5000 }] }) (onSys (fun y => { y with devTime := 9000000000 }) (onPower (fun p => { p with vfieldVd := 24000000 }) (onValves (fun v => { v with boost := 2 }) wValve))) : State) x.chan * 1000 ≤ (modBank 1 (fun k => { k with queue := [{ chan := 4, station := 11, lenUs := 5000 }] }) (onSys (fun y => { y with devTime := 9000000000 }) (onPower (fun p => { p with vfieldVd := 24000000 }) (onValves (fun v => { v with boost := 2 }) wValve))) : State).sys.devTime)) = some ({ chan := 4, station := 11, lenUs := 5000 } : PulseReq)) ∧
    (peakCauses (modBank 1 (fun k => { k with queue := [{ chan := 4, station := 11, lenUs := 5000 }] }) (onSys (fun y => { y with devTime := 9000000000 }) (onPower (fun p => { p with vfieldVd := 24000000 }) (onValves (fun v => { v with boost := 2 }) wValve))) : State) ({ chan := 4, station := 11, lenUs := 5000 } : PulseReq).chan = []) := by decide +kernel

theorem meets_InjectorPulsesRun_14 :
    ((readyQueue (wValve : State) (1 : Nat)).find? (fun x => decide (x.since + deferUs (wValve : State) x.chan * 1000 ≤ (wValve : State).sys.devTime)) = none) := by decide +kernel

theorem meets_InjectorPulsesRun_15 :
    (((onValves (fun v => { v with boost := 1 }) wValve : State).valves.boost = 1 ∨ (onValves (fun v => { v with boost := 1 }) wValve : State).valves.boost = 2)) ∧
    (44000000 ≤ (44000000 : Int)) := by decide +kernel

theorem meets_InjectorPulsesRun_16 :
    ((onValves (fun v => { v with boost := 3 }) wValve : State).valves.boost = 3) ∧
    (44000000 ≤ (44000000 : Int)) := by decide +kernel

theorem meets_InjectorPulsesRun_17 :
    (((onValves (fun v => { v with boost := 2 }) wValve : State).valves.boost = 1 ∨ (onValves (fun v => { v with boost := 2 }) wValve : State).valves.boost = 2)) ∧
    ((43000000 : Int) < 44000000) := by decide +kernel

theorem meets_InjectorPulsesRun_18 :
    (((wValve : State).valves.boost = 0 ∨ ((wValve : State).valves.boost = 3 ∧ (43000000 : Int) < 44000000))) := by decide +kernel

theorem meets_InjectorPulsesRun_19 :
    ((onValves (fun v => { v with boost := 1 }) wValve : State).valves.boost = 1) ∧
    ((40000000 : Int) < 44000000) := by decide +kernel

theorem meets_InjectorPulsesRun_20 :
    (((wValve : State).valves.boost ≠ 1 ∨ 44000000 ≤ (40000000 : Int))) := by decide +kernel

theorem meets_InjectorPulsesRun_21 :
    ((bank (onSys (fun y => { y with devTime := 11000000000 }) (modBank 1 (fun k => { k with clampHot := true }) wValve) : State) (1 : Nat)).clampHot = true) ∧
    (clampPower (onSys (fun y => { y with devTime := 11000000000 }) (modBank 1 (fun k => { k with clampHot := true }) wValve) : State) (1 : Nat) < (1 : Rat) / 5) ∧
    ((bank (onSys (fun y => { y with devTime := 11000000000 }) (modBank 1 (fun k => { k with clampHot := true }) wValve) : State) (1 : Nat)).clampHotAt + 10000000000 ≤ (onSys (fun y => { y with devTime := 11000000000 }) (modBank 1 (fun k => { k with clampHot := true }) wValve) : State).sys.devTime) := by decide +kernel

theorem meets_InjectorPulsesRun_22 :
    (((bank (wValve : State) (1 : Nat)).clampHot = false ∨ (1 : Rat) / 5 ≤ clampPower (wValve : State) (1 : Nat) ∨ (wValve : State).sys.devTime < (bank (wValve : State) (1 : Nat)).clampHotAt + 10000000000)) := by decide +kernel

theorem meets_InjectorPulsesRun_23 :
    ((14900000 : Int) < 15000000) := by decide +kernel

theorem meets_InjectorPulsesRun_24 :
    (15000000 ≤ (15000000 : Int)) := by decide +kernel

theorem meets_ValveProtectionActs_1 :
    (chanStn (wValve : State) (2 : Nat) = some (10 : Nat)) ∧
    ((if isProp (wValve : State) (10 : Nat) then 3500000 else 10000000) < (3500001 : Int)) ∧
    (([0] : List Nat) = tripsNow (wValve : State).sys.devTime (chn (wValve : State) (2 : Nat)).trips) ∧
    ((note 0x0913 [10, 3500001] (modChan 2 (fun k => { k with overcurrent := true, trips := [0], retrying := true }) (tripChan 2 3500001 wValve)) : State) = note 0x0913 [(10 : Nat), (3500001 : Int)] (modChan (2 : Nat) (fun k => { k with overcurrent := true, trips := ([0] : List Nat), retrying := isProp (wValve : State) (10 : Nat) }) (tripChan (2 : Nat) (3500001 : Int) (wValve : State)))) := by decide +kernel

theorem meets_ValveProtectionActs_2 :
    (1 ≤ (chn (modBank 1 (fun k => { k with peakOwner := some 4 }) (modChan 4 (fun k => { k with st := 2, phase := 1, pulseStart := 0, pulseEnd := 5000000 }) wValve) : State) (4 : Nat)).phase) ∧
    ((chn (modBank 1 (fun k => { k with peakOwner := some 4 }) (modChan 4 (fun k => { k with st := 2, phase := 1, pulseStart := 0, pulseEnd := 5000000 }) wValve) : State) (4 : Nat)).phase ≤ 4) := by decide +kernel

theorem meets_ValveProtectionActs_3 :
    ((chanStn (wValve : State) (2 : Nat) = none ∨ (3500000 : Int) ≤ 3500000)) := by decide +kernel

theorem meets_ValveProtectionActs_4 :
    ((0 : Nat) ≤ 2) ∧
    (18000000 < (18000001 : Int)) ∧
    (([0] : List Nat) = tripsNow (wValve : State).sys.devTime (bank (wValve : State) (0 : Nat)).trips) ∧
    ((note 0x0913 [256, 18000001] (refreshBanks (modBank 0 (fun k => { k with tripped := true, trips := [0] }) wValve)) : State) = note 0x0913 [256 + (0 : Nat), (18000001 : Int)] (refreshBanks (modBank (0 : Nat) (fun k => { k with tripped := true, trips := ([0] : List Nat) }) (wValve : State)))) := by decide +kernel

theorem meets_ValveProtectionActs_5 :
    ((2 < (0 : Nat) ∨ (18000000 : Int) ≤ 18000000)) := by decide +kernel

theorem meets_ValveProtectionActs_6 :
    (((bank (modChan 2 (fun k => { k with retrying := true, setpoint := 300000 }) wValve : State) ((2 : Nat) / 4)).tripped = false ∨ (bank (modChan 2 (fun k => { k with retrying := true, setpoint := 300000 }) wValve : State) ((2 : Nat) / 4)).latched = true)) ∧
    ((chn (modChan 2 (fun k => { k with retrying := true, setpoint := 300000 }) wValve : State) (2 : Nat)).retrying = true) ∧
    ((chn (modChan 2 (fun k => { k with retrying := true, setpoint := 300000 }) wValve : State) (2 : Nat)).latched = false) := by decide +kernel

theorem meets_ValveProtectionActs_7 :
    ((bank (modBank 0 (fun k => { k with tripped := true }) wValve : State) ((2 : Nat) / 4)).tripped = true) ∧
    ((bank (modBank 0 (fun k => { k with tripped := true }) wValve : State) ((2 : Nat) / 4)).latched = false) ∧
    ((refreshBanks (modBank 0 (fun k => { k with tripped := false }) (modBank 0 (fun k => { k with tripped := true }) wValve)) : State) = refreshBanks (modBank ((2 : Nat) / 4) (fun k => { k with tripped := false }) (modBank 0 (fun k => { k with tripped := true }) wValve : State))) ∧
    (((chn (refreshBanks (modBank 0 (fun k => { k with tripped := false }) (modBank 0 (fun k => { k with tripped := true }) wValve)) : State) (2 : Nat)).retrying = false ∨ (chn (refreshBanks (modBank 0 (fun k => { k with tripped := false }) (modBank 0 (fun k => { k with tripped := true }) wValve)) : State) (2 : Nat)).latched = true)) := by decide +kernel

theorem meets_ValveProtectionActs_8 :
    ((bank (wValve : State) ((2 : Nat) / 4)).tripped = false) ∧
    (((chn (wValve : State) (2 : Nat)).retrying = false ∨ (chn (wValve : State) (2 : Nat)).latched = true)) := by decide +kernel

theorem meets_ValveProtectionActs_9 :
    ((bank (wBankOn : State) ((2 : Nat) / 4)).closed = true) ∧
    (chanOff (wBankOn : State) (2 : Nat) = true) ∧
    ((10000 : Int) < 50000) ∧
    (¬ (0 < expectedUa (wBankOn : State) (2 : Nat) ∧ expectedUa (wBankOn : State) (2 : Nat) ≤ 2 * (10000 : Int))) ∧
    (chanStn (wBankOn : State) (2 : Nat) = some (10 : Nat)) ∧
    ((chn (wBankOn : State) (2 : Nat)).openLoad = false) := by decide +kernel

theorem meets_ValveProtectionActs_10 :
    ((bank (wBankOn : State) ((2 : Nat) / 4)).closed = true) ∧
    (chanOff (wBankOn : State) (2 : Nat) = true) ∧
    (50000 ≤ (60000 : Int)) ∧
    ((60000 : Int) < 200000) ∧
    (¬ (0 < expectedUa (wBankOn : State) (2 : Nat) ∧ expectedUa (wBankOn : State) (2 : Nat) ≤ 2 * (60000 : Int))) ∧
    (chanStn (wBankOn : State) (2 : Nat) = some (10 : Nat)) ∧
    ((chn (wBankOn : State) (2 : Nat)).leak = false) := by decide +kernel

theorem meets_ValveProtectionActs_11 :
    ((bank (wBankOn : State) ((2 : Nat) / 4)).closed = true) ∧
    (chanOff (wBankOn : State) (2 : Nat) = true) ∧
    ((200000 ≤ (200000 : Int) ∨ (0 < expectedUa (wBankOn : State) (2 : Nat) ∧ expectedUa (wBankOn : State) (2 : Nat) ≤ 2 * (200000 : Int)))) := by decide +kernel

theorem meets_ValveProtectionActs_12 :
    (((bank (wValve : State) ((2 : Nat) / 4)).closed = false ∨ chanOff (wValve : State) (2 : Nat) = false ∨ ((10000 : Int) < 50000 ∧ ¬ (0 < expectedUa (wValve : State) (2 : Nat) ∧ expectedUa (wValve : State) (2 : Nat) ≤ 2 * (10000 : Int)) ∧ (chn (wValve : State) (2 : Nat)).openLoad = true) ∨ (50000 ≤ (10000 : Int) ∧ (10000 : Int) < 200000 ∧ ¬ (0 < expectedUa (wValve : State) (2 : Nat) ∧ expectedUa (wValve : State) (2 : Nat) ≤ 2 * (10000 : Int)) ∧ (chn (wValve : State) (2 : Nat)).leak = true))) := by decide +kernel

theorem meets_ValveProtectionActs_13 :
    ((chn (modChan 2 (fun k => { k with leak := true }) wValve : State) (2 : Nat)).leak = true) := by decide +kernel

theorem meets_ValveProtectionActs_14 :
    ((chn (modChan 2 (fun k => { k with leak := true }) wValve : State) (2 : Nat)).leak = true) := by decide +kernel

theorem meets_ValveProtectionActs_15 :
    ((chn (wValve : State) (2 : Nat)).leak = false) := by decide +kernel

theorem meets_ValveProtectionActs_16 :
    (chanStn (modChan 2 (fun k => { k with st := 1, setpoint := 500000 }) wValve : State) (2 : Nat) = some (10 : Nat)) ∧
    ((touchChan 2 (modChan 2 (fun k => { k with st := 1, setpoint := 500000 }) wValve) : State) = touchChan (2 : Nat) (modChan 2 (fun k => { k with st := 1, setpoint := 500000 }) wValve : State)) ∧
    (9500 ≤ (9500 : Nat)) ∧
    (((chn (touchChan 2 (modChan 2 (fun k => { k with st := 1, setpoint := 500000 }) wValve) : State) (2 : Nat)).st = 1 ∨ (chn (touchChan 2 (modChan 2 (fun k => { k with st := 1, setpoint := 500000 }) wValve) : State) (2 : Nat)).phase = 4)) ∧
    ((500000 : Int) = (if chanIsInj (touchChan 2 (modChan 2 (fun k => { k with st := 1, setpoint := 500000 }) wValve) : State) (2 : Nat) then iHold (touchChan 2 (modChan 2 (fun k => { k with st := 1, setpoint := 500000 }) wValve) : State) (2 : Nat) else slewed (touchChan 2 (modChan 2 (fun k => { k with st := 1, setpoint := 500000 }) wValve) : State) (2 : Nat) (touchChan 2 (modChan 2 (fun k => { k with st := 1, setpoint := 500000 }) wValve) : State).sys.devTime)) ∧
    (((500000 : Int) < 100000 ∨ (500000 : Int) ≤ (480000 : Int) * 10)) ∧
    ((480000 : Int) * 100 < (500000 : Int) * 98) ∧
    ((chn (touchChan 2 (modChan 2 (fun k => { k with st := 1, setpoint := 500000 }) wValve) : State) (2 : Nat)).headroom = false) ∧
    (chanStn (touchChan 2 (modChan 2 (fun k => { k with st := 1, setpoint := 500000 }) wValve) : State) (2 : Nat) = some (10 : Nat)) := by decide +kernel

theorem meets_ValveProtectionActs_17 :
    (chanStn (modChan 2 (fun k => { k with st := 1, setpoint := 500000 }) wValve : State) (2 : Nat) = some (10 : Nat)) ∧
    ((touchChan 2 (modChan 2 (fun k => { k with st := 1, setpoint := 500000 }) wValve) : State) = touchChan (2 : Nat) (modChan 2 (fun k => { k with st := 1, setpoint := 500000 }) wValve : State)) ∧
    (9500 ≤ (9500 : Nat)) ∧
    (((chn (touchChan 2 (modChan 2 (fun k => { k with st := 1, setpoint := 500000 }) wValve) : State) (2 : Nat)).st = 1 ∨ (chn (touchChan 2 (modChan 2 (fun k => { k with st := 1, setpoint := 500000 }) wValve) : State) (2 : Nat)).phase = 4)) ∧
    ((500000 : Int) = (if chanIsInj (touchChan 2 (modChan 2 (fun k => { k with st := 1, setpoint := 500000 }) wValve) : State) (2 : Nat) then iHold (touchChan 2 (modChan 2 (fun k => { k with st := 1, setpoint := 500000 }) wValve) : State) (2 : Nat) else slewed (touchChan 2 (modChan 2 (fun k => { k with st := 1, setpoint := 500000 }) wValve) : State) (2 : Nat) (touchChan 2 (modChan 2 (fun k => { k with st := 1, setpoint := 500000 }) wValve) : State).sys.devTime)) ∧
    (100000 ≤ (500000 : Int)) ∧
    ((40000 : Int) * 10 < (500000 : Int)) ∧
    ((chn (touchChan 2 (modChan 2 (fun k => { k with st := 1, setpoint := 500000 }) wValve) : State) (2 : Nat)).openLoad = false) ∧
    (chanStn (touchChan 2 (modChan 2 (fun k => { k with st := 1, setpoint := 500000 }) wValve) : State) (2 : Nat) = some (10 : Nat)) := by decide +kernel

theorem meets_ValveProtectionActs_18 :
    ((9499 : Nat) < 9500) := by decide +kernel

theorem meets_ValveProtectionActs_20 :
    ((touchChan 2 wValve : State) = touchChan (2 : Nat) (wValve : State)) ∧
    (chanStn (touchChan 2 wValve : State) (2 : Nat) = some (10 : Nat)) ∧
    (((coil wValve 2).tw + (1 : Rat) / 10 / rf32 (vpart wValve 2) 16 * (windingR wValve 2 * meanSquare (touchChan 2 wValve) 2 0 - ((coil wValve 2).tw - (coil wValve 2).tb) / rf32 (vpart wValve 2) 8) : Rat) = (coil (touchChan 2 wValve : State) (2 : Nat)).tw + (1 : Rat) / 10 / rf32 (vpart (touchChan 2 wValve : State) (2 : Nat)) 16 * (windingR (touchChan 2 wValve : State) (2 : Nat) * meanSquare (touchChan 2 wValve : State) (2 : Nat) (0 : Rat) - ((coil (touchChan 2 wValve : State) (2 : Nat)).tw - (coil (touchChan 2 wValve : State) (2 : Nat)).tb) / rf32 (vpart (touchChan 2 wValve : State) (2 : Nat)) 8)) ∧
    ((∀ x ∈ (none : Option CoilMeas), x.i ≤ 0 ∨ measures (touchChan 2 wValve : State) (2 : Nat) = false)) := by decide +kernel

theorem meets_ValveProtectionActs_21 :
    ((touchChan 2 (onSys (fun y => { y with devTime := 2000000000 }) (onPower (fun p => { p with vfieldVd := 24000000 }) (modChan 2 (fun k => { k with st := 1, setpoint := 500000, slewFrom := 500000 }) (modCoil 2 (fun k => { k with tw := 20, tb := 20 }) wValve)))) : State) = touchChan (2 : Nat) (onSys (fun y => { y with devTime := 2000000000 }) (onPower (fun p => { p with vfieldVd := 24000000 }) (modChan 2 (fun k => { k with st := 1, setpoint := 500000, slewFrom := 500000 }) (modCoil 2 (fun k => { k with tw := 20, tb := 20 }) wValve))) : State)) ∧
    (chanStn (touchChan 2 (onSys (fun y => { y with devTime := 2000000000 }) (onPower (fun p => { p with vfieldVd := 24000000 }) (modChan 2 (fun k => { k with st := 1, setpoint := 500000, slewFrom := 500000 }) (modCoil 2 (fun k => { k with tw := 20, tb := 20 }) wValve)))) : State) (2 : Nat) = some (10 : Nat)) ∧
    ((20 : Rat) = (coil (touchChan 2 (onSys (fun y => { y with devTime := 2000000000 }) (onPower (fun p => { p with vfieldVd := 24000000 }) (modChan 2 (fun k => { k with st := 1, setpoint := 500000, slewFrom := 500000 }) (modCoil 2 (fun k => { k with tw := 20, tb := 20 }) wValve)))) : State) (2 : Nat)).tw + (1 : Rat) / 10 / rf32 (vpart (touchChan 2 (onSys (fun y => { y with devTime := 2000000000 }) (onPower (fun p => { p with vfieldVd := 24000000 }) (modChan 2 (fun k => { k with st := 1, setpoint := 500000, slewFrom := 500000 }) (modCoil 2 (fun k => { k with tw := 20, tb := 20 }) wValve)))) : State) (2 : Nat)) 16 * (windingR (touchChan 2 (onSys (fun y => { y with devTime := 2000000000 }) (onPower (fun p => { p with vfieldVd := 24000000 }) (modChan 2 (fun k => { k with st := 1, setpoint := 500000, slewFrom := 500000 }) (modCoil 2 (fun k => { k with tw := 20, tb := 20 }) wValve)))) : State) (2 : Nat) * meanSquare (touchChan 2 (onSys (fun y => { y with devTime := 2000000000 }) (onPower (fun p => { p with vfieldVd := 24000000 }) (modChan 2 (fun k => { k with st := 1, setpoint := 500000, slewFrom := 500000 }) (modCoil 2 (fun k => { k with tw := 20, tb := 20 }) wValve)))) : State) (2 : Nat) (0 : Rat) - ((coil (touchChan 2 (onSys (fun y => { y with devTime := 2000000000 }) (onPower (fun p => { p with vfieldVd := 24000000 }) (modChan 2 (fun k => { k with st := 1, setpoint := 500000, slewFrom := 500000 }) (modCoil 2 (fun k => { k with tw := 20, tb := 20 }) wValve)))) : State) (2 : Nat)).tw - (coil (touchChan 2 (onSys (fun y => { y with devTime := 2000000000 }) (onPower (fun p => { p with vfieldVd := 24000000 }) (modChan 2 (fun k => { k with st := 1, setpoint := 500000, slewFrom := 500000 }) (modCoil 2 (fun k => { k with tw := 20, tb := 20 }) wValve)))) : State) (2 : Nat)).tb) / rf32 (vpart (touchChan 2 (onSys (fun y => { y with devTime := 2000000000 }) (onPower (fun p => { p with vfieldVd := 24000000 }) (modChan 2 (fun k => { k with st := 1, setpoint := 500000, slewFrom := 500000 }) (modCoil 2 (fun k => { k with tw := 20, tb := 20 }) wValve)))) : State) (2 : Nat)) 8)) ∧
    (0 < ({ i := 1, duty := 1, bank := 0, rHs := 0, rLs := 4 } : CoilMeas).i) ∧
    (measures (touchChan 2 (onSys (fun y => { y with devTime := 2000000000 }) (onPower (fun p => { p with vfieldVd := 24000000 }) (modChan 2 (fun k => { k with st := 1, setpoint := 500000, slewFrom := 500000 }) (modCoil 2 (fun k => { k with tw := 20, tb := 20 }) wValve)))) : State) (2 : Nat) = true) ∧
    ((20 : Rat) = (({ i := 1, duty := 1, bank := 0, rHs := 0, rLs := 4 } : CoilMeas).duty * (((touchChan 2 (onSys (fun y => { y with devTime := 2000000000 }) (onPower (fun p => { p with vfieldVd := 24000000 }) (modChan 2 (fun k => { k with st := 1, setpoint := 500000, slewFrom := 500000 }) (modCoil 2 (fun k => { k with tw := 20, tb := 20 }) wValve)))) : State).power.vfieldVd : Rat) / 1000000 - ({ i := 1, duty := 1, bank := 0, rHs := 0, rLs := 4 } : CoilMeas).bank * ({ i := 1, duty := 1, bank := 0, rHs := 0, rLs := 4 } : CoilMeas).rHs) - ({ i := 1, duty := 1, bank := 0, rHs := 0, rLs := 4 } : CoilMeas).i * ({ i := 1, duty := 1, bank := 0, rHs := 0, rLs := 4 } : CoilMeas).rLs) / ({ i := 1, duty := 1, bank := 0, rHs := 0, rLs := 4 } : CoilMeas).i) ∧
    ((20 : Rat) = 20 + ((20 : Rat) / ((g4 (vpart (touchChan 2 (onSys (fun y => { y with devTime := 2000000000 }) (onPower (fun p => { p with vfieldVd := 24000000 }) (modChan 2 (fun k => { k with st := 1, setpoint := 500000, slewFrom := 500000 }) (modCoil 2 (fun k => { k with tw := 20, tb := 20 }) wValve)))) : State) (2 : Nat)) 0 : Rat) / 1000) - 1) / ((393 : Rat) / 100000)) ∧
    (absRat ((20 : Rat) - (20 : Rat)) < 10) := by decide +kernel

theorem meets_ValveProtectionActs_22 :
    (chanStn (touchChan (2 : Nat) (wRun : State)) (2 : Nat) = none) := by decide +kernel

theorem meets_ValveProtectionActs_23 :
    (chanStn (modChan 4 (fun k => { k with offUs := 40 }) (onSys (fun y => { y with devTime := 9000000000 }) wValve) : State) (4 : Nat) = some (11 : Nat)) ∧
    (isInj (modChan 4 (fun k => { k with offUs := 40 }) (onSys (fun y => { y with devTime := 9000000000 }) wValve) : State) (11 : Nat) = true) ∧
    (g2 (vpart (modChan 4 (fun k => { k with offUs := 40 }) (onSys (fun y => { y with devTime := 9000000000 }) wValve) : State) (4 : Nat)) 58 ≠ 0) ∧
    (kinkUsable (modChan 4 (fun k => { k with offUs := 40 }) (onSys (fun y => { y with devTime := 9000000000 }) wValve) : State) (4 : Nat) = true) ∧
    (kinkSlot ([100, 90, 80, 70] : List Int) (g2 (vpart (modChan 4 (fun k => { k with offUs := 40 }) (onSys (fun y => { y with devTime := 9000000000 }) wValve) : State) (4 : Nat)) 56) (g2 (vpart (modChan 4 (fun k => { k with offUs := 40 }) (onSys (fun y => { y with devTime := 9000000000 }) wValve) : State) (4 : Nat)) 58) (g2 (vpart (modChan 4 (fun k => { k with offUs := 40 }) (onSys (fun y => { y with devTime := 9000000000 }) wValve) : State) (4 : Nat)) 60) = none) ∧
    ((chn (modChan 4 (fun k => { k with offUs := 40 }) (onSys (fun y => { y with devTime := 9000000000 }) wValve) : State) (4 : Nat)).misses + 1 < g1 (vpart (modChan 4 (fun k => { k with offUs := 40 }) (onSys (fun y => { y with devTime := 9000000000 }) wValve) : State) (4 : Nat)) 62) := by decide +kernel

theorem meets_ValveProtectionActs_24 :
    (chanStn (modChan 4 (fun k => { k with offUs := 40, misses := 2 }) (onSys (fun y => { y with devTime := 9000000000 }) wValve) : State) (4 : Nat) = some (11 : Nat)) ∧
    (isInj (modChan 4 (fun k => { k with offUs := 40, misses := 2 }) (onSys (fun y => { y with devTime := 9000000000 }) wValve) : State) (11 : Nat) = true) ∧
    (g2 (vpart (modChan 4 (fun k => { k with offUs := 40, misses := 2 }) (onSys (fun y => { y with devTime := 9000000000 }) wValve) : State) (4 : Nat)) 58 ≠ 0) ∧
    (kinkUsable (modChan 4 (fun k => { k with offUs := 40, misses := 2 }) (onSys (fun y => { y with devTime := 9000000000 }) wValve) : State) (4 : Nat) = true) ∧
    (kinkSlot ([100, 90, 80, 70] : List Int) (g2 (vpart (modChan 4 (fun k => { k with offUs := 40, misses := 2 }) (onSys (fun y => { y with devTime := 9000000000 }) wValve) : State) (4 : Nat)) 56) (g2 (vpart (modChan 4 (fun k => { k with offUs := 40, misses := 2 }) (onSys (fun y => { y with devTime := 9000000000 }) wValve) : State) (4 : Nat)) 58) (g2 (vpart (modChan 4 (fun k => { k with offUs := 40, misses := 2 }) (onSys (fun y => { y with devTime := 9000000000 }) wValve) : State) (4 : Nat)) 60) = none) ∧
    (g1 (vpart (modChan 4 (fun k => { k with offUs := 40, misses := 2 }) (onSys (fun y => { y with devTime := 9000000000 }) wValve) : State) (4 : Nat)) 62 ≤ (chn (modChan 4 (fun k => { k with offUs := 40, misses := 2 }) (onSys (fun y => { y with devTime := 9000000000 }) wValve) : State) (4 : Nat)).misses + 1) ∧
    ((chn (modChan 4 (fun k => { k with offUs := 40, misses := 2 }) (onSys (fun y => { y with devTime := 9000000000 }) wValve) : State) (4 : Nat)).stuck = false) := by decide +kernel

theorem meets_ValveProtectionActs_25 :
    (chanStn (modChan 4 (fun k => { k with offUs := 40, misses := 2 }) (onSys (fun y => { y with devTime := 9000000000 }) wValve) : State) (4 : Nat) = some (11 : Nat)) ∧
    (isInj (modChan 4 (fun k => { k with offUs := 40, misses := 2 }) (onSys (fun y => { y with devTime := 9000000000 }) wValve) : State) (11 : Nat) = true) ∧
    (g2 (vpart (modChan 4 (fun k => { k with offUs := 40, misses := 2 }) (onSys (fun y => { y with devTime := 9000000000 }) wValve) : State) (4 : Nat)) 58 ≠ 0) ∧
    (kinkUsable (modChan 4 (fun k => { k with offUs := 40, misses := 2 }) (onSys (fun y => { y with devTime := 9000000000 }) wValve) : State) (4 : Nat) = true) ∧
    (kinkSlot ([0, 100, 200, 300, 400, 500, 600, 700, 800, 900, 1000, 1100, 1100] : List Int) (g2 (vpart (modChan 4 (fun k => { k with offUs := 40, misses := 2 }) (onSys (fun y => { y with devTime := 9000000000 }) wValve) : State) (4 : Nat)) 56) (g2 (vpart (modChan 4 (fun k => { k with offUs := 40, misses := 2 }) (onSys (fun y => { y with devTime := 9000000000 }) wValve) : State) (4 : Nat)) 58) (g2 (vpart (modChan 4 (fun k => { k with offUs := 40, misses := 2 }) (onSys (fun y => { y with devTime := 9000000000 }) wValve) : State) (4 : Nat)) 60) = some (12 : Nat)) ∧
    ((chn (modChan 4 (fun k => { k with offUs := 40, misses := 2 }) (onSys (fun y => { y with devTime := 9000000000 }) wValve) : State) (4 : Nat)).kinkCount < 63) := by decide +kernel

theorem meets_ValveProtectionActs_26 :
    (chanStn (modChan 4 (fun k => { k with pulseCut := true }) wValve : State) (4 : Nat) = some (11 : Nat)) ∧
    ((isInj (modChan 4 (fun k => { k with pulseCut := true }) wValve : State) (11 : Nat) = false ∨ g2 (vpart (modChan 4 (fun k => { k with pulseCut := true }) wValve : State) (4 : Nat)) 58 = 0 ∨ kinkUsable (modChan 4 (fun k => { k with pulseCut := true }) wValve : State) (4 : Nat) = false)) := by decide +kernel

theorem meets_BusCommandsAct_1 :
    (asks 0x0B01 (rq ([0, 0xFF, 0, 2] ++ p4 0x123 ++ p4 77 ++ [1, 0, 0, 0] ++ [0xAA, 0xBB]) : Req) (wBus : State) = true) ∧
    ((0x123 : Nat) = g4 (rq ([0, 0xFF, 0, 2] ++ p4 0x123 ++ p4 77 ++ [1, 0, 0, 0] ++ [0xAA, 0xBB]) : Req).payload 4) ∧
    ((0 : Nat) = g1 (rq ([0, 0xFF, 0, 2] ++ p4 0x123 ++ p4 77 ++ [1, 0, 0, 0] ++ [0xAA, 0xBB]) : Req).payload 0) ∧
    ((0 : Nat) = effChan (wBus : State) (0 : Nat)) ∧
    ((0 : Nat) ≤ 3) ∧
    (g1 (rq ([0, 0xFF, 0, 2] ++ p4 0x123 ++ p4 77 ++ [1, 0, 0, 0] ++ [0xAA, 0xBB]) : Req).payload 1 = 0xFF) ∧
    (g1 (rq ([0, 0xFF, 0, 2] ++ p4 0x123 ++ p4 77 ++ [1, 0, 0, 0] ++ [0xAA, 0xBB]) : Req).payload 2 ≤ 3) ∧
    (g1 (rq ([0, 0xFF, 0, 2] ++ p4 0x123 ++ p4 77 ++ [1, 0, 0, 0] ++ [0xAA, 0xBB]) : Req).payload 2 ≠ 2) ∧
    ((g1 (rq ([0, 0xFF, 0, 2] ++ p4 0x123 ++ p4 77 ++ [1, 0, 0, 0] ++ [0xAA, 0xBB]) : Req).payload 2 = 0 ∨ chFd (wBus : State) (0 : Nat) = true)) ∧
    (lenOf (bitOf (g1 (rq ([0, 0xFF, 0, 2] ++ p4 0x123 ++ p4 77 ++ [1, 0, 0, 0] ++ [0xAA, 0xBB]) : Req).payload 2) 0) (g1 (rq ([0, 0xFF, 0, 2] ++ p4 0x123 ++ p4 77 ++ [1, 0, 0, 0] ++ [0xAA, 0xBB]) : Req).payload 3) = true) ∧
    ((rq ([0, 0xFF, 0, 2] ++ p4 0x123 ++ p4 77 ++ [1, 0, 0, 0] ++ [0xAA, 0xBB]) : Req).payload.length = 16 + g1 (rq ([0, 0xFF, 0, 2] ++ p4 0x123 ++ p4 77 ++ [1, 0, 0, 0] ++ [0xAA, 0xBB]) : Req).payload 3) ∧
    (g1 (rq ([0, 0xFF, 0, 2] ++ p4 0x123 ++ p4 77 ++ [1, 0, 0, 0] ++ [0xAA, 0xBB]) : Req).payload 12 ≤ 1) ∧
    (zeroAt (rq ([0, 0xFF, 0, 2] ++ p4 0x123 ++ p4 77 ++ [1, 0, 0, 0] ++ [0xAA, 0xBB]) : Req).payload 13 3 = true) ∧
    (chOn (wBus : State) (0 : Nat) = true) ∧
    ((ch (wBus : State) (0 : Nat)).st ≠ 0) ∧
    (listenOnly (wBus : State) (0 : Nat) = false) ∧
    (objMode (wBus : State) (0 : Nat) = false) ∧
    (identOk (0x123 : Nat) = true) ∧
    ((ownIdents (wBus : State) (0 : Nat)).contains (0x123 : Nat) = false) ∧
    ((buffered (wBus : State) (0 : Nat)).length < 3) := by decide +kernel

theorem meets_BusCommandsAct_2 :
    (asks 0x0B01 (rq ([1, 8, 0, 4] ++ p4 0 ++ p4 77 ++ [1, 0, 0, 0] ++ [0xAA, 0xBB, 1, 2]) : Req) (wBus : State) = true) ∧
    ((1 : Nat) = g1 (rq ([1, 8, 0, 4] ++ p4 0 ++ p4 77 ++ [1, 0, 0, 0] ++ [0xAA, 0xBB, 1, 2]) : Req).payload 0) ∧
    ((8 : Nat) = g1 (rq ([1, 8, 0, 4] ++ p4 0 ++ p4 77 ++ [1, 0, 0, 0] ++ [0xAA, 0xBB, 1, 2]) : Req).payload 1) ∧
    ((1 : Nat) ≤ 3) ∧
    (g1 (rq ([1, 8, 0, 4] ++ p4 0 ++ p4 77 ++ [1, 0, 0, 0] ++ [0xAA, 0xBB, 1, 2]) : Req).payload 2 = 0) ∧
    ((rq ([1, 8, 0, 4] ++ p4 0 ++ p4 77 ++ [1, 0, 0, 0] ++ [0xAA, 0xBB, 1, 2]) : Req).payload.length = 16 + g1 (rq ([1, 8, 0, 4] ++ p4 0 ++ p4 77 ++ [1, 0, 0, 0] ++ [0xAA, 0xBB, 1, 2]) : Req).payload 3) ∧
    (g1 (rq ([1, 8, 0, 4] ++ p4 0 ++ p4 77 ++ [1, 0, 0, 0] ++ [0xAA, 0xBB, 1, 2]) : Req).payload 12 ≤ 1) ∧
    (zeroAt (rq ([1, 8, 0, 4] ++ p4 0 ++ p4 77 ++ [1, 0, 0, 0] ++ [0xAA, 0xBB, 1, 2]) : Req).payload 13 3 = true) ∧
    (chOn (wBus : State) (1 : Nat) = true) ∧
    ((ch (wBus : State) (1 : Nat)).st ≠ 0) ∧
    (listenOnly (wBus : State) (1 : Nat) = false) ∧
    (objMode (wBus : State) (1 : Nat) = true) ∧
    (objEntry (wBus : State) (1 : Nat) (8 : Nat) = some ([8, 0, 0, 4] ++ p4 0x80000300 ++ p4 0 ++ p2 100 ++ [0, 0] : List Byte)) ∧
    (entSend ([8, 0, 0, 4] ++ p4 0x80000300 ++ p4 0 ++ p2 100 ++ [0, 0] : List Byte) = true) ∧
    (g1 ([8, 0, 0, 4] ++ p4 0x80000300 ++ p4 0 ++ p2 100 ++ [0, 0] : List Byte) 14 ≠ 1) ∧
    (g4 (rq ([1, 8, 0, 4] ++ p4 0 ++ p4 77 ++ [1, 0, 0, 0] ++ [0xAA, 0xBB, 1, 2]) : Req).payload 4 = 0) ∧
    (g1 (rq ([1, 8, 0, 4] ++ p4 0 ++ p4 77 ++ [1, 0, 0, 0] ++ [0xAA, 0xBB, 1, 2]) : Req).payload 3 = entLen ([8, 0, 0, 4] ++ p4 0x80000300 ++ p4 0 ++ p2 100 ++ [0, 0] : List Byte)) ∧
    (objPending (wBus : State) (1 : Nat) (8 : Nat) = false) := by decide +kernel

theorem meets_BusCommandsAct_3 :
    (asks 0x0B01 (rq ([0, 0xFF, 0, 2] ++ p4 0x123 ++ p4 77 ++ [1, 0, 0, 0] ++ [0xAA, 0xBB]) : Req) (modCh 0 (fun k => { k with pending := [{ slot := 0 }, { slot := 1 }, { slot := 2 }] }) wBus : State) = true) ∧
    ((0 : Nat) = g1 (rq ([0, 0xFF, 0, 2] ++ p4 0x123 ++ p4 77 ++ [1, 0, 0, 0] ++ [0xAA, 0xBB]) : Req).payload 0) ∧
    ((0 : Nat) ≤ 3) ∧
    (g1 (rq ([0, 0xFF, 0, 2] ++ p4 0x123 ++ p4 77 ++ [1, 0, 0, 0] ++ [0xAA, 0xBB]) : Req).payload 1 = 0xFF) ∧
    (g1 (rq ([0, 0xFF, 0, 2] ++ p4 0x123 ++ p4 77 ++ [1, 0, 0, 0] ++ [0xAA, 0xBB]) : Req).payload 2 = 0) ∧
    (g1 (rq ([0, 0xFF, 0, 2] ++ p4 0x123 ++ p4 77 ++ [1, 0, 0, 0] ++ [0xAA, 0xBB]) : Req).payload 3 ≤ 8) ∧
    ((rq ([0, 0xFF, 0, 2] ++ p4 0x123 ++ p4 77 ++ [1, 0, 0, 0] ++ [0xAA, 0xBB]) : Req).payload.length = 16 + g1 (rq ([0, 0xFF, 0, 2] ++ p4 0x123 ++ p4 77 ++ [1, 0, 0, 0] ++ [0xAA, 0xBB]) : Req).payload 3) ∧
    (g1 (rq ([0, 0xFF, 0, 2] ++ p4 0x123 ++ p4 77 ++ [1, 0, 0, 0] ++ [0xAA, 0xBB]) : Req).payload 12 ≤ 1) ∧
    (zeroAt (rq ([0, 0xFF, 0, 2] ++ p4 0x123 ++ p4 77 ++ [1, 0, 0, 0] ++ [0xAA, 0xBB]) : Req).payload 13 3 = true) ∧
    (chOn (modCh 0 (fun k => { k with pending := [{ slot := 0 }, { slot := 1 }, { slot := 2 }] }) wBus : State) (0 : Nat) = true) ∧
    ((ch (modCh 0 (fun k => { k with pending := [{ slot := 0 }, { slot := 1 }, { slot := 2 }] }) wBus : State) (0 : Nat)).st ≠ 0) ∧
    (listenOnly (modCh 0 (fun k => { k with pending := [{ slot := 0 }, { slot := 1 }, { slot := 2 }] }) wBus : State) (0 : Nat) = false) ∧
    (objMode (modCh 0 (fun k => { k with pending := [{ slot := 0 }, { slot := 1 }, { slot := 2 }] }) wBus : State) (0 : Nat) = false) ∧
    (identOk (g4 (rq ([0, 0xFF, 0, 2] ++ p4 0x123 ++ p4 77 ++ [1, 0, 0, 0] ++ [0xAA, 0xBB]) : Req).payload 4) = true) ∧
    ((ownIdents (modCh 0 (fun k => { k with pending := [{ slot := 0 }, { slot := 1 }, { slot := 2 }] }) wBus : State) (0 : Nat)).contains (g4 (rq ([0, 0xFF, 0, 2] ++ p4 0x123 ++ p4 77 ++ [1, 0, 0, 0] ++ [0xAA, 0xBB]) : Req).payload 4) = false) ∧
    (3 ≤ (buffered (modCh 0 (fun k => { k with pending := [{ slot := 0 }, { slot := 1 }, { slot := 2 }] }) wBus : State) (effChan (modCh 0 (fun k => { k with pending := [{ slot := 0 }, { slot := 1 }, { slot := 2 }] }) wBus : State) (0 : Nat))).length) := by decide +kernel

theorem meets_BusCommandsAct_4 :
    (asks 0x0B01 (rq ([3, 0xFF, 0, 2] ++ p4 0x123 ++ p4 77 ++ [1, 0, 0, 0] ++ [0xAA, 0xBB]) : Req) (wBus : State) = true) ∧
    (g1 (rq ([3, 0xFF, 0, 2] ++ p4 0x123 ++ p4 77 ++ [1, 0, 0, 0] ++ [0xAA, 0xBB]) : Req).payload 0 ≤ 3) ∧
    (g1 (rq ([3, 0xFF, 0, 2] ++ p4 0x123 ++ p4 77 ++ [1, 0, 0, 0] ++ [0xAA, 0xBB]) : Req).payload 2 ≤ 3) ∧
    (g1 (rq ([3, 0xFF, 0, 2] ++ p4 0x123 ++ p4 77 ++ [1, 0, 0, 0] ++ [0xAA, 0xBB]) : Req).payload 12 ≤ 1) ∧
    (zeroAt (rq ([3, 0xFF, 0, 2] ++ p4 0x123 ++ p4 77 ++ [1, 0, 0, 0] ++ [0xAA, 0xBB]) : Req).payload 13 3 = true) ∧
    ((rq ([3, 0xFF, 0, 2] ++ p4 0x123 ++ p4 77 ++ [1, 0, 0, 0] ++ [0xAA, 0xBB]) : Req).payload.length = 16 + g1 (rq ([3, 0xFF, 0, 2] ++ p4 0x123 ++ p4 77 ++ [1, 0, 0, 0] ++ [0xAA, 0xBB]) : Req).payload 3) ∧
    ((chOn (wBus : State) (g1 (rq ([3, 0xFF, 0, 2] ++ p4 0x123 ++ p4 77 ++ [1, 0, 0, 0] ++ [0xAA, 0xBB]) : Req).payload 0) = false ∨ (ch (wBus : State) (g1 (rq ([3, 0xFF, 0, 2] ++ p4 0x123 ++ p4 77 ++ [1, 0, 0, 0] ++ [0xAA, 0xBB]) : Req).payload 0)).st = 0 ∨ listenOnly (wBus : State) (g1 (rq ([3, 0xFF, 0, 2] ++ p4 0x123 ++ p4 77 ++ [1, 0, 0, 0] ++ [0xAA, 0xBB]) : Req).payload 0) = true)) := by decide +kernel

theorem meets_BusCommandsAct_5 :
    (asks 0x0B01 (rq ([0, 0xFF, 0, 3] ++ p4 0x123 ++ p4 77 ++ [1, 0, 0, 0] ++ [0xAA, 0xBB]) : Req) (wBus : State) = true) ∧
    (g1 (rq ([0, 0xFF, 0, 3] ++ p4 0x123 ++ p4 77 ++ [1, 0, 0, 0] ++ [0xAA, 0xBB]) : Req).payload 0 ≤ 3) ∧
    (g1 (rq ([0, 0xFF, 0, 3] ++ p4 0x123 ++ p4 77 ++ [1, 0, 0, 0] ++ [0xAA, 0xBB]) : Req).payload 2 ≤ 3) ∧
    (g1 (rq ([0, 0xFF, 0, 3] ++ p4 0x123 ++ p4 77 ++ [1, 0, 0, 0] ++ [0xAA, 0xBB]) : Req).payload 12 ≤ 1) ∧
    (zeroAt (rq ([0, 0xFF, 0, 3] ++ p4 0x123 ++ p4 77 ++ [1, 0, 0, 0] ++ [0xAA, 0xBB]) : Req).payload 13 3 = true) ∧
    ((rq ([0, 0xFF, 0, 3] ++ p4 0x123 ++ p4 77 ++ [1, 0, 0, 0] ++ [0xAA, 0xBB]) : Req).payload.length ≠ 16 + g1 (rq ([0, 0xFF, 0, 3] ++ p4 0x123 ++ p4 77 ++ [1, 0, 0, 0] ++ [0xAA, 0xBB]) : Req).payload 3) := by decide +kernel

theorem meets_BusCommandsAct_6 :
    (asks 0x0B01 (rq ([4, 0xFF, 0, 2] ++ p4 0x123 ++ p4 77 ++ [1, 0, 0, 0] ++ [0xAA, 0xBB]) : Req) (wBus : State) = true) ∧
    ((3 < g1 (rq ([4, 0xFF, 0, 2] ++ p4 0x123 ++ p4 77 ++ [1, 0, 0, 0] ++ [0xAA, 0xBB]) : Req).payload 0 ∨ 3 < g1 (rq ([4, 0xFF, 0, 2] ++ p4 0x123 ++ p4 77 ++ [1, 0, 0, 0] ++ [0xAA, 0xBB]) : Req).payload 2 ∨ 1 < g1 (rq ([4, 0xFF, 0, 2] ++ p4 0x123 ++ p4 77 ++ [1, 0, 0, 0] ++ [0xAA, 0xBB]) : Req).payload 12 ∨ zeroAt (rq ([4, 0xFF, 0, 2] ++ p4 0x123 ++ p4 77 ++ [1, 0, 0, 0] ++ [0xAA, 0xBB]) : Req).payload 13 3 = false)) := by decide +kernel

theorem meets_BusCommandsAct_7 :
    (asks 0x0B02 (rq [] : Req) (wBus : State) = true) := by decide +kernel

theorem meets_BusCommandsAct_8 :
    (asks 0x0B05 (rq [] : Req) (wBus : State) = true) := by decide +kernel

theorem meets_BusCommandsAct_9 :
    (asks 0x0B03 (rq ([0, 1, 0, 0] ++ p4 0x100 ++ p4 0x700) : Req) (wBus : State) = true) ∧
    (g1 (rq ([0, 1, 0, 0] ++ p4 0x100 ++ p4 0x700) : Req).payload 0 ≤ 3) ∧
    (g1 (rq ([0, 1, 0, 0] ++ p4 0x100 ++ p4 0x700) : Req).payload 1 ≤ 1) ∧
    (g2 (rq ([0, 1, 0, 0] ++ p4 0x100 ++ p4 0x700) : Req).payload 2 = 0) ∧
    (identOk (g4 (rq ([0, 1, 0, 0] ++ p4 0x100 ++ p4 0x700) : Req).payload 4) = true) ∧
    (g4 (rq ([0, 1, 0, 0] ++ p4 0x100 ++ p4 0x700) : Req).payload 8 < 536870912) ∧
    (((wBus : State).bus.subs.filter (fun x => x.side == (rq ([0, 1, 0, 0] ++ p4 0x100 ++ p4 0x700) : Req).side)).length < 64) ∧
    ((wBus : State).bus.subs.length < 256) := by decide +kernel

theorem meets_BusCommandsAct_10 :
    (asks 0x0B03 (rq ([0, 1, 0, 0] ++ p4 0x100 ++ p4 0x700) : Req) (onBus (fun b => { b with subs := List.replicate 64 { handle := 1, side := .spi } }) wBus : State) = true) ∧
    (g1 (rq ([0, 1, 0, 0] ++ p4 0x100 ++ p4 0x700) : Req).payload 0 ≤ 3) ∧
    (g1 (rq ([0, 1, 0, 0] ++ p4 0x100 ++ p4 0x700) : Req).payload 1 ≤ 1) ∧
    (g2 (rq ([0, 1, 0, 0] ++ p4 0x100 ++ p4 0x700) : Req).payload 2 = 0) ∧
    (identOk (g4 (rq ([0, 1, 0, 0] ++ p4 0x100 ++ p4 0x700) : Req).payload 4) = true) ∧
    (g4 (rq ([0, 1, 0, 0] ++ p4 0x100 ++ p4 0x700) : Req).payload 8 < 536870912) ∧
    ((64 ≤ ((onBus (fun b => { b with subs := List.replicate 64 { handle := 1, side := .spi } }) wBus : State).bus.subs.filter (fun x => x.side == (rq ([0, 1, 0, 0] ++ p4 0x100 ++ p4 0x700) : Req).side)).length ∨ 256 ≤ (onBus (fun b => { b with subs := List.replicate 64 { handle := 1, side := .spi } }) wBus : State).bus.subs.length)) := by decide +kernel

theorem meets_BusCommandsAct_11 :
    (asks 0x0B03 (rq ([0, 1, 0, 0] ++ p4 0x1000 ++ p4 0x700) : Req) (wBus : State) = true) ∧
    ((3 < g1 (rq ([0, 1, 0, 0] ++ p4 0x1000 ++ p4 0x700) : Req).payload 0 ∨ 1 < g1 (rq ([0, 1, 0, 0] ++ p4 0x1000 ++ p4 0x700) : Req).payload 1 ∨ g2 (rq ([0, 1, 0, 0] ++ p4 0x1000 ++ p4 0x700) : Req).payload 2 ≠ 0 ∨ identOk (g4 (rq ([0, 1, 0, 0] ++ p4 0x1000 ++ p4 0x700) : Req).payload 4) = false ∨ 536870912 ≤ g4 (rq ([0, 1, 0, 0] ++ p4 0x1000 ++ p4 0x700) : Req).payload 8)) := by decide +kernel

theorem meets_BusCommandsAct_12 :
    (asks 0x0B04 (rq (p4 1) : Req) (wBus : State) = true) ∧
    ((wBus : State).bus.subs.any (fun x => x.handle == g4 (rq (p4 1) : Req).payload 0 && x.side == (rq (p4 1) : Req).side) = false) := by decide +kernel

theorem meets_BusCommandsAct_13 :
    (asks 0x0B04 (rq (p4 1) : Req) (onBus (fun b => { b with subs := [{ handle := 1, side := .spi }, { handle := 2, side := .app }] }) wBus : State) = true) ∧
    ((onBus (fun b => { b with subs := [{ handle := 1, side := .spi }, { handle := 2, side := .app }] }) wBus : State).bus.subs.any (fun x => x.handle == g4 (rq (p4 1) : Req).payload 0 && x.side == (rq (p4 1) : Req).side) = true) := by decide +kernel

theorem meets_BusCommandsAct_14 :
    (asks 0x0B06 (rq [9, 0, 0, 0] : Req) (wBus : State) = true) ∧
    (zeroAt (rq [9, 0, 0, 0] : Req).payload 1 3 = true) ∧
    (objChan (wBus : State) (g1 (rq [9, 0, 0, 0] : Req).payload 0) = some (1 : Nat)) ∧
    (objEntry (wBus : State) (1 : Nat) (g1 (rq [9, 0, 0, 0] : Req).payload 0) = some ([9, 1, 0, 8] ++ p4 0x80000200 ++ p4 0x1FFFFFFF ++ zeros 4 : List Byte)) ∧
    (entSend ([9, 1, 0, 8] ++ p4 0x80000200 ++ p4 0x1FFFFFFF ++ zeros 4 : List Byte) = false) := by decide +kernel

theorem meets_BusCommandsAct_15 :
    (asks 0x0B06 (rq [8, 0, 0, 0] : Req) (wBus : State) = true) ∧
    (zeroAt (rq [8, 0, 0, 0] : Req).payload 1 3 = true) ∧
    ((objChan (wBus : State) (g1 (rq [8, 0, 0, 0] : Req).payload 0) = none ∨ ∀ c ∈ objChan (wBus : State) (g1 (rq [8, 0, 0, 0] : Req).payload 0), ∀ e ∈ objEntry (wBus : State) c (g1 (rq [8, 0, 0, 0] : Req).payload 0), entSend e = true)) := by decide +kernel

theorem meets_BusCommandsAct_16 :
    (asks 0x0B06 (rq [9, 1, 0, 0] : Req) (wBus : State) = true) ∧
    (zeroAt (rq [9, 1, 0, 0] : Req).payload 1 3 = false) := by decide +kernel

theorem meets_BusCommandsAct_17 :
    (asks 0x0B07 (rq [4, 0, 0, 0] : Req) (wBus : State) = true) ∧
    ((3 < g1 (rq [4, 0, 0, 0] : Req).payload 0 ∨ zeroAt (rq [4, 0, 0, 0] : Req).payload 1 3 = false)) := by decide +kernel

theorem meets_BusCommandsAct_18 :
    (asks 0x0B07 (rq [3, 0, 0, 0] : Req) (wBus : State) = true) ∧
    (g1 (rq [3, 0, 0, 0] : Req).payload 0 ≤ 3) ∧
    (zeroAt (rq [3, 0, 0, 0] : Req).payload 1 3 = true) ∧
    ((ch wBus 3 : Chn) = ch (wBus : State) (g1 (rq [3, 0, 0, 0] : Req).payload 0)) := by decide +kernel

theorem meets_BusCommandsAct_19 :
    (asks 0x0B08 (rq [0, 0, 0, 0] : Req) (modCh 0 (fun k => { k with st := 4 }) wBus : State) = true) ∧
    (g1 (rq [0, 0, 0, 0] : Req).payload 0 ≤ 3) ∧
    (g1 (rq [0, 0, 0, 0] : Req).payload 1 = 0) ∧
    (g2 (rq [0, 0, 0, 0] : Req).payload 2 = 0) ∧
    ((ch (modCh 0 (fun k => { k with st := 4 }) wBus : State) (g1 (rq [0, 0, 0, 0] : Req).payload 0)).st = 4) := by decide +kernel

theorem meets_BusCommandsAct_20 :
    (asks 0x0B08 (rq [1, 1, 0, 0] : Req) (modCh 1 (fun k => { k with failedTo := some 0 }) wBus : State) = true) ∧
    (g1 (rq [1, 1, 0, 0] : Req).payload 0 ≤ 3) ∧
    (g1 (rq [1, 1, 0, 0] : Req).payload 1 = 1) ∧
    (g2 (rq [1, 1, 0, 0] : Req).payload 2 = 0) ∧
    ((ch (modCh 1 (fun k => { k with failedTo := some 0 }) wBus : State) (g1 (rq [1, 1, 0, 0] : Req).payload 0)).st = 1) ∧
    ((ch (modCh 1 (fun k => { k with failedTo := some 0 }) wBus : State) (g1 (rq [1, 1, 0, 0] : Req).payload 0)).failedTo ≠ none) := by decide +kernel

theorem meets_BusCommandsAct_21 :
    (asks 0x0B08 (rq [1, 1, 0, 0] : Req) (wBus : State) = true) ∧
    (g1 (rq [1, 1, 0, 0] : Req).payload 0 ≤ 3) ∧
    (g2 (rq [1, 1, 0, 0] : Req).payload 2 = 0) ∧
    (((g1 (rq [1, 1, 0, 0] : Req).payload 1 = 0 ∧ (ch (wBus : State) (g1 (rq [1, 1, 0, 0] : Req).payload 0)).st ≠ 4) ∨ (g1 (rq [1, 1, 0, 0] : Req).payload 1 = 1 ∧ ((ch (wBus : State) (g1 (rq [1, 1, 0, 0] : Req).payload 0)).st ≠ 1 ∨ (ch (wBus : State) (g1 (rq [1, 1, 0, 0] : Req).payload 0)).failedTo = none)))) := by decide +kernel

theorem meets_BusCommandsAct_22 :
    (asks 0x0B08 (rq [4, 1, 0, 0] : Req) (wBus : State) = true) ∧
    ((3 < g1 (rq [4, 1, 0, 0] : Req).payload 0 ∨ 1 < g1 (rq [4, 1, 0, 0] : Req).payload 1 ∨ g2 (rq [4, 1, 0, 0] : Req).payload 2 ≠ 0)) := by decide +kernel

theorem meets_BusCommandsAct_23 :
    (asks 0x0B09 (rq (p4 5) : Req) (modCh 0 (fun k => { k with overflow := [{ handle := 5, side := some .spi }] }) wBus : State) = true) ∧
    ((5 : Nat) = g4 (rq (p4 5) : Req).payload 0) ∧
    ((5 : Nat) ≠ 0) ∧
    ((0 : Nat) ≤ 3) ∧
    (([{ handle := 5, side := some .spi }] : List TxFrame) = ((ch (modCh 0 (fun k => { k with overflow := [{ handle := 5, side := some .spi }] }) wBus : State) (0 : Nat)).pending ++ (ch (modCh 0 (fun k => { k with overflow := [{ handle := 5, side := some .spi }] }) wBus : State) (0 : Nat)).overflow).filter (fun f => f.handle == (5 : Nat))) ∧
    (([{ handle := 5, side := some .spi }] : List TxFrame) ≠ []) ∧
    ((∀ x ∈ List.range (0 : Nat), ∀ f ∈ (ch (modCh 0 (fun k => { k with overflow := [{ handle := 5, side := some .spi }] }) wBus : State) x).pending ++ (ch (modCh 0 (fun k => { k with overflow := [{ handle := 5, side := some .spi }] }) wBus : State) x).overflow, f.handle ≠ (5 : Nat))) ∧
    (([{ handle := 5, side := some .spi }] : List TxFrame).any (onWireNow (modCh 0 (fun k => { k with overflow := [{ handle := 5, side := some .spi }] }) wBus : State) (0 : Nat)) = false) := by decide +kernel

theorem meets_BusCommandsAct_24 :
    (asks 0x0B09 (rq (p4 5) : Req) (modCh 0 (fun k => { k with pending := [{ handle := 5, side := some .spi, onWire := true }] }) wBus : State) = true) ∧
    ((5 : Nat) = g4 (rq (p4 5) : Req).payload 0) ∧
    ((5 : Nat) ≠ 0) ∧
    ((0 : Nat) ≤ 3) ∧
    (([{ handle := 5, side := some .spi, onWire := true }] : List TxFrame) = ((ch (modCh 0 (fun k => { k with pending := [{ handle := 5, side := some .spi, onWire := true }] }) wBus : State) (0 : Nat)).pending ++ (ch (modCh 0 (fun k => { k with pending := [{ handle := 5, side := some .spi, onWire := true }] }) wBus : State) (0 : Nat)).overflow).filter (fun f => f.handle == (5 : Nat))) ∧
    (([{ handle := 5, side := some .spi, onWire := true }] : List TxFrame) ≠ []) ∧
    ((∀ x ∈ List.range (0 : Nat), ∀ f ∈ (ch (modCh 0 (fun k => { k with pending := [{ handle := 5, side := some .spi, onWire := true }] }) wBus : State) x).pending ++ (ch (modCh 0 (fun k => { k with pending := [{ handle := 5, side := some .spi, onWire := true }] }) wBus : State) x).overflow, f.handle ≠ (5 : Nat))) ∧
    (([{ handle := 5, side := some .spi, onWire := true }] : List TxFrame).any (onWireNow (modCh 0 (fun k => { k with pending := [{ handle := 5, side := some .spi, onWire := true }] }) wBus : State) (0 : Nat)) = true) := by decide +kernel

theorem meets_BusCommandsAct_25 :
    (asks 0x0B09 (rq (p4 5) : Req) (wBus : State) = true) ∧
    ((∀ c ∈ List.range 4, ∀ f ∈ (ch (wBus : State) c).pending ++ (ch (wBus : State) c).overflow, f.handle ≠ g4 (rq (p4 5) : Req).payload 0 ∨ f.handle = 0)) := by decide +kernel

theorem meets_BusEventsAct_1 :
    ((0 : Nat) ≤ 3) ∧
    (busUp (wBus : State) (0 : Nat) = true) ∧
    ((ch (wBus : State) (0 : Nat)).st ≠ 0) ∧
    (carriesOwn (wBus : State) (0 : Nat) (⟨0x55, 0, [1, 2, 3], 1000, 2000⟩ : CanIn).ident = false) ∧
    ((wBus : State).sys.mode ≠ .still) ∧
    ((ch (wBus : State) (0 : Nat)).ring.length < 1024) ∧
    ((ch (wBus : State) (0 : Nat)).ringLost = 0) := by decide +kernel

theorem meets_BusEventsAct_2 :
    ((0 : Nat) ≤ 3) ∧
    (busUp (modCh 0 (fun k => { k with ringLost := 7 }) wBus : State) (0 : Nat) = true) ∧
    ((ch (modCh 0 (fun k => { k with ringLost := 7 }) wBus : State) (0 : Nat)).st ≠ 0) ∧
    (carriesOwn (modCh 0 (fun k => { k with ringLost := 7 }) wBus : State) (0 : Nat) (⟨0x55, 0, [1, 2, 3], 1000, 2000⟩ : CanIn).ident = false) ∧
    ((modCh 0 (fun k => { k with ringLost := 7 }) wBus : State).sys.mode ≠ .still) := by decide +kernel

theorem meets_BusEventsAct_3 :
    ((1 : Nat) ≤ 3) ∧
    (busUp (wBus : State) (1 : Nat) = true) ∧
    ((ch (wBus : State) (1 : Nat)).st ≠ 0) ∧
    (carriesOwn (wBus : State) (1 : Nat) (⟨0x80000300, 0, [1, 2, 3], 1000, 2000⟩ : CanIn).ident = true) ∧
    ((wBus : State).sys.mode ≠ .still) := by decide +kernel

theorem meets_BusEventsAct_4 :
    ((0 : Nat) ≤ 3) ∧
    (busUp (wMode .still (wCfg [{ kind := 1, flags := 1, body := zeros 48 }, { kind := 5, index := 0, flags := 1, body := zeros 16 ++ [0xFF] ++ zeros 23 ++ [1, 1, 0, 0] ++ p4 0x55 ++ p4 0x1FFFFFFF ++ zeros 48 }] wBus) : State) (0 : Nat) = true) ∧
    ((ch (wMode .still (wCfg [{ kind := 1, flags := 1, body := zeros 48 }, { kind := 5, index := 0, flags := 1, body := zeros 16 ++ [0xFF] ++ zeros 23 ++ [1, 1, 0, 0] ++ p4 0x55 ++ p4 0x1FFFFFFF ++ zeros 48 }] wBus) : State) (0 : Nat)).st ≠ 0) ∧
    (carriesOwn (wMode .still (wCfg [{ kind := 1, flags := 1, body := zeros 48 }, { kind := 5, index := 0, flags := 1, body := zeros 16 ++ [0xFF] ++ zeros 23 ++ [1, 1, 0, 0] ++ p4 0x55 ++ p4 0x1FFFFFFF ++ zeros 48 }] wBus) : State) (0 : Nat) (⟨0x55, 0, [1], 1000, 2000⟩ : CanIn).ident = false) ∧
    ((wMode .still (wCfg [{ kind := 1, flags := 1, body := zeros 48 }, { kind := 5, index := 0, flags := 1, body := zeros 16 ++ [0xFF] ++ zeros 23 ++ [1, 1, 0, 0] ++ p4 0x55 ++ p4 0x1FFFFFFF ++ zeros 48 }] wBus) : State).sys.mode = .still) := by decide +kernel

theorem meets_BusEventsAct_5 :
    ((3 < (0 : Nat) ∨ busUp (wIce : State) (0 : Nat) = false ∨ (ch (wIce : State) (0 : Nat)).st = 0)) := by decide +kernel

theorem meets_BusEventsAct_6 :
    ((modCh 0 (fun k => { k with ring := [{ ident := 0x55 }] }) wBus : State).absorb.reexecuting = false) ∧
    ((modCh 0 (fun k => { k with ring := [{ ident := 0x55 }] }) wBus : State).sys.mode ≠ .ice) := by decide +kernel

theorem meets_BusEventsAct_7 :
    (((onAbsorb (fun a => { a with reexecuting := true }) wBus : State).absorb.reexecuting = true ∨ (onAbsorb (fun a => { a with reexecuting := true }) wBus : State).sys.mode = .ice)) := by decide +kernel

theorem meets_BusEventsAct_8 :
    (offered (modCh 0 (fun k => { k with pending := [{ handle := 5, side := some .spi, report := true }] }) wBus : State) (0 : Nat) (700 : Nat) = some ({ handle := 5, side := some .spi, report := true } : TxFrame)) ∧
    (busUp (modCh 0 (fun k => { k with pending := [{ handle := 5, side := some .spi, report := true }] }) wBus : State) (0 : Nat) = true) ∧
    ((ch (modCh 0 (fun k => { k with pending := [{ handle := 5, side := some .spi, report := true }] }) wBus : State) (0 : Nat)).st ≠ 0) ∧
    ((ch (modCh 0 (fun k => { k with pending := [{ handle := 5, side := some .spi, report := true }] }) wBus : State) (0 : Nat)).st < 4) ∧
    (listenOnly (modCh 0 (fun k => { k with pending := [{ handle := 5, side := some .spi, report := true }] }) wBus : State) (0 : Nat) = false) ∧
    (({ handle := 5, side := some .spi, report := true } : TxFrame).what ≠ 2) ∧
    (({ handle := 5, side := some .spi, report := true } : TxFrame).what ≠ 3) := by decide +kernel

theorem meets_BusEventsAct_9 :
    ((offered (wBus : State) (0 : Nat) (700 : Nat) = none ∨ busUp (wBus : State) (0 : Nat) = false ∨ (ch (wBus : State) (0 : Nat)).st = 0 ∨ 4 ≤ (ch (wBus : State) (0 : Nat)).st ∨ listenOnly (wBus : State) (0 : Nat) = true)) := by decide +kernel

theorem meets_BusEventsAct_10 :
    ((0 : Nat) ≤ 3) ∧
    (busUp (wBus : State) (0 : Nat) = true) ∧
    ((ch (wBus : State) (0 : Nat)).st = 1) ∧
    (listenOnly (wBus : State) (0 : Nat) = false) := by decide +kernel

theorem meets_BusEventsAct_11 :
    ((0 : Nat) ≤ 3) ∧
    (busUp (modCh 0 (fun k => { k with st := 2 }) wBus : State) (0 : Nat) = true) ∧
    (1 ≤ (ch (modCh 0 (fun k => { k with st := 2 }) wBus : State) (0 : Nat)).st) ∧
    ((ch (modCh 0 (fun k => { k with st := 2 }) wBus : State) (0 : Nat)).st ≤ 3) ∧
    (listenOnly (modCh 0 (fun k => { k with st := 2 }) wBus : State) (0 : Nat) = false) ∧
    ((127 : Nat) ≤ 255) ∧
    ((2 : Nat) = (if 127 < (127 : Nat) ∨ 127 < (95 : Nat) then 3 else if 96 ≤ (127 : Nat) ∨ 96 ≤ (95 : Nat) then 2 else 1)) ∧
    (((2 : Nat) = (ch (modCh 0 (fun k => { k with st := 2 }) wBus : State) (0 : Nat)).st ∨ (2 : Nat) = 1)) := by decide +kernel

theorem meets_BusEventsAct_12 :
    ((0 : Nat) ≤ 3) ∧
    (busUp (wBus : State) (0 : Nat) = true) ∧
    (1 ≤ (ch (wBus : State) (0 : Nat)).st) ∧
    ((ch (wBus : State) (0 : Nat)).st ≤ 3) ∧
    (listenOnly (wBus : State) (0 : Nat) = false) := by decide +kernel

theorem meets_BusEventsAct_13 :
    ((3 < (0 : Nat) ∨ busUp (wRun : State) (0 : Nat) = false ∨ (ch (wRun : State) (0 : Nat)).st = 0 ∨ 4 ≤ (ch (wRun : State) (0 : Nat)).st ∨ listenOnly (wRun : State) (0 : Nat) = true)) := by decide +kernel

theorem meets_BusEventsAct_14 :
    ((0 : Nat) ≤ 3) ∧
    (busUp (wBus : State) (0 : Nat) = true) ∧
    (1 ≤ (ch (wBus : State) (0 : Nat)).st) ∧
    ((ch (wBus : State) (0 : Nat)).st ≤ 3) ∧
    (listenOnly (wBus : State) (0 : Nat) = false) ∧
    ((4 ≤ partnerOf (wBus : State) (0 : Nat) ∨ chOn (wBus : State) (partnerOf (wBus : State) (0 : Nat)) = false ∨ listenOnly (wBus : State) (partnerOf (wBus : State) (0 : Nat)) = true ∨ (ch (wBus : State) (partnerOf (wBus : State) (0 : Nat))).st = 0 ∨ 4 ≤ (ch (wBus : State) (partnerOf (wBus : State) (0 : Nat))).st)) ∧
    ((note 0x0B22 [0, 0] (modCh 0 (fun k => { k with st := 4, tec := 256, busoffs := 1, busOffAt := wBus.sys.devTime }) wBus) : State) = ((ch (wBus : State) (0 : Nat)).pending ++ (ch (wBus : State) (0 : Nat)).overflow).foldl (fun t f => txOutcome f sDEFERRED (0 : Nat) 0 0 t) (note 0x0B22 [(0 : Nat), (ch (wBus : State) (0 : Nat)).pending.length + (ch (wBus : State) (0 : Nat)).overflow.length] (modCh (0 : Nat) (fun k => { k with st := 4, tec := 256, busoffs := w32 (k.busoffs + 1), busOffAt := (wBus : State).sys.devTime }) (wBus : State)))) := by decide +kernel

theorem meets_BusEventsAct_15 :
    ((0 : Nat) ≤ 3) ∧
    (busUp (wCfg [{ kind := 5, index := 0, flags := 1, body := zeros 16 ++ [1] ++ zeros 79 }, { kind := 5, index := 1, flags := 1, body := zeros 16 ++ [0] ++ zeros 79 }] wBus : State) (0 : Nat) = true) ∧
    (1 ≤ (ch (wCfg [{ kind := 5, index := 0, flags := 1, body := zeros 16 ++ [1] ++ zeros 79 }, { kind := 5, index := 1, flags := 1, body := zeros 16 ++ [0] ++ zeros 79 }] wBus : State) (0 : Nat)).st) ∧
    ((ch (wCfg [{ kind := 5, index := 0, flags := 1, body := zeros 16 ++ [1] ++ zeros 79 }, { kind := 5, index := 1, flags := 1, body := zeros 16 ++ [0] ++ zeros 79 }] wBus : State) (0 : Nat)).st ≤ 3) ∧
    (listenOnly (wCfg [{ kind := 5, index := 0, flags := 1, body := zeros 16 ++ [1] ++ zeros 79 }, { kind := 5, index := 1, flags := 1, body := zeros 16 ++ [0] ++ zeros 79 }] wBus : State) (0 : Nat) = false) ∧
    (partnerOf (wCfg [{ kind := 5, index := 0, flags := 1, body := zeros 16 ++ [1] ++ zeros 79 }, { kind := 5, index := 1, flags := 1, body := zeros 16 ++ [0] ++ zeros 79 }] wBus : State) (0 : Nat) < 4) ∧
    (chOn (wCfg [{ kind := 5, index := 0, flags := 1, body := zeros 16 ++ [1] ++ zeros 79 }, { kind := 5, index := 1, flags := 1, body := zeros 16 ++ [0] ++ zeros 79 }] wBus : State) (partnerOf (wCfg [{ kind := 5, index := 0, flags := 1, body := zeros 16 ++ [1] ++ zeros 79 }, { kind := 5, index := 1, flags := 1, body := zeros 16 ++ [0] ++ zeros 79 }] wBus : State) (0 : Nat)) = true) ∧
    (listenOnly (wCfg [{ kind := 5, index := 0, flags := 1, body := zeros 16 ++ [1] ++ zeros 79 }, { kind := 5, index := 1, flags := 1, body := zeros 16 ++ [0] ++ zeros 79 }] wBus : State) (partnerOf (wCfg [{ kind := 5, index := 0, flags := 1, body := zeros 16 ++ [1] ++ zeros 79 }, { kind := 5, index := 1, flags := 1, body := zeros 16 ++ [0] ++ zeros 79 }] wBus : State) (0 : Nat)) = false) ∧
    ((ch (wCfg [{ kind := 5, index := 0, flags := 1, body := zeros 16 ++ [1] ++ zeros 79 }, { kind := 5, index := 1, flags := 1, body := zeros 16 ++ [0] ++ zeros 79 }] wBus : State) (partnerOf (wCfg [{ kind := 5, index := 0, flags := 1, body := zeros 16 ++ [1] ++ zeros 79 }, { kind := 5, index := 1, flags := 1, body := zeros 16 ++ [0] ++ zeros 79 }] wBus : State) (0 : Nat))).st ≠ 0) ∧
    ((ch (wCfg [{ kind := 5, index := 0, flags := 1, body := zeros 16 ++ [1] ++ zeros 79 }, { kind := 5, index := 1, flags := 1, body := zeros 16 ++ [0] ++ zeros 79 }] wBus : State) (partnerOf (wCfg [{ kind := 5, index := 0, flags := 1, body := zeros 16 ++ [1] ++ zeros 79 }, { kind := 5, index := 1, flags := 1, body := zeros 16 ++ [0] ++ zeros 79 }] wBus : State) (0 : Nat))).st < 4) ∧
    ((note 0x0B22 [0, 0] (modCh 0 (fun k => { k with st := 4, tec := 256, busoffs := 1, busOffAt := wBus.sys.devTime }) (wCfg [{ kind := 5, index := 0, flags := 1, body := zeros 16 ++ [1] ++ zeros 79 }, { kind := 5, index := 1, flags := 1, body := zeros 16 ++ [0] ++ zeros 79 }] wBus)) : State) = ((ch (wCfg [{ kind := 5, index := 0, flags := 1, body := zeros 16 ++ [1] ++ zeros 79 }, { kind := 5, index := 1, flags := 1, body := zeros 16 ++ [0] ++ zeros 79 }] wBus : State) (0 : Nat)).pending ++ (ch (wCfg [{ kind := 5, index := 0, flags := 1, body := zeros 16 ++ [1] ++ zeros 79 }, { kind := 5, index := 1, flags := 1, body := zeros 16 ++ [0] ++ zeros 79 }] wBus : State) (0 : Nat)).overflow).foldl (fun t f => txOutcome f sDEFERRED (0 : Nat) 0 0 t) (note 0x0B22 [(0 : Nat), (ch (wCfg [{ kind := 5, index := 0, flags := 1, body := zeros 16 ++ [1] ++ zeros 79 }, { kind := 5, index := 1, flags := 1, body := zeros 16 ++ [0] ++ zeros 79 }] wBus : State) (0 : Nat)).pending.length + (ch (wCfg [{ kind := 5, index := 0, flags := 1, body := zeros 16 ++ [1] ++ zeros 79 }, { kind := 5, index := 1, flags := 1, body := zeros 16 ++ [0] ++ zeros 79 }] wBus : State) (0 : Nat)).overflow.length] (modCh (0 : Nat) (fun k => { k with st := 4, tec := 256, busoffs := w32 (k.busoffs + 1), busOffAt := (wCfg [{ kind := 5, index := 0, flags := 1, body := zeros 16 ++ [1] ++ zeros 79 }, { kind := 5, index := 1, flags := 1, body := zeros 16 ++ [0] ++ zeros 79 }] wBus : State).sys.devTime }) (wCfg [{ kind := 5, index := 0, flags := 1, body := zeros 16 ++ [1] ++ zeros 79 }, { kind := 5, index := 1, flags := 1, body := zeros 16 ++ [0] ++ zeros 79 }] wBus : State)))) := by decide +kernel

theorem meets_BusEventsAct_16 :
    ((ch (modCh 0 (fun k => { k with st := 5 }) wBus : State) (0 : Nat)).st = 5) := by decide +kernel

theorem meets_BusEventsAct_17 :
    ((ch (wBus : State) (0 : Nat)).st ≠ 5) := by decide +kernel

theorem meets_BusEventsAct_18 :
    (autoFailback (modCh 1 (fun k => { k with failedTo := some 0 }) (onSys (fun y => { y with devTime := 10000000000 }) wBus) : State) (1 : Nat) = true) ∧
    ((ch (modCh 1 (fun k => { k with failedTo := some 0 }) (onSys (fun y => { y with devTime := 10000000000 }) wBus) : State) (1 : Nat)).st = 1) ∧
    ((ch (modCh 1 (fun k => { k with failedTo := some 0 }) (onSys (fun y => { y with devTime := 10000000000 }) wBus) : State) (1 : Nat)).activeSince + 10000000000 ≤ (modCh 1 (fun k => { k with failedTo := some 0 }) (onSys (fun y => { y with devTime := 10000000000 }) wBus) : State).sys.devTime) := by decide +kernel

theorem meets_BusEventsAct_19 :
    ((autoFailback (wBus : State) (1 : Nat) = false ∨ (ch (wBus : State) (1 : Nat)).st ≠ 1 ∨ (wBus : State).sys.devTime < (ch (wBus : State) (1 : Nat)).activeSince + 10000000000)) := by decide +kernel

theorem meets_BusEventsAct_20 :
    (((ch (modCh 0 (fun k => { k with pending := [{ handle := 5, side := some .spi, report := true }] }) (onSys (fun y => { y with devTime := 10000000000 }) wBus) : State) (0 : Nat)).st = 1 ∨ (ch (modCh 0 (fun k => { k with pending := [{ handle := 5, side := some .spi, report := true }] }) (onSys (fun y => { y with devTime := 10000000000 }) wBus) : State) (0 : Nat)).st = 2)) ∧
    ((5 : Nat) ≠ 0) ∧
    (((ch (modCh 0 (fun k => { k with pending := [{ handle := 5, side := some .spi, report := true }] }) (onSys (fun y => { y with devTime := 10000000000 }) wBus) : State) (0 : Nat)).pending ++ (ch (modCh 0 (fun k => { k with pending := [{ handle := 5, side := some .spi, report := true }] }) (onSys (fun y => { y with devTime := 10000000000 }) wBus) : State) (0 : Nat)).overflow).find? (fun g => g.handle == (5 : Nat) && !g.late && decide (g.accepted + 10000000000 ≤ (modCh 0 (fun k => { k with pending := [{ handle := 5, side := some .spi, report := true }] }) (onSys (fun y => { y with devTime := 10000000000 }) wBus) : State).sys.devTime)) = some ({ handle := 5, side := some .spi, report := true } : TxFrame)) := by decide +kernel

theorem meets_BusEventsAct_21 :
    (((ch (wBus : State) (0 : Nat)).st = 0 ∨ 2 < (ch (wBus : State) (0 : Nat)).st ∨ (∀ g ∈ (ch (wBus : State) (0 : Nat)).pending ++ (ch (wBus : State) (0 : Nat)).overflow, g.handle ≠ (5 : Nat) ∨ g.late = true ∨ (wBus : State).sys.devTime < g.accepted + 10000000000))) := by decide +kernel

theorem meets_BusEventsAct_22 :
    (objEntry (wBus : State) (1 : Nat) (8 : Nat) = some ([8, 0, 0, 4] ++ p4 0x80000300 ++ p4 0 ++ p2 100 ++ [0, 0] : List Byte)) ∧
    (busUp (wBus : State) (1 : Nat) = true) ∧
    ((ch (wBus : State) (1 : Nat)).st ≠ 0) ∧
    (entSend ([8, 0, 0, 4] ++ p4 0x80000300 ++ p4 0 ++ p2 100 ++ [0, 0] : List Byte) = true) ∧
    (g2 ([8, 0, 0, 4] ++ p4 0x80000300 ++ p4 0 ++ p2 100 ++ [0, 0] : List Byte) 12 ≠ 0) ∧
    (objPending (wBus : State) (1 : Nat) (8 : Nat) = false) := by decide +kernel

theorem meets_BusEventsAct_23 :
    (objEntry (sendObj 1 8 {} wBus : State) (1 : Nat) (8 : Nat) = some ([8, 0, 0, 4] ++ p4 0x80000300 ++ p4 0 ++ p2 100 ++ [0, 0] : List Byte)) ∧
    (busUp (sendObj 1 8 {} wBus : State) (1 : Nat) = true) ∧
    ((ch (sendObj 1 8 {} wBus : State) (1 : Nat)).st ≠ 0) ∧
    (entSend ([8, 0, 0, 4] ++ p4 0x80000300 ++ p4 0 ++ p2 100 ++ [0, 0] : List Byte) = true) ∧
    (g2 ([8, 0, 0, 4] ++ p4 0x80000300 ++ p4 0 ++ p2 100 ++ [0, 0] : List Byte) 12 ≠ 0) ∧
    (objPending (sendObj 1 8 {} wBus : State) (1 : Nat) (8 : Nat) = true) := by decide +kernel

theorem meets_BusEventsAct_24 :
    ((busUp (wBus : State) (1 : Nat) = false ∨ (ch (wBus : State) (1 : Nat)).st = 0 ∨ (∀ e ∈ objEntry (wBus : State) (1 : Nat) (9 : Nat), entSend e = false ∨ g2 e 12 = 0))) := by decide +kernel

theorem meets_BusTimeReferenceActs_1 :
    ((2 : Nat) ≤ 2) ∧
    (busUp (wBus : State) (2 : Nat) = true) ∧
    ((ch (wBus : State) (2 : Nat)).st ≠ 0) ∧
    (timeRole (wBus : State) (2 : Nat) = 1) ∧
    ((0 : Nat) = (if (ch (wBus : State) (2 : Nat)).sending ∨ (ch (wBus : State) (2 : Nat)).prevEof.isSome then ((ch (wBus : State) (2 : Nat)).cycle + 1) % 64 else (ch (wBus : State) (2 : Nat)).cycle)) ∧
    ((0x12 : Nat) = refIdent (wBus : State) (2 : Nat) + masterPrio (wBus : State) (2 : Nat)) := by decide +kernel

theorem meets_BusTimeReferenceActs_2 :
    ((2 : Nat) ≤ 2) ∧
    (busUp (modCh 2 (fun k => { k with prevEof := some 1000, masterIdent := 0x10, cycle := 4, sending := true }) wBus : State) (2 : Nat) = true) ∧
    ((ch (modCh 2 (fun k => { k with prevEof := some 1000, masterIdent := 0x10, cycle := 4, sending := true }) wBus : State) (2 : Nat)).st ≠ 0) ∧
    (timeRole (modCh 2 (fun k => { k with prevEof := some 1000, masterIdent := 0x10, cycle := 4, sending := true }) wBus : State) (2 : Nat) ≠ 0) ∧
    (refIdent (modCh 2 (fun k => { k with prevEof := some 1000, masterIdent := 0x10, cycle := 4, sending := true }) wBus : State) (2 : Nat) ≤ (0x10 : Nat)) ∧
    ((0x10 : Nat) ≤ refIdent (modCh 2 (fun k => { k with prevEof := some 1000, masterIdent := 0x10, cycle := 4, sending := true }) wBus : State) (2 : Nat) + 7) ∧
    (((ch (modCh 2 (fun k => { k with prevEof := some 1000, masterIdent := 0x10, cycle := 4, sending := true }) wBus : State) (2 : Nat)).sending = false ∨ (0x10 : Nat) < refIdent (modCh 2 (fun k => { k with prevEof := some 1000, masterIdent := 0x10, cycle := 4, sending := true }) wBus : State) (2 : Nat) + masterPrio (modCh 2 (fun k => { k with prevEof := some 1000, masterIdent := 0x10, cycle := 4, sending := true }) wBus : State) (2 : Nat))) := by decide +kernel

theorem meets_BusTimeReferenceActs_3 :
    ((2 : Nat) ≤ 2) ∧
    (busUp (modCh 2 (fun k => { k with sending := true, refMissing := true }) wBus : State) (2 : Nat) = true) ∧
    ((ch (modCh 2 (fun k => { k with sending := true, refMissing := true }) wBus : State) (2 : Nat)).st ≠ 0) ∧
    (timeRole (modCh 2 (fun k => { k with sending := true, refMissing := true }) wBus : State) (2 : Nat) ≠ 0) ∧
    (refIdent (modCh 2 (fun k => { k with sending := true, refMissing := true }) wBus : State) (2 : Nat) + masterPrio (modCh 2 (fun k => { k with sending := true, refMissing := true }) wBus : State) (2 : Nat) ≤ (0x17 : Nat)) ∧
    ((0x17 : Nat) ≤ refIdent (modCh 2 (fun k => { k with sending := true, refMissing := true }) wBus : State) (2 : Nat) + 7) ∧
    ((ch (modCh 2 (fun k => { k with sending := true, refMissing := true }) wBus : State) (2 : Nat)).sending = true) := by decide +kernel

theorem meets_BusTimeReferenceActs_4 :
    ((2 < (2 : Nat) ∨ busUp (wBus : State) (2 : Nat) = false ∨ (ch (wBus : State) (2 : Nat)).st = 0 ∨ timeRole (wBus : State) (2 : Nat) = 0 ∨ (0x18 : Nat) < refIdent (wBus : State) (2 : Nat) ∨ refIdent (wBus : State) (2 : Nat) + 7 < (0x18 : Nat))) := by decide +kernel

theorem meets_BusTimeReferenceActs_5 :
    ((2 : Nat) ≤ 2) ∧
    (busUp (wBus : State) (2 : Nat) = true) ∧
    ((ch (wBus : State) (2 : Nat)).st ≠ 0) ∧
    (timeRole (wBus : State) (2 : Nat) ≠ 0) ∧
    ((ch (wBus : State) (2 : Nat)).refMissing = false) := by decide +kernel

theorem meets_BusTimeReferenceActs_6 :
    ((2 < (0 : Nat) ∨ busUp (wBus : State) (0 : Nat) = false ∨ (ch (wBus : State) (0 : Nat)).st = 0 ∨ timeRole (wBus : State) (0 : Nat) = 0)) := by decide +kernel

theorem meets_BusTimeReferenceActs_7 :
    ((ch (modCh 2 (fun k => { k with refMissing := true }) wBus : State) (2 : Nat)).refMissing = true) := by decide +kernel

theorem meets_FeltSourcesMoveFelts_1 :
    ((2 : Nat) < 8) ∧
    (encOn (wFelt : State) (2 : Nat) = true) ∧
    (feltsCount (wFelt : State) = true) ∧
    (encMode (wFelt : State) (2 : Nat) = 0) ∧
    (((felt (wFelt : State) (2 : Nat)).a != (true : Bool)) = true) ∧
    ((felt (wFelt : State) (2 : Nat)).b = (false : Bool)) ∧
    ((∀ q ∈ (felt (wFelt : State) (2 : Nat)).lastEdge, 5000 ≤ (wFelt : State).sys.devTime - q)) ∧
    ((1 : Int) = (if (true : Bool) ≠ (false : Bool) then 1 else -1)) := by decide +kernel

theorem meets_FeltSourcesMoveFelts_2 :
    ((2 : Nat) < 8) ∧
    (encOn (wFelt : State) (2 : Nat) = true) ∧
    (feltsCount (wFelt : State) = true) ∧
    (encMode (wFelt : State) (2 : Nat) = 0) ∧
    ((felt (wFelt : State) (2 : Nat)).a = (false : Bool)) ∧
    (((felt (wFelt : State) (2 : Nat)).b != (true : Bool)) = true) ∧
    ((∀ q ∈ (felt (wFelt : State) (2 : Nat)).lastEdge, 5000 ≤ (wFelt : State).sys.devTime - q)) ∧
    ((-1 : Int) = (if (false : Bool) = (true : Bool) then 1 else -1)) := by decide +kernel

theorem meets_FeltSourcesMoveFelts_3 :
    ((2 : Nat) < 8) ∧
    (encOn (wCfg [{ kind := 4, index := 2, flags := 1, body := [2, 1] ++ zeros 62 }] wRun : State) (2 : Nat) = true) ∧
    (feltsCount (wCfg [{ kind := 4, index := 2, flags := 1, body := [2, 1] ++ zeros 62 }] wRun : State) = true) ∧
    (encMode (wCfg [{ kind := 4, index := 2, flags := 1, body := [2, 1] ++ zeros 62 }] wRun : State) (2 : Nat) ≠ 0) ∧
    ((felt (wCfg [{ kind := 4, index := 2, flags := 1, body := [2, 1] ++ zeros 62 }] wRun : State) (2 : Nat)).a = false) ∧
    ((∀ q ∈ (felt (wCfg [{ kind := 4, index := 2, flags := 1, body := [2, 1] ++ zeros 62 }] wRun : State) (2 : Nat)).lastEdge, 5000 ≤ (wCfg [{ kind := 4, index := 2, flags := 1, body := [2, 1] ++ zeros 62 }] wRun : State).sys.devTime - q)) ∧
    ((-1 : Int) = (if encMode (wCfg [{ kind := 4, index := 2, flags := 1, body := [2, 1] ++ zeros 62 }] wRun : State) (2 : Nat) = 1 ∧ (true : Bool) = true then -1 else 1)) := by decide +kernel

theorem meets_FeltSourcesMoveFelts_4 :
    ((2 : Nat) < 8) ∧
    (encOn (modFelt 2 (fun x => { x with lastEdge := some 0 }) wFelt : State) (2 : Nat) = true) ∧
    (feltsCount (modFelt 2 (fun x => { x with lastEdge := some 0 }) wFelt : State) = true) ∧
    (encMode (modFelt 2 (fun x => { x with lastEdge := some 0 }) wFelt : State) (2 : Nat) = 0) ∧
    ((felt (modFelt 2 (fun x => { x with lastEdge := some 0 }) wFelt : State) (2 : Nat)).lastEdge = some (0 : Nat)) ∧
    ((modFelt 2 (fun x => { x with lastEdge := some 0 }) wFelt : State).sys.devTime - (0 : Nat) < 5000) ∧
    (((felt (modFelt 2 (fun x => { x with lastEdge := some 0 }) wFelt : State) (2 : Nat)).a != (true : Bool)) = true) ∧
    ((felt (modFelt 2 (fun x => { x with lastEdge := some 0 }) wFelt : State) (2 : Nat)).b = (false : Bool)) ∧
    ((1 : Int) = (if (true : Bool) ≠ (false : Bool) then 1 else -1)) := by decide +kernel

theorem meets_FeltSourcesMoveFelts_5 :
    ((2 : Nat) < 8) ∧
    (encOn (wCfg [{ kind := 4, index := 2, flags := 1, body := [2, 1] ++ zeros 62 }] wRun : State) (2 : Nat) = true) ∧
    (feltsCount (wCfg [{ kind := 4, index := 2, flags := 1, body := [2, 1] ++ zeros 62 }] wRun : State) = true) ∧
    (((encMode (wCfg [{ kind := 4, index := 2, flags := 1, body := [2, 1] ++ zeros 62 }] wRun : State) (2 : Nat) = 0 ∧ (felt (wCfg [{ kind := 4, index := 2, flags := 1, body := [2, 1] ++ zeros 62 }] wRun : State) (2 : Nat)).a = (false : Bool) ∧ (felt (wCfg [{ kind := 4, index := 2, flags := 1, body := [2, 1] ++ zeros 62 }] wRun : State) (2 : Nat)).b = (true : Bool)) ∨ (encMode (wCfg [{ kind := 4, index := 2, flags := 1, body := [2, 1] ++ zeros 62 }] wRun : State) (2 : Nat) ≠ 0 ∧ ((false : Bool) = false ∨ (felt (wCfg [{ kind := 4, index := 2, flags := 1, body := [2, 1] ++ zeros 62 }] wRun : State) (2 : Nat)).a = true)))) := by decide +kernel

theorem meets_FeltSourcesMoveFelts_6 :
    (encOn (wFelt : State) (2 : Nat) = true) ∧
    (feltsCount (wFelt : State) = true) ∧
    (encMode (wFelt : State) (2 : Nat) = 0) ∧
    (((felt (wFelt : State) (2 : Nat)).a != (true : Bool)) = true) ∧
    (((felt (wFelt : State) (2 : Nat)).b != (true : Bool)) = true) := by decide +kernel

theorem meets_FeltSourcesMoveFelts_7 :
    (256 ≤ (306 : Nat)) ∧
    (encOn (wCfg [wStnP 50 0x42 4 [0, 1] (zeros 16)] wRun : State) (306 : Nat) = true) ∧
    (feltsCount (wCfg [wStnP 50 0x42 4 [0, 1] (zeros 16)] wRun : State) = true) ∧
    (encMode (wCfg [wStnP 50 0x42 4 [0, 1] (zeros 16)] wRun : State) (306 : Nat) = 0) ∧
    (((felt (wCfg [wStnP 50 0x42 4 [0, 1] (zeros 16)] wRun : State) (306 : Nat)).a != (true : Bool)) = true) ∧
    ((felt (wCfg [wStnP 50 0x42 4 [0, 1] (zeros 16)] wRun : State) (306 : Nat)).b = (false : Bool)) ∧
    ((∀ q ∈ (felt (wCfg [wStnP 50 0x42 4 [0, 1] (zeros 16)] wRun : State) (306 : Nat)).lastEdge, 5000 ≤ (wCfg [wStnP 50 0x42 4 [0, 1] (zeros 16)] wRun : State).sys.devTime - q)) ∧
    ((1 : Int) = (if encInvert (wCfg [wStnP 50 0x42 4 [0, 1] (zeros 16)] wRun : State) (306 : Nat) then (if (true : Bool) ≠ (false : Bool) then -1 else 1) else if (true : Bool) ≠ (false : Bool) then 1 else -1)) := by decide +kernel

theorem meets_FeltSourcesMoveFelts_8 :
    ((encOn (wFelt : State) (3 : Nat) = false ∨ feltsCount (wFelt : State) = false)) := by decide +kernel

theorem meets_FeltSourcesMoveFelts_9 :
    (feltOn (modFelt 1 (fun x => { x with locked := true, advanced := 255, slew := 40 }) wFelt : State) 1 = true) ∧
    (feltsCount (modFelt 1 (fun x => { x with locked := true, advanced := 255, slew := 40 }) wFelt : State) = true) ∧
    (feltSource (modFelt 1 (fun x => { x with locked := true, advanced := 255, slew := 40 }) wFelt : State) 1 = 1) ∧
    ((felt (modFelt 1 (fun x => { x with locked := true, advanced := 255, slew := 40 }) wFelt : State) 1).locked = true) ∧
    ((32 : Nat) = min (felt (modFelt 1 (fun x => { x with locked := true, advanced := 255, slew := 40 }) wFelt : State) 1).slew.toNat 32) ∧
    (0 ≤ (felt (modFelt 1 (fun x => { x with locked := true, advanced := 255, slew := 40 }) wFelt : State) 1).slew) := by decide +kernel

theorem meets_FeltSourcesMoveFelts_10 :
    (feltOn (modFelt 1 (fun x => { x with locked := false, state := 0x40, pos := 250 }) wFelt : State) 1 = true) ∧
    (feltsCount (modFelt 1 (fun x => { x with locked := false, state := 0x40, pos := 250 }) wFelt : State) = true) ∧
    (feltSource (modFelt 1 (fun x => { x with locked := false, state := 0x40, pos := 250 }) wFelt : State) 1 = 1) ∧
    ((felt (modFelt 1 (fun x => { x with locked := false, state := 0x40, pos := 250 }) wFelt : State) 1).locked = false) ∧
    ((6 : Nat) = (256 - (felt (modFelt 1 (fun x => { x with locked := false, state := 0x40, pos := 250 }) wFelt : State) 1).pos % 256) % 256) ∧
    ((felt (modFelt 1 (fun x => { x with locked := false, state := 0x40, pos := 250 }) wFelt : State) 1).state.getLsbD 6 = true) := by decide +kernel

theorem meets_FeltSourcesMoveFelts_11 :
    (feltOn (modFelt 1 (fun x => { x with locked := false, pos := 250 }) wFelt : State) 1 = true) ∧
    (feltsCount (modFelt 1 (fun x => { x with locked := false, pos := 250 }) wFelt : State) = true) ∧
    (feltSource (modFelt 1 (fun x => { x with locked := false, pos := 250 }) wFelt : State) 1 = 1) ∧
    ((felt (modFelt 1 (fun x => { x with locked := false, pos := 250 }) wFelt : State) 1).locked = false) ∧
    ((6 : Nat) = (256 - (felt (modFelt 1 (fun x => { x with locked := false, pos := 250 }) wFelt : State) 1).pos % 256) % 256) ∧
    ((felt (modFelt 1 (fun x => { x with locked := false, pos := 250 }) wFelt : State) 1).state.getLsbD 6 = false) := by decide +kernel

theorem meets_FeltSourcesMoveFelts_12 :
    ((feltOn (wRun : State) 1 = false ∨ feltSource (wRun : State) 1 ≠ 1 ∨ feltsCount (wRun : State) = false)) := by decide +kernel

theorem meets_FeltSourcesMoveFelts_13 :
    (feltOn (modFelt 1 (fun x => { x with locked := true, advanced := 255 }) wFelt : State) 1 = true) ∧
    (feltsCount (modFelt 1 (fun x => { x with locked := true, advanced := 255 }) wFelt : State) = true) ∧
    ((felt (modFelt 1 (fun x => { x with locked := true, advanced := 255 }) wFelt : State) 1).locked = true) := by decide +kernel

theorem meets_FeltSourcesMoveFelts_14 :
    ((feltOn (wRun : State) 1 = false ∨ (felt (wRun : State) 1).locked = false ∨ feltsCount (wRun : State) = false)) := by decide +kernel

theorem meets_FeltSourcesMoveFelts_15 :
    (1 ≤ (2 : Nat)) ∧
    ((2 : Nat) < 8) ∧
    (feltOn (wFelt : State) (2 : Nat) = true) ∧
    (feltsCount (wFelt : State) = true) := by decide +kernel

theorem meets_FeltSourcesMoveFelts_16 :
    (256 ≤ (306 : Nat)) ∧
    (encOn (wCfg [wStnP 50 0x42 4 [0, 1] (zeros 16)] wRun : State) (306 : Nat) = true) ∧
    (feltsCount (wCfg [wStnP 50 0x42 4 [0, 1] (zeros 16)] wRun : State) = true) := by decide +kernel

theorem meets_FeltSourcesMoveFelts_17 :
    (((256 ≤ (5 : Nat) ∧ encOn (wFelt : State) (5 : Nat) = false) ∨ (8 ≤ (5 : Nat) ∧ (5 : Nat) < 256) ∨ (5 : Nat) = 0 ∨ ((5 : Nat) < 8 ∧ feltOn (wFelt : State) (5 : Nat) = false) ∨ feltsCount (wFelt : State) = false)) := by decide +kernel

theorem meets_FeltSourcesMoveFelts_18 :
    ((2 : Nat) ≤ 2) ∧
    (busUp (wFelt : State) (2 : Nat) = true) ∧
    ((ch (wFelt : State) (2 : Nat)).st ≠ 0) ∧
    (([[3, 0] ++ p4 1000 ++ p4 500] : List (List Byte)) = chunks 10 (min 6 (g1 ([4, 0, 1, 0, 3, 0] ++ p4 1000 ++ p4 500 : List Byte) 2)) (([4, 0, 1, 0, 3, 0] ++ p4 1000 ++ p4 500 : List Byte).drop 4)) := by decide +kernel

theorem meets_FeltSourcesMoveFelts_19 :
    ((2 < (3 : Nat) ∨ busUp (wFelt : State) (3 : Nat) = false ∨ (ch (wFelt : State) (3 : Nat)).st = 0 ∨ (9 : Nat) ≠ feltIdent (wFelt : State) (3 : Nat) + g1 ([4] : List Byte) 0)) := by decide +kernel

theorem meets_FeltSourcesMoveFelts_20 :
    (feltOn (wFelt : State) (6 : Nat) = true) ∧
    (feltsCount (wFelt : State) = true) ∧
    (feltSource (wFelt : State) (6 : Nat) = 4) ∧
    ((felt (wFelt : State) (6 : Nat)).state.getLsbD 6 = false) := by decide +kernel

theorem meets_FeltSourcesMoveFelts_21 :
    ((feltOn (wFelt : State) (2 : Nat) = false ∨ feltSource (wFelt : State) (2 : Nat) ≠ 4 ∨ (felt (wFelt : State) (2 : Nat)).state.getLsbD 6 = true ∨ feltsCount (wFelt : State) = false)) := by decide +kernel

theorem meets_FeltAndWheelCommandsAct_1 :
    (asks 0x0401 (rq [2, 1, 0, 0] : Req) (wFelt : State) = true) ∧
    (g1 (rq [2, 1, 0, 0] : Req).payload 0 ≤ 7) ∧
    (g1 (rq [2, 1, 0, 0] : Req).payload 1 = 1) ∧
    (zeroAt (rq [2, 1, 0, 0] : Req).payload 2 2 = true) := by decide +kernel

theorem meets_FeltAndWheelCommandsAct_2 :
    (asks 0x0401 (rq [2, 0, 0, 0] : Req) (wFelt : State) = true) ∧
    (g1 (rq [2, 0, 0, 0] : Req).payload 0 ≤ 7) ∧
    (g1 (rq [2, 0, 0, 0] : Req).payload 1 = 0) ∧
    (zeroAt (rq [2, 0, 0, 0] : Req).payload 2 2 = true) := by decide +kernel

theorem meets_FeltAndWheelCommandsAct_3 :
    (asks 0x0401 (rq [8, 0, 0, 0] : Req) (wFelt : State) = true) ∧
    ((7 < g1 (rq [8, 0, 0, 0] : Req).payload 0 ∨ 1 < g1 (rq [8, 0, 0, 0] : Req).payload 1 ∨ zeroAt (rq [8, 0, 0, 0] : Req).payload 2 2 = false)) := by decide +kernel

theorem meets_FeltAndWheelCommandsAct_4 :
    (asks 0x0402 (rq ([2, 0, 0, 0] ++ p4 5000) : Req) (wFelt : State) = true) ∧
    (2 ≤ g1 (rq ([2, 0, 0, 0] ++ p4 5000) : Req).payload 0) ∧
    (g1 (rq ([2, 0, 0, 0] ++ p4 5000) : Req).payload 0 ≤ 7) ∧
    (zeroAt (rq ([2, 0, 0, 0] ++ p4 5000) : Req).payload 1 3 = true) ∧
    (feltOn (wFelt : State) (g1 (rq ([2, 0, 0, 0] ++ p4 5000) : Req).payload 0) = true) ∧
    (feltSource (wFelt : State) (g1 (rq ([2, 0, 0, 0] ++ p4 5000) : Req).payload 0) ≠ 4) ∧
    ((zonesOf (wFelt : State) (g1 (rq ([2, 0, 0, 0] ++ p4 5000) : Req).payload 0)).any (fun z => zoneRunning (wFelt : State) z) = false) := by decide +kernel

theorem meets_FeltAndWheelCommandsAct_5 :
    (asks 0x0402 (rq ([6, 0, 0, 0] ++ p4 5000) : Req) (wFelt : State) = true) ∧
    ((g1 (rq ([6, 0, 0, 0] ++ p4 5000) : Req).payload 0 < 2 ∨ 7 < g1 (rq ([6, 0, 0, 0] ++ p4 5000) : Req).payload 0 ∨ zeroAt (rq ([6, 0, 0, 0] ++ p4 5000) : Req).payload 1 3 = false ∨ g1 (objBody (wFelt : State) 4 (g1 (rq ([6, 0, 0, 0] ++ p4 5000) : Req).payload 0)) 0 = 4)) := by decide +kernel

theorem meets_FeltAndWheelCommandsAct_6 :
    (asks 0x0402 (rq ([3, 0, 0, 0] ++ p4 5000) : Req) (wFelt : State) = true) ∧
    (2 ≤ g1 (rq ([3, 0, 0, 0] ++ p4 5000) : Req).payload 0) ∧
    (g1 (rq ([3, 0, 0, 0] ++ p4 5000) : Req).payload 0 ≤ 7) ∧
    (zeroAt (rq ([3, 0, 0, 0] ++ p4 5000) : Req).payload 1 3 = true) ∧
    (g1 (objBody (wFelt : State) 4 (g1 (rq ([3, 0, 0, 0] ++ p4 5000) : Req).payload 0)) 0 ≠ 4) ∧
    (feltOn (wFelt : State) (g1 (rq ([3, 0, 0, 0] ++ p4 5000) : Req).payload 0) = false) := by decide +kernel

theorem meets_FeltAndWheelCommandsAct_7 :
    (asks 0x0402 (rq ([2, 0, 0, 0] ++ p4 5000) : Req) (wParcel : State) = true) ∧
    (2 ≤ g1 (rq ([2, 0, 0, 0] ++ p4 5000) : Req).payload 0) ∧
    (g1 (rq ([2, 0, 0, 0] ++ p4 5000) : Req).payload 0 ≤ 7) ∧
    (zeroAt (rq ([2, 0, 0, 0] ++ p4 5000) : Req).payload 1 3 = true) ∧
    (feltOn (wParcel : State) (g1 (rq ([2, 0, 0, 0] ++ p4 5000) : Req).payload 0) = true) ∧
    (g1 (objBody (wParcel : State) 4 (g1 (rq ([2, 0, 0, 0] ++ p4 5000) : Req).payload 0)) 0 ≠ 4) ∧
    ((zonesOf (wParcel : State) (g1 (rq ([2, 0, 0, 0] ++ p4 5000) : Req).payload 0)).any (fun z => zoneRunning (wParcel : State) z) = true) := by decide +kernel

theorem meets_FeltAndWheelCommandsAct_8 :
    (asks 0x0403 (rq ([2, 1, 0, 0] ++ p4 100 ++ [0xFF, 0xFF, 0, 0] ++ p4 0 ++ p4 42) : Req) (wFelt : State) = true) ∧
    (scheduleFields (rq ([2, 1, 0, 0] ++ p4 100 ++ [0xFF, 0xFF, 0, 0] ++ p4 0 ++ p4 42) : Req).payload) ∧
    (scheduleFits (rq ([2, 1, 0, 0] ++ p4 100 ++ [0xFF, 0xFF, 0, 0] ++ p4 0 ++ p4 42) : Req).side (rq ([2, 1, 0, 0] ++ p4 100 ++ [0xFF, 0xFF, 0, 0] ++ p4 0 ++ p4 42) : Req).payload (wFelt : State)) ∧
    ((entryOf .spi ([2, 1, 0, 0] ++ p4 100 ++ [0xFF, 0xFF, 0, 0] ++ p4 0 ++ p4 42) : Entry) = entryOf (rq ([2, 1, 0, 0] ++ p4 100 ++ [0xFF, 0xFF, 0, 0] ++ p4 0 ++ p4 42) : Req).side (rq ([2, 1, 0, 0] ++ p4 100 ++ [0xFF, 0xFF, 0, 0] ++ p4 0 ++ p4 42) : Req).payload) ∧
    ((100 : Int) = posDist (felt (wFelt : State) (entryOf .spi ([2, 1, 0, 0] ++ p4 100 ++ [0xFF, 0xFF, 0, 0] ++ p4 0 ++ p4 42) : Entry).felt).pos (entryOf .spi ([2, 1, 0, 0] ++ p4 100 ++ [0xFF, 0xFF, 0, 0] ++ p4 0 ++ p4 42) : Entry).pos) ∧
    (0 < (100 : Int)) ∧
    ((100 : Int) ≤ (horizon (slotK (wFelt : State) (entryOf .spi ([2, 1, 0, 0] ++ p4 100 ++ [0xFF, 0xFF, 0, 0] ++ p4 0 ++ p4 42) : Entry).felt) : Int)) ∧
    (roomFor (wFelt : State) (entryOf .spi ([2, 1, 0, 0] ++ p4 100 ++ [0xFF, 0xFF, 0, 0] ++ p4 0 ++ p4 42) : Entry) = some (false : Bool)) ∧
    (((entryOf .spi ([2, 1, 0, 0] ++ p4 100 ++ [0xFF, 0xFF, 0, 0] ++ p4 0 ++ p4 42) : Entry).kind = 4 → overlapAtPlanning (wFelt : State) (entryOf .spi ([2, 1, 0, 0] ++ p4 100 ++ [0xFF, 0xFF, 0, 0] ++ p4 0 ++ p4 42) : Entry) = false)) := by decide +kernel

theorem meets_FeltAndWheelCommandsAct_9 :
    (asks 0x0403 (rq ([2, 1, 0, 0] ++ p4 0 ++ [0xFF, 0xFF, 0, 0] ++ p4 0 ++ p4 42) : Req) (wFelt : State) = true) ∧
    (scheduleFields (rq ([2, 1, 0, 0] ++ p4 0 ++ [0xFF, 0xFF, 0, 0] ++ p4 0 ++ p4 42) : Req).payload) ∧
    (scheduleFits (rq ([2, 1, 0, 0] ++ p4 0 ++ [0xFF, 0xFF, 0, 0] ++ p4 0 ++ p4 42) : Req).side (rq ([2, 1, 0, 0] ++ p4 0 ++ [0xFF, 0xFF, 0, 0] ++ p4 0 ++ p4 42) : Req).payload (wFelt : State)) ∧
    ((entryOf .spi ([2, 1, 0, 0] ++ p4 0 ++ [0xFF, 0xFF, 0, 0] ++ p4 0 ++ p4 42) : Entry) = entryOf (rq ([2, 1, 0, 0] ++ p4 0 ++ [0xFF, 0xFF, 0, 0] ++ p4 0 ++ p4 42) : Req).side (rq ([2, 1, 0, 0] ++ p4 0 ++ [0xFF, 0xFF, 0, 0] ++ p4 0 ++ p4 42) : Req).payload) ∧
    ((0 : Int) = posDist (felt (wFelt : State) (entryOf .spi ([2, 1, 0, 0] ++ p4 0 ++ [0xFF, 0xFF, 0, 0] ++ p4 0 ++ p4 42) : Entry).felt).pos (entryOf .spi ([2, 1, 0, 0] ++ p4 0 ++ [0xFF, 0xFF, 0, 0] ++ p4 0 ++ p4 42) : Entry).pos) ∧
    ((0 : Int) ≤ 0) := by decide +kernel

theorem meets_FeltAndWheelCommandsAct_10 :
    (asks 0x0403 (rq ([2, 1, 0, 0] ++ p4 0x7FFFFFFF ++ [0xFF, 0xFF, 0, 0] ++ p4 0 ++ p4 42) : Req) (wFelt : State) = true) ∧
    (scheduleFields (rq ([2, 1, 0, 0] ++ p4 0x7FFFFFFF ++ [0xFF, 0xFF, 0, 0] ++ p4 0 ++ p4 42) : Req).payload) ∧
    (scheduleFits (rq ([2, 1, 0, 0] ++ p4 0x7FFFFFFF ++ [0xFF, 0xFF, 0, 0] ++ p4 0 ++ p4 42) : Req).side (rq ([2, 1, 0, 0] ++ p4 0x7FFFFFFF ++ [0xFF, 0xFF, 0, 0] ++ p4 0 ++ p4 42) : Req).payload (wFelt : State)) ∧
    ((entryOf .spi ([2, 1, 0, 0] ++ p4 0x7FFFFFFF ++ [0xFF, 0xFF, 0, 0] ++ p4 0 ++ p4 42) : Entry) = entryOf (rq ([2, 1, 0, 0] ++ p4 0x7FFFFFFF ++ [0xFF, 0xFF, 0, 0] ++ p4 0 ++ p4 42) : Req).side (rq ([2, 1, 0, 0] ++ p4 0x7FFFFFFF ++ [0xFF, 0xFF, 0, 0] ++ p4 0 ++ p4 42) : Req).payload) ∧
    ((horizon (slotK (wFelt : State) (entryOf .spi ([2, 1, 0, 0] ++ p4 0x7FFFFFFF ++ [0xFF, 0xFF, 0, 0] ++ p4 0 ++ p4 42) : Entry).felt) : Int) < posDist (felt (wFelt : State) (entryOf .spi ([2, 1, 0, 0] ++ p4 0x7FFFFFFF ++ [0xFF, 0xFF, 0, 0] ++ p4 0 ++ p4 42) : Entry).felt).pos (entryOf .spi ([2, 1, 0, 0] ++ p4 0x7FFFFFFF ++ [0xFF, 0xFF, 0, 0] ++ p4 0 ++ p4 42) : Entry).pos) := by decide +kernel

theorem meets_FeltAndWheelCommandsAct_11 :
    (asks 0x0403 (rq ([2, 1, 0, 0] ++ p4 100 ++ [0xFF, 0xFF, 0, 0] ++ p4 0 ++ p4 42) : Req) (onFelt (fun x => { x with entries := List.replicate 16 { felt := 2, pos := 100 } ++ List.replicate 2048 { felt := 3, spilled := true } }) wFelt : State) = true) ∧
    (scheduleFields (rq ([2, 1, 0, 0] ++ p4 100 ++ [0xFF, 0xFF, 0, 0] ++ p4 0 ++ p4 42) : Req).payload) ∧
    (scheduleFits (rq ([2, 1, 0, 0] ++ p4 100 ++ [0xFF, 0xFF, 0, 0] ++ p4 0 ++ p4 42) : Req).side (rq ([2, 1, 0, 0] ++ p4 100 ++ [0xFF, 0xFF, 0, 0] ++ p4 0 ++ p4 42) : Req).payload (onFelt (fun x => { x with entries := List.replicate 16 { felt := 2, pos := 100 } ++ List.replicate 2048 { felt := 3, spilled := true } }) wFelt : State)) ∧
    ((entryOf .spi ([2, 1, 0, 0] ++ p4 100 ++ [0xFF, 0xFF, 0, 0] ++ p4 0 ++ p4 42) : Entry) = entryOf (rq ([2, 1, 0, 0] ++ p4 100 ++ [0xFF, 0xFF, 0, 0] ++ p4 0 ++ p4 42) : Req).side (rq ([2, 1, 0, 0] ++ p4 100 ++ [0xFF, 0xFF, 0, 0] ++ p4 0 ++ p4 42) : Req).payload) ∧
    (0 < posDist (felt (onFelt (fun x => { x with entries := List.replicate 16 { felt := 2, pos := 100 } ++ List.replicate 2048 { felt := 3, spilled := true } }) wFelt : State) (entryOf .spi ([2, 1, 0, 0] ++ p4 100 ++ [0xFF, 0xFF, 0, 0] ++ p4 0 ++ p4 42) : Entry).felt).pos (entryOf .spi ([2, 1, 0, 0] ++ p4 100 ++ [0xFF, 0xFF, 0, 0] ++ p4 0 ++ p4 42) : Entry).pos) ∧
    (posDist (felt (onFelt (fun x => { x with entries := List.replicate 16 { felt := 2, pos := 100 } ++ List.replicate 2048 { felt := 3, spilled := true } }) wFelt : State) (entryOf .spi ([2, 1, 0, 0] ++ p4 100 ++ [0xFF, 0xFF, 0, 0] ++ p4 0 ++ p4 42) : Entry).felt).pos (entryOf .spi ([2, 1, 0, 0] ++ p4 100 ++ [0xFF, 0xFF, 0, 0] ++ p4 0 ++ p4 42) : Entry).pos ≤ (horizon (slotK (onFelt (fun x => { x with entries := List.replicate 16 { felt := 2, pos := 100 } ++ List.replicate 2048 { felt := 3, spilled := true } }) wFelt : State) (entryOf .spi ([2, 1, 0, 0] ++ p4 100 ++ [0xFF, 0xFF, 0, 0] ++ p4 0 ++ p4 42) : Entry).felt) : Int)) ∧
    (roomFor (onFelt (fun x => { x with entries := List.replicate 16 { felt := 2, pos := 100 } ++ List.replicate 2048 { felt := 3, spilled := true } }) wFelt : State) (entryOf .spi ([2, 1, 0, 0] ++ p4 100 ++ [0xFF, 0xFF, 0, 0] ++ p4 0 ++ p4 42) : Entry) = none) := by decide +kernel

theorem meets_FeltAndWheelCommandsAct_12 :
    (asks 0x0403 (rq ([2, 4, 0, 0] ++ p4 100 ++ [11, 0, 0, 0] ++ p4 500 ++ p4 42) : Req) (onFelt (fun x => { x with entries := [{ felt := 2, kind := 4, station := 11, pos := 100 }] }) { wFelt with cfg := { wFelt.cfg with active := wFelt.cfg.active ++ [wStnP 11 0x31 5 [4] (p4 2000 ++ zeros 36 ++ p4 4000000 ++ p4 500000 ++ p2 500 ++ p2 100 ++ [3, 1] ++ zeros 10)] } } : State) = true) ∧
    (scheduleFields (rq ([2, 4, 0, 0] ++ p4 100 ++ [11, 0, 0, 0] ++ p4 500 ++ p4 42) : Req).payload) ∧
    (scheduleFits (rq ([2, 4, 0, 0] ++ p4 100 ++ [11, 0, 0, 0] ++ p4 500 ++ p4 42) : Req).side (rq ([2, 4, 0, 0] ++ p4 100 ++ [11, 0, 0, 0] ++ p4 500 ++ p4 42) : Req).payload (onFelt (fun x => { x with entries := [{ felt := 2, kind := 4, station := 11, pos := 100 }] }) { wFelt with cfg := { wFelt.cfg with active := wFelt.cfg.active ++ [wStnP 11 0x31 5 [4] (p4 2000 ++ zeros 36 ++ p4 4000000 ++ p4 500000 ++ p2 500 ++ p2 100 ++ [3, 1] ++ zeros 10)] } } : State)) ∧
    ((entryOf .spi ([2, 4, 0, 0] ++ p4 100 ++ [11, 0, 0, 0] ++ p4 500 ++ p4 42) : Entry) = entryOf (rq ([2, 4, 0, 0] ++ p4 100 ++ [11, 0, 0, 0] ++ p4 500 ++ p4 42) : Req).side (rq ([2, 4, 0, 0] ++ p4 100 ++ [11, 0, 0, 0] ++ p4 500 ++ p4 42) : Req).payload) ∧
    (0 < posDist (felt (onFelt (fun x => { x with entries := [{ felt := 2, kind := 4, station := 11, pos := 100 }] }) { wFelt with cfg := { wFelt.cfg with active := wFelt.cfg.active ++ [wStnP 11 0x31 5 [4] (p4 2000 ++ zeros 36 ++ p4 4000000 ++ p4 500000 ++ p2 500 ++ p2 100 ++ [3, 1] ++ zeros 10)] } } : State) (entryOf .spi ([2, 4, 0, 0] ++ p4 100 ++ [11, 0, 0, 0] ++ p4 500 ++ p4 42) : Entry).felt).pos (entryOf .spi ([2, 4, 0, 0] ++ p4 100 ++ [11, 0, 0, 0] ++ p4 500 ++ p4 42) : Entry).pos) ∧
    (posDist (felt (onFelt (fun x => { x with entries := [{ felt := 2, kind := 4, station := 11, pos := 100 }] }) { wFelt with cfg := { wFelt.cfg with active := wFelt.cfg.active ++ [wStnP 11 0x31 5 [4] (p4 2000 ++ zeros 36 ++ p4 4000000 ++ p4 500000 ++ p2 500 ++ p2 100 ++ [3, 1] ++ zeros 10)] } } : State) (entryOf .spi ([2, 4, 0, 0] ++ p4 100 ++ [11, 0, 0, 0] ++ p4 500 ++ p4 42) : Entry).felt).pos (entryOf .spi ([2, 4, 0, 0] ++ p4 100 ++ [11, 0, 0, 0] ++ p4 500 ++ p4 42) : Entry).pos ≤ (horizon (slotK (onFelt (fun x => { x with entries := [{ felt := 2, kind := 4, station := 11, pos := 100 }] }) { wFelt with cfg := { wFelt.cfg with active := wFelt.cfg.active ++ [wStnP 11 0x31 5 [4] (p4 2000 ++ zeros 36 ++ p4 4000000 ++ p4 500000 ++ p2 500 ++ p2 100 ++ [3, 1] ++ zeros 10)] } } : State) (entryOf .spi ([2, 4, 0, 0] ++ p4 100 ++ [11, 0, 0, 0] ++ p4 500 ++ p4 42) : Entry).felt) : Int)) ∧
    (roomFor (onFelt (fun x => { x with entries := [{ felt := 2, kind := 4, station := 11, pos := 100 }] }) { wFelt with cfg := { wFelt.cfg with active := wFelt.cfg.active ++ [wStnP 11 0x31 5 [4] (p4 2000 ++ zeros 36 ++ p4 4000000 ++ p4 500000 ++ p2 500 ++ p2 100 ++ [3, 1] ++ zeros 10)] } } : State) (entryOf .spi ([2, 4, 0, 0] ++ p4 100 ++ [11, 0, 0, 0] ++ p4 500 ++ p4 42) : Entry) = some (false : Bool)) ∧
    ((entryOf .spi ([2, 4, 0, 0] ++ p4 100 ++ [11, 0, 0, 0] ++ p4 500 ++ p4 42) : Entry).kind = 4) ∧
    (overlapAtPlanning (onFelt (fun x => { x with entries := [{ felt := 2, kind := 4, station := 11, pos := 100 }] }) { wFelt with cfg := { wFelt.cfg with active := wFelt.cfg.active ++ [wStnP 11 0x31 5 [4] (p4 2000 ++ zeros 36 ++ p4 4000000 ++ p4 500000 ++ p2 500 ++ p2 100 ++ [3, 1] ++ zeros 10)] } } : State) (entryOf .spi ([2, 4, 0, 0] ++ p4 100 ++ [11, 0, 0, 0] ++ p4 500 ++ p4 42) : Entry) = true) := by decide +kernel

theorem meets_FeltAndWheelCommandsAct_13 :
    (asks 0x0403 (rq ([8, 1, 0, 0] ++ p4 100 ++ [0xFF, 0xFF, 0, 0] ++ p4 0 ++ p4 42) : Req) (wFelt : State) = true) ∧
    (¬ scheduleFields (rq ([8, 1, 0, 0] ++ p4 100 ++ [0xFF, 0xFF, 0, 0] ++ p4 0 ++ p4 42) : Req).payload) := by decide +kernel

theorem meets_FeltAndWheelCommandsAct_14 :
    (asks 0x0403 (rq ([3, 1, 0, 0] ++ p4 100 ++ [0xFF, 0xFF, 0, 0] ++ p4 0 ++ p4 42) : Req) (wFelt : State) = true) ∧
    (scheduleFields (rq ([3, 1, 0, 0] ++ p4 100 ++ [0xFF, 0xFF, 0, 0] ++ p4 0 ++ p4 42) : Req).payload) ∧
    (((feltOn (wFelt : State) (g1 (rq ([3, 1, 0, 0] ++ p4 100 ++ [0xFF, 0xFF, 0, 0] ++ p4 0 ++ p4 42) : Req).payload 0) = false ∧ g1 (rq ([3, 1, 0, 0] ++ p4 100 ++ [0xFF, 0xFF, 0, 0] ++ p4 0 ++ p4 42) : Req).payload 0 ≠ 0) ∨ (g1 (rq ([3, 1, 0, 0] ++ p4 100 ++ [0xFF, 0xFF, 0, 0] ++ p4 0 ++ p4 42) : Req).payload 1 ≠ 1 ∧ (128 ≤ g2 (rq ([3, 1, 0, 0] ++ p4 100 ++ [0xFF, 0xFF, 0, 0] ++ p4 0 ++ p4 42) : Req).payload 8 ∨ stn (wFelt : State) (g2 (rq ([3, 1, 0, 0] ++ p4 100 ++ [0xFF, 0xFF, 0, 0] ++ p4 0 ++ p4 42) : Req).payload 8) = [])))) := by decide +kernel

theorem meets_FeltAndWheelCommandsAct_15 :
    (asks 0x0403 (rq ([0, 3, 0, 0] ++ p4 100 ++ [4, 0, 0, 0] ++ p4 2 ++ p4 42) : Req) ({ wFelt with cfg := wFio.cfg } : State) = true) ∧
    (scheduleFields (rq ([0, 3, 0, 0] ++ p4 100 ++ [4, 0, 0, 0] ++ p4 2 ++ p4 42) : Req).payload) ∧
    ((feltOn ({ wFelt with cfg := wFio.cfg } : State) (g1 (rq ([0, 3, 0, 0] ++ p4 100 ++ [4, 0, 0, 0] ++ p4 2 ++ p4 42) : Req).payload 0) = true ∨ g1 (rq ([0, 3, 0, 0] ++ p4 100 ++ [4, 0, 0, 0] ++ p4 2 ++ p4 42) : Req).payload 0 = 0)) ∧
    (g1 (rq ([0, 3, 0, 0] ++ p4 100 ++ [4, 0, 0, 0] ++ p4 2 ++ p4 42) : Req).payload 1 ≠ 1) ∧
    (g2 (rq ([0, 3, 0, 0] ++ p4 100 ++ [4, 0, 0, 0] ++ p4 2 ++ p4 42) : Req).payload 8 < 128) ∧
    (stn ({ wFelt with cfg := wFio.cfg } : State) (g2 (rq ([0, 3, 0, 0] ++ p4 100 ++ [4, 0, 0, 0] ++ p4 2 ++ p4 42) : Req).payload 8) ≠ []) ∧
    ((kindMatches ({ wFelt with cfg := wFio.cfg } : State) (g1 (rq ([0, 3, 0, 0] ++ p4 100 ++ [4, 0, 0, 0] ++ p4 2 ++ p4 42) : Req).payload 1) (g2 (rq ([0, 3, 0, 0] ++ p4 100 ++ [4, 0, 0, 0] ++ p4 2 ++ p4 42) : Req).payload 8) = false ∨ entryValueOk ({ wFelt with cfg := wFio.cfg } : State) (g1 (rq ([0, 3, 0, 0] ++ p4 100 ++ [4, 0, 0, 0] ++ p4 2 ++ p4 42) : Req).payload 1) (g2 (rq ([0, 3, 0, 0] ++ p4 100 ++ [4, 0, 0, 0] ++ p4 2 ++ p4 42) : Req).payload 8) (i4 (rq ([0, 3, 0, 0] ++ p4 100 ++ [4, 0, 0, 0] ++ p4 2 ++ p4 42) : Req).payload 12) = false)) := by decide +kernel

theorem meets_FeltAndWheelCommandsAct_16 :
    (asks 0x0403 (rq ([0, 3, 0, 0] ++ p4 100 ++ [5, 0, 0, 0] ++ p4 1 ++ p4 42) : Req) ({ wFio with zones := [(2, { st := 2 })] } : State) = true) ∧
    (scheduleFields (rq ([0, 3, 0, 0] ++ p4 100 ++ [5, 0, 0, 0] ++ p4 1 ++ p4 42) : Req).payload) ∧
    ((feltOn ({ wFio with zones := [(2, { st := 2 })] } : State) (g1 (rq ([0, 3, 0, 0] ++ p4 100 ++ [5, 0, 0, 0] ++ p4 1 ++ p4 42) : Req).payload 0) = true ∨ g1 (rq ([0, 3, 0, 0] ++ p4 100 ++ [5, 0, 0, 0] ++ p4 1 ++ p4 42) : Req).payload 0 = 0)) ∧
    (3 ≤ g1 (rq ([0, 3, 0, 0] ++ p4 100 ++ [5, 0, 0, 0] ++ p4 1 ++ p4 42) : Req).payload 1) ∧
    (g2 (rq ([0, 3, 0, 0] ++ p4 100 ++ [5, 0, 0, 0] ++ p4 1 ++ p4 42) : Req).payload 8 < 128) ∧
    (stn ({ wFio with zones := [(2, { st := 2 })] } : State) (g2 (rq ([0, 3, 0, 0] ++ p4 100 ++ [5, 0, 0, 0] ++ p4 1 ++ p4 42) : Req).payload 8) ≠ []) ∧
    (kindMatches ({ wFio with zones := [(2, { st := 2 })] } : State) (g1 (rq ([0, 3, 0, 0] ++ p4 100 ++ [5, 0, 0, 0] ++ p4 1 ++ p4 42) : Req).payload 1) (g2 (rq ([0, 3, 0, 0] ++ p4 100 ++ [5, 0, 0, 0] ++ p4 1 ++ p4 42) : Req).payload 8) = true) ∧
    (entryValueOk ({ wFio with zones := [(2, { st := 2 })] } : State) (g1 (rq ([0, 3, 0, 0] ++ p4 100 ++ [5, 0, 0, 0] ++ p4 1 ++ p4 42) : Req).payload 1) (g2 (rq ([0, 3, 0, 0] ++ p4 100 ++ [5, 0, 0, 0] ++ p4 1 ++ p4 42) : Req).payload 8) (i4 (rq ([0, 3, 0, 0] ++ p4 100 ++ [5, 0, 0, 0] ++ p4 1 ++ p4 42) : Req).payload 12) = true) ∧
    (inRunningZone ({ wFio with zones := [(2, { st := 2 })] } : State) (g2 (rq ([0, 3, 0, 0] ++ p4 100 ++ [5, 0, 0, 0] ++ p4 1 ++ p4 42) : Req).payload 8) = true) ∧
    (((rq ([0, 3, 0, 0] ++ p4 100 ++ [5, 0, 0, 0] ++ p4 1 ++ p4 42) : Req).side ≠ .app ∨ zoneProg ({ wFio with zones := [(2, { st := 2 })] } : State) (stnZone ({ wFio with zones := [(2, { st := 2 })] } : State) (g2 (rq ([0, 3, 0, 0] ++ p4 100 ++ [5, 0, 0, 0] ++ p4 1 ++ p4 42) : Req).payload 8)) ≠ 1)) := by decide +kernel

theorem meets_FeltAndWheelCommandsAct_17 :
    (asks 0x0404 (rq (p4 5) : Req) (onFelt (fun x => { x with entries := [{ handle := 5, felt := 2, pos := 100 }] }) wFelt : State) = true) ∧
    ((onFelt (fun x => { x with entries := [{ handle := 5, felt := 2, pos := 100 }] }) wFelt : State).felt.entries.any (fun e => e.handle == g4 (rq (p4 5) : Req).payload 0 && e.owner == .side (rq (p4 5) : Req).side) = true) := by decide +kernel

theorem meets_FeltAndWheelCommandsAct_18 :
    (asks 0x0404 (rq (p4 5) : Req) (onFelt (fun x => { x with entries := [{ handle := 5, owner := .side .app, felt := 2, pos := 100 }] }) wFelt : State) = true) ∧
    ((∀ e ∈ (onFelt (fun x => { x with entries := [{ handle := 5, owner := .side .app, felt := 2, pos := 100 }] }) wFelt : State).felt.entries, e.handle ≠ g4 (rq (p4 5) : Req).payload 0 ∨ e.owner ≠ .side (rq (p4 5) : Req).side)) := by decide +kernel

theorem meets_FeltAndWheelCommandsAct_19 :
    (asks 0x0405 (rq [2, 0, 0, 0] : Req) (wFelt : State) = true) ∧
    ((2 : Nat) = g1 (rq [2, 0, 0, 0] : Req).payload 0) ∧
    ((2 : Nat) ≤ 7) ∧
    (zeroAt (rq [2, 0, 0, 0] : Req).payload 1 3 = true) ∧
    (([] : List Entry) = entriesOn (wFelt : State) (2 : Nat)) := by decide +kernel

theorem meets_FeltAndWheelCommandsAct_20 :
    (asks 0x0405 (rq [8, 0, 0, 0] : Req) (wFelt : State) = true) ∧
    ((7 < g1 (rq [8, 0, 0, 0] : Req).payload 0 ∨ zeroAt (rq [8, 0, 0, 0] : Req).payload 1 3 = false)) := by decide +kernel

theorem meets_FeltAndWheelCommandsAct_21 :
    (asks 0x0408 (rq [] : Req) (wFelt : State) = true) := by decide +kernel

theorem meets_FeltAndWheelCommandsAct_22 :
    (0 < (3 : Nat)) := by decide +kernel

theorem meets_FeltAndWheelCommandsAct_23 :
    ((felt (modFelt 1 (fun x => { x with locked := true, advanced := 10 }) wFelt : State) 1).locked = true) ∧
    ((3 : Nat) = min (3 : Nat) (255 - (felt (modFelt 1 (fun x => { x with locked := true, advanced := 10 }) wFelt : State) 1).advanced.toNat)) ∧
    (0 < (3 : Nat)) := by decide +kernel

theorem meets_FeltAndWheelCommandsAct_24 :
    (2 ≤ (6 : Nat)) ∧
    (feltOn (modFelt 6 (fun x => { x with slew := 5, advanced := 2 }) wFelt : State) (6 : Nat) = true) ∧
    (feltSource (modFelt 6 (fun x => { x with slew := 5, advanced := 2 }) wFelt : State) (6 : Nat) = 4) ∧
    ((felt (modFelt 6 (fun x => { x with slew := 5, advanced := 2 }) wFelt : State) (6 : Nat)).state.getLsbD 6 = false) ∧
    (0 ≤ (felt (modFelt 6 (fun x => { x with slew := 5, advanced := 2 }) wFelt : State) (6 : Nat)).slew) ∧
    (0 ≤ (felt (modFelt 6 (fun x => { x with slew := 5, advanced := 2 }) wFelt : State) (6 : Nat)).advanced) ∧
    ((3 : Nat) = min (9 : Nat) ((felt (modFelt 6 (fun x => { x with slew := 5, advanced := 2 }) wFelt : State) (6 : Nat)).slew.toNat - (felt (modFelt 6 (fun x => { x with slew := 5, advanced := 2 }) wFelt : State) (6 : Nat)).advanced.toNat)) ∧
    (0 < (3 : Nat)) := by decide +kernel

theorem meets_FeltAndWheelCommandsAct_25 :
    (((7 : Nat) = 0 ∨ ((2 : Nat) = 1 ∧ (felt (wFelt : State) 1).locked = false) ∨ (2 ≤ (2 : Nat) ∧ (feltOn (wFelt : State) (2 : Nat) = false ∨ feltSource (wFelt : State) (2 : Nat) ≠ 4 ∨ (felt (wFelt : State) (2 : Nat)).state.getLsbD 6 = true)))) := by decide +kernel

theorem meets_ParcelsAndStationsAct_1 :
    ((1 : Nat) < 16) ∧
    (cutsOwn (wParcel : State) (1 : Nat) = true) ∧
    (zoneRunning (wParcel : State) (1 : Nat) = true) ∧
    (¬ (zoneType (wParcel : State) (1 : Nat) = 4 ∧ (zone (wParcel : State) (1 : Nat)).st = 3)) ∧
    ((parcels (wParcel : State) (1 : Nat)).find? isOpen = some ({ id := 7, flags := 1, zone := 1, start := 0 } : Parcel)) ∧
    (({ id := 7, flags := 1, zone := 1, start := 0 } : Parcel).flags.getLsbD 8 = false) ∧
    (forwardFelt (wParcel : State) (1 : Nat) = true) ∧
    (posDist (zonePos (wParcel : State) (1 : Nat)) (w32 (({ id := 7, flags := 1, zone := 1, start := 0 } : Parcel).start + zoneParcelLen (wParcel : State) (1 : Nat))) ≤ 0) := by decide +kernel

theorem meets_ParcelsAndStationsAct_2 :
    ((1 : Nat) < 16) ∧
    (cutsOwn (onFelt (fun x => { x with parcels := tset x.parcels 1 [{ id := 7, flags := 0x101, zone := 1, start := 0 }] }) wParcel : State) (1 : Nat) = true) ∧
    (zoneRunning (onFelt (fun x => { x with parcels := tset x.parcels 1 [{ id := 7, flags := 0x101, zone := 1, start := 0 }] }) wParcel : State) (1 : Nat) = true) ∧
    (¬ (zoneType (onFelt (fun x => { x with parcels := tset x.parcels 1 [{ id := 7, flags := 0x101, zone := 1, start := 0 }] }) wParcel : State) (1 : Nat) = 4 ∧ (zone (onFelt (fun x => { x with parcels := tset x.parcels 1 [{ id := 7, flags := 0x101, zone := 1, start := 0 }] }) wParcel : State) (1 : Nat)).st = 3)) ∧
    ((∀ p ∈ (parcels (onFelt (fun x => { x with parcels := tset x.parcels 1 [{ id := 7, flags := 0x101, zone := 1, start := 0 }] }) wParcel : State) (1 : Nat)).find? isOpen, p.flags.getLsbD 8 = true)) := by decide +kernel

theorem meets_ParcelsAndStationsAct_3 :
    ((16 ≤ (1 : Nat) ∨ cutsOwn (wAdopt : State) (1 : Nat) = false ∨ zoneRunning (wAdopt : State) (1 : Nat) = false ∨ (zoneType (wAdopt : State) (1 : Nat) = 4 ∧ (zone (wAdopt : State) (1 : Nat)).st = 3))) := by decide +kernel

theorem meets_ParcelsAndStationsAct_4 :
    ((parcels (modFelt 2 (fun f => { f with pos := 900 }) wParcel : State) (1 : Nat)).find? isOpen = some ({ id := 7, flags := 1, zone := 1, start := 0 } : Parcel)) ∧
    (({ id := 7, flags := 1, zone := 1, start := 0 } : Parcel).flags.getLsbD 8 = false) ∧
    ((forwardFelt (modFelt 2 (fun f => { f with pos := 900 }) wParcel : State) (1 : Nat) = false ∨ 0 < posDist (zonePos (modFelt 2 (fun f => { f with pos := 900 }) wParcel : State) (1 : Nat)) (w32 (({ id := 7, flags := 1, zone := 1, start := 0 } : Parcel).start + zoneParcelLen (modFelt 2 (fun f => { f with pos := 900 }) wParcel : State) (1 : Nat))))) := by decide +kernel

theorem meets_ParcelsAndStationsAct_5 :
    ((1 : Nat) < 16) ∧
    (forwardFelt (wParcel : State) (1 : Nat) = true) := by decide +kernel

theorem meets_ParcelsAndStationsAct_6 :
    ((16 ≤ (16 : Nat) ∨ forwardFelt (wParcel : State) (16 : Nat) = false)) := by decide +kernel

theorem meets_ParcelsAndStationsAct_7 :
    ((2 : Nat) ≤ 3) ∧
    (busUp (wParcel : State) (2 : Nat) = true) ∧
    ((ch (wParcel : State) (2 : Nat)).st ≠ 0) ∧
    (handoffOn (wParcel : State) (2 : Nat) = true) := by decide +kernel

theorem meets_ParcelsAndStationsAct_8 :
    ((3 < (4 : Nat) ∨ busUp (wParcel : State) (4 : Nat) = false ∨ (ch (wParcel : State) (4 : Nat)).st = 0 ∨ handoffOn (wParcel : State) (4 : Nat) = false)) := by decide +kernel

theorem meets_ParcelsAndStationsAct_9 :
    ((∃ c ∈ List.range 4, ∃ f ∈ (ch (modCh 2 (fun k => { k with pending := [{ what := 4, parcel := 7, slot := 1 }] }) wParcel : State) c).pending ++ (ch (modCh 2 (fun k => { k with pending := [{ what := 4, parcel := 7, slot := 1 }] }) wParcel : State) c).overflow, f.what = 4 ∧ f.parcel = (7 : Nat) ∧ f.slot = (1 : Nat) ∧ f.moved = false)) := by decide +kernel

theorem meets_ParcelsAndStationsAct_10 :
    ((∀ c ∈ List.range 4, ∀ f ∈ (ch (wParcel : State) c).pending ++ (ch (wParcel : State) c).overflow, f.what ≠ 4 ∨ f.parcel ≠ (7 : Nat) ∨ f.slot ≠ (1 : Nat) ∨ f.moved = true)) := by decide +kernel

theorem meets_ParcelsAndStationsAct_11 :
    ((1 : Nat) < 16) ∧
    (zoneParcelLen (wAdopt : State) (1 : Nat) ≠ 0) ∧
    (upstreamDev (wAdopt : State) (1 : Nat) ≠ 0xFF) ∧
    (zoneRunning (wAdopt : State) (1 : Nat) = true) ∧
    (forwardFelt (wAdopt : State) (1 : Nat) = true) ∧
    ((parcels (wAdopt : State) (1 : Nat)).find? isOpen = some ({ id := 7, flags := 1, zone := 1, start := 0 } : Parcel)) ∧
    (posDist (zonePos (wAdopt : State) (1 : Nat)) (w32 (({ id := 7, flags := 1, zone := 1, start := 0 } : Parcel).start + zoneParcelLen (wAdopt : State) (1 : Nat))) ≤ 0) := by decide +kernel

theorem meets_ParcelsAndStationsAct_12 :
    ((1 : Nat) < 16) ∧
    (zoneParcelLen (onFelt (fun x => { x with parcels := [] }) wAdopt : State) (1 : Nat) ≠ 0) ∧
    (upstreamDev (onFelt (fun x => { x with parcels := [] }) wAdopt : State) (1 : Nat) ≠ 0xFF) ∧
    (zoneRunning (onFelt (fun x => { x with parcels := [] }) wAdopt : State) (1 : Nat) = true) ∧
    (forwardFelt (onFelt (fun x => { x with parcels := [] }) wAdopt : State) (1 : Nat) = true) ∧
    ((parcels (onFelt (fun x => { x with parcels := [] }) wAdopt : State) (1 : Nat)).find? isOpen = none) := by decide +kernel

theorem meets_ParcelsAndStationsAct_13 :
    ((16 ≤ (1 : Nat) ∨ zoneParcelLen (wParcel : State) (1 : Nat) = 0 ∨ upstreamDev (wParcel : State) (1 : Nat) = 0xFF ∨ zoneRunning (wParcel : State) (1 : Nat) = false ∨ forwardFelt (wParcel : State) (1 : Nat) = false ∨ (∃ p ∈ (parcels (wParcel : State) (1 : Nat)).find? isOpen, 0 < posDist (zonePos (wParcel : State) (1 : Nat)) (w32 (p.start + zoneParcelLen (wParcel : State) (1 : Nat)))))) := by decide +kernel

theorem meets_ParcelsAndStationsAct_14 :
    (asks 0x0406 (rq ([1, 0, 1, 0] ++ p4 7) : Req) (wParcel : State) = true) ∧
    (g1 (rq ([1, 0, 1, 0] ++ p4 7) : Req).payload 0 ≤ 15) ∧
    (g1 (rq ([1, 0, 1, 0] ++ p4 7) : Req).payload 1 = 0) ∧
    (1 ≤ g2 (rq ([1, 0, 1, 0] ++ p4 7) : Req).payload 2) ∧
    (g2 (rq ([1, 0, 1, 0] ++ p4 7) : Req).payload 2 ≤ 4096) ∧
    (zonePresent (wParcel : State) (g1 (rq ([1, 0, 1, 0] ++ p4 7) : Req).payload 0) = true) ∧
    (([{ id := 7, flags := 1, zone := 1, start := 0 }] : List Parcel) = ((parcels (wParcel : State) (g1 (rq ([1, 0, 1, 0] ++ p4 7) : Req).payload 0)).dropWhile (fun p => p.id != g4 (rq ([1, 0, 1, 0] ++ p4 7) : Req).payload 4)).take (g2 (rq ([1, 0, 1, 0] ++ p4 7) : Req).payload 2)) ∧
    (([{ id := 7, flags := 1, zone := 1, start := 0 }] : List Parcel) ≠ []) := by decide +kernel

theorem meets_ParcelsAndStationsAct_15 :
    (asks 0x0406 (rq ([1, 1, 1, 0] ++ p4 0) : Req) (wParcel : State) = true) ∧
    (g1 (rq ([1, 1, 1, 0] ++ p4 0) : Req).payload 0 ≤ 15) ∧
    (g1 (rq ([1, 1, 1, 0] ++ p4 0) : Req).payload 1 = 1) ∧
    (1 ≤ g2 (rq ([1, 1, 1, 0] ++ p4 0) : Req).payload 2) ∧
    (g2 (rq ([1, 1, 1, 0] ++ p4 0) : Req).payload 2 ≤ 4096) ∧
    (zonePresent (wParcel : State) (g1 (rq ([1, 1, 1, 0] ++ p4 0) : Req).payload 0) = true) ∧
    (([{ id := 7, flags := 1, zone := 1, start := 0 }] : List Parcel) = ((parcels (wParcel : State) (g1 (rq ([1, 1, 1, 0] ++ p4 0) : Req).payload 0)).drop (g4 (rq ([1, 1, 1, 0] ++ p4 0) : Req).payload 4)).take (g2 (rq ([1, 1, 1, 0] ++ p4 0) : Req).payload 2)) ∧
    (([{ id := 7, flags := 1, zone := 1, start := 0 }] : List Parcel) ≠ []) := by decide +kernel

theorem meets_ParcelsAndStationsAct_16 :
    (asks 0x0406 (rq ([1, 2, 1, 0] ++ p4 7) : Req) (wParcel : State) = true) ∧
    ((15 < g1 (rq ([1, 2, 1, 0] ++ p4 7) : Req).payload 0 ∨ 1 < g1 (rq ([1, 2, 1, 0] ++ p4 7) : Req).payload 1 ∨ g2 (rq ([1, 2, 1, 0] ++ p4 7) : Req).payload 2 = 0 ∨ 4096 < g2 (rq ([1, 2, 1, 0] ++ p4 7) : Req).payload 2)) := by decide +kernel

theorem meets_ParcelsAndStationsAct_17 :
    (asks 0x0406 (rq ([1, 0, 1, 0] ++ p4 8) : Req) (wParcel : State) = true) ∧
    (g1 (rq ([1, 0, 1, 0] ++ p4 8) : Req).payload 0 ≤ 15) ∧
    (g1 (rq ([1, 0, 1, 0] ++ p4 8) : Req).payload 1 ≤ 1) ∧
    (1 ≤ g2 (rq ([1, 0, 1, 0] ++ p4 8) : Req).payload 2) ∧
    (g2 (rq ([1, 0, 1, 0] ++ p4 8) : Req).payload 2 ≤ 4096) ∧
    ((zonePresent (wParcel : State) (g1 (rq ([1, 0, 1, 0] ++ p4 8) : Req).payload 0) = false ∨ (g1 (rq ([1, 0, 1, 0] ++ p4 8) : Req).payload 1 = 0 ∧ (∀ p ∈ parcels (wParcel : State) (g1 (rq ([1, 0, 1, 0] ++ p4 8) : Req).payload 0), p.id ≠ g4 (rq ([1, 0, 1, 0] ++ p4 8) : Req).payload 4)) ∨ (g1 (rq ([1, 0, 1, 0] ++ p4 8) : Req).payload 1 = 1 ∧ (parcels (wParcel : State) (g1 (rq ([1, 0, 1, 0] ++ p4 8) : Req).payload 0)).length ≤ g4 (rq ([1, 0, 1, 0] ++ p4 8) : Req).payload 4))) := by decide +kernel

theorem meets_ParcelsAndStationsAct_18 :
    (asks 0x0407 (rq ([16] ++ zeros 7 ++ p8 0 ++ p8 1000) : Req) (wParcel : State) = true) ∧
    ((15 < g1 (rq ([16] ++ zeros 7 ++ p8 0 ++ p8 1000) : Req).payload 0 ∨ zeroAt (rq ([16] ++ zeros 7 ++ p8 0 ++ p8 1000) : Req).payload 1 7 = false)) := by decide +kernel

theorem meets_ParcelsAndStationsAct_19 :
    (asks 0x0407 (rq ([2] ++ zeros 7 ++ p8 0 ++ p8 1000) : Req) (wParcel : State) = true) ∧
    (g1 (rq ([2] ++ zeros 7 ++ p8 0 ++ p8 1000) : Req).payload 0 ≤ 15) ∧
    (zeroAt (rq ([2] ++ zeros 7 ++ p8 0 ++ p8 1000) : Req).payload 1 7 = true) ∧
    (zonePresent (wParcel : State) (g1 (rq ([2] ++ zeros 7 ++ p8 0 ++ p8 1000) : Req).payload 0) = false) := by decide +kernel

theorem meets_ParcelsAndStationsAct_20 :
    (asks 0x0407 (rq ([1] ++ zeros 7 ++ p8 0 ++ p8 1000) : Req) (wParcel : State) = true) ∧
    (g1 (rq ([1] ++ zeros 7 ++ p8 0 ++ p8 1000) : Req).payload 0 ≤ 15) ∧
    (zeroAt (rq ([1] ++ zeros 7 ++ p8 0 ++ p8 1000) : Req).payload 1 7 = true) ∧
    (zonePresent (wParcel : State) (g1 (rq ([1] ++ zeros 7 ++ p8 0 ++ p8 1000) : Req).payload 0) = true) := by decide +kernel

theorem meets_ParcelsAndStationsAct_21 :
    ((waitingJobs (addJob { org := { side := .spi, sluice := 1, tag := 7, code := 0x0407, bg := true }, a := 1, data := zeros 16 ++ p8 9 } wParcel : State) 0x0407).find? (fun x => x.org.side == (.spi : Side) && x.org.sluice == (1 : Nat) && x.org.tag == (7 : Nat)) = some ({ org := { side := .spi, sluice := 1, tag := 7, code := 0x0407, bg := true }, a := 1, data := zeros 16 ++ p8 9 } : Job)) ∧
    (([] : List Parcel) = ((addJob { org := { side := .spi, sluice := 1, tag := 7, code := 0x0407, bg := true }, a := 1, data := zeros 16 ++ p8 9 } wParcel : State).felt.history.filter (fun p => p.zone == ({ org := { side := .spi, sluice := 1, tag := 7, code := 0x0407, bg := true }, a := 1, data := zeros 16 ++ p8 9 } : Job).a && decide (i8 ({ org := { side := .spi, sluice := 1, tag := 7, code := 0x0407, bg := true }, a := 1, data := zeros 16 ++ p8 9 } : Job).data 8 ≤ p.enteredAt) && decide (p.enteredAt ≤ i8 ({ org := { side := .spi, sluice := 1, tag := 7, code := 0x0407, bg := true }, a := 1, data := zeros 16 ++ p8 9 } : Job).data 16))).take 16383) := by decide +kernel

theorem meets_ParcelsAndStationsAct_22 :
    ((∀ x ∈ waitingJobs (wParcel : State) 0x0407, x.org.side ≠ (.spi : Side) ∨ x.org.sluice ≠ (1 : Nat) ∨ x.org.tag ≠ (7 : Nat))) := by decide +kernel

theorem meets_ParcelsAndStationsAct_23 :
    (asks 0x0201 (rq (p2 127 ++ p2 2) : Req) (wFio : State) = true) ∧
    ((g2 (rq (p2 127 ++ p2 2) : Req).payload 2 = 0 ∨ 128 < g2 (rq (p2 127 ++ p2 2) : Req).payload 0 + g2 (rq (p2 127 ++ p2 2) : Req).payload 2)) := by decide +kernel

theorem meets_ParcelsAndStationsAct_24 :
    (asks 0x0201 (rq (p2 1 ++ p2 3) : Req) (wFio : State) = true) ∧
    (1 ≤ g2 (rq (p2 1 ++ p2 3) : Req).payload 2) ∧
    (g2 (rq (p2 1 ++ p2 3) : Req).payload 0 + g2 (rq (p2 1 ++ p2 3) : Req).payload 2 ≤ 128) ∧
    (([1, 2, 3] : List Nat) = (List.range (g2 (rq (p2 1 ++ p2 3) : Req).payload 2)).map (· + g2 (rq (p2 1 ++ p2 3) : Req).payload 0)) := by decide +kernel

theorem meets_WeirConversionsAct_1 :
    ((20 : Nat) < 128) ∧
    (converting (wWeir : State) (20 : Nat) = true) := by decide +kernel

theorem meets_WeirConversionsAct_2 :
    ((128 ≤ (20 : Nat) ∨ converting (wMode .ice wWeir : State) (20 : Nat) = false)) := by decide +kernel

theorem meets_WeirConversionsAct_3 :
    ((20 : Nat) < 128) ∧
    (converting (onSys (fun y => { y with devTime := 900000 }) (modWst 20 (fun x => { x with count := 5 }) wWeir) : State) (20 : Nat) = true) ∧
    (stnType (onSys (fun y => { y with devTime := 900000 }) (modWst 20 (fun x => { x with count := 5 }) wWeir) : State) (20 : Nat) = 3) ∧
    (hasCells (onSys (fun y => { y with devTime := 900000 }) (modWst 20 (fun x => { x with count := 5 }) wWeir) : State) (20 : Nat) = true) ∧
    (g1 (stnPart (onSys (fun y => { y with devTime := 900000 }) (modWst 20 (fun x => { x with count := 5 }) wWeir) : State) (20 : Nat)) 4 = g1 (stnPart (onSys (fun y => { y with devTime := 900000 }) (modWst 20 (fun x => { x with count := 5 }) wWeir) : State) (20 : Nat)) 5) ∧
    (wLin (stnPart (onSys (fun y => { y with devTime := 900000 }) (modWst 20 (fun x => { x with count := 5 }) wWeir) : State) (20 : Nat)) = 0) ∧
    (wComp (stnPart (onSys (fun y => { y with devTime := 900000 }) (modWst 20 (fun x => { x with count := 5 }) wWeir) : State) (20 : Nat)) = 0xFFFF) ∧
    (g4 (stnPart (onSys (fun y => { y with devTime := 900000 }) (modWst 20 (fun x => { x with count := 5 }) wWeir) : State) (20 : Nat)) 28 = 0) ∧
    ((wst (onSys (fun y => { y with devTime := 900000 }) (modWst 20 (fun x => { x with count := 5 }) wWeir) : State) (20 : Nat)).mark = 0) ∧
    ((wst (onSys (fun y => { y with devTime := 900000 }) (modWst 20 (fun x => { x with count := 5 }) wWeir) : State) (20 : Nat)).pinned = false) ∧
    ((wst (onSys (fun y => { y with devTime := 900000 }) (modWst 20 (fun x => { x with count := 5 }) wWeir) : State) (20 : Nat)).afterChange = false) ∧
    ((wst (onSys (fun y => { y with devTime := 900000 }) (modWst 20 (fun x => { x with count := 5 }) wWeir) : State) (20 : Nat)).substituted = false) ∧
    (({ raw := 1 / 4, early := 0, cycles := [], saturated := false, clean := true } : Conv).saturated = false) ∧
    (({ raw := 1 / 4, early := 0, cycles := [], saturated := false, clean := true } : Conv).clean = true) ∧
    (settleCount (stnPart (onSys (fun y => { y with devTime := 900000 }) (modWst 20 (fun x => { x with count := 5 }) wWeir) : State) (20 : Nat)) ≤ (wst (onSys (fun y => { y with devTime := 900000 }) (modWst 20 (fun x => { x with count := 5 }) wWeir) : State) (20 : Nat)).count + 1) ∧
    (filtered (stnPart (onSys (fun y => { y with devTime := 900000 }) (modWst 20 (fun x => { x with count := 5 }) wWeir) : State) (20 : Nat)) (wst (onSys (fun y => { y with devTime := 900000 }) (modWst 20 (fun x => { x with count := 5 }) wWeir) : State) (20 : Nat)) ({ raw := 1 / 4, early := 0, cycles := [], saturated := false, clean := true } : Conv) = ((1/4 : Rat), ([0] : List Rat))) ∧
    ((250000 : Int) = roundRat ((1/4 : Rat) * 1000000)) ∧
    (-2147483647 ≤ (250000 : Int)) ∧
    ((250000 : Int) ≤ 2147483647) ∧
    ((round40 ((900000 - windowNs (stnPart wWeir 20) + 900000) / 2) : Nat) = round40 (((onSys (fun y => { y with devTime := 900000 }) (modWst 20 (fun x => { x with count := 5 }) wWeir) : State).sys.devTime - windowNs (stnPart (onSys (fun y => { y with devTime := 900000 }) (modWst 20 (fun x => { x with count := 5 }) wWeir) : State) (20 : Nat)) + (onSys (fun y => { y with devTime := 900000 }) (modWst 20 (fun x => { x with count := 5 }) wWeir) : State).sys.devTime) / 2)) := by decide +kernel

theorem meets_WeirConversionsAct_4 :
    ((20 : Nat) < 128) ∧
    (converting (onAbsorb (fun a => { a with cellFailed := [(0, 0), (0, 8)] }) wWeir : State) (20 : Nat) = true) ∧
    (hasCells (onAbsorb (fun a => { a with cellFailed := [(0, 0), (0, 8)] }) wWeir : State) (20 : Nat) = false) ∧
    (stnType (onAbsorb (fun a => { a with cellFailed := [(0, 0), (0, 8)] }) wWeir : State) (20 : Nat) = 3) ∧
    (wComp (stnPart (onAbsorb (fun a => { a with cellFailed := [(0, 0), (0, 8)] }) wWeir : State) (20 : Nat)) = 0xFFFF) ∧
    ((wst (onAbsorb (fun a => { a with cellFailed := [(0, 0), (0, 8)] }) wWeir : State) (20 : Nat)).pinned = false) ∧
    ((wst (onAbsorb (fun a => { a with cellFailed := [(0, 0), (0, 8)] }) wWeir : State) (20 : Nat)).afterChange = false) ∧
    ((wst (onAbsorb (fun a => { a with cellFailed := [(0, 0), (0, 8)] }) wWeir : State) (20 : Nat)).substituted = false) ∧
    (({ raw := 1 / 4, early := 0, cycles := [], saturated := false, clean := true } : Conv).clean = true) ∧
    (filtered (stnPart (onAbsorb (fun a => { a with cellFailed := [(0, 0), (0, 8)] }) wWeir : State) (20 : Nat)) (wst (onAbsorb (fun a => { a with cellFailed := [(0, 0), (0, 8)] }) wWeir : State) (20 : Nat)) ({ raw := 1 / 4, early := 0, cycles := [], saturated := false, clean := true } : Conv) = ((1/4 : Rat), ([0] : List Rat))) ∧
    ((round40 ((0 - windowNs (stnPart wWeir 20) + 0) / 2) : Nat) = round40 (((onAbsorb (fun a => { a with cellFailed := [(0, 0), (0, 8)] }) wWeir : State).sys.devTime - windowNs (stnPart (onAbsorb (fun a => { a with cellFailed := [(0, 0), (0, 8)] }) wWeir : State) (20 : Nat)) + (onAbsorb (fun a => { a with cellFailed := [(0, 0), (0, 8)] }) wWeir : State).sys.devTime) / 2)) := by decide +kernel

theorem meets_WeirConversionsAct_5 :
    ((20 : Nat) < 128) ∧
    (converting (modWst 20 (fun x => { x with pendingMark := 1, pendingAt := 7, lands := 2, landsHit := 2 }) wWeir : State) (20 : Nat) = true) ∧
    (hasCells (modWst 20 (fun x => { x with pendingMark := 1, pendingAt := 7, lands := 2, landsHit := 2 }) wWeir : State) (20 : Nat) = true) ∧
    (stnType (modWst 20 (fun x => { x with pendingMark := 1, pendingAt := 7, lands := 2, landsHit := 2 }) wWeir : State) (20 : Nat) = 3) ∧
    (wComp (stnPart (modWst 20 (fun x => { x with pendingMark := 1, pendingAt := 7, lands := 2, landsHit := 2 }) wWeir : State) (20 : Nat)) = 0xFFFF) ∧
    ((wst (modWst 20 (fun x => { x with pendingMark := 1, pendingAt := 7, lands := 2, landsHit := 2 }) wWeir : State) (20 : Nat)).pinned = false) ∧
    ((wst (modWst 20 (fun x => { x with pendingMark := 1, pendingAt := 7, lands := 2, landsHit := 2 }) wWeir : State) (20 : Nat)).afterChange = false) ∧
    ((wst (modWst 20 (fun x => { x with pendingMark := 1, pendingAt := 7, lands := 2, landsHit := 2 }) wWeir : State) (20 : Nat)).substituted = false) ∧
    (({ raw := 1 / 4, early := 0, cycles := [], saturated := false, clean := false } : Conv).clean = false) ∧
    ((wst (modWst 20 (fun x => { x with pendingMark := 1, pendingAt := 7, lands := 2, landsHit := 2 }) wWeir : State) (20 : Nat)).mark = 0) ∧
    ((wst (modWst 20 (fun x => { x with pendingMark := 1, pendingAt := 7, lands := 2, landsHit := 2 }) wWeir : State) (20 : Nat)).pendingMark ≠ 0) ∧
    (filtered (stnPart (modWst 20 (fun x => { x with pendingMark := 1, pendingAt := 7, lands := 2, landsHit := 2 }) wWeir : State) (20 : Nat)) (wst (modWst 20 (fun x => { x with pendingMark := 1, pendingAt := 7, lands := 2, landsHit := 2 }) wWeir : State) (20 : Nat)) ({ raw := 1 / 4, early := 0, cycles := [], saturated := false, clean := false } : Conv) = ((1/4 : Rat), ([0] : List Rat))) ∧
    ((round40 ((0 - windowNs (stnPart wWeir 20) + 0) / 2) : Nat) = round40 (((modWst 20 (fun x => { x with pendingMark := 1, pendingAt := 7, lands := 2, landsHit := 2 }) wWeir : State).sys.devTime - windowNs (stnPart (modWst 20 (fun x => { x with pendingMark := 1, pendingAt := 7, lands := 2, landsHit := 2 }) wWeir : State) (20 : Nat)) + (modWst 20 (fun x => { x with pendingMark := 1, pendingAt := 7, lands := 2, landsHit := 2 }) wWeir : State).sys.devTime) / 2)) ∧
    ((note 0x0510 [20, 2, 7] (onWeir (fun w => { w with openWires := tset w.openWires 256 1 }) (modWst 20 (fun x => { x with pendingMark := 1, pendingAt := 7, lands := 2, landsHit := 2, count := 1, lastRaw := 1/4, heldOff := [0], convRange := wRange wWeir 20, convTime := round40 ((0 - windowNs (stnPart wWeir 20) + 0) / 2), mark := 1, markAt := 7 }) wWeir)) : State) = markStation (20 : Nat) (wst (modWst 20 (fun x => { x with pendingMark := 1, pendingAt := 7, lands := 2, landsHit := 2 }) wWeir : State) (20 : Nat)).pendingMark (wst (modWst 20 (fun x => { x with pendingMark := 1, pendingAt := 7, lands := 2, landsHit := 2 }) wWeir : State) (20 : Nat)).landsHit (modWst (20 : Nat) (fun x => { x with afterChange := false, count := x.count + 1, lastRaw := (1/4 : Rat), heldOff := ([0] : List Rat), s := none, x := none, t := none, convRange := wRange (modWst 20 (fun x => { x with pendingMark := 1, pendingAt := 7, lands := 2, landsHit := 2 }) wWeir : State) (20 : Nat), convTime := (round40 ((0 - windowNs (stnPart wWeir 20) + 0) / 2) : Nat), pair := none, phase := 0 }) (modWst 20 (fun x => { x with pendingMark := 1, pendingAt := 7, lands := 2, landsHit := 2 }) wWeir : State))) := by decide +kernel

theorem meets_WeirConversionsAct_6 :
    ((20 : Nat) < 128) ∧
    (weirOn (wWeir : State) = true) ∧
    (isWeir (wWeir : State) (20 : Nat) = true) ∧
    (stnType (wWeir : State) (20 : Nat) ≠ 0x10) ∧
    ((wst (wWeir : State) (20 : Nat)).pendingMark = 0) ∧
    (outside (wWeir : State) (20 : Nat) ([0, 2500, 300, 0] : List Int) ≠ []) := by decide +kernel

theorem meets_WeirConversionsAct_7 :
    ((20 : Nat) < 128) ∧
    (weirOn (modWst 20 (fun x => { x with pendingMark := 1, pendingAt := 500 }) wWeir : State) = true) ∧
    (isWeir (modWst 20 (fun x => { x with pendingMark := 1, pendingAt := 500 }) wWeir : State) (20 : Nat) = true) ∧
    (stnType (modWst 20 (fun x => { x with pendingMark := 1, pendingAt := 500 }) wWeir : State) (20 : Nat) ≠ 0x10) ∧
    ((wst (modWst 20 (fun x => { x with pendingMark := 1, pendingAt := 500 }) wWeir : State) (20 : Nat)).pendingMark ≠ 0) ∧
    ((wst (modWst 20 (fun x => { x with pendingMark := 1, pendingAt := 500 }) wWeir : State) (20 : Nat)).pendingAt = (500 : Nat)) ∧
    (outside (modWst 20 (fun x => { x with pendingMark := 1, pendingAt := 500 }) wWeir : State) (20 : Nat) ([0, 2500, 300, 0] : List Int) ≠ []) := by decide +kernel

theorem meets_WeirConversionsAct_8 :
    ((20 : Nat) < 128) ∧
    (weirOn (wWeir : State) = true) ∧
    (isWeir (wWeir : State) (20 : Nat) = true) ∧
    (stnType (wWeir : State) (20 : Nat) ≠ 0x10) ∧
    (outside (wWeir : State) (20 : Nat) ([0, 500, 300, 0] : List Int) = []) := by decide +kernel

theorem meets_WeirConversionsAct_9 :
    ((128 ≤ (1 : Nat) ∨ isWeir (wFio : State) (1 : Nat) = false ∨ weirOn (wFio : State) = false ∨ stnType (wFio : State) (1 : Nat) = 0x10)) := by decide +kernel

theorem meets_WeirConversionsAct_10 :
    ((128 ≤ (1 : Nat) ∨ isWeir (wFio : State) (1 : Nat) = false)) := by decide +kernel

theorem meets_WeirConversionsAct_11 :
    ((20 : Nat) < 128) ∧
    (isWeir (modWst 20 (fun x => { x with pinned := true }) wWeir : State) (20 : Nat) = true) := by decide +kernel

theorem meets_WeirConversionsAct_12 :
    ((21 : Nat) < 128) ∧
    (weirOn (wWeir : State) = true) ∧
    (stnType (wWeir : State) (21 : Nat) = 4) ∧
    (32000 < (33000 : Int)) := by decide +kernel

theorem meets_WeirConversionsAct_13 :
    ((128 ≤ (20 : Nat) ∨ stnType (wWeir : State) (20 : Nat) ≠ 4 ∨ (33000 : Int) ≤ 32000 ∨ weirOn (wWeir : State) = false)) := by decide +kernel

theorem meets_WeirConversionsAct_14 :
    ((21 : Nat) < 128) ∧
    (weirOn (modWst 21 (fun x => { x with shuntOpen := true }) wWeir : State) = true) ∧
    (stnType (modWst 21 (fun x => { x with shuntOpen := true }) wWeir : State) (21 : Nat) = 4) := by decide +kernel

theorem meets_WeirConversionsAct_15 :
    ((128 ≤ (20 : Nat) ∨ stnType (wWeir : State) (20 : Nat) ≠ 4 ∨ weirOn (wWeir : State) = false)) := by decide +kernel

theorem meets_WeirConversionsAct_16 :
    ((0 : Nat) ≤ 2) ∧
    (weirOn (wWeir : State) = true) ∧
    ((wWeir : State).weir.brxLimit.contains (0 : Nat) = false) ∧
    ((note 0x0516 [0, 70000] (onWeir (fun w => { w with brxLimit := [0] }) wWeir) : State) = note 0x0516 [(0 : Nat) * 8, (70000 : Int)] (onWeir (fun w => { w with brxLimit := (0 : Nat) :: w.brxLimit }) (wWeir : State))) := by decide +kernel

theorem meets_WeirConversionsAct_17 :
    ((0 : Nat) ≤ 2) ∧
    (weirOn (onWeir (fun w => { w with brxLimit := [0] }) wWeir : State) = true) := by decide +kernel

theorem meets_WeirConversionsAct_18 :
    ((3 ≤ (3 : Nat) ∨ weirOn (wWeir : State) = false ∨ ((false : Bool) = true ∧ (wWeir : State).weir.brxLimit.contains (3 : Nat) = true))) := by decide +kernel

theorem meets_WeirConversionsAct_19 :
    ((22 : Nat) < 128) ∧
    (isWeir (wWeir : State) (22 : Nat) = true) ∧
    (wComp (stnPart (wWeir : State) (22 : Nat)) ≠ 0xFFFF) ∧
    ((wst (wWeir : State) (22 : Nat)).compStale = false) := by decide +kernel

theorem meets_WeirConversionsAct_20 :
    ((wComp (stnPart (wWeir : State) (20 : Nat)) = 0xFFFF ∨ (wst (wWeir : State) (20 : Nat)).compStale = true)) := by decide +kernel

theorem meets_WeirConversionsAct_21 :
    ((wMode .still wWeir : State).sys.mode = .still) ∧
    ((20 : Nat) < 128) ∧
    (isWeir (wMode .still wWeir : State) (20 : Nat) = true) ∧
    (g1 (stnPart (wMode .still wWeir : State) (20 : Nat)) 22 = 1) ∧
    ((convert 20 { raw := 1, early := 0, cycles := [], saturated := false, clean := true } (modWst 20 (fun x => { x with count := settleCount (stnPart (wMode .still wWeir) 20) }) (wMode .still wWeir)) : State) = convert (20 : Nat) ({ raw := 1, early := 0, cycles := [], saturated := false, clean := true } : Conv) (modWst (20 : Nat) (fun x => { x with count := settleCount (stnPart (wMode .still wWeir : State) (20 : Nat)) }) (wMode .still wWeir : State))) := by decide +kernel

theorem meets_WeirConversionsAct_22 :
    (((wWeir : State).sys.mode ≠ .still ∨ 128 ≤ (20 : Nat) ∨ isWeir (wWeir : State) (20 : Nat) = false ∨ g1 (stnPart (wWeir : State) (20 : Nat)) 22 ≠ 1)) := by decide +kernel

theorem meets_WeirCommandsAct_1 :
    (asks 0x0501 (rq (p2 20 ++ zeros 2) : Req) (wWeir : State) = true) ∧
    (g2 (rq (p2 20 ++ zeros 2) : Req).payload 2 = 0) ∧
    (g2 (rq (p2 20 ++ zeros 2) : Req).payload 0 < 128) ∧
    (isWeir (wWeir : State) (g2 (rq (p2 20 ++ zeros 2) : Req).payload 0) = true) := by decide +kernel

theorem meets_WeirCommandsAct_2 :
    (asks 0x0501 (rq (p2 20 ++ [0, 1]) : Req) (wWeir : State) = true) ∧
    ((g2 (rq (p2 20 ++ [0, 1]) : Req).payload 2 ≠ 0 ∨ (stn (wWeir : State) (g2 (rq (p2 20 ++ [0, 1]) : Req).payload 0) ≠ [] ∧ g2 (rq (p2 20 ++ [0, 1]) : Req).payload 0 < 128 ∧ isWeir (wWeir : State) (g2 (rq (p2 20 ++ [0, 1]) : Req).payload 0) = false))) := by decide +kernel

theorem meets_WeirCommandsAct_3 :
    (asks 0x0501 (rq (p2 99 ++ zeros 2) : Req) (wWeir : State) = true) ∧
    (g2 (rq (p2 99 ++ zeros 2) : Req).payload 2 = 0) ∧
    ((128 ≤ g2 (rq (p2 99 ++ zeros 2) : Req).payload 0 ∨ stn (wWeir : State) (g2 (rq (p2 99 ++ zeros 2) : Req).payload 0) = [])) := by decide +kernel

theorem meets_WeirCommandsAct_4 :
    (asks 0x0502 (rq (p2 20 ++ zeros 2) : Req) (modWst 20 (fun x => { x with s := some (1/4) }) wWeir : State) = true) ∧
    ((20 : Nat) = g2 (rq (p2 20 ++ zeros 2) : Req).payload 0) ∧
    (g2 (rq (p2 20 ++ zeros 2) : Req).payload 2 = 0) ∧
    ((20 : Nat) < 128) ∧
    (isWeir (modWst 20 (fun x => { x with s := some (1/4) }) wWeir : State) (20 : Nat) = true) ∧
    ((wst (modWst 20 (fun x => { x with s := some (1/4) }) wWeir) 20 : WeirSt) = wst (modWst 20 (fun x => { x with s := some (1/4) }) wWeir : State) (20 : Nat)) ∧
    ((wst (modWst 20 (fun x => { x with s := some (1/4) }) wWeir) 20 : WeirSt).s = some (1/4 : Rat)) := by decide +kernel

theorem meets_WeirCommandsAct_5 :
    (asks 0x0502 (rq (p2 20 ++ zeros 2) : Req) (wWeir : State) = true) ∧
    ((20 : Nat) = g2 (rq (p2 20 ++ zeros 2) : Req).payload 0) ∧
    (g2 (rq (p2 20 ++ zeros 2) : Req).payload 2 = 0) ∧
    ((20 : Nat) < 128) ∧
    (isWeir (wWeir : State) (20 : Nat) = true) ∧
    ((wst wWeir 20 : WeirSt) = wst (wWeir : State) (20 : Nat)) ∧
    ((wst wWeir 20 : WeirSt).s = none) := by decide +kernel

theorem meets_WeirCommandsAct_6 :
    (asks 0x0502 (rq (p2 20 ++ [0, 1]) : Req) (wWeir : State) = true) ∧
    ((g2 (rq (p2 20 ++ [0, 1]) : Req).payload 2 ≠ 0 ∨ (stn (wWeir : State) (g2 (rq (p2 20 ++ [0, 1]) : Req).payload 0) ≠ [] ∧ g2 (rq (p2 20 ++ [0, 1]) : Req).payload 0 < 128 ∧ isWeir (wWeir : State) (g2 (rq (p2 20 ++ [0, 1]) : Req).payload 0) = false))) := by decide +kernel

theorem meets_WeirCommandsAct_7 :
    (asks 0x0502 (rq (p2 99 ++ zeros 2) : Req) (wWeir : State) = true) ∧
    (g2 (rq (p2 99 ++ zeros 2) : Req).payload 2 = 0) ∧
    ((128 ≤ g2 (rq (p2 99 ++ zeros 2) : Req).payload 0 ∨ stn (wWeir : State) (g2 (rq (p2 99 ++ zeros 2) : Req).payload 0) = [])) := by decide +kernel

theorem meets_WeirCommandsAct_8 :
    (asks 0x0503 (rq [1, 0, 0, 0] : Req) (wWeir : State) = true) ∧
    ((1 : Nat) = g1 (rq [1, 0, 0, 0] : Req).payload 0) ∧
    ((0 : Nat) = g1 (rq [1, 0, 0, 0] : Req).payload 1) ∧
    (g2 (rq [1, 0, 0, 0] : Req).payload 2 = 0) ∧
    (((1 : Nat) = 1 ∧ (0 : Nat) < 24 ∨ (1 : Nat) = 2 ∧ (0 : Nat) < 8)) := by decide +kernel

theorem meets_WeirCommandsAct_9 :
    (asks 0x0503 (rq [2, 8, 0, 0] : Req) (wWeir : State) = true) ∧
    ((g2 (rq [2, 8, 0, 0] : Req).payload 2 ≠ 0 ∨ ¬ ((g1 (rq [2, 8, 0, 0] : Req).payload 0 = 1 ∧ g1 (rq [2, 8, 0, 0] : Req).payload 1 < 24) ∨ (g1 (rq [2, 8, 0, 0] : Req).payload 0 = 2 ∧ g1 (rq [2, 8, 0, 0] : Req).payload 1 < 8)))) := by decide +kernel

theorem meets_WeirCommandsAct_10 :
    (asks 0x0504 (rq (p2 20 ++ [0, 0, 0, 0] ++ p4 0x3F000000 ++ p4 0) : Req) (wWeir : State) = true) ∧
    ((20 : Nat) = g2 (rq (p2 20 ++ [0, 0, 0, 0] ++ p4 0x3F000000 ++ p4 0) : Req).payload 0) ∧
    (g2 (rq (p2 20 ++ [0, 0, 0, 0] ++ p4 0x3F000000 ++ p4 0) : Req).payload 2 = 0) ∧
    (g1 (rq (p2 20 ++ [0, 0, 0, 0] ++ p4 0x3F000000 ++ p4 0) : Req).payload 5 = 0) ∧
    (((g1 (rq (p2 20 ++ [0, 0, 0, 0] ++ p4 0x3F000000 ++ p4 0) : Req).payload 4 = 0 ∧ (stn wWeir 20 : List Byte) = stn (wWeir : State) (20 : Nat)) ∨ (g1 (rq (p2 20 ++ [0, 0, 0, 0] ++ p4 0x3F000000 ++ p4 0) : Req).payload 4 = 1 ∧ ∃ x ∈ (wWeir : State).cfg.txn, x.owner = (rq (p2 20 ++ [0, 0, 0, 0] ++ p4 0x3F000000 ++ p4 0) : Req).side ∧ (stn wWeir 20 : List Byte) = workingStn x (20 : Nat)))) ∧
    ((20 : Nat) < 128) ∧
    ((stn wWeir 20 : List Byte) ≠ []) ∧
    (((1 ≤ g2 (stn wWeir 20 : List Byte) 0 ∧ g2 (stn wWeir 20 : List Byte) 0 ≤ 6) ∨ g2 (stn wWeir 20 : List Byte) 0 = 0x10)) ∧
    (gf32 (rq (p2 20 ++ [0, 0, 0, 0] ++ p4 0x3F000000 ++ p4 0) : Req).payload 6 = some (1/2 : Rat)) ∧
    (gf32 (rq (p2 20 ++ [0, 0, 0, 0] ++ p4 0x3F000000 ++ p4 0) : Req).payload 10 = some (0 : Rat)) ∧
    ((linearise 3 (stnPart wWeir 20) (1/2) (some 0) 0 : Lin).y = (linearise (g2 (stn wWeir 20 : List Byte) 0) ((stn wWeir 20 : List Byte).drop 64) (1/2 : Rat) (some (0 : Rat)) (if wComp ((stn wWeir 20 : List Byte).drop 64) = 0xFFFF then ((i4 ((stn wWeir 20 : List Byte).drop 64) 24 : Int) : Rat) / 1000 else (0 : Rat))).y) ∧
    ((linearise 3 (stnPart wWeir 20) (1/2) (some 0) 0 : Lin).outOfCurve = (linearise (g2 (stn wWeir 20 : List Byte) 0) ((stn wWeir 20 : List Byte).drop 64) (1/2 : Rat) (some (0 : Rat)) (if wComp ((stn wWeir 20 : List Byte).drop 64) = 0xFFFF then ((i4 ((stn wWeir 20 : List Byte).drop 64) 24 : Int) : Rat) / 1000 else (0 : Rat))).outOfCurve) := by decide +kernel

theorem meets_WeirCommandsAct_11 :
    (asks 0x0504 (rq (p2 20 ++ [0, 0, 0, 0] ++ p4 0x7FC00000 ++ p4 0) : Req) (wWeir : State) = true) ∧
    ((20 : Nat) = g2 (rq (p2 20 ++ [0, 0, 0, 0] ++ p4 0x7FC00000 ++ p4 0) : Req).payload 0) ∧
    (g2 (rq (p2 20 ++ [0, 0, 0, 0] ++ p4 0x7FC00000 ++ p4 0) : Req).payload 2 = 0) ∧
    (g1 (rq (p2 20 ++ [0, 0, 0, 0] ++ p4 0x7FC00000 ++ p4 0) : Req).payload 5 = 0) ∧
    (((g1 (rq (p2 20 ++ [0, 0, 0, 0] ++ p4 0x7FC00000 ++ p4 0) : Req).payload 4 = 0 ∧ (stn wWeir 20 : List Byte) = stn (wWeir : State) (20 : Nat)) ∨ (g1 (rq (p2 20 ++ [0, 0, 0, 0] ++ p4 0x7FC00000 ++ p4 0) : Req).payload 4 = 1 ∧ ∃ x ∈ (wWeir : State).cfg.txn, x.owner = (rq (p2 20 ++ [0, 0, 0, 0] ++ p4 0x7FC00000 ++ p4 0) : Req).side ∧ (stn wWeir 20 : List Byte) = workingStn x (20 : Nat)))) ∧
    ((20 : Nat) < 128) ∧
    ((stn wWeir 20 : List Byte) ≠ []) ∧
    (((1 ≤ g2 (stn wWeir 20 : List Byte) 0 ∧ g2 (stn wWeir 20 : List Byte) 0 ≤ 6) ∨ g2 (stn wWeir 20 : List Byte) 0 = 0x10)) ∧
    ((gf32 (rq (p2 20 ++ [0, 0, 0, 0] ++ p4 0x7FC00000 ++ p4 0) : Req).payload 6 = none ∨ gf32 (rq (p2 20 ++ [0, 0, 0, 0] ++ p4 0x7FC00000 ++ p4 0) : Req).payload 10 = none)) := by decide +kernel

theorem meets_WeirCommandsAct_12 :
    (asks 0x0504 (rq (p2 20 ++ [0, 0, 1, 0] ++ p4 0x3F000000 ++ p4 0) : Req) (wWeir : State) = true) ∧
    ((g2 (rq (p2 20 ++ [0, 0, 1, 0] ++ p4 0x3F000000 ++ p4 0) : Req).payload 2 ≠ 0 ∨ 1 < g1 (rq (p2 20 ++ [0, 0, 1, 0] ++ p4 0x3F000000 ++ p4 0) : Req).payload 4 ∨ g1 (rq (p2 20 ++ [0, 0, 1, 0] ++ p4 0x3F000000 ++ p4 0) : Req).payload 5 ≠ 0 ∨ (g1 (rq (p2 20 ++ [0, 0, 1, 0] ++ p4 0x3F000000 ++ p4 0) : Req).payload 4 = 1 ∧ ((wWeir : State).cfg.txn.map (·.owner)) ≠ some (rq (p2 20 ++ [0, 0, 1, 0] ++ p4 0x3F000000 ++ p4 0) : Req).side))) := by decide +kernel

theorem meets_WeirCommandsAct_13 :
    (asks 0x0504 (rq (p2 99 ++ [0, 0, 0, 0] ++ p4 0x3F000000 ++ p4 0) : Req) (wWeir : State) = true) ∧
    (g2 (rq (p2 99 ++ [0, 0, 0, 0] ++ p4 0x3F000000 ++ p4 0) : Req).payload 2 = 0) ∧
    (g1 (rq (p2 99 ++ [0, 0, 0, 0] ++ p4 0x3F000000 ++ p4 0) : Req).payload 5 = 0) ∧
    (g1 (rq (p2 99 ++ [0, 0, 0, 0] ++ p4 0x3F000000 ++ p4 0) : Req).payload 4 = 0) ∧
    ((128 ≤ g2 (rq (p2 99 ++ [0, 0, 0, 0] ++ p4 0x3F000000 ++ p4 0) : Req).payload 0 ∨ stn (wWeir : State) (g2 (rq (p2 99 ++ [0, 0, 0, 0] ++ p4 0x3F000000 ++ p4 0) : Req).payload 0) = [])) := by decide +kernel

theorem meets_WeirCommandsAct_14 :
    (asks 0x0504 (rq (p2 1 ++ [0, 0, 0, 0] ++ p4 0x3F000000 ++ p4 0) : Req) (wFio : State) = true) ∧
    (g2 (rq (p2 1 ++ [0, 0, 0, 0] ++ p4 0x3F000000 ++ p4 0) : Req).payload 2 = 0) ∧
    (g1 (rq (p2 1 ++ [0, 0, 0, 0] ++ p4 0x3F000000 ++ p4 0) : Req).payload 5 = 0) ∧
    (g1 (rq (p2 1 ++ [0, 0, 0, 0] ++ p4 0x3F000000 ++ p4 0) : Req).payload 4 = 0) ∧
    (g2 (rq (p2 1 ++ [0, 0, 0, 0] ++ p4 0x3F000000 ++ p4 0) : Req).payload 0 < 128) ∧
    (stn (wFio : State) (g2 (rq (p2 1 ++ [0, 0, 0, 0] ++ p4 0x3F000000 ++ p4 0) : Req).payload 0) ≠ []) ∧
    (isWeir (wFio : State) (g2 (rq (p2 1 ++ [0, 0, 0, 0] ++ p4 0x3F000000 ++ p4 0) : Req).payload 0) = false) := by decide +kernel

theorem meets_IslandEventsAct_1 :
    ((wRun : State).island.linkUp = true) ∧
    ((wRun : State).island.session = none) := by decide +kernel

theorem meets_IslandEventsAct_2 :
    ((wOpen : State).island.linkUp = true) ∧
    ((wOpen : State).island.session = some ({ owner := .spi } : PSession)) := by decide +kernel

theorem meets_IslandEventsAct_3 :
    ((onIsland (fun i => { i with linkUp := false }) wRun : State).island.linkUp = false) := by decide +kernel

theorem meets_IslandEventsAct_4 :
    ((onIsland (fun i => { i with linkUp := false, buffered := [zeros 128], dropped := 2 }) wRun : State).island.linkUp = false) ∧
    ((onIsland (fun i => { i with linkUp := false, buffered := [zeros 128], dropped := 2 }) wRun : State).fsh.state ≠ 4) := by decide +kernel

theorem meets_IslandEventsAct_5 :
    ((onFsh (fun f => { f with state := 4, img := { kind := 3 } }) (onIsland (fun i => { i with linkUp := false }) wRun) : State).island.linkUp = false) := by decide +kernel

theorem meets_IslandEventsAct_6 :
    ((wRun : State).island.linkUp = true) := by decide +kernel

theorem meets_IslandEventsAct_7 :
    ((onSys (fun y => { y with calTime := 500 }) wRun : State).island.linkUp = true) ∧
    (islandUp (onSys (fun y => { y with calTime := 500 }) wRun : State) = true) ∧
    ((500 : Int) = (onSys (fun y => { y with calTime := 500 }) wRun : State).sys.calTime - islandCal (onSys (fun y => { y with calTime := 500 }) wRun : State) (onSys (fun y => { y with calTime := 500 }) wRun : State).sys.devTime) ∧
    ((500 : Int).natAbs ≤ 1000) := by decide +kernel

theorem meets_IslandEventsAct_8 :
    ((onSys (fun y => { y with calTime := 5000 }) wRun : State).island.linkUp = true) ∧
    (islandUp (onSys (fun y => { y with calTime := 5000 }) wRun : State) = true) ∧
    ((5000 : Int) = (onSys (fun y => { y with calTime := 5000 }) wRun : State).sys.calTime - islandCal (onSys (fun y => { y with calTime := 5000 }) wRun : State) (onSys (fun y => { y with calTime := 5000 }) wRun : State).sys.devTime) ∧
    (1000 < (5000 : Int).natAbs) := by decide +kernel

theorem meets_IslandEventsAct_9 :
    (islandUp (onIsland (fun i => { i with running := false }) wRun : State) = false) := by decide +kernel

theorem meets_IslandEventsAct_10 :
    ((wRun : State).island.linkUp = true) ∧
    ((wRun : State).absorb.reexecuting = false) ∧
    ((wRun : State).sys.ready = true) ∧
    ((onIsland (fun i => { i with outbox := i.outbox.filter (· != zeros 128) }) wRun : State) = onIsland (fun i => { i with outbox := i.outbox.filter (· != (zeros 128 : List Byte)) }) (wRun : State)) := by decide +kernel

theorem meets_IslandEventsAct_11 :
    (((onAbsorb (fun a => { a with reexecuting := true }) wRun : State).island.linkUp = false ∨ (onAbsorb (fun a => { a with reexecuting := true }) wRun : State).absorb.reexecuting = true ∨ (onAbsorb (fun a => { a with reexecuting := true }) wRun : State).sys.ready = false)) := by decide +kernel

theorem meets_IslandEventsAct_12 :
    (islandUp (wRun : State) = true) := by decide +kernel

theorem meets_IslandEventsAct_13 :
    (¬ ((wIce : State).fsh.state = 4 ∧ (wIce : State).fsh.img.kind = 3 ∧ (wIce : State).fsh.bankReady = true)) ∧
    (((wIce : State).sys.mode = .vault ∨ (wIce : State).sys.mode = .ice ∨ (wIce : State).sys.mode = .recovery)) := by decide +kernel

theorem meets_IslandEventsAct_14 :
    (¬ ((wRun : State).fsh.state = 4 ∧ (wRun : State).fsh.img.kind = 3 ∧ (wRun : State).fsh.bankReady = true)) ∧
    ((wRun : State).sys.mode ≠ .vault) ∧
    ((wRun : State).sys.mode ≠ .ice) ∧
    ((wRun : State).sys.mode ≠ .recovery) := by decide +kernel

theorem meets_IslandEventsAct_15 :
    (¬ ((wRun : State).fsh.state = 4 ∧ (wRun : State).fsh.img.kind = 3 ∧ (wRun : State).fsh.bankReady = true)) ∧
    ((wRun : State).sys.mode ≠ .vault) ∧
    ((wRun : State).sys.mode ≠ .ice) ∧
    ((wRun : State).sys.mode ≠ .recovery) ∧
    ((islandSramLost (wRun : State)).island.abandoned = none) := by decide +kernel

theorem meets_IslandEventsAct_16 :
    (¬ ((wRun : State).fsh.state = 4 ∧ (wRun : State).fsh.img.kind = 3 ∧ (wRun : State).fsh.bankReady = true)) := by decide +kernel

theorem meets_IslandEventsAct_17 :
    ((onFsh (fun f => { f with state := 4, img := { kind := 3 }, bankReady := true }) wOpen : State).fsh.state = 4) ∧
    ((onFsh (fun f => { f with state := 4, img := { kind := 3 }, bankReady := true }) wOpen : State).fsh.img.kind = 3) ∧
    ((onFsh (fun f => { f with state := 4, img := { kind := 3 }, bankReady := true }) wOpen : State).fsh.bankReady = true) := by decide +kernel

theorem meets_IslandEventsAct_18 :
    (islandUp (wRun : State) = true) ∧
    ((wRun : State).sys.mode ≠ .vault) ∧
    ((wRun : State).sys.mode ≠ .ice) ∧
    ((wRun : State).sys.legal = true) ∧
    ((wRun : State).island.sealSeen = false) ∧
    ((wRun : State).island.sealMissed = []) ∧
    ((wRun : State).island.trail.length + (wRun : State).island.waiting.length < 8191) := by decide +kernel

theorem meets_IslandEventsAct_19 :
    (islandUp (onIsland (fun i => { i with trail := List.replicate 8191 {} }) wRun : State) = true) ∧
    ((onIsland (fun i => { i with trail := List.replicate 8191 {} }) wRun : State).sys.mode ≠ .vault) ∧
    ((onIsland (fun i => { i with trail := List.replicate 8191 {} }) wRun : State).sys.mode ≠ .ice) ∧
    ((onIsland (fun i => { i with trail := List.replicate 8191 {} }) wRun : State).sys.legal = true) ∧
    ((onIsland (fun i => { i with trail := List.replicate 8191 {} }) wRun : State).island.sealSeen = false) ∧
    ((onIsland (fun i => { i with trail := List.replicate 8191 {} }) wRun : State).island.sealMissed = []) ∧
    (8191 ≤ (onIsland (fun i => { i with trail := List.replicate 8191 {} }) wRun : State).island.trail.length + (onIsland (fun i => { i with trail := List.replicate 8191 {} }) wRun : State).island.waiting.length) := by decide +kernel

theorem meets_IslandEventsAct_20 :
    (islandUp (onIsland (fun i => { i with sealPin := true, sealSeen := true, openedAt := 0 }) wRun : State) = true) ∧
    ((onIsland (fun i => { i with sealPin := true, sealSeen := true, openedAt := 0 }) wRun : State).sys.mode ≠ .vault) ∧
    ((onIsland (fun i => { i with sealPin := true, sealSeen := true, openedAt := 0 }) wRun : State).sys.mode ≠ .ice) ∧
    ((onIsland (fun i => { i with sealPin := true, sealSeen := true, openedAt := 0 }) wRun : State).sys.legal = true) ∧
    ((onIsland (fun i => { i with sealPin := true, sealSeen := true, openedAt := 0 }) wRun : State).island.sealSeen = true) ∧
    ((onIsland (fun i => { i with sealPin := true, sealSeen := true, openedAt := 0 }) wRun : State).island.sealMissed = []) ∧
    (¬ ((onIsland (fun i => { i with sealPin := true, sealSeen := true, openedAt := 0 }) wRun : State).fsh.state = 4 ∧ (onIsland (fun i => { i with sealPin := true, sealSeen := true, openedAt := 0 }) wRun : State).fsh.img.kind = 3)) ∧
    ((onIsland (fun i => { i with sealPin := true, sealSeen := true, openedAt := 0 }) wRun : State).island.trail.length + (onIsland (fun i => { i with sealPin := true, sealSeen := true, openedAt := 0 }) wRun : State).island.waiting.length < 8191) ∧
    ((onIsland (fun i => { i with sealPin := true, sealSeen := true, openedAt := 0 }) wRun : State).island.session = none) ∧
    ((0 : Nat) = (islandCal (onIsland (fun i => { i with sealPin := true, sealSeen := true, openedAt := 0 }) wRun : State) (onIsland (fun i => { i with sealPin := true, sealSeen := true, openedAt := 0 }) wRun : State).sys.devTime - (onIsland (fun i => { i with sealPin := true, sealSeen := true, openedAt := 0 }) wRun : State).island.openedAt).toNat / 1000) := by decide +kernel

theorem meets_IslandEventsAct_21 :
    (islandUp (onIsland (fun i => { i with sealSeen := true }) wOpen : State) = true) ∧
    ((onIsland (fun i => { i with sealSeen := true }) wOpen : State).sys.mode ≠ .vault) ∧
    ((onIsland (fun i => { i with sealSeen := true }) wOpen : State).sys.mode ≠ .ice) ∧
    ((onIsland (fun i => { i with sealSeen := true }) wOpen : State).sys.legal = true) ∧
    ((onIsland (fun i => { i with sealSeen := true }) wOpen : State).island.sealSeen = true) ∧
    ((onIsland (fun i => { i with sealSeen := true }) wOpen : State).island.sealMissed = []) ∧
    (¬ ((onIsland (fun i => { i with sealSeen := true }) wOpen : State).fsh.state = 4 ∧ (onIsland (fun i => { i with sealSeen := true }) wOpen : State).fsh.img.kind = 3)) ∧
    ((onIsland (fun i => { i with sealSeen := true }) wOpen : State).island.session = some ({ owner := .spi } : PSession)) ∧
    ((0 : Nat) = (islandCal (onIsland (fun i => { i with sealSeen := true }) wOpen : State) (onIsland (fun i => { i with sealSeen := true }) wOpen : State).sys.devTime - (onIsland (fun i => { i with sealSeen := true }) wOpen : State).island.openedAt).toNat / 1000) := by decide +kernel

theorem meets_IslandEventsAct_22 :
    ((onFsh (fun f => { f with state := 4, img := { kind := 3 }, bankReady := true }) wOpen : State).sys.mode ≠ .vault) ∧
    ((onFsh (fun f => { f with state := 4, img := { kind := 3 }, bankReady := true }) wOpen : State).sys.mode ≠ .ice) ∧
    ((onFsh (fun f => { f with state := 4, img := { kind := 3 }, bankReady := true }) wOpen : State).sys.legal = true) ∧
    ((onFsh (fun f => { f with state := 4, img := { kind := 3 }, bankReady := true }) wOpen : State).fsh.state = 4) ∧
    ((onFsh (fun f => { f with state := 4, img := { kind := 3 }, bankReady := true }) wOpen : State).fsh.img.kind = 3) := by decide +kernel

theorem meets_IslandEventsAct_23 :
    ((onIsland (fun i => { i with running := false }) wRun : State).sys.mode ≠ .vault) ∧
    ((onIsland (fun i => { i with running := false }) wRun : State).sys.mode ≠ .ice) ∧
    (¬ ((onIsland (fun i => { i with running := false }) wRun : State).fsh.state = 4 ∧ (onIsland (fun i => { i with running := false }) wRun : State).fsh.img.kind = 3)) ∧
    (islandUp (onIsland (fun i => { i with running := false }) wRun : State) = false) := by decide +kernel

theorem meets_IslandEventsAct_24 :
    ((wRun : State).sys.mode ≠ .vault) ∧
    ((wRun : State).sys.mode ≠ .ice) ∧
    (¬ ((wRun : State).fsh.state = 4 ∧ (wRun : State).fsh.img.kind = 3)) ∧
    (islandUp (wRun : State) = true) ∧
    ((wRun : State).island.sealMissed = []) ∧
    ((false : Bool) = (wRun : State).island.sealSeen) := by decide +kernel

theorem meets_IslandEventsAct_25 :
    ((onSys (fun y => { y with legal := false }) wRun : State).sys.mode ≠ .vault) ∧
    ((onSys (fun y => { y with legal := false }) wRun : State).sys.mode ≠ .ice) ∧
    (islandUp (onSys (fun y => { y with legal := false }) wRun : State) = true) ∧
    ((onSys (fun y => { y with legal := false }) wRun : State).sys.legal = false) ∧
    ((onSys (fun y => { y with legal := false }) wRun : State).island.sealMissed = []) := by decide +kernel

theorem meets_IslandEventsAct_26 :
    (((wIce : State).sys.mode = .vault ∨ (wIce : State).sys.mode = .ice)) ∧
    (¬ ((wIce : State).fsh.state = 4 ∧ (wIce : State).fsh.img.kind = 3)) := by decide +kernel

theorem meets_IslandEventsAct_27 :
    (((onSys (fun y => { y with mode := .vault }) State.reset : State).sys.mode = .vault ∨ (onSys (fun y => { y with mode := .vault }) State.reset : State).sys.mode = .ice)) ∧
    ((true : Bool) ≠ (onSys (fun y => { y with mode := .vault }) State.reset : State).island.sealPin) := by decide +kernel

theorem meets_IslandEventsAct_28 :
    ((((wRun : State).sys.mode ≠ .vault ∧ (wRun : State).sys.mode ≠ .ice) ∨ (true : Bool) = (wRun : State).island.sealPin)) := by decide +kernel

theorem meets_IslandEventsAct_29 :
    (islandUp (onPower (fun w => { w with energy := 10 ^ 18 }) wRun : State) = true) ∧
    ((onPower (fun w => { w with energy := 10 ^ 18 }) wRun : State).sys.mode ≠ .vault) ∧
    ((onPower (fun w => { w with energy := 10 ^ 18 }) wRun : State).sys.mode ≠ .ice) ∧
    ((onPower (fun w => { w with energy := 10 ^ 18 }) wRun : State).island.tamperedFlash = false) ∧
    (tamperTold (onPower (fun w => { w with energy := 10 ^ 18 }) wRun : State) = false) ∧
    (canStore .islandAudit (onPower (fun w => { w with energy := 10 ^ 18 }) wRun : State) = true) := by decide +kernel

theorem meets_IslandEventsAct_30 :
    (islandUp (onPower (fun w => { w with energy := 0 }) wRun : State) = true) ∧
    ((onPower (fun w => { w with energy := 0 }) wRun : State).sys.mode ≠ .vault) ∧
    ((onPower (fun w => { w with energy := 0 }) wRun : State).sys.mode ≠ .ice) ∧
    ((onPower (fun w => { w with energy := 0 }) wRun : State).island.tamperedFlash = false) ∧
    (tamperTold (onPower (fun w => { w with energy := 0 }) wRun : State) = false) ∧
    (canStore .islandAudit (onPower (fun w => { w with energy := 0 }) wRun : State) = false) := by decide +kernel

theorem meets_IslandEventsAct_31 :
    ((islandUp (onIsland (fun i => { i with running := false }) wRun : State) = false ∨ (onIsland (fun i => { i with running := false }) wRun : State).sys.mode = .vault ∨ (onIsland (fun i => { i with running := false }) wRun : State).sys.mode = .ice ∨ (onIsland (fun i => { i with running := false }) wRun : State).island.tamperedFlash = true)) := by decide +kernel

theorem meets_IslandEventsAct_32 :
    (islandUp (wRun : State) = true) := by decide +kernel

theorem meets_IslandEventsAct_33 :
    (islandUp (wRun : State) = true) := by decide +kernel

theorem meets_IslandEventsAct_34 :
    (islandUp (onIsland (fun i => { i with running := false }) wRun : State) = false) := by decide +kernel

theorem meets_IslandEventsAct_35 :
    ((wOpen : State).island.session = some ({ owner := .spi } : PSession)) ∧
    (({ owner := .spi } : PSession).writing = false) := by decide +kernel

theorem meets_IslandEventsAct_36 :
    ((∀ p ∈ (wRun : State).island.session, p.writing = true)) := by decide +kernel

theorem meets_IslandEventsAct_37 :
    (tapOn (onIsland (fun i => { i with tapCounter := some 3 }) wTap : State) = true) ∧
    ((false : Bool) = (g1 (paramBody (onIsland (fun i => { i with tapCounter := some 3 }) wTap : State) 5 0) 1 == 1)) ∧
    (([1, 2, 6, 0, 0, 0, 0, 0] : List Byte).length = 8) ∧
    (1 ≤ g1 ([1, 2, 6, 0, 0, 0, 0, 0] : List Byte) 0) ∧
    (g1 ([1, 2, 6, 0, 0, 0, 0, 0] : List Byte) 0 ≤ 4) ∧
    ((g1 ([1, 2, 6, 0, 0, 0, 0, 0] : List Byte) 1 = 1 ∨ g1 ([1, 2, 6, 0, 0, 0, 0, 0] : List Byte) 1 = 2)) ∧
    (zeroAt ([1, 2, 6, 0, 0, 0, 0, 0] : List Byte) 4 4 = true) ∧
    ((onIsland (fun i => { i with tapCounter := some 3 }) wTap : State).island.tapCounter ≠ some (g2 ([1, 2, 6, 0, 0, 0, 0, 0] : List Byte) 2)) ∧
    ((note 0x0640 [1, 2, 6] (onIsland (fun i => { i with tapCounter := some 6, tapTriggers := 1, tapGaps := 1 }) wTap) : State) = note 0x0640 [g1 ([1, 2, 6, 0, 0, 0, 0, 0] : List Byte) 0, g1 ([1, 2, 6, 0, 0, 0, 0, 0] : List Byte) 1, g2 ([1, 2, 6, 0, 0, 0, 0, 0] : List Byte) 2] (onIsland (fun i => { i with tapCounter := some (g2 ([1, 2, 6, 0, 0, 0, 0, 0] : List Byte) 2), tapTriggers := (i.tapTriggers + 1) % 65536, tapGaps := if ∃ k ∈ (onIsland (fun i => { i with tapCounter := some 3 }) wTap : State).island.tapCounter, g2 ([1, 2, 6, 0, 0, 0, 0, 0] : List Byte) 2 ≠ (k + 1) % 65536 then (i.tapGaps + 1) % 65536 else i.tapGaps }) (onIsland (fun i => { i with tapCounter := some 3 }) wTap : State))) := by decide +kernel

theorem meets_IslandEventsAct_38 :
    ((tapOn (wTap : State) = false ∨ (true : Bool) = true ∨ (5 : Nat) ≠ g4 (paramBody (wTap : State) 5 0) 4 ∨ (false : Bool) ≠ (g1 (paramBody (wTap : State) 5 0) 1 == 1) ∨ ([1, 2, 6, 0, 0, 0, 0, 0] : List Byte).length ≠ 8 ∨ g1 ([1, 2, 6, 0, 0, 0, 0, 0] : List Byte) 0 = 0 ∨ 4 < g1 ([1, 2, 6, 0, 0, 0, 0, 0] : List Byte) 0 ∨ (g1 ([1, 2, 6, 0, 0, 0, 0, 0] : List Byte) 1 ≠ 1 ∧ g1 ([1, 2, 6, 0, 0, 0, 0, 0] : List Byte) 1 ≠ 2) ∨ zeroAt ([1, 2, 6, 0, 0, 0, 0, 0] : List Byte) 4 4 = false ∨ (wTap : State).island.tapCounter = some (g2 ([1, 2, 6, 0, 0, 0, 0, 0] : List Byte) 2))) := by decide +kernel

theorem meets_IslandEventsAct_39 :
    ((wTap : State) = (if (0 : Nat) < (wTap : State).island.committedAt then onIsland (fun i => { i with params := paramsAt (wTap : State) (0 : Nat) }) (wTap : State) else (wTap : State))) ∧
    ((0 : Nat) ≤ 1) ∧
    (islandUp (wTap : State) = true) ∧
    (pllDown (wTap : State) 2 = false) ∧
    (grainMeasured (wTap : State) (0 : Nat) = true) ∧
    ((paramBody wTap 4 0 : List Byte) = paramBody (wTap : State) 4 (0 : Nat)) ∧
    ((paramBody wTap 4 0 : List Byte) ≠ []) ∧
    ((100 : Rat) = ratDiv ([100] : List Rat).sum (([100] : List Rat).length : Nat)) ∧
    (((true : Bool) = true ∨ ([100] : List Rat) = [])) := by decide +kernel

theorem meets_IslandEventsAct_40 :
    ((wTap : State) = (if (0 : Nat) < (wTap : State).island.committedAt then onIsland (fun i => { i with params := paramsAt (wTap : State) (0 : Nat) }) (wTap : State) else (wTap : State))) ∧
    ((0 : Nat) ≤ 1) ∧
    (islandUp (wTap : State) = true) ∧
    (pllDown (wTap : State) 2 = false) ∧
    (grainMeasured (wTap : State) (0 : Nat) = true) ∧
    ((paramBody wTap 4 0 : List Byte) = paramBody (wTap : State) 4 (0 : Nat)) ∧
    ((paramBody wTap 4 0 : List Byte) ≠ []) ∧
    (([100] : List Rat) ≠ []) ∧
    ((100 : Rat) = ([100] : List Rat).sum / (([100] : List Rat).length : Nat)) ∧
    ((gtLaw (paramBody wTap 4 0) 100 wTap.fresh : Rat × Bool).1 = (gtLaw (paramBody wTap 4 0 : List Byte) (100 : Rat) (wTap : State).fresh).1) ∧
    ((gtLaw (paramBody wTap 4 0) 100 wTap.fresh : Rat × Bool).2 = (gtLaw (paramBody wTap 4 0 : List Byte) (100 : Rat) (wTap : State).fresh).2) ∧
    ((0 : Int) = (if (gtLaw (paramBody wTap 4 0) 100 wTap.fresh : Rat × Bool).2 then roundRat ((gtLaw (paramBody wTap 4 0) 100 wTap.fresh : Rat × Bool).1 * 1000) else invalidValue)) := by decide +kernel

theorem meets_IslandEventsAct_41 :
    ((wTap : State).island.committedAt ≤ (0 : Nat)) ∧
    ((1 < (2 : Nat) ∨ paramBody (wTap : State) 4 (2 : Nat) = [] ∨ islandUp (wTap : State) = false ∨ pllDown (wTap : State) 2 = true ∨ grainMeasured (wTap : State) (2 : Nat) = false)) := by decide +kernel

theorem meets_IslandEventsAct_42 :
    ((20 : Nat) < 128) ∧
    ((modWst 20 (fun x => { x with has := true, value := 5, time := 9, flags := 8 }) wWeir : State).sys.ready = true) ∧
    (stnSampleMode (modWst 20 (fun x => { x with has := true, value := 5, time := 9, flags := 8 }) wWeir : State) (20 : Nat) = 0) ∧
    (isWeir (modWst 20 (fun x => { x with has := true, value := 5, time := 9, flags := 8 }) wWeir : State) (20 : Nat) = true) ∧
    ((wst (modWst 20 (fun x => { x with has := true, value := 5, time := 9, flags := 8 }) wWeir : State) (20 : Nat)).has = true) := by decide +kernel

theorem meets_IslandEventsAct_43 :
    ((30 : Nat) < 128) ∧
    ((wIslStn : State).sys.ready = true) ∧
    (stnSampleMode (wIslStn : State) (30 : Nat) = 0) ∧
    (isWeir (wIslStn : State) (30 : Nat) = false) ∧
    (isIsland (wIslStn : State) (30 : Nat) = true) := by decide +kernel

theorem meets_IslandEventsAct_44 :
    ((10 : Nat) < 128) ∧
    ((wValve : State).sys.ready = true) ∧
    (stnSampleMode (wValve : State) (10 : Nat) = 0) ∧
    (isWeir (wValve : State) (10 : Nat) = false) ∧
    (isIsland (wValve : State) (10 : Nat) = false) ∧
    ((isProp (wValve : State) (10 : Nat) = true ∨ stnType (wValve : State) (10 : Nat) = 0x31)) := by decide +kernel

theorem meets_IslandEventsAct_45 :
    ((6 : Nat) < 128) ∧
    ((wFio : State).sys.ready = true) ∧
    (stnSampleMode (wFio : State) (6 : Nat) = 0) ∧
    (isWeir (wFio : State) (6 : Nat) = false) ∧
    (isIsland (wFio : State) (6 : Nat) = false) ∧
    (isProp (wFio : State) (6 : Nat) = false) ∧
    (stnType (wFio : State) (6 : Nat) ≠ 0x31) ∧
    (isLoopOut (wFio : State) (6 : Nat) = true) := by decide +kernel

theorem meets_IslandEventsAct_46 :
    ((128 ≤ (20 : Nat) ∨ (wWeir : State).sys.ready = false ∨ stnSampleMode (wWeir : State) (20 : Nat) ≠ 0 ∨ (isWeir (wWeir : State) (20 : Nat) = true ∧ (wst (wWeir : State) (20 : Nat)).has = false) ∨ (isWeir (wWeir : State) (20 : Nat) = false ∧ isIsland (wWeir : State) (20 : Nat) = false ∧ isProp (wWeir : State) (20 : Nat) = false ∧ stnType (wWeir : State) (20 : Nat) ≠ 0x31 ∧ isLoopOut (wWeir : State) (20 : Nat) = false))) := by decide +kernel

theorem meets_IslandEventsAct_47 :
    ((30 : Nat) < 128) ∧
    (isIsland (wIslStn : State) (30 : Nat) = true) ∧
    ((wIslStn : State).island.stale.contains (30 : Nat) = false) := by decide +kernel

theorem meets_IslandEventsAct_48 :
    ((128 ≤ (20 : Nat) ∨ isIsland (wWeir : State) (20 : Nat) = false ∨ (wWeir : State).island.stale.contains (20 : Nat) = true)) := by decide +kernel

theorem meets_WatermarkCommandsAct_1 :
    (asks 0x0601 (rq [] : Req) (wRun : State) = true) ∧
    ((wRun : State).sys.legal = true) ∧
    (linkDown (wRun : State) = false) := by decide +kernel

theorem meets_WatermarkCommandsAct_2 :
    (asks 0x0602 (rq [] : Req) (wRun : State) = true) ∧
    (linkDown (wRun : State) = false) := by decide +kernel

theorem meets_WatermarkCommandsAct_3 :
    (asks 0x0601 (rq [] : Req) (onIsland (fun i => { i with linkUp := false }) wRun : State) = true) ∧
    (linkDown (onIsland (fun i => { i with linkUp := false }) wRun : State) = true) := by decide +kernel

theorem meets_WatermarkCommandsAct_4 :
    (asks 0x0602 (rq [] : Req) (onIsland (fun i => { i with linkUp := false }) wRun : State) = true) ∧
    (linkDown (onIsland (fun i => { i with linkUp := false }) wRun : State) = true) := by decide +kernel

theorem meets_WatermarkCommandsAct_5 :
    (asks 0x0603 (rq [] : Req) (wRun : State) = true) ∧
    ((wRun : State).island.linkUp = true) ∧
    (((wRun : State).island.running = true ∨ (wRun : State).island.failed = true)) := by decide +kernel

theorem meets_WatermarkCommandsAct_6 :
    (asks 0x0603 (rq [] : Req) (onIsland (fun i => { i with linkUp := false }) wRun : State) = true) ∧
    (((onIsland (fun i => { i with linkUp := false }) wRun : State).island.linkUp = false ∨ ((onIsland (fun i => { i with linkUp := false }) wRun : State).island.running = false ∧ (onIsland (fun i => { i with linkUp := false }) wRun : State).island.failed = false))) := by decide +kernel

theorem meets_WatermarkCommandsAct_7 :
    (asks 0x0604 (rq [] : Req) (onIsland (fun i => { i with sealPin := true }) wRun : State) = true) ∧
    (linkDown (onIsland (fun i => { i with sealPin := true }) wRun : State) = false) ∧
    ((onIsland (fun i => { i with sealPin := true }) wRun : State).sys.legal = true) ∧
    ((onIsland (fun i => { i with sealPin := true }) wRun : State).island.sealPin = true) ∧
    ((onIsland (fun i => { i with sealPin := true }) wRun : State).island.session = none) ∧
    ((onIsland (fun i => { i with sealPin := true }) wRun : State).island.trail.length ≤ 8064) := by decide +kernel

theorem meets_WatermarkCommandsAct_8 :
    (asks 0x0604 (rq [] : Req) (onSys (fun y => { y with legal := false, mode := .commission }) wRun : State) = true) ∧
    (linkDown (onSys (fun y => { y with legal := false, mode := .commission }) wRun : State) = false) ∧
    ((onSys (fun y => { y with legal := false, mode := .commission }) wRun : State).sys.legal = false) ∧
    ((onSys (fun y => { y with legal := false, mode := .commission }) wRun : State).sys.mode = .commission) ∧
    ((onSys (fun y => { y with legal := false, mode := .commission }) wRun : State).island.session = none) := by decide +kernel

theorem meets_WatermarkCommandsAct_9 :
    (asks 0x0604 (rq [] : Req) (onIsland (fun i => { i with linkUp := false }) wRun : State) = true) ∧
    (linkDown (onIsland (fun i => { i with linkUp := false }) wRun : State) = true) := by decide +kernel

theorem meets_WatermarkCommandsAct_10 :
    (asks 0x0604 (rq [] : Req) (onSys (fun y => { y with legal := false, mode := .run }) wRun : State) = true) ∧
    (linkDown (onSys (fun y => { y with legal := false, mode := .run }) wRun : State) = false) ∧
    ((onSys (fun y => { y with legal := false, mode := .run }) wRun : State).sys.legal = false) ∧
    ((onSys (fun y => { y with legal := false, mode := .run }) wRun : State).sys.mode ≠ .commission) := by decide +kernel

theorem meets_WatermarkCommandsAct_11 :
    (asks 0x0604 (rq [] : Req) (wRun : State) = true) ∧
    (linkDown (wRun : State) = false) ∧
    ((wRun : State).sys.legal = true) ∧
    ((wRun : State).island.sealPin = false) := by decide +kernel

theorem meets_WatermarkCommandsAct_12 :
    (asks 0x0604 (rq [] : Req) (wOpen : State) = true) ∧
    (linkDown (wOpen : State) = false) ∧
    ((wOpen : State).sys.legal = true) ∧
    ((wOpen : State).island.sealPin = true) ∧
    ((wOpen : State).island.session ≠ none) := by decide +kernel

theorem meets_WatermarkCommandsAct_13 :
    (asks 0x0604 (rq [] : Req) (onIsland (fun i => { i with sealPin := true, trail := List.replicate 8065 manufactured }) wRun : State) = true) ∧
    (linkDown (onIsland (fun i => { i with sealPin := true, trail := List.replicate 8065 manufactured }) wRun : State) = false) ∧
    ((onIsland (fun i => { i with sealPin := true, trail := List.replicate 8065 manufactured }) wRun : State).sys.legal = true) ∧
    ((onIsland (fun i => { i with sealPin := true, trail := List.replicate 8065 manufactured }) wRun : State).island.sealPin = true) ∧
    ((onIsland (fun i => { i with sealPin := true, trail := List.replicate 8065 manufactured }) wRun : State).island.session = none) ∧
    (8064 < (onIsland (fun i => { i with sealPin := true, trail := List.replicate 8065 manufactured }) wRun : State).island.trail.length) := by decide +kernel

theorem meets_WatermarkCommandsAct_14 :
    (asks 0x0605 (rq ([5, 0, 0, 0, 1, 0, 0, 0] ++ p4 8 ++ [1, 0, 0, 0, 0x23, 1, 0, 0]) : Req) (wRun : State) = true) ∧
    (ownSession (reqOrg 0x0605 (rq ([5, 0, 0, 0, 1, 0, 0, 0] ++ p4 8 ++ [1, 0, 0, 0, 0x23, 1, 0, 0]) : Req)) (wRun : State) = .inr (sSEALED : Nat)) := by decide +kernel

theorem meets_WatermarkCommandsAct_15 :
    (asks 0x0605 (rq ([5, 0, 0, 0, 1, 0, 0, 0] ++ p4 8 ++ [1, 0, 0, 0, 0x23, 1, 0, 0]) : Req) (wOpen : State) = true) ∧
    (ownSession (reqOrg 0x0605 (rq ([5, 0, 0, 0, 1, 0, 0, 0] ++ p4 8 ++ [1, 0, 0, 0, 0x23, 1, 0, 0]) : Req)) (wOpen : State) = .inl ({ owner := .spi } : PSession)) ∧
    (g4 (rq ([5, 0, 0, 0, 1, 0, 0, 0] ++ p4 8 ++ [1, 0, 0, 0, 0x23, 1, 0, 0]) : Req).payload 8 = ((rq ([5, 0, 0, 0, 1, 0, 0, 0] ++ p4 8 ++ [1, 0, 0, 0, 0x23, 1, 0, 0]) : Req).payload.drop 12).length) ∧
    (g1 (rq ([5, 0, 0, 0, 1, 0, 0, 0] ++ p4 8 ++ [1, 0, 0, 0, 0x23, 1, 0, 0]) : Req).payload 1 = 0) ∧
    (g2 (rq ([5, 0, 0, 0, 1, 0, 0, 0] ++ p4 8 ++ [1, 0, 0, 0, 0x23, 1, 0, 0]) : Req).payload 6 = 0) ∧
    (okIndex (g1 (rq ([5, 0, 0, 0, 1, 0, 0, 0] ++ p4 8 ++ [1, 0, 0, 0, 0x23, 1, 0, 0]) : Req).payload 0) (g2 (rq ([5, 0, 0, 0, 1, 0, 0, 0] ++ p4 8 ++ [1, 0, 0, 0, 0x23, 1, 0, 0]) : Req).payload 2) = true) ∧
    ((rq ([5, 0, 0, 0, 1, 0, 0, 0] ++ p4 8 ++ [1, 0, 0, 0, 0x23, 1, 0, 0]) : Req).payload.drop 12 ≠ []) ∧
    (okParam (g1 (rq ([5, 0, 0, 0, 1, 0, 0, 0] ++ p4 8 ++ [1, 0, 0, 0, 0x23, 1, 0, 0]) : Req).payload 0) (g2 (rq ([5, 0, 0, 0, 1, 0, 0, 0] ++ p4 8 ++ [1, 0, 0, 0, 0x23, 1, 0, 0]) : Req).payload 4) ((rq ([5, 0, 0, 0, 1, 0, 0, 0] ++ p4 8 ++ [1, 0, 0, 0, 0x23, 1, 0, 0]) : Req).payload.drop 12) = true) ∧
    (stageParam { cls := g1 (rq ([5, 0, 0, 0, 1, 0, 0, 0] ++ p4 8 ++ [1, 0, 0, 0, 0x23, 1, 0, 0]) : Req).payload 0, index := g2 (rq ([5, 0, 0, 0, 1, 0, 0, 0] ++ p4 8 ++ [1, 0, 0, 0, 0x23, 1, 0, 0]) : Req).payload 2, format := g2 (rq ([5, 0, 0, 0, 1, 0, 0, 0] ++ p4 8 ++ [1, 0, 0, 0, 0x23, 1, 0, 0]) : Req).payload 4, body := (rq ([5, 0, 0, 0, 1, 0, 0, 0] ++ p4 8 ++ [1, 0, 0, 0, 0x23, 1, 0, 0]) : Req).payload.drop 12 } { ({ owner := .spi } : PSession) with lastCmd := (wOpen : State).sys.devTime } = some ({ owner := .spi, staged := [{ cls := 5, index := 0, format := 1, body := [1, 0, 0, 0, 0x23, 1, 0, 0] }] } : PSession)) := by decide +kernel

theorem meets_WatermarkCommandsAct_16 :
    (asks 0x0605 (rq ([5, 0, 0, 0, 1, 0, 0, 0] ++ p4 0) : Req) (wOpen : State) = true) ∧
    (ownSession (reqOrg 0x0605 (rq ([5, 0, 0, 0, 1, 0, 0, 0] ++ p4 0) : Req)) (wOpen : State) = .inl ({ owner := .spi } : PSession)) ∧
    (g4 (rq ([5, 0, 0, 0, 1, 0, 0, 0] ++ p4 0) : Req).payload 8 = 0) ∧
    ((rq ([5, 0, 0, 0, 1, 0, 0, 0] ++ p4 0) : Req).payload.length = 12) ∧
    (g1 (rq ([5, 0, 0, 0, 1, 0, 0, 0] ++ p4 0) : Req).payload 1 = 0) ∧
    (g2 (rq ([5, 0, 0, 0, 1, 0, 0, 0] ++ p4 0) : Req).payload 6 = 0) ∧
    (okIndex (g1 (rq ([5, 0, 0, 0, 1, 0, 0, 0] ++ p4 0) : Req).payload 0) (g2 (rq ([5, 0, 0, 0, 1, 0, 0, 0] ++ p4 0) : Req).payload 2) = true) ∧
    ((committedSet (wOpen : State) ({ owner := .spi } : PSession)).any (fun x => x.cls == g1 (rq ([5, 0, 0, 0, 1, 0, 0, 0] ++ p4 0) : Req).payload 0 && x.index == g2 (rq ([5, 0, 0, 0, 1, 0, 0, 0] ++ p4 0) : Req).payload 2) = false) := by decide +kernel

theorem meets_WatermarkCommandsAct_17 :
    (asks 0x0605 (rq ([5, 0, 0, 0, 1, 0, 0, 0] ++ p4 0) : Req) ({ wTap with island := { wTap.island with sealPin := true, session := some { owner := .spi } } } : State) = true) ∧
    (ownSession (reqOrg 0x0605 (rq ([5, 0, 0, 0, 1, 0, 0, 0] ++ p4 0) : Req)) ({ wTap with island := { wTap.island with sealPin := true, session := some { owner := .spi } } } : State) = .inl ({ owner := .spi } : PSession)) ∧
    (g4 (rq ([5, 0, 0, 0, 1, 0, 0, 0] ++ p4 0) : Req).payload 8 = 0) ∧
    ((rq ([5, 0, 0, 0, 1, 0, 0, 0] ++ p4 0) : Req).payload.length = 12) ∧
    (g1 (rq ([5, 0, 0, 0, 1, 0, 0, 0] ++ p4 0) : Req).payload 1 = 0) ∧
    (g2 (rq ([5, 0, 0, 0, 1, 0, 0, 0] ++ p4 0) : Req).payload 6 = 0) ∧
    (okIndex (g1 (rq ([5, 0, 0, 0, 1, 0, 0, 0] ++ p4 0) : Req).payload 0) (g2 (rq ([5, 0, 0, 0, 1, 0, 0, 0] ++ p4 0) : Req).payload 2) = true) ∧
    ((committedSet ({ wTap with island := { wTap.island with sealPin := true, session := some { owner := .spi } } } : State) ({ owner := .spi } : PSession)).any (fun x => x.cls == g1 (rq ([5, 0, 0, 0, 1, 0, 0, 0] ++ p4 0) : Req).payload 0 && x.index == g2 (rq ([5, 0, 0, 0, 1, 0, 0, 0] ++ p4 0) : Req).payload 2) = true) := by decide +kernel

theorem meets_WatermarkCommandsAct_18 :
    (asks 0x0605 (rq ([5, 0, 1, 0, 1, 0, 0, 0] ++ p4 8 ++ [1, 0, 0, 0, 0x23, 1, 0, 0]) : Req) (wOpen : State) = true) ∧
    (ownSession (reqOrg 0x0605 (rq ([5, 0, 1, 0, 1, 0, 0, 0] ++ p4 8 ++ [1, 0, 0, 0, 0x23, 1, 0, 0]) : Req)) (wOpen : State) = .inl ({ owner := .spi } : PSession)) ∧
    ((g4 (rq ([5, 0, 1, 0, 1, 0, 0, 0] ++ p4 8 ++ [1, 0, 0, 0, 0x23, 1, 0, 0]) : Req).payload 8 ≠ ((rq ([5, 0, 1, 0, 1, 0, 0, 0] ++ p4 8 ++ [1, 0, 0, 0, 0x23, 1, 0, 0]) : Req).payload.drop 12).length ∨ g1 (rq ([5, 0, 1, 0, 1, 0, 0, 0] ++ p4 8 ++ [1, 0, 0, 0, 0x23, 1, 0, 0]) : Req).payload 1 ≠ 0 ∨ g2 (rq ([5, 0, 1, 0, 1, 0, 0, 0] ++ p4 8 ++ [1, 0, 0, 0, 0x23, 1, 0, 0]) : Req).payload 6 ≠ 0 ∨ okIndex (g1 (rq ([5, 0, 1, 0, 1, 0, 0, 0] ++ p4 8 ++ [1, 0, 0, 0, 0x23, 1, 0, 0]) : Req).payload 0) (g2 (rq ([5, 0, 1, 0, 1, 0, 0, 0] ++ p4 8 ++ [1, 0, 0, 0, 0x23, 1, 0, 0]) : Req).payload 2) = false)) := by decide +kernel

theorem meets_WatermarkCommandsAct_19 :
    (asks 0x0605 (rq ([5, 0, 0, 0, 1, 0, 0, 0] ++ p4 8 ++ [2, 0, 0, 0, 0x23, 1, 0, 0]) : Req) (wOpen : State) = true) ∧
    (ownSession (reqOrg 0x0605 (rq ([5, 0, 0, 0, 1, 0, 0, 0] ++ p4 8 ++ [2, 0, 0, 0, 0x23, 1, 0, 0]) : Req)) (wOpen : State) = .inl ({ owner := .spi } : PSession)) ∧
    (g4 (rq ([5, 0, 0, 0, 1, 0, 0, 0] ++ p4 8 ++ [2, 0, 0, 0, 0x23, 1, 0, 0]) : Req).payload 8 = ((rq ([5, 0, 0, 0, 1, 0, 0, 0] ++ p4 8 ++ [2, 0, 0, 0, 0x23, 1, 0, 0]) : Req).payload.drop 12).length) ∧
    (g1 (rq ([5, 0, 0, 0, 1, 0, 0, 0] ++ p4 8 ++ [2, 0, 0, 0, 0x23, 1, 0, 0]) : Req).payload 1 = 0) ∧
    (g2 (rq ([5, 0, 0, 0, 1, 0, 0, 0] ++ p4 8 ++ [2, 0, 0, 0, 0x23, 1, 0, 0]) : Req).payload 6 = 0) ∧
    (okIndex (g1 (rq ([5, 0, 0, 0, 1, 0, 0, 0] ++ p4 8 ++ [2, 0, 0, 0, 0x23, 1, 0, 0]) : Req).payload 0) (g2 (rq ([5, 0, 0, 0, 1, 0, 0, 0] ++ p4 8 ++ [2, 0, 0, 0, 0x23, 1, 0, 0]) : Req).payload 2) = true) ∧
    ((rq ([5, 0, 0, 0, 1, 0, 0, 0] ++ p4 8 ++ [2, 0, 0, 0, 0x23, 1, 0, 0]) : Req).payload.drop 12 ≠ []) ∧
    (okParam (g1 (rq ([5, 0, 0, 0, 1, 0, 0, 0] ++ p4 8 ++ [2, 0, 0, 0, 0x23, 1, 0, 0]) : Req).payload 0) (g2 (rq ([5, 0, 0, 0, 1, 0, 0, 0] ++ p4 8 ++ [2, 0, 0, 0, 0x23, 1, 0, 0]) : Req).payload 4) ((rq ([5, 0, 0, 0, 1, 0, 0, 0] ++ p4 8 ++ [2, 0, 0, 0, 0x23, 1, 0, 0]) : Req).payload.drop 12) = false) := by decide +kernel

theorem meets_WatermarkCommandsAct_20 :
    (asks 0x0605 (rq ([5, 0, 0, 0, 1, 0, 0, 0] ++ p4 8 ++ [1, 0, 0, 0, 0x23, 1, 0, 0]) : Req) (onIsland (fun i => { i with sealPin := true, session := some { owner := .spi, staged := (List.range 64).map (fun i => ({ cls := 1, index := i, format := 1, body := zeros 4000 } : IParam)) } }) wRun : State) = true) ∧
    (ownSession (reqOrg 0x0605 (rq ([5, 0, 0, 0, 1, 0, 0, 0] ++ p4 8 ++ [1, 0, 0, 0, 0x23, 1, 0, 0]) : Req)) (onIsland (fun i => { i with sealPin := true, session := some { owner := .spi, staged := (List.range 64).map (fun i => ({ cls := 1, index := i, format := 1, body := zeros 4000 } : IParam)) } }) wRun : State) = .inl ({ owner := .spi, staged := (List.range 64).map (fun i => ({ cls := 1, index := i, format := 1, body := zeros 4000 } : IParam)) } : PSession)) ∧
    (g4 (rq ([5, 0, 0, 0, 1, 0, 0, 0] ++ p4 8 ++ [1, 0, 0, 0, 0x23, 1, 0, 0]) : Req).payload 8 = ((rq ([5, 0, 0, 0, 1, 0, 0, 0] ++ p4 8 ++ [1, 0, 0, 0, 0x23, 1, 0, 0]) : Req).payload.drop 12).length) ∧
    (g1 (rq ([5, 0, 0, 0, 1, 0, 0, 0] ++ p4 8 ++ [1, 0, 0, 0, 0x23, 1, 0, 0]) : Req).payload 1 = 0) ∧
    (g2 (rq ([5, 0, 0, 0, 1, 0, 0, 0] ++ p4 8 ++ [1, 0, 0, 0, 0x23, 1, 0, 0]) : Req).payload 6 = 0) ∧
    (okIndex (g1 (rq ([5, 0, 0, 0, 1, 0, 0, 0] ++ p4 8 ++ [1, 0, 0, 0, 0x23, 1, 0, 0]) : Req).payload 0) (g2 (rq ([5, 0, 0, 0, 1, 0, 0, 0] ++ p4 8 ++ [1, 0, 0, 0, 0x23, 1, 0, 0]) : Req).payload 2) = true) ∧
    ((rq ([5, 0, 0, 0, 1, 0, 0, 0] ++ p4 8 ++ [1, 0, 0, 0, 0x23, 1, 0, 0]) : Req).payload.drop 12 ≠ []) ∧
    (okParam (g1 (rq ([5, 0, 0, 0, 1, 0, 0, 0] ++ p4 8 ++ [1, 0, 0, 0, 0x23, 1, 0, 0]) : Req).payload 0) (g2 (rq ([5, 0, 0, 0, 1, 0, 0, 0] ++ p4 8 ++ [1, 0, 0, 0, 0x23, 1, 0, 0]) : Req).payload 4) ((rq ([5, 0, 0, 0, 1, 0, 0, 0] ++ p4 8 ++ [1, 0, 0, 0, 0x23, 1, 0, 0]) : Req).payload.drop 12) = true) ∧
    (stageParam { cls := g1 (rq ([5, 0, 0, 0, 1, 0, 0, 0] ++ p4 8 ++ [1, 0, 0, 0, 0x23, 1, 0, 0]) : Req).payload 0, index := g2 (rq ([5, 0, 0, 0, 1, 0, 0, 0] ++ p4 8 ++ [1, 0, 0, 0, 0x23, 1, 0, 0]) : Req).payload 2, format := g2 (rq ([5, 0, 0, 0, 1, 0, 0, 0] ++ p4 8 ++ [1, 0, 0, 0, 0x23, 1, 0, 0]) : Req).payload 4, body := (rq ([5, 0, 0, 0, 1, 0, 0, 0] ++ p4 8 ++ [1, 0, 0, 0, 0x23, 1, 0, 0]) : Req).payload.drop 12 } { ({ owner := .spi, staged := (List.range 64).map (fun i => ({ cls := 1, index := i, format := 1, body := zeros 4000 } : IParam)) } : PSession) with lastCmd := (onIsland (fun i => { i with sealPin := true, session := some { owner := .spi, staged := (List.range 64).map (fun i => ({ cls := 1, index := i, format := 1, body := zeros 4000 } : IParam)) } }) wRun : State).sys.devTime } = none) := by decide +kernel

theorem meets_WatermarkCommandsAct_21 :
    (asks 0x0606 (rq [] : Req) (wRun : State) = true) ∧
    (ownSession (reqOrg 0x0606 (rq [] : Req)) (wRun : State) = .inr (sSEALED : Nat)) := by decide +kernel

theorem meets_WatermarkCommandsAct_22 :
    (asks 0x0606 (rq [] : Req) (onPower (fun w => { w with energy := 10 ^ 18 }) wOpen : State) = true) ∧
    (ownSession (reqOrg 0x0606 (rq [] : Req)) (onPower (fun w => { w with energy := 10 ^ 18 }) wOpen : State) = .inl ({ owner := .spi } : PSession)) ∧
    (gtMissing (committedSet (onPower (fun w => { w with energy := 10 ^ 18 }) wOpen : State) ({ owner := .spi } : PSession)) = false) ∧
    (canStore (.islandParam none) (onPower (fun w => { w with energy := 10 ^ 18 }) wOpen : State) = true) := by decide +kernel

theorem meets_WatermarkCommandsAct_23 :
    (asks 0x0606 (rq [] : Req) (onPower (fun w => { w with energy := 0 }) wOpen : State) = true) ∧
    (ownSession (reqOrg 0x0606 (rq [] : Req)) (onPower (fun w => { w with energy := 0 }) wOpen : State) = .inl ({ owner := .spi } : PSession)) ∧
    (gtMissing (committedSet (onPower (fun w => { w with energy := 0 }) wOpen : State) ({ owner := .spi } : PSession)) = false) ∧
    (canStore (.islandParam none) (onPower (fun w => { w with energy := 0 }) wOpen : State) = false) := by decide +kernel

theorem meets_WatermarkCommandsAct_24 :
    (asks 0x0606 (rq [] : Req) (onIsland (fun i => { i with sealPin := true, session := some { owner := .spi, staged := [{ cls := 1, index := 0, format := 1, body := (zeros 18 ++ [1, 1] ++ zeros 108) }] } }) wRun : State) = true) ∧
    (ownSession (reqOrg 0x0606 (rq [] : Req)) (onIsland (fun i => { i with sealPin := true, session := some { owner := .spi, staged := [{ cls := 1, index := 0, format := 1, body := (zeros 18 ++ [1, 1] ++ zeros 108) }] } }) wRun : State) = .inl ({ owner := .spi, staged := [{ cls := 1, index := 0, format := 1, body := (zeros 18 ++ [1, 1] ++ zeros 108) }] } : PSession)) ∧
    (gtMissing (committedSet (onIsland (fun i => { i with sealPin := true, session := some { owner := .spi, staged := [{ cls := 1, index := 0, format := 1, body := (zeros 18 ++ [1, 1] ++ zeros 108) }] } }) wRun : State) ({ owner := .spi, staged := [{ cls := 1, index := 0, format := 1, body := (zeros 18 ++ [1, 1] ++ zeros 108) }] } : PSession)) = true) := by decide +kernel

theorem meets_WatermarkCommandsAct_25 :
    (asks 0x0607 (rq [] : Req) (wRun : State) = true) ∧
    (ownSession (reqOrg 0x0607 (rq [] : Req)) (wRun : State) = .inr (sSEALED : Nat)) := by decide +kernel

theorem meets_WatermarkCommandsAct_26 :
    (asks 0x0607 (rq [] : Req) (wOpen : State) = true) ∧
    (ownSession (reqOrg 0x0607 (rq [] : Req)) (wOpen : State) = .inl ({ owner := .spi } : PSession)) := by decide +kernel

theorem meets_WatermarkCommandsAct_27 :
    (asks 0x0608 (rq [5, 0, 0, 0] : Req) (onIsland (fun i => { i with linkUp := false }) wRun : State) = true) ∧
    (linkDown (onIsland (fun i => { i with linkUp := false }) wRun : State) = true) := by decide +kernel

theorem meets_WatermarkCommandsAct_28 :
    (asks 0x0608 (rq [5, 0, 1, 0] : Req) (wRun : State) = true) ∧
    (linkDown (wRun : State) = false) ∧
    ((g1 (rq [5, 0, 1, 0] : Req).payload 1 ≠ 0 ∨ okIndex (g1 (rq [5, 0, 1, 0] : Req).payload 0) (g2 (rq [5, 0, 1, 0] : Req).payload 2) = false)) := by decide +kernel

theorem meets_WatermarkCommandsAct_29 :
    (asks 0x0608 (rq [5, 0, 0, 0] : Req) (wRun : State) = true) ∧
    (linkDown (wRun : State) = false) ∧
    (g1 (rq [5, 0, 0, 0] : Req).payload 1 = 0) ∧
    (okIndex (g1 (rq [5, 0, 0, 0] : Req).payload 0) (g2 (rq [5, 0, 0, 0] : Req).payload 2) = true) ∧
    (paramObj (wRun : State) (g1 (rq [5, 0, 0, 0] : Req).payload 0) (g2 (rq [5, 0, 0, 0] : Req).payload 2) = none) := by decide +kernel

theorem meets_WatermarkCommandsAct_30 :
    (asks 0x0608 (rq [5, 0, 0, 0] : Req) (wTap : State) = true) ∧
    (linkDown (wTap : State) = false) ∧
    (g1 (rq [5, 0, 0, 0] : Req).payload 1 = 0) ∧
    (okIndex (g1 (rq [5, 0, 0, 0] : Req).payload 0) (g2 (rq [5, 0, 0, 0] : Req).payload 2) = true) ∧
    (paramObj (wTap : State) (g1 (rq [5, 0, 0, 0] : Req).payload 0) (g2 (rq [5, 0, 0, 0] : Req).payload 2) = some ({ cls := 5, index := 0, format := 1, body := [1, 0, 0, 0, 0x23, 1, 0, 0] } : IParam)) := by decide +kernel

theorem meets_WatermarkCommandsAct_31 :
    (asks 0x0609 (rq (p4 0 ++ p2 4 ++ zeros 2 ++ p8 99) : Req) (onIsland (fun i => { i with linkUp := false }) wRun : State) = true) ∧
    (linkDown (onIsland (fun i => { i with linkUp := false }) wRun : State) = true) := by decide +kernel

theorem meets_WatermarkCommandsAct_32 :
    (asks 0x0609 (rq (p4 0 ++ p2 0 ++ zeros 2 ++ p8 99) : Req) (wRun : State) = true) ∧
    (linkDown (wRun : State) = false) ∧
    ((g2 (rq (p4 0 ++ p2 0 ++ zeros 2 ++ p8 99) : Req).payload 4 = 0 ∨ 256 < g2 (rq (p4 0 ++ p2 0 ++ zeros 2 ++ p8 99) : Req).payload 4 ∨ g2 (rq (p4 0 ++ p2 0 ++ zeros 2 ++ p8 99) : Req).payload 6 ≠ 0)) := by decide +kernel

theorem meets_WatermarkCommandsAct_33 :
    (asks 0x0609 (rq (p4 9 ++ p2 4 ++ zeros 2 ++ p8 99) : Req) (wRun : State) = true) ∧
    (linkDown (wRun : State) = false) ∧
    (1 ≤ g2 (rq (p4 9 ++ p2 4 ++ zeros 2 ++ p8 99) : Req).payload 4) ∧
    (g2 (rq (p4 9 ++ p2 4 ++ zeros 2 ++ p8 99) : Req).payload 4 ≤ 256) ∧
    (g2 (rq (p4 9 ++ p2 4 ++ zeros 2 ++ p8 99) : Req).payload 6 = 0) ∧
    ((wRun : State).island.trail.length ≤ g4 (rq (p4 9 ++ p2 4 ++ zeros 2 ++ p8 99) : Req).payload 0) := by decide +kernel

theorem meets_WatermarkCommandsAct_34 :
    (asks 0x0609 (rq (p4 0 ++ p2 4 ++ zeros 2 ++ p8 99) : Req) (wRun : State) = true) ∧
    ((wRun : State).sys.legal = true) ∧
    (linkDown (wRun : State) = false) ∧
    (1 ≤ g2 (rq (p4 0 ++ p2 4 ++ zeros 2 ++ p8 99) : Req).payload 4) ∧
    (g2 (rq (p4 0 ++ p2 4 ++ zeros 2 ++ p8 99) : Req).payload 4 ≤ 256) ∧
    (g2 (rq (p4 0 ++ p2 4 ++ zeros 2 ++ p8 99) : Req).payload 6 = 0) ∧
    (g4 (rq (p4 0 ++ p2 4 ++ zeros 2 ++ p8 99) : Req).payload 0 < (wRun : State).island.trail.length) ∧
    (([manufactured] : List Audit) = ((wRun : State).island.trail.reverse.drop (g4 (rq (p4 0 ++ p2 4 ++ zeros 2 ++ p8 99) : Req).payload 0)).take (g2 (rq (p4 0 ++ p2 4 ++ zeros 2 ++ p8 99) : Req).payload 4)) := by decide +kernel

theorem meets_WatermarkCommandsAct_35 :
    (asks 0x060A (rq [1, 1, 0, 0] : Req) (onIsland (fun i => { i with linkUp := false }) wRun : State) = true) ∧
    (linkDown (onIsland (fun i => { i with linkUp := false }) wRun : State) = true) := by decide +kernel

theorem meets_WatermarkCommandsAct_36 :
    (asks 0x060A (rq [5, 1, 0, 0] : Req) (wRun : State) = true) ∧
    (linkDown (wRun : State) = false) ∧
    ((4 < g1 (rq [5, 1, 0, 0] : Req).payload 0 ∨ g2 (rq [5, 1, 0, 0] : Req).payload 2 ≠ 0)) := by decide +kernel

theorem meets_WatermarkCommandsAct_37 :
    (asks 0x060A (rq [1, 1, 0, 0] : Req) (wRun : State) = true) ∧
    (linkDown (wRun : State) = false) ∧
    (g1 (rq [1, 1, 0, 0] : Req).payload 0 ≤ 4) ∧
    (g2 (rq [1, 1, 0, 0] : Req).payload 2 = 0) ∧
    (tfind (wRun : State).island.latest (g1 (rq [1, 1, 0, 0] : Req).payload 0 * 256 + g1 (rq [1, 1, 0, 0] : Req).payload 1) = none) := by decide +kernel

theorem meets_WatermarkCommandsAct_38 :
    (asks 0x060A (rq [1, 1, 0, 0] : Req) (onIsland (fun i => { i with latest := [(257, zeros 128)] }) wRun : State) = true) ∧
    (linkDown (onIsland (fun i => { i with latest := [(257, zeros 128)] }) wRun : State) = false) ∧
    (g1 (rq [1, 1, 0, 0] : Req).payload 0 ≤ 4) ∧
    (g2 (rq [1, 1, 0, 0] : Req).payload 2 = 0) ∧
    (tfind (onIsland (fun i => { i with latest := [(257, zeros 128)] }) wRun : State).island.latest (g1 (rq [1, 1, 0, 0] : Req).payload 0 * 256 + g1 (rq [1, 1, 0, 0] : Req).payload 1) = some (zeros 128 : List Byte)) := by decide +kernel

theorem meets_MoistureEngineActs_1 :
    ((onEngine (fun e => { e with lastLoopDev := some 0 }) wMst : State) = (if (onEngine (fun e => { e with lastLoopDev := some 0 }) wMst : State).sys.devTime - 100000000 < (onEngine (fun e => { e with lastLoopDev := some 0 }) wMst : State).island.committedAt then onIsland (fun i => { i with params := paramsAt (onEngine (fun e => { e with lastLoopDev := some 0 }) wMst : State) ((onEngine (fun e => { e with lastLoopDev := some 0 }) wMst : State).sys.devTime - 100000000) }) (onEngine (fun e => { e with lastLoopDev := some 0 }) wMst : State) else (onEngine (fun e => { e with lastLoopDev := some 0 }) wMst : State))) ∧
    (sweeping (onEngine (fun e => { e with lastLoopDev := some 0 }) wMst : State) = true) ∧
    (loopDue (onEngine (fun e => { e with lastLoopDev := some 0 }) wMst : State) ((onEngine (fun e => { e with lastLoopDev := some 0 }) wMst : State).sys.devTime - 100000000) = false) := by decide +kernel

theorem meets_MoistureEngineActs_2 :
    ((wMst : State) = (if (wMst : State).sys.devTime - 100000000 < (wMst : State).island.committedAt then onIsland (fun i => { i with params := paramsAt (wMst : State) ((wMst : State).sys.devTime - 100000000) }) (wMst : State) else (wMst : State))) ∧
    (sweeping (wMst : State) = true) ∧
    ((wMst : State).sys.mode ≠ .still) ∧
    (loopDue (wMst : State) ((wMst : State).sys.devTime - 100000000) = true) := by decide +kernel

theorem meets_MoistureEngineActs_3 :
    ((wMode .still { wMst with cfg := { wMst.cfg with active := [wStnP 31 0x20 6 [0] ([0, 0, 1] ++ zeros 13)] } } : State) = (if (wMode .still { wMst with cfg := { wMst.cfg with active := [wStnP 31 0x20 6 [0] ([0, 0, 1] ++ zeros 13)] } } : State).sys.devTime - 100000000 < (wMode .still { wMst with cfg := { wMst.cfg with active := [wStnP 31 0x20 6 [0] ([0, 0, 1] ++ zeros 13)] } } : State).island.committedAt then onIsland (fun i => { i with params := paramsAt (wMode .still { wMst with cfg := { wMst.cfg with active := [wStnP 31 0x20 6 [0] ([0, 0, 1] ++ zeros 13)] } } : State) ((wMode .still { wMst with cfg := { wMst.cfg with active := [wStnP 31 0x20 6 [0] ([0, 0, 1] ++ zeros 13)] } } : State).sys.devTime - 100000000) }) (wMode .still { wMst with cfg := { wMst.cfg with active := [wStnP 31 0x20 6 [0] ([0, 0, 1] ++ zeros 13)] } } : State) else (wMode .still { wMst with cfg := { wMst.cfg with active := [wStnP 31 0x20 6 [0] ([0, 0, 1] ++ zeros 13)] } } : State))) ∧
    (sweeping (wMode .still { wMst with cfg := { wMst.cfg with active := [wStnP 31 0x20 6 [0] ([0, 0, 1] ++ zeros 13)] } } : State) = true) ∧
    ((wMode .still { wMst with cfg := { wMst.cfg with active := [wStnP 31 0x20 6 [0] ([0, 0, 1] ++ zeros 13)] } } : State).sys.mode = .still) ∧
    (loopDue (wMode .still { wMst with cfg := { wMst.cfg with active := [wStnP 31 0x20 6 [0] ([0, 0, 1] ++ zeros 13)] } } : State) ((wMode .still { wMst with cfg := { wMst.cfg with active := [wStnP 31 0x20 6 [0] ([0, 0, 1] ++ zeros 13)] } } : State).sys.devTime - 100000000) = true) := by decide +kernel

theorem meets_MoistureEngineActs_4 :
    (sweeping (wRun : State) = false) ∧
    ((wRun : State).island.committedAt ≤ (wRun : State).sys.devTime - 100000000) := by decide +kernel

theorem meets_MoistureEngineActs_5 :
    (islandUp (onPower (fun w => { w with sensors := tset w.sensors 12 { raw := 120000 } }) wMst : State) = true) ∧
    ((onPower (fun w => { w with sensors := tset w.sensors 12 { raw := 120000 } }) wMst : State).engine.st ≠ 4) ∧
    ((120000 : Int) = (tget (onPower (fun w => { w with sensors := tset w.sensors 12 { raw := 120000 } }) wMst : State).power.sensors 12).raw) ∧
    (((tget wMst.power.sensors 13).raw : Int) = (tget (onPower (fun w => { w with sensors := tset w.sensors 12 { raw := 120000 } }) wMst : State).power.sensors 13).raw) ∧
    ((120000 ≤ (120000 : Int) ∨ 120000 ≤ ((tget wMst.power.sensors 13).raw : Int))) := by decide +kernel

theorem meets_MoistureEngineActs_6 :
    ((islandUp (wMst : State) = false ∨ (wMst : State).engine.st = 4 ∨ ((tget (wMst : State).power.sensors 12).raw < 120000 ∧ (tget (wMst : State).power.sensors 13).raw < 120000))) := by decide +kernel

theorem meets_MoistureEngineActs_7 :
    ((onEngine (fun e => { e with st := 4 }) wMst : State).engine.st = 4) ∧
    (((tget wMst.power.sensors 12).raw : Int) = (tget (onEngine (fun e => { e with st := 4 }) wMst : State).power.sensors 12).raw) ∧
    (((tget wMst.power.sensors 13).raw : Int) = (tget (onEngine (fun e => { e with st := 4 }) wMst : State).power.sensors 13).raw) ∧
    (((tget wMst.power.sensors 12).raw : Int) < 110000) ∧
    (((tget wMst.power.sensors 13).raw : Int) < 110000) := by decide +kernel

theorem meets_MoistureEngineActs_8 :
    (((wMst : State).engine.st ≠ 4 ∨ 110000 ≤ (tget (wMst : State).power.sensors 12).raw ∨ 110000 ≤ (tget (wMst : State).power.sensors 13).raw)) := by decide +kernel

theorem meets_MoistureEngineActs_9 :
    ((onEngine (fun e => { e with st := 3, capture := some ({ side := .spi, sluice := 1, tag := 7, code := 0x0702 }, 100000, 10000, 0) }) wOpen : State).engine.capture = some (({ side := .spi, sluice := 1, tag := 7, code := 0x0702 } : Org), (100000 : Nat), (10000 : Nat), (0 : Nat))) ∧
    ((onEngine (fun e => { e with st := 3, capture := some ({ side := .spi, sluice := 1, tag := 7, code := 0x0702 }, 100000, 10000, 0) }) wOpen : State).island.session = some ({ owner := .spi } : PSession)) ∧
    ((onEngine (fun e => { e with st := 3, capture := some ({ side := .spi, sluice := 1, tag := 7, code := 0x0702 }, 100000, 10000, 0) }) wOpen : State).engine.st ≠ 4) ∧
    (islandUp (onEngine (fun e => { e with st := 3, capture := some ({ side := .spi, sluice := 1, tag := 7, code := 0x0702 }, 100000, 10000, 0) }) wOpen : State) = true) := by decide +kernel

theorem meets_MoistureEngineActs_10 :
    (((onEngine (fun e => { e with captureCut := true }) wRun : State).engine.capture = none ∨ (onEngine (fun e => { e with captureCut := true }) wRun : State).island.session = none)) ∧
    ((onEngine (fun e => { e with captureCut := true }) wRun : State).engine.captureCut = true) ∧
    (islandUp (onEngine (fun e => { e with captureCut := true }) wRun : State) = true) := by decide +kernel

theorem meets_MoistureEngineActs_11 :
    ((islandUp (wRun : State) = false ∨ ((wRun : State).engine.capture = none ∧ (wRun : State).engine.captureCut = false) ∨ ((wRun : State).engine.capture ≠ none ∧ (wRun : State).island.session ≠ none ∧ (wRun : State).engine.st = 4))) := by decide +kernel

theorem meets_MoistureEngineActs_12 :
    (asks 0x0701 (rq [] : Req) (wMst : State) = true) ∧
    (linkDown (wMst : State) = false) ∧
    ((wMst.engine : Engine) = (wMst : State).engine) := by decide +kernel

theorem meets_MoistureEngineActs_13 :
    (asks 0x0701 (rq [] : Req) (onIsland (fun i => { i with linkUp := false }) wMst : State) = true) ∧
    (linkDown (onIsland (fun i => { i with linkUp := false }) wMst : State) = true) := by decide +kernel

theorem meets_MoistureEngineActs_14 :
    (asks 0x0702 (rq (p4 100000 ++ p2 10000 ++ p2 0) : Req) (wOpen : State) = true) ∧
    (linkDown (wOpen : State) = false) ∧
    (((wOpen : State).sys.legal = false ∨ (wOpen : State).island.sealPin = true)) ∧
    ((wOpen : State).island.session = some ({ owner := .spi } : PSession)) ∧
    (({ owner := .spi } : PSession).owner = (rq (p4 100000 ++ p2 10000 ++ p2 0) : Req).side) ∧
    (({ owner := .spi } : PSession).queued = false) ∧
    (({ owner := .spi } : PSession).writing = false) ∧
    ((wOpen : State).engine.capture = none) ∧
    ((wOpen : State).engine.loopForced = none) ∧
    (20000 ≤ g4 (rq (p4 100000 ++ p2 10000 ++ p2 0) : Req).payload 0) ∧
    (g4 (rq (p4 100000 ++ p2 10000 ++ p2 0) : Req).payload 0 ≤ 1000000) ∧
    (1000 ≤ g2 (rq (p4 100000 ++ p2 10000 ++ p2 0) : Req).payload 4) ∧
    (g2 (rq (p4 100000 ++ p2 10000 ++ p2 0) : Req).payload 4 ≤ 10000) ∧
    (g2 (rq (p4 100000 ++ p2 10000 ++ p2 0) : Req).payload 6 ≤ 10000) := by decide +kernel

theorem meets_MoistureEngineActs_15 :
    (asks 0x0702 (rq (p4 100000 ++ p2 10000 ++ p2 0) : Req) (onIsland (fun i => { i with linkUp := false }) wMst : State) = true) ∧
    (linkDown (onIsland (fun i => { i with linkUp := false }) wMst : State) = true) := by decide +kernel

theorem meets_MoistureEngineActs_16 :
    (asks 0x0702 (rq (p4 100000 ++ p2 10000 ++ p2 0) : Req) (wRun : State) = true) ∧
    (linkDown (wRun : State) = false) ∧
    ((wRun : State).sys.legal = true) ∧
    ((wRun : State).island.sealPin = false) := by decide +kernel

theorem meets_MoistureEngineActs_17 :
    (asks 0x0702 (rq (p4 100 ++ p2 10000 ++ p2 0) : Req) (wOpen : State) = true) ∧
    (linkDown (wOpen : State) = false) ∧
    (((wOpen : State).sys.legal = false ∨ (wOpen : State).island.sealPin = true)) ∧
    (((wOpen : State).island.session = none ∨ ((wOpen : State).island.session.map (·.owner)) ≠ some (rq (p4 100 ++ p2 10000 ++ p2 0) : Req).side ∨ g4 (rq (p4 100 ++ p2 10000 ++ p2 0) : Req).payload 0 < 20000 ∨ 1000000 < g4 (rq (p4 100 ++ p2 10000 ++ p2 0) : Req).payload 0 ∨ g2 (rq (p4 100 ++ p2 10000 ++ p2 0) : Req).payload 4 < 1000 ∨ 10000 < g2 (rq (p4 100 ++ p2 10000 ++ p2 0) : Req).payload 4 ∨ 10000 < g2 (rq (p4 100 ++ p2 10000 ++ p2 0) : Req).payload 6)) := by decide +kernel

theorem meets_MoistureEngineActs_18 :
    (asks 0x0702 (rq (p4 100000 ++ p2 10000 ++ p2 0) : Req) (onEngine (fun e => { e with st := 3, capture := some ({ side := .spi, sluice := 1, tag := 7, code := 0x0702 }, 100000, 10000, 0) }) wOpen : State) = true) ∧
    (linkDown (onEngine (fun e => { e with st := 3, capture := some ({ side := .spi, sluice := 1, tag := 7, code := 0x0702 }, 100000, 10000, 0) }) wOpen : State) = false) ∧
    (((onEngine (fun e => { e with st := 3, capture := some ({ side := .spi, sluice := 1, tag := 7, code := 0x0702 }, 100000, 10000, 0) }) wOpen : State).sys.legal = false ∨ (onEngine (fun e => { e with st := 3, capture := some ({ side := .spi, sluice := 1, tag := 7, code := 0x0702 }, 100000, 10000, 0) }) wOpen : State).island.sealPin = true)) ∧
    ((onEngine (fun e => { e with st := 3, capture := some ({ side := .spi, sluice := 1, tag := 7, code := 0x0702 }, 100000, 10000, 0) }) wOpen : State).island.session = some ({ owner := .spi } : PSession)) ∧
    (({ owner := .spi } : PSession).owner = (rq (p4 100000 ++ p2 10000 ++ p2 0) : Req).side) ∧
    (20000 ≤ g4 (rq (p4 100000 ++ p2 10000 ++ p2 0) : Req).payload 0) ∧
    (g4 (rq (p4 100000 ++ p2 10000 ++ p2 0) : Req).payload 0 ≤ 1000000) ∧
    (1000 ≤ g2 (rq (p4 100000 ++ p2 10000 ++ p2 0) : Req).payload 4) ∧
    (g2 (rq (p4 100000 ++ p2 10000 ++ p2 0) : Req).payload 4 ≤ 10000) ∧
    (g2 (rq (p4 100000 ++ p2 10000 ++ p2 0) : Req).payload 6 ≤ 10000) ∧
    ((({ owner := .spi } : PSession).queued = true ∨ ({ owner := .spi } : PSession).writing = true ∨ (onEngine (fun e => { e with st := 3, capture := some ({ side := .spi, sluice := 1, tag := 7, code := 0x0702 }, 100000, 10000, 0) }) wOpen : State).engine.capture ≠ none ∨ (onEngine (fun e => { e with st := 3, capture := some ({ side := .spi, sluice := 1, tag := 7, code := 0x0702 }, 100000, 10000, 0) }) wOpen : State).engine.loopForced ≠ none)) := by decide +kernel

theorem meets_MoistureEngineActs_19 :
    (asks 0x0703 (rq [] : Req) (onEngine (fun e => { e with hasInterval := true }) wMst : State) = true) ∧
    (linkDown (onEngine (fun e => { e with hasInterval := true }) wMst : State) = false) ∧
    ((onEngine (fun e => { e with hasInterval := true }) wMst : State).engine.st ≠ 4) ∧
    ((onEngine (fun e => { e with hasInterval := true }) wMst : State).engine.capture = none) ∧
    ((onEngine (fun e => { e with hasInterval := true }) wMst : State).engine.loopForced = none) ∧
    (applicator (onEngine (fun e => { e with hasInterval := true }) wMst : State) ≠ []) ∧
    ((onEngine (fun e => { e with hasInterval := true }) wMst : State).engine.hasInterval = true) := by decide +kernel

theorem meets_MoistureEngineActs_20 :
    (asks 0x0703 (rq [] : Req) (onIsland (fun i => { i with linkUp := false }) wMst : State) = true) ∧
    (linkDown (onIsland (fun i => { i with linkUp := false }) wMst : State) = true) := by decide +kernel

theorem meets_MoistureEngineActs_21 :
    (asks 0x0703 (rq [] : Req) (onEngine (fun e => { e with st := 4 }) wMst : State) = true) ∧
    (linkDown (onEngine (fun e => { e with st := 4 }) wMst : State) = false) ∧
    ((onEngine (fun e => { e with st := 4 }) wMst : State).engine.st = 4) := by decide +kernel

theorem meets_MoistureEngineActs_22 :
    (asks 0x0703 (rq [] : Req) (onEngine (fun e => { e with st := 3, capture := some ({ side := .spi, sluice := 1, tag := 7, code := 0x0702 }, 100000, 10000, 0) }) wMst : State) = true) ∧
    (linkDown (onEngine (fun e => { e with st := 3, capture := some ({ side := .spi, sluice := 1, tag := 7, code := 0x0702 }, 100000, 10000, 0) }) wMst : State) = false) ∧
    ((onEngine (fun e => { e with st := 3, capture := some ({ side := .spi, sluice := 1, tag := 7, code := 0x0702 }, 100000, 10000, 0) }) wMst : State).engine.st ≠ 4) ∧
    (((onEngine (fun e => { e with st := 3, capture := some ({ side := .spi, sluice := 1, tag := 7, code := 0x0702 }, 100000, 10000, 0) }) wMst : State).engine.capture ≠ none ∨ (onEngine (fun e => { e with st := 3, capture := some ({ side := .spi, sluice := 1, tag := 7, code := 0x0702 }, 100000, 10000, 0) }) wMst : State).engine.loopForced ≠ none)) := by decide +kernel

theorem meets_MoistureEngineActs_23 :
    (asks 0x0703 (rq [] : Req) (wMst : State) = true) ∧
    (linkDown (wMst : State) = false) ∧
    ((wMst : State).engine.st ≠ 4) ∧
    ((wMst : State).engine.capture = none) ∧
    ((wMst : State).engine.loopForced = none) ∧
    ((applicator (wMst : State) = [] ∨ (wMst : State).engine.hasInterval = false)) := by decide +kernel

theorem meets_MoistureEngineActs_24 :
    (asks 0x0704 (rq [] : Req) (onEngine (fun e => { e with hasInterval := true, spectrum := [zeros 8] }) wMst : State) = true) ∧
    (linkDown (onEngine (fun e => { e with hasInterval := true, spectrum := [zeros 8] }) wMst : State) = false) ∧
    (applicator (onEngine (fun e => { e with hasInterval := true, spectrum := [zeros 8] }) wMst : State) ≠ []) ∧
    ((onEngine (fun e => { e with hasInterval := true, spectrum := [zeros 8] }) wMst : State).engine.hasInterval = true) ∧
    ((onEngine (fun e => { e with hasInterval := true, spectrum := [zeros 8] }) wMst : State).island.unsigned = []) ∧
    ((onEngine (fun e => { e with hasInterval := true, spectrum := [zeros 8] }) wMst : State).island.seqNext + (spectrumStarts (onEngine (fun e => { e with hasInterval := true, spectrum := [zeros 8] }) wMst : State)).length ≤ (onEngine (fun e => { e with hasInterval := true, spectrum := [zeros 8] }) wMst : State).island.seqEnd) := by decide +kernel

theorem meets_MoistureEngineActs_25 :
    (asks 0x0704 (rq [] : Req) (onIsland (fun i => { i with seqNext := 4096 }) (onEngine (fun e => { e with hasInterval := true, spectrum := [zeros 8] }) wMst) : State) = true) ∧
    (linkDown (onIsland (fun i => { i with seqNext := 4096 }) (onEngine (fun e => { e with hasInterval := true, spectrum := [zeros 8] }) wMst) : State) = false) ∧
    (applicator (onIsland (fun i => { i with seqNext := 4096 }) (onEngine (fun e => { e with hasInterval := true, spectrum := [zeros 8] }) wMst) : State) ≠ []) ∧
    ((onIsland (fun i => { i with seqNext := 4096 }) (onEngine (fun e => { e with hasInterval := true, spectrum := [zeros 8] }) wMst) : State).engine.hasInterval = true) ∧
    (((onIsland (fun i => { i with seqNext := 4096 }) (onEngine (fun e => { e with hasInterval := true, spectrum := [zeros 8] }) wMst) : State).island.unsigned ≠ [] ∨ (onIsland (fun i => { i with seqNext := 4096 }) (onEngine (fun e => { e with hasInterval := true, spectrum := [zeros 8] }) wMst) : State).island.seqEnd < (onIsland (fun i => { i with seqNext := 4096 }) (onEngine (fun e => { e with hasInterval := true, spectrum := [zeros 8] }) wMst) : State).island.seqNext + (spectrumStarts (onIsland (fun i => { i with seqNext := 4096 }) (onEngine (fun e => { e with hasInterval := true, spectrum := [zeros 8] }) wMst) : State)).length)) := by decide +kernel

theorem meets_MoistureEngineActs_26 :
    (asks 0x0704 (rq [] : Req) (onIsland (fun i => { i with linkUp := false }) wMst : State) = true) ∧
    (linkDown (onIsland (fun i => { i with linkUp := false }) wMst : State) = true) := by decide +kernel

theorem meets_MoistureEngineActs_27 :
    (asks 0x0704 (rq [] : Req) (wMst : State) = true) ∧
    (linkDown (wMst : State) = false) ∧
    ((applicator (wMst : State) = [] ∨ (wMst : State).engine.hasInterval = false)) := by decide +kernel

theorem meets_WeighingActs_1 :
    ((wScale 0 { zeroTried := true } : State).island.committedAt ≤ windowStart (wScale 0 { zeroTried := true } : State) (1 : Nat)) ∧
    ((weighing (wScale 0 { zeroTried := true } : State) (1 : Nat) = true ∨ weighStill (wScale 0 { zeroTried := true } : State) (1 : Nat) = true)) := by decide +kernel

theorem meets_WeighingActs_2 :
    (windowStart (onIsland (fun i => { i with committedAt := 5, oldParams := [(5, i.params)] }) (wScale 0 { zeroTried := true }) : State) (1 : Nat) < (onIsland (fun i => { i with committedAt := 5, oldParams := [(5, i.params)] }) (wScale 0 { zeroTried := true }) : State).island.committedAt) ∧
    ((onIsland (fun i => { i with committedAt := 5, oldParams := [(5, i.params)] }) (wScale 0 { zeroTried := true }) : State) = onIsland (fun i => { i with params := paramsAt (onIsland (fun i => { i with committedAt := 5, oldParams := [(5, i.params)] }) (wScale 0 { zeroTried := true }) : State) (windowStart (onIsland (fun i => { i with committedAt := 5, oldParams := [(5, i.params)] }) (wScale 0 { zeroTried := true }) : State) (1 : Nat)) }) (onIsland (fun i => { i with committedAt := 5, oldParams := [(5, i.params)] }) (wScale 0 { zeroTried := true }) : State)) ∧
    ((weighing (onIsland (fun i => { i with committedAt := 5, oldParams := [(5, i.params)] }) (wScale 0 { zeroTried := true }) : State) (1 : Nat) = true ∨ weighStill (onIsland (fun i => { i with committedAt := 5, oldParams := [(5, i.params)] }) (wScale 0 { zeroTried := true }) : State) (1 : Nat) = true)) := by decide +kernel

theorem meets_WeighingActs_3 :
    ((wMode .ice (wScale 0 {}) : State).island.committedAt ≤ windowStart (wMode .ice (wScale 0 {}) : State) (1 : Nat)) ∧
    (weighing (wMode .ice (wScale 0 {}) : State) (1 : Nat) = false) ∧
    (weighStill (wMode .ice (wScale 0 {}) : State) (1 : Nat) = false) := by decide +kernel

theorem meets_WeighingActs_4 :
    ((weighing (wScale 0 {} : State) (1 : Nat) = true ∨ weighStill (wScale 0 {} : State) (1 : Nat) = true)) ∧
    ((((1 : Nat) = 1 ∧ (wch (wScale 0 {} : State) (1 : Nat)).openWire = false) ∨ ((1 : Nat) = 2 ∧ (wch (wScale 0 {} : State) (1 : Nat)).excFault = false))) := by decide +kernel

theorem meets_WeighingActs_5 :
    (((weighing (wScale 0 { openWire := true } : State) (1 : Nat) = false ∧ weighStill (wScale 0 { openWire := true } : State) (1 : Nat) = false) ∨ ((1 : Nat) ≠ 1 ∧ (1 : Nat) ≠ 2) ∨ ((1 : Nat) = 1 ∧ (wch (wScale 0 { openWire := true } : State) (1 : Nat)).openWire = true) ∨ ((1 : Nat) = 2 ∧ (wch (wScale 0 { openWire := true } : State) (1 : Nat)).excFault = true))) := by decide +kernel

theorem meets_WeighingActs_6 :
    (((wch (wScale 0 { openWire := true } : State) (1 : Nat)).openWire = true ∨ (wch (wScale 0 { openWire := true } : State) (1 : Nat)).excFault = true)) := by decide +kernel

theorem meets_WeighingActs_7 :
    ((wch (wScale 0 {} : State) (1 : Nat)).openWire = false) ∧
    ((wch (wScale 0 {} : State) (1 : Nat)).excFault = false) := by decide +kernel

theorem meets_WeighingActs_8 :
    ((wScale 0 {} : State).island.committedAt ≤ windowStart (wScale 0 {} : State) (1 : Nat)) ∧
    (weighing (wScale 0 {} : State) (1 : Nat) = true) := by decide +kernel

theorem meets_WeighingActs_9 :
    ((wMode .still (wStillScale) : State).island.committedAt ≤ windowStart (wMode .still (wStillScale) : State) (1 : Nat)) ∧
    (weighStill (wMode .still (wStillScale) : State) (1 : Nat) = true) := by decide +kernel

theorem meets_WeighingActs_10 :
    ((wScale 0 {} : State).island.committedAt ≤ windowStart (wScale 0 {} : State) (2 : Nat)) ∧
    (weighing (wScale 0 {} : State) (2 : Nat) = false) := by decide +kernel

theorem meets_WeighingActs_11 :
    ((wScale 0 {} : State).island.committedAt ≤ windowStart (wScale 0 {} : State) (1 : Nat)) ∧
    (weighStill (wScale 0 {} : State) (1 : Nat) = false) := by decide +kernel

theorem meets_WeighingActs_12 :
    (windowStart (onIsland (fun i => { i with committedAt := 5, oldParams := [(5, i.params)] }) (wScale 0 {}) : State) (1 : Nat) < (onIsland (fun i => { i with committedAt := 5, oldParams := [(5, i.params)] }) (wScale 0 {}) : State).island.committedAt) ∧
    ((onIsland (fun i => { i with committedAt := 5, oldParams := [(5, i.params)] }) (wScale 0 {}) : State) = onIsland (fun i => { i with params := paramsAt (onIsland (fun i => { i with committedAt := 5, oldParams := [(5, i.params)] }) (wScale 0 {}) : State) (windowStart (onIsland (fun i => { i with committedAt := 5, oldParams := [(5, i.params)] }) (wScale 0 {}) : State) (1 : Nat)) }) (onIsland (fun i => { i with committedAt := 5, oldParams := [(5, i.params)] }) (wScale 0 {}) : State)) := by decide +kernel

theorem meets_WeighingActs_13 :
    ((wch (onSys (fun y => { y with devTime := 2000000000 }) (wScale 0 { raws := [some 100, some 100], stable := true, z0 := some 0 }) : State) (1 : Nat)).z0 = some (0 : Rat)) ∧
    (wMass (onSys (fun y => { y with devTime := 2000000000 }) (wScale 0 { raws := [some 100, some 100], stable := true, z0 := some 0 }) : State) (1 : Nat) = some (50 : Rat)) ∧
    (weighing (onSys (fun y => { y with devTime := 2000000000 }) (wScale 0 { raws := [some 100, some 100], stable := true, z0 := some 0 }) : State) (1 : Nat) = true) ∧
    ((1000 : Rat) = (wE (onSys (fun y => { y with devTime := 2000000000 }) (wScale 0 { raws := [some 100, some 100], stable := true, z0 := some 0 }) : State) (1 : Nat) : Nat)) ∧
    (g1 (wcal (onSys (fun y => { y with devTime := 2000000000 }) (wScale 0 { raws := [some 100, some 100], stable := true, z0 := some 0 }) : State) (1 : Nat)) 34 = 1) ∧
    ((wch (onSys (fun y => { y with devTime := 2000000000 }) (wScale 0 { raws := [some 100, some 100], stable := true, z0 := some 0 }) : State) (1 : Nat)).stable = true) ∧
    ((wch (onSys (fun y => { y with devTime := 2000000000 }) (wScale 0 { raws := [some 100, some 100], stable := true, z0 := some 0 }) : State) (1 : Nat)).tare = 0) ∧
    ((wch (onSys (fun y => { y with devTime := 2000000000 }) (wScale 0 { raws := [some 100, some 100], stable := true, z0 := some 0 }) : State) (1 : Nat)).pending = none) ∧
    (2 * absRat (50 : Rat) ≤ (1000 : Rat)) ∧
    ((1 : Rat) = (min 1000000000 ((onSys (fun y => { y with devTime := 2000000000 }) (wScale 0 { raws := [some 100, some 100], stable := true, z0 := some 0 }) : State).sys.devTime - (wch (onSys (fun y => { y with devTime := 2000000000 }) (wScale 0 { raws := [some 100, some 100], stable := true, z0 := some 0 }) : State) (1 : Nat)).lastTrack) : Nat) / 1000000000) ∧
    (50 * absRat ((wch (onSys (fun y => { y with devTime := 2000000000 }) (wScale 0 { raws := [some 100, some 100], stable := true, z0 := some 0 }) : State) (1 : Nat)).zeroOffset + clampRat (-((1000 : Rat) / 2 * (1 : Rat))) ((1000 : Rat) / 2 * (1 : Rat)) (50 : Rat) - (0 : Rat)) ≤ (wMax (onSys (fun y => { y with devTime := 2000000000 }) (wScale 0 { raws := [some 100, some 100], stable := true, z0 := some 0 }) : State) (1 : Nat) : Nat)) := by decide +kernel

theorem meets_WeighingActs_14 :
    (((wch (wScale 0 {} : State) (1 : Nat)).z0 = none ∨ wMass (wScale 0 {} : State) (1 : Nat) = none ∨ weighing (wScale 0 {} : State) (1 : Nat) = false ∨ g1 (wcal (wScale 0 {} : State) (1 : Nat)) 34 ≠ 1 ∨ (wch (wScale 0 {} : State) (1 : Nat)).stable = false ∨ (wch (wScale 0 {} : State) (1 : Nat)).tare ≠ 0 ∨ (wch (wScale 0 {} : State) (1 : Nat)).pending ≠ none ∨ (∃ m ∈ wMass (wScale 0 {} : State) (1 : Nat), (wE (wScale 0 {} : State) (1 : Nat) : Rat) < 2 * absRat m))) := by decide +kernel

theorem meets_WeighingActs_15 :
    (weighing (wScale 0 { stable := true, pending := some { kind := 2 }, raws := [some 100000, some 100000], z0 := some 0 } : State) (1 : Nat) = true) ∧
    ((wch (wScale 0 { stable := true, pending := some { kind := 2 }, raws := [some 100000, some 100000], z0 := some 0 } : State) (1 : Nat)).pending = some ({ kind := 2 } : WReq)) ∧
    (needsStable ({ kind := 2 } : WReq).kind = true) ∧
    ((wch (wScale 0 { stable := true, pending := some { kind := 2 }, raws := [some 100000, some 100000], z0 := some 0 } : State) (1 : Nat)).stable = true) := by decide +kernel

theorem meets_WeighingActs_16 :
    ((weighing (wScale 0 { pending := some { kind := 1 } } : State) (1 : Nat) = false ∨ (wch (wScale 0 { pending := some { kind := 1 } } : State) (1 : Nat)).stable = false ∨ (∀ q ∈ (wch (wScale 0 { pending := some { kind := 1 } } : State) (1 : Nat)).pending, needsStable q.kind = false))) := by decide +kernel

theorem meets_WeighingActs_17 :
    (weighing (wScale 0 { pending := some { kind := 1 } } : State) (1 : Nat) = true) ∧
    ((wch (wScale 0 { pending := some { kind := 1 } } : State) (1 : Nat)).pending = some ({ kind := 1 } : WReq)) ∧
    (needsStable ({ kind := 1 } : WReq).kind = true) := by decide +kernel

theorem meets_WeighingActs_18 :
    ((weighing (wScale 0 {} : State) (1 : Nat) = false ∨ (∀ q ∈ (wch (wScale 0 {} : State) (1 : Nat)).pending, needsStable q.kind = false))) := by decide +kernel

theorem meets_WeighingActs_19 :
    ((wScale 1 { cycle := 1, stable := true, raws := [some 5000, some 5000] } : State).island.committedAt ≤ windowStart (wScale 1 { cycle := 1, stable := true, raws := [some 5000, some 5000] } : State) (1 : Nat)) ∧
    (weighing (wScale 1 { cycle := 1, stable := true, raws := [some 5000, some 5000] } : State) (1 : Nat) = true) ∧
    ((wch (wScale 1 { cycle := 1, stable := true, raws := [some 5000, some 5000] } : State) (1 : Nat)).cycle = 1) ∧
    ((wch (wScale 1 { cycle := 1, stable := true, raws := [some 5000, some 5000] } : State) (1 : Nat)).next = none) ∧
    ((wch (wScale 1 { cycle := 1, stable := true, raws := [some 5000, some 5000] } : State) (1 : Nat)).stable = true) ∧
    (wFaultBits (wScale 1 { cycle := 1, stable := true, raws := [some 5000, some 5000] } : State) (1 : Nat) = 0) ∧
    (wSignal (wScale 1 { cycle := 1, stable := true, raws := [some 5000, some 5000] } : State) (1 : Nat) = some (2500 : Rat)) ∧
    (wOver (wScale 1 { cycle := 1, stable := true, raws := [some 5000, some 5000] } : State) (1 : Nat) (wLaw (wScale 1 { cycle := 1, stable := true, raws := [some 5000, some 5000] } : State) (1 : Nat) (2500 : Rat) - (wch (wScale 1 { cycle := 1, stable := true, raws := [some 5000, some 5000] } : State) (1 : Nat)).zeroOffset) = false) := by decide +kernel

theorem meets_WeighingActs_20 :
    (weighing (wScale 1 { cycle := 3, stable := false, raws := [some 5000, some 5000] } : State) (1 : Nat) = true) ∧
    (((wch (wScale 1 { cycle := 3, stable := false, raws := [some 5000, some 5000] } : State) (1 : Nat)).cycle = 1 ∧ (windowStart (wScale 1 { cycle := 3, stable := false, raws := [some 5000, some 5000] }) 1 : Nat) = windowStart (wScale 1 { cycle := 3, stable := false, raws := [some 5000, some 5000] } : State) (1 : Nat) ∨ (wch (wScale 1 { cycle := 3, stable := false, raws := [some 5000, some 5000] } : State) (1 : Nat)).cycle = 3 ∧ (windowStart (wScale 1 { cycle := 3, stable := false, raws := [some 5000, some 5000] }) 1 : Nat) = (wch (wScale 1 { cycle := 3, stable := false, raws := [some 5000, some 5000] } : State) (1 : Nat)).fullStart.getD (windowStart (wScale 1 { cycle := 3, stable := false, raws := [some 5000, some 5000] } : State) (1 : Nat)))) ∧
    ((wch (wScale 1 { cycle := 3, stable := false, raws := [some 5000, some 5000] } : State) (1 : Nat)).next = none) := by decide +kernel

theorem meets_WeighingActs_21 :
    ((weighing (wScale 1 { cycle := 2 } : State) (1 : Nat) = false ∨ ((wch (wScale 1 { cycle := 2 } : State) (1 : Nat)).cycle ≠ 1 ∧ (wch (wScale 1 { cycle := 2 } : State) (1 : Nat)).cycle ≠ 3) ∨ (wch (wScale 1 { cycle := 2 } : State) (1 : Nat)).next ≠ none)) := by decide +kernel

theorem meets_WeighingActs_22 :
    (asks 0x0801 (rq [] : Req) (wScale 0 {} : State) = true) ∧
    (linkDown (wScale 0 {} : State) = false) := by decide +kernel

theorem meets_WeighingActs_23 :
    (asks 0x0801 (rq [] : Req) (onIsland (fun i => { i with linkUp := false }) (wScale 0 {}) : State) = true) ∧
    (linkDown (onIsland (fun i => { i with linkUp := false }) (wScale 0 {}) : State) = true) := by decide +kernel

theorem meets_WeighingActs_24 :
    (asks 0x0802 (rq [1, 1, 0, 0] : Req) (wScale 0 {} : State) = true) ∧
    (linkDown (wScale 0 {} : State) = false) ∧
    ((1 : Nat) = g1 (rq [1, 1, 0, 0] : Req).payload 0) ∧
    (((1 : Nat) = 1 ∨ (1 : Nat) = 2)) ∧
    (needsStable (g1 (rq [1, 1, 0, 0] : Req).payload 1) = true) ∧
    (g2 (rq [1, 1, 0, 0] : Req).payload 2 = 0) ∧
    (wOn (wScale 0 {} : State) (1 : Nat) = true) ∧
    ((wch (wScale 0 {} : State) (1 : Nat)).pending = none) ∧
    (kindBarred (wScale 0 {} : State) (1 : Nat) (g1 (rq [1, 1, 0, 0] : Req).payload 1) = false) ∧
    (((wch (wScale 0 {} : State) (1 : Nat)).stable = false ∨ (wScale 0 {} : State).sys.mode = .still)) := by decide +kernel

theorem meets_WeighingActs_25 :
    (asks 0x0802 (rq [1, 6, 0, 0] : Req) (wScale 1 { cycle := 2 } : State) = true) ∧
    (linkDown (wScale 1 { cycle := 2 } : State) = false) ∧
    ((1 : Nat) = g1 (rq [1, 6, 0, 0] : Req).payload 0) ∧
    (((1 : Nat) = 1 ∨ (1 : Nat) = 2)) ∧
    ((g1 (rq [1, 6, 0, 0] : Req).payload 1 = 6 ∨ g1 (rq [1, 6, 0, 0] : Req).payload 1 = 7)) ∧
    (g2 (rq [1, 6, 0, 0] : Req).payload 2 = 0) ∧
    (wOn (wScale 1 { cycle := 2 } : State) (1 : Nat) = true) ∧
    ((wch (wScale 1 { cycle := 2 } : State) (1 : Nat)).pending = none) ∧
    (kindBarred (wScale 1 { cycle := 2 } : State) (1 : Nat) (g1 (rq [1, 6, 0, 0] : Req).payload 1) = false) := by decide +kernel

theorem meets_WeighingActs_26 :
    (asks 0x0802 (rq [1, 5, 0, 0] : Req) (wScale 1 {} : State) = true) ∧
    (linkDown (wScale 1 {} : State) = false) ∧
    ((1 : Nat) = g1 (rq [1, 5, 0, 0] : Req).payload 0) ∧
    ((5 : Nat) = g1 (rq [1, 5, 0, 0] : Req).payload 1) ∧
    (((1 : Nat) = 1 ∨ (1 : Nat) = 2)) ∧
    (1 ≤ (5 : Nat)) ∧
    ((5 : Nat) ≤ 8) ∧
    ((5 : Nat) ≠ 6) ∧
    ((5 : Nat) ≠ 7) ∧
    (g2 (rq [1, 5, 0, 0] : Req).payload 2 = 0) ∧
    (wOn (wScale 1 {} : State) (1 : Nat) = true) ∧
    ((wch (wScale 1 {} : State) (1 : Nat)).pending = none) ∧
    (kindBarred (wScale 1 {} : State) (1 : Nat) (5 : Nat) = false) ∧
    ((needsStable (5 : Nat) = true → (wch (wScale 1 {} : State) (1 : Nat)).stable = true ∧ (wScale 1 {} : State).sys.mode ≠ .still)) ∧
    (({ kind := 5 } : WReq) = { kind := (5 : Nat), source := 0, since := (wScale 1 {} : State).sys.devTime }) ∧
    ((actReq (1 : Nat) (5 : Nat) 0 (begun 0x0802 (rq [1, 5, 0, 0] : Req) (wScale 1 {} : State))).1 = sOK) ∧
    (((actReq 1 5 0 (begun 0x0802 (rq [1, 5, 0, 0]) (wScale 1 {}))).2 : State) = (actReq (1 : Nat) (5 : Nat) 0 (begun 0x0802 (rq [1, 5, 0, 0] : Req) (wScale 1 {} : State))).2) := by decide +kernel

theorem meets_WeighingActs_27 :
    (asks 0x0802 (rq [1, 4, 0, 0] : Req) (wScale 0 { stable := true } : State) = true) ∧
    (linkDown (wScale 0 { stable := true } : State) = false) ∧
    ((1 : Nat) = g1 (rq [1, 4, 0, 0] : Req).payload 0) ∧
    ((4 : Nat) = g1 (rq [1, 4, 0, 0] : Req).payload 1) ∧
    (((1 : Nat) = 1 ∨ (1 : Nat) = 2)) ∧
    (1 ≤ (4 : Nat)) ∧
    ((4 : Nat) ≤ 8) ∧
    ((4 : Nat) ≠ 6) ∧
    ((4 : Nat) ≠ 7) ∧
    (g2 (rq [1, 4, 0, 0] : Req).payload 2 = 0) ∧
    (wOn (wScale 0 { stable := true } : State) (1 : Nat) = true) ∧
    ((wch (wScale 0 { stable := true } : State) (1 : Nat)).pending = none) ∧
    (kindBarred (wScale 0 { stable := true } : State) (1 : Nat) (4 : Nat) = false) ∧
    ((needsStable (4 : Nat) = true → (wch (wScale 0 { stable := true } : State) (1 : Nat)).stable = true ∧ (wScale 0 { stable := true } : State).sys.mode ≠ .still)) ∧
    (({ kind := 4 } : WReq) = { kind := (4 : Nat), source := 0, since := (wScale 0 { stable := true } : State).sys.devTime }) ∧
    ((actReq (1 : Nat) (4 : Nat) 0 (begun 0x0802 (rq [1, 4, 0, 0] : Req) (wScale 0 { stable := true } : State))).1 = sLIMIT) ∧
    (((actReq 1 4 0 (begun 0x0802 (rq [1, 4, 0, 0]) (wScale 0 { stable := true }))).2 : State) = (actReq (1 : Nat) (4 : Nat) 0 (begun 0x0802 (rq [1, 4, 0, 0] : Req) (wScale 0 { stable := true } : State))).2) := by decide +kernel

theorem meets_WeighingActs_28 :
    (asks 0x0802 (rq [1, 5, 0, 0] : Req) (wScale 0 {} : State) = true) ∧
    (linkDown (wScale 0 {} : State) = false) ∧
    ((1 : Nat) = g1 (rq [1, 5, 0, 0] : Req).payload 0) ∧
    (((1 : Nat) = 1 ∨ (1 : Nat) = 2)) ∧
    (1 ≤ g1 (rq [1, 5, 0, 0] : Req).payload 1) ∧
    (g1 (rq [1, 5, 0, 0] : Req).payload 1 ≤ 8) ∧
    (g2 (rq [1, 5, 0, 0] : Req).payload 2 = 0) ∧
    (wOn (wScale 0 {} : State) (1 : Nat) = true) ∧
    ((wch (wScale 0 {} : State) (1 : Nat)).pending = none) ∧
    (kindBarred (wScale 0 {} : State) (1 : Nat) (g1 (rq [1, 5, 0, 0] : Req).payload 1) = true) := by decide +kernel

theorem meets_WeighingActs_29 :
    (asks 0x0802 (rq [1, 5, 0, 0] : Req) (wScale 0 { pending := some { kind := 1 } } : State) = true) ∧
    (linkDown (wScale 0 { pending := some { kind := 1 } } : State) = false) ∧
    ((1 : Nat) = g1 (rq [1, 5, 0, 0] : Req).payload 0) ∧
    (((1 : Nat) = 1 ∨ (1 : Nat) = 2)) ∧
    (1 ≤ g1 (rq [1, 5, 0, 0] : Req).payload 1) ∧
    (g1 (rq [1, 5, 0, 0] : Req).payload 1 ≤ 8) ∧
    (g2 (rq [1, 5, 0, 0] : Req).payload 2 = 0) ∧
    (wOn (wScale 0 { pending := some { kind := 1 } } : State) (1 : Nat) = true) ∧
    ((wch (wScale 0 { pending := some { kind := 1 } } : State) (1 : Nat)).pending ≠ none) := by decide +kernel

theorem meets_WeighingActs_30 :
    (asks 0x0802 (rq [1, 1, 0, 0] : Req) (onIsland (fun i => { i with linkUp := false }) (wScale 0 {}) : State) = true) ∧
    (linkDown (onIsland (fun i => { i with linkUp := false }) (wScale 0 {}) : State) = true) := by decide +kernel

theorem meets_WeighingActs_31 :
    (asks 0x0802 (rq [3, 1, 0, 0] : Req) (wScale 0 {} : State) = true) ∧
    (linkDown (wScale 0 {} : State) = false) ∧
    (((g1 (rq [3, 1, 0, 0] : Req).payload 0 ≠ 1 ∧ g1 (rq [3, 1, 0, 0] : Req).payload 0 ≠ 2) ∨ g1 (rq [3, 1, 0, 0] : Req).payload 1 = 0 ∨ 8 < g1 (rq [3, 1, 0, 0] : Req).payload 1 ∨ g2 (rq [3, 1, 0, 0] : Req).payload 2 ≠ 0)) := by decide +kernel

theorem meets_WeighingActs_32 :
    (asks 0x0802 (rq [2, 1, 0, 0] : Req) (wScale 0 {} : State) = true) ∧
    (linkDown (wScale 0 {} : State) = false) ∧
    ((g1 (rq [2, 1, 0, 0] : Req).payload 0 = 1 ∨ g1 (rq [2, 1, 0, 0] : Req).payload 0 = 2)) ∧
    (1 ≤ g1 (rq [2, 1, 0, 0] : Req).payload 1) ∧
    (g1 (rq [2, 1, 0, 0] : Req).payload 1 ≤ 8) ∧
    (g2 (rq [2, 1, 0, 0] : Req).payload 2 = 0) ∧
    (wOn (wScale 0 {} : State) (g1 (rq [2, 1, 0, 0] : Req).payload 0) = false) := by decide +kernel

theorem meets_WeighingActs_33 :
    (asks 0x0803 (rq ([1, 0] ++ p2 500) : Req) (wScale 0 {} : State) = true) ∧
    (linkDown (wScale 0 {} : State) = false) ∧
    ((1 : Nat) = g1 (rq ([1, 0] ++ p2 500) : Req).payload 0) ∧
    (((1 : Nat) = 1 ∨ (1 : Nat) = 2)) ∧
    (g1 (rq ([1, 0] ++ p2 500) : Req).payload 1 = 0) ∧
    (100 ≤ g2 (rq ([1, 0] ++ p2 500) : Req).payload 2) ∧
    (g2 (rq ([1, 0] ++ p2 500) : Req).payload 2 ≤ 10000) ∧
    (wOn (wScale 0 {} : State) (1 : Nat) = true) ∧
    ((wch (wScale 0 {} : State) (1 : Nat)).cycle = 0) := by decide +kernel

theorem meets_WeighingActs_34 :
    (asks 0x0803 (rq ([1, 0] ++ p2 500) : Req) (onIsland (fun i => { i with linkUp := false }) (wScale 0 {}) : State) = true) ∧
    (linkDown (onIsland (fun i => { i with linkUp := false }) (wScale 0 {}) : State) = true) := by decide +kernel

theorem meets_WeighingActs_35 :
    (asks 0x0803 (rq ([1, 0] ++ p2 99) : Req) (wScale 0 {} : State) = true) ∧
    (linkDown (wScale 0 {} : State) = false) ∧
    (((g1 (rq ([1, 0] ++ p2 99) : Req).payload 0 ≠ 1 ∧ g1 (rq ([1, 0] ++ p2 99) : Req).payload 0 ≠ 2) ∨ g1 (rq ([1, 0] ++ p2 99) : Req).payload 1 ≠ 0 ∨ g2 (rq ([1, 0] ++ p2 99) : Req).payload 2 < 100 ∨ 10000 < g2 (rq ([1, 0] ++ p2 99) : Req).payload 2)) := by decide +kernel

theorem meets_WeighingActs_36 :
    (asks 0x0803 (rq ([2, 0] ++ p2 500) : Req) (wScale 0 {} : State) = true) ∧
    (linkDown (wScale 0 {} : State) = false) ∧
    ((g1 (rq ([2, 0] ++ p2 500) : Req).payload 0 = 1 ∨ g1 (rq ([2, 0] ++ p2 500) : Req).payload 0 = 2)) ∧
    (g1 (rq ([2, 0] ++ p2 500) : Req).payload 1 = 0) ∧
    (100 ≤ g2 (rq ([2, 0] ++ p2 500) : Req).payload 2) ∧
    (g2 (rq ([2, 0] ++ p2 500) : Req).payload 2 ≤ 10000) ∧
    (wOn (wScale 0 {} : State) (g1 (rq ([2, 0] ++ p2 500) : Req).payload 0) = false) := by decide +kernel

theorem meets_WeighingActs_37 :
    (asks 0x0803 (rq ([1, 0] ++ p2 500) : Req) (wScale 1 { cycle := 2 } : State) = true) ∧
    (linkDown (wScale 1 { cycle := 2 } : State) = false) ∧
    ((g1 (rq ([1, 0] ++ p2 500) : Req).payload 0 = 1 ∨ g1 (rq ([1, 0] ++ p2 500) : Req).payload 0 = 2)) ∧
    (g1 (rq ([1, 0] ++ p2 500) : Req).payload 1 = 0) ∧
    (100 ≤ g2 (rq ([1, 0] ++ p2 500) : Req).payload 2) ∧
    (g2 (rq ([1, 0] ++ p2 500) : Req).payload 2 ≤ 10000) ∧
    (wOn (wScale 1 { cycle := 2 } : State) (g1 (rq ([1, 0] ++ p2 500) : Req).payload 0) = true) ∧
    ((wch (wScale 1 { cycle := 2 } : State) (g1 (rq ([1, 0] ++ p2 500) : Req).payload 0)).cycle ≠ 0) := by decide +kernel

theorem meets_WeighingActs_38 :
    (windowEnding (addJob { org := { side := .spi, sluice := 1, tag := 7, code := 0x0803 }, a := 1, b := 500 } (wScale 0 { windows := [{ org := { side := .spi, sluice := 1, tag := 7, code := 0x0803 }, start := 5, n := 4, sum := 80 }] }) : State) (1 : Nat) = some ({ org := { side := .spi, sluice := 1, tag := 7, code := 0x0803 }, a := 1, b := 500 } : Job)) ∧
    (({ org := { side := .spi, sluice := 1, tag := 7, code := 0x0803 }, start := 5, n := 4, sum := 80 } : SigWindow) = ((wch (addJob { org := { side := .spi, sluice := 1, tag := 7, code := 0x0803 }, a := 1, b := 500 } (wScale 0 { windows := [{ org := { side := .spi, sluice := 1, tag := 7, code := 0x0803 }, start := 5, n := 4, sum := 80 }] }) : State) (1 : Nat)).windows.find? (fun x => x.org == ({ org := { side := .spi, sluice := 1, tag := 7, code := 0x0803 }, a := 1, b := 500 } : Job).org)).getD { org := ({ org := { side := .spi, sluice := 1, tag := 7, code := 0x0803 }, a := 1, b := 500 } : Job).org, start := (addJob { org := { side := .spi, sluice := 1, tag := 7, code := 0x0803 }, a := 1, b := 500 } (wScale 0 { windows := [{ org := { side := .spi, sluice := 1, tag := 7, code := 0x0803 }, start := 5, n := 4, sum := 80 }] }) : State).sys.devTime }) ∧
    ((10 : Rat) = (if ({ org := { side := .spi, sluice := 1, tag := 7, code := 0x0803 }, start := 5, n := 4, sum := 80 } : SigWindow).n = 0 then Config.freeRat (addJob { org := { side := .spi, sluice := 1, tag := 7, code := 0x0803 }, a := 1, b := 500 } (wScale 0 { windows := [{ org := { side := .spi, sluice := 1, tag := 7, code := 0x0803 }, start := 5, n := 4, sum := 80 }] }) : State).fresh else (({ org := { side := .spi, sluice := 1, tag := 7, code := 0x0803 }, start := 5, n := 4, sum := 80 } : SigWindow).sum : Rat) / ((2 * ({ org := { side := .spi, sluice := 1, tag := 7, code := 0x0803 }, start := 5, n := 4, sum := 80 } : SigWindow).n : Nat) : Rat))) := by decide +kernel

theorem meets_WeighingActs_39 :
    (windowEnding (wScale 0 {} : State) (1 : Nat) = none) := by decide +kernel

theorem meets_ZoneProgrammesStep_1 :
    ((onAbsorb (fun a => { a with reexecuting := true }) (wZone 6 0 0 [] [] { st := 2 } []) : State).absorb.reexecuting = true) ∧
    (stepping (onAbsorb (fun a => { a with reexecuting := true }) (wZone 6 0 0 [] [] { st := 2 } []) : State) (1 : Nat) = true) := by decide +kernel

theorem meets_ZoneProgrammesStep_2 :
    (stepping (wZone 6 0 0 [] [] {} [] : State) (1 : Nat) = false) := by decide +kernel

theorem meets_ZoneProgrammesStep_3 :
    ((wZone 6 0 0 [] [] { st := 4, causes := 4 } [] : State).absorb.reexecuting = false) ∧
    (stepping (wZone 6 0 0 [] [] { st := 4, causes := 4 } [] : State) (1 : Nat) = true) ∧
    (permOpen (wZone 6 0 0 [] [] { st := 4, causes := 4 } [] : State) (1 : Nat) = []) := by decide +kernel

theorem meets_ZoneProgrammesStep_4 :
    ((wZone 6 0 0 [] [] { st := 4, causes := 4 } [] : State).absorb.reexecuting = false) ∧
    ((stepping (wZone 6 0 0 [] [] { st := 4, causes := 4 } [] : State) (2 : Nat) = false ∨ permOpen (wZone 6 0 0 [] [] { st := 4, causes := 4 } [] : State) (2 : Nat) ≠ [])) := by decide +kernel

theorem meets_ZoneProgrammesStep_5 :
    ((wZone 6 0 1 (p2 60 ++ [1, 1] ++ zeros 12) [] { st := 2 } [] : State).absorb.reexecuting = false) ∧
    (stepping (wZone 6 0 1 (p2 60 ++ [1, 1] ++ zeros 12) [] { st := 2 } [] : State) (1 : Nat) = true) ∧
    ((0 : Nat) < deckleCount (wZone 6 0 1 (p2 60 ++ [1, 1] ++ zeros 12) [] { st := 2 } [] : State) (1 : Nat)) ∧
    ((zone (wZone 6 0 1 (p2 60 ++ [1, 1] ++ zeros 12) [] { st := 2 } [] : State) (1 : Nat)).deckle.getLsbD (0 : Nat) = false) ∧
    ((p2 60 ++ [1, 1] ++ zeros 12 : List Byte) = deckleEntry (wZone 6 0 1 (p2 60 ++ [1, 1] ++ zeros 12) [] { st := 2 } [] : State) (1 : Nat) (0 : Nat)) ∧
    (deckleViolated (wZone 6 0 1 (p2 60 ++ [1, 1] ++ zeros 12) [] { st := 2 } [] : State) (1 : Nat) (0 : Nat) = true) ∧
    (g1 (p2 60 ++ [1, 1] ++ zeros 12 : List Byte) 2 = 1) := by decide +kernel

theorem meets_ZoneProgrammesStep_6 :
    ((wZone 6 0 1 (p2 60 ++ [2, 1] ++ zeros 12) [] { st := 2 } [] : State).absorb.reexecuting = false) ∧
    (stepping (wZone 6 0 1 (p2 60 ++ [2, 1] ++ zeros 12) [] { st := 2 } [] : State) (1 : Nat) = true) ∧
    ((0 : Nat) < deckleCount (wZone 6 0 1 (p2 60 ++ [2, 1] ++ zeros 12) [] { st := 2 } [] : State) (1 : Nat)) ∧
    ((zone (wZone 6 0 1 (p2 60 ++ [2, 1] ++ zeros 12) [] { st := 2 } [] : State) (1 : Nat)).deckle.getLsbD (0 : Nat) = false) ∧
    ((p2 60 ++ [2, 1] ++ zeros 12 : List Byte) = deckleEntry (wZone 6 0 1 (p2 60 ++ [2, 1] ++ zeros 12) [] { st := 2 } [] : State) (1 : Nat) (0 : Nat)) ∧
    (deckleViolated (wZone 6 0 1 (p2 60 ++ [2, 1] ++ zeros 12) [] { st := 2 } [] : State) (1 : Nat) (0 : Nat) = true) ∧
    (g1 (p2 60 ++ [2, 1] ++ zeros 12 : List Byte) 2 ≠ 1) ∧
    ((note 0x0330 [1, 0, invalidValue, 2] (modZone 1 (fun q => { q with deckle := q.deckle ||| BitVec.ofNat 16 (2 ^ 0), deckleAt := tset q.deckleAt 0 0 }) (wZone 6 0 1 (p2 60 ++ [2, 1] ++ zeros 12) [] { st := 2 } [])) : State) = note 0x0330 [(1 : Nat), (0 : Nat), valueOf (wZone 6 0 1 (p2 60 ++ [2, 1] ++ zeros 12) [] { st := 2 } [] : State) (g2 (p2 60 ++ [2, 1] ++ zeros 12 : List Byte) 0), g1 (p2 60 ++ [2, 1] ++ zeros 12 : List Byte) 2] (modZone (1 : Nat) (fun q => { q with deckle := q.deckle ||| BitVec.ofNat 16 (2 ^ (0 : Nat)), deckleAt := tset q.deckleAt (0 : Nat) (wZone 6 0 1 (p2 60 ++ [2, 1] ++ zeros 12) [] { st := 2 } [] : State).sys.devTime }) (wZone 6 0 1 (p2 60 ++ [2, 1] ++ zeros 12) [] { st := 2 } [] : State))) := by decide +kernel

theorem meets_ZoneProgrammesStep_7 :
    ((wZone 6 0 1 (p2 60 ++ [1, 1] ++ zeros 12) [] { st := 2 } [] : State).absorb.reexecuting = false) ∧
    ((deckleCount (wZone 6 0 1 (p2 60 ++ [1, 1] ++ zeros 12) [] { st := 2 } [] : State) (1 : Nat) ≤ (3 : Nat) ∨ (zone (wZone 6 0 1 (p2 60 ++ [1, 1] ++ zeros 12) [] { st := 2 } [] : State) (1 : Nat)).deckle.getLsbD (3 : Nat) = true ∨ deckleViolated (wZone 6 0 1 (p2 60 ++ [1, 1] ++ zeros 12) [] { st := 2 } [] : State) (1 : Nat) (3 : Nat) = false)) := by decide +kernel

theorem meets_ZoneProgrammesStep_8 :
    ((wZone 6 0 1 (p2 60 ++ [1, 1] ++ q4 0 ++ q4 10 ++ zeros 4) [] { st := 4, causes := 8, deckle := 1 } [(60, { published := true, value := 5 })] : State).absorb.reexecuting = false) ∧
    (stepping (wZone 6 0 1 (p2 60 ++ [1, 1] ++ q4 0 ++ q4 10 ++ zeros 4) [] { st := 4, causes := 8, deckle := 1 } [(60, { published := true, value := 5 })] : State) (1 : Nat) = true) ∧
    ((zone (wZone 6 0 1 (p2 60 ++ [1, 1] ++ q4 0 ++ q4 10 ++ zeros 4) [] { st := 4, causes := 8, deckle := 1 } [(60, { published := true, value := 5 })] : State) (1 : Nat)).deckle.getLsbD (0 : Nat) = true) ∧
    (deckleInside (wZone 6 0 1 (p2 60 ++ [1, 1] ++ q4 0 ++ q4 10 ++ zeros 4) [] { st := 4, causes := 8, deckle := 1 } [(60, { published := true, value := 5 })] : State) (1 : Nat) (0 : Nat) = true) ∧
    ((note 0x0331 [1, 0, 0] (modZone 1 (fun q => { q with deckle := q.deckle &&& ~~~(BitVec.ofNat 16 (2 ^ 0)), deckleAt := tdel q.deckleAt 0 }) (wZone 6 0 1 (p2 60 ++ [1, 1] ++ q4 0 ++ q4 10 ++ zeros 4) [] { st := 4, causes := 8, deckle := 1 } [(60, { published := true, value := 5 })])) : State) = note 0x0331 [(1 : Nat), (0 : Nat), nsMs ((wZone 6 0 1 (p2 60 ++ [1, 1] ++ q4 0 ++ q4 10 ++ zeros 4) [] { st := 4, causes := 8, deckle := 1 } [(60, { published := true, value := 5 })] : State).sys.devTime - tget (zone (wZone 6 0 1 (p2 60 ++ [1, 1] ++ q4 0 ++ q4 10 ++ zeros 4) [] { st := 4, causes := 8, deckle := 1 } [(60, { published := true, value := 5 })] : State) (1 : Nat)).deckleAt (0 : Nat))] (modZone (1 : Nat) (fun q => { q with deckle := q.deckle &&& ~~~(BitVec.ofNat 16 (2 ^ (0 : Nat))), deckleAt := tdel q.deckleAt (0 : Nat) }) (wZone 6 0 1 (p2 60 ++ [1, 1] ++ q4 0 ++ q4 10 ++ zeros 4) [] { st := 4, causes := 8, deckle := 1 } [(60, { published := true, value := 5 })] : State))) ∧
    ((List.range 16).any (fun j => (zone (note 0x0331 [1, 0, 0] (modZone 1 (fun q => { q with deckle := q.deckle &&& ~~~(BitVec.ofNat 16 (2 ^ 0)), deckleAt := tdel q.deckleAt 0 }) (wZone 6 0 1 (p2 60 ++ [1, 1] ++ q4 0 ++ q4 10 ++ zeros 4) [] { st := 4, causes := 8, deckle := 1 } [(60, { published := true, value := 5 })])) : State) (1 : Nat)).deckle.getLsbD j && g1 (deckleEntry (note 0x0331 [1, 0, 0] (modZone 1 (fun q => { q with deckle := q.deckle &&& ~~~(BitVec.ofNat 16 (2 ^ 0)), deckleAt := tdel q.deckleAt 0 }) (wZone 6 0 1 (p2 60 ++ [1, 1] ++ q4 0 ++ q4 10 ++ zeros 4) [] { st := 4, causes := 8, deckle := 1 } [(60, { published := true, value := 5 })])) : State) (1 : Nat) j) 2 == 1) = false) := by decide +kernel

theorem meets_ZoneProgrammesStep_9 :
    ((wZone 6 0 1 (p2 60 ++ [0, 1] ++ q4 0 ++ q4 10 ++ zeros 4 ++ p2 61 ++ [1, 1] ++ zeros 12) [] { st := 4, causes := 8, deckle := 3 } [(60, { published := true, value := 5 })] : State).absorb.reexecuting = false) ∧
    (stepping (wZone 6 0 1 (p2 60 ++ [0, 1] ++ q4 0 ++ q4 10 ++ zeros 4 ++ p2 61 ++ [1, 1] ++ zeros 12) [] { st := 4, causes := 8, deckle := 3 } [(60, { published := true, value := 5 })] : State) (1 : Nat) = true) ∧
    ((zone (wZone 6 0 1 (p2 60 ++ [0, 1] ++ q4 0 ++ q4 10 ++ zeros 4 ++ p2 61 ++ [1, 1] ++ zeros 12) [] { st := 4, causes := 8, deckle := 3 } [(60, { published := true, value := 5 })] : State) (1 : Nat)).deckle.getLsbD (0 : Nat) = true) ∧
    (deckleInside (wZone 6 0 1 (p2 60 ++ [0, 1] ++ q4 0 ++ q4 10 ++ zeros 4 ++ p2 61 ++ [1, 1] ++ zeros 12) [] { st := 4, causes := 8, deckle := 3 } [(60, { published := true, value := 5 })] : State) (1 : Nat) (0 : Nat) = true) ∧
    ((note 0x0331 [1, 0, 0] (modZone 1 (fun q => { q with deckle := q.deckle &&& ~~~(BitVec.ofNat 16 (2 ^ 0)), deckleAt := tdel q.deckleAt 0 }) (wZone 6 0 1 (p2 60 ++ [0, 1] ++ q4 0 ++ q4 10 ++ zeros 4 ++ p2 61 ++ [1, 1] ++ zeros 12) [] { st := 4, causes := 8, deckle := 3 } [(60, { published := true, value := 5 })])) : State) = note 0x0331 [(1 : Nat), (0 : Nat), nsMs ((wZone 6 0 1 (p2 60 ++ [0, 1] ++ q4 0 ++ q4 10 ++ zeros 4 ++ p2 61 ++ [1, 1] ++ zeros 12) [] { st := 4, causes := 8, deckle := 3 } [(60, { published := true, value := 5 })] : State).sys.devTime - tget (zone (wZone 6 0 1 (p2 60 ++ [0, 1] ++ q4 0 ++ q4 10 ++ zeros 4 ++ p2 61 ++ [1, 1] ++ zeros 12) [] { st := 4, causes := 8, deckle := 3 } [(60, { published := true, value := 5 })] : State) (1 : Nat)).deckleAt (0 : Nat))] (modZone (1 : Nat) (fun q => { q with deckle := q.deckle &&& ~~~(BitVec.ofNat 16 (2 ^ (0 : Nat))), deckleAt := tdel q.deckleAt (0 : Nat) }) (wZone 6 0 1 (p2 60 ++ [0, 1] ++ q4 0 ++ q4 10 ++ zeros 4 ++ p2 61 ++ [1, 1] ++ zeros 12) [] { st := 4, causes := 8, deckle := 3 } [(60, { published := true, value := 5 })] : State))) ∧
    ((List.range 16).any (fun j => (zone (note 0x0331 [1, 0, 0] (modZone 1 (fun q => { q with deckle := q.deckle &&& ~~~(BitVec.ofNat 16 (2 ^ 0)), deckleAt := tdel q.deckleAt 0 }) (wZone 6 0 1 (p2 60 ++ [0, 1] ++ q4 0 ++ q4 10 ++ zeros 4 ++ p2 61 ++ [1, 1] ++ zeros 12) [] { st := 4, causes := 8, deckle := 3 } [(60, { published := true, value := 5 })])) : State) (1 : Nat)).deckle.getLsbD j && g1 (deckleEntry (note 0x0331 [1, 0, 0] (modZone 1 (fun q => { q with deckle := q.deckle &&& ~~~(BitVec.ofNat 16 (2 ^ 0)), deckleAt := tdel q.deckleAt 0 }) (wZone 6 0 1 (p2 60 ++ [0, 1] ++ q4 0 ++ q4 10 ++ zeros 4 ++ p2 61 ++ [1, 1] ++ zeros 12) [] { st := 4, causes := 8, deckle := 3 } [(60, { published := true, value := 5 })])) : State) (1 : Nat) j) 2 == 1) = true) := by decide +kernel

theorem meets_ZoneProgrammesStep_10 :
    ((wZone 6 0 1 (p2 60 ++ [1, 1] ++ zeros 12) [] { st := 2 } [] : State).absorb.reexecuting = false) ∧
    (((zone (wZone 6 0 1 (p2 60 ++ [1, 1] ++ zeros 12) [] { st := 2 } [] : State) (1 : Nat)).deckle.getLsbD (3 : Nat) = false ∨ deckleInside (wZone 6 0 1 (p2 60 ++ [1, 1] ++ zeros 12) [] { st := 2 } [] : State) (1 : Nat) (3 : Nat) = false)) := by decide +kernel

theorem meets_ZoneProgrammesStep_11 :
    ((modFelt 2 (fun f => { f with state := 2 }) (wZone 6 0 0 [] [] { st := 2 } []) : State).absorb.reexecuting = false) ∧
    (stepping (modFelt 2 (fun f => { f with state := 2 }) (wZone 6 0 0 [] [] { st := 2 } []) : State) (1 : Nat) = true) ∧
    ((zone (modFelt 2 (fun f => { f with state := 2 }) (wZone 6 0 0 [] [] { st := 2 } []) : State) (1 : Nat)).st = 2) ∧
    (stopMs (modFelt 2 (fun f => { f with state := 2 }) (wZone 6 0 0 [] [] { st := 2 } []) : State) (1 : Nat) ≠ 0) ∧
    ((felt (modFelt 2 (fun f => { f with state := 2 }) (wZone 6 0 0 [] [] { st := 2 } []) : State) (zoneFelt (modFelt 2 (fun f => { f with state := 2 }) (wZone 6 0 0 [] [] { st := 2 } []) : State) (1 : Nat))).state.getLsbD 1 = true) := by decide +kernel

theorem meets_ZoneProgrammesStep_12 :
    ((wZone 6 0 0 [] [] { st := 2 } [] : State).absorb.reexecuting = false) ∧
    (((zone (wZone 6 0 0 [] [] { st := 2 } [] : State) (1 : Nat)).st ≠ 2 ∨ stopMs (wZone 6 0 0 [] [] { st := 2 } [] : State) (1 : Nat) = 0 ∨ (felt (wZone 6 0 0 [] [] { st := 2 } [] : State) (zoneFelt (wZone 6 0 0 [] [] { st := 2 } [] : State) (1 : Nat))).state.getLsbD 1 = false)) := by decide +kernel

theorem meets_ZoneProgrammesStep_13 :
    ((wZone 6 1 0 [] [] { st := 2 } [] : State).absorb.reexecuting = false) ∧
    (stepping (wZone 6 1 0 [] [] { st := 2 } [] : State) (1 : Nat) = true) ∧
    ((zone (wZone 6 1 0 [] [] { st := 2 } [] : State) (1 : Nat)).st = 2) ∧
    (zoneProg (wZone 6 1 0 [] [] { st := 2 } [] : State) (1 : Nat) = 1) ∧
    (g4 (zp (wZone 6 1 0 [] [] { st := 2 } [] : State) (1 : Nat)) 28 ≠ 0) := by decide +kernel

theorem meets_ZoneProgrammesStep_14 :
    ((wZone 6 0 0 [] [] { st := 2 } [] : State).absorb.reexecuting = false) ∧
    (((zone (wZone 6 0 0 [] [] { st := 2 } [] : State) (1 : Nat)).st ≠ 2 ∨ zoneProg (wZone 6 0 0 [] [] { st := 2 } [] : State) (1 : Nat) ≠ 1 ∨ g4 (zp (wZone 6 0 0 [] [] { st := 2 } [] : State) (1 : Nat)) 28 = 0)) := by decide +kernel

theorem meets_ZoneProgrammesStep_15 :
    ((wZone 1 0 0 [] wHeat { st := 1, phase := 2 } [] : State).absorb.reexecuting = false) ∧
    (stepping (wZone 1 0 0 [] wHeat { st := 1, phase := 2 } [] : State) (1 : Nat) = true) ∧
    (hasHeat (wZone 1 0 0 [] wHeat { st := 1, phase := 2 } [] : State) (1 : Nat) = true) ∧
    ((zone (wZone 1 0 0 [] wHeat { st := 1, phase := 2 } [] : State) (1 : Nat)).phase = 2) ∧
    (inputOn (wZone 1 0 0 [] wHeat { st := 1, phase := 2 } [] : State) (zFlame (wZone 1 0 0 [] wHeat { st := 1, phase := 2 } [] : State) (1 : Nat)) = false) := by decide +kernel

theorem meets_ZoneProgrammesStep_16 :
    ((wZone 1 0 0 [] (p2 40 ++ List.replicate 6 0xFF ++ p2 44 ++ List.replicate 6 0xFF ++ p2 41 ++ p2 42 ++ p2 10 ++ p2 43 ++ q4 90000 ++ p4 100000 ++ p4 1000000 ++ p4 0x3F800000 ++ p4 0 ++ zeros 84) { st := 1, phase := 1 } [] : State).absorb.reexecuting = false) ∧
    (stepping (wZone 1 0 0 [] (p2 40 ++ List.replicate 6 0xFF ++ p2 44 ++ List.replicate 6 0xFF ++ p2 41 ++ p2 42 ++ p2 10 ++ p2 43 ++ q4 90000 ++ p4 100000 ++ p4 1000000 ++ p4 0x3F800000 ++ p4 0 ++ zeros 84) { st := 1, phase := 1 } [] : State) (1 : Nat) = true) ∧
    (hasHeat (wZone 1 0 0 [] (p2 40 ++ List.replicate 6 0xFF ++ p2 44 ++ List.replicate 6 0xFF ++ p2 41 ++ p2 42 ++ p2 10 ++ p2 43 ++ q4 90000 ++ p4 100000 ++ p4 1000000 ++ p4 0x3F800000 ++ p4 0 ++ zeros 84) { st := 1, phase := 1 } [] : State) (1 : Nat) = true) ∧
    ((zone (wZone 1 0 0 [] (p2 40 ++ List.replicate 6 0xFF ++ p2 44 ++ List.replicate 6 0xFF ++ p2 41 ++ p2 42 ++ p2 10 ++ p2 43 ++ q4 90000 ++ p4 100000 ++ p4 1000000 ++ p4 0x3F800000 ++ p4 0 ++ zeros 84) { st := 1, phase := 1 } [] : State) (1 : Nat)).phase = 1) ∧
    ((zProofs (wZone 1 0 0 [] (p2 40 ++ List.replicate 6 0xFF ++ p2 44 ++ List.replicate 6 0xFF ++ p2 41 ++ p2 42 ++ p2 10 ++ p2 43 ++ q4 90000 ++ p4 100000 ++ p4 1000000 ++ p4 0x3F800000 ++ p4 0 ++ zeros 84) { st := 1, phase := 1 } [] : State) (1 : Nat)).find? (fun p => !inputOn (wZone 1 0 0 [] (p2 40 ++ List.replicate 6 0xFF ++ p2 44 ++ List.replicate 6 0xFF ++ p2 41 ++ p2 42 ++ p2 10 ++ p2 43 ++ q4 90000 ++ p4 100000 ++ p4 1000000 ++ p4 0x3F800000 ++ p4 0 ++ zeros 84) { st := 1, phase := 1 } [] : State) p.2) = some ((40 : Nat), (44 : Nat))) := by decide +kernel

theorem meets_ZoneProgrammesStep_17 :
    ((wZone 1 0 0 [] wHeat { st := 2, phase := 4 } [] : State).absorb.reexecuting = false) ∧
    ((hasHeat (wZone 1 0 0 [] wHeat { st := 2, phase := 4 } [] : State) (1 : Nat) = false ∨ (zone (wZone 1 0 0 [] wHeat { st := 2, phase := 4 } [] : State) (1 : Nat)).phase = 0 ∨ (zone (wZone 1 0 0 [] wHeat { st := 2, phase := 4 } [] : State) (1 : Nat)).phase = 4 ∨ (zone (wZone 1 0 0 [] wHeat { st := 2, phase := 4 } [] : State) (1 : Nat)).phase = 7 ∨ 8 < (zone (wZone 1 0 0 [] wHeat { st := 2, phase := 4 } [] : State) (1 : Nat)).phase ∨ ((zone (wZone 1 0 0 [] wHeat { st := 2, phase := 4 } [] : State) (1 : Nat)).phase = 1 ∧ ∀ p ∈ zProofs (wZone 1 0 0 [] wHeat { st := 2, phase := 4 } [] : State) (1 : Nat), inputOn (wZone 1 0 0 [] wHeat { st := 2, phase := 4 } [] : State) p.2 = true) ∨ ((zone (wZone 1 0 0 [] wHeat { st := 2, phase := 4 } [] : State) (1 : Nat)).phase = 2 ∧ inputOn (wZone 1 0 0 [] wHeat { st := 2, phase := 4 } [] : State) (zFlame (wZone 1 0 0 [] wHeat { st := 2, phase := 4 } [] : State) (1 : Nat)) = true))) := by decide +kernel

theorem meets_ZoneProgrammesStep_18 :
    ((wZone 1 0 0 [] wHeat { st := 1, phase := 3 } [] : State).absorb.reexecuting = false) ∧
    (stepping (wZone 1 0 0 [] wHeat { st := 1, phase := 3 } [] : State) (1 : Nat) = true) ∧
    (hasHeat (wZone 1 0 0 [] wHeat { st := 1, phase := 3 } [] : State) (1 : Nat) = true) ∧
    ((zone (wZone 1 0 0 [] wHeat { st := 1, phase := 3 } [] : State) (1 : Nat)).phase = 3) := by decide +kernel

theorem meets_ZoneProgrammesStep_19 :
    ((wZone 1 0 0 [] wHeat { st := 3, phase := 5 } [] : State).absorb.reexecuting = false) ∧
    (stepping (wZone 1 0 0 [] wHeat { st := 3, phase := 5 } [] : State) (1 : Nat) = true) ∧
    (hasHeat (wZone 1 0 0 [] wHeat { st := 3, phase := 5 } [] : State) (1 : Nat) = true) ∧
    ((zone (wZone 1 0 0 [] wHeat { st := 3, phase := 5 } [] : State) (1 : Nat)).phase = 5) := by decide +kernel

theorem meets_ZoneProgrammesStep_20 :
    ((wZone 1 0 0 [] wHeat { st := 3, phase := 6 } [] : State).absorb.reexecuting = false) ∧
    (stepping (wZone 1 0 0 [] wHeat { st := 3, phase := 6 } [] : State) (1 : Nat) = true) ∧
    (hasHeat (wZone 1 0 0 [] wHeat { st := 3, phase := 6 } [] : State) (1 : Nat) = true) ∧
    ((zone (wZone 1 0 0 [] wHeat { st := 3, phase := 6 } [] : State) (1 : Nat)).phase = 6) := by decide +kernel

theorem meets_ZoneProgrammesStep_21 :
    ((wZone 2 0 0 [] wHeat { st := 3, phase := 8 } [] : State).absorb.reexecuting = false) ∧
    (stepping (wZone 2 0 0 [] wHeat { st := 3, phase := 8 } [] : State) (1 : Nat) = true) ∧
    (hasHeat (wZone 2 0 0 [] wHeat { st := 3, phase := 8 } [] : State) (1 : Nat) = true) ∧
    ((zone (wZone 2 0 0 [] wHeat { st := 3, phase := 8 } [] : State) (1 : Nat)).phase = 8) := by decide +kernel

theorem meets_ZoneProgrammesStep_22 :
    ((wZone 2 0 0 [] wHeat { st := 2, phase := 4 } [(43, { published := true, value := 80000 })] : State).absorb.reexecuting = false) ∧
    (stepping (wZone 2 0 0 [] wHeat { st := 2, phase := 4 } [(43, { published := true, value := 80000 })] : State) (1 : Nat) = true) ∧
    (hasHeat (wZone 2 0 0 [] wHeat { st := 2, phase := 4 } [(43, { published := true, value := 80000 })] : State) (1 : Nat) = true) ∧
    ((zone (wZone 2 0 0 [] wHeat { st := 2, phase := 4 } [(43, { published := true, value := 80000 })] : State) (1 : Nat)).st = 2) ∧
    ((zone (wZone 2 0 0 [] wHeat { st := 2, phase := 4 } [(43, { published := true, value := 80000 })] : State) (1 : Nat)).phase = 4) ∧
    ((100000000 : Nat) = lawNs 100000000 (wZone 2 0 0 [] wHeat { st := 2, phase := 4 } [(43, { published := true, value := 80000 })] : State).sys.devTime false (zone (wZone 2 0 0 [] wHeat { st := 2, phase := 4 } [(43, { published := true, value := 80000 })] : State) (1 : Nat)).loopLast) ∧
    (target (wZone 2 0 0 [] wHeat { st := 2, phase := 4 } [(43, { published := true, value := 80000 })] : State) (1 : Nat) 2 = none) ∧
    (plenumVal (wZone 2 0 0 [] wHeat { st := 2, phase := 4 } [(43, { published := true, value := 80000 })] : State) (1 : Nat) = some (80000 : Int)) ∧
    (zoneProg (wZone 2 0 0 [] wHeat { st := 2, phase := 4 } [(43, { published := true, value := 80000 })] : State) (1 : Nat) ≠ 1) ∧
    ((plenumLaw 1 80000 100000000 (wZone 2 0 0 [] wHeat { st := 2, phase := 4 } [(43, { published := true, value := 80000 })]) : State) = plenumLaw (1 : Nat) (80000 : Int) (100000000 : Nat) (wZone 2 0 0 [] wHeat { st := 2, phase := 4 } [(43, { published := true, value := 80000 })] : State)) := by decide +kernel

theorem meets_ZoneProgrammesStep_23 :
    ((wZone 1 1 0 [] wHeat { st := 2, phase := 4, targets := [(2, 300000)] } [] : State).absorb.reexecuting = false) ∧
    (stepping (wZone 1 1 0 [] wHeat { st := 2, phase := 4, targets := [(2, 300000)] } [] : State) (1 : Nat) = true) ∧
    (hasHeat (wZone 1 1 0 [] wHeat { st := 2, phase := 4, targets := [(2, 300000)] } [] : State) (1 : Nat) = true) ∧
    ((zone (wZone 1 1 0 [] wHeat { st := 2, phase := 4, targets := [(2, 300000)] } [] : State) (1 : Nat)).st = 2) ∧
    ((zone (wZone 1 1 0 [] wHeat { st := 2, phase := 4, targets := [(2, 300000)] } [] : State) (1 : Nat)).phase = 4) ∧
    ((100000000 : Nat) = lawNs 100000000 (wZone 1 1 0 [] wHeat { st := 2, phase := 4, targets := [(2, 300000)] } [] : State).sys.devTime false (zone (wZone 1 1 0 [] wHeat { st := 2, phase := 4, targets := [(2, 300000)] } [] : State) (1 : Nat)).loopLast) ∧
    (target (wZone 1 1 0 [] wHeat { st := 2, phase := 4, targets := [(2, 300000)] } [] : State) (1 : Nat) 2 = some (300000 : Int)) := by decide +kernel

theorem meets_ZoneProgrammesStep_24 :
    ((wZone 1 0 0 [] wHeat { st := 2, phase := 4, heat := { plenumHeld := true } } [] : State).absorb.reexecuting = false) ∧
    (stepping (wZone 1 0 0 [] wHeat { st := 2, phase := 4, heat := { plenumHeld := true } } [] : State) (1 : Nat) = true) ∧
    (hasHeat (wZone 1 0 0 [] wHeat { st := 2, phase := 4, heat := { plenumHeld := true } } [] : State) (1 : Nat) = true) ∧
    ((zone (wZone 1 0 0 [] wHeat { st := 2, phase := 4, heat := { plenumHeld := true } } [] : State) (1 : Nat)).st = 2) ∧
    ((zone (wZone 1 0 0 [] wHeat { st := 2, phase := 4, heat := { plenumHeld := true } } [] : State) (1 : Nat)).phase = 4) ∧
    ((100000000 : Nat) = lawNs 100000000 (wZone 1 0 0 [] wHeat { st := 2, phase := 4, heat := { plenumHeld := true } } [] : State).sys.devTime false (zone (wZone 1 0 0 [] wHeat { st := 2, phase := 4, heat := { plenumHeld := true } } [] : State) (1 : Nat)).loopLast) ∧
    (target (wZone 1 0 0 [] wHeat { st := 2, phase := 4, heat := { plenumHeld := true } } [] : State) (1 : Nat) 2 = none) ∧
    ((plenumVal (wZone 1 0 0 [] wHeat { st := 2, phase := 4, heat := { plenumHeld := true } } [] : State) (1 : Nat) = none ∨ zoneProg (wZone 1 0 0 [] wHeat { st := 2, phase := 4, heat := { plenumHeld := true } } [] : State) (1 : Nat) = 1)) := by decide +kernel

theorem meets_ZoneProgrammesStep_25 :
    ((wZone 6 0 0 [] [] { st := 2 } [] : State).absorb.reexecuting = false) ∧
    ((hasHeat (wZone 6 0 0 [] [] { st := 2 } [] : State) (1 : Nat) = false ∨ (zone (wZone 6 0 0 [] [] { st := 2 } [] : State) (1 : Nat)).st ≠ 2 ∨ (zone (wZone 6 0 0 [] [] { st := 2 } [] : State) (1 : Nat)).phase ≠ 4)) := by decide +kernel

theorem meets_ZoneProgrammesStep_26 :
    ((wZone 1 0 0 [] wHeat { st := 2, phase := 4, heat := { plenumHeld := true } } [] : State).absorb.reexecuting = false) ∧
    ((plenumVal (wZone 1 0 0 [] wHeat { st := 2, phase := 4, heat := { plenumHeld := true } } [] : State) (1 : Nat) ≠ none ∨ zoneProg (wZone 1 0 0 [] wHeat { st := 2, phase := 4, heat := { plenumHeld := true } } [] : State) (1 : Nat) = 1 ∨ (zone (wZone 1 0 0 [] wHeat { st := 2, phase := 4, heat := { plenumHeld := true } } [] : State) (1 : Nat)).heat.plenumHeld = true)) := by decide +kernel

theorem meets_ZoneProgrammesStep_27 :
    ((wZone 1 0 0 [] wHeat { st := 2, phase := 4 } [] : State).absorb.reexecuting = false) ∧
    (stepping (wZone 1 0 0 [] wHeat { st := 2, phase := 4 } [] : State) (1 : Nat) = true) ∧
    (hasHeat (wZone 1 0 0 [] wHeat { st := 2, phase := 4 } [] : State) (1 : Nat) = true) ∧
    ((zone (wZone 1 0 0 [] wHeat { st := 2, phase := 4 } [] : State) (1 : Nat)).st = 2) ∧
    ((zone (wZone 1 0 0 [] wHeat { st := 2, phase := 4 } [] : State) (1 : Nat)).phase = 4) ∧
    (plenumVal (wZone 1 0 0 [] wHeat { st := 2, phase := 4 } [] : State) (1 : Nat) = none) ∧
    (zoneProg (wZone 1 0 0 [] wHeat { st := 2, phase := 4 } [] : State) (1 : Nat) ≠ 1) ∧
    ((zone (wZone 1 0 0 [] wHeat { st := 2, phase := 4 } [] : State) (1 : Nat)).heat.plenumHeld = false) := by decide +kernel

theorem meets_ZoneProgrammesStep_28 :
    ((wZone 1 0 0 [] wHeat { st := 2, phase := 4 } [(43, { published := true, value := 80000 })] : State).absorb.reexecuting = false) ∧
    (stepping (wZone 1 0 0 [] wHeat { st := 2, phase := 4 } [(43, { published := true, value := 80000 })] : State) (1 : Nat) = true) ∧
    (zoneType (wZone 1 0 0 [] wHeat { st := 2, phase := 4 } [(43, { published := true, value := 80000 })] : State) (1 : Nat) = 1) ∧
    (plenumVal (wZone 1 0 0 [] wHeat { st := 2, phase := 4 } [(43, { published := true, value := 80000 })] : State) (1 : Nat) = some (80000 : Int)) ∧
    ((1000000000 : Nat) = lawNs 1000000000 (wZone 1 0 0 [] wHeat { st := 2, phase := 4 } [(43, { published := true, value := 80000 })] : State).sys.devTime false (zone (wZone 1 0 0 [] wHeat { st := 2, phase := 4 } [(43, { published := true, value := 80000 })] : State) (1 : Nat)).expLast) := by decide +kernel

theorem meets_ZoneProgrammesStep_29 :
    ((wZone 1 0 0 [] wHeat { st := 2, phase := 4 } [] : State).absorb.reexecuting = false) ∧
    (stepping (wZone 1 0 0 [] wHeat { st := 2, phase := 4 } [] : State) (1 : Nat) = true) ∧
    (zoneType (wZone 1 0 0 [] wHeat { st := 2, phase := 4 } [] : State) (1 : Nat) = 1) ∧
    (plenumVal (wZone 1 0 0 [] wHeat { st := 2, phase := 4 } [] : State) (1 : Nat) = none) := by decide +kernel

theorem meets_ZoneProgrammesStep_30 :
    ((wZone 6 0 0 [] [] { st := 2 } [] : State).absorb.reexecuting = false) ∧
    (zoneType (wZone 6 0 0 [] [] { st := 2 } [] : State) (1 : Nat) ≠ 1) := by decide +kernel

theorem meets_ZoneProgrammesStep_31 :
    ((wZone 2 0 0 [] wHeat { st := 2, phase := 7 } [] : State).absorb.reexecuting = false) ∧
    (stepping (wZone 2 0 0 [] wHeat { st := 2, phase := 7 } [] : State) (1 : Nat) = true) ∧
    (zoneType (wZone 2 0 0 [] wHeat { st := 2, phase := 7 } [] : State) (1 : Nat) = 2) ∧
    ((zone (wZone 2 0 0 [] wHeat { st := 2, phase := 7 } [] : State) (1 : Nat)).st = 2) ∧
    ((zone (wZone 2 0 0 [] wHeat { st := 2, phase := 7 } [] : State) (1 : Nat)).phase = 7) := by decide +kernel

theorem meets_ZoneProgrammesStep_32 :
    ((wZone 2 0 0 [] wHeat { st := 2, phase := 4 } [] : State).absorb.reexecuting = false) ∧
    (stepping (wZone 2 0 0 [] wHeat { st := 2, phase := 4 } [] : State) (1 : Nat) = true) ∧
    (zoneType (wZone 2 0 0 [] wHeat { st := 2, phase := 4 } [] : State) (1 : Nat) = 2) ∧
    ((zone (wZone 2 0 0 [] wHeat { st := 2, phase := 4 } [] : State) (1 : Nat)).st = 2) ∧
    ((zone (wZone 2 0 0 [] wHeat { st := 2, phase := 4 } [] : State) (1 : Nat)).phase = 4) := by decide +kernel

theorem meets_ZoneProgrammesStep_33 :
    ((wZone 2 0 0 [] wHeat { st := 2, phase := 8 } [] : State).absorb.reexecuting = false) ∧
    (stepping (wZone 2 0 0 [] wHeat { st := 2, phase := 8 } [] : State) (1 : Nat) = true) ∧
    (zoneType (wZone 2 0 0 [] wHeat { st := 2, phase := 8 } [] : State) (1 : Nat) = 2) ∧
    ((zone (wZone 2 0 0 [] wHeat { st := 2, phase := 8 } [] : State) (1 : Nat)).st = 2) ∧
    ((zone (wZone 2 0 0 [] wHeat { st := 2, phase := 8 } [] : State) (1 : Nat)).phase = 8) := by decide +kernel

theorem meets_ZoneProgrammesStep_34 :
    ((wZone 2 0 0 [] wHeat { st := 2, phase := 9 } [] : State).absorb.reexecuting = false) ∧
    (stepping (wZone 2 0 0 [] wHeat { st := 2, phase := 9 } [] : State) (1 : Nat) = true) ∧
    (zoneType (wZone 2 0 0 [] wHeat { st := 2, phase := 9 } [] : State) (1 : Nat) = 2) ∧
    ((zone (wZone 2 0 0 [] wHeat { st := 2, phase := 9 } [] : State) (1 : Nat)).st = 2) ∧
    ((zone (wZone 2 0 0 [] wHeat { st := 2, phase := 9 } [] : State) (1 : Nat)).phase = 9) := by decide +kernel

theorem meets_ZoneProgrammesStep_35 :
    ((wZone 6 0 0 [] [] { st := 2 } [] : State).absorb.reexecuting = false) ∧
    ((zoneType (wZone 6 0 0 [] [] { st := 2 } [] : State) (1 : Nat) ≠ 2 ∨ (zone (wZone 6 0 0 [] [] { st := 2 } [] : State) (1 : Nat)).st ≠ 2 ∨ ((zone (wZone 6 0 0 [] [] { st := 2 } [] : State) (1 : Nat)).phase ≠ 4 ∧ (zone (wZone 6 0 0 [] [] { st := 2 } [] : State) (1 : Nat)).phase ≠ 7 ∧ (zone (wZone 6 0 0 [] [] { st := 2 } [] : State) (1 : Nat)).phase ≠ 8 ∧ (zone (wZone 6 0 0 [] [] { st := 2 } [] : State) (1 : Nat)).phase ≠ 9))) := by decide +kernel

theorem meets_ZoneProgrammesStep_36 :
    ((wZone 3 0 0 [] (zeros 12 ++ [1] ++ zeros 3 ++ p2 43 ++ zeros 182) { st := 2, phase := 1 } [(43, { published := true, value := 80000 })] : State).absorb.reexecuting = false) ∧
    (stepping (wZone 3 0 0 [] (zeros 12 ++ [1] ++ zeros 3 ++ p2 43 ++ zeros 182) { st := 2, phase := 1 } [(43, { published := true, value := 80000 })] : State) (1 : Nat) = true) ∧
    (zoneType (wZone 3 0 0 [] (zeros 12 ++ [1] ++ zeros 3 ++ p2 43 ++ zeros 182) { st := 2, phase := 1 } [(43, { published := true, value := 80000 })] : State) (1 : Nat) = 3) ∧
    ((zone (wZone 3 0 0 [] (zeros 12 ++ [1] ++ zeros 3 ++ p2 43 ++ zeros 182) { st := 2, phase := 1 } [(43, { published := true, value := 80000 })] : State) (1 : Nat)).st = 2) ∧
    (([(0, 0, 80000)] : List (Nat × Nat × Int)) = siloValid (wZone 3 0 0 [] (zeros 12 ++ [1] ++ zeros 3 ++ p2 43 ++ zeros 182) { st := 2, phase := 1 } [(43, { published := true, value := 80000 })] : State) (1 : Nat)) ∧
    (([(0, 0, 80000)] : List (Nat × Nat × Int)) ≠ []) ∧
    (([(0, 0, 80000)] : List (Nat × Nat × Int)) = ([(0, 0, 80000)] : List (Nat × Nat × Int)).filter (fun x => hotCause (wZone 3 0 0 [] (zeros 12 ++ [1] ++ zeros 3 ++ p2 43 ++ zeros 182) { st := 2, phase := 1 } [(43, { published := true, value := 80000 })] : State) (1 : Nat) ([(0, 0, 80000)] : List (Nat × Nat × Int)) x != 0)) ∧
    ((80000 : Rat) = ((([(0, 0, 80000)] : List (Nat × Nat × Int)).map (fun x => x.2.2)).sum : Int) / (([(0, 0, 80000)] : List (Nat × Nat × Int)).length : Nat)) := by decide +kernel

theorem meets_ZoneProgrammesStep_37 :
    ((wZone 3 0 0 [] (zeros 12 ++ [1] ++ zeros 3 ++ p2 43 ++ zeros 182) { st := 2, phase := 1 } [] : State).absorb.reexecuting = false) ∧
    (stepping (wZone 3 0 0 [] (zeros 12 ++ [1] ++ zeros 3 ++ p2 43 ++ zeros 182) { st := 2, phase := 1 } [] : State) (1 : Nat) = true) ∧
    (zoneType (wZone 3 0 0 [] (zeros 12 ++ [1] ++ zeros 3 ++ p2 43 ++ zeros 182) { st := 2, phase := 1 } [] : State) (1 : Nat) = 3) ∧
    ((zone (wZone 3 0 0 [] (zeros 12 ++ [1] ++ zeros 3 ++ p2 43 ++ zeros 182) { st := 2, phase := 1 } [] : State) (1 : Nat)).st = 2) ∧
    (siloValid (wZone 3 0 0 [] (zeros 12 ++ [1] ++ zeros 3 ++ p2 43 ++ zeros 182) { st := 2, phase := 1 } [] : State) (1 : Nat) = []) := by decide +kernel

theorem meets_ZoneProgrammesStep_38 :
    ((wZone 6 0 0 [] [] { st := 2 } [] : State).absorb.reexecuting = false) ∧
    ((zoneType (wZone 6 0 0 [] [] { st := 2 } [] : State) (1 : Nat) ≠ 3 ∨ (zone (wZone 6 0 0 [] [] { st := 2 } [] : State) (1 : Nat)).st ≠ 2)) := by decide +kernel

theorem meets_ZoneProgrammesStep_39 :
    ((onIsland (fun i => { i with latest := [(2, zeros 128)] }) (wZone 5 0 0 [] (p2 44 ++ p2 45 ++ p2 46 ++ p2 47 ++ p2 0xFFFF ++ p2 32 ++ zeros 52) { st := 2, phase := 3, weigh := { disOn := true } } []) : State).absorb.reexecuting = false) ∧
    (stepping (onIsland (fun i => { i with latest := [(2, zeros 128)] }) (wZone 5 0 0 [] (p2 44 ++ p2 45 ++ p2 46 ++ p2 47 ++ p2 0xFFFF ++ p2 32 ++ zeros 52) { st := 2, phase := 3, weigh := { disOn := true } } []) : State) (1 : Nat) = true) ∧
    (zoneType (onIsland (fun i => { i with latest := [(2, zeros 128)] }) (wZone 5 0 0 [] (p2 44 ++ p2 45 ++ p2 46 ++ p2 47 ++ p2 0xFFFF ++ p2 32 ++ zeros 52) { st := 2, phase := 3, weigh := { disOn := true } } []) : State) (1 : Nat) = 5) ∧
    ((zone (onIsland (fun i => { i with latest := [(2, zeros 128)] }) (wZone 5 0 0 [] (p2 44 ++ p2 45 ++ p2 46 ++ p2 47 ++ p2 0xFFFF ++ p2 32 ++ zeros 52) { st := 2, phase := 3, weigh := { disOn := true } } []) : State) (1 : Nat)).st = 2) ∧
    ((zone (onIsland (fun i => { i with latest := [(2, zeros 128)] }) (wZone 5 0 0 [] (p2 44 ++ p2 45 ++ p2 46 ++ p2 47 ++ p2 0xFFFF ++ p2 32 ++ zeros 52) { st := 2, phase := 3, weigh := { disOn := true } } []) : State) (1 : Nat)).phase = 3) ∧
    ((zone (onIsland (fun i => { i with latest := [(2, zeros 128)] }) (wZone 5 0 0 [] (p2 44 ++ p2 45 ++ p2 46 ++ p2 47 ++ p2 0xFFFF ++ p2 32 ++ zeros 52) { st := 2, phase := 3, weigh := { disOn := true } } []) : State) (1 : Nat)).weigh.disOn = true) ∧
    (weighGross (onIsland (fun i => { i with latest := [(2, zeros 128)] }) (wZone 5 0 0 [] (p2 44 ++ p2 45 ++ p2 46 ++ p2 47 ++ p2 0xFFFF ++ p2 32 ++ zeros 52) { st := 2, phase := 3, weigh := { disOn := true } } []) : State) (1 : Nat) = some (0 : Int)) ∧
    ((0 : Int) ≤ i4 (zb (onIsland (fun i => { i with latest := [(2, zeros 128)] }) (wZone 5 0 0 [] (p2 44 ++ p2 45 ++ p2 46 ++ p2 47 ++ p2 0xFFFF ++ p2 32 ++ zeros 52) { st := 2, phase := 3, weigh := { disOn := true } } []) : State) (1 : Nat)) 16) := by decide +kernel

theorem meets_ZoneProgrammesStep_40 :
    ((wZone 6 0 0 [] [] { st := 2 } [] : State).absorb.reexecuting = false) ∧
    ((zoneType (wZone 6 0 0 [] [] { st := 2 } [] : State) (1 : Nat) ≠ 5 ∨ (zone (wZone 6 0 0 [] [] { st := 2 } [] : State) (1 : Nat)).st ≠ 2 ∨ (zone (wZone 6 0 0 [] [] { st := 2 } [] : State) (1 : Nat)).phase ≠ 3 ∨ (zone (wZone 6 0 0 [] [] { st := 2 } [] : State) (1 : Nat)).weigh.disOn = false ∨ (∀ g ∈ weighGross (wZone 6 0 0 [] [] { st := 2 } [] : State) (1 : Nat), i4 (zb (wZone 6 0 0 [] [] { st := 2 } [] : State) (1 : Nat)) 16 < g))) := by decide +kernel

theorem meets_ZoneProgrammesStep_41 :
    ((wZone 5 0 0 [] (zeros 64) { st := 1 } [] : State).absorb.reexecuting = false) ∧
    (stepping (wZone 5 0 0 [] (zeros 64) { st := 1 } [] : State) (1 : Nat) = true) ∧
    (zoneType (wZone 5 0 0 [] (zeros 64) { st := 1 } [] : State) (1 : Nat) = 5) ∧
    (((zone (wZone 5 0 0 [] (zeros 64) { st := 1 } [] : State) (1 : Nat)).st = 1 ∨ (zone (wZone 5 0 0 [] (zeros 64) { st := 1 } [] : State) (1 : Nat)).st = 2 ∧ ((zone (wZone 5 0 0 [] (zeros 64) { st := 1 } [] : State) (1 : Nat)).phase = 1 ∨ (zone (wZone 5 0 0 [] (zeros 64) { st := 1 } [] : State) (1 : Nat)).phase = 3))) := by decide +kernel

theorem meets_ZoneProgrammesStep_42 :
    ((wZone 6 0 0 [] [] { st := 2 } [] : State).absorb.reexecuting = false) ∧
    ((zoneType (wZone 6 0 0 [] [] { st := 2 } [] : State) (1 : Nat) ≠ 5 ∨ ((zone (wZone 6 0 0 [] [] { st := 2 } [] : State) (1 : Nat)).st ≠ 1 ∧ ¬ ((zone (wZone 6 0 0 [] [] { st := 2 } [] : State) (1 : Nat)).st = 2 ∧ ((zone (wZone 6 0 0 [] [] { st := 2 } [] : State) (1 : Nat)).phase = 1 ∨ (zone (wZone 6 0 0 [] [] { st := 2 } [] : State) (1 : Nat)).phase = 3))))) := by decide +kernel

theorem meets_ZoneCommandsAct_1 :
    (asks 0x0301 (rq [1, 0, 0, 0] : Req) (wZone 6 0 0 [] [] {} [] : State) = true) ∧
    ((1 : Nat) = g1 (rq [1, 0, 0, 0] : Req).payload 0) ∧
    ((1 : Nat) ≤ 15) ∧
    (zeroAt (rq [1, 0, 0, 0] : Req).payload 1 3 = true) ∧
    (zonePresent (wZone 6 0 0 [] [] {} [] : State) (1 : Nat) = true) ∧
    (permOpen (wZone 6 0 0 [] [] {} [] : State) (1 : Nat) = []) ∧
    ((zone (wZone 6 0 0 [] [] {} [] : State) (1 : Nat)).st = 0) := by decide +kernel

theorem meets_ZoneCommandsAct_2 :
    (asks 0x0301 (rq [1, 0, 0, 0] : Req) (wZone 6 0 0 [] [] { st := 4, causes := 0x10 } [] : State) = true) ∧
    ((1 : Nat) = g1 (rq [1, 0, 0, 0] : Req).payload 0) ∧
    ((1 : Nat) ≤ 15) ∧
    (zeroAt (rq [1, 0, 0, 0] : Req).payload 1 3 = true) ∧
    (zonePresent (wZone 6 0 0 [] [] { st := 4, causes := 0x10 } [] : State) (1 : Nat) = true) ∧
    (permOpen (wZone 6 0 0 [] [] { st := 4, causes := 0x10 } [] : State) (1 : Nat) = []) ∧
    ((zone (wZone 6 0 0 [] [] { st := 4, causes := 0x10 } [] : State) (1 : Nat)).st = 4) ∧
    ((zone (wZone 6 0 0 [] [] { st := 4, causes := 0x10 } [] : State) (1 : Nat)).causes ≠ 0) ∧
    ((zone (wZone 6 0 0 [] [] { st := 4, causes := 0x10 } [] : State) (1 : Nat)).causes &&& unlatched = 0) := by decide +kernel

theorem meets_ZoneCommandsAct_3 :
    (asks 0x0301 (rq [1, 0, 0, 0] : Req) (wZone 6 0 0 [] [] { st := 2 } [] : State) = true) ∧
    (g1 (rq [1, 0, 0, 0] : Req).payload 0 ≤ 15) ∧
    (zeroAt (rq [1, 0, 0, 0] : Req).payload 1 3 = true) ∧
    (zonePresent (wZone 6 0 0 [] [] { st := 2 } [] : State) (g1 (rq [1, 0, 0, 0] : Req).payload 0) = true) ∧
    ((permOpen (wZone 6 0 0 [] [] { st := 2 } [] : State) (g1 (rq [1, 0, 0, 0] : Req).payload 0) ≠ [] ∨ ((zone (wZone 6 0 0 [] [] { st := 2 } [] : State) (g1 (rq [1, 0, 0, 0] : Req).payload 0)).st ≠ 0 ∧ ((zone (wZone 6 0 0 [] [] { st := 2 } [] : State) (g1 (rq [1, 0, 0, 0] : Req).payload 0)).st ≠ 4 ∨ (zone (wZone 6 0 0 [] [] { st := 2 } [] : State) (g1 (rq [1, 0, 0, 0] : Req).payload 0)).causes = 0 ∨ (zone (wZone 6 0 0 [] [] { st := 2 } [] : State) (g1 (rq [1, 0, 0, 0] : Req).payload 0)).causes &&& unlatched ≠ 0)))) := by decide +kernel

theorem meets_ZoneCommandsAct_4 :
    (asks 0x0301 (rq [16, 0, 0, 0] : Req) (wZone 6 0 0 [] [] { st := 2 } [] : State) = true) ∧
    ((15 < g1 (rq [16, 0, 0, 0] : Req).payload 0 ∨ zeroAt (rq [16, 0, 0, 0] : Req).payload 1 3 = false)) := by decide +kernel

theorem meets_ZoneCommandsAct_5 :
    (asks 0x0301 (rq [2, 0, 0, 0] : Req) (wZone 6 0 0 [] [] { st := 2 } [] : State) = true) ∧
    (g1 (rq [2, 0, 0, 0] : Req).payload 0 ≤ 15) ∧
    (zeroAt (rq [2, 0, 0, 0] : Req).payload 1 3 = true) ∧
    (zonePresent (wZone 6 0 0 [] [] { st := 2 } [] : State) (g1 (rq [2, 0, 0, 0] : Req).payload 0) = false) := by decide +kernel

theorem meets_ZoneCommandsAct_6 :
    (asks 0x0302 (rq [1, 1, 0, 0] : Req) (wZone 6 0 0 [] [] { st := 2 } [] : State) = true) ∧
    (g1 (rq [1, 1, 0, 0] : Req).payload 0 ≤ 15) ∧
    (g1 (rq [1, 1, 0, 0] : Req).payload 1 = 1) ∧
    (zeroAt (rq [1, 1, 0, 0] : Req).payload 2 2 = true) ∧
    (zonePresent (wZone 6 0 0 [] [] { st := 2 } [] : State) (g1 (rq [1, 1, 0, 0] : Req).payload 0) = true) := by decide +kernel

theorem meets_ZoneCommandsAct_7 :
    (asks 0x0302 (rq [1, 0, 0, 0] : Req) (wZone 6 0 0 [] [] { st := 2 } [] : State) = true) ∧
    (g1 (rq [1, 0, 0, 0] : Req).payload 0 ≤ 15) ∧
    (g1 (rq [1, 0, 0, 0] : Req).payload 1 = 0) ∧
    (zeroAt (rq [1, 0, 0, 0] : Req).payload 2 2 = true) ∧
    (zonePresent (wZone 6 0 0 [] [] { st := 2 } [] : State) (g1 (rq [1, 0, 0, 0] : Req).payload 0) = true) := by decide +kernel

theorem meets_ZoneCommandsAct_8 :
    (asks 0x0302 (rq [1, 2, 0, 0] : Req) (wZone 6 0 0 [] [] { st := 2 } [] : State) = true) ∧
    ((15 < g1 (rq [1, 2, 0, 0] : Req).payload 0 ∨ 1 < g1 (rq [1, 2, 0, 0] : Req).payload 1 ∨ zeroAt (rq [1, 2, 0, 0] : Req).payload 2 2 = false)) := by decide +kernel

theorem meets_ZoneCommandsAct_9 :
    (asks 0x0302 (rq [2, 0, 0, 0] : Req) (wZone 6 0 0 [] [] { st := 2 } [] : State) = true) ∧
    (g1 (rq [2, 0, 0, 0] : Req).payload 0 ≤ 15) ∧
    (g1 (rq [2, 0, 0, 0] : Req).payload 1 ≤ 1) ∧
    (zeroAt (rq [2, 0, 0, 0] : Req).payload 2 2 = true) ∧
    (zonePresent (wZone 6 0 0 [] [] { st := 2 } [] : State) (g1 (rq [2, 0, 0, 0] : Req).payload 0) = false) := by decide +kernel

theorem meets_ZoneCommandsAct_10 :
    (asks 0x0303 (rq [1, 0, 0, 0] : Req) (wZone 6 0 0 [] [] { st := 2 } [] : State) = true) ∧
    ((1 : Nat) = g1 (rq [1, 0, 0, 0] : Req).payload 0) ∧
    ((1 : Nat) ≤ 15) ∧
    (zeroAt (rq [1, 0, 0, 0] : Req).payload 1 3 = true) ∧
    (zonePresent (wZone 6 0 0 [] [] { st := 2 } [] : State) (1 : Nat) = true) ∧
    (({ st := 2 } : Zone) = zone (wZone 6 0 0 [] [] { st := 2 } [] : State) (1 : Nat)) := by decide +kernel

theorem meets_ZoneCommandsAct_11 :
    (asks 0x0303 (rq [16, 0, 0, 0] : Req) (wZone 6 0 0 [] [] { st := 2 } [] : State) = true) ∧
    ((15 < g1 (rq [16, 0, 0, 0] : Req).payload 0 ∨ zeroAt (rq [16, 0, 0, 0] : Req).payload 1 3 = false)) := by decide +kernel

theorem meets_ZoneCommandsAct_12 :
    (asks 0x0303 (rq [2, 0, 0, 0] : Req) (wZone 6 0 0 [] [] { st := 2 } [] : State) = true) ∧
    (g1 (rq [2, 0, 0, 0] : Req).payload 0 ≤ 15) ∧
    (zeroAt (rq [2, 0, 0, 0] : Req).payload 1 3 = true) ∧
    (zonePresent (wZone 6 0 0 [] [] { st := 2 } [] : State) (g1 (rq [2, 0, 0, 0] : Req).payload 0) = false) := by decide +kernel

theorem meets_ZoneCommandsAct_13 :
    (asks 0x0304 ({ side := .app, sluice := 5, tag := 7, flags := 0, payload := [1, 4, 0xFF, 0xFF] ++ q4 1 } : Req) (onMail (fun m => { m with sluices := m.sluices ++ [(5, { owner := some .app, sizeKib := 4, st := .idle })] }) (wZone 3 1 0 [] (zeros 208) { st := 2 } []) : State) = true) ∧
    ((1 : Nat) = g1 ({ side := .app, sluice := 5, tag := 7, flags := 0, payload := [1, 4, 0xFF, 0xFF] ++ q4 1 } : Req).payload 0) ∧
    ((1 : Nat) ≤ 15) ∧
    (zonePresent (onMail (fun m => { m with sluices := m.sluices ++ [(5, { owner := some .app, sizeKib := 4, st := .idle })] }) (wZone 3 1 0 [] (zeros 208) { st := 2 } []) : State) (1 : Nat) = true) ∧
    (g1 ({ side := .app, sluice := 5, tag := 7, flags := 0, payload := [1, 4, 0xFF, 0xFF] ++ q4 1 } : Req).payload 1 ≠ 0) ∧
    (targetFor (onMail (fun m => { m with sluices := m.sluices ++ [(5, { owner := some .app, sizeKib := 4, st := .idle })] }) (wZone 3 1 0 [] (zeros 208) { st := 2 } []) : State) (1 : Nat) (g1 ({ side := .app, sluice := 5, tag := 7, flags := 0, payload := [1, 4, 0xFF, 0xFF] ++ q4 1 } : Req).payload 1) = true) ∧
    (g2 ({ side := .app, sluice := 5, tag := 7, flags := 0, payload := [1, 4, 0xFF, 0xFF] ++ q4 1 } : Req).payload 2 = 0xFFFF) ∧
    (zoneProg (onMail (fun m => { m with sluices := m.sluices ++ [(5, { owner := some .app, sizeKib := 4, st := .idle })] }) (wZone 3 1 0 [] (zeros 208) { st := 2 } []) : State) (1 : Nat) ≠ 0) ∧
    (({ side := .app, sluice := 5, tag := 7, flags := 0, payload := [1, 4, 0xFF, 0xFF] ++ q4 1 } : Req).side = .app) ∧
    ((zone (onMail (fun m => { m with sluices := m.sluices ++ [(5, { owner := some .app, sizeKib := 4, st := .idle })] }) (wZone 3 1 0 [] (zeros 208) { st := 2 } []) : State) (1 : Nat)).st ≠ 0) ∧
    (targetInRange (onMail (fun m => { m with sluices := m.sluices ++ [(5, { owner := some .app, sizeKib := 4, st := .idle })] }) (wZone 3 1 0 [] (zeros 208) { st := 2 } []) : State) (1 : Nat) (g1 ({ side := .app, sluice := 5, tag := 7, flags := 0, payload := [1, 4, 0xFF, 0xFF] ++ q4 1 } : Req).payload 1) 0xFFFF (i4 ({ side := .app, sluice := 5, tag := 7, flags := 0, payload := [1, 4, 0xFF, 0xFF] ++ q4 1 } : Req).payload 4) = true) := by decide +kernel

theorem meets_ZoneCommandsAct_14 :
    (asks 0x0304 ({ side := .app, sluice := 5, tag := 7, flags := 0, payload := [1, 0] ++ p2 5 ++ q4 1 } : Req) (onMail (fun m => { m with sluices := m.sluices ++ [(5, { owner := some .app, sizeKib := 4, st := .idle })] }) ({ wZone 6 1 0 [] [] { st := 2 } [] with cfg := { (wZone 6 1 0 [] [] { st := 2 } []).cfg with active := { wStn 5 0x41 4 [5] with body := p2 0x41 ++ [1, 0, 4, 1, 5] ++ zeros 73 } :: (wZone 6 1 0 [] [] { st := 2 } []).cfg.active } }) : State) = true) ∧
    ((1 : Nat) = g1 ({ side := .app, sluice := 5, tag := 7, flags := 0, payload := [1, 0] ++ p2 5 ++ q4 1 } : Req).payload 0) ∧
    ((1 : Nat) ≤ 15) ∧
    (zonePresent (onMail (fun m => { m with sluices := m.sluices ++ [(5, { owner := some .app, sizeKib := 4, st := .idle })] }) ({ wZone 6 1 0 [] [] { st := 2 } [] with cfg := { (wZone 6 1 0 [] [] { st := 2 } []).cfg with active := { wStn 5 0x41 4 [5] with body := p2 0x41 ++ [1, 0, 4, 1, 5] ++ zeros 73 } :: (wZone 6 1 0 [] [] { st := 2 } []).cfg.active } }) : State) (1 : Nat) = true) ∧
    (g1 ({ side := .app, sluice := 5, tag := 7, flags := 0, payload := [1, 0] ++ p2 5 ++ q4 1 } : Req).payload 1 = 0) ∧
    (zoneType (onMail (fun m => { m with sluices := m.sluices ++ [(5, { owner := some .app, sizeKib := 4, st := .idle })] }) ({ wZone 6 1 0 [] [] { st := 2 } [] with cfg := { (wZone 6 1 0 [] [] { st := 2 } []).cfg with active := { wStn 5 0x41 4 [5] with body := p2 0x41 ++ [1, 0, 4, 1, 5] ++ zeros 73 } :: (wZone 6 1 0 [] [] { st := 2 } []).cfg.active } }) : State) (1 : Nat) = 6) ∧
    ((5 : Nat) = g2 ({ side := .app, sluice := 5, tag := 7, flags := 0, payload := [1, 0] ++ p2 5 ++ q4 1 } : Req).payload 2) ∧
    ((5 : Nat) < 128) ∧
    (stnZone (onMail (fun m => { m with sluices := m.sluices ++ [(5, { owner := some .app, sizeKib := 4, st := .idle })] }) ({ wZone 6 1 0 [] [] { st := 2 } [] with cfg := { (wZone 6 1 0 [] [] { st := 2 } []).cfg with active := { wStn 5 0x41 4 [5] with body := p2 0x41 ++ [1, 0, 4, 1, 5] ++ zeros 73 } :: (wZone 6 1 0 [] [] { st := 2 } []).cfg.active } }) : State) (5 : Nat) = (1 : Nat)) ∧
    ((isFieldOut (onMail (fun m => { m with sluices := m.sluices ++ [(5, { owner := some .app, sizeKib := 4, st := .idle })] }) ({ wZone 6 1 0 [] [] { st := 2 } [] with cfg := { (wZone 6 1 0 [] [] { st := 2 } []).cfg with active := { wStn 5 0x41 4 [5] with body := p2 0x41 ++ [1, 0, 4, 1, 5] ++ zeros 73 } :: (wZone 6 1 0 [] [] { st := 2 } []).cfg.active } }) : State) (5 : Nat) = true ∨ isLoopOut (onMail (fun m => { m with sluices := m.sluices ++ [(5, { owner := some .app, sizeKib := 4, st := .idle })] }) ({ wZone 6 1 0 [] [] { st := 2 } [] with cfg := { (wZone 6 1 0 [] [] { st := 2 } []).cfg with active := { wStn 5 0x41 4 [5] with body := p2 0x41 ++ [1, 0, 4, 1, 5] ++ zeros 73 } :: (wZone 6 1 0 [] [] { st := 2 } []).cfg.active } }) : State) (5 : Nat) = true ∨ isProp (onMail (fun m => { m with sluices := m.sluices ++ [(5, { owner := some .app, sizeKib := 4, st := .idle })] }) ({ wZone 6 1 0 [] [] { st := 2 } [] with cfg := { (wZone 6 1 0 [] [] { st := 2 } []).cfg with active := { wStn 5 0x41 4 [5] with body := p2 0x41 ++ [1, 0, 4, 1, 5] ++ zeros 73 } :: (wZone 6 1 0 [] [] { st := 2 } []).cfg.active } }) : State) (5 : Nat) = true)) ∧
    (zoneProg (onMail (fun m => { m with sluices := m.sluices ++ [(5, { owner := some .app, sizeKib := 4, st := .idle })] }) ({ wZone 6 1 0 [] [] { st := 2 } [] with cfg := { (wZone 6 1 0 [] [] { st := 2 } []).cfg with active := { wStn 5 0x41 4 [5] with body := p2 0x41 ++ [1, 0, 4, 1, 5] ++ zeros 73 } :: (wZone 6 1 0 [] [] { st := 2 } []).cfg.active } }) : State) (1 : Nat) ≠ 0) ∧
    (({ side := .app, sluice := 5, tag := 7, flags := 0, payload := [1, 0] ++ p2 5 ++ q4 1 } : Req).side = .app) ∧
    ((zone (onMail (fun m => { m with sluices := m.sluices ++ [(5, { owner := some .app, sizeKib := 4, st := .idle })] }) ({ wZone 6 1 0 [] [] { st := 2 } [] with cfg := { (wZone 6 1 0 [] [] { st := 2 } []).cfg with active := { wStn 5 0x41 4 [5] with body := p2 0x41 ++ [1, 0, 4, 1, 5] ++ zeros 73 } :: (wZone 6 1 0 [] [] { st := 2 } []).cfg.active } }) : State) (1 : Nat)).st = 2) ∧
    (targetInRange (onMail (fun m => { m with sluices := m.sluices ++ [(5, { owner := some .app, sizeKib := 4, st := .idle })] }) ({ wZone 6 1 0 [] [] { st := 2 } [] with cfg := { (wZone 6 1 0 [] [] { st := 2 } []).cfg with active := { wStn 5 0x41 4 [5] with body := p2 0x41 ++ [1, 0, 4, 1, 5] ++ zeros 73 } :: (wZone 6 1 0 [] [] { st := 2 } []).cfg.active } }) : State) (1 : Nat) 0 (5 : Nat) (i4 ({ side := .app, sluice := 5, tag := 7, flags := 0, payload := [1, 0] ++ p2 5 ++ q4 1 } : Req).payload 4) = true) := by decide +kernel

theorem meets_ZoneCommandsAct_15 :
    (asks 0x0304 (rq ([1, 3, 0xFF, 0xFF] ++ q4 1) : Req) (wZone 3 1 0 [] (zeros 208) { st := 2 } [] : State) = true) ∧
    ((1 : Nat) = g1 (rq ([1, 3, 0xFF, 0xFF] ++ q4 1) : Req).payload 0) ∧
    ((1 : Nat) ≤ 15) ∧
    (zonePresent (wZone 3 1 0 [] (zeros 208) { st := 2 } [] : State) (1 : Nat) = true) ∧
    ((targetFor (wZone 3 1 0 [] (zeros 208) { st := 2 } [] : State) (1 : Nat) (g1 (rq ([1, 3, 0xFF, 0xFF] ++ q4 1) : Req).payload 1) = false ∨ (g1 (rq ([1, 3, 0xFF, 0xFF] ++ q4 1) : Req).payload 1 ≠ 0 ∧ g2 (rq ([1, 3, 0xFF, 0xFF] ++ q4 1) : Req).payload 2 ≠ 0xFFFF) ∨ (g1 (rq ([1, 3, 0xFF, 0xFF] ++ q4 1) : Req).payload 1 = 0 ∧ (128 ≤ g2 (rq ([1, 3, 0xFF, 0xFF] ++ q4 1) : Req).payload 2 ∨ stnZone (wZone 3 1 0 [] (zeros 208) { st := 2 } [] : State) (g2 (rq ([1, 3, 0xFF, 0xFF] ++ q4 1) : Req).payload 2) ≠ (1 : Nat) ∨ (isFieldOut (wZone 3 1 0 [] (zeros 208) { st := 2 } [] : State) (g2 (rq ([1, 3, 0xFF, 0xFF] ++ q4 1) : Req).payload 2) = false ∧ isLoopOut (wZone 3 1 0 [] (zeros 208) { st := 2 } [] : State) (g2 (rq ([1, 3, 0xFF, 0xFF] ++ q4 1) : Req).payload 2) = false ∧ isProp (wZone 3 1 0 [] (zeros 208) { st := 2 } [] : State) (g2 (rq ([1, 3, 0xFF, 0xFF] ++ q4 1) : Req).payload 2) = false))))) := by decide +kernel

theorem meets_ZoneCommandsAct_16 :
    (asks 0x0304 (rq ([1, 4, 0xFF, 0xFF] ++ q4 1) : Req) (wZone 3 1 0 [] (zeros 208) { st := 2 } [] : State) = true) ∧
    ((1 : Nat) = g1 (rq ([1, 4, 0xFF, 0xFF] ++ q4 1) : Req).payload 0) ∧
    ((1 : Nat) ≤ 15) ∧
    (zonePresent (wZone 3 1 0 [] (zeros 208) { st := 2 } [] : State) (1 : Nat) = true) ∧
    (targetFor (wZone 3 1 0 [] (zeros 208) { st := 2 } [] : State) (1 : Nat) (g1 (rq ([1, 4, 0xFF, 0xFF] ++ q4 1) : Req).payload 1) = true) ∧
    ((g1 (rq ([1, 4, 0xFF, 0xFF] ++ q4 1) : Req).payload 1 ≠ 0 → g2 (rq ([1, 4, 0xFF, 0xFF] ++ q4 1) : Req).payload 2 = 0xFFFF)) ∧
    ((g1 (rq ([1, 4, 0xFF, 0xFF] ++ q4 1) : Req).payload 1 = 0 → g2 (rq ([1, 4, 0xFF, 0xFF] ++ q4 1) : Req).payload 2 < 128 ∧ stnZone (wZone 3 1 0 [] (zeros 208) { st := 2 } [] : State) (g2 (rq ([1, 4, 0xFF, 0xFF] ++ q4 1) : Req).payload 2) = (1 : Nat) ∧ (isFieldOut (wZone 3 1 0 [] (zeros 208) { st := 2 } [] : State) (g2 (rq ([1, 4, 0xFF, 0xFF] ++ q4 1) : Req).payload 2) = true ∨ isLoopOut (wZone 3 1 0 [] (zeros 208) { st := 2 } [] : State) (g2 (rq ([1, 4, 0xFF, 0xFF] ++ q4 1) : Req).payload 2) = true ∨ isProp (wZone 3 1 0 [] (zeros 208) { st := 2 } [] : State) (g2 (rq ([1, 4, 0xFF, 0xFF] ++ q4 1) : Req).payload 2) = true))) ∧
    ((zoneProg (wZone 3 1 0 [] (zeros 208) { st := 2 } [] : State) (1 : Nat) = 0 ∨ (rq ([1, 4, 0xFF, 0xFF] ++ q4 1) : Req).side ≠ .app ∨ (zone (wZone 3 1 0 [] (zeros 208) { st := 2 } [] : State) (1 : Nat)).st = 0 ∨ (g1 (rq ([1, 4, 0xFF, 0xFF] ++ q4 1) : Req).payload 1 = 0 ∧ (zone (wZone 3 1 0 [] (zeros 208) { st := 2 } [] : State) (1 : Nat)).st ≠ 2))) := by decide +kernel

theorem meets_ZoneCommandsAct_17 :
    (asks 0x0304 ({ side := .app, sluice := 5, tag := 7, flags := 0, payload := [1, 4, 0xFF, 0xFF] ++ q4 2 } : Req) (onMail (fun m => { m with sluices := m.sluices ++ [(5, { owner := some .app, sizeKib := 4, st := .idle })] }) (wZone 3 1 0 [] (zeros 208) { st := 2 } []) : State) = true) ∧
    ((1 : Nat) = g1 ({ side := .app, sluice := 5, tag := 7, flags := 0, payload := [1, 4, 0xFF, 0xFF] ++ q4 2 } : Req).payload 0) ∧
    ((1 : Nat) ≤ 15) ∧
    (zonePresent (onMail (fun m => { m with sluices := m.sluices ++ [(5, { owner := some .app, sizeKib := 4, st := .idle })] }) (wZone 3 1 0 [] (zeros 208) { st := 2 } []) : State) (1 : Nat) = true) ∧
    (targetFor (onMail (fun m => { m with sluices := m.sluices ++ [(5, { owner := some .app, sizeKib := 4, st := .idle })] }) (wZone 3 1 0 [] (zeros 208) { st := 2 } []) : State) (1 : Nat) (g1 ({ side := .app, sluice := 5, tag := 7, flags := 0, payload := [1, 4, 0xFF, 0xFF] ++ q4 2 } : Req).payload 1) = true) ∧
    ((g1 ({ side := .app, sluice := 5, tag := 7, flags := 0, payload := [1, 4, 0xFF, 0xFF] ++ q4 2 } : Req).payload 1 ≠ 0 → g2 ({ side := .app, sluice := 5, tag := 7, flags := 0, payload := [1, 4, 0xFF, 0xFF] ++ q4 2 } : Req).payload 2 = 0xFFFF)) ∧
    ((g1 ({ side := .app, sluice := 5, tag := 7, flags := 0, payload := [1, 4, 0xFF, 0xFF] ++ q4 2 } : Req).payload 1 = 0 → g2 ({ side := .app, sluice := 5, tag := 7, flags := 0, payload := [1, 4, 0xFF, 0xFF] ++ q4 2 } : Req).payload 2 < 128 ∧ stnZone (onMail (fun m => { m with sluices := m.sluices ++ [(5, { owner := some .app, sizeKib := 4, st := .idle })] }) (wZone 3 1 0 [] (zeros 208) { st := 2 } []) : State) (g2 ({ side := .app, sluice := 5, tag := 7, flags := 0, payload := [1, 4, 0xFF, 0xFF] ++ q4 2 } : Req).payload 2) = (1 : Nat) ∧ (isFieldOut (onMail (fun m => { m with sluices := m.sluices ++ [(5, { owner := some .app, sizeKib := 4, st := .idle })] }) (wZone 3 1 0 [] (zeros 208) { st := 2 } []) : State) (g2 ({ side := .app, sluice := 5, tag := 7, flags := 0, payload := [1, 4, 0xFF, 0xFF] ++ q4 2 } : Req).payload 2) = true ∨ isLoopOut (onMail (fun m => { m with sluices := m.sluices ++ [(5, { owner := some .app, sizeKib := 4, st := .idle })] }) (wZone 3 1 0 [] (zeros 208) { st := 2 } []) : State) (g2 ({ side := .app, sluice := 5, tag := 7, flags := 0, payload := [1, 4, 0xFF, 0xFF] ++ q4 2 } : Req).payload 2) = true ∨ isProp (onMail (fun m => { m with sluices := m.sluices ++ [(5, { owner := some .app, sizeKib := 4, st := .idle })] }) (wZone 3 1 0 [] (zeros 208) { st := 2 } []) : State) (g2 ({ side := .app, sluice := 5, tag := 7, flags := 0, payload := [1, 4, 0xFF, 0xFF] ++ q4 2 } : Req).payload 2) = true))) ∧
    (zoneProg (onMail (fun m => { m with sluices := m.sluices ++ [(5, { owner := some .app, sizeKib := 4, st := .idle })] }) (wZone 3 1 0 [] (zeros 208) { st := 2 } []) : State) (1 : Nat) ≠ 0) ∧
    (({ side := .app, sluice := 5, tag := 7, flags := 0, payload := [1, 4, 0xFF, 0xFF] ++ q4 2 } : Req).side = .app) ∧
    ((zone (onMail (fun m => { m with sluices := m.sluices ++ [(5, { owner := some .app, sizeKib := 4, st := .idle })] }) (wZone 3 1 0 [] (zeros 208) { st := 2 } []) : State) (1 : Nat)).st ≠ 0) ∧
    ((g1 ({ side := .app, sluice := 5, tag := 7, flags := 0, payload := [1, 4, 0xFF, 0xFF] ++ q4 2 } : Req).payload 1 = 0 → (zone (onMail (fun m => { m with sluices := m.sluices ++ [(5, { owner := some .app, sizeKib := 4, st := .idle })] }) (wZone 3 1 0 [] (zeros 208) { st := 2 } []) : State) (1 : Nat)).st = 2)) ∧
    (targetInRange (onMail (fun m => { m with sluices := m.sluices ++ [(5, { owner := some .app, sizeKib := 4, st := .idle })] }) (wZone 3 1 0 [] (zeros 208) { st := 2 } []) : State) (1 : Nat) (g1 ({ side := .app, sluice := 5, tag := 7, flags := 0, payload := [1, 4, 0xFF, 0xFF] ++ q4 2 } : Req).payload 1) (g2 ({ side := .app, sluice := 5, tag := 7, flags := 0, payload := [1, 4, 0xFF, 0xFF] ++ q4 2 } : Req).payload 2) (i4 ({ side := .app, sluice := 5, tag := 7, flags := 0, payload := [1, 4, 0xFF, 0xFF] ++ q4 2 } : Req).payload 4) = false) := by decide +kernel

theorem meets_ZoneCommandsAct_18 :
    (asks 0x0304 (rq ([16, 4, 0xFF, 0xFF] ++ q4 1) : Req) (wZone 3 1 0 [] (zeros 208) { st := 2 } [] : State) = true) ∧
    (15 < g1 (rq ([16, 4, 0xFF, 0xFF] ++ q4 1) : Req).payload 0) := by decide +kernel

theorem meets_ZoneCommandsAct_19 :
    (asks 0x0304 (rq ([2, 4, 0xFF, 0xFF] ++ q4 1) : Req) (wZone 3 1 0 [] (zeros 208) { st := 2 } [] : State) = true) ∧
    (g1 (rq ([2, 4, 0xFF, 0xFF] ++ q4 1) : Req).payload 0 ≤ 15) ∧
    (zonePresent (wZone 3 1 0 [] (zeros 208) { st := 2 } [] : State) (g1 (rq ([2, 4, 0xFF, 0xFF] ++ q4 1) : Req).payload 0) = false) := by decide +kernel

theorem meets_ConfigurationCommandsAct_1 :
    (asks 0x0101 (rq [] : Req) (wRun : State) = true) ∧
    ((wRun : State).cfg.txn = none) ∧
    (([] : List Obj) = (if (wRun : State).sys.mode = .commission then (wRun : State).cfg.salvage.getD (wRun : State).cfg.active else (wRun : State).cfg.active)) := by decide +kernel

theorem meets_ConfigurationCommandsAct_2 :
    (asks 0x0101 (rq [] : Req) (wTxn : State) = true) ∧
    ((wTxn : State).cfg.txn ≠ none) := by decide +kernel

theorem meets_ConfigurationCommandsAct_3 :
    (asks 0x0102 (rq ([8, 0, 0, 0] ++ p2 1 ++ p2 1 ++ p4 16 ++ p4 0 ++ p2 10 ++ p2 60 ++ p2 20 ++ zeros 10) : Req) (wTxn : State) = true) ∧
    ((wTxn : State).cfg.txn = some (wTx : Txn)) ∧
    ((wTx : Txn).owner = (rq ([8, 0, 0, 0] ++ p2 1 ++ p2 1 ++ p4 16 ++ p4 0 ++ p2 10 ++ p2 60 ++ p2 20 ++ zeros 10) : Req).side) ∧
    (fixed (wTx : Txn) = false) ∧
    (({ kind := 8, index := 0, format := 1, flags := 1, body := p2 10 ++ p2 60 ++ p2 20 ++ zeros 10 } : Obj) = { kind := g1 (rq ([8, 0, 0, 0] ++ p2 1 ++ p2 1 ++ p4 16 ++ p4 0 ++ p2 10 ++ p2 60 ++ p2 20 ++ zeros 10) : Req).payload 0, index := g2 (rq ([8, 0, 0, 0] ++ p2 1 ++ p2 1 ++ p4 16 ++ p4 0 ++ p2 10 ++ p2 60 ++ p2 20 ++ zeros 10) : Req).payload 2, format := g2 (rq ([8, 0, 0, 0] ++ p2 1 ++ p2 1 ++ p4 16 ++ p4 0 ++ p2 10 ++ p2 60 ++ p2 20 ++ zeros 10) : Req).payload 4, flags := g2 (rq ([8, 0, 0, 0] ++ p2 1 ++ p2 1 ++ p4 16 ++ p4 0 ++ p2 10 ++ p2 60 ++ p2 20 ++ zeros 10) : Req).payload 6, body := (rq ([8, 0, 0, 0] ++ p2 1 ++ p2 1 ++ p4 16 ++ p4 0 ++ p2 10 ++ p2 60 ++ p2 20 ++ zeros 10) : Req).payload.drop 16 }) ∧
    (g4 (rq ([8, 0, 0, 0] ++ p2 1 ++ p2 1 ++ p4 16 ++ p4 0 ++ p2 10 ++ p2 60 ++ p2 20 ++ zeros 10) : Req).payload 8 = ({ kind := 8, index := 0, format := 1, flags := 1, body := p2 10 ++ p2 60 ++ p2 20 ++ zeros 10 } : Obj).body.length) ∧
    (({ kind := 8, index := 0, format := 1, flags := 1, body := p2 10 ++ p2 60 ++ p2 20 ++ zeros 10 } : Obj).index < indices ({ kind := 8, index := 0, format := 1, flags := 1, body := p2 10 ++ p2 60 ++ p2 20 ++ zeros 10 } : Obj).kind) ∧
    (g1 (rq ([8, 0, 0, 0] ++ p2 1 ++ p2 1 ++ p4 16 ++ p4 0 ++ p2 10 ++ p2 60 ++ p2 20 ++ zeros 10) : Req).payload 1 = 0) ∧
    (({ kind := 8, index := 0, format := 1, flags := 1, body := p2 10 ++ p2 60 ++ p2 20 ++ zeros 10 } : Obj).flags ≤ 1) ∧
    (({ kind := 8, index := 0, format := 1, flags := 1, body := p2 10 ++ p2 60 ++ p2 20 ++ zeros 10 } : Obj).format = formatOf ({ kind := 8, index := 0, format := 1, flags := 1, body := p2 10 ++ p2 60 ++ p2 20 ++ zeros 10 } : Obj).kind) ∧
    ((g4 (rq ([8, 0, 0, 0] ++ p2 1 ++ p2 1 ++ p4 16 ++ p4 0 ++ p2 10 ++ p2 60 ++ p2 20 ++ zeros 10) : Req).payload 12 = 0 ∨ g4 (rq ([8, 0, 0, 0] ++ p2 1 ++ p2 1 ++ p4 16 ++ p4 0 ++ p2 10 ++ p2 60 ++ p2 20 ++ zeros 10) : Req).payload 12 = (wTx : Txn).baseGen)) ∧
    (((wTx : Txn).full = true ∨ liveChange (wTxn : State).cfg.active ({ kind := 8, index := 0, format := 1, flags := 1, body := p2 10 ++ p2 60 ++ p2 20 ++ zeros 10 } : Obj) = true)) := by decide +kernel

theorem meets_ConfigurationCommandsAct_4 :
    (asks 0x0102 (rq (zeros 16) : Req) (onCfg (fun c => { c with txn := some { wTx with owner := .app } }) wTxn : State) = true) ∧
    (((onCfg (fun c => { c with txn := some { wTx with owner := .app } }) wTxn : State).cfg.txn.map (·.owner)) ≠ some (rq (zeros 16) : Req).side) := by decide +kernel

theorem meets_ConfigurationCommandsAct_5 :
    (asks 0x0103 (rq [] : Req) (onCfg (fun c => { c with txn := some { wTx with owner := .app } }) wTxn : State) = true) ∧
    (((onCfg (fun c => { c with txn := some { wTx with owner := .app } }) wTxn : State).cfg.txn.map (·.owner)) ≠ some (rq [] : Req).side) := by decide +kernel

theorem meets_ConfigurationCommandsAct_6 :
    (asks 0x0104 (rq [] : Req) (onCfg (fun c => { c with txn := some { wTx with owner := .app } }) wTxn : State) = true) ∧
    (((onCfg (fun c => { c with txn := some { wTx with owner := .app } }) wTxn : State).cfg.txn.map (·.owner)) ≠ some (rq [] : Req).side) := by decide +kernel

theorem meets_ConfigurationCommandsAct_7 :
    (asks 0x0107 (rq (zeros 36) : Req) (onCfg (fun c => { c with txn := some { wTx with owner := .app } }) wTxn : State) = true) ∧
    (((onCfg (fun c => { c with txn := some { wTx with owner := .app } }) wTxn : State).cfg.txn.map (·.owner)) ≠ some (rq (zeros 36) : Req).side) := by decide +kernel

theorem meets_ConfigurationCommandsAct_8 :
    (asks 0x0108 (rq [2, 0, 3, 0] : Req) (onCfg (fun c => { c with txn := some { wTx with owner := .app } }) wTxn : State) = true) ∧
    (((onCfg (fun c => { c with txn := some { wTx with owner := .app } }) wTxn : State).cfg.txn.map (·.owner)) ≠ some (rq [2, 0, 3, 0] : Req).side) := by decide +kernel

theorem meets_ConfigurationCommandsAct_9 :
    (asks 0x0102 (rq (zeros 16) : Req) (onCfg (fun c => { c with txn := some { wTx with committing := true } }) wTxn : State) = true) ∧
    ((onCfg (fun c => { c with txn := some { wTx with committing := true } }) wTxn : State).cfg.txn = some ({ wTx with committing := true } : Txn)) ∧
    (({ wTx with committing := true } : Txn).owner = (rq (zeros 16) : Req).side) ∧
    (fixed ({ wTx with committing := true } : Txn) = true) := by decide +kernel

theorem meets_ConfigurationCommandsAct_10 :
    (asks 0x0107 (rq (zeros 36) : Req) (onCfg (fun c => { c with txn := some { wTx with committing := true } }) wTxn : State) = true) ∧
    ((onCfg (fun c => { c with txn := some { wTx with committing := true } }) wTxn : State).cfg.txn = some ({ wTx with committing := true } : Txn)) ∧
    (({ wTx with committing := true } : Txn).owner = (rq (zeros 36) : Req).side) ∧
    (fixed ({ wTx with committing := true } : Txn) = true) := by decide +kernel

theorem meets_ConfigurationCommandsAct_11 :
    (asks 0x0108 (rq [2, 0, 3, 0] : Req) (onCfg (fun c => { c with txn := some { wTx with committing := true } }) wTxn : State) = true) ∧
    ((onCfg (fun c => { c with txn := some { wTx with committing := true } }) wTxn : State).cfg.txn = some ({ wTx with committing := true } : Txn)) ∧
    (({ wTx with committing := true } : Txn).owner = (rq [2, 0, 3, 0] : Req).side) ∧
    (fixed ({ wTx with committing := true } : Txn) = true) := by decide +kernel

theorem meets_ConfigurationCommandsAct_12 :
    (asks 0x0103 (rq [] : Req) (onCfg (fun c => { c with txn := some { wTx with committing := true } }) wTxn : State) = true) ∧
    ((onCfg (fun c => { c with txn := some { wTx with committing := true } }) wTxn : State).cfg.txn = some ({ wTx with committing := true } : Txn)) ∧
    (({ wTx with committing := true } : Txn).owner = (rq [] : Req).side) ∧
    (fixed ({ wTx with committing := true } : Txn) = true) := by decide +kernel

theorem meets_ConfigurationCommandsAct_13 :
    (asks 0x0104 (rq [] : Req) (onCfg (fun c => { c with txn := some { wTx with committing := true } }) wTxn : State) = true) ∧
    ((onCfg (fun c => { c with txn := some { wTx with committing := true } }) wTxn : State).cfg.txn = some ({ wTx with committing := true } : Txn)) ∧
    (({ wTx with committing := true } : Txn).owner = (rq [] : Req).side) ∧
    (({ wTx with committing := true } : Txn).committing = true) := by decide +kernel

theorem meets_ConfigurationCommandsAct_14 :
    (asks 0x0102 (rq (p1 8 ++ zeros 1 ++ p2 0 ++ p2 1 ++ p2 1 ++ p4 17 ++ p4 0 ++ zeros 16) : Req) (wTxn : State) = true) ∧
    ((wTxn : State).cfg.txn = some (wTx : Txn)) ∧
    ((wTx : Txn).owner = (rq (p1 8 ++ zeros 1 ++ p2 0 ++ p2 1 ++ p2 1 ++ p4 17 ++ p4 0 ++ zeros 16) : Req).side) ∧
    (fixed (wTx : Txn) = false) ∧
    (g4 (rq (p1 8 ++ zeros 1 ++ p2 0 ++ p2 1 ++ p2 1 ++ p4 17 ++ p4 0 ++ zeros 16) : Req).payload 8 ≠ ((rq (p1 8 ++ zeros 1 ++ p2 0 ++ p2 1 ++ p2 1 ++ p4 17 ++ p4 0 ++ zeros 16) : Req).payload.drop 16).length) := by decide +kernel

theorem meets_ConfigurationCommandsAct_15 :
    (asks 0x0102 (rq (p1 8 ++ zeros 1 ++ p2 1 ++ p2 1 ++ p2 1 ++ p4 16 ++ p4 0 ++ zeros 16) : Req) (wTxn : State) = true) ∧
    ((wTxn : State).cfg.txn = some (wTx : Txn)) ∧
    ((wTx : Txn).owner = (rq (p1 8 ++ zeros 1 ++ p2 1 ++ p2 1 ++ p2 1 ++ p4 16 ++ p4 0 ++ zeros 16) : Req).side) ∧
    (fixed (wTx : Txn) = false) ∧
    (g4 (rq (p1 8 ++ zeros 1 ++ p2 1 ++ p2 1 ++ p2 1 ++ p4 16 ++ p4 0 ++ zeros 16) : Req).payload 8 = ((rq (p1 8 ++ zeros 1 ++ p2 1 ++ p2 1 ++ p2 1 ++ p4 16 ++ p4 0 ++ zeros 16) : Req).payload.drop 16).length) ∧
    ((indices (g1 (rq (p1 8 ++ zeros 1 ++ p2 1 ++ p2 1 ++ p2 1 ++ p4 16 ++ p4 0 ++ zeros 16) : Req).payload 0) ≤ g2 (rq (p1 8 ++ zeros 1 ++ p2 1 ++ p2 1 ++ p2 1 ++ p4 16 ++ p4 0 ++ zeros 16) : Req).payload 2 ∨ g1 (rq (p1 8 ++ zeros 1 ++ p2 1 ++ p2 1 ++ p2 1 ++ p4 16 ++ p4 0 ++ zeros 16) : Req).payload 1 ≠ 0 ∨ 1 < g2 (rq (p1 8 ++ zeros 1 ++ p2 1 ++ p2 1 ++ p2 1 ++ p4 16 ++ p4 0 ++ zeros 16) : Req).payload 6 ∨ formatOf (g1 (rq (p1 8 ++ zeros 1 ++ p2 1 ++ p2 1 ++ p2 1 ++ p4 16 ++ p4 0 ++ zeros 16) : Req).payload 0) < g2 (rq (p1 8 ++ zeros 1 ++ p2 1 ++ p2 1 ++ p2 1 ++ p4 16 ++ p4 0 ++ zeros 16) : Req).payload 4)) := by decide +kernel

theorem meets_ConfigurationCommandsAct_16 :
    (asks 0x0102 (rq (p1 8 ++ zeros 1 ++ p2 0 ++ p2 0 ++ p2 1 ++ p4 16 ++ p4 0 ++ zeros 16) : Req) (wTxn : State) = true) ∧
    ((wTxn : State).cfg.txn = some (wTx : Txn)) ∧
    ((wTx : Txn).owner = (rq (p1 8 ++ zeros 1 ++ p2 0 ++ p2 0 ++ p2 1 ++ p4 16 ++ p4 0 ++ zeros 16) : Req).side) ∧
    (fixed (wTx : Txn) = false) ∧
    (g4 (rq (p1 8 ++ zeros 1 ++ p2 0 ++ p2 0 ++ p2 1 ++ p4 16 ++ p4 0 ++ zeros 16) : Req).payload 8 = ((rq (p1 8 ++ zeros 1 ++ p2 0 ++ p2 0 ++ p2 1 ++ p4 16 ++ p4 0 ++ zeros 16) : Req).payload.drop 16).length) ∧
    (g2 (rq (p1 8 ++ zeros 1 ++ p2 0 ++ p2 0 ++ p2 1 ++ p4 16 ++ p4 0 ++ zeros 16) : Req).payload 2 < indices (g1 (rq (p1 8 ++ zeros 1 ++ p2 0 ++ p2 0 ++ p2 1 ++ p4 16 ++ p4 0 ++ zeros 16) : Req).payload 0)) ∧
    (g1 (rq (p1 8 ++ zeros 1 ++ p2 0 ++ p2 0 ++ p2 1 ++ p4 16 ++ p4 0 ++ zeros 16) : Req).payload 1 = 0) ∧
    (g2 (rq (p1 8 ++ zeros 1 ++ p2 0 ++ p2 0 ++ p2 1 ++ p4 16 ++ p4 0 ++ zeros 16) : Req).payload 6 ≤ 1) ∧
    ((g2 (rq (p1 8 ++ zeros 1 ++ p2 0 ++ p2 0 ++ p2 1 ++ p4 16 ++ p4 0 ++ zeros 16) : Req).payload 4 < formatOf (g1 (rq (p1 8 ++ zeros 1 ++ p2 0 ++ p2 0 ++ p2 1 ++ p4 16 ++ p4 0 ++ zeros 16) : Req).payload 0) ∨ (g2 (rq (p1 8 ++ zeros 1 ++ p2 0 ++ p2 0 ++ p2 1 ++ p4 16 ++ p4 0 ++ zeros 16) : Req).payload 4 = formatOf (g1 (rq (p1 8 ++ zeros 1 ++ p2 0 ++ p2 0 ++ p2 1 ++ p4 16 ++ p4 0 ++ zeros 16) : Req).payload 0) ∧ g4 (rq (p1 8 ++ zeros 1 ++ p2 0 ++ p2 0 ++ p2 1 ++ p4 16 ++ p4 0 ++ zeros 16) : Req).payload 12 ≠ 0 ∧ g4 (rq (p1 8 ++ zeros 1 ++ p2 0 ++ p2 0 ++ p2 1 ++ p4 16 ++ p4 0 ++ zeros 16) : Req).payload 12 ≠ (wTx : Txn).baseGen))) := by decide +kernel

theorem meets_ConfigurationCommandsAct_17 :
    (asks 0x0102 (rq (p1 1 ++ zeros 1 ++ p2 0 ++ p2 (formatOf 1) ++ p2 1 ++ p4 48 ++ p4 0 ++ zeros 48) : Req) (onCfg (fun c => { c with txn := some { wTx with full := false } }) wTxn : State) = true) ∧
    ((onCfg (fun c => { c with txn := some { wTx with full := false } }) wTxn : State).cfg.txn = some ({ wTx with full := false } : Txn)) ∧
    (({ wTx with full := false } : Txn).owner = (rq (p1 1 ++ zeros 1 ++ p2 0 ++ p2 (formatOf 1) ++ p2 1 ++ p4 48 ++ p4 0 ++ zeros 48) : Req).side) ∧
    (fixed ({ wTx with full := false } : Txn) = false) ∧
    (({ kind := 1, index := 0, format := formatOf 1, flags := 1, body := zeros 48 } : Obj) = { kind := g1 (rq (p1 1 ++ zeros 1 ++ p2 0 ++ p2 (formatOf 1) ++ p2 1 ++ p4 48 ++ p4 0 ++ zeros 48) : Req).payload 0, index := g2 (rq (p1 1 ++ zeros 1 ++ p2 0 ++ p2 (formatOf 1) ++ p2 1 ++ p4 48 ++ p4 0 ++ zeros 48) : Req).payload 2, format := g2 (rq (p1 1 ++ zeros 1 ++ p2 0 ++ p2 (formatOf 1) ++ p2 1 ++ p4 48 ++ p4 0 ++ zeros 48) : Req).payload 4, flags := g2 (rq (p1 1 ++ zeros 1 ++ p2 0 ++ p2 (formatOf 1) ++ p2 1 ++ p4 48 ++ p4 0 ++ zeros 48) : Req).payload 6, body := (rq (p1 1 ++ zeros 1 ++ p2 0 ++ p2 (formatOf 1) ++ p2 1 ++ p4 48 ++ p4 0 ++ zeros 48) : Req).payload.drop 16 }) ∧
    (g4 (rq (p1 1 ++ zeros 1 ++ p2 0 ++ p2 (formatOf 1) ++ p2 1 ++ p4 48 ++ p4 0 ++ zeros 48) : Req).payload 8 = ({ kind := 1, index := 0, format := formatOf 1, flags := 1, body := zeros 48 } : Obj).body.length) ∧
    (({ kind := 1, index := 0, format := formatOf 1, flags := 1, body := zeros 48 } : Obj).index < indices ({ kind := 1, index := 0, format := formatOf 1, flags := 1, body := zeros 48 } : Obj).kind) ∧
    (g1 (rq (p1 1 ++ zeros 1 ++ p2 0 ++ p2 (formatOf 1) ++ p2 1 ++ p4 48 ++ p4 0 ++ zeros 48) : Req).payload 1 = 0) ∧
    (({ kind := 1, index := 0, format := formatOf 1, flags := 1, body := zeros 48 } : Obj).flags ≤ 1) ∧
    (({ kind := 1, index := 0, format := formatOf 1, flags := 1, body := zeros 48 } : Obj).format = formatOf ({ kind := 1, index := 0, format := formatOf 1, flags := 1, body := zeros 48 } : Obj).kind) ∧
    ((g4 (rq (p1 1 ++ zeros 1 ++ p2 0 ++ p2 (formatOf 1) ++ p2 1 ++ p4 48 ++ p4 0 ++ zeros 48) : Req).payload 12 = 0 ∨ g4 (rq (p1 1 ++ zeros 1 ++ p2 0 ++ p2 (formatOf 1) ++ p2 1 ++ p4 48 ++ p4 0 ++ zeros 48) : Req).payload 12 = ({ wTx with full := false } : Txn).baseGen)) ∧
    (({ wTx with full := false } : Txn).full = false) ∧
    (liveChange (onCfg (fun c => { c with txn := some { wTx with full := false } }) wTxn : State).cfg.active ({ kind := 1, index := 0, format := formatOf 1, flags := 1, body := zeros 48 } : Obj) = false) := by decide +kernel

theorem meets_ConfigurationCommandsAct_18 :
    (asks 0x0103 (rq [] : Req) (onCfg (fun c => { c with txn := some { wTx with objs := [] } }) wTxn : State) = true) ∧
    ((onCfg (fun c => { c with txn := some { wTx with objs := [] } }) wTxn : State).cfg.txn = some ({ wTx with objs := [] } : Txn)) ∧
    (({ wTx with objs := [] } : Txn).owner = (rq [] : Req).side) ∧
    (fixed ({ wTx with objs := [] } : Txn) = false) ∧
    (validate (onCfg (fun c => { c with txn := some { wTx with objs := [] } }) wTxn : State) ({ wTx with objs := [] } : Txn) = some ({ rule := 1, kind := 4, index := 0, field := 4294967295 } : Fail)) := by decide +kernel

theorem meets_ConfigurationCommandsAct_19 :
    (asks 0x0103 (rq [] : Req) (onPower (fun w => { w with energy := 10 ^ 18 }) wTxn : State) = true) ∧
    ((onPower (fun w => { w with energy := 10 ^ 18 }) wTxn : State).cfg.txn = some (wTx : Txn)) ∧
    ((wTx : Txn).owner = (rq [] : Req).side) ∧
    (fixed (wTx : Txn) = false) ∧
    (validate (onPower (fun w => { w with energy := 10 ^ 18 }) wTxn : State) (wTx : Txn) = none) ∧
    (canStore (.configSlot (some (reqOrg 0x0103 (rq [] : Req)))) (onPower (fun w => { w with energy := 10 ^ 18 }) wTxn : State) = true) := by decide +kernel

theorem meets_ConfigurationCommandsAct_20 :
    (asks 0x0103 (rq [] : Req) (wTxn : State) = true) ∧
    ((wTxn : State).cfg.txn = some (wTx : Txn)) ∧
    ((wTx : Txn).owner = (rq [] : Req).side) ∧
    (fixed (wTx : Txn) = false) ∧
    (validate (wTxn : State) (wTx : Txn) = none) ∧
    (canStore (.configSlot (some (reqOrg 0x0103 (rq [] : Req)))) (wTxn : State) = false) := by decide +kernel

theorem meets_ConfigurationCommandsAct_21 :
    (asks 0x0104 (rq [] : Req) (wTxn : State) = true) ∧
    ((wTxn : State).cfg.txn = some (wTx : Txn)) ∧
    ((wTx : Txn).owner = (rq [] : Req).side) ∧
    ((wTx : Txn).committing = false) := by decide +kernel

theorem meets_ConfigurationCommandsAct_22 :
    (asks 0x0105 (rq [8, 0, 0, 0] : Req) (wTxn : State) = true) ∧
    (g2 (rq [8, 0, 0, 0] : Req).payload 2 < indices (g1 (rq [8, 0, 0, 0] : Req).payload 0)) ∧
    (g1 (rq [8, 0, 0, 0] : Req).payload 1 = 0) ∧
    (objIn (wTxn : State).cfg.active (g1 (rq [8, 0, 0, 0] : Req).payload 0) (g2 (rq [8, 0, 0, 0] : Req).payload 2) = some (defaultReam : Obj)) := by decide +kernel

theorem meets_ConfigurationCommandsAct_23 :
    (asks 0x0105 (rq [8, 1, 0, 0] : Req) (wTxn : State) = true) ∧
    (g2 (rq [8, 1, 0, 0] : Req).payload 2 < indices (g1 (rq [8, 1, 0, 0] : Req).payload 0)) ∧
    (g1 (rq [8, 1, 0, 0] : Req).payload 1 = 1) ∧
    ((wTxn : State).cfg.txn = some (wTx : Txn)) ∧
    ((wTx : Txn).owner = (rq [8, 1, 0, 0] : Req).side) ∧
    (objIn (wTx : Txn).objs (g1 (rq [8, 1, 0, 0] : Req).payload 0) (g2 (rq [8, 1, 0, 0] : Req).payload 2) = some (defaultReam : Obj)) := by decide +kernel

theorem meets_ConfigurationCommandsAct_24 :
    (asks 0x0105 (rq [8, 0, 1, 0] : Req) (wTxn : State) = true) ∧
    ((indices (g1 (rq [8, 0, 1, 0] : Req).payload 0) ≤ g2 (rq [8, 0, 1, 0] : Req).payload 2 ∨ 1 < g1 (rq [8, 0, 1, 0] : Req).payload 1 ∨ (g1 (rq [8, 0, 1, 0] : Req).payload 1 = 1 ∧ ((wTxn : State).cfg.txn.map (·.owner)) ≠ some (rq [8, 0, 1, 0] : Req).side))) := by decide +kernel

theorem meets_ConfigurationCommandsAct_25 :
    (asks 0x0105 (rq [2, 0, 5, 0] : Req) (wTxn : State) = true) ∧
    (g2 (rq [2, 0, 5, 0] : Req).payload 2 < indices (g1 (rq [2, 0, 5, 0] : Req).payload 0)) ∧
    (g1 (rq [2, 0, 5, 0] : Req).payload 1 = 0) ∧
    (objIn (wTxn : State).cfg.active (g1 (rq [2, 0, 5, 0] : Req).payload 0) (g2 (rq [2, 0, 5, 0] : Req).payload 2) = none) := by decide +kernel

theorem meets_ConfigurationCommandsAct_26 :
    (asks 0x0105 (rq [2, 1, 5, 0] : Req) (wTxn : State) = true) ∧
    ((wTxn : State).cfg.txn = some (wTx : Txn)) ∧
    ((wTx : Txn).owner = (rq [2, 1, 5, 0] : Req).side) ∧
    (g2 (rq [2, 1, 5, 0] : Req).payload 2 < indices (g1 (rq [2, 1, 5, 0] : Req).payload 0)) ∧
    (g1 (rq [2, 1, 5, 0] : Req).payload 1 = 1) ∧
    (objIn (wTx : Txn).objs (g1 (rq [2, 1, 5, 0] : Req).payload 0) (g2 (rq [2, 1, 5, 0] : Req).payload 2) = none) := by decide +kernel

theorem meets_ConfigurationCommandsAct_27 :
    (asks 0x0106 (rq [1, 0, 0, 0] : Req) (wTxn : State) = true) ∧
    (g1 (rq [1, 0, 0, 0] : Req).payload 0 = 1) ∧
    (zeroAt (rq [1, 0, 0, 0] : Req).payload 1 3 = true) ∧
    ((wTxn : State).cfg.txn = some (wTx : Txn)) := by decide +kernel

theorem meets_ConfigurationCommandsAct_28 :
    (asks 0x0106 (rq [1, 0, 0, 0] : Req) (wRun : State) = true) ∧
    ((1 < g1 (rq [1, 0, 0, 0] : Req).payload 0 ∨ zeroAt (rq [1, 0, 0, 0] : Req).payload 1 3 = false ∨ (g1 (rq [1, 0, 0, 0] : Req).payload 0 = 1 ∧ (wRun : State).cfg.txn = none))) := by decide +kernel

theorem meets_ConfigurationCommandsAct_29 :
    (asks 0x0106 (rq [0, 0, 0, 0] : Req) (wTxn : State) = true) ∧
    (g1 (rq [0, 0, 0, 0] : Req).payload 0 = 0) ∧
    (zeroAt (rq [0, 0, 0, 0] : Req).payload 1 3 = true) := by decide +kernel

theorem meets_ConfigurationCommandsAct_30 :
    (asks 0x0107 (rq ([1, 0, 0, 0] ++ bundle wTxn 0 [defaultReam]) : Req) (wTxn : State) = true) ∧
    ((wTxn : State).cfg.txn = some (wTx : Txn)) ∧
    ((wTx : Txn).owner = (rq ([1, 0, 0, 0] ++ bundle wTxn 0 [defaultReam]) : Req).side) ∧
    (fixed (wTx : Txn) = false) ∧
    (g1 (rq ([1, 0, 0, 0] ++ bundle wTxn 0 [defaultReam]) : Req).payload 0 ≤ 1) ∧
    (zeroAt (rq ([1, 0, 0, 0] ++ bundle wTxn 0 [defaultReam]) : Req).payload 1 3 = true) ∧
    ((importObjs (wTxn : State) ((rq ([1, 0, 0, 0] ++ bundle wTxn 0 [defaultReam]) : Req).payload.drop 4)).toOption = some ([defaultReam] : List Obj)) := by decide +kernel

theorem meets_ConfigurationCommandsAct_31 :
    (asks 0x0107 (rq ([2, 0, 0, 0] ++ zeros 32) : Req) (wTxn : State) = true) ∧
    ((wTxn : State).cfg.txn = some (wTx : Txn)) ∧
    ((wTx : Txn).owner = (rq ([2, 0, 0, 0] ++ zeros 32) : Req).side) ∧
    (fixed (wTx : Txn) = false) ∧
    ((1 < g1 (rq ([2, 0, 0, 0] ++ zeros 32) : Req).payload 0 ∨ zeroAt (rq ([2, 0, 0, 0] ++ zeros 32) : Req).payload 1 3 = false)) := by decide +kernel

theorem meets_ConfigurationCommandsAct_32 :
    (asks 0x0107 (rq ([1, 0, 0, 0] ++ zeros 32) : Req) (wTxn : State) = true) ∧
    ((wTxn : State).cfg.txn = some (wTx : Txn)) ∧
    ((wTx : Txn).owner = (rq ([1, 0, 0, 0] ++ zeros 32) : Req).side) ∧
    (fixed (wTx : Txn) = false) ∧
    (g1 (rq ([1, 0, 0, 0] ++ zeros 32) : Req).payload 0 ≤ 1) ∧
    (zeroAt (rq ([1, 0, 0, 0] ++ zeros 32) : Req).payload 1 3 = true) ∧
    ((zeros 32 : List Byte) = (rq ([1, 0, 0, 0] ++ zeros 32) : Req).payload.drop 4) ∧
    ((zeros 32 : List Byte).length ≤ 131072) ∧
    ((g4 (zeros 32 : List Byte) 0 ≠ 0x42464743 ∨ (zeros 32 : List Byte).length < 32 ∨ g4 (zeros 32 : List Byte) 28 ≠ crc32 ((zeros 32 : List Byte).take 28 ++ (zeros 32 : List Byte).drop 32) ∨ runSchema (wTxn : State) < g2 (zeros 32 : List Byte) 4 ∨ parseObjs (g2 (zeros 32 : List Byte) 6) ((zeros 32 : List Byte).drop 32) = none)) := by decide +kernel

theorem meets_ConfigurationCommandsAct_33 :
    (asks 0x0107 (rq ([1, 0, 0, 0] ++ bundle wTxn 0 [{ defaultReam with format := 0 }]) : Req) (wTxn : State) = true) ∧
    ((wTxn : State).cfg.txn = some (wTx : Txn)) ∧
    ((wTx : Txn).owner = (rq ([1, 0, 0, 0] ++ bundle wTxn 0 [{ defaultReam with format := 0 }]) : Req).side) ∧
    (fixed (wTx : Txn) = false) ∧
    (g1 (rq ([1, 0, 0, 0] ++ bundle wTxn 0 [{ defaultReam with format := 0 }]) : Req).payload 0 ≤ 1) ∧
    (zeroAt (rq ([1, 0, 0, 0] ++ bundle wTxn 0 [{ defaultReam with format := 0 }]) : Req).payload 1 3 = true) ∧
    ((bundle wTxn 0 [{ defaultReam with format := 0 }] : List Byte) = (rq ([1, 0, 0, 0] ++ bundle wTxn 0 [{ defaultReam with format := 0 }]) : Req).payload.drop 4) ∧
    ((bundle wTxn 0 [{ defaultReam with format := 0 }] : List Byte).length ≤ 131072) ∧
    (g4 (bundle wTxn 0 [{ defaultReam with format := 0 }] : List Byte) 0 = 0x42464743) ∧
    (32 ≤ (bundle wTxn 0 [{ defaultReam with format := 0 }] : List Byte).length) ∧
    (g4 (bundle wTxn 0 [{ defaultReam with format := 0 }] : List Byte) 28 = crc32 ((bundle wTxn 0 [{ defaultReam with format := 0 }] : List Byte).take 28 ++ (bundle wTxn 0 [{ defaultReam with format := 0 }] : List Byte).drop 32)) ∧
    (g2 (bundle wTxn 0 [{ defaultReam with format := 0 }] : List Byte) 4 ≤ runSchema (wTxn : State)) ∧
    (parseObjs (g2 (bundle wTxn 0 [{ defaultReam with format := 0 }] : List Byte) 6) ((bundle wTxn 0 [{ defaultReam with format := 0 }] : List Byte).drop 32) = some ([{ defaultReam with format := 0 }] : List Obj)) ∧
    (([{ defaultReam with format := 0 }] : List Obj).any (fun o => convertObj o == .stale) = true) := by decide +kernel

theorem meets_ConfigurationCommandsAct_34 :
    (asks 0x0108 (rq [2, 0, 3, 0] : Req) (onCfg (fun c => { c with txn := some { wTx with objs := [mkObj 2 3 true []] } }) wTxn : State) = true) ∧
    ((onCfg (fun c => { c with txn := some { wTx with objs := [mkObj 2 3 true []] } }) wTxn : State).cfg.txn = some ({ wTx with objs := [mkObj 2 3 true []] } : Txn)) ∧
    (({ wTx with objs := [mkObj 2 3 true []] } : Txn).owner = (rq [2, 0, 3, 0] : Req).side) ∧
    (fixed ({ wTx with objs := [mkObj 2 3 true []] } : Txn) = false) ∧
    (g1 (rq [2, 0, 3, 0] : Req).payload 1 = 0) ∧
    (g2 (rq [2, 0, 3, 0] : Req).payload 2 < indices (g1 (rq [2, 0, 3, 0] : Req).payload 0)) ∧
    (indices (g1 (rq [2, 0, 3, 0] : Req).payload 0) ≠ 1) ∧
    (objIn ({ wTx with objs := [mkObj 2 3 true []] } : Txn).objs (g1 (rq [2, 0, 3, 0] : Req).payload 0) (g2 (rq [2, 0, 3, 0] : Req).payload 2) ≠ none) := by decide +kernel

theorem meets_ConfigurationCommandsAct_35 :
    (asks 0x0108 (rq [8, 0, 0, 0] : Req) (wTxn : State) = true) ∧
    ((wTxn : State).cfg.txn = some (wTx : Txn)) ∧
    ((wTx : Txn).owner = (rq [8, 0, 0, 0] : Req).side) ∧
    (fixed (wTx : Txn) = false) ∧
    ((g1 (rq [8, 0, 0, 0] : Req).payload 1 ≠ 0 ∨ indices (g1 (rq [8, 0, 0, 0] : Req).payload 0) ≤ g2 (rq [8, 0, 0, 0] : Req).payload 2 ∨ indices (g1 (rq [8, 0, 0, 0] : Req).payload 0) = 1)) := by decide +kernel

theorem meets_ConfigurationCommandsAct_36 :
    (asks 0x0108 (rq [2, 0, 3, 0] : Req) (wTxn : State) = true) ∧
    ((wTxn : State).cfg.txn = some (wTx : Txn)) ∧
    ((wTx : Txn).owner = (rq [2, 0, 3, 0] : Req).side) ∧
    (fixed (wTx : Txn) = false) ∧
    (g1 (rq [2, 0, 3, 0] : Req).payload 1 = 0) ∧
    (g2 (rq [2, 0, 3, 0] : Req).payload 2 < indices (g1 (rq [2, 0, 3, 0] : Req).payload 0)) ∧
    (indices (g1 (rq [2, 0, 3, 0] : Req).payload 0) ≠ 1) ∧
    (objIn (wTx : Txn).objs (g1 (rq [2, 0, 3, 0] : Req).payload 0) (g2 (rq [2, 0, 3, 0] : Req).payload 2) = none) := by decide +kernel

theorem meets_ConfigurationCommandsAct_37 :
    (asks 0x0109 (rq [] : Req) (wRun : State) = true) ∧
    ((wRun : State).cfg.txn = none) := by decide +kernel

theorem meets_ConfigurationCommandsAct_38 :
    (asks 0x0109 (rq [] : Req) (wTxn : State) = true) ∧
    ((wTxn : State).cfg.txn = some (wTx : Txn)) := by decide +kernel

theorem meets_ConfigurationCommandsAct_39 :
    ((wTxn : State).cfg.txn = some (wTx : Txn)) ∧
    (fixed (wTx : Txn) = false) := by decide +kernel

theorem meets_ConfigurationCommandsAct_40 :
    ((∀ t ∈ (wRun : State).cfg.txn, fixed t = true)) := by decide +kernel

theorem meets_LineEventsAct_1 :
    (switchOn (wNet : State) = true) ∧
    ((0 : Nat) ≤ 2) ∧
    ((port (wNet : State) (0 : Nat)).link = true) := by decide +kernel

theorem meets_LineEventsAct_2 :
    (switchOn (wNet : State) = true) ∧
    ((0 : Nat) ≤ 2) ∧
    ((port (wNet : State) (0 : Nat)).link = true) ∧
    (64 ≤ (List.replicate 6 0xFF ++ [2, 0, 0, 0, 0, 1] ++ zeros 52 : List Byte).length) ∧
    ((List.replicate 6 0xFF ++ [2, 0, 0, 0, 0, 1] ++ zeros 52 : List Byte).length ≤ 1522) ∧
    ((tagOf (List.replicate 6 0xFF ++ [2, 0, 0, 0, 0, 1] ++ zeros 52 : List Byte) = none ∨ (wNet : State).net.applied = false ∨ netVids (wNet : State) = [] ∨ (netVids (wNet : State)).contains ((tagOf (List.replicate 6 0xFF ++ [2, 0, 0, 0, 0, 1] ++ zeros 52 : List Byte)).getD 0 % 4096) = true)) ∧
    ((portBlocked (wNet : State) (0 : Nat) = false ∨ isProbe (List.replicate 6 0xFF ++ [2, 0, 0, 0, 0, 1] ++ zeros 52 : List Byte) = true)) ∧
    ((counted 0 [2, 0, 0, 0, 0, 1] wNet : State) = counted (0 : Nat) (slice (List.replicate 6 0xFF ++ [2, 0, 0, 0, 0, 1] ++ zeros 52 : List Byte) 6 6) (wNet : State)) := by decide +kernel

theorem meets_LineEventsAct_3 :
    (switchOn (wNet : State) = true) ∧
    ((0 : Nat) ≤ 2) ∧
    ((port (wNet : State) (0 : Nat)).link = true) ∧
    (64 ≤ ([2, 0, 0, 0, 0, 9] ++ [2, 0, 0, 0, 0, 1] ++ zeros 52 : List Byte).length) ∧
    (([2, 0, 0, 0, 0, 9] ++ [2, 0, 0, 0, 0, 1] ++ zeros 52 : List Byte).length ≤ 1522) ∧
    ((tagOf ([2, 0, 0, 0, 0, 9] ++ [2, 0, 0, 0, 0, 1] ++ zeros 52 : List Byte) = none ∨ (wNet : State).net.applied = false ∨ netVids (wNet : State) = [] ∨ (netVids (wNet : State)).contains ((tagOf ([2, 0, 0, 0, 0, 9] ++ [2, 0, 0, 0, 0, 1] ++ zeros 52 : List Byte)).getD 0 % 4096) = true)) ∧
    (portBlocked (wNet : State) (0 : Nat) = false) ∧
    ((counted 0 [2, 0, 0, 0, 0, 1] wNet : State) = counted (0 : Nat) (slice ([2, 0, 0, 0, 0, 9] ++ [2, 0, 0, 0, 0, 1] ++ zeros 52 : List Byte) 6 6) (wNet : State)) ∧
    (slice ([2, 0, 0, 0, 0, 9] ++ [2, 0, 0, 0, 0, 1] ++ zeros 52 : List Byte) 0 6 ≠ (wNet : State).net.mac) ∧
    (g1 ([2, 0, 0, 0, 0, 9] ++ [2, 0, 0, 0, 0, 1] ++ zeros 52 : List Byte) 0 % 2 = 0) ∧
    (slice ([2, 0, 0, 0, 0, 9] ++ [2, 0, 0, 0, 0, 1] ++ zeros 52 : List Byte) 6 6 ≠ (wNet : State).net.mac) := by decide +kernel

theorem meets_LineEventsAct_4 :
    (switchOn (onNet (fun n => { n with blocked := [(0, 0)] }) wNet : State) = true) ∧
    ((0 : Nat) ≤ 2) ∧
    ((port (onNet (fun n => { n with blocked := [(0, 0)] }) wNet : State) (0 : Nat)).link = true) ∧
    (64 ≤ (List.replicate 6 0xFF ++ [2, 0, 0, 0, 0, 1] ++ zeros 52 : List Byte).length) ∧
    ((List.replicate 6 0xFF ++ [2, 0, 0, 0, 0, 1] ++ zeros 52 : List Byte).length ≤ 1522) ∧
    (((portBlocked (onNet (fun n => { n with blocked := [(0, 0)] }) wNet : State) (0 : Nat) = true ∧ isProbe (List.replicate 6 0xFF ++ [2, 0, 0, 0, 0, 1] ++ zeros 52 : List Byte) = false) ∨ (tagOf (List.replicate 6 0xFF ++ [2, 0, 0, 0, 0, 1] ++ zeros 52 : List Byte) ≠ none ∧ (onNet (fun n => { n with blocked := [(0, 0)] }) wNet : State).net.applied = true ∧ netVids (onNet (fun n => { n with blocked := [(0, 0)] }) wNet : State) ≠ [] ∧ (netVids (onNet (fun n => { n with blocked := [(0, 0)] }) wNet : State)).contains ((tagOf (List.replicate 6 0xFF ++ [2, 0, 0, 0, 0, 1] ++ zeros 52 : List Byte)).getD 0 % 4096) = false))) := by decide +kernel

theorem meets_LineEventsAct_5 :
    ((switchOn (wNet : State) = false ∨ 2 < (0 : Nat) ∨ (port (wNet : State) (0 : Nat)).link = false ∨ ((true : Bool) = true ∧ ((zeros 63 : List Byte).length < 64 ∨ 1522 < (zeros 63 : List Byte).length)))) := by decide +kernel

theorem meets_LineEventsAct_6 :
    (comesIn (wNet : State) (0 : Nat)) ∧
    ((counted 0 [2, 0, 0, 0, 0, 1] wNet : State) = counted (0 : Nat) ([2, 0, 0, 0, 0, 1] : List Byte) (wNet : State)) ∧
    (devicePort (wNet : State) = true) ∧
    ((wNet : State).absorb.reexecuting = false) := by decide +kernel

theorem meets_LineEventsAct_7 :
    (comesIn (wNet : State) (0 : Nat)) ∧
    ((counted 0 [2, 0, 0, 0, 0, 1] wNet : State) = counted (0 : Nat) ([2, 0, 0, 0, 0, 1] : List Byte) (wNet : State)) ∧
    (devicePort (wNet : State) = true) ∧
    ((wNet : State).absorb.reexecuting = false) ∧
    ((zeros 2 ++ beBytes 2 (inetSum (zeros 4 ++ zeros 8)) ++ zeros 8 : List Byte) = zeros 2 ++ beBytes 2 (inetSum (zeros 4 ++ (zeros 8 : List Byte))) ++ (zeros 8 : List Byte)) := by decide +kernel

theorem meets_LineEventsAct_8 :
    (comesIn (wNet : State) (0 : Nat)) ∧
    ((counted 0 (zeros 6) wNet : State) = counted (0 : Nat) (zeros 6 : List Byte) (wNet : State)) ∧
    ((devicePort (wNet : State) = false ∨ ((wNet : State).absorb.reexecuting = false ∧ ([10, 0, 0, 9] : List Byte) ≠ ipAddr (wNet : State)))) := by decide +kernel

theorem meets_LineEventsAct_9 :
    (comesIn (onAbsorb (fun a => { a with reexecuting := true }) wNet : State) (0 : Nat)) ∧
    ((counted 0 (zeros 6) (onAbsorb (fun a => { a with reexecuting := true }) wNet) : State) = counted (0 : Nat) (zeros 6 : List Byte) (onAbsorb (fun a => { a with reexecuting := true }) wNet : State)) ∧
    ((counted 0 [] (onAbsorb (fun a => { a with reexecuting := true }) wNet) : State) = counted (0 : Nat) [] (onAbsorb (fun a => { a with reexecuting := true }) wNet : State)) ∧
    (devicePort (onAbsorb (fun a => { a with reexecuting := true }) wNet : State) = true) ∧
    ((onAbsorb (fun a => { a with reexecuting := true }) wNet : State).absorb.reexecuting = true) ∧
    ((wPtp (.announce 9 0 0 0 0 37) : PtpMsg).port = (0 : Nat)) ∧
    ((wPtp (.announce 9 0 0 0 0 37) : PtpMsg).body ≠ .silent) := by decide +kernel

theorem meets_LineEventsAct_10 :
    (switchOn (onNet (fun n => { n with blocked := [(0, 0)] }) wNet : State) = true) ∧
    ((0 : Nat) ≤ 2) ∧
    (portBlocked (onNet (fun n => { n with blocked := [(0, 0)] }) wNet : State) (0 : Nat) = true) ∧
    ((wPtp (.announce 9 0 0 0 0 37) : PtpMsg).port = (0 : Nat)) ∧
    ((wPtp (.announce 9 0 0 0 0 37) : PtpMsg).body ≠ .silent) := by decide +kernel

theorem meets_LineEventsAct_11 :
    ((switchOn (wRun : State) = false ∨ 2 < (3 : Nat))) ∧
    (({ wPtp (.announce 9 0 0 0 0 37) with port := 3 } : PtpMsg).port = (3 : Nat)) ∧
    (({ wPtp (.announce 9 0 0 0 0 37) with port := 3 } : PtpMsg).body ≠ .silent) := by decide +kernel

theorem meets_LineEventsAct_12 :
    (heardPtp (wNet : State) (wPtp (.announce 9 1 2 3 4 37) : PtpMsg)) ∧
    ((counted 0 [] wNet : State) = counted (wPtp (.announce 9 1 2 3 4 37) : PtpMsg).port [] (wNet : State)) ∧
    ((wPtp (.announce 9 1 2 3 4 37) : PtpMsg).body = .announce (9 : Nat) (1 : Nat) (2 : Nat) (3 : Nat) (4 : Nat) (37 : Int)) ∧
    (([{ source := 7, rank := [1, 2, 3, 9, 4, 7], utcOffset := 37 }] : List PtpMaster) = { source := (wPtp (.announce 9 1 2 3 4 37) : PtpMsg).source, rank := [(1 : Nat), (2 : Nat), (3 : Nat), (9 : Nat), (4 : Nat), (wPtp (.announce 9 1 2 3 4 37) : PtpMsg).source], utcOffset := (37 : Int) } :: (wNet : State).net.ptpMasters.filter (fun x => x.source != (wPtp (.announce 9 1 2 3 4 37) : PtpMsg).source)) := by decide +kernel

theorem meets_LineEventsAct_13 :
    (devicePort (wPtpHeard {} : State) = true) ∧
    (ordinaryClock (wPtpHeard {} : State) = true) ∧
    ((wPtp .silent : PtpMsg).transport = g1 (netBody (wPtpHeard {} : State)) 34) ∧
    ((wPtp .silent : PtpMsg).domain = g1 (netBody (wPtpHeard {} : State)) 33) ∧
    ((wPtp .silent : PtpMsg).body = .silent) ∧
    (([] : List PtpMaster) = (wPtpHeard {} : State).net.ptpMasters.filter (fun x => x.source != (wPtp .silent : PtpMsg).source)) := by decide +kernel

theorem meets_LineEventsAct_14 :
    (heardPtp (wPtpHeard {} : State) (wPtp (.sync false 5000) : PtpMsg)) ∧
    ((counted 0 [] (wPtpHeard {}) : State) = counted (wPtp (.sync false 5000) : PtpMsg).port [] (wPtpHeard {} : State)) ∧
    ((wPtp (.sync false 5000) : PtpMsg).body = .sync false (5000 : Int)) ∧
    (fromChosen (wPtpHeard {} : State) (wPtp (.sync false 5000) : PtpMsg)) := by decide +kernel

theorem meets_LineEventsAct_15 :
    (heardPtp (wPtpHeard {} : State) (wPtp (.sync true 5000) : PtpMsg)) ∧
    ((counted 0 [] (wPtpHeard {}) : State) = counted (wPtp (.sync true 5000) : PtpMsg).port [] (wPtpHeard {} : State)) ∧
    ((wPtp (.sync true 5000) : PtpMsg).body = .sync true (5000 : Int)) ∧
    (fromChosen (wPtpHeard {} : State) (wPtp (.sync true 5000) : PtpMsg)) := by decide +kernel

theorem meets_LineEventsAct_16 :
    (heardPtp (wPtpHeard { syncSeq := 3 } : State) ({ wPtp (.followUp 5000) with seq := 3 } : PtpMsg)) ∧
    ((counted 0 [] (wPtpHeard { syncSeq := 3 }) : State) = counted ({ wPtp (.followUp 5000) with seq := 3 } : PtpMsg).port [] (wPtpHeard { syncSeq := 3 } : State)) ∧
    (({ wPtp (.followUp 5000) with seq := 3 } : PtpMsg).body = .followUp (5000 : Int)) ∧
    (fromChosen (wPtpHeard { syncSeq := 3 } : State) ({ wPtp (.followUp 5000) with seq := 3 } : PtpMsg)) ∧
    (({ wPtp (.followUp 5000) with seq := 3 } : PtpMsg).seq = (wPtpHeard { syncSeq := 3 } : State).net.ptpExchange.syncSeq) ∧
    ((wPtpHeard { syncSeq := 3 } : State).net.ptpExchange.origin = none) := by decide +kernel

theorem meets_LineEventsAct_17 :
    (heardPtp (wPtpHeard { origin := some 5000, left := some 7, delaySeq := 2 } : State) ({ wPtp (.delayResp (beNat (portIdentity wNet)) 6000) with seq := 2 } : PtpMsg)) ∧
    ((counted 0 [] (wPtpHeard { origin := some 5000, left := some 7, delaySeq := 2 }) : State) = counted ({ wPtp (.delayResp (beNat (portIdentity wNet)) 6000) with seq := 2 } : PtpMsg).port [] (wPtpHeard { origin := some 5000, left := some 7, delaySeq := 2 } : State)) ∧
    (({ wPtp (.delayResp (beNat (portIdentity wNet)) 6000) with seq := 2 } : PtpMsg).body = .delayResp (beNat (portIdentity (wPtpHeard { origin := some 5000, left := some 7, delaySeq := 2 } : State))) (6000 : Int)) ∧
    ((wPtpHeard { origin := some 5000, left := some 7, delaySeq := 2 } : State).net.ptpChosen = some ({ wPtp (.delayResp (beNat (portIdentity wNet)) 6000) with seq := 2 } : PtpMsg).source) ∧
    ((wPtpHeard { origin := some 5000, left := some 7, delaySeq := 2 } : State).net.ptpMasters.find? (fun y => y.source == ({ wPtp (.delayResp (beNat (portIdentity wNet)) 6000) with seq := 2 } : PtpMsg).source) = some ({ source := 7, rank := [], utcOffset := 37 } : PtpMaster)) ∧
    (({ origin := some 5000, left := some 7, delaySeq := 2 } : PtpExchange) = (wPtpHeard { origin := some 5000, left := some 7, delaySeq := 2 } : State).net.ptpExchange) ∧
    (({ origin := some 5000, left := some 7, delaySeq := 2 } : PtpExchange).origin = some (5000 : Int)) ∧
    (({ origin := some 5000, left := some 7, delaySeq := 2 } : PtpExchange).left = some (7 : Int)) ∧
    (({ wPtp (.delayResp (beNat (portIdentity wNet)) 6000) with seq := 2 } : PtpMsg).seq = ({ origin := some 5000, left := some 7, delaySeq := 2 } : PtpExchange).delaySeq) ∧
    (((((0 - (5000 - 37 * 1000000000)) - ((6000 - 37 * 1000000000) - 7) : Int)).fdiv 2 : Int) = ((({ origin := some 5000, left := some 7, delaySeq := 2 } : PtpExchange).arrived - ((5000 : Int) - ({ source := 7, rank := [], utcOffset := 37 } : PtpMaster).utcOffset * 1000000000)) - (((6000 : Int) - ({ wPtp (.delayResp (beNat (portIdentity wNet)) 6000) with seq := 2 } : PtpMsg).correction.fdiv 65536 - ({ source := 7, rank := [], utcOffset := 37 } : PtpMaster).utcOffset * 1000000000) - (7 : Int))).fdiv 2) := by decide +kernel

theorem meets_LineEventsAct_18 :
    (comesIn (wPtpHeard {} : State) ({ wPtp (.sync false 5000) with source := 8 } : PtpMsg).port) ∧
    ((wPtpHeard {} : State).absorb.reexecuting = false) ∧
    ((counted 0 [] (wPtpHeard {}) : State) = counted ({ wPtp (.sync false 5000) with source := 8 } : PtpMsg).port [] (wPtpHeard {} : State)) ∧
    (({ wPtp (.sync false 5000) with source := 8 } : PtpMsg).body ≠ .silent) ∧
    ((devicePort (wPtpHeard {} : State) = false ∨ ordinaryClock (wPtpHeard {} : State) = false ∨ ({ wPtp (.sync false 5000) with source := 8 } : PtpMsg).transport ≠ g1 (netBody (wPtpHeard {} : State)) 34 ∨ ({ wPtp (.sync false 5000) with source := 8 } : PtpMsg).domain ≠ g1 (netBody (wPtpHeard {} : State)) 33 ∨ (isAnnounce ({ wPtp (.sync false 5000) with source := 8 } : PtpMsg).body = false ∧ (wPtpHeard {} : State).net.ptpChosen ≠ some ({ wPtp (.sync false 5000) with source := 8 } : PtpMsg).source))) := by decide +kernel

theorem meets_LineEventsAct_19 :
    (heardPtp (wPtpHeard { syncSeq := 3 } : State) (wPtp (.followUp 5000) : PtpMsg)) ∧
    ((counted 0 [] (wPtpHeard { syncSeq := 3 }) : State) = counted (wPtp (.followUp 5000) : PtpMsg).port [] (wPtpHeard { syncSeq := 3 } : State)) ∧
    (({ syncSeq := 3 } : PtpExchange) = (wPtpHeard { syncSeq := 3 } : State).net.ptpExchange) ∧
    ((((wPtp (.followUp 5000) : PtpMsg).body = .followUp (5000 : Int) ∧ ((wPtp (.followUp 5000) : PtpMsg).seq ≠ ({ syncSeq := 3 } : PtpExchange).syncSeq ∨ ({ syncSeq := 3 } : PtpExchange).origin ≠ none)) ∨ ((wPtp (.followUp 5000) : PtpMsg).body = .delayResp (0 : Nat) (5000 : Int) ∧ (({ syncSeq := 3 } : PtpExchange).origin = none ∨ ({ syncSeq := 3 } : PtpExchange).left = none ∨ (0 : Nat) ≠ beNat (portIdentity (wPtpHeard { syncSeq := 3 } : State)) ∨ (wPtp (.followUp 5000) : PtpMsg).seq ≠ ({ syncSeq := 3 } : PtpExchange).delaySeq)))) := by decide +kernel

theorem meets_LineEventsAct_20 :
    ((wPtp .silent : PtpMsg).body = .silent) ∧
    ((devicePort (wRun : State) = false ∨ ordinaryClock (wRun : State) = false ∨ (wPtp .silent : PtpMsg).transport ≠ g1 (netBody (wRun : State)) 34 ∨ (wPtp .silent : PtpMsg).domain ≠ g1 (netBody (wRun : State)) 33)) := by decide +kernel

theorem meets_LineEventsAct_21 :
    (devicePort (wNet : State) = true) ∧
    (loopGuard (wNet : State) = true) ∧
    ((1 : Nat) < 3) := by decide +kernel

theorem meets_LineEventsAct_22 :
    ((devicePort (wNet : State) = false ∨ loopGuard (wNet : State) = false ∨ 3 ≤ (3 : Nat))) := by decide +kernel

theorem meets_LineEventsAct_23 :
    (switchOn (wNet : State) = true) ∧
    (devicePort (wNet : State) = true) ∧
    (loopGuard (wNet : State) = true) ∧
    ((0 : Nat) ≠ (1 : Nat)) ∧
    ((1 : Nat) ≤ 2) ∧
    ((counted 1 (wNet.net.mac) wNet : State) = counted (1 : Nat) (wNet : State).net.mac (wNet : State)) ∧
    ((1 : Nat) = (if (1 : Nat) = 0 then 2 else 1)) ∧
    (portBlocked (wNet : State) (1 : Nat) = false) := by decide +kernel

theorem meets_LineEventsAct_24 :
    (switchOn (onNet (fun n => { n with blocked := [(1, 0)] }) wNet : State) = true) ∧
    (devicePort (onNet (fun n => { n with blocked := [(1, 0)] }) wNet : State) = true) ∧
    (loopGuard (onNet (fun n => { n with blocked := [(1, 0)] }) wNet : State) = true) ∧
    ((0 : Nat) ≠ (1 : Nat)) ∧
    ((1 : Nat) ≤ 2) ∧
    ((counted 1 (wNet.net.mac) (onNet (fun n => { n with blocked := [(1, 0)] }) wNet) : State) = counted (1 : Nat) (onNet (fun n => { n with blocked := [(1, 0)] }) wNet : State).net.mac (onNet (fun n => { n with blocked := [(1, 0)] }) wNet : State)) ∧
    ((1 : Nat) = (if (1 : Nat) = 0 then 2 else 1)) ∧
    (portBlocked (onNet (fun n => { n with blocked := [(1, 0)] }) wNet : State) (1 : Nat) = true) := by decide +kernel

theorem meets_LineEventsAct_25 :
    (switchOn (wNet : State) = true) ∧
    ((1 : Nat) ≤ 2) ∧
    ((counted 1 (wNet.net.mac) wNet : State) = counted (1 : Nat) (wNet : State).net.mac (wNet : State)) ∧
    ((devicePort (wNet : State) = false ∨ loopGuard (wNet : State) = false ∨ (1 : Nat) = (1 : Nat))) := by decide +kernel

theorem meets_LineEventsAct_26 :
    ((switchOn (wRun : State) = false ∨ 2 < (3 : Nat))) := by decide +kernel

theorem meets_LineEventsAct_27 :
    (([(1, 0)] : List (Nat × Nat)) = (onSys (fun y => { y with devTime := 10000000000 }) (onNet (fun n => { n with blocked := [(1, 0)] }) wNet) : State).net.blocked.filter (fun e => decide (e.2 + 10000000000 ≤ (onSys (fun y => { y with devTime := 10000000000 }) (onNet (fun n => { n with blocked := [(1, 0)] }) wNet) : State).sys.devTime))) := by decide +kernel

theorem meets_LineEventsAct_28 :
    (devicePort (onNet (fun n => { n with ports := [] }) wNet : State) = true) ∧
    (uplinkMode (onNet (fun n => { n with ports := [] }) wNet : State) = 1) ∧
    ((1 : Nat) = (if (true : Bool) = false then 2 else if (true : Bool) then 1 else 3)) := by decide +kernel

theorem meets_LineEventsAct_29 :
    ((devicePort (wRun : State) = false ∨ uplinkMode (wRun : State) ≠ 1)) := by decide +kernel

theorem meets_LineEventsAct_30 :
    (switchOn (onNet (fun n => { n with ports := [] }) wNet : State) = true) ∧
    ((1 : Nat) < 2) ∧
    ((port (onNet (fun n => { n with ports := [] }) wNet : State) (1 : Nat)).link = false) ∧
    ((port (onNet (fun n => { n with ports := [] }) wNet : State) (1 : Nat)).wrongSpeed = false) ∧
    ((onNet (fun n => { n with ports := [] }) wNet : State).sys.ready = true) := by decide +kernel

theorem meets_LineEventsAct_31 :
    (switchOn (wNet : State) = true) ∧
    ((((1 : Nat) < 2 ∧ ((2 : Nat) = 1 ∨ (2 : Nat) = 2)) ∨ ((1 : Nat) = 2 ∧ 1 ≤ (2 : Nat) ∧ (2 : Nat) ≤ 3 ∧ uplinkMode (wNet : State) ≠ 0 ∧ (wNet : State).net.applied = true))) := by decide +kernel

theorem meets_LineEventsAct_32 :
    ((switchOn (wNet : State) = false ∨ 2 < (1 : Nat) ∨ (3 : Nat) = 0 ∨ 3 < (3 : Nat) ∨ ((1 : Nat) < 2 ∧ (3 : Nat) = 3) ∨ ((1 : Nat) = 2 ∧ (uplinkMode (wNet : State) = 0 ∨ (wNet : State).net.applied = false)))) := by decide +kernel

theorem meets_LineEventsAct_33 :
    ((onPower (fun p => { p with springPowered := true }) wNet : State).sys.ready = true) ∧
    ((onPower (fun p => { p with springPowered := true }) wNet : State).power.springPowered = true) := by decide +kernel

theorem meets_LineEventsAct_34 :
    (((State.reset : State).sys.ready = false ∨ (State.reset : State).power.springPowered = false)) := by decide +kernel

theorem meets_LineEventsAct_35 :
    (sessionNo (onSys (fun y => { y with devTime := 10 ^ 15 }) wUdp : State) (9 : Nat) = some (0 : Nat)) ∧
    ((tget (onSys (fun y => { y with devTime := 10 ^ 15 }) wUdp : State).net.sessions (0 : Nat)).lastSeen + idleSeconds (onSys (fun y => { y with devTime := 10 ^ 15 }) wUdp : State) * 1000000000 ≤ (onSys (fun y => { y with devTime := 10 ^ 15 }) wUdp : State).sys.devTime) := by decide +kernel

theorem meets_LineEventsAct_36 :
    ((∀ k ∈ sessionNo (wUdp : State) (4 : Nat), (wUdp : State).sys.devTime < (tget (wUdp : State).net.sessions k).lastSeen + idleSeconds (wUdp : State) * 1000000000)) := by decide +kernel

theorem meets_SessionCommandsAct_1 :
    (srcOf (wGr (zeros 8) : Req).side = some (⟨10, 4000, 2, []⟩ : UdpSrc)) ∧
    (dgramSide (wGuest : State) (⟨10, 4000, 2, []⟩ : UdpSrc) 0 ((wGr (zeros 8) : Req).sluice % 16) = some (guestSide ⟨10, 4000, 2, []⟩ : Side)) ∧
    (srcOf (guestSide ⟨10, 4000, 2, []⟩ : Side) = some (⟨10, 4000, 2, []⟩ : UdpSrc)) ∧
    (({ wGr (zeros 8) with side := guestSide ⟨10, 4000, 2, []⟩ } : Req) = { (wGr (zeros 8) : Req) with side := (guestSide ⟨10, 4000, 2, []⟩ : Side) }) ∧
    ((openS0 (guestSide ⟨10, 4000, 2, []⟩) (wGuest) : State) = openS0 (guestSide ⟨10, 4000, 2, []⟩ : Side) (wGuest : State)) ∧
    (asks 0x0C01 ({ wGr (zeros 8) with side := guestSide ⟨10, 4000, 2, []⟩ } : Req) (openS0 (guestSide ⟨10, 4000, 2, []⟩) (wGuest) : State) = true) ∧
    (((wGuest : State).net.key ≠ none ∨ firstKeyWay (wGuest : State) (⟨10, 4000, 2, []⟩ : UdpSrc).via = true)) := by decide +kernel

theorem meets_SessionCommandsAct_2 :
    (srcOf (wGr (zeros 8) : Req).side = some (⟨10, 4000, 2, []⟩ : UdpSrc)) ∧
    (dgramSide (onNet (fun n => { n with key := none }) wGuest : State) (⟨10, 4000, 2, []⟩ : UdpSrc) 0 ((wGr (zeros 8) : Req).sluice % 16) = some (guestSide ⟨10, 4000, 2, []⟩ : Side)) ∧
    (srcOf (guestSide ⟨10, 4000, 2, []⟩ : Side) = some (⟨10, 4000, 2, []⟩ : UdpSrc)) ∧
    (({ wGr (zeros 8) with side := guestSide ⟨10, 4000, 2, []⟩ } : Req) = { (wGr (zeros 8) : Req) with side := (guestSide ⟨10, 4000, 2, []⟩ : Side) }) ∧
    ((openS0 (guestSide ⟨10, 4000, 2, []⟩) (onNet (fun n => { n with key := none }) wGuest) : State) = openS0 (guestSide ⟨10, 4000, 2, []⟩ : Side) (onNet (fun n => { n with key := none }) wGuest : State)) ∧
    (asks 0x0C01 ({ wGr (zeros 8) with side := guestSide ⟨10, 4000, 2, []⟩ } : Req) (openS0 (guestSide ⟨10, 4000, 2, []⟩) (onNet (fun n => { n with key := none }) wGuest) : State) = true) ∧
    ((onNet (fun n => { n with key := none }) wGuest : State).net.key = none) ∧
    (firstKeyWay (onNet (fun n => { n with key := none }) wGuest : State) (⟨10, 4000, 2, []⟩ : UdpSrc).via = false) := by decide +kernel

theorem meets_SessionCommandsAct_3 :
    (srcOf (wGr (zeros 8) : Req).side = some (⟨10, 4000, 2, []⟩ : UdpSrc)) ∧
    (dgramSide (onNet (fun n => { n with lockouts := [(10, 0)] }) wGuest : State) (⟨10, 4000, 2, []⟩ : UdpSrc) 0 ((wGr (zeros 8) : Req).sluice % 16) = none) := by decide +kernel

theorem meets_SessionCommandsAct_4 :
    (srcOf (rq (zeros 8) : Req).side = none) ∧
    (asks 0x0C01 (rq (zeros 8) : Req) (wNet : State) = true) := by decide +kernel

theorem meets_SessionCommandsAct_5 :
    (srcOf (rq (zeros 16) : Req).side = none) ∧
    (asks 0x0C02 (rq (zeros 16) : Req) (wNet : State) = true) := by decide +kernel

theorem meets_SessionCommandsAct_6 :
    (srcOf (wGr (zeros 16) : Req).side = some (⟨10, 4000, 2, []⟩ : UdpSrc)) ∧
    (dgramSide (wGuest : State) (⟨10, 4000, 2, []⟩ : UdpSrc) 0 ((wGr (zeros 16) : Req).sluice % 16) = some (guestSide ⟨10, 4000, 2, []⟩ : Side)) ∧
    (srcOf (guestSide ⟨10, 4000, 2, []⟩ : Side) = some (⟨10, 4000, 2, []⟩ : UdpSrc)) ∧
    (({ wGr (zeros 16) with side := guestSide ⟨10, 4000, 2, []⟩ } : Req) = { (wGr (zeros 16) : Req) with side := (guestSide ⟨10, 4000, 2, []⟩ : Side) }) ∧
    ((openS0 (guestSide ⟨10, 4000, 2, []⟩) (wGuest) : State) = openS0 (guestSide ⟨10, 4000, 2, []⟩ : Side) (wGuest : State)) ∧
    (asks 0x0C02 ({ wGr (zeros 16) with side := guestSide ⟨10, 4000, 2, []⟩ } : Req) (openS0 (guestSide ⟨10, 4000, 2, []⟩) (wGuest) : State) = true) ∧
    ((wGuest : State).net.key = some (zeros 32 : List Byte)) ∧
    (nonceOf (wGuest : State) (⟨10, 4000, 2, []⟩ : UdpSrc) = some ({ addr := 10, port := 4000, via := 2, client := zeros 8, device := zeros 8 } : Nonce)) ∧
    ((wGuest : State).sys.devTime ≤ ({ addr := 10, port := 4000, via := 2, client := zeros 8, device := zeros 8 } : Nonce).at_ + 5000000000) ∧
    ((wGuest : State).net.sessions.length < min 4 (maxSessions (wGuest : State))) := by decide +kernel

theorem meets_SessionCommandsAct_7 :
    (srcOf ({ wGr (zeros 16) with side := guestSide ⟨10, 4000, 3, []⟩ } : Req).side = some (⟨10, 4000, 3, []⟩ : UdpSrc)) ∧
    (dgramSide ({ (wMode .commission (onNet (fun n => { n with key := none, nonces := [{ addr := 10, port := 4000, via := 3, client := zeros 8, device := zeros 8 }] }) wGuest)) with cfg := { wNet.cfg with active := [mkObj 6 0 true (p1 192 ++ p1 168 ++ p1 0 ++ p1 10 ++ zeros 11 ++ [1] ++ zeros 16 ++ [3, 0, 0, 2] ++ p2 60 ++ [0x0F, 1] ++ zeros 24)] } } : State) (⟨10, 4000, 3, []⟩ : UdpSrc) 0 (({ wGr (zeros 16) with side := guestSide ⟨10, 4000, 3, []⟩ } : Req).sluice % 16) = some (guestSide ⟨10, 4000, 3, []⟩ : Side)) ∧
    (srcOf (guestSide ⟨10, 4000, 3, []⟩ : Side) = some (⟨10, 4000, 3, []⟩ : UdpSrc)) ∧
    (({ wGr (zeros 16) with side := guestSide ⟨10, 4000, 3, []⟩ } : Req) = { ({ wGr (zeros 16) with side := guestSide ⟨10, 4000, 3, []⟩ } : Req) with side := (guestSide ⟨10, 4000, 3, []⟩ : Side) }) ∧
    ((openS0 (guestSide ⟨10, 4000, 3, []⟩) ({ (wMode .commission (onNet (fun n => { n with key := none, nonces := [{ addr := 10, port := 4000, via := 3, client := zeros 8, device := zeros 8 }] }) wGuest)) with cfg := { wNet.cfg with active := [mkObj 6 0 true (p1 192 ++ p1 168 ++ p1 0 ++ p1 10 ++ zeros 11 ++ [1] ++ zeros 16 ++ [3, 0, 0, 2] ++ p2 60 ++ [0x0F, 1] ++ zeros 24)] } }) : State) = openS0 (guestSide ⟨10, 4000, 3, []⟩ : Side) ({ (wMode .commission (onNet (fun n => { n with key := none, nonces := [{ addr := 10, port := 4000, via := 3, client := zeros 8, device := zeros 8 }] }) wGuest)) with cfg := { wNet.cfg with active := [mkObj 6 0 true (p1 192 ++ p1 168 ++ p1 0 ++ p1 10 ++ zeros 11 ++ [1] ++ zeros 16 ++ [3, 0, 0, 2] ++ p2 60 ++ [0x0F, 1] ++ zeros 24)] } } : State)) ∧
    (asks 0x0C02 ({ wGr (zeros 16) with side := guestSide ⟨10, 4000, 3, []⟩ } : Req) (openS0 (guestSide ⟨10, 4000, 3, []⟩) ({ (wMode .commission (onNet (fun n => { n with key := none, nonces := [{ addr := 10, port := 4000, via := 3, client := zeros 8, device := zeros 8 }] }) wGuest)) with cfg := { wNet.cfg with active := [mkObj 6 0 true (p1 192 ++ p1 168 ++ p1 0 ++ p1 10 ++ zeros 11 ++ [1] ++ zeros 16 ++ [3, 0, 0, 2] ++ p2 60 ++ [0x0F, 1] ++ zeros 24)] } }) : State) = true) ∧
    (firstKeyWay ({ (wMode .commission (onNet (fun n => { n with key := none, nonces := [{ addr := 10, port := 4000, via := 3, client := zeros 8, device := zeros 8 }] }) wGuest)) with cfg := { wNet.cfg with active := [mkObj 6 0 true (p1 192 ++ p1 168 ++ p1 0 ++ p1 10 ++ zeros 11 ++ [1] ++ zeros 16 ++ [3, 0, 0, 2] ++ p2 60 ++ [0x0F, 1] ++ zeros 24)] } } : State) (⟨10, 4000, 3, []⟩ : UdpSrc).via = true) ∧
    (nonceOf ({ (wMode .commission (onNet (fun n => { n with key := none, nonces := [{ addr := 10, port := 4000, via := 3, client := zeros 8, device := zeros 8 }] }) wGuest)) with cfg := { wNet.cfg with active := [mkObj 6 0 true (p1 192 ++ p1 168 ++ p1 0 ++ p1 10 ++ zeros 11 ++ [1] ++ zeros 16 ++ [3, 0, 0, 2] ++ p2 60 ++ [0x0F, 1] ++ zeros 24)] } } : State) (⟨10, 4000, 3, []⟩ : UdpSrc) = some ({ addr := 10, port := 4000, via := 3, client := zeros 8, device := zeros 8 } : Nonce)) ∧
    (({ (wMode .commission (onNet (fun n => { n with key := none, nonces := [{ addr := 10, port := 4000, via := 3, client := zeros 8, device := zeros 8 }] }) wGuest)) with cfg := { wNet.cfg with active := [mkObj 6 0 true (p1 192 ++ p1 168 ++ p1 0 ++ p1 10 ++ zeros 11 ++ [1] ++ zeros 16 ++ [3, 0, 0, 2] ++ p2 60 ++ [0x0F, 1] ++ zeros 24)] } } : State).sys.devTime ≤ ({ addr := 10, port := 4000, via := 3, client := zeros 8, device := zeros 8 } : Nonce).at_ + 5000000000) ∧
    (({ (wMode .commission (onNet (fun n => { n with key := none, nonces := [{ addr := 10, port := 4000, via := 3, client := zeros 8, device := zeros 8 }] }) wGuest)) with cfg := { wNet.cfg with active := [mkObj 6 0 true (p1 192 ++ p1 168 ++ p1 0 ++ p1 10 ++ zeros 11 ++ [1] ++ zeros 16 ++ [3, 0, 0, 2] ++ p2 60 ++ [0x0F, 1] ++ zeros 24)] } } : State).net.sessions.length < min 4 (maxSessions ({ (wMode .commission (onNet (fun n => { n with key := none, nonces := [{ addr := 10, port := 4000, via := 3, client := zeros 8, device := zeros 8 }] }) wGuest)) with cfg := { wNet.cfg with active := [mkObj 6 0 true (p1 192 ++ p1 168 ++ p1 0 ++ p1 10 ++ zeros 11 ++ [1] ++ zeros 16 ++ [3, 0, 0, 2] ++ p2 60 ++ [0x0F, 1] ++ zeros 24)] } } : State))) := by decide +kernel

theorem meets_SessionCommandsAct_8 :
    (srcOf (wGr (zeros 16) : Req).side = some (⟨10, 4000, 2, []⟩ : UdpSrc)) ∧
    (dgramSide (onNet (fun n => { n with sessions := [(0, {}), (2, {}), (4, {}), (6, {})] }) wGuest : State) (⟨10, 4000, 2, []⟩ : UdpSrc) 0 ((wGr (zeros 16) : Req).sluice % 16) = some (guestSide ⟨10, 4000, 2, []⟩ : Side)) ∧
    (srcOf (guestSide ⟨10, 4000, 2, []⟩ : Side) = some (⟨10, 4000, 2, []⟩ : UdpSrc)) ∧
    (({ wGr (zeros 16) with side := guestSide ⟨10, 4000, 2, []⟩ } : Req) = { (wGr (zeros 16) : Req) with side := (guestSide ⟨10, 4000, 2, []⟩ : Side) }) ∧
    ((openS0 (guestSide ⟨10, 4000, 2, []⟩) (onNet (fun n => { n with sessions := [(0, {}), (2, {}), (4, {}), (6, {})] }) wGuest) : State) = openS0 (guestSide ⟨10, 4000, 2, []⟩ : Side) (onNet (fun n => { n with sessions := [(0, {}), (2, {}), (4, {}), (6, {})] }) wGuest : State)) ∧
    (asks 0x0C02 ({ wGr (zeros 16) with side := guestSide ⟨10, 4000, 2, []⟩ } : Req) (openS0 (guestSide ⟨10, 4000, 2, []⟩) (onNet (fun n => { n with sessions := [(0, {}), (2, {}), (4, {}), (6, {})] }) wGuest) : State) = true) ∧
    ((onNet (fun n => { n with sessions := [(0, {}), (2, {}), (4, {}), (6, {})] }) wGuest : State).net.key = some (zeros 32 : List Byte)) ∧
    (nonceOf (onNet (fun n => { n with sessions := [(0, {}), (2, {}), (4, {}), (6, {})] }) wGuest : State) (⟨10, 4000, 2, []⟩ : UdpSrc) = some ({ addr := 10, port := 4000, via := 2, client := zeros 8, device := zeros 8 } : Nonce)) ∧
    ((onNet (fun n => { n with sessions := [(0, {}), (2, {}), (4, {}), (6, {})] }) wGuest : State).sys.devTime ≤ ({ addr := 10, port := 4000, via := 2, client := zeros 8, device := zeros 8 } : Nonce).at_ + 5000000000) ∧
    (min 4 (maxSessions (onNet (fun n => { n with sessions := [(0, {}), (2, {}), (4, {}), (6, {})] }) wGuest : State)) ≤ (onNet (fun n => { n with sessions := [(0, {}), (2, {}), (4, {}), (6, {})] }) wGuest : State).net.sessions.length) := by decide +kernel

theorem meets_SessionCommandsAct_9 :
    (srcOf (wGr (zeros 16) : Req).side = some (⟨10, 4000, 2, []⟩ : UdpSrc)) ∧
    (dgramSide (onSys (fun y => { y with devTime := 6000000000 }) wGuest : State) (⟨10, 4000, 2, []⟩ : UdpSrc) 0 ((wGr (zeros 16) : Req).sluice % 16) = some (guestSide ⟨10, 4000, 2, []⟩ : Side)) ∧
    (srcOf (guestSide ⟨10, 4000, 2, []⟩ : Side) = some (⟨10, 4000, 2, []⟩ : UdpSrc)) ∧
    (({ wGr (zeros 16) with side := guestSide ⟨10, 4000, 2, []⟩ } : Req) = { (wGr (zeros 16) : Req) with side := (guestSide ⟨10, 4000, 2, []⟩ : Side) }) ∧
    ((openS0 (guestSide ⟨10, 4000, 2, []⟩) (onSys (fun y => { y with devTime := 6000000000 }) wGuest) : State) = openS0 (guestSide ⟨10, 4000, 2, []⟩ : Side) (onSys (fun y => { y with devTime := 6000000000 }) wGuest : State)) ∧
    (asks 0x0C02 ({ wGr (zeros 16) with side := guestSide ⟨10, 4000, 2, []⟩ } : Req) (openS0 (guestSide ⟨10, 4000, 2, []⟩) (onSys (fun y => { y with devTime := 6000000000 }) wGuest) : State) = true) ∧
    (((onSys (fun y => { y with devTime := 6000000000 }) wGuest : State).net.key ≠ none ∨ firstKeyWay (onSys (fun y => { y with devTime := 6000000000 }) wGuest : State) (⟨10, 4000, 2, []⟩ : UdpSrc).via = true)) ∧
    (nonceOf (onSys (fun y => { y with devTime := 6000000000 }) wGuest : State) (⟨10, 4000, 2, []⟩ : UdpSrc) = some ({ addr := 10, port := 4000, via := 2, client := zeros 8, device := zeros 8 } : Nonce)) ∧
    (({ addr := 10, port := 4000, via := 2, client := zeros 8, device := zeros 8 } : Nonce).at_ + 5000000000 < (onSys (fun y => { y with devTime := 6000000000 }) wGuest : State).sys.devTime) := by decide +kernel

theorem meets_SessionCommandsAct_10 :
    (srcOf (wGr (zeros 16) : Req).side = some (⟨10, 4000, 2, []⟩ : UdpSrc)) ∧
    (dgramSide (onNet (fun n => { n with nonces := [] }) wGuest : State) (⟨10, 4000, 2, []⟩ : UdpSrc) 0 ((wGr (zeros 16) : Req).sluice % 16) = some (guestSide ⟨10, 4000, 2, []⟩ : Side)) ∧
    (srcOf (guestSide ⟨10, 4000, 2, []⟩ : Side) = some (⟨10, 4000, 2, []⟩ : UdpSrc)) ∧
    (({ wGr (zeros 16) with side := guestSide ⟨10, 4000, 2, []⟩ } : Req) = { (wGr (zeros 16) : Req) with side := (guestSide ⟨10, 4000, 2, []⟩ : Side) }) ∧
    ((openS0 (guestSide ⟨10, 4000, 2, []⟩) (onNet (fun n => { n with nonces := [] }) wGuest) : State) = openS0 (guestSide ⟨10, 4000, 2, []⟩ : Side) (onNet (fun n => { n with nonces := [] }) wGuest : State)) ∧
    (asks 0x0C02 ({ wGr (zeros 16) with side := guestSide ⟨10, 4000, 2, []⟩ } : Req) (openS0 (guestSide ⟨10, 4000, 2, []⟩) (onNet (fun n => { n with nonces := [] }) wGuest) : State) = true) ∧
    ((nonceOf (onNet (fun n => { n with nonces := [] }) wGuest : State) (⟨10, 4000, 2, []⟩ : UdpSrc) = none ∨ ((onNet (fun n => { n with nonces := [] }) wGuest : State).net.key = none ∧ firstKeyWay (onNet (fun n => { n with nonces := [] }) wGuest : State) (⟨10, 4000, 2, []⟩ : UdpSrc).via = false))) := by decide +kernel

theorem meets_SessionCommandsAct_11 :
    (asks 0x0C03 (rq [9, 0, 0, 0] : Req) (wUdp : State) = true) ∧
    (g2 (rq [9, 0, 0, 0] : Req).payload 0 ≠ 0) ∧
    (zeroAt (rq [9, 0, 0, 0] : Req).payload 2 2 = true) ∧
    (((wUdp : State).net.sessions.find? (fun e => e.2.id == g2 (rq [9, 0, 0, 0] : Req).payload 0)).map (·.1) = some (0 : Nat)) := by decide +kernel

theorem meets_SessionCommandsAct_12 :
    (asks 0x0C03 ({ side := .udp 0, sluice := 4, tag := 7, flags := 0, payload := zeros 4 } : Req) (onMail (fun m => { m with sluices := m.sluices ++ [(4, { owner := some (.udp 0), sizeKib := 1, st := .idle })] }) wUdp : State) = true) ∧
    (g2 ({ side := .udp 0, sluice := 4, tag := 7, flags := 0, payload := zeros 4 } : Req).payload 0 = 0) ∧
    (zeroAt ({ side := .udp 0, sluice := 4, tag := 7, flags := 0, payload := zeros 4 } : Req).payload 2 2 = true) ∧
    (({ side := .udp 0, sluice := 4, tag := 7, flags := 0, payload := zeros 4 } : Req).side = .udp (0 : Nat)) ∧
    (tfind (onMail (fun m => { m with sluices := m.sluices ++ [(4, { owner := some (.udp 0), sizeKib := 1, st := .idle })] }) wUdp : State).net.sessions (0 : Nat) ≠ none) := by decide +kernel

theorem meets_SessionCommandsAct_13 :
    (asks 0x0C03 (rq [9, 0, 1, 0] : Req) (wUdp : State) = true) ∧
    (zeroAt (rq [9, 0, 1, 0] : Req).payload 2 2 = false) := by decide +kernel

theorem meets_SessionCommandsAct_14 :
    (asks 0x0C03 (rq [5, 0, 0, 0] : Req) (wUdp : State) = true) ∧
    (zeroAt (rq [5, 0, 0, 0] : Req).payload 2 2 = true) ∧
    (((g2 (rq [5, 0, 0, 0] : Req).payload 0 ≠ 0 ∧ ∀ e ∈ (wUdp : State).net.sessions, e.2.id ≠ g2 (rq [5, 0, 0, 0] : Req).payload 0) ∨ (g2 (rq [5, 0, 0, 0] : Req).payload 0 = 0 ∧ ((rq [5, 0, 0, 0] : Req).side = .spi ∨ (rq [5, 0, 0, 0] : Req).side = .app)))) := by decide +kernel

theorem meets_SessionCommandsAct_15 :
    (asks 0x0C04 (rq [] : Req) (wNet : State) = true) := by decide +kernel

theorem meets_SessionCommandsAct_16 :
    (asks 0x0C05 (rq (List.replicate 32 5) : Req) (wMode .commission (onPower (fun w => { w with energy := 10 ^ 18 }) wNet) : State) = true) ∧
    ((rq (List.replicate 32 5) : Req).payload.all (· == 0) = false) ∧
    (canStore (.netKey (reqOrg 0x0C05 (rq (List.replicate 32 5) : Req)) (rq (List.replicate 32 5) : Req).payload) (wMode .commission (onPower (fun w => { w with energy := 10 ^ 18 }) wNet) : State) = true) := by decide +kernel

theorem meets_SessionCommandsAct_17 :
    (asks 0x0C05 (rq (List.replicate 32 5) : Req) (wMode .commission (onPower (fun w => { w with energy := 0 }) wNet) : State) = true) ∧
    ((rq (List.replicate 32 5) : Req).payload.all (· == 0) = false) ∧
    (canStore (.netKey (reqOrg 0x0C05 (rq (List.replicate 32 5) : Req)) (rq (List.replicate 32 5) : Req).payload) (wMode .commission (onPower (fun w => { w with energy := 0 }) wNet) : State) = false) := by decide +kernel

theorem meets_SessionCommandsAct_18 :
    (asks 0x0C05 (rq (zeros 32) : Req) (wMode .commission wNet : State) = true) ∧
    ((rq (zeros 32) : Req).payload.all (· == 0) = true) := by decide +kernel

theorem meets_FreshetHandshakeActs_1 :
    (comesIn (wFsh : State) (0 : Nat)) ∧
    ((counted 0 (zeros 6) (wFsh) : State) = counted (0 : Nat) (zeros 6 : List Byte) (wFsh : State)) ∧
    (hears (wFsh : State) (0 : Nat) 1 (wFd 1 0 0 0 (zeros 256) : List Byte) = true) ∧
    ((wFsh : State).absorb.reexecuting = false) ∧
    (accepts (wFsh : State) (0 : Nat) = true) := by decide +kernel

theorem meets_FreshetHandshakeActs_2 :
    (comesIn (wFsh : State) (0 : Nat)) ∧
    ((counted 0 (zeros 6) (wFsh) : State) = counted (0 : Nat) (zeros 6 : List Byte) (wFsh : State)) ∧
    ((devicePort (wFsh : State) = false ∨ ((wFsh : State).absorb.reexecuting = false ∧ (hears (wFsh : State) (0 : Nat) 1 ([] : List Byte) = false ∨ accepts (wFsh : State) (0 : Nat) = false)))) := by decide +kernel

theorem meets_FreshetHandshakeActs_3 :
    (comesIn (wHeld : State) (0 : Nat)) ∧
    ((counted 0 (zeros 6) (wHeld) : State) = counted (0 : Nat) (zeros 6 : List Byte) (wHeld : State)) ∧
    (hears (wHeld : State) (0 : Nat) 2 (wFd 2 0 0 0 (zeros 8) : List Byte) = true) ∧
    ((wHeld : State).absorb.reexecuting = false) ∧
    (offering (wHeld : State) = true) ∧
    (forwards (wHeld : State) (0 : Nat) = true) ∧
    ((fshBody (wFd 2 0 0 0 (zeros 8) : List Byte)).length = 8) := by decide +kernel

theorem meets_FreshetHandshakeActs_4 :
    (comesIn (wFsh : State) (0 : Nat)) ∧
    ((counted 0 (zeros 6) (wFsh) : State) = counted (0 : Nat) (zeros 6 : List Byte) (wFsh : State)) ∧
    ((devicePort (wFsh : State) = false ∨ ((wFsh : State).absorb.reexecuting = false ∧ (hears (wFsh : State) (0 : Nat) 2 (wFd 2 0 0 0 (zeros 8) : List Byte) = false ∨ offering (wFsh : State) = false ∨ forwards (wFsh : State) (0 : Nat) = false ∨ (fshBody (wFd 2 0 0 0 (zeros 8) : List Byte)).length ≠ 8)))) := by decide +kernel

theorem meets_FreshetHandshakeActs_5 :
    (comesIn (modShake 0 (fun k => { k with taker := 1, peer := peerOf (zeros 6) [10, 0, 0, 1], clientNonce := zeros 8 }) wFsh : State) (0 : Nat)) ∧
    ((counted 0 (zeros 6) (modShake 0 (fun k => { k with taker := 1, peer := peerOf (zeros 6) [10, 0, 0, 1], clientNonce := zeros 8 }) wFsh) : State) = counted (0 : Nat) (zeros 6 : List Byte) (modShake 0 (fun k => { k with taker := 1, peer := peerOf (zeros 6) [10, 0, 0, 1], clientNonce := zeros 8 }) wFsh : State)) ∧
    (hears (modShake 0 (fun k => { k with taker := 1, peer := peerOf (zeros 6) [10, 0, 0, 1], clientNonce := zeros 8 }) wFsh : State) (0 : Nat) 3 (wFd 3 0 0 0 (zeros 16) : List Byte) = true) ∧
    ((modShake 0 (fun k => { k with taker := 1, peer := peerOf (zeros 6) [10, 0, 0, 1], clientNonce := zeros 8 }) wFsh : State).absorb.reexecuting = false) ∧
    ((shake (modShake 0 (fun k => { k with taker := 1, peer := peerOf (zeros 6) [10, 0, 0, 1], clientNonce := zeros 8 }) wFsh : State) (0 : Nat)).taker = 1) ∧
    ((shake (modShake 0 (fun k => { k with taker := 1, peer := peerOf (zeros 6) [10, 0, 0, 1], clientNonce := zeros 8 }) wFsh : State) (0 : Nat)).peer = peerOf (zeros 6 : List Byte) ([10, 0, 0, 1] : List Byte)) ∧
    ((zeros 16 : List Byte) = fshBody (wFd 3 0 0 0 (zeros 16) : List Byte)) ∧
    ((zeros 16 : List Byte).length = 16) := by decide +kernel

theorem meets_FreshetHandshakeActs_6 :
    (comesIn (wFsh : State) (0 : Nat)) ∧
    ((counted 0 (zeros 6) (wFsh) : State) = counted (0 : Nat) (zeros 6 : List Byte) (wFsh : State)) ∧
    ((devicePort (wFsh : State) = false ∨ ((wFsh : State).absorb.reexecuting = false ∧ (hears (wFsh : State) (0 : Nat) 3 (wFd 3 0 0 0 (zeros 16) : List Byte) = false ∨ (shake (wFsh : State) (0 : Nat)).taker ≠ 1 ∨ (shake (wFsh : State) (0 : Nat)).peer ≠ peerOf (zeros 6 : List Byte) ([10, 0, 0, 1] : List Byte) ∨ (fshBody (wFd 3 0 0 0 (zeros 16) : List Byte)).length ≠ 16)))) := by decide +kernel

theorem meets_FreshetHandshakeActs_7 :
    (comesIn (modShake 0 (fun k => { k with holder := 1, hClientNonce := zeros 8, hDevNonce := zeros 8 }) wFsh : State) (0 : Nat)) ∧
    ((counted 0 (zeros 6) (modShake 0 (fun k => { k with holder := 1, hClientNonce := zeros 8, hDevNonce := zeros 8 }) wFsh) : State) = counted (0 : Nat) (zeros 6 : List Byte) (modShake 0 (fun k => { k with holder := 1, hClientNonce := zeros 8, hDevNonce := zeros 8 }) wFsh : State)) ∧
    (hears (modShake 0 (fun k => { k with holder := 1, hClientNonce := zeros 8, hDevNonce := zeros 8 }) wFsh : State) (0 : Nat) 4 (wFd 4 0 0 0 (zeros 16) : List Byte) = true) ∧
    ((modShake 0 (fun k => { k with holder := 1, hClientNonce := zeros 8, hDevNonce := zeros 8 }) wFsh : State).absorb.reexecuting = false) ∧
    ((shake (modShake 0 (fun k => { k with holder := 1, hClientNonce := zeros 8, hDevNonce := zeros 8 }) wFsh : State) (0 : Nat)).holder = 1) ∧
    ((modShake 0 (fun k => { k with holder := 1, hClientNonce := zeros 8, hDevNonce := zeros 8 }) wFsh : State).sys.devTime ≤ (shake (modShake 0 (fun k => { k with holder := 1, hClientNonce := zeros 8, hDevNonce := zeros 8 }) wFsh : State) (0 : Nat)).hNonceAt + 5000000000) := by decide +kernel

theorem meets_FreshetHandshakeActs_8 :
    (comesIn (wFsh : State) (0 : Nat)) ∧
    ((counted 0 (zeros 6) (wFsh) : State) = counted (0 : Nat) (zeros 6 : List Byte) (wFsh : State)) ∧
    ((devicePort (wFsh : State) = false ∨ ((wFsh : State).absorb.reexecuting = false ∧ (hears (wFsh : State) (0 : Nat) 4 (wFd 4 0 0 0 (zeros 16) : List Byte) = false ∨ (shake (wFsh : State) (0 : Nat)).holder ≠ 1 ∨ (shake (wFsh : State) (0 : Nat)).hNonceAt + 5000000000 < (wFsh : State).sys.devTime)))) := by decide +kernel

theorem meets_FreshetHandshakeActs_9 :
    (comesIn (modShake 0 (fun k => { k with taker := 2, peer := peerOf (zeros 6) [10, 0, 0, 1], clientNonce := zeros 8, devNonce := zeros 8, offer := zeros 256 }) wFsh : State) (0 : Nat)) ∧
    ((counted 0 (zeros 6) (modShake 0 (fun k => { k with taker := 2, peer := peerOf (zeros 6) [10, 0, 0, 1], clientNonce := zeros 8, devNonce := zeros 8, offer := zeros 256 }) wFsh) : State) = counted (0 : Nat) (zeros 6 : List Byte) (modShake 0 (fun k => { k with taker := 2, peer := peerOf (zeros 6) [10, 0, 0, 1], clientNonce := zeros 8, devNonce := zeros 8, offer := zeros 256 }) wFsh : State)) ∧
    (hears (modShake 0 (fun k => { k with taker := 2, peer := peerOf (zeros 6) [10, 0, 0, 1], clientNonce := zeros 8, devNonce := zeros 8, offer := zeros 256 }) wFsh : State) (0 : Nat) 5 (wFd 5 0 0 0 (zeros 20) : List Byte) = true) ∧
    ((modShake 0 (fun k => { k with taker := 2, peer := peerOf (zeros 6) [10, 0, 0, 1], clientNonce := zeros 8, devNonce := zeros 8, offer := zeros 256 }) wFsh : State).absorb.reexecuting = false) ∧
    ((shake (modShake 0 (fun k => { k with taker := 2, peer := peerOf (zeros 6) [10, 0, 0, 1], clientNonce := zeros 8, devNonce := zeros 8, offer := zeros 256 }) wFsh : State) (0 : Nat)).taker = 2) ∧
    ((shake (modShake 0 (fun k => { k with taker := 2, peer := peerOf (zeros 6) [10, 0, 0, 1], clientNonce := zeros 8, devNonce := zeros 8, offer := zeros 256 }) wFsh : State) (0 : Nat)).peer = peerOf (zeros 6 : List Byte) ([10, 0, 0, 1] : List Byte)) ∧
    ((zeros 20 : List Byte) = fshBody (wFd 5 0 0 0 (zeros 20) : List Byte)) ∧
    ((zeros 20 : List Byte).length = 20) := by decide +kernel

theorem meets_FreshetHandshakeActs_10 :
    (comesIn (wFsh : State) (0 : Nat)) ∧
    ((counted 0 (zeros 6) (wFsh) : State) = counted (0 : Nat) (zeros 6 : List Byte) (wFsh : State)) ∧
    ((devicePort (wFsh : State) = false ∨ ((wFsh : State).absorb.reexecuting = false ∧ (hears (wFsh : State) (0 : Nat) 5 (wFd 5 0 0 0 (zeros 20) : List Byte) = false ∨ (shake (wFsh : State) (0 : Nat)).taker ≠ 2 ∨ (shake (wFsh : State) (0 : Nat)).peer ≠ peerOf (zeros 6 : List Byte) ([10, 0, 0, 1] : List Byte) ∨ (fshBody (wFd 5 0 0 0 (zeros 20) : List Byte)).length ≠ 20)))) := by decide +kernel

theorem meets_FreshetHandshakeActs_11 :
    (comesIn (modShake 0 (fun k => { k with holder := 2, hSession := 5 }) wHeld : State) (0 : Nat)) ∧
    ((counted 0 (zeros 6) (modShake 0 (fun k => { k with holder := 2, hSession := 5 }) wHeld) : State) = counted (0 : Nat) (zeros 6 : List Byte) (modShake 0 (fun k => { k with holder := 2, hSession := 5 }) wHeld : State)) ∧
    (hears (modShake 0 (fun k => { k with holder := 2, hSession := 5 }) wHeld : State) (0 : Nat) 6 (wFd 6 5 0 100 [] : List Byte) = true) ∧
    ((modShake 0 (fun k => { k with holder := 2, hSession := 5 }) wHeld : State).absorb.reexecuting = false) ∧
    ((shake (modShake 0 (fun k => { k with holder := 2, hSession := 5 }) wHeld : State) (0 : Nat)).holder = 2) ∧
    (g2 (wFd 6 5 0 100 [] : List Byte) 4 = (shake (modShake 0 (fun k => { k with holder := 2, hSession := 5 }) wHeld : State) (0 : Nat)).hSession) ∧
    (g4 (wFd 6 5 0 100 [] : List Byte) 12 ≤ 8192) ∧
    (offering (modShake 0 (fun k => { k with holder := 2, hSession := 5 }) wHeld : State) = true) := by decide +kernel

theorem meets_FreshetHandshakeActs_12 :
    (comesIn (wHeld : State) (0 : Nat)) ∧
    ((counted 0 (zeros 6) (wHeld) : State) = counted (0 : Nat) (zeros 6 : List Byte) (wHeld : State)) ∧
    ((devicePort (wHeld : State) = false ∨ ((wHeld : State).absorb.reexecuting = false ∧ (hears (wHeld : State) (0 : Nat) 6 (wFd 6 5 0 100 [] : List Byte) = false ∨ (shake (wHeld : State) (0 : Nat)).holder ≠ 2 ∨ g2 (wFd 6 5 0 100 [] : List Byte) 4 ≠ (shake (wHeld : State) (0 : Nat)).hSession ∨ 8192 < g4 (wFd 6 5 0 100 [] : List Byte) 12 ∨ offering (wHeld : State) = false)))) := by decide +kernel

theorem meets_FreshetHandshakeActs_13 :
    (comesIn (modShake 0 (fun x => { x with want := 256, wantEnd := 288 }) (onFsh (fun f => { f with img := { f.img with table := [] } }) wTake) : State) (0 : Nat)) ∧
    ((counted 0 (zeros 6) (modShake 0 (fun x => { x with want := 256, wantEnd := 288 }) (onFsh (fun f => { f with img := { f.img with table := [] } }) wTake)) : State) = counted (0 : Nat) (zeros 6 : List Byte) (modShake 0 (fun x => { x with want := 256, wantEnd := 288 }) (onFsh (fun f => { f with img := { f.img with table := [] } }) wTake) : State)) ∧
    (hears (modShake 0 (fun x => { x with want := 256, wantEnd := 288 }) (onFsh (fun f => { f with img := { f.img with table := [] } }) wTake) : State) (0 : Nat) 7 (wFd 7 5 256 16 (zeros 16) : List Byte) = true) ∧
    ((modShake 0 (fun x => { x with want := 256, wantEnd := 288 }) (onFsh (fun f => { f with img := { f.img with table := [] } }) wTake) : State).absorb.reexecuting = false) ∧
    ((shake (modShake 0 (fun x => { x with want := 256, wantEnd := 288 }) (onFsh (fun f => { f with img := { f.img with table := [] } }) wTake) : State) (0 : Nat)).taker = 3) ∧
    ((shake (modShake 0 (fun x => { x with want := 256, wantEnd := 288 }) (onFsh (fun f => { f with img := { f.img with table := [] } }) wTake) : State) (0 : Nat)).peer = peerOf (zeros 6 : List Byte) ([10, 0, 0, 1] : List Byte)) ∧
    (g2 (wFd 7 5 256 16 (zeros 16) : List Byte) 4 = (shake (modShake 0 (fun x => { x with want := 256, wantEnd := 288 }) (onFsh (fun f => { f with img := { f.img with table := [] } }) wTake) : State) (0 : Nat)).takerSession) ∧
    ((modShake 0 (fun x => { x with want := 256, wantEnd := 288 }) (onFsh (fun f => { f with img := { f.img with table := [] } }) wTake) : State).fsh.lock = some (.line (0 : Nat))) ∧
    ((modShake 0 (fun x => { x with want := 256, wantEnd := 288 }) (onFsh (fun f => { f with img := { f.img with table := [] } }) wTake) : State).fsh.state = 1) ∧
    (blockWaits (modShake 0 (fun x => { x with want := 256, wantEnd := 288 }) (onFsh (fun f => { f with img := { f.img with table := [] } }) wTake) : State) = false) ∧
    ((256 : Nat) = g4 (wFd 7 5 256 16 (zeros 16) : List Byte) 8) ∧
    ((256 : Nat) = (shake (modShake 0 (fun x => { x with want := 256, wantEnd := 288 }) (onFsh (fun f => { f with img := { f.img with table := [] } }) wTake) : State) (0 : Nat)).want) ∧
    ((zeros 16 : List Byte) = fshBody (wFd 7 5 256 16 (zeros 16) : List Byte)) ∧
    ((zeros 16 : List Byte) ≠ []) ∧
    ((zeros 16 : List Byte).length = g4 (wFd 7 5 256 16 (zeros 16) : List Byte) 12) ∧
    ((zeros 16 : List Byte).length ≤ 1024) ∧
    ((256 : Nat) + (zeros 16 : List Byte).length ≤ (shake (modShake 0 (fun x => { x with want := 256, wantEnd := 288 }) (onFsh (fun f => { f with img := { f.img with table := [] } }) wTake) : State) (0 : Nat)).wantEnd) ∧
    ((modShake 0 (fun x => { x with want := 272, wantEnd := 288 }) (counted 0 (zeros 6) (onFsh (fun f => { f with img := { f.img with table := [] } }) wTake)) : State) = modShake (0 : Nat) (fun x => { x with want := (256 : Nat) + (zeros 16 : List Byte).length }) (counted 0 (zeros 6) (modShake 0 (fun x => { x with want := 256, wantEnd := 288 }) (onFsh (fun f => { f with img := { f.img with table := [] } }) wTake)) : State)) ∧
    ((256 : Nat) < payloadAt (modShake 0 (fun x => { x with want := 256, wantEnd := 288 }) (onFsh (fun f => { f with img := { f.img with table := [] } }) wTake) : State).fsh.img) := by decide +kernel

theorem meets_FreshetHandshakeActs_14 :
    (comesIn (wTake : State) (0 : Nat)) ∧
    ((counted 0 (zeros 6) (wTake) : State) = counted (0 : Nat) (zeros 6 : List Byte) (wTake : State)) ∧
    (hears (wTake : State) (0 : Nat) 7 (wFd 7 5 288 16 (zeros 16) : List Byte) = true) ∧
    ((wTake : State).absorb.reexecuting = false) ∧
    ((shake (wTake : State) (0 : Nat)).taker = 3) ∧
    ((shake (wTake : State) (0 : Nat)).peer = peerOf (zeros 6 : List Byte) ([10, 0, 0, 1] : List Byte)) ∧
    (g2 (wFd 7 5 288 16 (zeros 16) : List Byte) 4 = (shake (wTake : State) (0 : Nat)).takerSession) ∧
    ((wTake : State).fsh.lock = some (.line (0 : Nat))) ∧
    ((wTake : State).fsh.state = 1) ∧
    (blockWaits (wTake : State) = false) ∧
    ((288 : Nat) = g4 (wFd 7 5 288 16 (zeros 16) : List Byte) 8) ∧
    ((288 : Nat) = (shake (wTake : State) (0 : Nat)).want) ∧
    ((zeros 16 : List Byte) = fshBody (wFd 7 5 288 16 (zeros 16) : List Byte)) ∧
    ((zeros 16 : List Byte) ≠ []) ∧
    ((zeros 16 : List Byte).length = g4 (wFd 7 5 288 16 (zeros 16) : List Byte) 12) ∧
    ((zeros 16 : List Byte).length ≤ 1024) ∧
    ((288 : Nat) + (zeros 16 : List Byte).length ≤ (shake (wTake : State) (0 : Nat)).wantEnd) ∧
    ((modShake 0 (fun x => { x with want := 304 }) (counted 0 (zeros 6) wTake) : State) = modShake (0 : Nat) (fun x => { x with want := (288 : Nat) + (zeros 16 : List Byte).length }) (counted 0 (zeros 6) (wTake) : State)) ∧
    (payloadAt (wTake : State).fsh.img ≤ (288 : Nat)) := by decide +kernel

theorem meets_FreshetHandshakeActs_15 :
    (comesIn (wTake : State) (0 : Nat)) ∧
    ((counted 0 (zeros 6) (wTake) : State) = counted (0 : Nat) (zeros 6 : List Byte) (wTake : State)) ∧
    ((devicePort (wTake : State) = false ∨ ((wTake : State).absorb.reexecuting = false ∧ (hears (wTake : State) (0 : Nat) 7 (wFd 7 5 300 16 (zeros 16) : List Byte) = false ∨ (shake (wTake : State) (0 : Nat)).taker ≠ 3 ∨ (shake (wTake : State) (0 : Nat)).peer ≠ peerOf (zeros 6 : List Byte) ([10, 0, 0, 1] : List Byte) ∨ g2 (wFd 7 5 300 16 (zeros 16) : List Byte) 4 ≠ (shake (wTake : State) (0 : Nat)).takerSession ∨ (wTake : State).fsh.lock ≠ some (.line (0 : Nat)) ∨ (wTake : State).fsh.state ≠ 1 ∨ blockWaits (wTake : State) = true ∨ g4 (wFd 7 5 300 16 (zeros 16) : List Byte) 8 ≠ (shake (wTake : State) (0 : Nat)).want ∨ fshBody (wFd 7 5 300 16 (zeros 16) : List Byte) = [] ∨ (fshBody (wFd 7 5 300 16 (zeros 16) : List Byte)).length ≠ g4 (wFd 7 5 300 16 (zeros 16) : List Byte) 12 ∨ 1024 < (fshBody (wFd 7 5 300 16 (zeros 16) : List Byte)).length ∨ (shake (wTake : State) (0 : Nat)).wantEnd < g4 (wFd 7 5 300 16 (zeros 16) : List Byte) 8 + (fshBody (wFd 7 5 300 16 (zeros 16) : List Byte)).length)))) := by decide +kernel

theorem meets_FreshetHandshakeActs_16 :
    (comesIn (wTake : State) (0 : Nat)) ∧
    ((counted 0 (zeros 6) (wTake) : State) = counted (0 : Nat) (zeros 6 : List Byte) (wTake : State)) ∧
    (hears (wTake : State) (0 : Nat) 8 (wFd 8 5 0 0 (p2 sBUSY ++ zeros 2) : List Byte) = true) ∧
    ((wTake : State).absorb.reexecuting = false) ∧
    ((fshBody (wFd 8 5 0 0 (p2 sBUSY ++ zeros 2) : List Byte)).length = 4) ∧
    (((shake (wTake : State) (0 : Nat)).taker ≠ 0 ∧ (shake (wTake : State) (0 : Nat)).peer = peerOf (zeros 6 : List Byte) ([10, 0, 0, 1] : List Byte) ∧ g2 (wFd 8 5 0 0 (p2 sBUSY ++ zeros 2) : List Byte) 4 = (shake (wTake : State) (0 : Nat)).takerSession)) := by decide +kernel

theorem meets_FreshetHandshakeActs_17 :
    (comesIn (modShake 0 (fun k => { k with firstOffer := some 0 }) wHeld : State) (0 : Nat)) ∧
    ((counted 0 (zeros 6) (modShake 0 (fun k => { k with firstOffer := some 0 }) wHeld) : State) = counted (0 : Nat) (zeros 6 : List Byte) (modShake 0 (fun k => { k with firstOffer := some 0 }) wHeld : State)) ∧
    (hears (modShake 0 (fun k => { k with firstOffer := some 0 }) wHeld : State) (0 : Nat) 8 (wFd 8 5 0 0 (p2 sBUSY ++ [10, 0]) : List Byte) = true) ∧
    ((modShake 0 (fun k => { k with firstOffer := some 0 }) wHeld : State).absorb.reexecuting = false) ∧
    ((fshBody (wFd 8 5 0 0 (p2 sBUSY ++ [10, 0]) : List Byte)).length = 4) ∧
    (¬((shake (modShake 0 (fun k => { k with firstOffer := some 0 }) wHeld : State) (0 : Nat)).taker ≠ 0 ∧ (shake (modShake 0 (fun k => { k with firstOffer := some 0 }) wHeld : State) (0 : Nat)).peer = peerOf (zeros 6 : List Byte) ([10, 0, 0, 1] : List Byte) ∧ g2 (wFd 8 5 0 0 (p2 sBUSY ++ [10, 0]) : List Byte) 4 = (shake (modShake 0 (fun k => { k with firstOffer := some 0 }) wHeld : State) (0 : Nat)).takerSession)) ∧
    ((shake (modShake 0 (fun k => { k with firstOffer := some 0 }) wHeld : State) (0 : Nat)).firstOffer ≠ none) := by decide +kernel

theorem meets_FreshetHandshakeActs_18 :
    (comesIn (wHeld : State) (0 : Nat)) ∧
    ((counted 0 (zeros 6) (wHeld) : State) = counted (0 : Nat) (zeros 6 : List Byte) (wHeld : State)) ∧
    ((devicePort (wHeld : State) = false ∨ ((wHeld : State).absorb.reexecuting = false ∧ (hears (wHeld : State) (0 : Nat) 8 (wFd 8 5 0 0 (p2 sBUSY ++ [10, 0]) : List Byte) = false ∨ (fshBody (wFd 8 5 0 0 (p2 sBUSY ++ [10, 0]) : List Byte)).length ≠ 4 ∨ (¬((shake (wHeld : State) (0 : Nat)).taker ≠ 0 ∧ (shake (wHeld : State) (0 : Nat)).peer = peerOf (zeros 6 : List Byte) ([10, 0, 0, 1] : List Byte) ∧ g2 (wFd 8 5 0 0 (p2 sBUSY ++ [10, 0]) : List Byte) 4 = (shake (wHeld : State) (0 : Nat)).takerSession) ∧ (shake (wHeld : State) (0 : Nat)).firstOffer = none))))) := by decide +kernel

theorem meets_FreshetHandshakeActs_19 :
    (comesIn (modShake 0 (fun k => { k with firstOffer := some 0 }) wHeld : State) (0 : Nat)) ∧
    ((counted 0 (zeros 6) (modShake 0 (fun k => { k with firstOffer := some 0 }) wHeld) : State) = counted (0 : Nat) (zeros 6 : List Byte) (modShake 0 (fun k => { k with firstOffer := some 0 }) wHeld : State)) ∧
    (hears (modShake 0 (fun k => { k with firstOffer := some 0 }) wHeld : State) (0 : Nat) 9 (wFd 9 0 0 0 (p2 sOK) : List Byte) = true) ∧
    ((modShake 0 (fun k => { k with firstOffer := some 0 }) wHeld : State).absorb.reexecuting = false) ∧
    ((fshBody (wFd 9 0 0 0 (p2 sOK) : List Byte)).length = 2) ∧
    ((shake (modShake 0 (fun k => { k with firstOffer := some 0 }) wHeld : State) (0 : Nat)).firstOffer ≠ none) := by decide +kernel

theorem meets_FreshetHandshakeActs_20 :
    (comesIn (wHeld : State) (0 : Nat)) ∧
    ((counted 0 (zeros 6) (wHeld) : State) = counted (0 : Nat) (zeros 6 : List Byte) (wHeld : State)) ∧
    ((devicePort (wHeld : State) = false ∨ ((wHeld : State).absorb.reexecuting = false ∧ (hears (wHeld : State) (0 : Nat) 9 (wFd 9 0 0 0 (p2 sOK) : List Byte) = false ∨ (fshBody (wFd 9 0 0 0 (p2 sOK) : List Byte)).length ≠ 2 ∨ (shake (wHeld : State) (0 : Nat)).firstOffer = none)))) := by decide +kernel

theorem meets_FreshetHandshakeActs_21 :
    (comesIn (onAbsorb (fun a => { a with reexecuting := true }) wFsh : State) (0 : Nat)) ∧
    ((counted 0 (zeros 6) (onAbsorb (fun a => { a with reexecuting := true }) wFsh) : State) = counted (0 : Nat) (zeros 6 : List Byte) (onAbsorb (fun a => { a with reexecuting := true }) wFsh : State)) ∧
    (devicePort (onAbsorb (fun a => { a with reexecuting := true }) wFsh : State) = true) ∧
    ((onAbsorb (fun a => { a with reexecuting := true }) wFsh : State).absorb.reexecuting = true) ∧
    ((max 64 (18 + (28 + (wFd 1 0 0 0 []).length)) : Nat) = max 64 (18 + (28 + (wFd 1 0 0 0 [] : List Byte).length))) := by decide +kernel

theorem meets_FreshetHandshakeActs_22 :
    (switchOn (onNet (fun n => { n with blocked := [(0, 0)] }) wFsh : State) = true) ∧
    ((0 : Nat) ≤ 2) ∧
    (portBlocked (onNet (fun n => { n with blocked := [(0, 0)] }) wFsh : State) (0 : Nat) = true) := by decide +kernel

theorem meets_FreshetHandshakeActs_23 :
    ((switchOn (wFsh : State) = false ∨ 2 < (3 : Nat))) := by decide +kernel

theorem meets_FreshetHandshakeActs_24 :
    (devicePort (wHeld : State) = true) ∧
    ((0 : Nat) ≤ 1) ∧
    ((port (wHeld : State) (0 : Nat)).link = true) ∧
    (offering (wHeld : State) = true) ∧
    (forwards (wHeld : State) (0 : Nat) = true) ∧
    ((shake (wHeld : State) (0 : Nat)).stopped = false) ∧
    ((shake (wHeld : State) (0 : Nat)).notBefore ≤ (wHeld : State).sys.devTime) := by decide +kernel

theorem meets_FreshetHandshakeActs_25 :
    ((devicePort (wFsh : State) = false ∨ 1 < (0 : Nat) ∨ (port (wFsh : State) (0 : Nat)).link = false ∨ offering (wFsh : State) = false ∨ forwards (wFsh : State) (0 : Nat) = false ∨ (shake (wFsh : State) (0 : Nat)).stopped = true ∨ (wFsh : State).sys.devTime < (shake (wFsh : State) (0 : Nat)).notBefore)) := by decide +kernel

theorem meets_FreshetActivationActs_1 :
    ((onFsh (fun f => { f with state := 2, img := { kind := 4, version := [1, 0, 0], arb := 3 } }) wFsh : State).fsh.state = 2) ∧
    (served (onFsh (fun f => { f with state := 2, img := { kind := 4, version := [1, 0, 0], arb := 3 } }) wFsh : State) = true) ∧
    (({ kind := 4, version := [1, 0, 0], arb := 3 } : Img) = (onFsh (fun f => { f with state := 2, img := { kind := 4, version := [1, 0, 0], arb := 3 } }) wFsh : State).fsh.img) := by decide +kernel

theorem meets_FreshetActivationActs_2 :
    (((wFsh : State).fsh.state ≠ 2 ∨ served (wFsh : State) = false)) := by decide +kernel

theorem meets_FreshetActivationActs_3 :
    ((onFsh (fun f => { f with lock := some (.side .spi), state := 1 }) (onSys (fun y => { y with devTime := 60000000000 }) wFsh) : State).fsh.lock = some (.side (.spi : Side))) ∧
    ((onFsh (fun f => { f with lock := some (.side .spi), state := 1 }) (onSys (fun y => { y with devTime := 60000000000 }) wFsh) : State).fsh.lastBlock + 60000000000 ≤ (onFsh (fun f => { f with lock := some (.side .spi), state := 1 }) (onSys (fun y => { y with devTime := 60000000000 }) wFsh) : State).sys.devTime) := by decide +kernel

theorem meets_FreshetActivationActs_4 :
    ((onFsh (fun f => { f with lock := some (.line 1), state := 1 }) (onSys (fun y => { y with devTime := 60000000000 }) wFsh) : State).fsh.lock = some (.line (1 : Nat))) ∧
    ((onFsh (fun f => { f with lock := some (.line 1), state := 1 }) (onSys (fun y => { y with devTime := 60000000000 }) wFsh) : State).fsh.lastBlock + 60000000000 ≤ (onFsh (fun f => { f with lock := some (.line 1), state := 1 }) (onSys (fun y => { y with devTime := 60000000000 }) wFsh) : State).sys.devTime) := by decide +kernel

theorem meets_FreshetActivationActs_5 :
    (((wFsh : State).fsh.lock = none ∨ (wFsh : State).sys.devTime < (wFsh : State).fsh.lastBlock + 60000000000)) := by decide +kernel

theorem meets_FreshetActivationActs_6 :
    ((onFsh (fun f => { f with state := 1 }) wFsh : State).fsh.state = 1) ∧
    ((onFsh (fun f => { f with state := 1 }) wFsh : State).fsh.lock = none) := by decide +kernel

theorem meets_FreshetActivationActs_7 :
    (((wFsh : State).fsh.state ≠ 1 ∨ (wFsh : State).fsh.lock ≠ none)) := by decide +kernel

theorem meets_FreshetActivationActs_8 :
    ((onFsh (fun f => { f with state := 3, grantHeld := true, grantKinds := 15, img := { kind := 2, arb := 3, blocks := 1 } }) wFsh : State).fsh.state = 3) ∧
    ((onFsh (fun f => { f with state := 3, grantHeld := true, grantKinds := 15, img := { kind := 2, arb := 3, blocks := 1 } }) wFsh : State).sys.ready = true) ∧
    (windowClear (onFsh (fun f => { f with state := 3, grantHeld := true, grantKinds := 15, img := { kind := 2, arb := 3, blocks := 1 } }) wFsh : State) = true) ∧
    (kindReady (onFsh (fun f => { f with state := 3, grantHeld := true, grantKinds := 15, img := { kind := 2, arb := 3, blocks := 1 } }) wFsh : State) = true) ∧
    (sealWaits (onFsh (fun f => { f with state := 3, grantHeld := true, grantKinds := 15, img := { kind := 2, arb := 3, blocks := 1 } }) wFsh : State) = false) ∧
    (({ kind := 2, arb := 3, blocks := 1 } : Img) = (onFsh (fun f => { f with state := 3, grantHeld := true, grantKinds := 15, img := { kind := 2, arb := 3, blocks := 1 } }) wFsh : State).fsh.img) := by decide +kernel

theorem meets_FreshetActivationActs_9 :
    ((onIsland (fun i => { i with sealPin := false }) (onSys (fun y => { y with legal := true }) (onFsh (fun f => { f with state := 3, grantHeld := true, grantKinds := 15, img := { kind := 3, arb := 3, blocks := 1 } }) wFsh)) : State).fsh.state = 3) ∧
    ((onIsland (fun i => { i with sealPin := false }) (onSys (fun y => { y with legal := true }) (onFsh (fun f => { f with state := 3, grantHeld := true, grantKinds := 15, img := { kind := 3, arb := 3, blocks := 1 } }) wFsh)) : State).sys.ready = true) ∧
    (windowClear (onIsland (fun i => { i with sealPin := false }) (onSys (fun y => { y with legal := true }) (onFsh (fun f => { f with state := 3, grantHeld := true, grantKinds := 15, img := { kind := 3, arb := 3, blocks := 1 } }) wFsh)) : State) = true) ∧
    (kindReady (onIsland (fun i => { i with sealPin := false }) (onSys (fun y => { y with legal := true }) (onFsh (fun f => { f with state := 3, grantHeld := true, grantKinds := 15, img := { kind := 3, arb := 3, blocks := 1 } }) wFsh)) : State) = true) ∧
    (sealWaits (onIsland (fun i => { i with sealPin := false }) (onSys (fun y => { y with legal := true }) (onFsh (fun f => { f with state := 3, grantHeld := true, grantKinds := 15, img := { kind := 3, arb := 3, blocks := 1 } }) wFsh)) : State) = true) := by decide +kernel

theorem meets_FreshetActivationActs_10 :
    (((wFsh : State).fsh.state ≠ 3 ∨ (wFsh : State).sys.ready = false ∨ windowClear (wFsh : State) = false ∨ kindReady (wFsh : State) = false)) := by decide +kernel

theorem meets_FreshetActivationActs_11 :
    (((wMode .boot (onFsh (fun f => { f with journal := 4, norBlocks := 2, blockTries := 0 }) (onPower (fun p => { p with stores := [{ cls := 14, act := .freshetBlock 0, admitted := true }] }) wFsh)) : State).sys.mode = .boot ∨ (wMode .boot (onFsh (fun f => { f with journal := 4, norBlocks := 2, blockTries := 0 }) (onPower (fun p => { p with stores := [{ cls := 14, act := .freshetBlock 0, admitted := true }] }) wFsh)) : State).sys.mode = .recovery)) ∧
    (loaderStore (wMode .boot (onFsh (fun f => { f with journal := 4, norBlocks := 2, blockTries := 0 }) (onPower (fun p => { p with stores := [{ cls := 14, act := .freshetBlock 0, admitted := true }] }) wFsh)) : State) = some ((0 : Nat), (0 : Nat))) ∧
    ((onAbsorb (fun a => { a with norErases := tmod a.norErases 0 (· + 1) }) (dropStore 0 (wMode .boot (onFsh (fun f => { f with journal := 4, norBlocks := 2, blockTries := 0 }) (onPower (fun p => { p with stores := [{ cls := 14, act := .freshetBlock 0, admitted := true }] }) wFsh)))) : State) = onAbsorb (fun a => { a with norErases := tmod a.norErases (0 : Nat) (· + 1) }) (dropStore (0 : Nat) (wMode .boot (onFsh (fun f => { f with journal := 4, norBlocks := 2, blockTries := 0 }) (onPower (fun p => { p with stores := [{ cls := 14, act := .freshetBlock 0, admitted := true }] }) wFsh)) : State))) ∧
    ((wMode .boot (onFsh (fun f => { f with journal := 4, norBlocks := 2, blockTries := 0 }) (onPower (fun p => { p with stores := [{ cls := 14, act := .freshetBlock 0, admitted := true }] }) wFsh)) : State).fsh.journal = 4) := by decide +kernel

theorem meets_FreshetActivationActs_12 :
    (((wMode .boot (onFsh (fun f => { f with journal := 4, norBlocks := 2, blockTries := 1 }) (onPower (fun p => { p with stores := [{ cls := 14, act := .freshetBlock 0, admitted := true }] }) wFsh)) : State).sys.mode = .boot ∨ (wMode .boot (onFsh (fun f => { f with journal := 4, norBlocks := 2, blockTries := 1 }) (onPower (fun p => { p with stores := [{ cls := 14, act := .freshetBlock 0, admitted := true }] }) wFsh)) : State).sys.mode = .recovery)) ∧
    (loaderStore (wMode .boot (onFsh (fun f => { f with journal := 4, norBlocks := 2, blockTries := 1 }) (onPower (fun p => { p with stores := [{ cls := 14, act := .freshetBlock 0, admitted := true }] }) wFsh)) : State) = some ((0 : Nat), (0 : Nat))) ∧
    ((onAbsorb (fun a => { a with norErases := tmod a.norErases 0 (· + 1) }) (dropStore 0 (wMode .boot (onFsh (fun f => { f with journal := 4, norBlocks := 2, blockTries := 1 }) (onPower (fun p => { p with stores := [{ cls := 14, act := .freshetBlock 0, admitted := true }] }) wFsh)))) : State) = onAbsorb (fun a => { a with norErases := tmod a.norErases (0 : Nat) (· + 1) }) (dropStore (0 : Nat) (wMode .boot (onFsh (fun f => { f with journal := 4, norBlocks := 2, blockTries := 1 }) (onPower (fun p => { p with stores := [{ cls := 14, act := .freshetBlock 0, admitted := true }] }) wFsh)) : State))) ∧
    ((wMode .boot (onFsh (fun f => { f with journal := 4, norBlocks := 2, blockTries := 1 }) (onPower (fun p => { p with stores := [{ cls := 14, act := .freshetBlock 0, admitted := true }] }) wFsh)) : State).fsh.journal = 4) ∧
    ((wMode .boot (onFsh (fun f => { f with journal := 4, norBlocks := 2, blockTries := 1 }) (onPower (fun p => { p with stores := [{ cls := 14, act := .freshetBlock 0, admitted := true }] }) wFsh)) : State).fsh.blockTries < 2) := by decide +kernel

theorem meets_FreshetActivationActs_13 :
    (((wMode .boot (onFsh (fun f => { f with journal := 4, norBlocks := 2, blockTries := 2 }) (onPower (fun p => { p with stores := [{ cls := 14, act := .freshetBlock 0, admitted := true }] }) wFsh)) : State).sys.mode = .boot ∨ (wMode .boot (onFsh (fun f => { f with journal := 4, norBlocks := 2, blockTries := 2 }) (onPower (fun p => { p with stores := [{ cls := 14, act := .freshetBlock 0, admitted := true }] }) wFsh)) : State).sys.mode = .recovery)) ∧
    (loaderStore (wMode .boot (onFsh (fun f => { f with journal := 4, norBlocks := 2, blockTries := 2 }) (onPower (fun p => { p with stores := [{ cls := 14, act := .freshetBlock 0, admitted := true }] }) wFsh)) : State) = some ((0 : Nat), (0 : Nat))) ∧
    ((onAbsorb (fun a => { a with norErases := tmod a.norErases 0 (· + 1) }) (dropStore 0 (wMode .boot (onFsh (fun f => { f with journal := 4, norBlocks := 2, blockTries := 2 }) (onPower (fun p => { p with stores := [{ cls := 14, act := .freshetBlock 0, admitted := true }] }) wFsh)))) : State) = onAbsorb (fun a => { a with norErases := tmod a.norErases (0 : Nat) (· + 1) }) (dropStore (0 : Nat) (wMode .boot (onFsh (fun f => { f with journal := 4, norBlocks := 2, blockTries := 2 }) (onPower (fun p => { p with stores := [{ cls := 14, act := .freshetBlock 0, admitted := true }] }) wFsh)) : State))) ∧
    ((wMode .boot (onFsh (fun f => { f with journal := 4, norBlocks := 2, blockTries := 2 }) (onPower (fun p => { p with stores := [{ cls := 14, act := .freshetBlock 0, admitted := true }] }) wFsh)) : State).fsh.journal = 4) ∧
    (2 ≤ (wMode .boot (onFsh (fun f => { f with journal := 4, norBlocks := 2, blockTries := 2 }) (onPower (fun p => { p with stores := [{ cls := 14, act := .freshetBlock 0, admitted := true }] }) wFsh)) : State).fsh.blockTries) := by decide +kernel

theorem meets_FreshetActivationActs_14 :
    (((wMode .boot (onFsh (fun f => { f with journal := 8, norBlocks := 2, blockTries := 0 }) (onPower (fun p => { p with stores := [{ cls := 14, act := .freshetBlock 0, admitted := true }] }) wFsh)) : State).sys.mode = .boot ∨ (wMode .boot (onFsh (fun f => { f with journal := 8, norBlocks := 2, blockTries := 0 }) (onPower (fun p => { p with stores := [{ cls := 14, act := .freshetBlock 0, admitted := true }] }) wFsh)) : State).sys.mode = .recovery)) ∧
    (loaderStore (wMode .boot (onFsh (fun f => { f with journal := 8, norBlocks := 2, blockTries := 0 }) (onPower (fun p => { p with stores := [{ cls := 14, act := .freshetBlock 0, admitted := true }] }) wFsh)) : State) = some ((0 : Nat), (0 : Nat))) ∧
    ((onAbsorb (fun a => { a with norErases := tmod a.norErases 0 (· + 1) }) (dropStore 0 (wMode .boot (onFsh (fun f => { f with journal := 8, norBlocks := 2, blockTries := 0 }) (onPower (fun p => { p with stores := [{ cls := 14, act := .freshetBlock 0, admitted := true }] }) wFsh)))) : State) = onAbsorb (fun a => { a with norErases := tmod a.norErases (0 : Nat) (· + 1) }) (dropStore (0 : Nat) (wMode .boot (onFsh (fun f => { f with journal := 8, norBlocks := 2, blockTries := 0 }) (onPower (fun p => { p with stores := [{ cls := 14, act := .freshetBlock 0, admitted := true }] }) wFsh)) : State))) ∧
    ((wMode .boot (onFsh (fun f => { f with journal := 8, norBlocks := 2, blockTries := 0 }) (onPower (fun p => { p with stores := [{ cls := 14, act := .freshetBlock 0, admitted := true }] }) wFsh)) : State).fsh.journal = 8) := by decide +kernel

theorem meets_FreshetActivationActs_15 :
    (((wMode .boot (onFsh (fun f => { f with journal := 8, norBlocks := 2, blockTries := 0 }) (onPower (fun p => { p with stores := [{ cls := 14, act := .freshetBlock 0, admitted := true }] }) wFsh)) : State).sys.mode = .boot ∨ (wMode .boot (onFsh (fun f => { f with journal := 8, norBlocks := 2, blockTries := 0 }) (onPower (fun p => { p with stores := [{ cls := 14, act := .freshetBlock 0, admitted := true }] }) wFsh)) : State).sys.mode = .recovery)) ∧
    (loaderStore (wMode .boot (onFsh (fun f => { f with journal := 8, norBlocks := 2, blockTries := 0 }) (onPower (fun p => { p with stores := [{ cls := 14, act := .freshetBlock 0, admitted := true }] }) wFsh)) : State) = some ((0 : Nat), (0 : Nat))) ∧
    ((onAbsorb (fun a => { a with norErases := tmod a.norErases 0 (· + 1) }) (dropStore 0 (wMode .boot (onFsh (fun f => { f with journal := 8, norBlocks := 2, blockTries := 0 }) (onPower (fun p => { p with stores := [{ cls := 14, act := .freshetBlock 0, admitted := true }] }) wFsh)))) : State) = onAbsorb (fun a => { a with norErases := tmod a.norErases (0 : Nat) (· + 1) }) (dropStore (0 : Nat) (wMode .boot (onFsh (fun f => { f with journal := 8, norBlocks := 2, blockTries := 0 }) (onPower (fun p => { p with stores := [{ cls := 14, act := .freshetBlock 0, admitted := true }] }) wFsh)) : State))) ∧
    ((wMode .boot (onFsh (fun f => { f with journal := 8, norBlocks := 2, blockTries := 0 }) (onPower (fun p => { p with stores := [{ cls := 14, act := .freshetBlock 0, admitted := true }] }) wFsh)) : State).fsh.journal = 8) := by decide +kernel

theorem meets_FreshetActivationActs_16 :
    (((wMode .boot (onFsh (fun f => { f with journal := 0, norBlocks := 2, blockTries := 0 }) (onPower (fun p => { p with stores := [{ cls := 14, act := .freshetBlock 0, admitted := true }] }) wFsh)) : State).sys.mode = .boot ∨ (wMode .boot (onFsh (fun f => { f with journal := 0, norBlocks := 2, blockTries := 0 }) (onPower (fun p => { p with stores := [{ cls := 14, act := .freshetBlock 0, admitted := true }] }) wFsh)) : State).sys.mode = .recovery)) ∧
    (loaderStore (wMode .boot (onFsh (fun f => { f with journal := 0, norBlocks := 2, blockTries := 0 }) (onPower (fun p => { p with stores := [{ cls := 14, act := .freshetBlock 0, admitted := true }] }) wFsh)) : State) = some ((0 : Nat), (0 : Nat))) ∧
    ((onAbsorb (fun a => { a with norErases := tmod a.norErases 0 (· + 1) }) (dropStore 0 (wMode .boot (onFsh (fun f => { f with journal := 0, norBlocks := 2, blockTries := 0 }) (onPower (fun p => { p with stores := [{ cls := 14, act := .freshetBlock 0, admitted := true }] }) wFsh)))) : State) = onAbsorb (fun a => { a with norErases := tmod a.norErases (0 : Nat) (· + 1) }) (dropStore (0 : Nat) (wMode .boot (onFsh (fun f => { f with journal := 0, norBlocks := 2, blockTries := 0 }) (onPower (fun p => { p with stores := [{ cls := 14, act := .freshetBlock 0, admitted := true }] }) wFsh)) : State))) ∧
    ((wMode .boot (onFsh (fun f => { f with journal := 0, norBlocks := 2, blockTries := 0 }) (onPower (fun p => { p with stores := [{ cls := 14, act := .freshetBlock 0, admitted := true }] }) wFsh)) : State).fsh.journal ≠ 4) ∧
    ((wMode .boot (onFsh (fun f => { f with journal := 0, norBlocks := 2, blockTries := 0 }) (onPower (fun p => { p with stores := [{ cls := 14, act := .freshetBlock 0, admitted := true }] }) wFsh)) : State).fsh.journal ≠ 8) := by decide +kernel

theorem meets_FreshetActivationActs_17 :
    ((((wFsh : State).sys.mode ≠ .boot ∧ (wFsh : State).sys.mode ≠ .recovery) ∨ loaderStore (wFsh : State) = none)) := by decide +kernel

theorem meets_FreshetActivationActs_18 :
    ((onSys (fun y => { y with calTime := 10 }) (onFsh (fun f => { f with state := 3, img := { kind := 1 }, grantHeld := true, grantKinds := 1, notAfter := 5, grantUsed := false }) wFsh) : State).fsh.grantHeld = true) ∧
    ((onSys (fun y => { y with calTime := 10 }) (onFsh (fun f => { f with state := 3, img := { kind := 1 }, grantHeld := true, grantKinds := 1, notAfter := 5, grantUsed := false }) wFsh) : State).sys.ready = true) ∧
    ((onSys (fun y => { y with calTime := 10 }) (onFsh (fun f => { f with state := 3, img := { kind := 1 }, grantHeld := true, grantKinds := 1, notAfter := 5, grantUsed := false }) wFsh) : State).fsh.notAfter ≠ 0) ∧
    ((onSys (fun y => { y with calTime := 10 }) (onFsh (fun f => { f with state := 3, img := { kind := 1 }, grantHeld := true, grantKinds := 1, notAfter := 5, grantUsed := false }) wFsh) : State).fsh.notAfter ≤ (onSys (fun y => { y with calTime := 10 }) (onFsh (fun f => { f with state := 3, img := { kind := 1 }, grantHeld := true, grantKinds := 1, notAfter := 5, grantUsed := false }) wFsh) : State).sys.calTime) ∧
    ((onSys (fun y => { y with calTime := 10 }) (onFsh (fun f => { f with state := 3, img := { kind := 1 }, grantHeld := true, grantKinds := 1, notAfter := 5, grantUsed := false }) wFsh) : State).fsh.grantUsed = false) ∧
    ((onSys (fun y => { y with calTime := 10 }) (onFsh (fun f => { f with state := 3, img := { kind := 1 }, grantHeld := true, grantKinds := 1, notAfter := 5, grantUsed := false }) wFsh) : State).fsh.state = 3) ∧
    (bitOf (onSys (fun y => { y with calTime := 10 }) (onFsh (fun f => { f with state := 3, img := { kind := 1 }, grantHeld := true, grantKinds := 1, notAfter := 5, grantUsed := false }) wFsh) : State).fsh.grantKinds ((onSys (fun y => { y with calTime := 10 }) (onFsh (fun f => { f with state := 3, img := { kind := 1 }, grantHeld := true, grantKinds := 1, notAfter := 5, grantUsed := false }) wFsh) : State).fsh.img.kind - 1) = true) := by decide +kernel

theorem meets_FreshetActivationActs_19 :
    ((onSys (fun y => { y with calTime := 10 }) (onFsh (fun f => { f with grantHeld := true, grantKinds := 1, notAfter := 5, grantUsed := true }) wFsh) : State).fsh.grantHeld = true) ∧
    ((onSys (fun y => { y with calTime := 10 }) (onFsh (fun f => { f with grantHeld := true, grantKinds := 1, notAfter := 5, grantUsed := true }) wFsh) : State).sys.ready = true) ∧
    ((onSys (fun y => { y with calTime := 10 }) (onFsh (fun f => { f with grantHeld := true, grantKinds := 1, notAfter := 5, grantUsed := true }) wFsh) : State).fsh.notAfter ≠ 0) ∧
    ((onSys (fun y => { y with calTime := 10 }) (onFsh (fun f => { f with grantHeld := true, grantKinds := 1, notAfter := 5, grantUsed := true }) wFsh) : State).fsh.notAfter ≤ (onSys (fun y => { y with calTime := 10 }) (onFsh (fun f => { f with grantHeld := true, grantKinds := 1, notAfter := 5, grantUsed := true }) wFsh) : State).sys.calTime) ∧
    (((onSys (fun y => { y with calTime := 10 }) (onFsh (fun f => { f with grantHeld := true, grantKinds := 1, notAfter := 5, grantUsed := true }) wFsh) : State).fsh.grantUsed = true ∨ (onSys (fun y => { y with calTime := 10 }) (onFsh (fun f => { f with grantHeld := true, grantKinds := 1, notAfter := 5, grantUsed := true }) wFsh) : State).fsh.state ≠ 3 ∨ bitOf (onSys (fun y => { y with calTime := 10 }) (onFsh (fun f => { f with grantHeld := true, grantKinds := 1, notAfter := 5, grantUsed := true }) wFsh) : State).fsh.grantKinds ((onSys (fun y => { y with calTime := 10 }) (onFsh (fun f => { f with grantHeld := true, grantKinds := 1, notAfter := 5, grantUsed := true }) wFsh) : State).fsh.img.kind - 1) = false)) := by decide +kernel

theorem meets_FreshetActivationActs_20 :
    (((wFsh : State).fsh.grantHeld = false ∨ (wFsh : State).sys.ready = false ∨ (wFsh : State).fsh.notAfter = 0 ∨ (wFsh : State).sys.calTime < (wFsh : State).fsh.notAfter)) := by decide +kernel

theorem meets_FreshetActivationActs_21 :
    ((onFsh (fun f => { f with state := 5, trialLeft := 1800 }) wFsh : State).fsh.state = 5) ∧
    ((onFsh (fun f => { f with state := 5, trialLeft := 1800 }) wFsh : State).sys.ready = true) ∧
    (60 < (onFsh (fun f => { f with state := 5, trialLeft := 1800 }) wFsh : State).fsh.trialLeft) := by decide +kernel

theorem meets_FreshetActivationActs_22 :
    ((onFsh (fun f => { f with state := 5, trialLeft := 60 }) wFsh : State).fsh.state = 5) ∧
    ((onFsh (fun f => { f with state := 5, trialLeft := 60 }) wFsh : State).sys.ready = true) ∧
    ((onFsh (fun f => { f with state := 5, trialLeft := 60 }) wFsh : State).fsh.trialLeft ≤ 60) := by decide +kernel

theorem meets_FreshetActivationActs_23 :
    ((onFsh (fun f => { f with state := 5, trialBoots := 2 }) wFsh : State).fsh.state = 5) ∧
    ((onFsh (fun f => { f with state := 5, trialBoots := 2 }) wFsh : State).sys.ready = true) := by decide +kernel

theorem meets_FreshetActivationActs_24 :
    (((wFsh : State).fsh.state ≠ 5 ∨ (wFsh : State).sys.ready = false)) := by decide +kernel

theorem meets_FreshetActivationActs_25 :
    ((onSys (fun y => { y with appRunning := true }) (onFsh (fun f => { f with state := 5, trialBoots := 0, img := { kind := 4 } }) wFsh) : State).sys.appRunning = true) ∧
    (onTrial (onSys (fun y => { y with appRunning := true }) (onFsh (fun f => { f with state := 5, trialBoots := 0, img := { kind := 4 } }) wFsh) : State) 4 = true) ∧
    ((onSys (fun y => { y with appRunning := true }) (onFsh (fun f => { f with state := 5, trialBoots := 0, img := { kind := 4 } }) wFsh) : State).fsh.trialBoots < maxTrialBoots (onSys (fun y => { y with appRunning := true }) (onFsh (fun f => { f with state := 5, trialBoots := 0, img := { kind := 4 } }) wFsh) : State)) := by decide +kernel

theorem meets_FreshetActivationActs_26 :
    ((onSys (fun y => { y with appRunning := true }) (onFsh (fun f => { f with state := 5, trialBoots := 3, img := { kind := 4 } }) wFsh) : State).sys.appRunning = true) ∧
    (onTrial (onSys (fun y => { y with appRunning := true }) (onFsh (fun f => { f with state := 5, trialBoots := 3, img := { kind := 4 } }) wFsh) : State) 4 = true) ∧
    (maxTrialBoots (onSys (fun y => { y with appRunning := true }) (onFsh (fun f => { f with state := 5, trialBoots := 3, img := { kind := 4 } }) wFsh) : State) ≤ (onSys (fun y => { y with appRunning := true }) (onFsh (fun f => { f with state := 5, trialBoots := 3, img := { kind := 4 } }) wFsh) : State).fsh.trialBoots) := by decide +kernel

theorem meets_FreshetActivationActs_27 :
    ((onSys (fun y => { y with appRunning := true }) (onFsh (fun f => { f with state := 0, trialBoots := 0, img := { kind := 4 } }) wFsh) : State).sys.appRunning = true) ∧
    (onTrial (onSys (fun y => { y with appRunning := true }) (onFsh (fun f => { f with state := 0, trialBoots := 0, img := { kind := 4 } }) wFsh) : State) 4 = false) := by decide +kernel

theorem meets_FreshetActivationActs_28 :
    ((wFsh : State).sys.appRunning = false) := by decide +kernel

theorem meets_FreshetActivationActs_29 :
    ((onFsh (fun f => { f with state := 4, bankReady := true, img := { kind := 3 } }) wFsh : State).fsh.state = 4) ∧
    ((onFsh (fun f => { f with state := 4, bankReady := true, img := { kind := 3 } }) wFsh : State).fsh.img.kind = 3) ∧
    ((onFsh (fun f => { f with state := 4, bankReady := true, img := { kind := 3 } }) wFsh : State).fsh.bankReady = true) := by decide +kernel

theorem meets_FreshetActivationActs_30 :
    (((wFsh : State).fsh.state ≠ 4 ∨ (wFsh : State).fsh.img.kind ≠ 3 ∨ (wFsh : State).fsh.bankReady = false)) := by decide +kernel

theorem meets_FreshetCommandsAct_1 :
    (asks 0x0D01 (rq [] : Req) (wFsh : State) = true) ∧
    ((wFsh.fsh : Freshet) = (wFsh : State).fsh) := by decide +kernel

theorem meets_FreshetCommandsAct_2 :
    (asks 0x0D02 (rq (zeros 256) : Req) (wCfg [mkObj 6 0 true (p1 192 ++ p1 168 ++ p1 0 ++ p1 10 ++ zeros 11 ++ [1] ++ zeros 48)] wRun : State) = true) ∧
    ((wCfg [mkObj 6 0 true (p1 192 ++ p1 168 ++ p1 0 ++ p1 10 ++ zeros 11 ++ [1] ++ zeros 48)] wRun : State).sys.mode ≠ .recovery) ∧
    (accepts (wCfg [mkObj 6 0 true (p1 192 ++ p1 168 ++ p1 0 ++ p1 10 ++ zeros 11 ++ [1] ++ zeros 48)] wRun : State) 2 = false) := by decide +kernel

theorem meets_FreshetCommandsAct_3 :
    (asks 0x0D02 (rq ([0x52, 0x46, 0x53, 0x48] ++ p2 1 ++ p1 4 ++ p1 3 ++ zeros 8 ++ p4 100 ++ p4 1 ++ zeros 232) : Req) (wFsh : State) = true) ∧
    (((wFsh : State).sys.mode = .recovery ∨ accepts (wFsh : State) 2 = true)) ∧
    (shapeOk ((rq ([0x52, 0x46, 0x53, 0x48] ++ p2 1 ++ p1 4 ++ p1 3 ++ zeros 8 ++ p4 100 ++ p4 1 ++ zeros 232) : Req).payload.take 256) = true) ∧
    ((rq ([0x52, 0x46, 0x53, 0x48] ++ p2 1 ++ p1 4 ++ p1 3 ++ zeros 8 ++ p4 100 ++ p4 1 ++ zeros 232) : Req).payload.length ≠ 256 + 32 * g4 ((rq ([0x52, 0x46, 0x53, 0x48] ++ p2 1 ++ p1 4 ++ p1 3 ++ zeros 8 ++ p4 100 ++ p4 1 ++ zeros 232) : Req).payload.take 256) 20) := by decide +kernel

theorem meets_FreshetCommandsAct_4 :
    (asks 0x0D02 (rq (zeros 6 ++ [4] ++ zeros 249) : Req) (wMode .recovery wFsh : State) = true) ∧
    ((wMode .recovery wFsh : State).sys.mode = .recovery) ∧
    (¬(shapeOk ((rq (zeros 6 ++ [4] ++ zeros 249) : Req).payload.take 256) = true ∧ (rq (zeros 6 ++ [4] ++ zeros 249) : Req).payload.length ≠ 256 + 32 * g4 ((rq (zeros 6 ++ [4] ++ zeros 249) : Req).payload.take 256) 20)) ∧
    (2 < g1 (rq (zeros 6 ++ [4] ++ zeros 249) : Req).payload 6) := by decide +kernel

theorem meets_FreshetCommandsAct_5 :
    (asks 0x0D02 (rq (zeros 256) : Req) (wFsh : State) = true) ∧
    (((wFsh : State).sys.mode = .recovery ∨ accepts (wFsh : State) 2 = true)) ∧
    (¬(shapeOk ((rq (zeros 256) : Req).payload.take 256) = true ∧ (rq (zeros 256) : Req).payload.length ≠ 256 + 32 * g4 ((rq (zeros 256) : Req).payload.take 256) 20)) ∧
    (¬((wFsh : State).sys.mode = .recovery ∧ 2 < g1 ((rq (zeros 256) : Req).payload.take 256) 6)) := by decide +kernel

theorem meets_FreshetCommandsAct_6 :
    (asks 0x0D03 (rq (p4 0 ++ p4 8 ++ zeros 16) : Req) (wOwn : State) = true) ∧
    (((wOwn : State).fsh.lock ≠ some (.side (rq (p4 0 ++ p4 8 ++ zeros 16) : Req).side) ∨ (wOwn : State).fsh.state ≠ 1 ∨ (wOwn : State).fsh.img.blocks ≤ g4 (rq (p4 0 ++ p4 8 ++ zeros 16) : Req).payload 0 ∨ g4 (rq (p4 0 ++ p4 8 ++ zeros 16) : Req).payload 4 % 16 ≠ 0 ∨ blockLen (wOwn : State).fsh.img (g4 (rq (p4 0 ++ p4 8 ++ zeros 16) : Req).payload 0) < g4 (rq (p4 0 ++ p4 8 ++ zeros 16) : Req).payload 4 + ((rq (p4 0 ++ p4 8 ++ zeros 16) : Req).payload.drop 8).length)) := by decide +kernel

theorem meets_FreshetCommandsAct_7 :
    (asks 0x0D03 (rq (p4 0 ++ p4 0 ++ zeros 16) : Req) (onPower (fun p => { p with stores := [{ cls := 14, act := .freshetStage 0, admitted := false }] }) wOwn : State) = true) ∧
    ((onPower (fun p => { p with stores := [{ cls := 14, act := .freshetStage 0, admitted := false }] }) wOwn : State).fsh.lock = some (.side (rq (p4 0 ++ p4 0 ++ zeros 16) : Req).side)) ∧
    ((onPower (fun p => { p with stores := [{ cls := 14, act := .freshetStage 0, admitted := false }] }) wOwn : State).fsh.state = 1) ∧
    (g4 (rq (p4 0 ++ p4 0 ++ zeros 16) : Req).payload 0 < (onPower (fun p => { p with stores := [{ cls := 14, act := .freshetStage 0, admitted := false }] }) wOwn : State).fsh.img.blocks) ∧
    (g4 (rq (p4 0 ++ p4 0 ++ zeros 16) : Req).payload 4 % 16 = 0) ∧
    (g4 (rq (p4 0 ++ p4 0 ++ zeros 16) : Req).payload 4 + ((rq (p4 0 ++ p4 0 ++ zeros 16) : Req).payload.drop 8).length ≤ blockLen (onPower (fun p => { p with stores := [{ cls := 14, act := .freshetStage 0, admitted := false }] }) wOwn : State).fsh.img (g4 (rq (p4 0 ++ p4 0 ++ zeros 16) : Req).payload 0)) ∧
    (blockWaits (onPower (fun p => { p with stores := [{ cls := 14, act := .freshetStage 0, admitted := false }] }) wOwn : State) = true) := by decide +kernel

theorem meets_FreshetCommandsAct_8 :
    (asks 0x0D03 (rq (p4 0 ++ p4 0 ++ zeros 16) : Req) (onFsh (fun f => { f with marked := [0] }) wOwn : State) = true) ∧
    ((onFsh (fun f => { f with marked := [0] }) wOwn : State).fsh.lock = some (.side (rq (p4 0 ++ p4 0 ++ zeros 16) : Req).side)) ∧
    ((onFsh (fun f => { f with marked := [0] }) wOwn : State).fsh.state = 1) ∧
    (g4 (rq (p4 0 ++ p4 0 ++ zeros 16) : Req).payload 0 < (onFsh (fun f => { f with marked := [0] }) wOwn : State).fsh.img.blocks) ∧
    (g4 (rq (p4 0 ++ p4 0 ++ zeros 16) : Req).payload 4 % 16 = 0) ∧
    (g4 (rq (p4 0 ++ p4 0 ++ zeros 16) : Req).payload 4 + ((rq (p4 0 ++ p4 0 ++ zeros 16) : Req).payload.drop 8).length ≤ blockLen (onFsh (fun f => { f with marked := [0] }) wOwn : State).fsh.img (g4 (rq (p4 0 ++ p4 0 ++ zeros 16) : Req).payload 0)) ∧
    (blockWaits (onFsh (fun f => { f with marked := [0] }) wOwn : State) = false) ∧
    ((onFsh (fun f => { f with marked := [0] }) wOwn : State).fsh.marked.contains (g4 (rq (p4 0 ++ p4 0 ++ zeros 16) : Req).payload 0) = true) := by decide +kernel

theorem meets_FreshetCommandsAct_9 :
    (asks 0x0D03 (rq (p4 0 ++ p4 0 ++ zeros 16) : Req) (wOwn : State) = true) ∧
    ((wOwn : State).fsh.lock = some (.side (rq (p4 0 ++ p4 0 ++ zeros 16) : Req).side)) ∧
    ((wOwn : State).fsh.state = 1) ∧
    (g4 (rq (p4 0 ++ p4 0 ++ zeros 16) : Req).payload 0 < (wOwn : State).fsh.img.blocks) ∧
    (g4 (rq (p4 0 ++ p4 0 ++ zeros 16) : Req).payload 4 % 16 = 0) ∧
    (g4 (rq (p4 0 ++ p4 0 ++ zeros 16) : Req).payload 4 + ((rq (p4 0 ++ p4 0 ++ zeros 16) : Req).payload.drop 8).length ≤ blockLen (wOwn : State).fsh.img (g4 (rq (p4 0 ++ p4 0 ++ zeros 16) : Req).payload 0)) ∧
    (blockWaits (wOwn : State) = false) ∧
    ((wOwn : State).fsh.marked.contains (g4 (rq (p4 0 ++ p4 0 ++ zeros 16) : Req).payload 0) = false) := by decide +kernel

theorem meets_FreshetCommandsAct_10 :
    (asks 0x0D04 (rq ([15] ++ zeros 7 ++ p8 5 ++ p8 6) : Req) (wFsh : State) = true) ∧
    (g1 (rq ([15] ++ zeros 7 ++ p8 5 ++ p8 6) : Req).payload 0 ≤ 15) ∧
    (zeroAt (rq ([15] ++ zeros 7 ++ p8 5 ++ p8 6) : Req).payload 1 7 = true) := by decide +kernel

theorem meets_FreshetCommandsAct_11 :
    (asks 0x0D04 (rq ([16] ++ zeros 7 ++ p8 5 ++ p8 6) : Req) (wFsh : State) = true) ∧
    ((15 < g1 (rq ([16] ++ zeros 7 ++ p8 5 ++ p8 6) : Req).payload 0 ∨ zeroAt (rq ([16] ++ zeros 7 ++ p8 5 ++ p8 6) : Req).payload 1 7 = false)) := by decide +kernel

theorem meets_FreshetCommandsAct_12 :
    (asks 0x0D05 (rq ([4, 0, 0, 0] ++ p4 3) : Req) (onPower (fun p => { p with energy := 10 ^ 18 }) (onFsh (fun f => { f with state := 5, img := { kind := 4, arb := 3 } }) wFsh) : State) = true) ∧
    ((reqOrg 0x0D05 (rq ([4, 0, 0, 0] ++ p4 3)) : Org) = reqOrg 0x0D05 (rq ([4, 0, 0, 0] ++ p4 3) : Req)) ∧
    ((onPower (fun p => { p with energy := 10 ^ 18 }) (onFsh (fun f => { f with state := 5, img := { kind := 4, arb := 3 } }) wFsh) : State).fsh.state = 5) ∧
    (zeroAt (rq ([4, 0, 0, 0] ++ p4 3) : Req).payload 1 3 = true) ∧
    (g1 (rq ([4, 0, 0, 0] ++ p4 3) : Req).payload 0 = (onPower (fun p => { p with energy := 10 ^ 18 }) (onFsh (fun f => { f with state := 5, img := { kind := 4, arb := 3 } }) wFsh) : State).fsh.img.kind) ∧
    (g4 (rq ([4, 0, 0, 0] ++ p4 3) : Req).payload 4 = (onPower (fun p => { p with energy := 10 ^ 18 }) (onFsh (fun f => { f with state := 5, img := { kind := 4, arb := 3 } }) wFsh) : State).fsh.img.arb) ∧
    (canStore (.floor (g1 (rq ([4, 0, 0, 0] ++ p4 3) : Req).payload 0) (g4 (rq ([4, 0, 0, 0] ++ p4 3) : Req).payload 4) (some (reqOrg 0x0D05 (rq ([4, 0, 0, 0] ++ p4 3)) : Org))) (onPower (fun p => { p with energy := 10 ^ 18 }) (onFsh (fun f => { f with state := 5, img := { kind := 4, arb := 3 } }) wFsh) : State) = true) := by decide +kernel

theorem meets_FreshetCommandsAct_13 :
    (asks 0x0D05 (rq ([4, 0, 0, 0] ++ p4 3) : Req) (onPower (fun p => { p with energy := 0 }) (onFsh (fun f => { f with state := 5, img := { kind := 4, arb := 3 } }) wFsh) : State) = true) ∧
    ((reqOrg 0x0D05 (rq ([4, 0, 0, 0] ++ p4 3)) : Org) = reqOrg 0x0D05 (rq ([4, 0, 0, 0] ++ p4 3) : Req)) ∧
    ((onPower (fun p => { p with energy := 0 }) (onFsh (fun f => { f with state := 5, img := { kind := 4, arb := 3 } }) wFsh) : State).fsh.state = 5) ∧
    (zeroAt (rq ([4, 0, 0, 0] ++ p4 3) : Req).payload 1 3 = true) ∧
    (g1 (rq ([4, 0, 0, 0] ++ p4 3) : Req).payload 0 = (onPower (fun p => { p with energy := 0 }) (onFsh (fun f => { f with state := 5, img := { kind := 4, arb := 3 } }) wFsh) : State).fsh.img.kind) ∧
    (g4 (rq ([4, 0, 0, 0] ++ p4 3) : Req).payload 4 = (onPower (fun p => { p with energy := 0 }) (onFsh (fun f => { f with state := 5, img := { kind := 4, arb := 3 } }) wFsh) : State).fsh.img.arb) ∧
    (canStore (.floor (g1 (rq ([4, 0, 0, 0] ++ p4 3) : Req).payload 0) (g4 (rq ([4, 0, 0, 0] ++ p4 3) : Req).payload 4) (some (reqOrg 0x0D05 (rq ([4, 0, 0, 0] ++ p4 3)) : Org))) (onPower (fun p => { p with energy := 0 }) (onFsh (fun f => { f with state := 5, img := { kind := 4, arb := 3 } }) wFsh) : State) = false) := by decide +kernel

theorem meets_FreshetCommandsAct_14 :
    (asks 0x0D05 (rq ([4, 0, 0, 0] ++ p4 3) : Req) (wFsh : State) = true) ∧
    ((wFsh : State).fsh.state ≠ 5) := by decide +kernel

theorem meets_FreshetCommandsAct_15 :
    (asks 0x0D05 (rq ([4, 0, 0, 0] ++ p4 2) : Req) (onPower (fun p => { p with energy := 0 }) (onFsh (fun f => { f with state := 5, img := { kind := 4, arb := 3 } }) wFsh) : State) = true) ∧
    ((onPower (fun p => { p with energy := 0 }) (onFsh (fun f => { f with state := 5, img := { kind := 4, arb := 3 } }) wFsh) : State).fsh.state = 5) ∧
    ((zeroAt (rq ([4, 0, 0, 0] ++ p4 2) : Req).payload 1 3 = false ∨ g1 (rq ([4, 0, 0, 0] ++ p4 2) : Req).payload 0 ≠ (onPower (fun p => { p with energy := 0 }) (onFsh (fun f => { f with state := 5, img := { kind := 4, arb := 3 } }) wFsh) : State).fsh.img.kind ∨ g4 (rq ([4, 0, 0, 0] ++ p4 2) : Req).payload 4 ≠ (onPower (fun p => { p with energy := 0 }) (onFsh (fun f => { f with state := 5, img := { kind := 4, arb := 3 } }) wFsh) : State).fsh.img.arb)) := by decide +kernel

theorem meets_FreshetCommandsAct_16 :
    (asks 0x0D06 (rq [] : Req) (wOwn : State) = true) ∧
    ((wOwn : State).fsh.state ≠ 4) ∧
    ((wOwn : State).fsh.state ≠ 5) ∧
    ((wOwn : State).fsh.state ≠ 8) ∧
    (((wOwn : State).fsh.lock = none ∨ (wOwn : State).fsh.lock = some (.side (rq [] : Req).side))) := by decide +kernel

theorem meets_FreshetCommandsAct_17 :
    (asks 0x0D06 (rq [] : Req) (onPower (fun p => { p with energy := 0 }) (onFsh (fun f => { f with state := 5, img := { kind := 4, arb := 3 } }) wFsh) : State) = true) ∧
    (((onPower (fun p => { p with energy := 0 }) (onFsh (fun f => { f with state := 5, img := { kind := 4, arb := 3 } }) wFsh) : State).fsh.state = 4 ∨ (onPower (fun p => { p with energy := 0 }) (onFsh (fun f => { f with state := 5, img := { kind := 4, arb := 3 } }) wFsh) : State).fsh.state = 5 ∨ (onPower (fun p => { p with energy := 0 }) (onFsh (fun f => { f with state := 5, img := { kind := 4, arb := 3 } }) wFsh) : State).fsh.state = 8)) := by decide +kernel

theorem meets_FreshetCommandsAct_18 :
    (asks 0x0D06 (rq [] : Req) (onFsh (fun f => { f with lock := some (.line 0) }) wOwn : State) = true) ∧
    ((onFsh (fun f => { f with lock := some (.line 0) }) wOwn : State).fsh.state ≠ 4) ∧
    ((onFsh (fun f => { f with lock := some (.line 0) }) wOwn : State).fsh.state ≠ 5) ∧
    ((onFsh (fun f => { f with lock := some (.line 0) }) wOwn : State).fsh.state ≠ 8) ∧
    ((onFsh (fun f => { f with lock := some (.line 0) }) wOwn : State).fsh.lock ≠ none) ∧
    ((onFsh (fun f => { f with lock := some (.line 0) }) wOwn : State).fsh.lock ≠ some (.side (rq [] : Req).side)) := by decide +kernel

theorem meets_FreshetCommandsAct_19 :
    (asks 0x0D07 (rq [] : Req) (wMode .recovery (onFsh (fun f => { f with backed := [0] }) wFsh) : State) = true) ∧
    ((wMode .recovery (onFsh (fun f => { f with backed := [0] }) wFsh) : State).fsh.backed ≠ []) := by decide +kernel

theorem meets_FreshetCommandsAct_20 :
    (asks 0x0D07 (rq [] : Req) (wMode .recovery wFsh : State) = true) ∧
    ((wMode .recovery wFsh : State).fsh.backed = []) := by decide +kernel

theorem meets_ReamActs_1 :
    (tfind (onReam (fun m => { m with buckets := [(0x417, { spent := 2 })] }) wRun : State).ream.buckets (0x417 : Nat) = some ({ spent := 2 } : Bucket)) := by decide +kernel

theorem meets_ReamActs_2 :
    (tfind (wRun : State).ream.buckets (0x417 : Nat) = none) := by decide +kernel

theorem meets_ReamActs_3 :
    ((tget (onSys (fun y => { y with devTime := 3600000000000 }) (onReam (fun m => { m with buckets := [(0x417, { spent := 2, withheld := 3 })] }) wRun) : State).ream.buckets (0x417 : Nat)).withheld ≠ 0) ∧
    ((tget (onSys (fun y => { y with devTime := 3600000000000 }) (onReam (fun m => { m with buckets := [(0x417, { spent := 2, withheld := 3 })] }) wRun) : State).ream.buckets (0x417 : Nat)).last + 3600000000000 ≤ (onSys (fun y => { y with devTime := 3600000000000 }) (onReam (fun m => { m with buckets := [(0x417, { spent := 2, withheld := 3 })] }) wRun) : State).sys.devTime) := by decide +kernel

theorem meets_ReamActs_4 :
    (((tget (wRun : State).ream.buckets (0x417 : Nat)).withheld = 0 ∨ (wRun : State).sys.devTime < (tget (wRun : State).ream.buckets (0x417 : Nat)).last + 3600000000000)) := by decide +kernel

theorem meets_ReamActs_5 :
    ((onReam (fun m => { m with fbState := 1 }) wRun : State).ream.fbState = 1) := by decide +kernel

theorem meets_ReamActs_6 :
    ((onReam (fun m => { m with fbState := 1, failOffset := 8192, retired := 0 }) wRun : State).ream.fbState = 1) ∧
    ((onReam (fun m => { m with fbState := 1, failOffset := 8192, retired := 0 }) wRun : State).ream.retired < 16) ∧
    ((onReam (fun m => { m with fbState := 1, failOffset := 8192, retired := 1 }) wRun : State) = onReam (fun m => { m with retired := m.retired + 1 }) (onReam (fun m => { m with fbState := 1, failOffset := 8192, retired := 0 }) wRun : State)) := by decide +kernel

theorem meets_ReamActs_7 :
    ((onReam (fun m => { m with fbState := 1, failOffset := 8192, retired := 16 }) wRun : State).ream.fbState = 1) ∧
    (((false : Bool) = true ∨ ((true : Bool) = true ∧ 16 ≤ (onReam (fun m => { m with fbState := 1, failOffset := 8192, retired := 16 }) wRun : State).ream.retired))) := by decide +kernel

theorem meets_ReamActs_8 :
    ((wRun : State).ream.fbState ≠ 1) := by decide +kernel

theorem meets_ReamActs_9 :
    (asks 0x0E01 (rq [] : Req) (wRun : State) = true) ∧
    ((wRun.ream : Ream) = (wRun : State).ream) := by decide +kernel

theorem meets_ReamActs_10 :
    (asks 0x0E02 (rq (p4 0 ++ p2 5 ++ zeros 6) : Req) (wRing : State) = true) ∧
    (1 ≤ g2 (rq (p4 0 ++ p2 5 ++ zeros 6) : Req).payload 4) ∧
    (g2 (rq (p4 0 ++ p2 5 ++ zeros 6) : Req).payload 4 ≤ 256) ∧
    (zeroAt (rq (p4 0 ++ p2 5 ++ zeros 6) : Req).payload 10 2 = true) := by decide +kernel

theorem meets_ReamActs_11 :
    (asks 0x0E02 (rq (p4 0 ++ p2 257 ++ zeros 6) : Req) (wRing : State) = true) ∧
    ((g2 (rq (p4 0 ++ p2 257 ++ zeros 6) : Req).payload 4 = 0 ∨ 256 < g2 (rq (p4 0 ++ p2 257 ++ zeros 6) : Req).payload 4 ∨ zeroAt (rq (p4 0 ++ p2 257 ++ zeros 6) : Req).payload 10 2 = false)) := by decide +kernel

theorem meets_ReamActs_12 :
    (asks 0x0E03 (rq (p4 0 ++ p2 500 ++ zeros 6) : Req) (wRing : State) = true) ∧
    (1 ≤ g2 (rq (p4 0 ++ p2 500 ++ zeros 6) : Req).payload 4) ∧
    (g2 (rq (p4 0 ++ p2 500 ++ zeros 6) : Req).payload 4 ≤ 16383) ∧
    (zeroAt (rq (p4 0 ++ p2 500 ++ zeros 6) : Req).payload 10 2 = true) := by decide +kernel

theorem meets_ReamActs_13 :
    (asks 0x0E03 (rq (p4 0 ++ p2 16384 ++ zeros 6) : Req) (wRing : State) = true) ∧
    ((g2 (rq (p4 0 ++ p2 16384 ++ zeros 6) : Req).payload 4 = 0 ∨ 16383 < g2 (rq (p4 0 ++ p2 16384 ++ zeros 6) : Req).payload 4 ∨ zeroAt (rq (p4 0 ++ p2 16384 ++ zeros 6) : Req).payload 10 2 = false)) := by decide +kernel

theorem meets_ReamActs_14 :
    ((waitingJobs (addJob { org := { side := .spi, sluice := 1, tag := 7, code := 0x0E03, bg := true }, data := p4 0 ++ p2 500 ++ zeros 6 } wRing : State) 0x0E03).find? (fun x => x.org.side == (.spi : Side) && x.org.sluice == (1 : Nat) && x.org.tag == (7 : Nat)) = some ({ org := { side := .spi, sluice := 1, tag := 7, code := 0x0E03, bg := true }, data := p4 0 ++ p2 500 ++ zeros 6 } : Job)) := by decide +kernel

theorem meets_ReamActs_15 :
    ((waitingJobs (wRing : State) 0x0E03).find? (fun x => x.org.side == (.spi : Side) && x.org.sluice == (1 : Nat) && x.org.tag == (7 : Nat)) = none) := by decide +kernel

theorem meets_ReamActs_16 :
    (asks 0x0E04 (rq [0xFF, 0xFF, 0, 0] : Req) (wRun : State) = true) ∧
    (zeroAt (rq [0xFF, 0xFF, 0, 0] : Req).payload 2 2 = true) ∧
    (eventRow (g2 (rq [0xFF, 0xFF, 0, 0] : Req).payload 0) = none) := by decide +kernel

theorem meets_ReamActs_17 :
    (asks 0x0E04 (rq [0xFF, 0xFF, 1, 0] : Req) (wRun : State) = true) ∧
    (zeroAt (rq [0xFF, 0xFF, 1, 0] : Req).payload 2 2 = false) := by decide +kernel

theorem meets_ReamActs_18 :
    (asks 0x0E04 (rq [0x10, 0x0E, 0, 0] : Req) (wRun : State) = true) ∧
    (zeroAt (rq [0x10, 0x0E, 0, 0] : Req).payload 2 2 = true) ∧
    ((0x0E10 : Nat) = g2 (rq [0x10, 0x0E, 0, 0] : Req).payload 0) ∧
    (eventRow (0x0E10 : Nat) = some ((eventRow 0x0E10).getD (0, [], false) : Nat × List Nat × Bool)) ∧
    (bucketLimits (wRun : State) (0x0E10 : Nat) = none) := by decide +kernel

theorem meets_ReamActs_19 :
    (asks 0x0E04 (rq [0x17, 0x04, 0, 0] : Req) (wRun : State) = true) ∧
    (zeroAt (rq [0x17, 0x04, 0, 0] : Req).payload 2 2 = true) ∧
    ((0x0417 : Nat) = g2 (rq [0x17, 0x04, 0, 0] : Req).payload 0) ∧
    (eventRow (0x0417 : Nat) = some ((eventRow 0x0417).getD (0, [], false) : Nat × List Nat × Bool)) ∧
    (bucketLimits (wRun : State) (0x0417 : Nat) = some ((10 : Nat), (60 : Nat), (20 : Nat))) := by decide +kernel

theorem meets_ReamActs_20 :
    (asks 0x0E05 (rq (p4 2) : Req) (wMode .commission (onNet (fun n => { n with key := some (zeros 32) }) wRing) : State) = true) ∧
    ((wMode .commission (onNet (fun n => { n with key := some (zeros 32) }) wRing) : State).net.key ≠ none) ∧
    ((wMode .commission (onNet (fun n => { n with key := some (zeros 32) }) wRing) : State).ream.refusing = false) ∧
    (clearable (wMode .commission (onNet (fun n => { n with key := some (zeros 32) }) wRing) : State) (g4 (rq (p4 2) : Req).payload 0) = true) := by decide +kernel

theorem meets_ReamActs_21 :
    (asks 0x0E05 (rq (p4 2) : Req) (wMode .commission wRing : State) = true) ∧
    (((wMode .commission wRing : State).net.key = none ∨ (wMode .commission wRing : State).ream.refusing = true)) := by decide +kernel

theorem meets_ReamActs_22 :
    (asks 0x0E05 (rq (p4 9) : Req) (wMode .commission (onNet (fun n => { n with key := some (zeros 32) }) wRing) : State) = true) ∧
    ((wMode .commission (onNet (fun n => { n with key := some (zeros 32) }) wRing) : State).net.key ≠ none) ∧
    ((wMode .commission (onNet (fun n => { n with key := some (zeros 32) }) wRing) : State).ream.refusing = false) ∧
    (clearable (wMode .commission (onNet (fun n => { n with key := some (zeros 32) }) wRing) : State) (g4 (rq (p4 9) : Req).payload 0) = false) := by decide +kernel

theorem meets_ReamActs_23 :
    (asks 0x0E06 (rq (p4 2 ++ zeros 16) : Req) (onReam (fun m => { m with challenge := some (5, 2, 0) }) (wMode .commission (onNet (fun n => { n with key := some (zeros 32) }) wRing)) : State) = true) ∧
    ((onReam (fun m => { m with challenge := some (5, 2, 0) }) (wMode .commission (onNet (fun n => { n with key := some (zeros 32) }) wRing)) : State).net.key ≠ none) ∧
    ((onReam (fun m => { m with challenge := some (5, 2, 0) }) (wMode .commission (onNet (fun n => { n with key := some (zeros 32) }) wRing)) : State).ream.refusing = false) ∧
    (clearable (onReam (fun m => { m with challenge := some (5, 2, 0) }) (wMode .commission (onNet (fun n => { n with key := some (zeros 32) }) wRing)) : State) (g4 (rq (p4 2 ++ zeros 16) : Req).payload 0) = true) ∧
    ((onReam (fun m => { m with challenge := some (5, 2, 0) }) (wMode .commission (onNet (fun n => { n with key := some (zeros 32) }) wRing)) : State).ream.fallback = []) ∧
    ((onReam (fun m => { m with challenge := some (5, 2, 0) }) (wMode .commission (onNet (fun n => { n with key := some (zeros 32) }) wRing)) : State).ream.challenge = some ((5 : Nat), (2 : Nat), (0 : Nat))) ∧
    ((onReam (fun m => { m with challenge := none }) (begun 0x0E06 (rq (p4 2 ++ zeros 16)) (onReam (fun m => { m with challenge := some (5, 2, 0) }) (wMode .commission (onNet (fun n => { n with key := some (zeros 32) }) wRing)))) : State) = onReam (fun m => { m with challenge := none }) (begun 0x0E06 (rq (p4 2 ++ zeros 16) : Req) (onReam (fun m => { m with challenge := some (5, 2, 0) }) (wMode .commission (onNet (fun n => { n with key := some (zeros 32) }) wRing)) : State))) ∧
    ((2 : Nat) = g4 (rq (p4 2 ++ zeros 16) : Req).payload 0) ∧
    ((onReam (fun m => { m with challenge := some (5, 2, 0) }) (wMode .commission (onNet (fun n => { n with key := some (zeros 32) }) wRing)) : State).sys.devTime ≤ (0 : Nat) + 60000000000) ∧
    ((reqOrg 0x0E06 (rq (p4 2 ++ zeros 16)) : Org) = reqOrg 0x0E06 (rq (p4 2 ++ zeros 16) : Req)) := by decide +kernel

theorem meets_ReamActs_24 :
    (asks 0x0E06 (rq (p4 1 ++ zeros 16) : Req) (onReam (fun m => { m with challenge := some (5, 2, 0) }) (wMode .commission (onNet (fun n => { n with key := some (zeros 32) }) wRing)) : State) = true) ∧
    ((onReam (fun m => { m with challenge := some (5, 2, 0) }) (wMode .commission (onNet (fun n => { n with key := some (zeros 32) }) wRing)) : State).net.key ≠ none) ∧
    ((onReam (fun m => { m with challenge := some (5, 2, 0) }) (wMode .commission (onNet (fun n => { n with key := some (zeros 32) }) wRing)) : State).ream.refusing = false) ∧
    (clearable (onReam (fun m => { m with challenge := some (5, 2, 0) }) (wMode .commission (onNet (fun n => { n with key := some (zeros 32) }) wRing)) : State) (g4 (rq (p4 1 ++ zeros 16) : Req).payload 0) = true) ∧
    ((onReam (fun m => { m with challenge := some (5, 2, 0) }) (wMode .commission (onNet (fun n => { n with key := some (zeros 32) }) wRing)) : State).ream.fallback = []) ∧
    ((onReam (fun m => { m with challenge := some (5, 2, 0) }) (wMode .commission (onNet (fun n => { n with key := some (zeros 32) }) wRing)) : State).ream.challenge = some ((5 : Nat), (2 : Nat), (0 : Nat))) ∧
    ((onReam (fun m => { m with challenge := none }) (begun 0x0E06 (rq (p4 1 ++ zeros 16)) (onReam (fun m => { m with challenge := some (5, 2, 0) }) (wMode .commission (onNet (fun n => { n with key := some (zeros 32) }) wRing)))) : State) = onReam (fun m => { m with challenge := none }) (begun 0x0E06 (rq (p4 1 ++ zeros 16) : Req) (onReam (fun m => { m with challenge := some (5, 2, 0) }) (wMode .commission (onNet (fun n => { n with key := some (zeros 32) }) wRing)) : State))) ∧
    (((2 : Nat) ≠ g4 (rq (p4 1 ++ zeros 16) : Req).payload 0 ∨ (0 : Nat) + 60000000000 < (onReam (fun m => { m with challenge := some (5, 2, 0) }) (wMode .commission (onNet (fun n => { n with key := some (zeros 32) }) wRing)) : State).sys.devTime)) := by decide +kernel

theorem meets_ReamActs_25 :
    (asks 0x0E06 (rq (p4 2 ++ zeros 16) : Req) (wMode .commission wRing : State) = true) ∧
    (((wMode .commission wRing : State).net.key = none ∨ (wMode .commission wRing : State).ream.refusing = true)) := by decide +kernel

theorem meets_ReamActs_26 :
    (asks 0x0E06 (rq (p4 9 ++ zeros 16) : Req) (wMode .commission (onNet (fun n => { n with key := some (zeros 32) }) wRing) : State) = true) ∧
    ((wMode .commission (onNet (fun n => { n with key := some (zeros 32) }) wRing) : State).net.key ≠ none) ∧
    ((wMode .commission (onNet (fun n => { n with key := some (zeros 32) }) wRing) : State).ream.refusing = false) ∧
    (clearable (wMode .commission (onNet (fun n => { n with key := some (zeros 32) }) wRing) : State) (g4 (rq (p4 9 ++ zeros 16) : Req).payload 0) = false) := by decide +kernel

theorem meets_ReamActs_27 :
    (asks 0x0E06 (rq (p4 2 ++ zeros 16) : Req) (onReam (fun m => { m with fallback := [{ seq := 3, code := 1 }] }) (onReam (fun m => { m with challenge := some (5, 2, 0) }) (wMode .commission (onNet (fun n => { n with key := some (zeros 32) }) wRing))) : State) = true) ∧
    ((onReam (fun m => { m with fallback := [{ seq := 3, code := 1 }] }) (onReam (fun m => { m with challenge := some (5, 2, 0) }) (wMode .commission (onNet (fun n => { n with key := some (zeros 32) }) wRing))) : State).net.key ≠ none) ∧
    ((onReam (fun m => { m with fallback := [{ seq := 3, code := 1 }] }) (onReam (fun m => { m with challenge := some (5, 2, 0) }) (wMode .commission (onNet (fun n => { n with key := some (zeros 32) }) wRing))) : State).ream.refusing = false) ∧
    (clearable (onReam (fun m => { m with fallback := [{ seq := 3, code := 1 }] }) (onReam (fun m => { m with challenge := some (5, 2, 0) }) (wMode .commission (onNet (fun n => { n with key := some (zeros 32) }) wRing))) : State) (g4 (rq (p4 2 ++ zeros 16) : Req).payload 0) = true) ∧
    ((onReam (fun m => { m with fallback := [{ seq := 3, code := 1 }] }) (onReam (fun m => { m with challenge := some (5, 2, 0) }) (wMode .commission (onNet (fun n => { n with key := some (zeros 32) }) wRing))) : State).ream.fallback ≠ []) := by decide +kernel

theorem meets_ReamActs_28 :
    (asks 0x0E06 (rq (p4 2 ++ zeros 16) : Req) (wMode .commission (onNet (fun n => { n with key := some (zeros 32) }) wRing) : State) = true) ∧
    ((wMode .commission (onNet (fun n => { n with key := some (zeros 32) }) wRing) : State).net.key ≠ none) ∧
    ((wMode .commission (onNet (fun n => { n with key := some (zeros 32) }) wRing) : State).ream.refusing = false) ∧
    (clearable (wMode .commission (onNet (fun n => { n with key := some (zeros 32) }) wRing) : State) (g4 (rq (p4 2 ++ zeros 16) : Req).payload 0) = true) ∧
    ((wMode .commission (onNet (fun n => { n with key := some (zeros 32) }) wRing) : State).ream.fallback = []) ∧
    ((wMode .commission (onNet (fun n => { n with key := some (zeros 32) }) wRing) : State).ream.challenge = none) := by decide +kernel

theorem meets_ReamActs_29 :
    ((onReam (fun m => { m with refusing := true, wrongProofs := [0, 0, 0] }) (onSys (fun y => { y with devTime := 600000000000 }) wRun) : State).ream.refusing = true) ∧
    ((∀ t ∈ (onReam (fun m => { m with refusing := true, wrongProofs := [0, 0, 0] }) (onSys (fun y => { y with devTime := 600000000000 }) wRun) : State).ream.wrongProofs, t + 600000000000 ≤ (onReam (fun m => { m with refusing := true, wrongProofs := [0, 0, 0] }) (onSys (fun y => { y with devTime := 600000000000 }) wRun) : State).sys.devTime)) := by decide +kernel

theorem meets_ReamActs_30 :
    (((onReam (fun m => { m with refusing := true, wrongProofs := [5, 0, 0] }) (onSys (fun y => { y with devTime := 600000000000 }) wRun) : State).ream.refusing = false ∨ ∃ t ∈ (onReam (fun m => { m with refusing := true, wrongProofs := [5, 0, 0] }) (onSys (fun y => { y with devTime := 600000000000 }) wRun) : State).ream.wrongProofs, (onReam (fun m => { m with refusing := true, wrongProofs := [5, 0, 0] }) (onSys (fun y => { y with devTime := 600000000000 }) wRun) : State).sys.devTime < t + 600000000000)) := by decide +kernel

theorem meets_ReamActs_31 :
    (asks 0x0E07 (rq (p8 1000000) : Req) (wRun : State) = true) ∧
    (0 ≤ i8 (rq (p8 1000000) : Req).payload 0) ∧
    (i8 (rq (p8 1000000) : Req).payload 0 < 3155760000000) ∧
    ((wRun : State).net.ptpState ≠ 3) ∧
    ((timeSet 1000000 1 1 (addJob { org := reqOrg 0x0E07 (rq (p8 1000000)) } (begun 0x0E07 (rq (p8 1000000)) wRun)) : State) = timeSet (i8 (rq (p8 1000000) : Req).payload 0) 1 (sideCode (rq (p8 1000000) : Req).side) (addJob { org := reqOrg 0x0E07 (rq (p8 1000000) : Req) } (begun 0x0E07 (rq (p8 1000000) : Req) (wRun : State)))) := by decide +kernel

theorem meets_ReamActs_32 :
    (asks 0x0E07 (rq (p8 3155760000000) : Req) (wRun : State) = true) ∧
    ((i8 (rq (p8 3155760000000) : Req).payload 0 < 0 ∨ 3155760000000 ≤ i8 (rq (p8 3155760000000) : Req).payload 0)) := by decide +kernel

theorem meets_ReamActs_33 :
    (asks 0x0E07 (rq (p8 1000000) : Req) (onNet (fun n => { n with ptpState := 3 }) wRun : State) = true) ∧
    (0 ≤ i8 (rq (p8 1000000) : Req).payload 0) ∧
    (i8 (rq (p8 1000000) : Req).payload 0 < 3155760000000) ∧
    ((onNet (fun n => { n with ptpState := 3 }) wRun : State).net.ptpState = 3) := by decide +kernel

theorem meets_ClocksAct_1 :
    ((wRun : State).sys.mode ≠ .ice) ∧
    ((wRun : State).sys.mode ≠ .vault) ∧
    ((wRun : State).absorb.reexecuting = false) := by decide +kernel

theorem meets_ClocksAct_2 :
    ((onAbsorb (fun a => { a with reexecuting := true }) wRun : State).sys.mode ≠ .ice) ∧
    ((onAbsorb (fun a => { a with reexecuting := true }) wRun : State).sys.mode ≠ .vault) ∧
    ((onAbsorb (fun a => { a with reexecuting := true }) wRun : State).absorb.reexecuting = true) := by decide +kernel

theorem meets_ClocksAct_3 :
    (((wMode .ice wRun : State).sys.mode = .ice ∨ (wMode .ice wRun : State).sys.mode = .vault)) := by decide +kernel

theorem meets_ClocksAct_4 :
    ((onSys (fun y => { y with devTime := 5000000 }) (onClk (fun c => { c with coastSince := some 0, coastPlls := 7 }) wRun) : State).clk.coastSince = some (0 : Nat)) ∧
    ((onSys (fun y => { y with devTime := 5000000 }) (onClk (fun c => { c with coastSince := some 0, coastPlls := 7 }) wRun) : State).sys.mode ≠ .ice) ∧
    ((onSys (fun y => { y with devTime := 5000000 }) (onClk (fun c => { c with coastSince := some 0, coastPlls := 7 }) wRun) : State).sys.mode ≠ .vault) ∧
    ((5 : Nat) = nsMs ((onSys (fun y => { y with devTime := 5000000 }) (onClk (fun c => { c with coastSince := some 0, coastPlls := 7 }) wRun) : State).sys.devTime - (0 : Nat))) ∧
    ((onClk (fun c => { c with coastSince := none, coastPlls := 0, coastMs := 5, state := (c.state ||| 0x7) &&& ~~~0x60 }) (onSys (fun y => { y with devTime := 5000000 }) wRun) : State) = onClk (fun c => { c with coastSince := none, coastPlls := 0, coastMs := w32 (c.coastMs + (5 : Nat)), state := (c.state ||| 0x7) &&& ~~~0x60 }) (onSys (fun y => { y with devTime := 5000000 }) (onClk (fun c => { c with coastSince := some 0, coastPlls := 7 }) wRun) : State)) := by decide +kernel

theorem meets_ClocksAct_5 :
    ((wRun : State).clk.coastSince = none) := by decide +kernel

theorem meets_ClocksAct_6 :
    ((2 : Nat) < 3) ∧
    (pllDown (wRun : State) (2 : Nat) = false) ∧
    ((wRun : State).sys.mode ≠ .ice) ∧
    ((wRun : State).sys.mode ≠ .vault) ∧
    ((wRun : State).absorb.reexecuting = false) := by decide +kernel

theorem meets_ClocksAct_7 :
    ((2 : Nat) < 3) ∧
    (pllDown (onAbsorb (fun a => { a with reexecuting := true }) wRun : State) (2 : Nat) = false) ∧
    ((onAbsorb (fun a => { a with reexecuting := true }) wRun : State).sys.mode ≠ .ice) ∧
    ((onAbsorb (fun a => { a with reexecuting := true }) wRun : State).sys.mode ≠ .vault) ∧
    ((onAbsorb (fun a => { a with reexecuting := true }) wRun : State).absorb.reexecuting = true) := by decide +kernel

theorem meets_ClocksAct_8 :
    ((3 ≤ (3 : Nat) ∨ pllDown (wRun : State) (3 : Nat) = true)) := by decide +kernel

theorem meets_ClocksAct_9 :
    ((wRun : State).clk.rtcFailed = false) ∧
    ((clkSticky 0x8 (clkState 0x80 false (onClk (fun c => { c with rtcFailed := true }) wRun)) : State) = clkSticky 0x8 (clkState 0x80 false (onClk (fun c => { c with rtcFailed := true }) (wRun : State)))) := by decide +kernel

theorem meets_ClocksAct_10 :
    ((onClk (fun c => { c with rtcFailed := true }) wRun : State).clk.rtcFailed = true) ∧
    ((clkState 0x80 true (onClk (fun c => { c with rtcFailed := false }) (onClk (fun c => { c with rtcFailed := true }) wRun)) : State) = clkState 0x80 true (onClk (fun c => { c with rtcFailed := false }) (onClk (fun c => { c with rtcFailed := true }) wRun : State))) := by decide +kernel

theorem meets_ClocksAct_12 :
    ((note 0x0F12 [3, 2, 0] (clkSticky 0x2 wRun) : State) = noteRom 0x0F12 [(3 : Nat), (2 : Nat), (0 : Nat)] (clkSticky 0x2 (wRun : State))) := by decide +kernel

theorem meets_ClocksAct_14 :
    ((onClk (fun c => { c with measure := some ({ side := .spi, sluice := 1, tag := 7, code := 0x0F03 }, 0, 2, 1000), coastPlls := 0 }) wRun : State).clk.measure = some (({ side := .spi, sluice := 1, tag := 7, code := 0x0F03 } : Org), (0 : Nat), (2 : Nat), (1000 : Nat))) ∧
    (sourceRuns (onClk (fun c => { c with measure := some ({ side := .spi, sluice := 1, tag := 7, code := 0x0F03 }, 0, 2, 1000), coastPlls := 0 }) wRun : State) (0 : Nat) = true) ∧
    (sourceRuns (onClk (fun c => { c with measure := some ({ side := .spi, sluice := 1, tag := 7, code := 0x0F03 }, 0, 2, 1000), coastPlls := 0 }) wRun : State) (2 : Nat) = true) := by decide +kernel

theorem meets_ClocksAct_15 :
    ((onClk (fun c => { c with measure := some ({ side := .spi, sluice := 1, tag := 7, code := 0x0F03 }, 0, 2, 1000), coastPlls := 7 }) wRun : State).clk.measure = some (({ side := .spi, sluice := 1, tag := 7, code := 0x0F03 } : Org), (0 : Nat), (2 : Nat), (1000 : Nat))) ∧
    ((sourceRuns (onClk (fun c => { c with measure := some ({ side := .spi, sluice := 1, tag := 7, code := 0x0F03 }, 0, 2, 1000), coastPlls := 7 }) wRun : State) (0 : Nat) = false ∨ sourceRuns (onClk (fun c => { c with measure := some ({ side := .spi, sluice := 1, tag := 7, code := 0x0F03 }, 0, 2, 1000), coastPlls := 7 }) wRun : State) (2 : Nat) = false)) := by decide +kernel

theorem meets_ClocksAct_16 :
    ((onClk (fun c => { c with measure := some ({ side := .spi, sluice := 1, tag := 7, code := 0x0F03 }, 0, 2, 1000), coastPlls := 0 }) wRun : State).clk.measure = some (({ side := .spi, sluice := 1, tag := 7, code := 0x0F03 } : Org), (0 : Nat), (2 : Nat), (1000 : Nat))) := by decide +kernel

theorem meets_ClocksAct_17 :
    ((wRun : State).clk.measure = none) := by decide +kernel

theorem meets_ClocksAct_18 :
    (asks 0x0F01 (rq [1, 0, 0, 0] : Req) (wRun : State) = true) ∧
    (g1 (rq [1, 0, 0, 0] : Req).payload 0 ≤ 1) ∧
    (zeroAt (rq [1, 0, 0, 0] : Req).payload 1 3 = true) := by decide +kernel

theorem meets_ClocksAct_19 :
    (asks 0x0F01 (rq [2, 0, 0, 0] : Req) (wRun : State) = true) ∧
    ((1 < g1 (rq [2, 0, 0, 0] : Req).payload 0 ∨ zeroAt (rq [2, 0, 0, 0] : Req).payload 1 3 = false)) := by decide +kernel

theorem meets_ClocksAct_20 :
    (asks 0x0F02 (rq ([0, 0, 0, 0] ++ p4 0x33333331) : Req) (wRun : State) = true) ∧
    ((0 : Nat) = g1 (rq ([0, 0, 0, 0] ++ p4 0x33333331) : Req).payload 0) ∧
    ((0 : Nat) ≤ 1) ∧
    (zeroAt (rq ([0, 0, 0, 0] ++ p4 0x33333331) : Req).payload 1 3 = true) ∧
    ((0x33333331#32 : Reg) = BitVec.ofNat 32 (g4 (rq ([0, 0, 0, 0] ++ p4 0x33333331) : Req).payload 4)) ∧
    ((0x33333331#32 : Reg) &&& gateFixed (0 : Nat) = gateReset (0 : Nat) &&& gateFixed (0 : Nat)) ∧
    ((onClk (fun c => { c with gate0 := 0x33333331#32 }) (begun 0x0F02 (rq ([0, 0, 0, 0] ++ p4 0x33333331)) wRun) : State) = onClk (fun c => if (0 : Nat) = 0 then { c with gate0 := (0x33333331#32 : Reg) } else { c with gate1 := (0x33333331#32 : Reg) }) (begun 0x0F02 (rq ([0, 0, 0, 0] ++ p4 0x33333331) : Req) (wRun : State))) ∧
    ((noteBy .spi 0x0F16 [sideCode .spi, 0, (gateReg wRun 0).toNat, 0x33333331] (onClk (fun c => { c with gate0 := 0x33333331#32 }) (begun 0x0F02 (rq ([0, 0, 0, 0] ++ p4 0x33333331)) wRun)) : State) = noteBy (rq ([0, 0, 0, 0] ++ p4 0x33333331) : Req).side 0x0F16 [sideCode (rq ([0, 0, 0, 0] ++ p4 0x33333331) : Req).side, (0 : Nat), (gateReg (wRun : State) (0 : Nat)).toNat, (0x33333331#32 : Reg).toNat] (onClk (fun c => { c with gate0 := 0x33333331#32 }) (begun 0x0F02 (rq ([0, 0, 0, 0] ++ p4 0x33333331)) wRun) : State)) := by decide +kernel

theorem meets_ClocksAct_21 :
    (asks 0x0F02 (rq ([0, 0, 0, 0] ++ p4 0) : Req) (wRun : State) = true) ∧
    ((0 : Nat) = g1 (rq ([0, 0, 0, 0] ++ p4 0) : Req).payload 0) ∧
    ((0#32 : Reg) = BitVec.ofNat 32 (g4 (rq ([0, 0, 0, 0] ++ p4 0) : Req).payload 4)) ∧
    ((1 < (0 : Nat) ∨ zeroAt (rq ([0, 0, 0, 0] ++ p4 0) : Req).payload 1 3 = false ∨ (0#32 : Reg) &&& gateFixed (0 : Nat) ≠ gateReset (0 : Nat) &&& gateFixed (0 : Nat))) := by decide +kernel

theorem meets_ClocksAct_22 :
    (asks 0x0F03 (rq ([0, 2, 0, 0] ++ p4 1000) : Req) (wRun : State) = true) ∧
    (g1 (rq ([0, 2, 0, 0] ++ p4 1000) : Req).payload 0 ≤ 23) ∧
    (g1 (rq ([0, 2, 0, 0] ++ p4 1000) : Req).payload 1 ≤ 23) ∧
    (g1 (rq ([0, 2, 0, 0] ++ p4 1000) : Req).payload 0 ≠ g1 (rq ([0, 2, 0, 0] ++ p4 1000) : Req).payload 1) ∧
    (zeroAt (rq ([0, 2, 0, 0] ++ p4 1000) : Req).payload 2 2 = true) ∧
    (1 ≤ g4 (rq ([0, 2, 0, 0] ++ p4 1000) : Req).payload 4) ∧
    (g4 (rq ([0, 2, 0, 0] ++ p4 1000) : Req).payload 4 ≤ 1000000) ∧
    (gateOpen (wRun : State) 13 = true) ∧
    ((wRun : State).clk.measure = none) := by decide +kernel

theorem meets_ClocksAct_23 :
    (asks 0x0F03 (rq ([0, 0, 0, 0] ++ p4 1000) : Req) (wRun : State) = true) ∧
    ((23 < g1 (rq ([0, 0, 0, 0] ++ p4 1000) : Req).payload 0 ∨ 23 < g1 (rq ([0, 0, 0, 0] ++ p4 1000) : Req).payload 1 ∨ g1 (rq ([0, 0, 0, 0] ++ p4 1000) : Req).payload 0 = g1 (rq ([0, 0, 0, 0] ++ p4 1000) : Req).payload 1 ∨ zeroAt (rq ([0, 0, 0, 0] ++ p4 1000) : Req).payload 2 2 = false ∨ g4 (rq ([0, 0, 0, 0] ++ p4 1000) : Req).payload 4 = 0 ∨ 1000000 < g4 (rq ([0, 0, 0, 0] ++ p4 1000) : Req).payload 4)) := by decide +kernel

theorem meets_ClocksAct_24 :
    (asks 0x0F03 (rq ([0, 2, 0, 0] ++ p4 1000) : Req) (onClk (fun c => { c with gate1 := 0 }) (onClk (fun c => { c with gate0 := 0 }) wRun) : State) = true) ∧
    (g1 (rq ([0, 2, 0, 0] ++ p4 1000) : Req).payload 0 ≤ 23) ∧
    (g1 (rq ([0, 2, 0, 0] ++ p4 1000) : Req).payload 1 ≤ 23) ∧
    (g1 (rq ([0, 2, 0, 0] ++ p4 1000) : Req).payload 0 ≠ g1 (rq ([0, 2, 0, 0] ++ p4 1000) : Req).payload 1) ∧
    (zeroAt (rq ([0, 2, 0, 0] ++ p4 1000) : Req).payload 2 2 = true) ∧
    (1 ≤ g4 (rq ([0, 2, 0, 0] ++ p4 1000) : Req).payload 4) ∧
    (g4 (rq ([0, 2, 0, 0] ++ p4 1000) : Req).payload 4 ≤ 1000000) ∧
    (gateOpen (onClk (fun c => { c with gate1 := 0 }) (onClk (fun c => { c with gate0 := 0 }) wRun) : State) 13 = false) := by decide +kernel

theorem meets_ClocksAct_25 :
    (asks 0x0F03 (rq ([0, 2, 0, 0] ++ p4 1000) : Req) (onClk (fun c => { c with measure := some ({ side := .spi, sluice := 1, tag := 7, code := 0x0F03 }, 0, 2, 1000), coastPlls := 0 }) wRun : State) = true) ∧
    (g1 (rq ([0, 2, 0, 0] ++ p4 1000) : Req).payload 0 ≤ 23) ∧
    (g1 (rq ([0, 2, 0, 0] ++ p4 1000) : Req).payload 1 ≤ 23) ∧
    (g1 (rq ([0, 2, 0, 0] ++ p4 1000) : Req).payload 0 ≠ g1 (rq ([0, 2, 0, 0] ++ p4 1000) : Req).payload 1) ∧
    (zeroAt (rq ([0, 2, 0, 0] ++ p4 1000) : Req).payload 2 2 = true) ∧
    (1 ≤ g4 (rq ([0, 2, 0, 0] ++ p4 1000) : Req).payload 4) ∧
    (g4 (rq ([0, 2, 0, 0] ++ p4 1000) : Req).payload 4 ≤ 1000000) ∧
    (gateOpen (onClk (fun c => { c with measure := some ({ side := .spi, sluice := 1, tag := 7, code := 0x0F03 }, 0, 2, 1000), coastPlls := 0 }) wRun : State) 13 = true) ∧
    ((onClk (fun c => { c with measure := some ({ side := .spi, sluice := 1, tag := 7, code := 0x0F03 }, 0, 2, 1000), coastPlls := 0 }) wRun : State).clk.measure ≠ none) := by decide +kernel

/-! What the well-formedness checks refuse: a request field by field, a source, a wake frame, a received frame, and for every
command with a range of its own an operand just outside it. -/

theorem test_ill_formed_requests :
    (wellFormed (.sysStatus { rq [] with sluice := 16 }) || wellFormed (.sysStatus { rq [] with tag := 65536 }) ||
      wellFormed (.sysStatus { rq [] with flags := 65536 })) = false ∧ wellFormed (.sysStatus (rq [])) = true := by decide

theorem test_ill_formed_parts :
    srcOk ⟨4294967296, 0, 0, []⟩ = false ∧ srcOk ⟨0, 65536, 0, []⟩ = false ∧ srcOk ⟨0, 0, 4, []⟩ = false ∧ srcOk ⟨0, 0, 2, [1]⟩ = false ∧
      ptpOk ⟨2, 0, 0, 0, 0, 0, .silent⟩ = false ∧ ptpOk ⟨0, 0, 0, 0, 0, 0, .announce 0 256 0 0 0 0⟩ = false ∧
      wakeOk (.frame 4294967296 0 []) = false ∧ wakeOk (.frame 0 9 (zeros 9)) = false ∧ wakeOk (.frame 0 1 []) = false ∧
      int32 2147483648 = false ∧ int32 (-2147483649) = false ∧ hostSide (.udp 0) = false ∧
      frameOk ⟨536870912, 0, [], 0, 0⟩ = false ∧ wellFormed (.spiFrameIgnored 0x0B) = false := by decide

theorem test_ill_formed_1 :
    ([
      .spiWrite 65536 [] .whole, .spiRead 65536 0 .whole, .spiWriteCrc 65536 0 [] 0 .complete,
      .spiReadCrc 65536 0 (.whole 0), .hifDoorbellWrite (.udp 0) 0, .hifReleaseWrite (.udp 0) 0,
      .hifIrqStatusClear (.udp 0) 0, .hifErrClear (.udp 0) 0, .registerWrite .spi 65536 [], .devtimeLoRead (.udp 0),
      .feltPosRead .spi 8, .appAccessError 4294967296 0, .segmentTimeout .spi 16, .udpRequest ⟨0, 65536, 0, []⟩ [],
      .udpRelease ⟨0, 65536, 0, []⟩ [], .udpNoticeResend 65536 0, .vlogicWarning 2147483648, .vlogicWarningCleared 2147483648,
      .vlogicDip 2147483648, .rideThrough 2147483648 0, .lastGasp 2147483648, .vaultEntry 2147483648,
      .vlogicRestored 2147483648, .norCheckDone true true true 2147483648, .reservoirMeasured 0 2147483648,
      .frostBusWake 2 .pattern, .frostFieldWake 32, .vfieldLow 2 0, .vfieldSag 2 0, .vfieldRecovered 2 0,
      .vfieldVdCutoff 2147483648, .vfieldVdRestored 2147483648, .vfieldIoNoSupply 2147483648, .cellCheckFailed 4 0 0,
      .shadowCheck 4 true true true, .memoryScrub 8 [], .eccError 8 0 true true, .reservoirEnergyUpdate 2147483648,
      .reservoirChargeTimeout 2147483648, .parallelShareLow 128 0 0] : List Instr).all (fun i => !wellFormed i) = true := by decide

theorem test_ill_formed_2 :
    ([
      .encoderEdge 384 true true, .feltStall 384, .feltReferenceReceived 4 0 [], .remoteFeltLost 8, .wheelDispatch 8 0,
      .parcelClose 16, .parcelLeave 16, .parcelHandoffReceived 4 0 [], .parcelHandoffTimeout 16 0, .adoptionGap 16,
      .parcelHistoryComplete .spi 16 0, .weirConversionEnd 128 ⟨0, 0, [], false, true⟩, .windowViolation 128 [] 0,
      .stationPublish 128, .rangePinExpired 128, .loopInputOverload 128 0, .loopShuntReclose 128 0, .brxLimit 3 0 true,
      .compStale 128, .stillScan 128 ⟨0, 0, [], false, true⟩, .tapTrigger 4294967296 true true [],
      .grainTempRecord 2 [] true 0 0, .rawSample 0 2147483648 0 true, .loadcellViolation 0 0 8, .permissiveClear 16,
      .deckleConfirmed 16 0, .deckleCleared 16 0, .feltStopReaction 16, .targetTimeout 16, .heatPhaseTimeout 16,
      .plenumLoopStep 16, .plenumInvalidTimeout 16, .exposureStep 16, .batchPhaseTimeout 16, .siloEvaluation 16,
      .weighEmptyDetect 16, .weighPhaseTimeout 16, .pulsePhaseEnd 12 0 0, .peakStart 3, .pulseDeferLimit 3] : List Instr).all (fun i => !wellFormed i) = true := by decide

theorem test_ill_formed_3 :
    ([
      .valveOvercurrent 12 0, .bankOvercurrent 3 0, .valveRetry 12, .lsLandLow 12 0, .leakEscalation 12 0,
      .valveHeadroom 12 0 0, .coilModelStep 12 0 none, .kinkEvaluation 12 [], .boostReadyChange 2147483648,
      .boostFault 2147483648, .clampHotClear 3, .fioInputChange 128 true 0, .fioCountEdge 128, .fioFreqGate 128,
      .fioOutputFault 128, .fioOutputFaultClear 128, .outputCmdTimeout 128, .loopOutputDeviation 128 0 0,
      .loopOutputRecovered 128 0 0, .canFrameReceived 4 ⟨0, 0, [], 0, 0⟩, .rxRingDrain 4, .canFrameSent 4 0 0,
      .canErrorStateChange 4 0 0 none, .busOff 4, .busoffRecoveryDone 4, .failback 4, .frameSendTimeout 4 0,
      .periodicSend 4 0, .referenceMessageSend 4, .referenceMessage 4 0 [] 0, .referenceMissing 4, .ethFrame 3 [] true,
      .arpRequest 3 [] [] [], .icmpEcho 3 [] [] [] [], .loopProbeSend 3, .loopProbeReturn 3 0, .ptpMessage ⟨2, 0, 0, 0, 0, 0, .silent⟩, .linkChange 3 0,
      .sessionIdle 65536, .authLockoutEnd 4294967296 0, .freshetOffer 3 [] [] []] : List Instr).all (fun i => !wellFormed i) = true := by decide

theorem test_ill_formed_4 :
    ([
      .freshetOpen 3 [] [] [], .freshetChallenge 3 [] [] [], .freshetAuth 3 [] [] [], .freshetAccept 3 [] [] [],
      .freshetGet 3 [] [] [], .freshetData 3 [] [] [], .freshetRefuse 3 [] [] [], .freshetDone 3 [] [] [],
      .freshetOfferTimer 3, .reamTokenRefill 65536, .suppressionTimeout 65536, .reamReadBulkComplete .spi 16 0,
      .pllLockLost 3, .muxForced 32 0 0, .gateBusyTimeout 16 0 0, .oscCompensation 2 0, .freqMeasureDone 4294967296 0 0,
      .thermalTrip 14 true 0, .leakCleared 12 0, .headroomCleared 12 true, .islandStationStale 128,
      .coinCellFitted 2147483648, .peaksBlockedLowSupply 2147483648] : List Instr).all (fun i => !wellFormed i) = true := by decide

/-! Worked examples of the spec. -/

/-- F6 = F2 × 3/8 from F6 at 1,000 with rem 0 (spec/04_felt_time.md R140, its example). -/
def exDerived : State :=
  modFelt 6 (fun f => { f with pos := 1000 }) (wCfg [{ kind := 4, index := 2, flags := 1, body := [2] ++ zeros 63 },
    { kind := 4, index := 6, flags := 1, body := [3] ++ zeros 23 ++ [2] ++ zeros 3 ++ p4 3 ++ p4 8 ++ zeros 28 }] wRun)

theorem test_derived_felt_forward :
    (felt (moveFelt 3 2 5 exDerived) 6).pos = 1001 ∧ (felt (moveFelt 3 2 5 exDerived) 6).rem = 7 := by decide +kernel

theorem test_derived_felt_backward :
    (felt (moveFelt 3 2 (-2) (modFelt 6 (fun f => { f with pos := 1006 }) exDerived)) 6).pos = 1005 ∧
      (felt (moveFelt 3 2 (-2) (modFelt 6 (fun f => { f with pos := 1006 }) exDerived)) 6).rem = 2 := by decide +kernel

/-- Usable energy of 3,300 µF at 22.0, 24.0 and 34.0 V, in 0.1 mJ (spec/03_configuration.md R117, spec/18 R571: the examples). -/
theorem test_usable_energy :
    [22000000, 24000000, 34000000].map (fun v => usableEnergy 3300 v / 200000000000000) = [2640, 4158, 13728] := by decide +kernel

/-- Clamp energy of TO_HOLD and of OFF, in µJ (spec/10_valve_drive.md R369, its example). -/
theorem test_clamp_energy :
    (roundRat (clampEnergy 2000 2000000 500000 24000000 * 1000000), roundRat (clampEnergy 2000 500000 0 24000000 * 1000000)) =
      (5945, 396) := by decide +kernel

/-- Days to the end of life of the example of spec/16_fault_absorption.md R536. -/
theorem test_days_left : (daysAt 452000 600, daysAt 452000 664, daysAt 452000 536) = (753, 680, 843) := by decide +kernel

/-- Moisture and density coefficients of the example after spec/07_moisture_engine.md R273. -/
def exCal : List Byte :=
  zeros 19 ++ [0, 150, 190, 2, 1] ++ zeros 4 ++ p4 0x404CCCCD ++ zeros 8 ++ p4 0x42780000 ++ p4 0xC0900000 ++ zeros 4 ++ p4 0x41000000 ++
    zeros 20 ++ p4 0x42F00000 ++ p4 0x43AA0000 ++ p4 0xC37A0000

theorem test_moisture_polynomial :
    roundRat (moisturePoly exCal (225 / 1000) (4 / 10) * 1000) = 17150 ∧ roundRat (densityOf exCal 3 (225 / 1000) * 1000) = 743750 := by
  decide +kernel

/-- A three-wire Pt100 pair: (V_A + V_B) ÷ 2.0000 mA (spec/05_weir.md R184, its example). -/
theorem test_rtd_pair :
    pairOhms (wCfg [wStnP 20 1 1 [0] ([3, 1, 0, 0, 7, 7, 0, 1, 0, 0] ++ p2 0xFFFF ++ p4 1000 ++ zeros 100)] wRun) 20
      (123230328 / 1000000000) (123153472 / 1000000000) = 1231919 / 10000 := by decide +kernel

/-- Entry 0 of the audit trail chains over itself from zero (spec/06_watermark.md R238, R239). -/
theorem test_manufactured_chain : manufactured.chain = crc32From 0 (auditHead manufactured) := by decide +kernel

end Sys2Proof.Tests
end

/-! Proofs of the statements of spec/00_scope.md: the step that takes the front command, the reset values of the registers,
and their access types. The rules for the bytes of a word, for a write and for a read of the host window stand before the
statement that is put together from them. -/

namespace Sys2Proof.Machine

/-! ### One step -/

/-- With a command at the front, a step carries it out on the state that keeps the rest of the queue. -/
theorem step_of_pending_cons {s : State} {c : Instr} {rest : List Instr} (h : s.pending = c :: rest) :
    step s = exec c { s with pending := rest } := by simp only [step, h]

/-- With an empty queue a step idles (notes/assumptions/1.md). -/
theorem step_of_pending_nil {s : State} (h : s.pending = []) : step s = .next (idle s) := by simp only [step, h]

@[simp] theorem idle_pending (s : State) : (idle s).pending = s.pending := settled_pending s _

/-- In ICE nothing but the Spring domain's clock passes. -/
theorem idle_of_ice {s : State} (h : s.sys.mode = .ice) : idle s = settled s (springTick s) := by simp only [idle, tick, h]

/-- Settles O1, from the two branches of `step`: a queue with a front, and an empty one. -/
theorem stepRunsFrontCommand : Obligations.StepRunsFrontCommand := by
  unfold Obligations.StepRunsFrontCommand
  refine ⟨fun s c rest h => step_of_pending_cons h, fun s h => ?idles, fun s h hice => ?ice⟩
  case idles => exact ⟨step_of_pending_nil h, (idle_pending s).trans h⟩
  case ice => rw [step_of_pending_nil h, idle_of_ice hice, springTick]

/-! ### The registers at reset (spec/02_sluices.md R58–R60; spec/04_felt_time.md R148) -/

@[simp] theorem hifOf_reset (d : Side) : hifOf State.reset d = {} := by cases d <;> rfl

@[simp] theorem statusWord_reset : statusWord State.reset = 0x100 := by decide

/-- No heartbeat is enabled at reset, so none runs out. -/
@[simp] theorem hbLeft_reset (d : Side) : hbLeft State.reset d = 0xFFFFFFFF := rfl

@[simp] theorem felt_reset (f : Nat) : felt State.reset f = {} := rfl

/-- No felt has an object at reset; F0 is enabled without one. -/
@[simp] theorem feltState_reset (f : Nat) : feltState State.reset f = if f = 0 then 1 else 0 := by
  have hoff : feltOn State.reset f = false := rfl
  by_cases hf : f = 0 <;> simp [feltState, b01, hoff, hf]

@[simp] theorem feltEntries_reset (f : Nat) : feltEntries State.reset f = 0 := by
  have hnone : entriesOn State.reset f = [] := rfl
  simp [feltEntries, hnone]

theorem mirror_reset (f : Nat) : mirror State.reset f = [0, if f = 0 then 1 else 0, 0, 0, 0, 0, 0, 0] := by
  simp [mirror, w32, u32]

/-- Device time starts at zero. -/
theorem devTime_reset : State.reset.sys.devTime = 0 := rfl

/-- Settles O6: every side's registers, every felt and the clock gates stand at their reset values. -/
theorem registersReadResetValues : Obligations.RegistersReadResetValues := by
  unfold Obligations.RegistersReadResetValues
  refine ⟨fun d _ => ?registers, fun f _ => mirror_reset f, rfl, rfl⟩
  case registers => simp [hifWord, mirrorWord, devTime_reset]

/-! ### Bytes of a word -/

/-- A field of `w` bytes, least significant first. -/
theorem leBytes_eq_map (w n : Nat) : leBytes w n = (List.range w).map (fun i => BitVec.ofNat 8 (n / 256 ^ i)) := by
  induction w generalizing n with
  | zero => rfl
  | succ w ih =>
    simp [leBytes, ih, List.range_succ_eq_map, Nat.div_div_eq_div_mul, Nat.pow_succ, Nat.mul_comm, Function.comp_def]

/-- Byte `k` of a register word. -/
def wordByte (v : Reg) (k : Nat) : Byte := v.extractLsb' (8 * k) 8

theorem leBytes_toNat (v : Reg) : leBytes 4 v.toNat = [wordByte v 0, wordByte v 1, wordByte v 2, wordByte v 3] := by
  simp [leBytes, wordByte, BitVec.extractLsb', Nat.shiftRight_eq_div_pow, Nat.div_div_eq_div_mul]

/-- A byte at place `k` names bits of the word's byte `k` only. -/
theorem getElem_byteBits (k : Nat) (b : Byte) {j : Nat} (hj : j < 32) :
    (byteBits k b)[j] = (decide (j / 8 = k) && b.getLsbD (j % 8)) := by
  by_cases hk : j / 8 = k
  · have hge : ¬ j < 8 * k := by omega
    have hmod : j - 8 * k = j % 8 := by omega
    simp [byteBits, hk, hge, hmod]
  · have hout : j < 8 * k ∨ 8 ≤ j - 8 * k := by omega
    rcases hout with h | h <;> simp [byteBits, hk, h]

theorem getElem_byteBits_wordByte (v : Reg) (k : Nat) {j : Nat} (hj : j < 32) :
    (byteBits k (wordByte v k))[j] = (decide (j / 8 = k) && v[j]) := by
  have hlt : j % 8 < 8 := Nat.mod_lt j (by decide)
  rw [getElem_byteBits k _ hj]
  by_cases hk : j / 8 = k
  · have hsum : 8 * k + j % 8 = j := by omega
    simp [wordByte, hk, hlt, hsum, hj]
  · simp [hk]

theorem putByte_eq (w : Reg) (k : Nat) (b : Byte) :
    putByte w k b = w &&& ~~~byteBits k (BitVec.allOnes 8) ||| byteBits k b := rfl

/-- A byte put into a word gives the word that byte and leaves its others. -/
theorem getElem_putByte_wordByte (w v : Reg) (k : Nat) {j : Nat} (hj : j < 32) :
    (putByte w k (wordByte v k))[j] = if j / 8 = k then v[j] else w[j] := by
  have hlt : j % 8 < 8 := Nat.mod_lt j (by decide)
  simp only [putByte_eq, BitVec.getElem_or, BitVec.getElem_and, BitVec.getElem_not, getElem_byteBits_wordByte v k hj,
    getElem_byteBits k (BitVec.allOnes 8) hj, BitVec.getLsbD_allOnes, hlt]
  by_cases hk : j / 8 = k <;> simp [hk]

/-- Every bit of a word lies in one of its four bytes. -/
theorem byteIndex_cases {j : Nat} (hj : j < 32) : j / 8 = 0 ∨ j / 8 = 1 ∨ j / 8 = 2 ∨ j / 8 = 3 := by omega

/-- The four bytes of a write-one-to-clear word clear exactly the word's bits. -/
theorem clearBytes_eq (w v : Reg) :
    w &&& ~~~byteBits 0 (wordByte v 0) &&& ~~~byteBits 1 (wordByte v 1) &&& ~~~byteBits 2 (wordByte v 2) &&&
      ~~~byteBits 3 (wordByte v 3) = w &&& ~~~v := by
  ext j hj
  rcases byteIndex_cases hj with h | h | h | h <;> simp [getElem_byteBits_wordByte, h]

/-- Four bytes put one by one into a word whose reserved bits keep reading zero make the word, without those bits. -/
theorem putBytes_eq (w v m : Reg) :
    putByte (putByte (putByte (putByte w 0 (wordByte v 0) &&& m) 1 (wordByte v 1) &&& m) 2 (wordByte v 2) &&& m) 3
      (wordByte v 3) &&& m = v &&& m := by
  ext j hj
  rcases byteIndex_cases hj with h | h | h | h <;> simp [getElem_putByte_wordByte, h]

/-! ### Regions of the host window (spec/02_sluices.md R57) -/

/-- The sluice window shows a page of 4 KiB at most. -/
theorem windowBytes_le (s : State) (d : Side) : windowBytes s d ≤ 4096 := by
  unfold windowBytes
  split
  · exact Nat.min_le_left _ _
  · exact Nat.zero_le _

theorem regionOf_registers (s : State) (d : Side) {a : Nat} (ha : a < 0x100) : regionOf s d a = some (0, 0x100) :=
  if_pos ha

theorem inside_registers (s : State) (d : Side) {a n : Nat} (ha : a < 0x100) (hn : a + n ≤ 0x100) : inside s d a n = n := by
  have hend : n ≤ 0x100 - a := by omega
  simp [inside, regionOf_registers s d ha, hend]

/-- A word of the felt mirror or of the device-time registers stands wholly in its region. -/
theorem inside_mirrorWord (s : State) (d : Side) {a : Nat} (hw : a % 4 = 0) (hlo : 0x8000 ≤ a) (hhi : a < 0x8110) :
    inside s d a 4 = 4 := by
  have hwin := windowBytes_le s d
  have hreg : ¬ a < 0x100 := by omega
  have hpage : ¬ a < 0x1000 + windowBytes s d := by omega
  by_cases hfelt : a < 0x8100
  · have hend : 4 ≤ 0x8100 - a := by omega
    simp [inside, regionOf, hreg, hpage, hlo, hfelt, hend]
  · have htime : 0x8100 ≤ a := by omega
    have hend : 4 ≤ 0x8110 - a := by omega
    simp [inside, regionOf, hreg, hpage, hfelt, htime, hhi, hend]

/-! ### Writes (spec/02_sluices.md R13, R57–R60) -/

theorem modHif_modHif (d : Side) (f g : Hif → Hif) (s : State) : modHif d g (modHif d f s) = modHif d (fun h => g (f h)) s := by
  cases d <;> rfl

/-- A write inside the registers stores its bytes in ascending order. -/
theorem hostWrite_registers (d : Side) (a : Nat) (bs : List Byte) (s : State) (ha : a < 0x100) (hn : a + bs.length ≤ 0x100) :
    hostWrite d a bs s = regBytes d a bs s := by
  simp only [hostWrite, inside_registers s d ha hn, List.take_length, if_pos ha, Nat.lt_irrefl, if_false]
  cases bs <;> rfl

/-- A write that ends before HIF_DOORBELL or begins behind HIF_RELEASE rings neither (R63). -/
theorem ringAll_silent (d : Side) (a : Nat) (bs : List Byte) (s : State) (h : a + bs.length ≤ 0x18 ∨ 0x1C < a) :
    ringAll d a bs s = s := by
  have hout (w : Nat) (hw : w = 0x18 ∨ w = 0x1C) : (if a ≤ w && a < 0x100 then bs[w - a]? else none) = none := by
    by_cases hge : a ≤ w
    · have hend : bs.length ≤ w - a := by omega
      simp [List.getElem?_eq_none hend]
    · simp [hge]
  simp only [ringAll, hout 0x18 (.inl rfl), hout 0x1C (.inr rfl)]

/-- A write of registers other than HIF_DOORBELL and HIF_RELEASE is its bytes' writes and no more. -/
theorem hostStore_registers (d : Side) (a : Nat) (bs : List Byte) (s : State) (ha : a < 0x100) (hn : a + bs.length ≤ 0x100)
    (hr : a + bs.length ≤ 0x18 ∨ 0x1C < a) : hostStore d a bs s = regBytes d a bs s := by
  rw [hostStore, hostWrite_registers d a bs s ha hn, ringAll_silent d a bs _ hr]

/-- The felt mirror and the device time are read only. -/
theorem hostStore_mirrorWord (d : Side) {a : Nat} (v : Reg) (s : State) (hw : a % 4 = 0) (hlo : 0x8000 ≤ a) (hhi : a < 0x8110) :
    hostStore d a (leBytes 4 v.toNat) s = s := by
  have hreg : ¬ a < 0x100 := by omega
  have hwin : ¬ a < 0x8000 := by omega
  rw [leBytes_toNat, hostStore, ringAll_silent _ _ _ _ (.inr (by omega))]
  simp [hostWrite, inside_mirrorWord s d hw hlo hhi, hreg, hwin]

/-- A word written to such a register acts byte by byte, the lowest first. -/
theorem hostStore_word (d : Side) (a : Nat) (v : Reg) (s : State) (hn : a + 4 ≤ 0x100) (hr : a + 4 ≤ 0x18 ∨ 0x1C < a) :
    hostStore d a (leBytes 4 v.toNat) s =
      regByte d (a + 3) (wordByte v 3) (regByte d (a + 2) (wordByte v 2)
        (regByte d (a + 1) (wordByte v 1) (regByte d a (wordByte v 0) s))) := by
  rw [leBytes_toNat]
  exact hostStore_registers d a _ s (by omega) hn hr

theorem hostStore_ctrl (d : Side) (v : Reg) (s : State) :
    hostStore d 0x08 (leBytes 4 v.toNat) s = modHif d (fun h => { h with ctrl := v &&& 0x3#32 }) s := by
  rw [hostStore_word d _ v s (by decide) (by decide)]
  simp [regByte, modHif_modHif, putBytes_eq]

theorem hostStore_windowSel (d : Side) (v : Reg) (s : State) :
    hostStore d 0x0C (leBytes 4 v.toNat) s = modHif d (fun h => { h with windowSel := v &&& 0x70F#32 }) s := by
  rw [hostStore_word d _ v s (by decide) (by decide)]
  simp [regByte, modHif_modHif, putBytes_eq]

theorem hostStore_irqEnable (d : Side) (v : Reg) (s : State) :
    hostStore d 0x14 (leBytes 4 v.toNat) s = modHif d (fun h => { h with irqEnable := v &&& 0xF000FFFF#32 }) s := by
  rw [hostStore_word d _ v s (by decide) (by decide)]
  simp [regByte, modHif_modHif, putBytes_eq]

theorem hostStore_irqStatus (d : Side) (v : Reg) (s : State) :
    hostStore d 0x10 (leBytes 4 v.toNat) s = modHif d (fun h => { h with irqStatus := h.irqStatus &&& ~~~v }) s := by
  rw [hostStore_word d _ v s (by decide) (by decide)]
  simp [regByte, modHif_modHif, clearBytes_eq]

theorem hostStore_err (d : Side) (v : Reg) (s : State) :
    hostStore d 0x24 (leBytes 4 v.toNat) s = modHif d (fun h => { h with err := h.err &&& ~~~v }) s := by
  rw [hostStore_word d _ v s (by decide) (by decide)]
  simp [regByte, modHif_modHif, clearBytes_eq]

/-- HIF_STATUS is read only. -/
theorem hostStore_status (d : Side) (v : Reg) (s : State) : hostStore d 0x04 (leBytes 4 v.toNat) s = s := by
  rw [hostStore_word d _ v s (by decide) (by decide)]
  rfl

/-- While the window is served, a write that changes a side's registers does so; a session has no window and no registers
(R52). -/
theorem sideWrite_served_of_modHif {d : Side} {s : State} {a : Nat} {bs : List Byte} {g : Hif → Hif} (hs : served s = true)
    (h : hostStore d a bs s = modHif d g s) : sideWrite d a bs s = modHif d g s := by
  cases d with
  | udp n => rfl
  | spi => simpa [sideWrite, hs] using h
  | app => simpa [sideWrite, hs] using h

/-- While the window is not served a write is lost, and only an SPI frame is told of it afterwards (R57, R82). -/
theorem sideWrite_not_served (d : Side) {s : State} (a : Nat) (bs : List Byte) (hs : served s = false) :
    sideWrite d a bs s = lateFrame d s := by
  cases d <;> simp [sideWrite, hs, lateFrame]

theorem hifIrqStatusClearFx_served (d : Side) (v : Reg) {s : State} (hs : served s = true) :
    hifIrqStatusClearFx d v s = modHif d (fun h => { h with irqStatus := h.irqStatus &&& ~~~v }) s :=
  sideWrite_served_of_modHif hs (hostStore_irqStatus d v s)

theorem hifErrClearFx_served (d : Side) (v : Reg) {s : State} (hs : served s = true) :
    hifErrClearFx d v s = modHif d (fun h => { h with err := h.err &&& ~~~v }) s :=
  sideWrite_served_of_modHif hs (hostStore_err d v s)

/-! ### Reads that latch (spec/02_sluices.md R60; spec/04_felt_time.md R148) -/

/-- The bytes of a word of the felt mirror or of the device time. -/
theorem hostByte_mirrorWord (s : State) (d : Side) {a : Nat} (hw : a % 4 = 0) (hlo : 0x8000 ≤ a) :
    (List.range 4).map (fun i => hostByte s d (a + i)) = leBytes 4 (mirrorWord s d a) := by
  rw [leBytes_eq_map]
  refine List.map_congr_left fun i hi => ?_
  have hlt : i < 4 := List.mem_range.mp hi
  have hreg : ¬ a + i < 0x100 := by omega
  have hwin : ¬ a + i < 0x8000 := by omega
  have hword : (a + i) / 4 * 4 = a := by omega
  have hbyte : (a + i) % 4 = i := by omega
  simp [hostByte, hreg, hwin, hword, hbyte]

/-- A word read from the felt mirror or the device time latches first, and is whole. -/
theorem hostRead_mirrorWord (s : State) (d : Side) {a : Nat} (hw : a % 4 = 0) (hlo : 0x8000 ≤ a) (hhi : a < 0x8110) :
    hostRead d a 4 s = (leBytes 4 (mirrorWord (latchRead d a 4 s) d a), latchRead d a 4 s) := by
  simp [hostRead, windowRead, inside_mirrorWord s d hw hlo hhi, hostByte_mirrorWord _ d hw hlo, zeros]

/-- A read of DEVTIME_LO touches no felt's position. -/
theorem latchRead_devtimeLo (d : Side) (s : State) : latchRead d 0x8100 4 s = latchTime d s := by
  simp [latchRead, List.range_succ]

/-- A read of one felt's position touches no other word that latches. -/
theorem latchRead_feltPos (d : Side) {f : Nat} (hf : f < 8) (s : State) :
    latchRead d (0x8000 + 32 * f) 4 s = latchFelt d f s := by
  obtain rfl | rfl | rfl | rfl | rfl | rfl | rfl | rfl :
      f = 0 ∨ f = 1 ∨ f = 2 ∨ f = 3 ∨ f = 4 ∨ f = 5 ∨ f = 6 ∨ f = 7 := by omega
  all_goals simp [latchRead, List.range_succ]

theorem latchTime_sys (d : Side) (s : State) : (latchTime d s).sys = s.sys := by cases d <;> rfl

theorem felt_latchFelt (d : Side) (f g : Nat) (s : State) : felt (latchFelt d f s) g = felt s g := by cases d <;> rfl

theorem hostRead_devtimeLo (d : Side) (s : State) :
    hostRead d 0x8100 4 s = (leBytes 4 (s.sys.devTime % 4294967296), latchTime d s) := by
  rw [hostRead_mirrorWord s d (by decide) (by decide) (by decide), latchRead_devtimeLo]
  simp [mirrorWord, latchTime_sys]

theorem hostRead_feltPos (d : Side) {f : Nat} (hf : f < 8) (s : State) :
    hostRead d (0x8000 + 32 * f) 4 s = (leBytes 4 (w32 (felt s f).pos), latchFelt d f s) := by
  have hlt : 0x8000 + 32 * f < 0x8100 := by omega
  rw [hostRead_mirrorWord s d (by omega) (by omega) (by omega), latchRead_feltPos d hf]
  simp [mirrorWord, hlt, felt_latchFelt]

/-! ### Frames of the SPI side and accesses of the application (spec/02_sluices.md R54–R57, R82) -/

section
variable {s : State} (hmode : s.sys.mode ≠ .recovery) (hready : s.sys.ready = true) (hplain : s.hifSpi.ctrl.getLsbD 1 = false)
include hmode hready hplain

/-- Where HRDY is high and CRC_REQ clear, a plain frame is carried out. -/
theorem plainFrame_ready (n : Nat) (f : State → State) : plainFrame n f s = f s := by
  simp only [plainFrame, if_neg hmode, hready, hplain, Bool.not_true, Bool.false_eq_true, if_false]

theorem spiWriteFx_whole (addr : Nat) (data : List Byte) :
    spiWriteFx addr data .whole s = hostStore .spi (addr % 65536) data (bareFrame 0 s) :=
  plainFrame_ready hmode hready hplain _ _

theorem spiReadFx_whole (addr len : Nat) :
    spiReadFx addr len .whole s =
      setMiso (statusByte s :: 0 :: 0 :: (hostRead .spi (addr % 65536) len s).1) (hostRead .spi (addr % 65536) len s).2 :=
  plainFrame_ready hmode hready hplain _ _

theorem devtimeLoReadFx_spi :
    devtimeLoReadFx .spi s =
      setMiso (statusByte s :: 0 :: 0 :: leBytes 4 (s.sys.devTime % 4294967296)) (latchTime .spi s) := by
  have hread := spiReadFx_whole hmode hready hplain 0x8100 4
  rwa [Nat.mod_eq_of_lt (by decide), hostRead_devtimeLo] at hread

theorem feltPosReadFx_spi {f : Nat} (hf : f < 8) :
    feltPosReadFx .spi f s = setMiso (statusByte s :: 0 :: 0 :: leBytes 4 (w32 (felt s f).pos)) (latchFelt .spi f s) := by
  have hread := spiReadFx_whole hmode hready hplain (0x8000 + 32 * f) 4
  rw [Nat.mod_eq_of_lt (by omega), hostRead_feltPos .spi hf] at hread
  rwa [feltPosReadFx, sideRead, Nat.mod_eq_of_lt hf]

end

/-- A load of a word of the felt mirror or the device time lies in one region. -/
theorem appLoad_mirrorWord {a : Nat} (s : State) (hw : a % 4 = 0) (hlo : 0x8000 ≤ a) (hhi : a < 0x8110) :
    appLoad a 4 s = setBusError false (hostRead .app a 4 s).1 (hostRead .app a 4 s).2 := by
  have hreg : ¬ a < 0x100 := by omega
  have hmay : appMay s a 4 = true := by simp [appMay, inside_mirrorWord s .app hw hlo hhi, hreg]
  simp [appLoad, hmay]

theorem devtimeLoReadFx_app {s : State} (hready : s.sys.ready = true) :
    devtimeLoReadFx .app s = setBusError false (leBytes 4 (s.sys.devTime % 4294967296)) (latchTime .app s) := by
  have hload := appLoad_mirrorWord (a := 0x8100) s (by decide) (by decide) (by decide)
  rw [hostRead_devtimeLo] at hload
  rwa [devtimeLoReadFx, sideRead, if_pos hready]

theorem feltPosReadFx_app {s : State} {f : Nat} (hf : f < 8) (hready : s.sys.ready = true) :
    feltPosReadFx .app f s = setBusError false (leBytes 4 (w32 (felt s f).pos)) (latchFelt .app f s) := by
  have hload := appLoad_mirrorWord (a := 0x8000 + 32 * f) s (by omega) (by omega) (by omega)
  rw [hostRead_feltPos .app hf] at hload
  rwa [feltPosReadFx, sideRead, if_pos hready, Nat.mod_eq_of_lt hf]

theorem registerWriteFx_app_inside {s : State} {addr : Nat} {data : List Byte} (hready : s.sys.ready = true)
    (hmay : appMay s addr data.length = true) :
    registerWriteFx .app addr data s = setBusError false [] (hostStore .app addr data s) := by
  simp [registerWriteFx, hready, hmay]

theorem registerWriteFx_app_outside {s : State} {addr : Nat} {data : List Byte} (hready : s.sys.ready = true)
    (hmay : appMay s addr data.length = false) : registerWriteFx .app addr data s = setBusError true [] s := by
  simp [registerWriteFx, hready, hmay]

/-! ### The rows, settled -/

theorem exec_hifIrqStatusClear (d : Side) (v : Reg) (s : State) :
    exec (.hifIrqStatusClear d v) s = .next (settled s (hifIrqStatusClearFx d v s)) := rfl

theorem exec_hifErrClear (d : Side) (v : Reg) (s : State) :
    exec (.hifErrClear d v) s = .next (settled s (hifErrClearFx d v s)) := rfl

theorem exec_registerWrite (d : Side) (addr : Nat) (data : List Byte) (s : State) :
    exec (.registerWrite d addr data) s = .next (settled s (registerWriteFx d addr data s)) := rfl

theorem exec_devtimeLoRead (d : Side) (s : State) :
    exec (.devtimeLoRead d) s = .next (settled s (devtimeLoReadFx d s)) := rfl

theorem exec_feltPosRead (d : Side) (f : Nat) (s : State) :
    exec (.feltPosRead d f) s = .next (settled s (feltPosReadFx d f s)) := rfl

/-- Settles O15, clause by clause from the rules of the window: a write is its bytes' writes, each by its register's access
type, and a read of a mirror word is whole and latches. -/
theorem hostRegistersFollowAccessTypes : Obligations.HostRegistersFollowAccessTypes := by
  unfold Obligations.HostRegistersFollowAccessTypes
  refine ⟨fun s d v hs => ?irqStatus, fun s d v hs => ?notServed, fun s d v hs => ?err,
    fun s addr data hmode hready hplain => ?writeSpi, fun s addr data hready hmay => ?writeApp,
    fun s addr data hready hmay => ?writeOutside, fun s n addr data => rfl, fun s d v _ => ?accessTypes,
    fun s hready => ?timeApp, fun s hmode hready hplain => ?timeSpi, fun s n f => ⟨rfl, rfl⟩,
    fun s f hf hready => ?feltApp, fun s f hf hmode hready hplain => ?feltSpi⟩
  case irqStatus => rw [exec_hifIrqStatusClear, hifIrqStatusClearFx_served d v hs]
  case notServed =>
    constructor
    · rw [exec_hifIrqStatusClear, hifIrqStatusClearFx, sideWrite_not_served d _ _ hs]
    · rw [exec_hifErrClear, hifErrClearFx, sideWrite_not_served d _ _ hs]
  case err => rw [exec_hifErrClear, hifErrClearFx_served d v hs]
  case writeSpi => rw [exec_registerWrite, registerWriteFx, spiWriteFx_whole hmode hready hplain]
  case writeApp => rw [exec_registerWrite, registerWriteFx_app_inside hready hmay]
  case writeOutside => rw [exec_registerWrite, registerWriteFx_app_outside hready hmay]
  case accessTypes =>
    exact ⟨hostStore_irqEnable d v s, hostStore_ctrl d v s, hostStore_windowSel d v s, hostStore_status d v s,
      hostStore_mirrorWord d v s (by decide) (by decide) (by decide)⟩
  case timeApp => rw [exec_devtimeLoRead, devtimeLoReadFx_app hready]
  case timeSpi => rw [exec_devtimeLoRead, devtimeLoReadFx_spi hmode hready hplain]
  case feltApp => rw [exec_feltPosRead, feltPosReadFx_app hf hready]
  case feltSpi => rw [exec_feltPosRead, feltPosReadFx_spi hmode hready hplain hf]

end Sys2Proof.Machine

/-! Proofs of the statements of spec/01_one_view.md: what every step leaves, what settling an effect changes, the mode requests,
SAFE# and the resets, and the start. Two statements fail on the boost of the valve drive, which does not charge while its supply
blocks peaks, and one on a VLV_PULSE that waits when the watchdog runs out: each is refuted by a concrete state. -/

namespace Sys2Proof.Machine

/-! ### Every command settles -/

/-- No arm of `exec` stops: whatever the command, its outcome is some effect, settled. -/
theorem exec_settles (c : Instr) (s : State) : ∃ e, exec c s = .next (settled s e) := by
  cases c <;> exact ⟨_, rfl⟩

theorem exec_answers_next (c : Instr) (s : State) : ∃ t, exec c s = .next t ∧ t.pending = s.pending := by
  obtain ⟨e, he⟩ := exec_settles c s
  exact ⟨_, he, settled_pending s e⟩

theorem next_settled_congr {s e e' : State} (h : e = e') :
    (.next (settled s e) : Host.Outcome State Fault Refusal) = .next (settled s e') := by rw [h]

/-- Settles O2: every outcome is settled, and a step takes the front command or idles. -/
theorem everyCommandAnswersNext : Obligations.EveryCommandAnswersNext := by
  unfold Obligations.EveryCommandAnswersNext
  refine ⟨exec_answers_next, fun s => ?_⟩
  cases hq : s.pending with
  | nil => exact ⟨_, step_of_pending_nil hq, (idle_pending s).trans hq⟩
  | cons c rest =>
    rw [step_of_pending_cons hq]
    exact exec_answers_next c { s with pending := rest }

/-- Settles O5: BOOT without a cause, no station configured, nothing stored and nothing waiting. -/
theorem resetIsSound : Obligations.ResetIsSound := by
  unfold Obligations.ResetIsSound
  have hsound : sound State.reset := by decide +kernel
  exact ⟨hsound, rfl, rfl, Memory.reset_wf, rfl⟩

/-! ### The boost below 15.0 V (spec/10_valve_drive.md R354, R378) -/

/-- One enabled injector, on valve terminal 4 and so on bank 1. -/
def injectorStation : Obj := { kind := 2, index := 11, flags := 1, body := [0x31, 0, 0xFF, 0, 5, 1, 4] }

/-- COMMISSION with an injector configured and its bank closed; the boost was charging when VFIELD_VD fell below 15.0 V. -/
def boostCut : State :=
  { sys := { mode := .commission, ready := true }, cfg := { active := [injectorStation] }, power := { vfieldVd := 14000000 },
    valves := { banks := [(1, { closed := true })], boost := 1, peaksBlocked := true } }

theorem sound_boostCut : sound boostCut := by decide +kernel

/-- Settling stops the charging, though the mode and the injector still want the boost. -/
theorem settled_boostCut : boostOn (settled boostCut boostCut) = true ∧ (settled boostCut boostCut).valves.boost = 0 := by
  decide +kernel

/-- A step from it whose command changes nothing: RST# is released already. -/
theorem step_boostCut : step { boostCut with pending := [.rstReleased] } = .next (settled boostCut boostCut) := rfl

/-- Refutes O4: of what a step should leave, the boost does not run where it is wanted while its supply blocks peaks, not even
after a step from a sound state. -/
theorem not_everyStepLeavesSound : ¬ Obligations.EveryStepLeavesSound := by
  unfold Obligations.EveryStepLeavesSound
  intro h
  obtain ⟨t, ht, -, -, -, hboost⟩ := h { boostCut with pending := [.rstReleased] }
  obtain ⟨hwanted, hoff⟩ := settled_boostCut
  cases step_boostCut.symm.trans ht
  exact hboost.mp hwanted hoff

/-- Refutes O7: with the effect that changes nothing, settling still takes a boost that charges below 15.0 V to off, and the
valves are not as they were. -/
theorem not_settlingIsQuiet : ¬ Obligations.SettlingIsQuiet := by
  unfold Obligations.SettlingIsQuiet
  intro h
  obtain ⟨-, -, hsupplied⟩ := sound_boostCut
  obtain ⟨hsame, -⟩ := h boostCut boostCut sound_boostCut ⟨rfl, rfl⟩ hsupplied rfl nofun
  obtain ⟨-, -, -, -, -, -, -, -, -, -, -, -, -, -, hvalves, -⟩ := hsame
  have hcharging : (settled boostCut boostCut).valves.boost = 1 := congrArg Valves.boost hvalves
  exact absurd (settled_boostCut.2.symm.trans hcharging) (by decide)

/-! ### A VLV_PULSE that waits when the watchdog runs out (spec/02_sluices.md R92; spec/16_fault_absorption.md R525) -/

/-- A VLV_PULSE of a session, on its sluice 1. -/
def pulseOrg : Org := { side := .udp 0, sluice := 1, tag := 5, code := 0x0902 }

/-- RUN, with that command's pulse in the queue of bank 0. -/
def pulseWaits : State :=
  { sys := { mode := .run, ready := true }, net := { sessions := [(0, { id := 9 })] },
    mail := { sluices := [(1, { owner := some (.udp 0), sizeKib := 1, st := .busy })], jobs := [{ org := pulseOrg }] },
    valves := { banks := [(0, { queue := [{ org := some pulseOrg }] })] } }

/-- The restart withdraws the pulse and answers nothing. -/
theorem watchdog_pulseWaits_silent : (settled pulseWaits (watchdogExpiredFx pulseWaits)).mail.udpOut = [] := by decide +kernel

/-- Refutes O22 by its clause on WATCHDOG_EXPIRED: `outputsOff` answers a pulse that waits with WRONG_MODE, and to a session that
answer is a datagram; the model's restart forgets the command first. -/
theorem not_safeAndResetsAct : ¬ Obligations.SafeAndResetsAct := by
  unfold Obligations.SafeAndResetsAct
  rintro ⟨-, -, -, -, -, -, -, -, -, -, -, -, hdog⟩
  have hsame := Host.Outcome.next.inj (hdog pulseWaits (by decide) rfl)
  have hout := watchdog_pulseWaits_silent.symm.trans (congrArg (fun t => t.mail.udpOut) hsame)
  have hlength := congrArg List.length hout
  exact absurd hlength (by decide +kernel)

/-! ### SYS_MODE_REQUEST (spec/01_one_view.md R34; spec/02_sluices.md R90) -/

theorem exec_sysModeRequest_of_done {r : Req} {s t : State} {st : Nat} {data : List Byte} (ha : asks 0x0004 r s = true)
    (h : sysModeRequestH (reqOrg 0x0004 r) r.payload (begun 0x0004 r s) = .done st data t) :
    exec (.sysModeRequest r) s = .next (settled s (answered 0x0004 r st data t)) := by
  have hserve : sysModeRequestFx r s = answered 0x0004 r st data t := by
    rw [sysModeRequestFx, serve_of_asks ha, h, settleRes_done, answered]
  rw [← hserve]
  rfl

/-- No change or reset is in progress, no transaction is open, and the reserved bytes are zero: the mode decides (R34, R90). -/
abbrev modeDecides (b : List Byte) (s : State) : Prop := zeroAt b 1 3 = true ∧ s.sys.target = none ∧ s.cfg.txn = none

section
variable {o : Org} {b : List Byte} {s : State} (h : modeDecides b s)
include h

theorem modeRequestH_run_of_commission (hm : s.sys.mode = .commission) (hb : g1 b 0 = 4) (hsafe : s.sys.safePin = false)
    (hcfg : s.cfg.generation ≠ 0) : sysModeRequestH o b s = requested .run s := by
  obtain ⟨hz, ht, hx⟩ := h
  simp [sysModeRequestH, hz, ht, hx, hm, hb, hsafe, hcfg]

theorem modeRequestH_run_of_run (hm : s.sys.mode = .run) (hb : g1 b 0 = 4) (hsafe : s.sys.safePin = false) :
    sysModeRequestH o b s = .done sOK [] (zonesAck s) := by
  obtain ⟨hz, ht, hx⟩ := h
  simp [sysModeRequestH, hz, ht, hx, hm, hb, hsafe]

theorem modeRequestH_commission (hm : s.sys.mode = .run ∨ s.sys.mode = .hold) (hb : g1 b 0 = 3) (hq : zonesQuiet s = true) :
    sysModeRequestH o b s = requested .commission s := by
  obtain ⟨hz, ht, hx⟩ := h
  rcases hm with hm | hm <;> simp [sysModeRequestH, hz, ht, hx, hm, hb, hq]

theorem modeRequestH_still (hm : s.sys.mode = .run) (hb : g1 b 0 = 6) (hi : zonesIdle s = true) :
    sysModeRequestH o b s = requested .still s := by
  obtain ⟨hz, ht, hx⟩ := h
  simp [sysModeRequestH, hz, ht, hx, hm, hb, hi]

theorem modeRequestH_ice (hm : s.sys.mode = .run) (hb : g1 b 0 = 7) (hi : zonesIdle s = true) :
    sysModeRequestH o b s = requested .ice s := by
  obtain ⟨hz, ht, hx⟩ := h
  simp [sysModeRequestH, hz, ht, hx, hm, hb, hi]

end

theorem modeRequestH_reserved {o : Org} {b : List Byte} {s : State} (hz : zeroAt b 1 3 = false) :
    sysModeRequestH o b s = .done sBADOBJ [] s := by simp [sysModeRequestH, hz]

theorem modeRequestH_changing {o : Org} {b : List Byte} {s : State} (hz : zeroAt b 1 3 = true) (ht : s.sys.target ≠ none) :
    sysModeRequestH o b s = .done sBUSY [] s := by simp [sysModeRequestH, hz, Option.isSome_iff_ne_none.mpr ht]

theorem modeRequestH_transaction {o : Org} {b : List Byte} {s : State} (hz : zeroAt b 1 3 = true) (ht : s.sys.target = none)
    (hx : s.cfg.txn ≠ none) : sysModeRequestH o b s = .done sWRONGMODE [] s := by
  simp [sysModeRequestH, hz, ht, Option.isSome_iff_ne_none.mpr hx]

/-- What R90 does not allow: another mode, or one that the present mode or its conditions forbid. -/
abbrev changeForbidden (b : List Byte) (s : State) : Prop :=
  (g1 b 0 ≠ 3 ∧ g1 b 0 ≠ 4 ∧ g1 b 0 ≠ 6 ∧ g1 b 0 ≠ 7) ∨
    (g1 b 0 = 4 ∧ ((s.sys.mode ≠ .run ∧ s.sys.mode ≠ .commission) ∨ s.sys.safePin = true ∨
      (s.sys.mode = .commission ∧ s.cfg.generation = 0))) ∨
    (g1 b 0 = 3 ∧ ((s.sys.mode ≠ .run ∧ s.sys.mode ≠ .hold) ∨ zonesQuiet s = false)) ∨
    ((g1 b 0 = 6 ∨ g1 b 0 = 7) ∧ (s.sys.mode ≠ .run ∨ zonesIdle s = false))

/-- In each row of the mode table that names a mode, what is forbidden is that its condition fails; the other rows refuse. -/
theorem modeRequestH_forbidden {o : Org} {b : List Byte} {s : State} (hz : zeroAt b 1 3 = true) (ht : s.sys.target = none)
    (hf : changeForbidden b s) : sysModeRequestH o b s = .done sWRONGMODE [] s := by
  by_cases hx : s.cfg.txn = none
  case neg => exact modeRequestH_transaction hz ht hx
  simp only [sysModeRequestH, hz, ht, hx, Bool.not_true, Bool.false_eq_true, if_false, Option.isSome_none]
  split <;> simp_all [changeForbidden]

/-- Settles O21: each clause is a branch of the handler, answered as `serve_of_asks` says. BUSY comes before WRONG_MODE
(notes/assumptions/54.md). -/
theorem modeRequestStartsAllowedChanges : Obligations.ModeRequestStartsAllowedChanges := by
  unfold Obligations.ModeRequestStartsAllowedChanges
  refine ⟨?fromCommission, ?acknowledge, ?toCommission, ?toStill, ?toIce, ?changing, ?transaction, ?reserved, ?forbidden⟩
  case fromCommission =>
    intro s r ha hz ht hx hm hb hsafe hcfg
    exact exec_sysModeRequest_of_done ha (modeRequestH_run_of_commission ⟨hz, ht, hx⟩ hm hb hsafe hcfg)
  case acknowledge =>
    intro s r ha hz ht hx hm hb hsafe
    exact exec_sysModeRequest_of_done ha (modeRequestH_run_of_run ⟨hz, ht, hx⟩ hm hb hsafe)
  case toCommission =>
    intro s r ha hz ht hx hm hb hq
    exact exec_sysModeRequest_of_done ha (modeRequestH_commission ⟨hz, ht, hx⟩ hm hb hq)
  case toStill =>
    intro s r ha hz ht hx hm hb hi
    exact exec_sysModeRequest_of_done ha (modeRequestH_still ⟨hz, ht, hx⟩ hm hb hi)
  case toIce =>
    intro s r ha hz ht hx hm hb hi
    exact exec_sysModeRequest_of_done ha (modeRequestH_ice ⟨hz, ht, hx⟩ hm hb hi)
  case changing =>
    intro s r ha hz ht
    exact exec_sysModeRequest_of_done ha (modeRequestH_changing hz ht)
  case transaction =>
    intro s r ha hz ht hx
    exact exec_sysModeRequest_of_done ha (modeRequestH_transaction hz ht hx)
  case reserved =>
    intro s r ha hz
    exact exec_sysModeRequest_of_done ha (modeRequestH_reserved hz)
  case forbidden =>
    intro s r ha hz ht hf
    exact exec_sysModeRequest_of_done ha (modeRequestH_forbidden hz ht hf)

/-! ### What settling leaves alone where the ROM is at work (spec/01_one_view.md R33) -/

/-- What the switches of the valve banks and the boost can change: the valves, the recorder, and the counter of free values. -/
abbrev valvesOnly (s t : State) : Prop := t = { s with valves := t.valves, ream := t.ream, fresh := t.fresh }

theorem valvesOnly.trans {s t u : State} (h₁ : valvesOnly s t) (h₂ : valvesOnly t u) : valvesOnly s u := by
  rw [h₂, h₁]

theorem note_valvesOnly (code : Nat) (fields : List Int) (s : State) : valvesOnly s (note code fields s) := by
  rw [note_touches]

/-- A run of such operations is one. -/
theorem foldl_valvesOnly {α : Type} {f : State → α → State} (hf : ∀ t a, valvesOnly t (f t a)) (l : List α) (s : State) :
    valvesOnly s (l.foldl f s) := by
  induction l generalizing s with
  | nil => rfl
  | cons a l ih => exact (hf s a).trans (ih (f s a))

theorem chargeClamp_valvesOnly (c : Nat) (i0 i1 : Int) (s : State) : valvesOnly s (chargeClamp c i0 i1 s) := by
  unfold chargeClamp
  dsimp only
  split
  · exact note_valvesOnly ..
  · rfl

theorem decayTo_valvesOnly (c : Nat) (fast forced : Bool) (i0 i1 : Int) (s : State) :
    valvesOnly s (decayTo c fast forced i0 i1 s) := by
  unfold decayTo
  split
  · exact chargeClamp_valvesOnly c i0 i1 s
  · rfl

theorem stepDecay_valvesOnly (c : Nat) (i0 i1 : Int) (s : State) : valvesOnly s (stepDecay c i0 i1 s) := by
  unfold stepDecay
  split
  · rfl
  · exact decayTo_valvesOnly ..

theorem onValves_valvesOnly (f : Valves → Valves) (s : State) : valvesOnly s (onValves f s) := rfl

theorem touchChan_valvesOnly (c : Nat) (s : State) : valvesOnly s (touchChan c s) := by
  unfold touchChan
  exact (stepDecay_valvesOnly ..).trans (onValves_valvesOnly ..)

theorem pulseOver_valvesOnly (c : Nat) (s : State) : valvesOnly s (pulseOver c s) := by
  unfold pulseOver
  dsimp only
  split <;> rfl

theorem drawn_valvesOnly (n : Nat) (s : State) : valvesOnly s (drawn n s) := rfl

theorem killChan_valvesOnly (c : Nat) (s : State) : valvesOnly s (killChan c s) := by
  unfold killChan
  have hcut := (touchChan_valvesOnly c s).trans (decayTo_valvesOnly c true true (cutUa (touchChan c s) c) 0 _)
  exact ((hcut.trans (drawn_valvesOnly 1 _)).trans (pulseOver_valvesOnly c _)).trans (onValves_valvesOnly ..)

theorem driveProp_valvesOnly (c : Nat) (v : Int) (bypass : Bool) (s : State) : valvesOnly s (driveProp c v bypass s) := by
  unfold driveProp
  dsimp only
  split
  · exact (touchChan_valvesOnly c s).trans (onValves_valvesOnly ..)
  · exact ((touchChan_valvesOnly c s).trans (onValves_valvesOnly ..)).trans (stepDecay_valvesOnly ..)

theorem retake_valvesOnly (c : Nat) (s : State) : valvesOnly s (retake c s) := by
  unfold retake
  exact (driveProp_valvesOnly ..).trans (onValves_valvesOnly ..)

theorem refreshBanks_valvesOnly (s : State) : valvesOnly s (refreshBanks s) := by
  refine foldl_valvesOnly (fun t b => ?_) [0, 1, 2] s
  dsimp only
  split
  · exact (onValves_valvesOnly ..).trans (foldl_valvesOnly (fun u c => killChan_valvesOnly c u) ..)
  · split
    · refine (onValves_valvesOnly ..).trans (foldl_valvesOnly (fun u c => ?_) ..)
      split
      · exact retake_valvesOnly c u
      · rfl
    · rfl

theorem refreshBoost_valvesOnly (s : State) : valvesOnly s (refreshBoost s) := by
  unfold refreshBoost
  split <;> rfl

/-- The device-wide state, the image store, fault absorption and the supplies are as before, but for the queue of stores. -/
abbrev keepsDevice (s t : State) : Prop :=
  t.sys = s.sys ∧ t.fsh = s.fsh ∧ t.absorb = s.absorb ∧ t.power = { s.power with stores := t.power.stores }

theorem keepsDevice.trans {s t u : State} (h₁ : keepsDevice s t) (h₂ : keepsDevice t u) : keepsDevice s u := by
  obtain ⟨hsys, hfsh, habsorb, hpower⟩ := h₁
  obtain ⟨hsys', hfsh', habsorb', hpower'⟩ := h₂
  refine ⟨hsys'.trans hsys, hfsh'.trans hfsh, habsorb'.trans habsorb, ?_⟩
  rw [hpower', hpower]

theorem keepsDevice_of_endsOnly {s t : State} (h : endsOnly s t) : keepsDevice s t := by
  rw [h]
  exact ⟨rfl, rfl, rfl, rfl⟩

theorem keepsDevice_of_valvesOnly {s t : State} (h : valvesOnly s t) : keepsDevice s t := by
  rw [h]
  exact ⟨rfl, rfl, rfl, rfl⟩

theorem foldl_keepsDevice {α : Type} {f : State → α → State} (hf : ∀ t a, keepsDevice t (f t a)) (l : List α) (s : State) :
    keepsDevice s (l.foldl f s) := by
  induction l generalizing s with
  | nil => exact ⟨rfl, rfl, rfl, rfl⟩
  | cons a l ih => exact (hf s a).trans (ih (f s a))

theorem placeDue_keepsDevice (b s : State) : keepsDevice s (placeDue b s) := by
  unfold placeDue
  split
  · exact ⟨rfl, rfl, rfl, rfl⟩
  · refine foldl_keepsDevice (fun t j => ?_) ..
    split
    · split
      · exact keepsDevice_of_endsOnly (answerJob_touches ..)
      · exact ⟨rfl, rfl, rfl, rfl⟩
    · exact ⟨rfl, rfl, rfl, rfl⟩

theorem raiseIrqs_keepsDevice (b s : State) : keepsDevice s (raiseIrqs b s) := by
  unfold raiseIrqs irqBoth
  dsimp only
  split <;> split <;> exact ⟨rfl, rfl, rfl, rfl⟩

theorem pumpReam_keepsDevice (s : State) : keepsDevice s (pumpReam s) := by
  rw [pumpReam_touches]
  exact ⟨rfl, rfl, rfl, rfl⟩

theorem sendOut_keepsDevice (b : State) (e : Nat × List Byte) (s : State) : keepsDevice s (sendOut b e s) := by
  unfold sendOut enqueue modPort
  dsimp only
  repeat' split
  all_goals exact ⟨rfl, rfl, rfl, rfl⟩

theorem sendAll_keepsDevice (b s : State) : keepsDevice s (sendAll b s) :=
  foldl_keepsDevice (fun t e => sendOut_keepsDevice b e t) ..

/-- In a mode that takes no notice of HOLD causes nothing follows from them. -/
abbrev causeless (m : Mode) : Prop := m = .boot ∨ m = .recovery

theorem followCauses_of_causeless {b e : State} (h : causeless e.sys.mode) : followCauses b e = e := by
  rcases h with h | h <;> simp [followCauses, h]

theorem modeUnder_of_causeless {m : Mode} (c : BitVec 6) (h : causeless m) : modeUnder m c = m := by
  rcases h with rfl | rfl <;> rfl

theorem pinMode_self_of_causeless {e : State} (h : causeless e.sys.mode) : pinMode e e = e := by
  rw [pinMode, modeUnder_of_causeless _ h]
  rfl

/-- Where the ROM is at work, settling changes nothing of the device but whether the application runs, and the queue of stores. -/
theorem settled_keepsDevice {b e : State} (h : causeless e.sys.mode) :
    (settled b e).sys = { e.sys with appRunning := (settled b e).sys.appRunning } ∧ (settled b e).fsh = e.fsh ∧
      (settled b e).absorb = e.absorb ∧ (settled b e).power = { e.power with stores := (settled b e).power.stores } := by
  have hquiet : keepsDevice e (sendAll b (pumpReam (refreshBoost (refreshBanks (raiseIrqs b (placeDue b e)))))) :=
    ((((placeDue_keepsDevice b e).trans (raiseIrqs_keepsDevice b _)).trans
      (keepsDevice_of_valvesOnly (refreshBanks_valvesOnly _))).trans
      (keepsDevice_of_valvesOnly (refreshBoost_valvesOnly _))).trans
      ((pumpReam_keepsDevice _).trans (sendAll_keepsDevice b _))
  unfold settled
  rw [followCauses_of_causeless h, pinMode_self_of_causeless h]
  obtain ⟨hsys, hfsh, habsorb, hpower⟩ := hquiet
  refine ⟨?_, hfsh, habsorb, hpower⟩
  simp only [keepPending, refreshApp, pinMode, trimSent, onSys, hsys]
  rw [modeUnder_of_causeless _ h]

/-! ### The ROM's measurements and tests (spec/01_one_view.md R33; spec/16_fault_absorption.md R524) -/

theorem noteRom_touches (code : Nat) (fields : List Int) (s : State) :
    noteRom code fields s =
      { s with ream := (noteRom code fields s).ream, fsh := { s.fsh with loaderRecs := (noteRom code fields s).fsh.loaderRecs } } := by
  unfold noteRom
  split
  · rw [note_touches]
  · rfl

/-- What judging an indicator's wear can change: the indicators, and what is told of them. -/
abbrev agesOnly (s t : State) : Prop :=
  t = { s with
    absorb := { s.absorb with ages := t.absorb.ages }, ream := t.ream, fsh := { s.fsh with loaderRecs := t.fsh.loaderRecs } }

theorem agesOnly.trans {s t u : State} (h₁ : agesOnly s t) (h₂ : agesOnly t u) : agesOnly s u := by
  rw [h₂, h₁]

theorem noteRom_agesOnly (code : Nat) (fields : List Int) (s : State) : agesOnly s (noteRom code fields s) := by
  rw [noteRom_touches]

theorem ite_agesOnly {c : Prop} [Decidable c] {s t : State} (h : agesOnly s t) : agesOnly s (if c then t else s) := by
  split
  · exact h
  · rfl

theorem judgeAge_agesOnly (i : Nat) (w : Int) (s : State) : agesOnly s (judgeAge i w s) := by
  have hmod (f : Age → Age) : agesOnly s (modAge i f s) := rfl
  unfold judgeAge
  exact ((hmod _).trans (ite_agesOnly (noteRom_agesOnly ..))).trans (ite_agesOnly (noteRom_agesOnly ..))

/-- What the self-tests of the cores can change: what is known of the cores, the indicators, and what is told of them. -/
abbrev testsOnly (s t : State) : Prop :=
  t = { s with
    absorb := { s.absorb with dead := t.absorb.dead, core := t.absorb.core, ages := t.absorb.ages }, ream := t.ream,
    fsh := { s.fsh with loaderRecs := t.fsh.loaderRecs } }

theorem testsOnly_of_agesOnly {s t u : State} (h₁ : testsOnly s t) (h₂ : agesOnly t u) : testsOnly s u := by
  rw [h₂, h₁]

theorem dead_of_agesOnly {s t : State} (h : agesOnly s t) : t.absorb.dead = s.absorb.dead := by rw [h]

/-- The passage to one core or back to both is told of, and both failing is a step of its indicator. -/
theorem coreTests_of_alive {c0 c1 : Bool} (s : State) (h : ¬ (c0 = false ∧ c1 = false)) :
    agesOnly (onAbsorb (fun a => { a with dead := false, core := if c0 && c1 then 0 else if c0 then 1 else 2 }) s)
      (coreTests c0 c1 s) := by
  have halive : ¬ (!c0 && !c1) = true := by simpa using h
  have hlater (code : Nat) (fields : List Int) (t : State) : agesOnly t (noteLater code fields t) := rfl
  unfold coreTests
  rw [if_neg halive]
  dsimp only
  generalize (if (c0 && c1) = true then 0 else if c0 = true then 1 else 2 : Nat) = now
  split
  · rfl
  · split
    · exact hlater ..
    · exact (hlater ..).trans (judgeAge_agesOnly ..)

theorem coreTests_of_dead (s : State) : coreTests false false s = onAbsorb (fun a => { a with dead := true }) s := rfl

theorem coreTests_testsOnly (c0 c1 : Bool) (s : State) : testsOnly s (coreTests c0 c1 s) := by
  by_cases h : c0 = false ∧ c1 = false
  · obtain ⟨rfl, rfl⟩ := h
    rfl
  · exact testsOnly_of_agesOnly rfl (coreTests_of_alive s h)

theorem coreTests_dead_iff (c0 c1 : Bool) (s : State) :
    (coreTests c0 c1 s).absorb.dead = true ↔ c0 = false ∧ c1 = false := by
  by_cases h : c0 = false ∧ c1 = false
  · obtain ⟨rfl, rfl⟩ := h
    simp [coreTests_of_dead]
  · simp [dead_of_agesOnly (coreTests_of_alive s h), h]

theorem romSpring_touches (vbat : Int) (s : State) :
    romSpring vbat s =
      { s with power := (romSpring vbat s).power, absorb := { s.absorb with ages := (romSpring vbat s).absorb.ages } } := by
  by_cases hlow : vbat < 2400000 <;> simp only [romSpring, hlow, if_true, if_false] <;> rfl

/-- VBAT is as measured, VLOGIC_LOST has been passed on, and neither TRIP_LATCH nor a hold or request of the ROM is touched
(R570, R571). -/
theorem romSpring_power (vbat : Int) (s : State) :
    (romSpring vbat s).power.vbat = vbat ∧ (romSpring vbat s).power.sticky.getLsbD 0 = false ∧
      (romSpring vbat s).power.sticky.getLsbD 5 = s.power.sticky.getLsbD 5 ∧
      (romSpring vbat s).power.tripHold = s.power.tripHold ∧ (romSpring vbat s).power.recoveryReq = s.power.recoveryReq := by
  by_cases hlow : vbat < 2400000 <;> simp [romSpring, sticky, modAge, hlow]

/-- The state that the ROM chooses from: the Spring domain read, the cores tested. -/
def romTested (c0 c1 : Bool) (vbat : Int) (s : State) : State := coreTests c0 c1 (romSpring vbat s)

section
variable (c0 c1 : Bool) (vbat : Int) (s : State)

theorem romTested_touches :
    romTested c0 c1 vbat s =
      { s with
        power := (romSpring vbat s).power, absorb := { s.absorb with
          dead := (romTested c0 c1 vbat s).absorb.dead, core := (romTested c0 c1 vbat s).absorb.core,
          ages := (romTested c0 c1 vbat s).absorb.ages }
        ream := (romTested c0 c1 vbat s).ream
        fsh := { s.fsh with loaderRecs := (romTested c0 c1 vbat s).fsh.loaderRecs } } := by
  have htests : testsOnly (romSpring vbat s) (romTested c0 c1 vbat s) := coreTests_testsOnly ..
  rw [htests, romSpring_touches]

theorem romTested_sys : (romTested c0 c1 vbat s).sys = s.sys := by rw [romTested_touches]

theorem romTested_fsh :
    (romTested c0 c1 vbat s).fsh = { s.fsh with loaderRecs := (romTested c0 c1 vbat s).fsh.loaderRecs } := by
  rw [romTested_touches]

theorem romTested_journal : (romTested c0 c1 vbat s).fsh.journal = s.fsh.journal := by rw [romTested_fsh]

theorem romTested_backed : (romTested c0 c1 vbat s).fsh.backed = s.fsh.backed := by rw [romTested_fsh]

theorem romTested_recoveryCause : (romTested c0 c1 vbat s).fsh.recoveryCause = s.fsh.recoveryCause := by rw [romTested_fsh]

theorem romTested_power : (romTested c0 c1 vbat s).power = (romSpring vbat s).power := by rw [romTested_touches]

theorem romTested_recoveryReq : (romTested c0 c1 vbat s).power.recoveryReq = s.power.recoveryReq := by
  obtain ⟨-, -, -, -, hreq⟩ := romSpring_power vbat s
  rw [romTested_power, hreq]

theorem romTested_repairCopy : (romTested c0 c1 vbat s).absorb.repairCopy = s.absorb.repairCopy := by rw [romTested_touches]

theorem romTested_floorOf (k : Nat) : floorOf (romTested c0 c1 vbat s) k = floorOf s k := by rw [romTested_touches]; rfl

theorem romTested_installedImg (k : Nat) : installedImg (romTested c0 c1 vbat s) k = installedImg s k := by
  rw [romTested_touches]; rfl

theorem romTested_bootHeld : bootHeld (romTested c0 c1 vbat s) = bootHeld s := by
  obtain ⟨-, -, hlatch, hhold, -⟩ := romSpring_power vbat s
  rw [bootHeld, romTested_power, hhold, hlatch, bootHeld]

end

/-! ### What the ROM chooses (spec/01_one_view.md R33; spec/14_freshet.md R487, R489) -/

theorem countTrial_of_not_trial {s : State} (lost : Bool) (h : s.fsh.state ≠ 5) : countTrial lost s = s := by
  simp [countTrial, h]

theorem norCheckDoneFx_first {s : State} (ok c0 c1 : Bool) (vbat : Int) (hrom : romRuns s = true)
    (hchecked : s.sys.norChecked = false) (hfound : s.sys.norFound = none) (hstate : s.fsh.state ≠ 5) :
    norCheckDoneFx ok c0 c1 vbat s =
      if bootHeld s then onSys (fun y => { y with norFound := some ok }) (romTested c0 c1 vbat s)
      else romChoice ok (romTested c0 c1 vbat s) := by
  have hstate' : (romTested c0 c1 vbat s).fsh.state ≠ 5 := by rwa [romTested_fsh]
  have htrial := countTrial_of_not_trial (s.power.sticky.getLsbD 0) hstate'
  rw [romTested] at htrial
  simp only [norCheckDoneFx, hrom, hchecked, hfound, htrial, Bool.not_true, Bool.or_false, Option.isSome_none,
    Bool.false_eq_true, if_false]
  rw [← romTested, romTested_bootHeld]

theorem norCheckDoneFx_again {s : State} (ok c0 c1 : Bool) (vbat : Int)
    (h : romRuns s = false ∨ s.sys.norChecked = true ∨ s.sys.norFound ≠ none) : norCheckDoneFx ok c0 c1 vbat s = s := by
  rcases h with h | h | h
  · simp [norCheckDoneFx, h]
  · simp [norCheckDoneFx, h]
  · simp [norCheckDoneFx, Option.isSome_iff_ne_none.mpr h]

section
variable {s : State}

/-- A journal of an activation or a fallback comes before all else. -/
theorem romChoice_of_journal (ok : Bool) (hj : s.fsh.journal = 4 ∨ s.fsh.journal = 8)
    (hb : s.fsh.journal = 4 → s.fsh.backed = []) : romChoice ok s = loaderStays s := by
  rcases hj with hj | hj
  · simp [romChoice, hj, hb hj]
  · simp [romChoice, hj]

variable (hj : s.fsh.journal = 0)
include hj

theorem romChoice_of_bad_image : romChoice false s = enterRecovery 1 s := by simp [romChoice, hj]

theorem romChoice_below_floor (hf : (installedImg s 1).arb < floorOf s 1) : romChoice true s = enterRecovery 4 s := by
  simp [romChoice, hj, hf]

theorem romChoice_of_request (hf : floorOf s 1 ≤ (installedImg s 1).arb) (hr : s.power.recoveryReq = true) :
    romChoice true s = enterRecovery 3 (onPower (fun p => { p with recoveryReq := false }) s) := by
  simp [romChoice, hj, Nat.not_lt.mpr hf, hr]

theorem romChoice_of_good_image (hf : floorOf s 1 ≤ (installedImg s 1).arb) (hr : s.power.recoveryReq = false)
    (hc : s.fsh.recoveryCause = 0) (hcopy : s.absorb.repairCopy = false) :
    romChoice true s = onSys (fun y => { y with norChecked := true }) (onFsh (fun f => { f with recoveryCause := 0 }) s) := by
  simp [romChoice, hj, Nat.not_lt.mpr hf, hr, hc, hcopy]

end

theorem openS0_touches (d : Side) (s : State) : openS0 d s = { s with mail := (openS0 d s).mail } := by
  unfold openS0
  split <;> rfl

theorem enterRecovery_mode (cause : Nat) (s : State) : (enterRecovery cause s).sys.mode = .recovery := rfl

theorem enterRecovery_cause (cause : Nat) (s : State) : (enterRecovery cause s).fsh.recoveryCause = cause := by
  rw [enterRecovery, openS0_touches]
  rfl

theorem enterRecovery_power (cause : Nat) (s : State) : (enterRecovery cause s).power = s.power := by
  rw [enterRecovery, openS0_touches]
  rfl

/-! ### Out of their turn, and the end of a hold (spec/18_power_reservoir_thermal.md R576; spec/19_electrical.md R594) -/

theorem supervisorStartFx_waits {s : State} (h : romRuns s = false ∨ s.sys.norChecked = false ∨ s.sys.norStay = true ∨
    s.sys.resMeasured = false ∨ bootHeld s = true ∨ s.absorb.dead = true) : supervisorStartFx s = s := by
  rcases h with h | h | h | h | h | h <;> simp [supervisorStartFx, h]

theorem evverReadyFx_waits {s : State} (h : romRuns s = false ∨ s.sys.supervisor = false) : evverReadyFx s = s := by
  rcases h with h | h <;> simp [evverReadyFx, h]

theorem tripHoldEndFx_waits {s : State} {temps : List Int}
    (h : romRuns s = false ∨ s.power.tripHold = false ∨ s.power.sticky.getLsbD 5 = true ∨ (∃ t ∈ temps, 105000 < t) ∨
      s.power.springNs < s.power.tripAt + 10000000000) : tripHoldEndFx temps s = s := by
  have hwait : (!romRuns s || !s.power.tripHold || s.power.sticky.getLsbD 5 || temps.any (fun t => decide (t > 105000)) ||
      decide (s.power.springNs - s.power.tripAt < 10000000000)) = true := by
    rcases h with h | h | h | h | h
    · simp [h]
    · simp [h]
    · rw [h]; simp
    · obtain ⟨t, ht, hot⟩ := h
      have hany : temps.any (fun t => decide (t > 105000)) = true := List.any_eq_true.mpr ⟨t, ht, by simpa using hot⟩
      simp [hany]
    · have hshort : s.power.springNs - s.power.tripAt < 10000000000 := by omega
      simp [hshort]
  rw [tripHoldEndFx]
  exact if_pos hwait

theorem tripHoldEndFx_ends {s : State} {temps : List Int} (hrom : romRuns s = true) (hhold : s.power.tripHold = true)
    (hlatch : s.power.sticky.getLsbD 5 = false) (hcool : ∀ t ∈ temps, t ≤ 105000)
    (hlong : s.power.tripAt + 10000000000 ≤ s.power.springNs) :
    tripHoldEndFx temps s =
      supervisorStartFx (romReleased (noteLater 0x0F34
        [(s.power.springNs - s.power.tripAt) / 1000000000, temps.foldl max (temps.headD 0)]
        { s with power := { s.power with tripHold := false } })) := by
  have hany : temps.any (fun t => decide (t > 105000)) = false := by simpa using hcool
  have hheld : ¬ s.power.springNs - s.power.tripAt < 10000000000 := by omega
  simp only [tripHoldEndFx, hrom, hhold, hlatch, hany, hheld]
  rfl

/-! ### The start, settled -/

theorem mode_of_romRuns {s : State} (h : romRuns s = true) : s.sys.mode = .boot := by
  simp only [romRuns, Bool.and_eq_true, beq_iff_eq] at h
  obtain ⟨⟨⟨⟨⟨hboot, -⟩, -⟩, -⟩, -⟩, -⟩ := h
  exact hboot

/-- Without a hold, the first NOR_CHECK_DONE of a BOOT is the ROM's choice. -/
theorem exec_norCheckDone_chooses {s : State} (ok c0 c1 : Bool) (vbat : Int) (hrom : romRuns s = true)
    (hchecked : s.sys.norChecked = false) (hfound : s.sys.norFound = none) (hstate : s.fsh.state ≠ 5)
    (hhold : s.power.tripHold = false) (hlatch : s.power.sticky.getLsbD 5 = false) :
    exec (.norCheckDone ok c0 c1 vbat) s = .next (settled s (romChoice ok (romTested c0 c1 vbat s))) := by
  have hfree : ¬ bootHeld s = true := by rw [bootHeld, hhold, hlatch]; decide
  have hfx := norCheckDoneFx_first ok c0 c1 vbat hrom hchecked hfound hstate
  rw [if_neg hfree] at hfx
  exact next_settled_congr hfx

/-- In BOOT the results of the measurements and the tests stand after settling. -/
theorem settled_romTested {b s t : State} {c0 c1 : Bool} {vbat : Int} (f : Sys → Sys) (g : Freshet → Freshet)
    (hmode : (f s.sys).mode = .boot) (ht : t = settled b (onSys f (onFsh g (romTested c0 c1 vbat s)))) :
    t.sys = { f s.sys with appRunning := t.sys.appRunning } ∧ t.power.vbat = vbat ∧ t.power.sticky.getLsbD 0 = false ∧
      (t.absorb.dead = true ↔ c0 = false ∧ c1 = false) := by
  have hsys' : (onSys f (onFsh g (romTested c0 c1 vbat s))).sys = f s.sys := congrArg f (romTested_sys ..)
  have hpower' : (onSys f (onFsh g (romTested c0 c1 vbat s))).power = (romSpring vbat s).power := romTested_power ..
  obtain ⟨hsys, -, habsorb, hpower⟩ := settled_keepsDevice (b := b) (.inl ((congrArg Sys.mode hsys').trans hmode))
  obtain ⟨hvbat, hlost, -⟩ := romSpring_power vbat s
  rw [← ht] at hsys habsorb hpower
  rw [hpower, hpower', habsorb]
  exact ⟨by rw [hsys, hsys'], hvbat, hlost, coreTests_dead_iff ..⟩

theorem settled_enterRecovery (b : State) (cause : Nat) (s : State) :
    (settled b (enterRecovery cause s)).sys.mode = .recovery ∧ (settled b (enterRecovery cause s)).fsh.recoveryCause = cause ∧
      (settled b (enterRecovery cause s)).power.recoveryReq = s.power.recoveryReq := by
  obtain ⟨hsys, hfsh, -, hpower⟩ := settled_keepsDevice (b := b) (e := enterRecovery cause s) (.inr (enterRecovery_mode cause s))
  rw [hsys, hfsh, hpower, enterRecovery_mode, enterRecovery_cause, enterRecovery_power]
  exact ⟨rfl, rfl, rfl⟩

/-- Settles O23: the ROM's choice in its order, then the supervisor, Evver and the end of a hold. -/
theorem startFollowsItsOrder : Obligations.StartFollowsItsOrder := by
  unfold Obligations.StartFollowsItsOrder
  refine ⟨?good, ?bad, ?floor, ?request, ?journal, ?held, ?again, ?start, ?noStart, ?notReady, ?ready, ?released, ?holds⟩
  case good =>
    intro s vbat c0 c1 hrom hchecked hfound hj hstate hhold hlatch hfloor hreq hcause hcopy
    refine ⟨_, exec_norCheckDone_chooses true c0 c1 vbat hrom hchecked hfound hstate hhold hlatch, ?_⟩
    rw [romChoice_of_good_image (by rwa [romTested_journal]) (by rwa [romTested_floorOf, romTested_installedImg])
      (by rwa [romTested_recoveryReq]) (by rwa [romTested_recoveryCause]) (by rwa [romTested_repairCopy])]
    obtain ⟨hsys, hvbat, hlost, hdead⟩ := settled_romTested (b := s) (c0 := c0) (c1 := c1) (vbat := vbat)
      (fun y => { y with norChecked := true }) (fun f => { f with recoveryCause := 0 }) (mode_of_romRuns hrom) rfl
    exact ⟨congrArg Sys.norChecked hsys, (congrArg Sys.mode hsys).trans (mode_of_romRuns hrom), hvbat, hlost, hdead⟩
  case bad =>
    intro s vbat c0 c1 hrom hchecked hfound hj hstate hhold hlatch
    refine ⟨_, exec_norCheckDone_chooses false c0 c1 vbat hrom hchecked hfound hstate hhold hlatch, ?_⟩
    rw [romChoice_of_bad_image (by rwa [romTested_journal])]
    obtain ⟨hmode, hcause, -⟩ := settled_enterRecovery s 1 (romTested c0 c1 vbat s)
    exact ⟨hmode, hcause⟩
  case floor =>
    intro s vbat c0 c1 hrom hchecked hfound hj hstate hhold hlatch hfloor
    refine ⟨_, exec_norCheckDone_chooses true c0 c1 vbat hrom hchecked hfound hstate hhold hlatch, ?_⟩
    rw [romChoice_below_floor (by rwa [romTested_journal]) (by rwa [romTested_floorOf, romTested_installedImg])]
    obtain ⟨hmode, hcause, -⟩ := settled_enterRecovery s 4 (romTested c0 c1 vbat s)
    exact ⟨hmode, hcause⟩
  case request =>
    intro s vbat c0 c1 hrom hchecked hfound hj hstate hhold hlatch hfloor hreq
    refine ⟨_, exec_norCheckDone_chooses true c0 c1 vbat hrom hchecked hfound hstate hhold hlatch, ?_⟩
    rw [romChoice_of_request (by rwa [romTested_journal]) (by rwa [romTested_floorOf, romTested_installedImg])
      (by rwa [romTested_recoveryReq])]
    exact settled_enterRecovery s 3 _
  case journal =>
    intro s vbat ok c0 c1 hrom hchecked hfound hj hstate hhold hlatch _ hbacked
    rw [exec_norCheckDone_chooses ok c0 c1 vbat hrom hchecked hfound hstate hhold hlatch,
      romChoice_of_journal ok (by rwa [romTested_journal]) (by rwa [romTested_journal, romTested_backed]), romTested]
  case held =>
    intro s vbat ok c0 c1 hrom hchecked hfound hstate hhold
    have hheld : bootHeld s = true := by simp [bootHeld, hhold]
    have hfx := norCheckDoneFx_first ok c0 c1 vbat hrom hchecked hfound hstate
    rw [if_pos hheld] at hfx
    obtain ⟨hsys, hvbat, -⟩ := settled_romTested (b := s) (c0 := c0) (c1 := c1) (vbat := vbat)
      (fun y => { y with norFound := some ok }) id (mode_of_romRuns hrom) rfl
    exact ⟨_, next_settled_congr hfx, (congrArg Sys.mode hsys).trans (mode_of_romRuns hrom), congrArg Sys.norFound hsys,
      (congrArg Sys.norChecked hsys).trans hchecked, hvbat⟩
  case again =>
    intro s vbat ok c0 c1 h
    exact next_settled_congr (norCheckDoneFx_again ok c0 c1 vbat h)
  case start =>
    intro s hrom hchecked hstay hmeasured hfree hdead
    have hfx : supervisorStartFx s = { s with sys := { s.sys with supervisor := true } } := by
      simp [supervisorStartFx, hrom, hchecked, hstay, hmeasured, hfree, hdead, onSys]
    exact next_settled_congr hfx
  case noStart =>
    intro s h
    exact next_settled_congr (supervisorStartFx_waits h)
  case notReady =>
    intro s h
    exact next_settled_congr (evverReadyFx_waits h)
  case ready =>
    intro s hrom hsup
    have hturn : ¬ (!romRuns s || !s.sys.supervisor) = true := by simp [hrom, hsup]
    exact next_settled_congr (if_neg hturn)
  case released =>
    intro s temps hrom hhold hlatch hcool hlong
    exact next_settled_congr (tripHoldEndFx_ends hrom hhold hlatch hcool hlong)
  case holds =>
    intro s temps h
    exact next_settled_congr (tripHoldEndFx_waits h)

end Sys2Proof.Machine

/-! Proofs of the statements of spec/02_sluices.md: the queue of commands, the checks of a request, SPI frames, doorbells and
releases, datagrams, the heartbeat and the SYS commands. Three statements fail, each on a concrete state: a report is settled
while the boost charges below 15.0 V, an answer has no window on a sluice that its side has lost, and a sluice is not released
while a notice of it waits. -/

namespace Sys2Proof.Machine

/-! ### The queue in order (spec/02_sluices.md R68) -/

/-- A run goes on where its first part ended. -/
theorem run_add_of_next {k : Nat} (n : Nat) {s u : State} (h : core.run k s = .next u) :
    core.run (k + n) s = core.run n u := by
  induction k generalizing s with
  | zero =>
    cases h
    rw [Nat.zero_add]
  | succ k ih =>
    obtain ⟨t, ht, -⟩ := everyCommandAnswersNext.2 s
    have hstep : core.step s = .next t := ht
    rw [Nat.succ_add]
    simp only [Host.Core.run, hstep] at h ⊢
    exact ih h

/-- As many steps as commands stand in front take exactly these. -/
theorem run_takes_front (a : List Instr) {s : State} {rest : List Instr} (h : s.pending = a ++ rest) :
    ∃ u, core.run a.length s = .next u ∧ u.pending = rest := by
  induction a generalizing s with
  | nil => exact ⟨s, rfl, h⟩
  | cons c a ih =>
    obtain ⟨t, ht, hpending⟩ := everyCommandAnswersNext.2 s
    have hstep : core.step s = .next t := ht
    rw [h, List.cons_append, List.tail_cons] at hpending
    simp only [List.length_cons, Host.Core.run, hstep]
    exact ih hpending

/-- Settles O3: a run takes the front part of the queue, by induction on that part, and the next run begins where it ended. -/
theorem queueServedInOrder : Obligations.QueueServedInOrder := by
  unfold Obligations.QueueServedInOrder
  intro s a b rest h
  obtain ⟨u, hu, hpendingU⟩ := run_takes_front a h
  obtain ⟨t, ht, hpendingT⟩ := run_takes_front b hpendingU
  exact ⟨u, t, hu, hpendingU, ht, hpendingT, (run_add_of_next b.length hu).trans ht⟩

/-! ### Requests that are served (spec/02_sluices.md R62, R66, R77) -/

/-- Every command of the table is served under its own code. -/
theorem exec_of_requestOf {c : Instr} {code : Nat} {r : Req} (hc : requestOf c = some (code, r)) :
    ∃ h, ∀ s, exec c s = .next (settled s (serve code h r s)) := by
  unfold requestOf at hc
  split at hc <;> cases hc <;> exact ⟨_, fun _ => rfl⟩

/-- Settles O10: each of the commands is served, and serving one that a check refuses is `serve_refused`. -/
theorem refusedRequestsAnswerTheirStatus : Obligations.RefusedRequestsAnswerTheirStatus := by
  unfold Obligations.RefusedRequestsAnswerTheirStatus
  intro c code r s sl st hc hserved hown hfree hrole hheld hcheck
  obtain ⟨h, hexec⟩ := exec_of_requestOf hc
  rw [hexec, serve_refused hserved hown hfree hrole hheld hcheck]

/-- A request that is taken up and done at once is answered with what its handler decided. -/
theorem serve_of_done {code : Nat} {h : Org → List Byte → State → Res} {r : Req} {s t : State} {st : Nat} {data : List Byte}
    (ha : asks code r s = true) (hdone : h (reqOrg code r) r.payload (begun code r s) = .done st data t) :
    serve code h r s = answered code r st data t := by
  rw [serve_of_asks ha, hdone, settleRes_done, answered]

/-- A request that passes the checks has a length that its command allows (R66). -/
theorem lenOk_of_headerCheck {s : State} {d : Side} {n code tag flags credit length : Nat} {seg first : Bool} {c : CmdRow}
    (hknown : knownCmd s code = some c) (h : headerCheck s d n code tag flags credit length seg first = none) :
    c.lenOk length = true := by
  cases hlen : c.lenOk length with
  | true => rfl
  | false =>
    simp only [headerCheck, hknown, hlen, Bool.not_false, Bool.or_true, if_true] at h
    iterate 5 (split at h; · cases h)
    cases h

/-- A request that is taken up passes every check of R66. -/
theorem headerCheck_of_asks {code : Nat} {r : Req} {s : State} (ha : asks code r s = true) :
    headerCheck s r.side (r.sluice % 16) code r.tag r.flags 0 r.payload.length (segmented r s) true = none := by
  unfold asks at ha
  split at ha
  · simp at ha
  · simp only [Bool.and_eq_true, Option.isNone_iff_eq_none] at ha
    obtain ⟨-, -, hcheck⟩ := ha
    exact hcheck

/-! ### A report while the boost charges below 15.0 V (spec/10_valve_drive.md R354, R378) -/

/-- SYS_STATUS of the SPI side, on its S0. -/
def statusRequest : Req := { side := .spi, sluice := 0, tag := 0, flags := 0, payload := [] }

/-- `boostCut` with S0 of the SPI side idle. -/
def boostCutAsked : State :=
  { boostCut with mail := { sluices := [(16, { owner := some .spi, sizeKib := 1, st := .idle })] } }

theorem asks_boostCutAsked : asks 0x0001 statusRequest boostCutAsked = true := by decide +kernel

theorem sound_boostCutAsked : sound boostCutAsked := by decide +kernel

theorem exec_boostCutAsked :
    exec (.sysStatus statusRequest) boostCutAsked =
      .next (settled boostCutAsked (sysStatusFx statusRequest boostCutAsked)) := rfl

/-- The step that answers the report stops the charging. -/
theorem settled_boostCutAsked :
    (settled boostCutAsked (sysStatusFx statusRequest boostCutAsked)).valves.boost = 0 := by decide +kernel

/-- Refutes O8: SYS_STATUS is taken up on a sound state whose boost charges, and the valves are not as they were after its
step, since settling ends a charge that its supply blocks. -/
theorem not_queriesLeaveTheMachine : ¬ Obligations.QueriesLeaveTheMachine := by
  unfold Obligations.QueriesLeaveTheMachine
  rintro ⟨h, -⟩
  obtain ⟨t, ht, hsame, -⟩ := h (.sysStatus statusRequest) 0x0001 statusRequest boostCutAsked 0 rfl asks_boostCutAsked
    sound_boostCutAsked nofun (.inl (by decide))
  obtain ⟨-, -, -, -, -, -, -, -, -, -, -, -, -, -, hvalves, -⟩ := hsame
  cases exec_boostCutAsked.symm.trans ht
  have hcharging : (settled boostCutAsked (sysStatusFx statusRequest boostCutAsked)).valves.boost = 1 :=
    congrArg Valves.boost hvalves
  exact absurd (settled_boostCutAsked.symm.trans hcharging) (by decide)

/-! ### An answer without a window (spec/02_sluices.md R64) -/

/-- Refutes O9: no side owns S1 at reset, so an answer for the SPI side's S1 is placed nowhere and its window reads as zeros,
not as the header of command 1. -/
theorem not_answersStandInTheirWindow : ¬ Obligations.AnswersStandInTheirWindow := by
  unfold Obligations.AnswersStandInTheirWindow
  rintro ⟨h, -⟩
  obtain ⟨-, hheader, -⟩ := h State.reset { code := 1, sluice := 1 } sOK [] (.inl rfl) Memory.reset_wf
  exact absurd hheader (by decide +kernel)

/-! ### Bytes of frames -/

theorem length_beBytes (w n : Nat) : (beBytes w n).length = w := by
  rw [beBytes, List.length_reverse, leBytes_eq_map, List.length_map, List.length_range]

theorem beNat_beBytes_two {n : Nat} (h : n < 65536) : beNat (beBytes 2 n) = n := by
  simp only [beNat, beBytes, leBytes, List.reverse_cons, List.reverse_nil, List.nil_append, List.cons_append, List.foldl_cons,
    List.foldl_nil, BitVec.toNat_ofNat]
  omega

theorem fit_add_of_length {bs : List Byte} {n : Nat} (h : bs.length = n) (k : Nat) : fit (n + k) bs = bs ++ zeros k := by
  subst h
  simp [fit, List.take_of_length_le]

theorem inside_le (s : State) (d : Side) (a n : Nat) : inside s d a n ≤ n := by
  unfold inside
  split
  · exact Nat.min_le_left _ _
  · exact Nat.zero_le _

/-- A read returns as many bytes as it asks for: 0x00 stands for those beyond the region (R57). -/
theorem length_hostRead (d : Side) (a n : Nat) (s : State) : (hostRead d a n s).1.length = n := by
  have hle := inside_le s d a n
  simp [hostRead, windowRead, zeros, hle]

/-! ### Plain and checked frames (spec/02_sluices.md R54–R57) -/

section
variable {s : State} (hmode : s.sys.mode ≠ .recovery)
include hmode

/-- Under CRC_REQ a plain frame has no effect but its error (R56). -/
theorem plainFrame_crcReq (hready : s.sys.ready = true) (hcrc : s.hifSpi.ctrl.getLsbD 1 = true) (n : Nat)
    (f : State → State) : plainFrame n f s = hifErr .spi 2 (bareFrame n s) := by
  simp only [plainFrame, if_neg hmode, hready, hcrc, Bool.not_true, Bool.false_eq_true, if_false, if_true]

/-- While HRDY is low a plain frame has no effect but NOT_READY at its rise (R57). -/
theorem plainFrame_notReady (hvault : s.sys.mode ≠ .vault) (hready : s.sys.ready = false) (n : Nat) (f : State → State) :
    plainFrame n f s = modHif .spi (fun h => { h with notReady := true }) (bareFrame n s) := by
  have hawake : (bareFrame n s).sys.mode ≠ .vault := hvault
  simp only [plainFrame, if_neg hmode, hready, Bool.not_false, if_true, lateFrame, if_neg hawake]

end

/-- A checked frame may carry 1 to 4,096 bytes (R56). -/
theorem crcLength_inRange {len : Nat} (hpos : 1 ≤ len) (hmax : len ≤ 4096) :
    (decide (len = 0) || decide (len > 4096)) = false := by
  simp only [Bool.or_eq_false_iff, decide_eq_false_iff_not]
  omega

section
variable {s : State} (hserved : served s = true)
include hserved

theorem checkedFrame_served (n : Nat) (f : State → State) : checkedFrame n f s = f s := by
  simp only [checkedFrame, hserved, Bool.not_true, Bool.false_eq_true, if_false]

section
variable {len : Nat} (hpos : 1 ≤ len) (hmax : len ≤ 4096) (addr : Nat)
include hpos hmax

theorem spiWriteCrcFx_cut (data : List Byte) (crc : Nat) :
    spiWriteCrcFx addr len data crc .cut s = hifErr .spi 4 (bareFrame 0 s) := by
  simp only [spiWriteCrcFx, checkedFrame_served hserved, crcLength_inRange hpos hmax, Bool.false_eq_true, if_false]

theorem spiWriteCrcFx_extra (data : List Byte) (crc : Nat) :
    spiWriteCrcFx addr len data crc .extra s = hifErr .spi 3 (bareFrame 0 s) := by
  simp only [spiWriteCrcFx, checkedFrame_served hserved, crcLength_inRange hpos hmax, Bool.false_eq_true, if_false]

/-- A checked write of the length it names acts if its CRC matches (R56). -/
theorem spiWriteCrcFx_complete {data : List Byte} (hlen : data.length = len) (crc : Nat) :
    spiWriteCrcFx addr len data crc .complete s =
      if crc16 ((0x0A : Byte) :: beBytes 2 addr ++ beBytes 2 len ++ data) = crc then
        hostStore .spi (addr % 65536) data (bareFrame 0 s)
      else hifErr .spi 3 (bareFrame 0 s) := by
  simp only [spiWriteCrcFx, checkedFrame_served hserved, crcLength_inRange hpos hmax, hlen, bne_self_eq_false, bne_iff_ne,
    Bool.false_eq_true, if_false, ite_not]

/-- A checked read that ends inside its data. -/
theorem spiReadCrcFx_short {fin : ReadEnd} (hshort : readClocked len fin < len) :
    spiReadCrcFx addr len fin s =
      hifErr .spi 4 (setMiso (statusByte s :: 0 :: 0 :: (windowRead .spi (addr % 65536) (readClocked len fin) s).1)
        (windowRead .spi (addr % 65536) (readClocked len fin) s).2) := by
  simp only [spiReadCrcFx, checkedFrame_served hserved, crcLength_inRange hpos hmax, Bool.false_eq_true, if_false,
    if_pos hshort]

/-- A checked read that ends behind its data. -/
theorem spiReadCrcFx_complete {fin : ReadEnd} (hlong : len ≤ readClocked len fin) :
    spiReadCrcFx addr len fin s =
      setMiso (statusByte s :: 0 :: 0 :: fit (readClocked len fin) ((hostRead .spi (addr % 65536) len s).1 ++
        beBytes 2 (crc16 ((0x0B : Byte) :: beBytes 2 addr ++ beBytes 2 len ++ (hostRead .spi (addr % 65536) len s).1))))
        (hostRead .spi (addr % 65536) len s).2 := by
  simp only [spiReadCrcFx, checkedFrame_served hserved, crcLength_inRange hpos hmax, Bool.false_eq_true, if_false,
    if_neg (Nat.not_lt.mpr hlong)]

end

theorem spiFrameIgnoredFx_unknown {b : Byte} (h02 : b ≠ 0x02) (h03 : b ≠ 0x03) (h0A : b ≠ 0x0A) (h0B : b ≠ 0x0B) :
    spiFrameIgnoredFx b s = setMiso [statusByte s, 0, 0] s := by
  simp only [spiFrameIgnoredFx, beq_eq_false_iff_ne.mpr h02, beq_eq_false_iff_ne.mpr h03, beq_eq_false_iff_ne.mpr h0A,
    beq_eq_false_iff_ne.mpr h0B, hserved, Bool.or_self, Bool.not_true, Bool.false_eq_true, if_false]
  rfl

end

/-- Settles O14: a plain frame by whether HRDY is high and CRC_REQ clear, a checked one by its end. What `miso` holds is
notes/assumptions/97.md. -/
theorem spiFramesAreCarriedOut : Obligations.SpiFramesAreCarriedOut := by
  unfold Obligations.SpiFramesAreCarriedOut
  refine ⟨?writeWhole, ?writeInByte, ?writeInAddress, ?writeCrcReq, ?readWhole, ?readInByte, ?readInAddress, ?readNotReady,
    ?writeChecked, ?writeMismatch, ?writeEnds, ?readChecked, ?readShort, ?readCut, ?ignored⟩
  case writeWhole =>
    intro s addr data hmode hready hplain
    exact next_settled_congr (spiWriteFx_whole hmode hready hplain addr data)
  case writeInByte =>
    intro s addr data hmode hready hplain
    exact next_settled_congr (plainFrame_ready hmode hready hplain _ _)
  case writeInAddress =>
    intro s addr data hmode hready hplain
    exact next_settled_congr (plainFrame_ready hmode hready hplain _ _)
  case writeCrcReq =>
    intro s addr data fin hmode hready hcrc
    exact next_settled_congr (plainFrame_crcReq hmode hready hcrc _ _)
  case readWhole =>
    intro s addr len hmode hready hplain
    exact next_settled_congr (spiReadFx_whole hmode hready hplain addr len)
  case readInByte =>
    intro s addr len hmode hready hplain
    exact next_settled_congr (plainFrame_ready hmode hready hplain _ _)
  case readInAddress =>
    intro s addr len hmode hready hplain
    exact next_settled_congr (plainFrame_ready hmode hready hplain _ _)
  case readNotReady =>
    intro s addr len fin hmode hvault hready
    exact next_settled_congr (plainFrame_notReady hmode hvault hready _ _)
  case writeChecked =>
    intro s addr data hserved hpos hmax
    exact next_settled_congr ((spiWriteCrcFx_complete hserved hpos hmax addr rfl _).trans (if_pos rfl))
  case writeMismatch =>
    intro s addr crc data hserved hpos hmax hcrc
    exact next_settled_congr ((spiWriteCrcFx_complete hserved hpos hmax addr rfl crc).trans (if_neg hcrc))
  case writeEnds =>
    intro s addr len crc data hserved hpos hmax
    exact ⟨next_settled_congr (spiWriteCrcFx_cut hserved hpos hmax addr data crc),
      next_settled_congr (spiWriteCrcFx_extra hserved hpos hmax addr data crc)⟩
  case readChecked =>
    intro s addr len extra hserved hpos hmax
    have hlong : len ≤ readClocked len (.whole extra) := by simp only [readClocked]; omega
    refine next_settled_congr ((spiReadCrcFx_complete hserved hpos hmax addr hlong).trans ?_)
    rw [readClocked, fit_add_of_length (by simp [length_hostRead, length_beBytes])]
    rfl
  case readShort =>
    intro s addr len n hserved hpos hmax hshort
    exact next_settled_congr (spiReadCrcFx_short hserved hpos hmax addr (fin := .cut n) hshort)
  case readCut =>
    intro s addr len n hserved hpos hmax hlong
    exact next_settled_congr (spiReadCrcFx_complete hserved hpos hmax addr (fin := .cut n) hlong)
  case ignored =>
    intro s b hserved h02 h03 h0A h0B
    exact next_settled_congr (spiFrameIgnoredFx_unknown hserved h02 h03 h0A h0B)

/-! ### Doorbells, releases and segment timeouts (spec/02_sluices.md R62–R64, R73, R74) -/

theorem hostStore_doorbell (d : Side) (v : Byte) (s : State) : hostStore d 0x18 [v] s = doorbell d (v.toNat % 16) s := by
  rw [hostStore, hostWrite_registers d 0x18 [v] s (by decide) (by simp)]
  rfl

theorem hostStore_release (d : Side) (v : Byte) (s : State) : hostStore d 0x1C [v] s = release d (v.toNat % 16) s := by
  rw [hostStore, hostWrite_registers d 0x1C [v] s (by decide) (by simp)]
  rfl

/-- A register side's write goes through while the window is served. -/
theorem sideWrite_served {d : Side} (hd : d = .spi ∨ d = .app) {s : State} (hserved : served s = true) (a : Nat)
    (bs : List Byte) : sideWrite d a bs s = hostStore d a bs s := by
  rcases hd with rfl | rfl <;> simp [sideWrite, hserved]

section
variable {d : Side} {v : Byte} {s : State} (hd : d = .spi ∨ d = .app) (hserved : served s = true)
include hd hserved

theorem exec_hifDoorbellWrite_served :
    exec (.hifDoorbellWrite d v) s = .next (settled s (doorbell d (v.toNat % 16) s)) :=
  next_settled_congr ((sideWrite_served hd hserved _ _).trans (hostStore_doorbell d v s))

theorem exec_hifReleaseWrite_served :
    exec (.hifReleaseWrite d v) s = .next (settled s (release d (v.toNat % 16) s)) :=
  next_settled_congr ((sideWrite_served hd hserved _ _).trans (hostStore_release d v s))

end

section
variable {s : State} {d : Side} {n : Nat}

theorem doorbell_of_none (h : ownSluice s d n = none) : doorbell d n s = hifErr d 0 s := by simp only [doorbell, h]

theorem release_of_none (h : ownSluice s d n = none) : release d n s = hifErr d 0 s := by simp only [release, h]

theorem segmentTimeoutFx_not_held {sl : Sluice} (h : ownSluice s d n = some sl) (hheld : sl.held = none) :
    segmentTimeoutFx d n s = s := by simp only [segmentTimeoutFx, h, hheld]

section
variable {sl : Sluice} (h : ownSluice s d n = some sl)
include h

theorem doorbell_of_free (hfree : sl.st = .idle ∨ sl.st = .resp) (hrole : sl.role ≠ 1) :
    doorbell d n s = submit d n (hdrOf (readWin s (slKey d n) 0 16)) (readWin s (slKey d n) 16 (segRoom s d n)) s := by
  rcases hfree with hst | hst <;> simp only [doorbell, h, hst, if_neg hrole]

theorem doorbell_of_busy_or_notice (hopen : sl.st ≠ .closed) (hbad : sl.st = .busy ∨ sl.role = 1) :
    doorbell d n s = hifErr d 1 s := by
  cases hst : sl.st with
  | closed => exact absurd hst hopen
  | busy => simp only [doorbell, h, hst]
  | idle | resp =>
    have hrole : sl.role = 1 := hbad.resolve_left (by simp [hst])
    simp only [doorbell, h, hst, hrole, if_true]

theorem release_not_resp (hopen : sl.st ≠ .closed) (hresp : sl.st ≠ .resp) : release d n s = hifErr d 1 s := by
  cases hst : sl.st with
  | closed => exact absurd hst hopen
  | resp => exact absurd hst hresp
  | idle | busy => simp only [release, h, hst]

variable (hst : sl.st = .resp)
include hst

/-- The release of an answer's last segment frees the sluice; a notice sluice takes its next notice (R62, R64). -/
theorem release_last (hrest : sl.rest = none) :
    release d n s =
      if sl.role = 1 then
        postQueued d (modSluice (slKey d n) (fun x => { x with st := .idle, notify := false, noticeOut := false }) s)
      else modSluice (slKey d n) (fun x => { x with st := .idle, notify := false, noticeOut := false }) s := by
  simp only [release, h, hst, hrest]

theorem release_segment {q : Rest} (hrest : sl.rest = some q) : release d n s = postSegment d n q s := by
  simp only [release, h, hst, hrest]

end

theorem segmentTimeoutFx_gathering {sl : Sluice} {q : Held} (h : ownSluice s d n = some sl) (hheld : sl.held = some q)
    (hwhole : q.whole = false) :
    segmentTimeoutFx d n s =
      noteBy d 0x0023 [sideCode d, (n % 16 : Nat), q.tag, q.next] (endHeld d n q sTIMEOUT s) := by
  simp only [segmentTimeoutFx, h, hheld, hwhole, Bool.false_eq_true, if_false]

end

/-- Settles O16: a byte written to either register rings it, and the state and role of the sluice decide. -/
theorem sluicesMoveOnDoorbellAndRelease : Obligations.SluicesMoveOnDoorbellAndRelease := by
  unfold Obligations.SluicesMoveOnDoorbellAndRelease
  refine ⟨?request, ?notOwn, ?doorbellState, ?releaseState, ?freed, ?notice, ?segment, ?timeout, ?nothingHeld⟩
  case request =>
    intro s d v sl hd hserved hown hfree hrole
    rw [exec_hifDoorbellWrite_served hd hserved, doorbell_of_free hown hfree hrole]
  case notOwn =>
    intro s d v hd hserved hown
    rw [exec_hifDoorbellWrite_served hd hserved, exec_hifReleaseWrite_served hd hserved, doorbell_of_none hown,
      release_of_none hown]
    exact ⟨rfl, rfl⟩
  case doorbellState =>
    intro s d v sl hd hserved hown hopen hbad
    rw [exec_hifDoorbellWrite_served hd hserved, doorbell_of_busy_or_notice hown hopen hbad]
  case releaseState =>
    intro s d v sl hd hserved hown hopen hresp
    rw [exec_hifReleaseWrite_served hd hserved, release_not_resp hown hopen hresp]
  case freed =>
    intro s d v sl hd hserved hown hst hrest hrole
    rw [exec_hifReleaseWrite_served hd hserved, release_last hown hst hrest, if_neg hrole]
  case notice =>
    intro s d v sl hd hserved hown hst hrest hrole
    rw [exec_hifReleaseWrite_served hd hserved, release_last hown hst hrest, if_pos hrole]
  case segment =>
    intro s d v sl q hd hserved hown hst hrest
    rw [exec_hifReleaseWrite_served hd hserved, release_segment hown hst hrest]
  case timeout =>
    intro s d n sl q hown hheld hwhole
    exact next_settled_congr (segmentTimeoutFx_gathering hown hheld hwhole)
  case nothingHeld =>
    intro s d n sl hown hheld
    exact next_settled_congr (segmentTimeoutFx_not_held hown hheld)

/-! ### Datagrams (spec/02_sluices.md R70, R83; spec/13_line_uplink.md R453, R455) -/

section
variable {kind : Nat} {src : UdpSrc} {dg : List Byte}

theorem datagramRow_comesIn {s u : State} (hin : comesIn s src.via) (hu : u = counted src.via src.mac s) :
    datagramRow kind src dg s =
      if u.sys.mode = .recovery then datagram kind src dg u
      else heardNow (waitingOf (.dgram kind src dg)) (datagram kind src dg) u := by
  obtain ⟨hon, hvia, hblocked⟩ := hin
  have hline : src.via ≠ 3 := by omega
  have hpass : ¬ (!switchOn s || decide (src.via > 2)) = true := by simp [hon, hvia]
  subst hu
  simp only [datagramRow, if_neg hline, fromLine, if_neg hpass, hblocked, Bool.false_and, Bool.false_eq_true, if_false]
  rfl

theorem datagramRow_blocked {s : State} (hvia : src.via ≤ 2) (hon : switchOn s = true)
    (hblocked : portBlocked s src.via = true) :
    datagramRow kind src dg s = modPort src.via (fun x => { x with rx := w32 (x.rx + 1) }) s := by
  have hline : src.via ≠ 3 := by omega
  have hpass : ¬ (!switchOn s || decide (src.via > 2)) = true := by simp [hon, hvia]
  simp only [datagramRow, if_neg hline, fromLine, if_neg hpass, hblocked, Bool.not_false, Bool.and_self, if_true]

theorem datagramRow_uart {s : State} (hvia : src.via = 3) : datagramRow kind src dg s = datagram kind src dg s := if_pos hvia

/-- A datagram whose marks are not those of R83, or whose source may not speak (R70), is discarded. -/
theorem datagram_discarded {u : State} (h : g2 dg 0 ≠ 0x7645 ∨ 15 < g1 dg 3 ∨ dgramSide u src (g2 dg 4) (g1 dg 3) = none) :
    datagram kind src dg u = u := by
  rcases h with h | h | h
  · simp [datagram, h]
  · simp [datagram, h]
  · simp [datagram, h]

section
variable {s u : State} (hin : comesIn s src.via) (hu : u = counted src.via src.mac s)
include hin hu

theorem datagramRow_heard (hdevice : devicePort u = true) (hmode : u.sys.mode ≠ .recovery)
    (hre : u.absorb.reexecuting = false) : datagramRow kind src dg s = datagram kind src dg u := by
  simp [datagramRow_comesIn hin hu, hmode, heardNow, hdevice, hre]

theorem datagramRow_waits (hdevice : devicePort u = true) (hmode : u.sys.mode ≠ .recovery)
    (hre : u.absorb.reexecuting = true) : datagramRow kind src dg s = buffer (waitingOf (.dgram kind src dg)) u := by
  simp [datagramRow_comesIn hin hu, hmode, heardNow, hdevice, hre]

theorem datagramRow_discarded (hre : u.absorb.reexecuting = false ∨ u.sys.mode = .recovery)
    (h : g2 dg 0 ≠ 0x7645 ∨ 15 < g1 dg 3 ∨ dgramSide u src (g2 dg 4) (g1 dg 3) = none) :
    datagramRow kind src dg s = u := by
  have hgone := datagram_discarded (kind := kind) h
  rw [datagramRow_comesIn hin hu]
  by_cases hmode : u.sys.mode = .recovery
  · rw [if_pos hmode, hgone]
  · rw [if_neg hmode]
    simp [heardNow, hre.resolve_right hmode, hgone]

end

section
variable {u : State} {k : Nat} (hmagic : g2 dg 0 = 0x7645) (hsluice : g1 dg 3 ≤ 15)
  (hside : dgramSide u src (g2 dg 4) (g1 dg 3) = some (.udp k))
include hmagic hsluice hside

theorem datagram_request (hkind : g1 dg 2 = 1) (hmin : 24 ≤ dg.length) (hmax : dg.length ≤ 1032) :
    datagram 1 src dg u =
      udpSubmit k (g1 dg 3) (hdrOf (dg.drop 8)) (dg.drop 24)
        (sessionSeen (.udp k) (sourceSeen src (if isGuest (.udp k) then openS0 (.udp k) u else u))) := by
  simp [datagram, hmagic, hkind, hside, Nat.not_lt.mpr hsluice, Nat.not_lt.mpr hmin, Nat.not_lt.mpr hmax]

theorem datagram_release (hkind : g1 dg 2 = 2) :
    datagram 2 src dg u =
      release (.udp k) (g1 dg 3)
        (sessionSeen (.udp k) (sourceSeen src (if isGuest (.udp k) then openS0 (.udp k) u else u))) := by
  simp [datagram, hmagic, hkind, hside, Nat.not_lt.mpr hsluice]

end

end

/-! ### The service UART (spec/13_line_uplink.md R465) -/

theorem crc16Bit_lt {c : Nat} (h : c < 65536) : crc16Bit c < 65536 := by
  unfold crc16Bit
  split
  · exact Nat.xor_lt_two_pow (n := 16) (Nat.mod_lt _ (by decide)) (by decide)
  · omega

/-- A CRC-16 fits its two bytes. -/
theorem crc16_lt (bs : List Byte) : crc16 bs < 65536 := by
  unfold crc16
  refine List.foldlRecOn (motive := fun c => c < 65536) bs _ (by decide) (fun c hc b _ => ?_)
  refine List.foldlRecOn (motive := fun c => c < 65536) (List.range 8) _ ?_ (fun x hx _ _ => crc16Bit_lt hx)
  have hb : b.toNat * 256 < 65536 := by omega
  exact Nat.xor_lt_two_pow (n := 16) hc hb

/-- A frame that carries a datagram and its CRC. -/
theorem serviceUartFrameFx_carries {s : State} {frame dg : List Byte} (hmode : s.sys.mode ≠ .recovery)
    (hhears : hearsVia s 3 = true) (hmax : dg.length ≤ 1032) (hframe : unstuff frame = some (dg ++ beBytes 2 (crc16 dg))) :
    serviceUartFrameFx frame s = if g1 dg 2 = 2 then datagram 2 ⟨0, 0, 3, []⟩ dg s else datagram 1 ⟨0, 0, 3, []⟩ dg s := by
  have hlen : (dg ++ beBytes 2 (crc16 dg)).length = dg.length + 2 := by simp [length_beBytes]
  have hcrc := beNat_beBytes_two (crc16_lt dg)
  have hshort : ¬ dg.length + 2 < 2 := by omega
  have hlong : ¬ dg.length + 2 > 1034 := by omega
  simp only [serviceUartFrameFx, hframe, hlen, Nat.add_sub_cancel, List.take_left, List.drop_left, hcrc, hmode, hhears, hshort,
    hlong, decide_false, Bool.not_true, Bool.or_self, bne_self_eq_false, Bool.false_eq_true, if_false]

/-- Settles O17: what the switch lets through is one untagged frame (notes/assumptions/174.md), and its marks and source decide
whether a sluice takes it. -/
theorem datagramsAndFramesAreCarried : Obligations.DatagramsAndFramesAreCarried := by
  unfold Obligations.DatagramsAndFramesAreCarried
  refine ⟨?request, ?release, ?discarded, ?waits, ?blocked, ?uart, ?resend, ?frameRequest, ?frameRelease, ?baud, ?outside,
    ?dram, ?window⟩
  case request =>
    intro s u src dg k hin hu hdevice hmode hre hmagic hkind hsluice hside hmin hmax
    exact next_settled_congr ((datagramRow_heard hin hu hdevice hmode hre).trans
      (datagram_request hmagic hsluice hside hkind hmin hmax))
  case release =>
    intro s u src dg k hin hu hdevice hmode hre hmagic hkind hsluice hside
    exact next_settled_congr ((datagramRow_heard hin hu hdevice hmode hre).trans
      (datagram_release hmagic hsluice hside hkind))
  case discarded =>
    intro s u src dg hin hu hre hbad
    exact ⟨next_settled_congr (datagramRow_discarded hin hu hre hbad),
      next_settled_congr (datagramRow_discarded hin hu hre hbad)⟩
  case waits =>
    intro s u src dg hin hu hmode hdevice hre
    exact ⟨next_settled_congr (datagramRow_waits hin hu hdevice hmode hre),
      next_settled_congr (datagramRow_waits hin hu hdevice hmode hre)⟩
  case blocked =>
    intro s src dg hvia hon hblocked
    exact ⟨next_settled_congr (datagramRow_blocked hvia hon hblocked),
      next_settled_congr (datagramRow_blocked hvia hon hblocked)⟩
  case uart =>
    intro s src dg hvia
    exact ⟨next_settled_congr (datagramRow_uart hvia), next_settled_congr (datagramRow_uart hvia)⟩
  case resend =>
    intro s id k n sl hsession hown hrole hout hst
    have hfx : udpNoticeResendFx id n s = sendDgram k sl.lastAnswer s := by
      simp [udpNoticeResendFx, hsession, hown, hrole, hout, hst]
    exact next_settled_congr hfx
  case frameRequest =>
    intro s frame dg hmode hhears hmax hkind hframe
    refine next_settled_congr ((serviceUartFrameFx_carries hmode hhears hmax hframe).trans (if_neg ?_))
    omega
  case frameRelease =>
    intro s frame dg hmode hhears hmax hkind hframe
    exact next_settled_congr ((serviceUartFrameFx_carries hmode hhears hmax hframe).trans (if_pos hkind))
  case baud =>
    intro s b hdue
    have hfx : uartBaudChangeFx s = { s with net := { s.net with baud := b, baudDue := none } } := by
      simp only [uartBaudChangeFx, hdue, onNet]
    exact next_settled_congr hfx
  case outside =>
    intro s addr size hdram hwindow
    have hfx : appAccessErrorFx addr size s = setBusError true [] s := by
      have hnotDram : ¬ (decide (0x80000000 ≤ addr) && decide (addr + size ≤ 0xE0000000)) = true := by
        simp only [Bool.and_eq_true, decide_eq_true_eq]
        omega
      have hnotWindow : ¬ (decide (0x40000000 ≤ addr) && decide (addr < 0x40010000) && s.sys.ready) = true := by
        simp only [Bool.and_eq_true, decide_eq_true_eq]
        rintro ⟨⟨hlow, hhigh⟩, -⟩
        omega
      rw [appAccessErrorFx, if_neg hnotDram, if_neg hnotWindow]
    exact next_settled_congr hfx
  case dram =>
    intro s addr size hlow hhigh
    have hfx : appAccessErrorFx addr size s = setBusError false [] s := by
      rw [appAccessErrorFx, if_pos (by simp [hlow, hhigh])]
    exact next_settled_congr hfx
  case window =>
    intro s addr size hlow hhigh hready
    have hfx : appAccessErrorFx addr size s = appLoad (addr - 0x40000000) size s := by
      have hnotDram : ¬ (decide (0x80000000 ≤ addr) && decide (addr + size ≤ 0xE0000000)) = true := by
        simp only [Bool.and_eq_true, decide_eq_true_eq]
        omega
      rw [appAccessErrorFx, if_neg hnotDram, if_pos (by simp only [hlow, hhigh, hready, decide_true, Bool.and_self])]
    exact next_settled_congr hfx

/-! ### The heartbeat (spec/02_sluices.md R79, R80, R88, R95) -/

theorem exec_sysHeartbeat {r : Req} {s : State} (ha : asks 0x0002 r s = true) :
    exec (.sysHeartbeat r) s =
      .next (settled s (answered 0x0002 r sOK (r.payload ++ zeros 4 ++ p8 s.sys.devTime)
        (hbRestart r.side (hbRestored r.side (begun 0x0002 r s))))) :=
  next_settled_congr (serve_of_done ha rfl)

theorem length_of_asks_heartbeat {r : Req} {s : State} (ha : asks 0x0002 r s = true) : r.payload.length = 4 := by
  have hknown : knownCmd s 0x0002 = some ⟨0x0002, .fast, mServed, 4, 4, 1⟩  := if_neg (by simp)
  have hlen := lenOk_of_headerCheck hknown (headerCheck_of_asks ha)
  simp only [CmdRow.lenOk, Bool.and_eq_true, decide_eq_true_eq] at hlen
  omega

theorem hbRestored_of_not_lost {s : State} {d : Side} (h : hbLost s d = false) : hbRestored d s = s := by
  have hnone : s.hb.lost.find? (fun e => e.1 == d) = none := by simpa [hbLost] using h
  simp only [hbRestored, hnone]

theorem hbRestored_of_only {s : State} {d : Side} {t : Nat} (h : s.hb.lost = [(d, t)]) :
    hbRestored d s =
      setCause 0 false (note 0x0021 [sideCode d, nsMs (s.sys.devTime - t)] { s with hb := { s.hb with lost := [] } }) := by
  have hfound : s.hb.lost.find? (fun e => e.1 == d) = some (d, t) := by simp [h]
  have hleft : s.hb.lost.filter (fun e => e.1 != d) = [] := by simp [h]
  simp only [hbRestored, hfound, hleft, onHb]
  rw [note_touches]
  rfl

/-- Settles O12: the checks of R66 leave only requests of 4 bytes, and the last side restored clears the cause. -/
theorem heartbeatEchoes : Obligations.HeartbeatEchoes := by
  unfold Obligations.HeartbeatEchoes
  refine ⟨fun s r ha => ?echo, fun s d h => hbRestored_of_not_lost h, fun s d t h => hbRestored_of_only h⟩
  case echo =>
    have hlen := length_of_asks_heartbeat ha
    exact ⟨hlen, by simp [hlen, zeros, p8, leBytes], exec_sysHeartbeat ha⟩

/-- SYS_HEARTBEAT_CONFIG has its fields in range (R95). -/
abbrev hbConfigFields (b : List Byte) : Prop :=
  g1 b 0 ≤ 1 ∧ g1 b 1 < 8 ∧ zeroAt b 2 2 = true ∧ 50 ≤ g4 b 4 ∧ g4 b 4 ≤ 60000

/-- The handler's test refuses what is out of range, and nothing else. -/
theorem hbConfigRefused_iff (b : List Byte) :
    (decide (g1 b 0 > 1) || decide (g1 b 1 ≥ 8) || !zeroAt b 2 2 || decide (g4 b 4 < 50) || decide (g4 b 4 > 60000)) = true ↔
      ¬ hbConfigFields b := by
  simp only [hbConfigFields, Bool.or_eq_true, decide_eq_true_eq]
  cases zeroAt b 2 2 with
  | true =>
    simp only [Bool.not_true, Bool.false_eq_true, or_false, true_and]
    omega
  | false => simp only [Bool.not_false, Bool.false_eq_true, or_true, true_or, false_and, and_false, not_false_eq_true]

theorem sysHeartbeatConfigH_inRange {o : Org} {b : List Byte} {s : State} {own sides : List Side} (h : hbConfigFields b)
    (hown : own = if isSession o.side && bitOf (g1 b 1) 2 then [o.side] else [])
    (hsides : sides = (if bitOf (g1 b 1) 0 then [.spi] else []) ++ (if bitOf (g1 b 1) 1 then [.app] else []) ++ own) :
    sysHeartbeatConfigH o b s =
      .done sOK [] (sides.foldl (fun t d => hbRestart d t)
        (((s.hb.lost.map (·.1)).filter (fun d => !(g1 b 0 = 1 && sides.contains d))).foldl (fun t d => hbRestored d t)
          { s with hb := { s.hb with enable := g1 b 0 = 1, sides := sides, timeoutMs := g4 b 4 } })) := by
  have hrange := fun hbad => (hbConfigRefused_iff b).mp hbad h
  subst hown hsides
  simp only [sysHeartbeatConfigH, if_neg hrange]
  cases o.side <;> rfl

theorem sysHeartbeatConfigH_outOfRange {o : Org} {b : List Byte} {s : State} (h : ¬ hbConfigFields b) :
    sysHeartbeatConfigH o b s = .done sBADOBJ [] s := by
  rw [sysHeartbeatConfigH]
  exact if_pos ((hbConfigRefused_iff b).mpr h)

/-- Settles O18: a timer that runs decides the two events, and the range of the fields the configuration. That bit 2 names
nobody from a side without a session is notes/assumptions/132.md. -/
theorem heartbeatActsAsConfigured : Obligations.HeartbeatActsAsConfigured := by
  unfold Obligations.HeartbeatActsAsConfigured
  refine ⟨?warns, ?noWarning, ?lost, ?notLost, ?heartbeat, ?config, ?badConfig⟩
  case warns =>
    intro s d hruns hwarned
    have hdue : (hbRuns s d && !s.hb.warned.contains d) = true := by simp only [hruns, hwarned]; rfl
    exact next_settled_congr (if_pos hdue)
  case noWarning =>
    intro s d h
    have hdue : ¬ (hbRuns s d && !s.hb.warned.contains d) = true := by
      rcases h with h | h <;> rw [h] <;> simp
    exact next_settled_congr (if_neg hdue)
  case lost =>
    intro s d hruns
    exact next_settled_congr (if_pos hruns)
  case notLost =>
    intro s d hruns
    exact next_settled_congr (if_neg (by simp [hruns]))
  case heartbeat => exact fun s r ha => exec_sysHeartbeat ha
  case config =>
    intro s r own sides ha hon hmask hzero hmin hmax hown hsides
    exact next_settled_congr (serve_of_done ha
      (sysHeartbeatConfigH_inRange ⟨hon, hmask, hzero, hmin, hmax⟩ hown hsides))
  case badConfig =>
    intro s r ha hbad
    refine next_settled_congr (serve_of_done ha (sysHeartbeatConfigH_outOfRange ?_))
    rintro ⟨hon, hmask, hzero, hmin, hmax⟩
    rcases hbad with h | h | h | h | h
    · omega
    · omega
    · exact Bool.false_ne_true (h.symm.trans hzero)
    · omega
    · omega

/-! ### The SYS commands (spec/02_sluices.md R78, R87, R89, R91, R92, R94) -/

section
variable {o : Org} {b : List Byte} {s : State}

theorem sysIdentifyH_eq :
    sysIdentifyH o b s =
      .done sOK (orderCode s ++ p8 s.sys.serial ++ p1 0xB1 ++ p1 0x02 ++ fit 3 ((evverVersion s).flatMap p1) ++
        (if s.island.linkUp then fit 3 ((wmVersion s).flatMap p1) else zeros 3)) s := by
  cases hlink : s.island.linkUp <;> simp [sysIdentifyH, hlink]

theorem sysAbortH_command {x : Nat} {u : State} (hkind : g1 b 0 = 0) (hsluice : g1 b 1 ≤ 15)
    (habort : abortCommand o.side (g1 b 1) (g2 b 2) s = (x, u)) :
    sysAbortH o b s = .done sOK (p1 x ++ zeros 3) (noteBy o.side 0x0022 [0, g1 b 1, g2 b 2, x] u) := by
  simp [sysAbortH, hkind, Nat.not_lt.mpr hsluice, habort]

theorem sysAbortH_zone (hkind : g1 b 0 = 1) (hsluice : g1 b 1 = 0) (hzone : g2 b 2 ≤ 15) :
    sysAbortH o b s =
      .done sOK (p1 3 ++ zeros 3) (noteBy o.side 0x0022 [1, 0, g2 b 2, 3] (abortZone (g2 b 2) s)) := by
  simp [sysAbortH, hkind, hsluice, Nat.not_lt.mpr hzone]

theorem sysAbortH_reserved (h : 1 < g1 b 0 ∨ 15 < g1 b 1 ∨ (g1 b 0 = 1 ∧ (g1 b 1 ≠ 0 ∨ 15 < g2 b 2))) :
    sysAbortH o b s = .done sBADOBJ [] s := by
  have hbad : (decide (g1 b 0 > 1) || decide (g1 b 1 > 15) ||
      (decide (g1 b 0 = 1) && (g1 b 1 != 0 || decide (g2 b 2 > 15)))) = true := by
    simpa [or_assoc] using h
  exact if_pos hbad

theorem sysResetH_normal (htarget : g1 b 0 = 0) (hzero : zeroAt b 1 3 = true) :
    sysResetH o b s =
      .done sOK [] { s with sys := { s.sys with resetDue := some 0, target := some .boot, targetCause := 0, targetWake := 0 } } := by
  simp [sysResetH, htarget, hzero, onSys]

theorem sysResetH_recovery (htarget : g1 b 0 = 1) (hzero : zeroAt b 1 3 = true) :
    sysResetH o b s =
      .done sOK []
        { s with
          sys := { s.sys with resetDue := some 1, target := some .boot, targetCause := 0, targetWake := 0 },
          power := { s.power with recoveryReq := true } } := by
  simp [sysResetH, htarget, hzero, onSys, onPower]

theorem sysResetH_reserved (h : 1 < g1 b 0 ∨ zeroAt b 1 3 = false) : sysResetH o b s = .done sBADOBJ [] s := by
  have hbad : (decide (g1 b 0 > 1) || !zeroAt b 1 3) = true := by simpa using h
  exact if_pos hbad

end

/-- Settles O19: each clause is a branch of its handler, answered as `serve_of_done` says. -/
theorem sysCommandsAnswer : Obligations.SysCommandsAnswer := by
  unfold Obligations.SysCommandsAnswer
  refine ⟨fun s r ha => ?status, fun s r ha => ?identify, fun s r ha => ?sluices, fun s r o u ha hkind hsluice hu => ?abort,
    fun s r ha hkind hsluice hzone => ?abortZone, fun s r ha hbad => ?badAbort, fun s r ha htarget hzero => ?reset,
    fun s r ha htarget hzero => ?recovery, fun s r ha hbad => ?badReset⟩
  case status => exact next_settled_congr (serve_of_done ha rfl)
  case identify => exact next_settled_congr (serve_of_done ha sysIdentifyH_eq)
  case sluices => exact next_settled_congr (serve_of_done ha rfl)
  case abort => exact next_settled_congr (serve_of_done ha (sysAbortH_command hkind hsluice hu))
  case abortZone => exact next_settled_congr (serve_of_done ha (sysAbortH_zone hkind hsluice hzone))
  case badAbort => exact next_settled_congr (serve_of_done ha (sysAbortH_reserved hbad))
  case reset => exact next_settled_congr (serve_of_done ha (sysResetH_normal htarget hzero))
  case recovery => exact next_settled_congr (serve_of_done ha (sysResetH_recovery htarget hzero))
  case badReset => exact next_settled_congr (serve_of_done ha (sysResetH_reserved hbad))

/-! ### A release with a notice that waits (spec/02_sluices.md R64, R93) -/

/-- The SPI side asks on S0 for the release of its S1. -/
def releaseRequest : Req := { side := .spi, sluice := 0, tag := 0, flags := 0, payload := [1, 0, 1, 0] }

/-- COMMISSION, with an idle S1 of the SPI side for which a completion notice waits, as that side has no notice sluice. -/
def noticeWaits : State :=
  { sys := { mode := .commission, ready := true },
    mail :=
      { sluices := [(1, { owner := some .spi, sizeKib := 1, st := .idle }), (16, { owner := some .spi, sizeKib := 1, st := .idle })],
        notices := [{ sluice := 1 }] } }

theorem asks_noticeWaits : asks 0x0007 releaseRequest noticeWaits = true := by decide +kernel

/-- The release is refused: S1 stands in the table after it. -/
theorem sluiceSetup_noticeWaits :
    (tfind (settled noticeWaits (sysSluiceSetupFx releaseRequest noticeWaits)).mail.sluices 1).isSome = true := by
  decide +kernel

/-- Refutes O20 by its clause on a release, which asks that no command of the sluice is in progress but not that no notice of
it waits: such a notice makes the sluice in use, and the release answers BUSY. -/
theorem not_sluiceSetupClaimsAndReleases : ¬ Obligations.SluiceSetupClaimsAndReleases := by
  unfold Obligations.SluiceSetupClaimsAndReleases
  rintro ⟨-, -, -, h, -⟩
  have hsame := Host.Outcome.next.inj (h noticeWaits releaseRequest _ asks_noticeWaits (by decide) (by decide) (by decide)
    (by decide) (by decide) nofun (by decide) rfl rfl rfl rfl rfl)
  have hkept := sluiceSetup_noticeWaits.symm.trans (congrArg (fun t => (tfind t.mail.sluices 1).isSome) hsame)
  exact absurd hkept (by decide +kernel)

end Sys2Proof.Machine

/-! Proofs of the statements of spec/03_configuration.md: each command of the group is an outcome of its handler, answered
with the owner's idle time restarted, and the idle end of a transaction. -/

namespace Sys2Proof.Machine

/-! ### Commands of the group (spec/03_configuration.md R112, R128) -/

/-- A command of the group that is taken up and done at once is answered with what its handler decided. -/
theorem cfgServe_of_done {code : Nat} {h : Org → List Byte → State → Res} {r : Req} {s t : State} {st : Nat}
    {data : List Byte} (ha : asks code r s = true)
    (hdone : h (reqOrg code r) r.payload (begun code r s) = .done st data t) :
    cfgServe code h r s = answered code r st data (ownerSeen r.side t) :=
  serve_of_done ha (congrArg (resOn (ownerSeen r.side)) hdone)

/-- A foreground command of the group that is answered later has only its effect. -/
theorem cfgServe_of_later {code : Nat} {h : Org → List Byte → State → Res} {r : Req} {s t : State}
    (ha : asks code r s = true) (hfore : isBg code = false)
    (hlater : h (reqOrg code r) r.payload (begun code r s) = .later t) :
    cfgServe code h r s = ownerSeen r.side t := by
  have hres := congrArg (resOn (ownerSeen r.side)) hlater
  rw [cfgServe, serve_of_asks ha, ← settleRes_later (reqOrg code r) (ownerSeen r.side t) hfore]
  exact congrArg (settleRes (reqOrg code r)) hres

/-- With no transaction open there is no idle time. -/
theorem ownerSeen_of_none {d : Side} {s : State} (h : s.cfg.txn = none) : ownerSeen d s = s := by simp only [ownerSeen, h]

/-- The open transaction is the side's. -/
abbrev ownsTxn (d : Side) (t : Txn) (s : State) : Prop := s.cfg.txn = some t ∧ t.owner = d

theorem ownsTxn_begun {code : Nat} {r : Req} {s : State} {t : Txn} (ht : s.cfg.txn = some t) (ho : t.owner = r.side) :
    ownsTxn (reqOrg code r).side t (begun code r s) := ⟨ht, ho⟩

theorem asOwner_of_owner {h : Txn → Org → List Byte → State → Res} {o : Org} {b : List Byte} {s : State} {t : Txn}
    (hown : ownsTxn o.side t s) : asOwner h o b s = h t o b s := by
  obtain ⟨ht, ho⟩ := hown
  simp only [asOwner, ht, ho, if_true]

theorem asOwner_of_other {h : Txn → Org → List Byte → State → Res} {o : Org} {b : List Byte} {s : State}
    (hother : s.cfg.txn.map (·.owner) ≠ some o.side) : asOwner h o b s = .done sBADOBJ [] s := by
  cases ht : s.cfg.txn with
  | none => simp only [asOwner, ht]
  | some t =>
    have hside : t.owner ≠ o.side := by simpa [ht] using hother
    simp only [asOwner, ht, if_neg hside]

/-- A side that does not own the transaction is refused (R128). -/
theorem cfgServe_of_other {code : Nat} {h : Txn → Org → List Byte → State → Res} {r : Req} {s : State}
    (ha : asks code r s = true) (hother : s.cfg.txn.map (·.owner) ≠ some r.side) :
    cfgServe code (asOwner h) r s = answered code r sBADOBJ [] (ownerSeen r.side (begun code r s)) :=
  cfgServe_of_done ha (asOwner_of_other hother)

/-! ### CFG_OPEN (R110, R111, R124) -/

/-- The transaction that CFG_OPEN of a side begins on a copy of these objects (R110, R111). -/
def openedTxn (d : Side) (os : List Obj) (s : State) : Txn :=
  { owner := d, full := decide (s.sys.mode = .commission), baseGen := s.cfg.generation, objs := os, lastCmd := s.sys.devTime }

theorem cfgOpenH_opens {o : Org} {b : List Byte} {s : State} (ht : s.cfg.txn = none) :
    cfgOpenH o b s =
      .done sOK (p4 s.cfg.generation ++ p1 (if s.sys.mode = .commission then 0 else 1) ++ zeros 3)
        (onCfg (fun c =>
          { c with
            salvage := none,
            txn := some (openedTxn o.side
              (if s.sys.mode = .commission then s.cfg.salvage.getD s.cfg.active else s.cfg.active) s) }) s) := by
  by_cases hm : s.sys.mode = .commission
  · have hfull : (s.sys.mode == .commission) = true := beq_iff_eq.mpr hm
    simp only [cfgOpenH, openedTxn, ht, hfull, eq_true hm, b01, Option.isSome_none, decide_true, Bool.not_true,
      Bool.false_eq_true, if_true, if_false]
  · have hfull : (s.sys.mode == .commission) = false := beq_eq_false_iff_ne.mpr hm
    simp only [cfgOpenH, openedTxn, ht, hfull, hm, b01, Option.isSome_none, decide_false, Bool.not_false,
      Bool.false_eq_true, if_true, if_false]

theorem cfgOpenH_busy {o : Org} {b : List Byte} {s : State} (ht : s.cfg.txn ≠ none) :
    cfgOpenH o b s = .done sBUSY [] s :=
  if_pos (Option.isSome_iff_ne_none.mpr ht)

/-! ### CFG_WRITE_OBJECT (R98, R110, R111, R121, R129) -/

/-- The object that the payload of CFG_WRITE_OBJECT holds (R98). -/
def writtenObj (b : List Byte) : Obj :=
  { kind := g1 b 0, index := g2 b 2, format := g2 b 4, flags := g2 b 6, body := b.drop 16 }

/-- The handler's test lets through fields in range, of a format that is not newer than the present one. -/
theorem writtenFields_inRange {b : List Byte} (hindex : g2 b 2 < indices (g1 b 0)) (hzero : g1 b 1 = 0) (hflags : g2 b 6 ≤ 1)
    (hformat : g2 b 4 ≤ formatOf (g1 b 0)) :
    (decide (g2 b 2 ≥ indices (g1 b 0)) || g1 b 1 != 0 || decide (g2 b 6 > 1) ||
      decide (g2 b 4 > formatOf (g1 b 0))) = false := by
  simp only [Bool.or_eq_false_iff, decide_eq_false_iff_not, bne_eq_false_iff_eq]
  exact ⟨⟨⟨Nat.not_le.mpr hindex, hzero⟩, Nat.not_lt.mpr hflags⟩, Nat.not_lt.mpr hformat⟩

section
variable {o : Org} {b : List Byte} {s : State} {t : Txn} (hown : ownsTxn o.side t s)
include hown

theorem cfgWriteObjectH_fixed (hf : fixed t = true) : cfgWriteObjectH o b s = .done sBUSY [] s :=
  (asOwner_of_owner hown).trans (if_pos hf)

section
variable (hf : fixed t = false)
include hf

theorem cfgWriteObjectH_badLength (hlen : g4 b 8 ≠ (b.drop 16).length) : cfgWriteObjectH o b s = .done sBADLEN [] s := by
  rw [cfgWriteObjectH, asOwner_of_owner hown, hf, if_neg Bool.false_ne_true]
  exact if_pos (bne_iff_ne.mpr hlen)

variable (hlen : g4 b 8 = (b.drop 16).length)
include hlen

theorem cfgWriteObjectH_outOfRange
    (h : indices (g1 b 0) ≤ g2 b 2 ∨ g1 b 1 ≠ 0 ∨ 1 < g2 b 6 ∨ formatOf (g1 b 0) < g2 b 4) :
    cfgWriteObjectH o b s = .done sBADOBJ [] s := by
  have hbad : (decide (g2 b 2 ≥ indices (g1 b 0)) || g1 b 1 != 0 || decide (g2 b 6 > 1) ||
      decide (g2 b 4 > formatOf (g1 b 0))) = true := by
    simpa [or_assoc] using h
  simp only [cfgWriteObjectH, asOwner_of_owner hown, hf, hlen, hbad, bne_self_eq_false, Bool.false_eq_true, if_false, if_true]

variable (hindex : g2 b 2 < indices (g1 b 0)) (hzero : g1 b 1 = 0) (hflags : g2 b 6 ≤ 1)
include hindex hzero hflags

/-- An older format is stale, and so is an object read before another commit changed it (R111, R121). -/
theorem cfgWriteObjectH_stale
    (h : g2 b 4 < formatOf (g1 b 0) ∨ (g2 b 4 = formatOf (g1 b 0) ∧ g4 b 12 ≠ 0 ∧ g4 b 12 ≠ t.baseGen)) :
    cfgWriteObjectH o b s = .done sSTALE [] s := by
  have hrange := writtenFields_inRange hindex hzero hflags (show g2 b 4 ≤ formatOf (g1 b 0) by omega)
  rcases h with hold | ⟨hsame, hset, hbase⟩
  · simp only [cfgWriteObjectH, asOwner_of_owner hown, hf, hlen, hrange, hold, bne_self_eq_false, Bool.false_eq_true,
      if_false, if_true]
  · have hpresent : ¬ g2 b 4 < formatOf (g1 b 0) := by omega
    have hother : (g4 b 12 != 0 && g4 b 12 != t.baseGen) = true := by
      rw [Bool.and_eq_true, bne_iff_ne, bne_iff_ne]
      exact ⟨hset, hbase⟩
    simp only [cfgWriteObjectH, asOwner_of_owner hown, hf, hlen, hrange, hpresent, hother, bne_self_eq_false,
      Bool.false_eq_true, if_false, if_true]

variable (hformat : g2 b 4 = formatOf (g1 b 0)) (hbase : g4 b 12 = 0 ∨ g4 b 12 = t.baseGen)
include hformat hbase

/-- An object in range, of the present format and not stale, is put into the copy if the transaction's scope allows it. -/
theorem cfgWriteObjectH_inRange :
    cfgWriteObjectH o b s =
      if !t.full && !liveChange s.cfg.active (writtenObj b) then .done sWRONGMODE [] s
      else .done sOK [] (modTxn (fun t => { t with objs := putObj (writtenObj b) t.objs }) s) := by
  have hfresh : (g4 b 12 != 0 && g4 b 12 != t.baseGen) = false := by
    rcases hbase with h | h
    · rw [h, bne_self_eq_false, Bool.false_and]
    · rw [h, bne_self_eq_false, Bool.and_false]
  have hrange := writtenFields_inRange hindex hzero hflags (Nat.le_of_eq hformat)
  have hpresent : ¬ g2 b 4 < formatOf (g1 b 0) := by omega
  simp only [cfgWriteObjectH, asOwner_of_owner hown, hf, hlen, hrange, hpresent, hfresh, bne_self_eq_false,
    Bool.false_eq_true, if_false]
  rfl

end

/-! ### CFG_COMMIT (R114, R116, R117) -/

theorem cfgCommitH_fixed (hf : fixed t = true) : cfgCommitH o b s = .done sBUSY (zeros 8 ++ p4 s.cfg.generation) s :=
  (asOwner_of_owner hown).trans (if_pos hf)

section
variable (hf : fixed t = false)
include hf

theorem cfgCommitH_invalid {f : Fail} (hv : validate s t = some f) :
    cfgCommitH o b s =
      .done (ruleStatus f.rule) (p1 f.kind ++ p1 f.rule ++ p2 f.index ++ p4 f.field ++ p4 s.cfg.generation) s := by
  simp only [cfgCommitH, asOwner_of_owner hown, hf, hv, Bool.false_eq_true, if_false, commitBody]

variable (hv : validate s t = none)
include hv

theorem cfgCommitH_admitted (hstore : canStore (.configSlot (some o)) s = true) :
    cfgCommitH o b s =
      .later (requestStore (.configSlot (some o))
        (modTxn (fun t => { t with committing := true }) (addJob { org := o } s))) := by
  simp only [cfgCommitH, asOwner_of_owner hown, hf, hv, hstore, Bool.false_eq_true, if_false, if_true]

theorem cfgCommitH_queued (hstore : canStore (.configSlot (some o)) s = false) :
    cfgCommitH o b s =
      .done sNOENERGY (zeros 8 ++ p4 s.cfg.generation)
        (requestStore (.configSlot none)
          (noteBy o.side 0x0112 [sideCode o.side, energyMj s, ((3 * (50 + committedMj s) + 600) / 2 : Nat)]
            (modTxn (fun t => { t with queued := some s.sys.devTime }) s))) := by
  simp only [cfgCommitH, asOwner_of_owner hown, hf, hv, hstore, Bool.false_eq_true, if_false]
  rfl

end

/-! ### CFG_DISCARD (R112, R117) -/

theorem cfgDiscardH_committing (hc : t.committing = true) : cfgDiscardH o b s = .done sBUSY [] s :=
  (asOwner_of_owner hown).trans (if_pos hc)

theorem cfgDiscardH_discards (hc : t.committing = false) : cfgDiscardH o b s = .done sOK [] (discardTxn 0 s) :=
  (asOwner_of_owner hown).trans (if_neg (by simp [hc]))

/-! ### CFG_IMPORT (R121, R127) -/

theorem cfgImportH_fixed (hf : fixed t = true) : cfgImportH o b s = .done sBUSY [] s :=
  (asOwner_of_owner hown).trans (if_pos hf)

section
variable (hf : fixed t = false)
include hf

theorem cfgImportH_reserved (h : 1 < g1 b 0 ∨ zeroAt b 1 3 = false) : cfgImportH o b s = .done sBADOBJ [] s := by
  have hbad : (decide (g1 b 0 > 1) || !zeroAt b 1 3) = true := by simpa using h
  simp only [cfgImportH, asOwner_of_owner hown, hf, hbad, Bool.false_eq_true, if_false, if_true]

variable (hmode : g1 b 0 ≤ 1) (hzero : zeroAt b 1 3 = true)
include hmode hzero

theorem cfgImportH_refused {st : Nat} (h : importObjs s (b.drop 4) = .error st) : cfgImportH o b s = .done st [] s := by
  simp only [cfgImportH, asOwner_of_owner hown, hf, Nat.not_lt.mpr hmode, hzero, h, gt_iff_lt, decide_false, Bool.not_true,
    Bool.or_false, Bool.false_eq_true, if_false]

theorem cfgImportH_takes {os : List Obj} (h : importObjs s (b.drop 4) = .ok os) :
    cfgImportH o b s =
      .done sOK [] (modTxn (fun x =>
        { x with
          objs := if g1 b 0 = 0 then (emptyObjs.filter (fun y => !os.any (fun z => z.kind == y.kind))) ++ os
            else os.foldl (fun a y => putObj y a) t.objs }) s) := by
  simp only [cfgImportH, asOwner_of_owner hown, hf, Nat.not_lt.mpr hmode, hzero, h, gt_iff_lt, decide_false, Bool.not_true,
    Bool.or_false, Bool.false_eq_true, if_false]

end

/-! ### CFG_DELETE_OBJECT (R129) -/

theorem cfgDeleteObjectH_fixed (hf : fixed t = true) : cfgDeleteObjectH o b s = .done sBUSY [] s :=
  (asOwner_of_owner hown).trans (if_pos hf)

section
variable (hf : fixed t = false)
include hf

theorem cfgDeleteObjectH_outOfRange (h : g1 b 1 ≠ 0 ∨ indices (g1 b 0) ≤ g2 b 2 ∨ indices (g1 b 0) = 1) :
    cfgDeleteObjectH o b s = .done sBADOBJ [] s := by
  have hbad : (g1 b 1 != 0 || decide (g2 b 2 ≥ indices (g1 b 0)) || decide (indices (g1 b 0) = 1)) = true := by
    simpa [or_assoc] using h
  simp only [cfgDeleteObjectH, asOwner_of_owner hown, hf, hbad, Bool.false_eq_true, if_false, if_true]

variable (hzero : g1 b 1 = 0) (hindex : g2 b 2 < indices (g1 b 0)) (hmany : indices (g1 b 0) ≠ 1)
include hzero hindex hmany

/-- An object in range of a kind with several is removed if the copy has it. -/
theorem cfgDeleteObjectH_inRange :
    cfgDeleteObjectH o b s =
      if (objIn t.objs (g1 b 0) (g2 b 2)).isNone then .done sNOTFOUND [] s
      else .done sOK [] (modTxn (fun x =>
        { x with objs := x.objs.filter (fun y => !(y.kind == g1 b 0 && y.index == g2 b 2)) }) s) := by
  simp only [cfgDeleteObjectH, asOwner_of_owner hown, hf, hzero, hmany, ge_iff_le, Nat.not_le.mpr hindex, bne_self_eq_false,
    decide_false, Bool.or_false, Bool.false_eq_true, if_false]

end

end

/-! ### The objects of a bundle (R121, R126, R127) -/

section
variable {s : State} {b : List Byte} (hmax : b.length ≤ 131072)
include hmax

theorem importObjs_badBundle (h : g4 b 0 ≠ 0x42464743 ∨ b.length < 32 ∨ g4 b 28 ≠ crc32 (b.take 28 ++ b.drop 32) ∨
    runSchema s < g2 b 4 ∨ parseObjs (g2 b 6) (b.drop 32) = none) : importObjs s b = .error sBADOBJ := by
  rw [importObjs, if_neg (Nat.not_lt.mpr hmax)]
  by_cases hhead : g4 b 0 ≠ 0x42464743 ∨ b.length < 32 ∨ g4 b 28 ≠ crc32 (b.take 28 ++ b.drop 32) ∨
      runSchema s < g2 b 4
  · exact if_pos (by simpa [or_assoc] using hhead)
  · have hsplit : (g4 b 0 ≠ 0x42464743 ∨ b.length < 32 ∨ g4 b 28 ≠ crc32 (b.take 28 ++ b.drop 32) ∨
        runSchema s < g2 b 4) ∨ parseObjs (g2 b 6) (b.drop 32) = none := by
      simpa only [or_assoc] using h
    simp only [hsplit.resolve_left hhead, ite_self]

theorem importObjs_stale {os : List Obj} (hmagic : g4 b 0 = 0x42464743) (hmin : 32 ≤ b.length)
    (hcrc : g4 b 28 = crc32 (b.take 28 ++ b.drop 32)) (hschema : g2 b 4 ≤ runSchema s)
    (hparse : parseObjs (g2 b 6) (b.drop 32) = some os) (hstale : os.any (fun o => convertObj o == .stale) = true) :
    importObjs s b = .error sSTALE := by
  have hhead : ¬ (g4 b 0 != 0x42464743 || decide (b.length < 32) || g4 b 28 != crc32 (b.take 28 ++ b.drop 32) ||
      decide (g2 b 4 > runSchema s)) = true := by
    simp only [hmagic, ← hcrc, Nat.not_lt.mpr hmin, gt_iff_lt, Nat.not_lt.mpr hschema, bne_self_eq_false, decide_false,
      Bool.or_false, Bool.false_eq_true, not_false_eq_true]
  rw [importObjs, if_neg (Nat.not_lt.mpr hmax), if_neg hhead]
  simp only [hparse, hstale, if_true]

end

/-! ### CFG_READ_OBJECT, CFG_EXPORT and CFG_STATE (R126, R128, R129) -/

section
variable {o : Org} {b : List Byte} {s : State}

theorem cfgReadObjectH_refused
    (h : indices (g1 b 0) ≤ g2 b 2 ∨ 1 < g1 b 1 ∨ (g1 b 1 = 1 ∧ s.cfg.txn.map (·.owner) ≠ some o.side)) :
    cfgReadObjectH o b s = .done sBADOBJ [] s := by
  by_cases hrange : indices (g1 b 0) ≤ g2 b 2 ∨ 1 < g1 b 1
  · exact if_pos (by simpa using hrange)
  · obtain ⟨hcopy, hother⟩ := (or_assoc.mpr h).resolve_left hrange
    cases ht : s.cfg.txn with
    | none => simp [cfgReadObjectH, hcopy, ht]
    | some t =>
      have hside : t.owner ≠ o.side := by simpa [ht] using hother
      simp [cfgReadObjectH, hcopy, ht, hside]

section
variable (hindex : g2 b 2 < indices (g1 b 0))
include hindex

theorem cfgReadObjectH_active (hsource : g1 b 1 = 0) :
    cfgReadObjectH o b s =
      (objIn s.cfg.active (g1 b 0) (g2 b 2)).elim (.done sNOTFOUND [] s)
        (fun x => .done sOK (objBytes s.cfg.generation x) s) := by
  cases hobj : objIn s.cfg.active (g1 b 0) (g2 b 2) <;> simp [hobj, cfgReadObjectH, Nat.not_le.mpr hindex, hsource]

theorem cfgReadObjectH_copy {t : Txn} (hown : ownsTxn o.side t s) (hsource : g1 b 1 = 1) :
    cfgReadObjectH o b s =
      (objIn t.objs (g1 b 0) (g2 b 2)).elim (.done sNOTFOUND [] s) (fun x => .done sOK (objBytes t.baseGen x) s) := by
  obtain ⟨ht, ho⟩ := hown
  cases hobj : objIn t.objs (g1 b 0) (g2 b 2) <;> simp [hobj, cfgReadObjectH, Nat.not_le.mpr hindex, hsource, ht, ho]

end

theorem cfgExportH_refused (h : 1 < g1 b 0 ∨ zeroAt b 1 3 = false ∨ (g1 b 0 = 1 ∧ s.cfg.txn = none)) :
    cfgExportH o b s = .done sBADOBJ [] s := by
  by_cases hrange : 1 < g1 b 0 ∨ zeroAt b 1 3 = false
  · exact if_pos (by simpa using hrange)
  · obtain ⟨hcopy, ht⟩ := (or_assoc.mpr h).resolve_left hrange
    have hzero : zeroAt b 1 3 = true := by simpa using fun hz => hrange (.inr hz)
    simp only [cfgExportH, hcopy, hzero, ht, gt_iff_lt, Nat.lt_irrefl, Nat.one_ne_zero, decide_false, Bool.not_true,
      Bool.or_false, Bool.false_eq_true, if_false]

section
variable (hzero : zeroAt b 1 3 = true)
include hzero

theorem cfgExportH_active (hsource : g1 b 0 = 0) :
    cfgExportH o b s = .done sOK (bundle s s.cfg.generation s.cfg.active) s := by
  simp [cfgExportH, hzero, hsource]

theorem cfgExportH_copy {t : Txn} (ht : s.cfg.txn = some t) (hsource : g1 b 0 = 1) :
    cfgExportH o b s = .done sOK (bundle s t.baseGen t.objs) s := by
  simp [cfgExportH, hzero, hsource, ht]

end

theorem cfgStateH_none (ht : s.cfg.txn = none) :
    cfgStateH o b s = .done sOK (zeros 8 ++ p4 s.cfg.generation ++ zeros 4) s := by simp only [cfgStateH, ht]

theorem cfgStateH_open {t : Txn} (ht : s.cfg.txn = some t) :
    cfgStateH o b s =
      .done sOK (p1 (if t.queued = none then 1 else 2) ++ p1 (sideCode t.owner) ++ p1 (b01 (!t.full)) ++ zeros 1 ++
        p4 t.baseGen ++ p4 s.cfg.generation ++ p4 (nsMs (s.sys.devTime - t.lastCmd) / 1000)) s := by
  cases hq : t.queued <;> simp [cfgStateH, ht, hq]

end

/-! ### The idle end of a transaction (R112) -/

theorem cfgIdleTimeoutFx_ends {s : State} {t : Txn} (ht : s.cfg.txn = some t) (hf : fixed t = false) :
    cfgIdleTimeoutFx s = discardTxn 1 s := by
  simp only [cfgIdleTimeoutFx, ht, hf, Bool.false_eq_true, if_false]

theorem cfgIdleTimeoutFx_waits {s : State} (h : ∀ t ∈ s.cfg.txn, fixed t = true) : cfgIdleTimeoutFx s = s := by
  cases ht : s.cfg.txn with
  | none => simp only [cfgIdleTimeoutFx, ht]
  | some t => simp only [cfgIdleTimeoutFx, ht, h t (by simp [ht]), if_true]

/-- Settles O52: each clause is an outcome of its handler, answered as `cfgServe_of_done` says; only a commit whose store is
admitted is answered later. That any side may read the working copy as a bundle is notes/assumptions/60.md, and BUSY while a
commit is written or waits is notes/assumptions/61.md. -/
theorem configurationCommandsAct : Obligations.ConfigurationCommandsAct := by
  unfold Obligations.ConfigurationCommandsAct
  refine ⟨?opens, ?openBusy, ?writes, ?writeOther, ?commitOther, ?discardOther, ?importOther, ?deleteOther, ?writeFixed,
    ?importFixed, ?deleteFixed, ?commitFixed, ?discardCommitting, ?writeLength, ?writeRange, ?writeStale, ?writeScope,
    ?commitInvalid, ?commitAdmitted, ?commitQueued, ?discards, ?readActive, ?readCopy, ?readRefused, ?readActiveAbsent,
    ?readCopyAbsent, ?exportCopy, ?exportRefused, ?exportActive, ?imports, ?importReserved, ?importBad, ?importStale,
    ?deletes, ?deleteRange, ?deleteAbsent, ?stateNone, ?stateOpen, ?idleEnds, ?idleWaits⟩
  case opens =>
    rintro s r _ ha ht rfl
    exact next_settled_congr (cfgServe_of_done ha (cfgOpenH_opens ht))
  case openBusy => exact fun s r ha ht => next_settled_congr (cfgServe_of_done ha (cfgOpenH_busy ht))
  case writes =>
    rintro s r t _ ha ht ho hf rfl hlen hindex hzero hflags hformat hbase hscope
    refine next_settled_congr (cfgServe_of_done ha
      ((cfgWriteObjectH_inRange (ownsTxn_begun ht ho) hf hlen hindex hzero hflags hformat hbase).trans (if_neg ?_)))
    rcases hscope with h | h <;> simp [h, writtenObj]
  case writeOther => exact fun s r ha hother => next_settled_congr (cfgServe_of_other ha hother)
  case commitOther => exact fun s r ha hother => next_settled_congr (cfgServe_of_other ha hother)
  case discardOther => exact fun s r ha hother => next_settled_congr (cfgServe_of_other ha hother)
  case importOther => exact fun s r ha hother => next_settled_congr (cfgServe_of_other ha hother)
  case deleteOther => exact fun s r ha hother => next_settled_congr (cfgServe_of_other ha hother)
  case writeFixed =>
    exact fun s r t ha ht ho hf => next_settled_congr (cfgServe_of_done ha (cfgWriteObjectH_fixed (ownsTxn_begun ht ho) hf))
  case importFixed =>
    exact fun s r t ha ht ho hf => next_settled_congr (cfgServe_of_done ha (cfgImportH_fixed (ownsTxn_begun ht ho) hf))
  case deleteFixed =>
    exact fun s r t ha ht ho hf => next_settled_congr (cfgServe_of_done ha (cfgDeleteObjectH_fixed (ownsTxn_begun ht ho) hf))
  case commitFixed =>
    exact fun s r t ha ht ho hf => next_settled_congr (cfgServe_of_done ha (cfgCommitH_fixed (ownsTxn_begun ht ho) hf))
  case discardCommitting =>
    exact fun s r t ha ht ho hc => next_settled_congr (cfgServe_of_done ha (cfgDiscardH_committing (ownsTxn_begun ht ho) hc))
  case writeLength =>
    intro s r t ha ht ho hf hlen
    exact next_settled_congr (cfgServe_of_done ha (cfgWriteObjectH_badLength (ownsTxn_begun ht ho) hf hlen))
  case writeRange =>
    intro s r t ha ht ho hf hlen hbad
    exact next_settled_congr (cfgServe_of_done ha (cfgWriteObjectH_outOfRange (ownsTxn_begun ht ho) hf hlen hbad))
  case writeStale =>
    intro s r t ha ht ho hf hlen hindex hzero hflags hstale
    exact next_settled_congr (cfgServe_of_done ha
      (cfgWriteObjectH_stale (ownsTxn_begun ht ho) hf hlen hindex hzero hflags hstale))
  case writeScope =>
    rintro s r t _ ha ht ho hf rfl hlen hindex hzero hflags hformat hbase hlive hother
    refine next_settled_congr (cfgServe_of_done ha
      ((cfgWriteObjectH_inRange (ownsTxn_begun ht ho) hf hlen hindex hzero hflags hformat hbase).trans (if_pos ?_)))
    simp [hlive, hother, writtenObj]
  case commitInvalid =>
    intro s r t f ha ht ho hf hv
    exact next_settled_congr (cfgServe_of_done ha (cfgCommitH_invalid (ownsTxn_begun ht ho) hf hv))
  case commitAdmitted =>
    intro s r t ha ht ho hf hv hstore
    exact next_settled_congr (cfgServe_of_later ha (by decide) (cfgCommitH_admitted (ownsTxn_begun ht ho) hf hv hstore))
  case commitQueued =>
    intro s r t ha ht ho hf hv hstore
    exact next_settled_congr (cfgServe_of_done ha (cfgCommitH_queued (ownsTxn_begun ht ho) hf hv hstore))
  case discards =>
    intro s r t ha ht ho hc
    exact next_settled_congr (cfgServe_of_done ha (cfgDiscardH_discards (ownsTxn_begun ht ho) hc))
  case readActive =>
    intro s r o ha hindex hsource hfound
    refine next_settled_congr (cfgServe_of_done ha ((cfgReadObjectH_active hindex hsource).trans ?_))
    simp [hfound]
  case readCopy =>
    intro s r t o ha hindex hsource ht ho hfound
    refine next_settled_congr (cfgServe_of_done ha ((cfgReadObjectH_copy hindex (ownsTxn_begun ht ho) hsource).trans ?_))
    simp [hfound]
  case readRefused => exact fun s r ha h => next_settled_congr (cfgServe_of_done ha (cfgReadObjectH_refused h))
  case readActiveAbsent =>
    intro s r ha hindex hsource habsent
    refine next_settled_congr (cfgServe_of_done ha ((cfgReadObjectH_active hindex hsource).trans ?_))
    simp [habsent]
  case readCopyAbsent =>
    intro s r t ha ht ho hindex hsource habsent
    refine next_settled_congr (cfgServe_of_done ha ((cfgReadObjectH_copy hindex (ownsTxn_begun ht ho) hsource).trans ?_))
    simp [habsent]
  case exportCopy =>
    intro s r t ha hsource hzero ht
    exact next_settled_congr (cfgServe_of_done ha (cfgExportH_copy hzero ht hsource))
  case exportRefused => exact fun s r ha h => next_settled_congr (cfgServe_of_done ha (cfgExportH_refused h))
  case exportActive =>
    intro s r ha hsource hzero
    exact next_settled_congr (cfgServe_of_done ha (cfgExportH_active hzero hsource))
  case imports =>
    intro s r t os ha ht ho hf hmode hzero hos
    have hok : importObjs s (r.payload.drop 4) = .ok os := by
      cases hi : importObjs s (r.payload.drop 4) with
      | error st => simp [hi, Except.toOption] at hos
      | ok os' => simpa [hi, Except.toOption] using hos
    exact next_settled_congr (cfgServe_of_done ha (cfgImportH_takes (ownsTxn_begun ht ho) hf hmode hzero hok))
  case importReserved =>
    intro s r t ha ht ho hf hbad
    exact next_settled_congr (cfgServe_of_done ha (cfgImportH_reserved (ownsTxn_begun ht ho) hf hbad))
  case importBad =>
    rintro s r t _ ha ht ho hf hmode hzero rfl hmax hbad
    exact next_settled_congr (cfgServe_of_done ha
      (cfgImportH_refused (ownsTxn_begun ht ho) hf hmode hzero (importObjs_badBundle hmax hbad)))
  case importStale =>
    rintro s r t _ os ha ht ho hf hmode hzero rfl hmax hmagic hmin hcrc hschema hparse hstale
    exact next_settled_congr (cfgServe_of_done ha
      (cfgImportH_refused (ownsTxn_begun ht ho) hf hmode hzero (importObjs_stale hmax hmagic hmin hcrc hschema hparse hstale)))
  case deletes =>
    intro s r t ha ht ho hf hzero hindex hmany hfound
    refine next_settled_congr (cfgServe_of_done ha
      ((cfgDeleteObjectH_inRange (ownsTxn_begun ht ho) hf hzero hindex hmany).trans (if_neg ?_)))
    rwa [Option.isNone_iff_eq_none]
  case deleteRange =>
    intro s r t ha ht ho hf hbad
    exact next_settled_congr (cfgServe_of_done ha (cfgDeleteObjectH_outOfRange (ownsTxn_begun ht ho) hf hbad))
  case deleteAbsent =>
    intro s r t ha ht ho hf hzero hindex hmany habsent
    refine next_settled_congr (cfgServe_of_done ha
      ((cfgDeleteObjectH_inRange (ownsTxn_begun ht ho) hf hzero hindex hmany).trans (if_pos ?_)))
    rwa [Option.isNone_iff_eq_none]
  case stateNone =>
    intro s r ha ht
    refine next_settled_congr ((cfgServe_of_done ha (cfgStateH_none ht)).trans ?_)
    rw [ownerSeen_of_none (show (begun 0x0109 r s).cfg.txn = none from ht)]
    rfl
  case stateOpen => exact fun s r t ha ht => next_settled_congr (cfgServe_of_done ha (cfgStateH_open ht))
  case idleEnds => exact fun s t ht hf => next_settled_congr (cfgIdleTimeoutFx_ends ht hf)
  case idleWaits => exact fun s h => next_settled_congr (cfgIdleTimeoutFx_waits h)

end Sys2Proof.Machine

/-! Proofs of the statements of spec/04_felt_time.md: the mirror that FELT_STATUS reads, the sources that move felts, the felt and
wheel commands, and parcels. Two statements fail, each on a concrete state: a WHEEL_WAIT that asks for NOTIFY does not have it
with its PENDING, and a hand-off frame carries bit 31 of its extended identifier. -/

namespace Sys2Proof.Machine

/-! ### One entry of a table changed again -/

theorem tfind_tset_self {α : Type} (t : Tbl α) (k : Nat) (v : α) : tfind (tset t k v) k = some v := by
  induction t with
  | nil => simp [tset, tfind]
  | cons e r ih =>
    obtain ⟨j, w⟩ := e
    rcases Nat.lt_trichotomy k j with hlt | rfl | hgt
    · simp [tset, tfind, hlt]
    · simp [tset, tfind]
    · simp [tset, tfind, Nat.lt_asymm hgt, Nat.ne_of_gt hgt, Nat.ne_of_lt hgt, ih]

theorem tset_tset_self {α : Type} (t : Tbl α) (k : Nat) (v w : α) : tset (tset t k v) k w = tset t k w := by
  induction t with
  | nil => simp [tset]
  | cons e r ih =>
    obtain ⟨j, x⟩ := e
    rcases Nat.lt_trichotomy k j with hlt | rfl | hgt
    · simp [tset, hlt]
    · simp [tset]
    · simp [tset, Nat.lt_asymm hgt, Nat.ne_of_gt hgt, ih]

theorem tget_tmod_self {α : Type} [Inhabited α] (t : Tbl α) (k : Nat) (f : α → α) : tget (tmod t k f) k = f (tget t k) := by
  rw [tget, tmod, tfind_tset_self, Option.getD_some]

theorem tmod_tmod_self {α : Type} [Inhabited α] (t : Tbl α) (k : Nat) (f g : α → α) :
    tmod (tmod t k f) k g = tmod t k (fun x => g (f x)) := by
  rw [tmod, tget_tmod_self, tmod, tset_tset_self, tmod]

/-! ### A change of one felt -/

@[simp] theorem modFelt_sys (f : Nat) (g : Felt → Felt) (s : State) : (modFelt f g s).sys = s.sys := rfl

@[simp] theorem felt_modFelt_self (f : Nat) (g : Felt → Felt) (s : State) : felt (modFelt f g s) f = g (felt s f) :=
  tget_tmod_self s.felt.felts f g

@[simp] theorem modFelt_modFelt_self (f : Nat) (g h : Felt → Felt) (s : State) :
    modFelt f h (modFelt f g s) = modFelt f (fun x => h (g x)) s :=
  congrArg (fun t => onFelt (fun x => { x with felts := t }) s) (tmod_tmod_self s.felt.felts f g h)

/-! ### FELT_STATUS (R148, R170) -/

section
variable {o : Org} {b : List Byte} {s : State}

theorem feltStatusH_refused (h : 7 < g1 b 0 ∨ 1 < g1 b 1 ∨ zeroAt b 2 2 = false) :
    feltStatusH o b s = .done sBADOBJ [] s := by
  have hbad : (decide (g1 b 0 > 7) || decide (g1 b 1 > 1) || !zeroAt b 2 2) = true := by simpa [or_assoc] using h
  exact if_pos hbad

/-- A request in range is answered with the mirror as it stands. -/
theorem feltStatusH_inRange (hfelt : g1 b 0 ≤ 7) (hclear : g1 b 1 ≤ 1) (hzero : zeroAt b 2 2 = true) :
    feltStatusH o b s =
      .done sOK ((mirror s (g1 b 0)).flatMap p4)
        (if g1 b 1 = 1 then
          modFelt (g1 b 0) (fun x => { x with state := setBit 9 false (setBit 7 false (setBit 5 false x.state)) }) s
        else s) := by
  have hok : ¬ (decide (g1 b 0 > 7) || decide (g1 b 1 > 1) || !zeroAt b 2 2) = true := by simp [hfelt, hclear, hzero]
  exact if_neg hok

end

/-- QERR, RATE_HIGH and RESET cleared one by one (R148). -/
theorem clearSticky_eq_mask (w : BitVec 16) : setBit 9 false (setBit 7 false (setBit 5 false w)) = w &&& ~~~0x2A0 := by
  simp only [setBit, Bool.false_eq_true, if_false, BitVec.and_assoc]
  rfl

theorem place_ream (o : Org) (st : Nat) (data : List Byte) (s : State) : (place o st data s).ream = s.ream := by
  rw [place_touches]

theorem length_mirror_bytes (s : State) (f : Nat) : ((mirror s f).flatMap p4).length = 32 := by simp [mirror, p4, leBytes]

/-- Settles O11: the range of the request decides, and bits 5, 7 and 9 together are the mask of the sticky flags. -/
theorem feltStatusReadsTheMirror : Obligations.FeltStatusReadsTheMirror := by
  unfold Obligations.FeltStatusReadsTheMirror
  refine ⟨?reads, ?clears, ?refused, length_mirror_bytes, fun s o st data => place_ream o st data s⟩
  case reads =>
    intro s r ha hfelt hclear hzero
    exact next_settled_congr (serve_of_done ha ((feltStatusH_inRange hfelt (by omega) hzero).trans (by simp [hclear]; rfl)))
  case clears =>
    intro s r ha hfelt hclear hzero
    simp only [← clearSticky_eq_mask]
    exact next_settled_congr (serve_of_done ha ((feltStatusH_inRange hfelt (by omega) hzero).trans (by simp [hclear]; rfl)))
  case refused => exact fun s r ha hbad => next_settled_congr (serve_of_done ha (feltStatusH_refused hbad))

/-! ### Edges of an encoder (R138, R139, R146) -/

@[simp] theorem seeChans_sys (ts : List Nat) (levels : List Bool) (s : State) : (seeChans ts levels s).sys = s.sys := rfl
@[simp] theorem felt_seeChans (ts : List Nat) (levels : List Bool) (s : State) (f : Nat) :
    felt (seeChans ts levels s) f = felt s f := rfl

/-- The inputs and the source hold the levels after an edge. -/
def levelsTaken (f : Nat) (a b : Bool) (s : State) : State :=
  modFelt f (fun y => { y with a := a, b := b }) (seeChans (encChans s f) [a, b] s)

/-- An illegal edge of QUAD_X4: both inputs changed (R139). -/
abbrev doubleEdge (f : Nat) (a b : Bool) (s : State) : Prop :=
  encMode s f = 0 ∧ ((felt s f).a != a) = true ∧ ((felt s f).b != b) = true

section
variable {f : Nat} {a b : Bool} {s : State}

theorem edgeFast_levelsTaken_of_apart (h : ∀ q ∈ (felt s f).lastEdge, 5000 ≤ s.sys.devTime - q) :
    edgeFast f (levelsTaken f a b s) =
      modFelt f (fun y => { y with a := a, b := b, lastEdge := some s.sys.devTime }) (seeChans (encChans s f) [a, b] s) := by
  cases hlast : (felt s f).lastEdge with
  | none => simp [edgeFast, levelsTaken, hlast]
  | some q =>
    have hapart : ¬ s.sys.devTime - q < 5000 := Nat.not_lt.mpr (h q hlast)
    simp [edgeFast, levelsTaken, hlast, hapart]

theorem edgeFast_levelsTaken_of_close {q : Nat} (hf : f < 8) (hlast : (felt s f).lastEdge = some q)
    (hclose : s.sys.devTime - q < 5000) :
    edgeFast f (levelsTaken f a b s) =
      note 0x0418 [f]
        (modFelt f (fun y => { y with a := a, b := b, lastEdge := some s.sys.devTime, state := setBit 7 true y.state })
          (seeChans (encChans s f) [a, b] s)) := by
  simp [edgeFast, levelsTaken, encFlag, hlast, hclose, hf]

section
variable {mode : Nat} {a0 b0 : Bool}

/-- In QUAD_X4 an edge of A goes forward where it leaves the inputs unequal (notes/assumptions/30.md). -/
theorem edgeDir_quad_edgeA (hmode : mode = 0) (ha : (a0 != a) = true) :
    edgeDir mode a0 b0 a b = if a ≠ b then 1 else -1 := by simp [edgeDir, hmode, ha]

theorem edgeDir_quad_edgeB (hmode : mode = 0) (ha : a0 = a) (hb : (b0 != b) = true) :
    edgeDir mode a0 b0 a b = if a = b then 1 else -1 := by simp [edgeDir, hmode, ha, hb]

/-- In the other modes a rise of A counts, in mode 1 in the direction that B tells. -/
theorem edgeDir_rise (hmode : mode ≠ 0) (ha : a0 = false) :
    edgeDir mode a0 b0 true b = if mode = 1 ∧ b = true then -1 else 1 := by
  subst ha
  match mode, hmode with
  | 1, _ => simp [edgeDir]
  | n + 2, _ => simp [edgeDir]

theorem edgeDir_uncounted (h : (mode = 0 ∧ a0 = a ∧ b0 = b) ∨ (mode ≠ 0 ∧ (a = false ∨ a0 = true))) :
    edgeDir mode a0 b0 a b = 0 := by
  rcases h with ⟨rfl, rfl, rfl⟩ | ⟨hmode, hlevel⟩
  · simp [edgeDir]
  · have hrise : (!a0 && a) = false := by rcases hlevel with rfl | rfl <;> simp
    match mode, hmode with
    | 1, _ => simp only [edgeDir, hrise, Bool.false_eq_true, if_false]
    | n + 2, _ => simp only [edgeDir, hrise, Bool.false_eq_true, if_false]

end

theorem encoderEdgeFx_still (h : encOn s f = false ∨ feltsCount s = false) : encoderEdgeFx f a b s = s := by
  have hoff : (!encOn s f || !feltsCount s) = true := by simpa using h
  exact if_pos hoff

section
variable (hon : encOn s f = true) (hcounts : feltsCount s = true)
include hon hcounts

theorem encoderEdgeFx_double (hdouble : doubleEdge f a b s) :
    encoderEdgeFx f a b s =
      note 0x0417 [f, (felt s f).qerrs + 1]
        (encFlag f 5 0 (modFelt f (fun y => { y with a := a, b := b, qerrs := y.qerrs + 1 })
          (seeChans (encChans s f) [a, b] s))) := by
  obtain ⟨hmode, ha, hb⟩ := hdouble
  simp [encoderEdgeFx, hon, hcounts, hmode, ha, hb]

section
variable (hsingle : ¬ doubleEdge f a b s) {d : Int} (hd : edgeDir (encMode s f) (felt s f).a (felt s f).b a b = d)
include hsingle hd

/-- An edge that is no double one counts by its direction, or is only taken in. -/
theorem encoderEdgeFx_single :
    encoderEdgeFx f a b s =
      if d = 0 then levelsTaken f a b s
      else encoderCount f (if encInvert s f then -d else d) (edgeFast f (levelsTaken f a b s)) := by
  have hlegal : ¬ (decide (encMode s f = 0) && (felt s f).a != a && (felt s f).b != b) = true := by
    simpa only [doubleEdge, Bool.and_eq_true, decide_eq_true_eq, and_assoc] using hsingle
  simp only [encoderEdgeFx, hon, hcounts, hlegal, hd, levelsTaken, Bool.not_true, Bool.or_false, Bool.false_eq_true, if_false]

variable (hmoves : d ≠ 0)
include hmoves

/-- A felt moves by a count whose edge is not too close to the one before it. -/
theorem encoderEdgeFx_moves (hf : f < 8) (hapart : ∀ q ∈ (felt s f).lastEdge, 5000 ≤ s.sys.devTime - q) :
    encoderEdgeFx f a b s =
      afterMove (moveFelt 3 f (if encInvert s f then -d else d)
        (modFelt f (fun y => { y with a := a, b := b, lastEdge := some s.sys.devTime }) (seeChans (encChans s f) [a, b] s))) := by
  rw [encoderEdgeFx_single hon hcounts hsingle hd, if_neg hmoves, edgeFast_levelsTaken_of_apart hapart, encoderCount, if_pos hf]

theorem encoderEdgeFx_moves_close {q : Nat} (hf : f < 8) (hlast : (felt s f).lastEdge = some q)
    (hclose : s.sys.devTime - q < 5000) :
    encoderEdgeFx f a b s =
      afterMove (moveFelt 3 f (if encInvert s f then -d else d) (note 0x0418 [f]
        (modFelt f (fun y => { y with a := a, b := b, lastEdge := some s.sys.devTime, state := setBit 7 true y.state })
          (seeChans (encChans s f) [a, b] s)))) := by
  rw [encoderEdgeFx_single hon hcounts hsingle hd, if_neg hmoves, edgeFast_levelsTaken_of_close hf hlast hclose, encoderCount,
    if_pos hf]

/-- A count of an Encoder station goes into its position, which is published. -/
theorem encoderEdgeFx_publishes (hf : 256 ≤ f) (hapart : ∀ q ∈ (felt s f).lastEdge, 5000 ≤ s.sys.devTime - q) {n : Int}
    (hn : n = if encInvert s f then -d else d) :
    encoderEdgeFx f a b s =
      publishEncoder f (countRate f n (modFelt f (fun y =>
        { y with a := a, b := b, lastEdge := some s.sys.devTime, pos := u32 (y.pos + n), time := s.sys.devTime })
          (seeChans (encChans s f) [a, b] s))) := by
  rw [encoderEdgeFx_single hon hcounts hsingle hd, if_neg hmoves, edgeFast_levelsTaken_of_apart hapart, encoderCount,
    if_neg (by omega), ← hn, modFelt_modFelt_self, modFelt_sys, seeChans_sys]

end

end

end

/-! ### Mains crossings and lost sources (R137, R142, R159) -/

section
variable {s : State}

theorem mainsCrossingFx_off (h : feltOn s 1 = false ∨ feltSource s 1 ≠ 1 ∨ feltsCount s = false) : mainsCrossingFx s = s := by
  have hoff : (!feltOn s 1 || feltSource s 1 != 1 || !feltsCount s) = true := by simpa [or_assoc] using h
  exact if_pos hoff

section
variable (hon : feltOn s 1 = true) (hcounts : feltsCount s = true)
include hon hcounts

theorem mainsCrossingFx_locked (hsrc : feltSource s 1 = 1) (hlocked : (felt s 1).locked = true) {w : Nat}
    (hw : w = min (felt s 1).slew.toNat 32) (hslew : 0 ≤ (felt s 1).slew) :
    mainsCrossingFx s =
      afterMove (moveFelt 3 1 (256 - (felt s 1).advanced + w)
        (modFelt 1 (fun y => { y with advanced := 0, slew := y.slew - w }) s)) := by
  have hshare : min (felt s 1).slew 32 = (w : Int) := by omega
  simp [mainsCrossingFx, hon, hcounts, hsrc, hlocked, hshare]

/-- F1 locks; what it must make up is told after a loss. -/
theorem mainsCrossingFx_locks (hsrc : feltSource s 1 = 1) (hlocked : (felt s 1).locked = false) {w : Nat}
    (hw : w = (256 - (felt s 1).pos % 256) % 256) {t : State}
    (ht : t = modFelt 1 (fun y => { y with locked := true, advanced := 0, slew := w, state := setBit 6 false y.state }) s) :
    mainsCrossingFx s = if (felt s 1).state.getLsbD 6 then note 0x0416 [1, w] t else t := by
  subst hw ht
  simp [mainsCrossingFx, hon, hcounts, hsrc, hlocked]

theorem mainsSourceLostFx_locked (hlocked : (felt s 1).locked = true) :
    mainsSourceLostFx s =
      note 0x0415 [1] (stopFelt 3 1 false
        (modFelt 1 (fun y => { y with locked := false, slew := 0, state := setBit 6 true y.state }) s)) := by
  simp [mainsSourceLostFx, hon, hcounts, hlocked]

end

theorem mainsSourceLostFx_off (h : feltOn s 1 = false ∨ (felt s 1).locked = false ∨ feltsCount s = false) :
    mainsSourceLostFx s = s := by
  have hoff : (!feltOn s 1 || !(felt s 1).locked || !feltsCount s) = true := by simpa [or_assoc] using h
  exact if_pos hoff

theorem remoteFeltLostFx_heard {f : Nat} (hon : feltOn s f = true) (hcounts : feltsCount s = true) (hsrc : feltSource s f = 4)
    (hheard : (felt s f).state.getLsbD 6 = false) :
    remoteFeltLostFx f s =
      note 0x0415 [f] (stopFelt 3 f false
        (modFelt f (fun y => { y with state := setBit 6 true (setBit 8 false y.state), slew := 0 }) s)) := by
  have hlive : ¬ (!feltOn s f || feltSource s f != 4 || (felt s f).state.getLsbD 6 || !feltsCount s) = true := by
    rw [hon, hcounts, hsrc, hheard]
    decide
  exact if_neg hlive

theorem remoteFeltLostFx_off {f : Nat}
    (h : feltOn s f = false ∨ feltSource s f ≠ 4 ∨ (felt s f).state.getLsbD 6 = true ∨ feltsCount s = false) :
    remoteFeltLostFx f s = s := by
  have hoff : (!feltOn s f || feltSource s f != 4 || (felt s f).state.getLsbD 6 || !feltsCount s) = true := by
    simpa [or_assoc] using h
  exact if_pos hoff

/-! ### Stalls and felt references (R142, R159; spec/12_priority_bus.md R438) -/

theorem feltStallFx_felt {f : Nat} (hmin : 1 ≤ f) (hmax : f < 8) (hon : feltOn s f = true) (hcounts : feltsCount s = true) :
    feltStallFx f s = stopFelt 3 f true s := by
  simp [feltStallFx, hon, hcounts, show ¬ 256 ≤ f by omega, show f ≠ 0 by omega, Nat.not_le.mpr hmax]

theorem feltStallFx_station {f : Nat} (hf : 256 ≤ f) (hon : encOn s f = true) (hcounts : feltsCount s = true) :
    feltStallFx f s = publishEncoder f (modFelt f (fun y => { y with rate := 0, hist := [] }) s) := by
  simp [feltStallFx, hon, hcounts, hf]

theorem feltStallFx_off {f : Nat} (h : (256 ≤ f ∧ encOn s f = false) ∨ (8 ≤ f ∧ f < 256) ∨ f = 0 ∨
    (f < 8 ∧ feltOn s f = false) ∨ feltsCount s = false) : feltStallFx f s = s := by
  rcases h with ⟨hf, hoff⟩ | ⟨hmin, hmax⟩ | rfl | ⟨hf, hoff⟩ | hstill
  · simp [feltStallFx, hf, hoff]
  · simp [feltStallFx, hmin, Nat.not_le.mpr hmax]
  · simp [feltStallFx]
  · simp [feltStallFx, hoff, show ¬ 256 ≤ f by omega]
  · simp [feltStallFx, hstill]

variable {chan : Nat} {data : List Byte}

theorem feltReferenceReceivedFx_heard (hchan : chan ≤ 2) (hup : busUp s chan = true) (hst : (ch s chan).st ≠ 0) :
    feltReferenceReceivedFx chan (feltIdent s chan + g1 data 0) data s =
      (chunks 10 (min 6 (g1 data 2)) (data.drop 4)).foldl (fun t e => [6, 7].foldl (fun u f =>
        if followsRemote u f chan (g1 data 0) (g1 e 0) then remoteEntry f (g4 e 2) (i4 e 6) u else u) t) s := by
  have hheard : ¬ (decide (chan > 2) || !busUp s chan || decide ((ch s chan).st = 0) ||
      feltIdent s chan + g1 data 0 != feltIdent s chan + g1 data 0) = true := by simp [hchan, hup, hst]
  exact if_neg hheard

theorem feltReferenceReceivedFx_ignored {w : Nat}
    (h : 2 < chan ∨ busUp s chan = false ∨ (ch s chan).st = 0 ∨ w ≠ feltIdent s chan + g1 data 0) :
    feltReferenceReceivedFx chan w data s = s := by
  have hignored : (decide (chan > 2) || !busUp s chan || decide ((ch s chan).st = 0) ||
      w != feltIdent s chan + g1 data 0) = true := by simpa [or_assoc] using h
  exact if_pos hignored

end

/-- Settles O41: the direction of an edge and the time since the one before it decide what an encoder counts; the other events are
each a branch of their effect. Forward in QUAD_X4 is notes/assumptions/30.md, and how a rate is measured 140.md. -/
theorem feltSourcesMoveFelts : Obligations.FeltSourcesMoveFelts := by
  unfold Obligations.FeltSourcesMoveFelts
  refine ⟨?edgeA, ?edgeB, ?rise, ?close, ?uncounted, ?double, ?station, ?notCounting, ?locked, ?relocks, ?locks, ?crossingOff,
    ?mainsLost, ?mainsLostOff, ?stall, ?stallStation, ?stallOff, ?reference, ?referenceIgnored, ?remoteLost, ?remoteLostOff⟩
  case edgeA =>
    rintro s f a b _ hf hon hcounts hmode ha hb hapart rfl
    exact next_settled_congr (encoderEdgeFx_moves hon hcounts (by simp [hb]) (edgeDir_quad_edgeA hmode ha) (by split <;> decide)
      hf hapart)
  case edgeB =>
    rintro s f a b _ hf hon hcounts hmode ha hb hapart rfl
    exact next_settled_congr (encoderEdgeFx_moves hon hcounts (by simp [ha]) (edgeDir_quad_edgeB hmode ha hb)
      (by split <;> decide) hf hapart)
  case rise =>
    rintro s f b _ hf hon hcounts hmode ha hapart rfl
    exact next_settled_congr (encoderEdgeFx_moves hon hcounts (by simp [hmode]) (edgeDir_rise hmode ha) (by split <;> decide)
      hf hapart)
  case close =>
    rintro s f q a b _ hf hon hcounts hmode hlast hclose ha hb rfl
    exact next_settled_congr (encoderEdgeFx_moves_close hon hcounts (by simp [hb]) (edgeDir_quad_edgeA hmode ha)
      (by split <;> decide) hf hlast hclose)
  case uncounted =>
    intro s f a b _ hon hcounts hlevels
    refine next_settled_congr ((encoderEdgeFx_single hon hcounts ?_ (edgeDir_uncounted hlevels)).trans (if_pos rfl))
    rintro ⟨hmode, ha, -⟩
    rcases hlevels with ⟨-, hsame, -⟩ | ⟨hother, -⟩
    · simp [hsame] at ha
    · exact hother hmode
  case double =>
    intro s f a b hon hcounts hmode ha hb
    exact next_settled_congr (encoderEdgeFx_double hon hcounts ⟨hmode, ha, hb⟩)
  case station =>
    intro s f a b d hf hon hcounts hmode ha hb hapart hd
    refine next_settled_congr (encoderEdgeFx_publishes hon hcounts (by simp [hb]) (edgeDir_quad_edgeA hmode ha)
      (by split <;> decide) hf hapart (hd.trans ?_))
    split <;> split <;> rfl
  case notCounting => exact fun s f a b h => next_settled_congr (encoderEdgeFx_still h)
  case locked =>
    intro s w hon hcounts hsrc hlocked hw hslew
    exact next_settled_congr (mainsCrossingFx_locked hon hcounts hsrc hlocked hw hslew)
  case relocks =>
    intro s w hon hcounts hsrc hlocked hw hlost
    exact next_settled_congr ((mainsCrossingFx_locks hon hcounts hsrc hlocked hw rfl).trans (if_pos hlost))
  case locks =>
    intro s w hon hcounts hsrc hlocked hw hlost
    exact next_settled_congr ((mainsCrossingFx_locks hon hcounts hsrc hlocked hw rfl).trans (if_neg (Bool.eq_false_iff.mp hlost)))
  case crossingOff => exact fun s h => next_settled_congr (mainsCrossingFx_off h)
  case mainsLost => exact fun s hon hcounts hlocked => next_settled_congr (mainsSourceLostFx_locked hon hcounts hlocked)
  case mainsLostOff => exact fun s h => next_settled_congr (mainsSourceLostFx_off h)
  case stall => exact fun s f hmin hmax hon hcounts => next_settled_congr (feltStallFx_felt hmin hmax hon hcounts)
  case stallStation => exact fun s f hf hon hcounts => next_settled_congr (feltStallFx_station hf hon hcounts)
  case stallOff => exact fun s f h => next_settled_congr (feltStallFx_off h)
  case reference =>
    rintro s chan data _ hchan hup hst rfl
    exact next_settled_congr (feltReferenceReceivedFx_heard hchan hup hst)
  case referenceIgnored => exact fun s chan w data h => next_settled_congr (feltReferenceReceivedFx_ignored h)
  case remoteLost =>
    intro s f hon hcounts hsrc hheard
    exact next_settled_congr (remoteFeltLostFx_heard hon hcounts hsrc hheard)
  case remoteLostOff => exact fun s f h => next_settled_congr (remoteFeltLostFx_off h)

/-! ### PENDING of a request with NOTIFY (R174; spec/02_sluices.md R65, R81) -/

/-- RUN, with an idle S1 of the SPI side and S2 as its notice sluice. -/
def waitPossible : State :=
  { sys := { mode := .run, ready := true },
    mail :=
      { sluices := [(1, { owner := some .spi, sizeKib := 1, st := .idle }),
          (2, { owner := some .spi, sizeKib := 1, st := .idle, role := 1 })] } }

/-- A WHEEL_WAIT on S1 that asks for NOTIFY with its answer. -/
def notifiedWait : Req := { side := .spi, sluice := 1, tag := 0, flags := 4, payload := [] }

theorem asks_notifiedWait : asks 0x0408 notifiedWait waitPossible = true := by decide +kernel

/-- PENDING is not the answer that NOTIFY is for. -/
theorem notify_wheelWait_pending :
    (tget (settled waitPossible (wheelWaitFx notifiedWait waitPossible)).mail.sluices 1).notify = false := by decide +kernel

/-- Refutes O42 by its clause on WHEEL_WAIT, which places PENDING as if it were the final answer: with NOTIFY in the request, the
interrupt would be asserted with PENDING, and the model leaves it for the completion notice. -/
theorem not_feltAndWheelCommandsAct : ¬ Obligations.FeltAndWheelCommandsAct := by
  unfold Obligations.FeltAndWheelCommandsAct
  rintro ⟨-, -, -, -, -, -, -, -, -, -, -, -, -, -, -, -, -, -, -, -, hwait, -⟩
  have hsame := Host.Outcome.next.inj (hwait waitPossible notifiedWait asks_notifiedWait)
  have hnotify := notify_wheelWait_pending.symm.trans (congrArg (fun t => (tget t.mail.sluices 1).notify) hsame)
  exact absurd hnotify (by decide +kernel)

/-! ### The identifier of a hand-off frame (R167; spec/12_priority_bus.md R419, R440) -/

/-- RUN, with parcel hand-offs on Bus C from identifier 0x400, extended, and zone 1 on F0, which adopts from zone 3 of device 9. -/
def adoptsByBus : State :=
  { sys := { mode := .run, ready := true }, zones := [(1, { st := 2 })], bus := { chans := [(2, { st := 1 })] },
    cfg :=
      { active :=
          [{ kind := 1, index := 0, flags := 1, body := [1] ++ zeros 31 },
            { kind := 3, index := 1, flags := 1, body := [1, 0, 0, 0] ++ p4 1000 ++ zeros 24 ++ p4 0 ++ [9, 3] ++ zeros 26 },
            { kind := 5, index := 2, flags := 1, body := zeros 32 ++ [1, 0, 0, 0] ++ p4 0x80000400 ++ zeros 56 }] } }

/-- The hand-off of parcel 7 from there: the base identifier, 16 for each device, and the zone, with bit 31. -/
def handoffWord : Nat := 0x80000400 + 9 * 16 + 3

theorem handoffOn_adoptsByBus :
    busUp adoptsByBus 2 = true ∧ (ch adoptsByBus 2).st ≠ 0 ∧ handoffOn adoptsByBus 2 = true := by decide +kernel

/-- Zone 1 adopts the parcel. -/
theorem parcels_adoptsByBus_handoff :
    (parcels (settled adoptsByBus (parcelHandoffReceivedFx 2 handoffWord (p4 7) adoptsByBus)) 1).map (·.id) = [7] := by
  decide +kernel

/-- Refutes O43 by its clause on a hand-off frame, which compares the frame's identifier word, whose bit 31 says that it is
extended, with the 29 bits of the expected one: a frame that its zone adopts would change nothing. -/
theorem not_parcelsAndStationsAct : ¬ Obligations.ParcelsAndStationsAct := by
  unfold Obligations.ParcelsAndStationsAct
  rintro ⟨-, -, -, -, -, -, hreceived, -⟩
  obtain ⟨hup, hst, hon⟩ := handoffOn_adoptsByBus
  have hsame := Host.Outcome.next.inj (hreceived adoptsByBus 2 handoffWord (p4 7) (by decide) hup hst hon)
  have hadopted := parcels_adoptsByBus_handoff.symm.trans (congrArg (fun t => (parcels t 1).map (·.id)) hsame)
  exact absurd hadopted (by decide +kernel)

end Sys2Proof.Machine

/-! Proofs of the statements of spec/05_weir.md: what a conversion leaves of its station, stores and marks, the events of windows,
ranges, loops and bridges, and the Weir commands. -/

namespace Sys2Proof.Machine

/-! ### A change of one Weir station -/

@[simp] theorem modWst_sys (n : Nat) (f : WeirSt → WeirSt) (s : State) : (modWst n f s).sys = s.sys := rfl
@[simp] theorem stnPart_modWst (n : Nat) (f : WeirSt → WeirSt) (s : State) (m : Nat) :
    stnPart (modWst n f s) m = stnPart s m := rfl
@[simp] theorem stnType_modWst (n : Nat) (f : WeirSt → WeirSt) (s : State) (m : Nat) :
    stnType (modWst n f s) m = stnType s m := rfl
@[simp] theorem alarmBits_modWst (n : Nat) (f : WeirSt → WeirSt) (s : State) (m : Nat) (v : Int) (lo hi : Nat) :
    alarmBits (modWst n f s) m v lo hi = alarmBits s m v lo hi := rfl

@[simp] theorem wst_modWst_self (n : Nat) (f : WeirSt → WeirSt) (s : State) : wst (modWst n f s) n = f (wst s n) :=
  tget_tmod_self s.weir.stations n f

@[simp] theorem modWst_modWst_self (n : Nat) (f g : WeirSt → WeirSt) (s : State) :
    modWst n g (modWst n f s) = modWst n (fun x => g (f x)) s :=
  congrArg (fun t => onWeir (fun w => { w with stations := t }) s) (tmod_tmod_self s.weir.stations n f g)

/-- A change is known by what it makes of the station as it is. -/
theorem modWst_congr {n : Nat} {f g : WeirSt → WeirSt} {s : State} (h : f (wst s n) = g (wst s n)) :
    modWst n f s = modWst n g s := by
  have hsame : tmod s.weir.stations n f = tmod s.weir.stations n g := congrArg (tset s.weir.stations n) h
  exact congrArg (fun t => onWeir (fun w => { w with stations := t }) s) hsame

/-! ### Conversions (spec/05_weir.md R184, R191–R197, R202) -/

theorem nextRange_fixed (r : Nat) (pinned sat : Bool) (v : Rat) : nextRange r r r pinned sat v = r := by
  simp [nextRange]

section
variable {n : Nat} {s : State}

/-- On one fixed range there is nothing to change to (R195). -/
theorem autorange_fixed (h : g1 (stnPart s n) 4 = g1 (stnPart s n) 5) (c : Conv) : autorange n c s = s := by
  have hrange : wRange s n = g1 (stnPart s n) 5 := by
    rw [wRange, h]
    omega
  simp [autorange, hrange, h, nextRange_fixed]

theorem nextPhase_voltage (h : stnType s n = 3) (p : Option (Rat × Nat × Nat)) :
    nextPhase n p s = modWst n (fun x => { x with pair := none, phase := 0 }) s := by
  simp [nextPhase, h, pairs]

theorem clearMark_unmarked (h : (wst s n).mark = 0) : clearMark n s = s := if_pos h

theorem rateExceeded_unlimited (h : g4 (stnPart s n) 28 = 0) (v : Int) (t : Nat) : rateExceeded s n v t = false := by
  unfold rateExceeded
  split
  · rfl
  · simp [h]

theorem saturateRound_inRange {y : Rat} (hlo : -2147483647 ≤ roundRat y) (hhi : roundRat y ≤ 2147483647) :
    saturateRound y false = (roundRat y, 0) := by
  simp [saturateRound, Int.not_lt.mpr hlo, Int.not_lt.mpr hhi]

theorem compTemp_uncompensated (h : wComp (stnPart s n) = 0xFFFF) : compTemp s n = none := if_pos h

/-- The middle of the window of a conversion that ends now. -/
def midWindow (n : Nat) (s : State) : Nat := round40 ((s.sys.devTime - windowNs (stnPart s n) + s.sys.devTime) / 2)

/-- What a conversion of a station that neither pairs nor is compensated leaves of the one before. -/
def convEnded (n : Nat) (q : Rat) (off : List Rat) (clean : Bool) (s : State) : State :=
  modWst n (fun x =>
    { x with
      afterChange := false, count := x.count + 1, lastRaw := q, heldOff := off, s := none, x := none, t := none,
      convRange := wRange s n, convTime := midWindow n s, lands := if clean then 0 else x.lands,
      pendingMark := if clean then 0 else x.pendingMark }) s

section
variable (htype : stnType s n = 3) (hcomp : wComp (stnPart s n) = 0xFFFF)
include htype hcomp

/-- A quantity in range becomes the value, with no flag but the alarms' (R202–R204). -/
theorem convValid_voltage (hlin : wLin (stnPart s n) = 0) (hlimit : g4 (stnPart s n) 28 = 0) (hmark : (wst s n).mark = 0)
    {q : Rat} {v : Int} (hv : v = roundRat (q * 1000000)) (hlo : -2147483647 ≤ v) (hhi : v ≤ 2147483647) (range : Nat) :
    convValid n range q 0 s =
      storeLatest n range { published := true, flags := alarmBits s n v 8 9, value := v, time := midWindow n s } false false
        (modWst n (fun x =>
          { x with pair := none, phase := 0, s := some q, x := none, t := none, lastGood := some (v, midWindow n s) }) s) := by
  subst hv
  have hclean : bitOf 0 0 = false := rfl
  simp [convValid, hclean, nextPhase_voltage, physical, pairs, htype, hcomp, compTemp_uncompensated, hlin, linearise, unitScale,
    saturateRound_inRange hlo hhi, rateExceeded_unlimited, hlimit, clearMark_unmarked, hmark, midWindow]

variable (hpinned : (wst s n).pinned = false) (hchange : (wst s n).afterChange = false)
  (hspare : (wst s n).substituted = false) {c : Conv} {q : Rat} {off : List Rat}
  (hfiltered : filtered (stnPart s n) (wst s n) c = (q, off))
include hpinned hchange hspare hfiltered

theorem convert_noCell (hcells : hasCells s n = false) :
    convert n c s =
      storeLatest n (wRange s n) { published := true, flags := 0x4000, value := invalidValue, time := midWindow n s } false true
        (modWst n (fun x => { x with pair := none, phase := 0 }) (convEnded n q off c.clean s)) := by
  simp [convert, htype, hfiltered, hcells, hpinned, hchange, hspare, storeInvalid, nextPhase_voltage, convEnded, midWindow,
    compTemp_uncompensated hcomp]

variable (hcells : hasCells s n = true)
include hcells

/-- A window with a violation in it: the station is marked (R200). -/
theorem convert_violated (hclean : c.clean = false) (hpending : (wst s n).pendingMark ≠ 0) {u : State}
    (hu : u = markStation n (wst s n).pendingMark (wst s n).landsHit
      (modWst n (fun x => { x with pair := none, phase := 0 }) (convEnded n q off false s))) :
    convert n c s =
      storeLatest n (wRange s n) { published := true, flags := markBits (wst u n), value := invalidValue, time := midWindow n s }
        false true u := by
  subst hu
  simp [convert, htype, hfiltered, hcells, hpinned, hchange, hspare, hclean, hpending, storeInvalid, nextPhase_voltage, convEnded,
    midWindow, compTemp_uncompensated hcomp]

/-- A clean conversion on one fixed range goes on to its value. -/
theorem convert_valid (hfixed : g1 (stnPart s n) 4 = g1 (stnPart s n) 5) (hsat : c.saturated = false) (hclean : c.clean = true)
    (hsettled : settleCount (stnPart s n) ≤ (wst s n).count + 1) :
    convert n c s = convValid n (wRange s n) q 0 (convEnded n q off true s) := by
  have hkept : autorange n { c with raw := q } (convEnded n q off true s) = convEnded n q off true s :=
    autorange_fixed (s := convEnded n q off true s) hfixed _
  calc
    convert n c s = convValid n (wRange s n) q 0 (autorange n { c with raw := q } (convEnded n q off true s)) := by
      simp [convert, htype, hfiltered, hcells, hpinned, hchange, hspare, hclean, hsat, Nat.not_lt.mpr hsettled, convEnded,
        midWindow, compTemp_uncompensated hcomp]
    _ = convValid n (wRange s n) q 0 (convEnded n q off true s) := by rw [hkept]

end

/-! ### Conversion ends, violations, pins, loops and bridges (spec/05_weir.md R183, R189, R193, R197–R200, R206) -/

theorem weirConversionEndFx_converting (hn : n < 128) (h : converting s n = true) (c : Conv) :
    weirConversionEndFx n c s = convert n c s := by
  simp [weirConversionEndFx, hn, h]

theorem weirConversionEndFx_off (h : 128 ≤ n ∨ converting s n = false) (c : Conv) : weirConversionEndFx n c s = s := by
  rcases h with hn | hidle
  · simp [weirConversionEndFx, Nat.not_lt.mpr hn]
  · simp [weirConversionEndFx, hidle]

/-- Lands outside their window, with the class that the violation then has. -/
def violated (n : Nat) (ls : List (Nat × Int)) (m t : Nat) (s : State) : State :=
  modWst n (fun x =>
    { x with
      lands := (ls.map (fun l => 2 ^ l.1)).sum, landsHit := (ls.map (fun l => 2 ^ l.1)).sum, landMv := (ls.head?.getD (0, 0)).2,
      pendingMark := m, pendingAt := t }) s

section
variable {volts : List Int} {t : Nat}

theorem windowViolationFx_off (h : 128 ≤ n ∨ isWeir s n = false ∨ weirOn s = false ∨ stnType s n = 0x10) :
    windowViolationFx n volts t s = s := by
  rcases h with hn | hother | hoff | hcharge
  · simp [windowViolationFx, hn]
  · simp [windowViolationFx, hother]
  · simp [windowViolationFx, hoff]
  · simp [windowViolationFx, hcharge]

section
variable (hn : n < 128) (hon : weirOn s = true) (hweir : isWeir s n = true) (htype : stnType s n ≠ 0x10)
include hn hon hweir htype

theorem windowViolationFx_over (hnone : outside s n volts = []) :
    windowViolationFx n volts t s =
      modWst n (fun x => { x with lands := 0, pendingMark := if converting s n then x.pendingMark else 0 }) s := by
  simp [windowViolationFx, Nat.not_le.mpr hn, hon, hweir, htype, hnone]

variable (hsome : outside s n volts ≠ [])
include hsome

theorem windowViolationFx_begins (hpending : (wst s n).pendingMark = 0) :
    windowViolationFx n volts t s = violated n (outside s n volts) (classify s n (outside s n volts)) t s := by
  obtain ⟨l, ls, hls⟩ := List.exists_cons_of_ne_nil hsome
  simp [windowViolationFx, Nat.not_le.mpr hn, hon, hweir, htype, hls, hpending, violated]

/-- The class of a lasting violation becomes OPEN_WIRE where a land is pulled away, and stays it (R199). -/
theorem windowViolationFx_lasts (hpending : (wst s n).pendingMark ≠ 0) (hsince : (wst s n).pendingAt = t) :
    windowViolationFx n volts t s =
      violated n (outside s n volts)
        (if (wst s n).pendingMark = 1 ∨ ∃ l ∈ outside s n volts, pulledAway s n l = true then 1 else 2) t s := by
  obtain ⟨l, ls, hls⟩ := List.exists_cons_of_ne_nil hsome
  have hclass : (decide ((wst s n).pendingMark = 1) || (outside s n volts).any (pulledAway s n)) =
      decide ((wst s n).pendingMark = 1 ∨ ∃ l ∈ outside s n volts, pulledAway s n l = true) := by
    rw [Bool.eq_iff_iff]
    simp only [Bool.or_eq_true, List.any_eq_true, decide_eq_true_eq]
  simp only [windowViolationFx, hclass, decide_eq_true_eq]
  simp [Nat.not_le.mpr hn, hon, hweir, htype, hls, hpending, hsince, violated]

end

end

theorem rangePinExpiredFx_off (h : 128 ≤ n ∨ isWeir s n = false) : rangePinExpiredFx n s = s := by
  rcases h with hn | hother
  · simp [rangePinExpiredFx, Nat.not_lt.mpr hn]
  · simp [rangePinExpiredFx, hother]

theorem rangePinExpiredFx_weir (hn : n < 128) (hweir : isWeir s n = true) :
    rangePinExpiredFx n s = modWst n (fun x => { x with pinned := false }) s := by
  simp [rangePinExpiredFx, hn, hweir]

theorem compStaleFx_off (h : (128 ≤ n ∨ isWeir s n = false) ∨ wComp (stnPart s n) = 0xFFFF ∨ (wst s n).compStale = true) :
    compStaleFx n s = s := by
  have hoff : (decide (n ≥ 128) || !isWeir s n || decide (wComp (stnPart s n) = 0xFFFF) || (wst s n).compStale) = true := by
    simpa [or_assoc] using h
  exact if_pos hoff

theorem compStaleFx_compensated (hn : n < 128) (hweir : isWeir s n = true) (hcomp : wComp (stnPart s n) ≠ 0xFFFF)
    (hfresh : (wst s n).compStale = false) :
    compStaleFx n s = note 0x0515 [n, wComp (stnPart s n)] (modWst n (fun x => { x with compStale := true }) s) := by
  simp [compStaleFx, Nat.not_le.mpr hn, hweir, hcomp, hfresh]

section
variable {ua : Int}

theorem loopInputOverloadFx_off (h : 128 ≤ n ∨ stnType s n ≠ 4 ∨ ua ≤ 32000 ∨ weirOn s = false) :
    loopInputOverloadFx n ua s = s := by
  rcases h with hn | hother | hsafe | hoff
  · simp [loopInputOverloadFx, hn]
  · simp [loopInputOverloadFx, hother]
  · simp [loopInputOverloadFx, hsafe]
  · simp [loopInputOverloadFx, hoff]

theorem loopShuntRecloseFx_off (h : 128 ≤ n ∨ stnType s n ≠ 4 ∨ weirOn s = false) : loopShuntRecloseFx n ua s = s := by
  rcases h with hn | hother | hoff
  · simp [loopShuntRecloseFx, hn]
  · simp [loopShuntRecloseFx, hother]
  · simp [loopShuntRecloseFx, hoff]

section
variable (hn : n < 128) (hon : weirOn s = true) (htype : stnType s n = 4)
include hn hon htype

theorem loopInputOverloadFx_opens (hover : 32000 < ua) :
    loopInputOverloadFx n ua s = note 0x0514 [n, ua] (modWst n (fun x => { x with shuntOpen := true }) s) := by
  simp [loopInputOverloadFx, Nat.not_le.mpr hn, hon, htype, Int.not_le.mpr hover]

theorem loopShuntRecloseFx_tries :
    loopShuntRecloseFx n ua s = modWst n (fun x => { x with shuntOpen := x.shuntOpen && decide (32000 ≤ ua) }) s := by
  simp [loopShuntRecloseFx, Nat.not_le.mpr hn, hon, htype]

end

variable {bank : Nat} {limiting : Bool}

theorem brxLimitFx_off (h : 3 ≤ bank ∨ weirOn s = false ∨ (limiting = true ∧ s.weir.brxLimit.contains bank = true)) :
    brxLimitFx bank ua limiting s = s := by
  rcases h with hbank | hoff | ⟨rfl, hknown⟩
  · exact if_pos (by simp [show bank > 2 from hbank])
  · exact if_pos (by simp [hoff])
  · simp only [brxLimitFx, hknown, Bool.not_true, Bool.false_eq_true, if_false, if_true, ite_self]

section
variable (hbank : bank ≤ 2) (hon : weirOn s = true)
include hbank hon

theorem brxLimitFx_ends :
    brxLimitFx bank ua false s = onWeir (fun w => { w with brxLimit := w.brxLimit.filter (· != bank) }) s := by
  simp [brxLimitFx, Nat.not_lt.mpr hbank, hon]

theorem brxLimitFx_begins (hnew : s.weir.brxLimit.contains bank = false) {u : State}
    (hu : u = note 0x0516 [bank * 8, ua] (onWeir (fun w => { w with brxLimit := bank :: w.brxLimit }) s)) :
    brxLimitFx bank ua true s =
      (stationsBy u (fun n => stnType u n == 5 && stnTerm u n / 8 == bank)).foldl
        (fun t n => weirPublish n { published := true, flags := 4, value := invalidValue, time := s.sys.devTime }
          (modWst n (fun x => { x with flags := 4, value := invalidValue, time := s.sys.devTime, has := true }) t)) u := by
  subst hu
  have hlive : ¬ (decide (bank > 2) || !weirOn s) = true := by simp [hon, Nat.not_lt.mpr hbank]
  exact (if_neg hlive).trans (if_neg (Bool.eq_false_iff.mp hnew))

end

end

/-! ### Scans of STILL (spec/05_weir.md R193; spec/01_one_view.md R44) -/

section
variable {c : Conv}

theorem stillScanFx_off (h : s.sys.mode ≠ .still ∨ 128 ≤ n ∨ isWeir s n = false ∨ g1 (stnPart s n) 22 ≠ 1) :
    stillScanFx n c s = s := by
  have hoff : (s.sys.mode != .still || decide (n ≥ 128) || !isWeir s n || g1 (stnPart s n) 22 != 1) = true := by
    simpa [or_assoc] using h
  exact if_pos hoff

theorem stillScanFx_scans (hmode : s.sys.mode = .still) (hn : n < 128) (hweir : isWeir s n = true)
    (hscan : g1 (stnPart s n) 22 = 1) {u : State}
    (hu : u = convert n c (modWst n (fun x => { x with count := settleCount (stnPart s n) }) s)) :
    stillScanFx n c s =
      if (wst u n).stored ≠ (wst s n).stored ∧ (wst u n).value ≠ invalidValue ∧
        ((i4 (stnPart s n) 32 ≠ -2147483648 ∧ (wst u n).value ≤ i4 (stnPart s n) 32) ∨
          (i4 (stnPart s n) 36 ≠ 2147483647 ∧ i4 (stnPart s n) 36 ≤ (wst u n).value)) then wakeFrom 4 u else u := by
  subst hu
  simp [stillScanFx, hmode, Nat.not_le.mpr hn, hweir, hscan, and_assoc]

end

end

/-- Settles O44: whether the station converts, what stands in its window and whether its filter has settled decide what a conversion
stores; each of the other events is a branch of its effect. The lands in use and the voltage of N are notes/assumptions/143.md. -/
theorem weirConversionsAct : Obligations.WeirConversionsAct := by
  unfold Obligations.WeirConversionsAct
  refine ⟨?ends, ?endsOff, ?value, ?noCell, ?violation, ?begins, ?lasts, ?violationOver, ?windowOff, ?otherStation, ?pin, ?overload,
    ?overloadOff, ?shunt, ?shuntOff, ?limits, ?limitEnds, ?limitOff, ?stale, ?staleOff, ?scan, ?scanOff⟩
  case ends => exact fun s n c hn hconv => next_settled_congr (weirConversionEndFx_converting hn hconv c)
  case endsOff => exact fun s n c h => next_settled_congr (weirConversionEndFx_off h c)
  case value =>
    rintro s n c q off v tm hn hconv htype hcells hfixed hlin hcomp hlimit hmark hpinned hchange hspare hsat hclean hsettled
      hfiltered hv hlo hhi rfl
    refine next_settled_congr ((weirConversionEndFx_converting hn hconv c).trans
      ((convert_valid htype hcomp hpinned hchange hspare hfiltered hcells hfixed hsat hclean hsettled).trans
        ((convValid_voltage (s := convEnded n q off true s) htype hcomp hlin hlimit ?_ hv hlo hhi _).trans ?_)))
    · simpa [convEnded] using hmark
    · simp [convEnded, midWindow]
  case noCell =>
    rintro s n c q off tm hn hconv hcells htype hcomp hpinned hchange hspare hclean hfiltered rfl
    refine next_settled_congr ((weirConversionEndFx_converting hn hconv c).trans
      ((convert_noCell htype hcomp hpinned hchange hspare hfiltered hcells).trans ?_))
    simp [convEnded, midWindow, hclean]
  case violation =>
    rintro s u n c q off tm hn hconv hcells htype hcomp hpinned hchange hspare hclean hmark hpending hfiltered rfl hu
    refine next_settled_congr ((weirConversionEndFx_converting hn hconv c).trans
      (convert_violated htype hcomp hpinned hchange hspare hfiltered hcells hclean hpending (hu.trans ?_)))
    simp [convEnded, midWindow]
  case begins =>
    intro s n volts t hn hon hweir htype hpending hsome
    exact next_settled_congr (windowViolationFx_begins hn hon hweir htype hsome hpending)
  case lasts =>
    intro s n volts t hn hon hweir htype hpending hsince hsome
    refine next_settled_congr ((windowViolationFx_lasts hn hon hweir htype hsome hpending hsince).trans (modWst_congr ?_))
    rw [hsince]
  case violationOver =>
    exact fun s n volts t hn hon hweir htype hnone => next_settled_congr (windowViolationFx_over hn hon hweir htype hnone)
  case windowOff => exact fun s n t volts h => next_settled_congr (windowViolationFx_off h)
  case otherStation =>
    exact fun s n h => ⟨next_settled_congr (rangePinExpiredFx_off h), next_settled_congr (compStaleFx_off (.inl h))⟩
  case pin => exact fun s n hn hweir => next_settled_congr (rangePinExpiredFx_weir hn hweir)
  case overload => exact fun s n ua hn hon htype hover => next_settled_congr (loopInputOverloadFx_opens hn hon htype hover)
  case overloadOff => exact fun s n ua h => next_settled_congr (loopInputOverloadFx_off h)
  case shunt => exact fun s n ua hn hon htype => next_settled_congr (loopShuntRecloseFx_tries hn hon htype)
  case shuntOff => exact fun s n ua h => next_settled_congr (loopShuntRecloseFx_off h)
  case limits => exact fun s u bank ua hbank hon hnew hu => next_settled_congr (brxLimitFx_begins hbank hon hnew hu)
  case limitEnds => exact fun s bank ua hbank hon => next_settled_congr (brxLimitFx_ends hbank hon)
  case limitOff => exact fun s bank ua lim h => next_settled_congr (brxLimitFx_off h)
  case stale =>
    exact fun s n hn hweir hcomp hfresh => next_settled_congr (compStaleFx_compensated hn hweir hcomp hfresh)
  case staleOff => exact fun s n h => next_settled_congr (compStaleFx_off (.inr h))
  case scan => exact fun s u n c hmode hn hweir hscan hu => next_settled_congr (stillScanFx_scans hmode hn hweir hscan hu)
  case scanOff => exact fun s n c h => next_settled_congr (stillScanFx_off h)

/-! ### Commands answered later (spec/02_sluices.md R65) -/

/-- A foreground request that is taken up and answered later has only its handler's effect. -/
theorem serve_of_later {code : Nat} {h : Org → List Byte → State → Res} {r : Req} {s t : State} (ha : asks code r s = true)
    (hfore : isBg code = false) (hlater : h (reqOrg code r) r.payload (begun code r s) = .later t) :
    serve code h r s = t := by
  rw [serve_of_asks ha, hlater, settleRes_later (reqOrg code r) t hfore]

/-! ### The station of a request (spec/05_weir.md R212) -/

/-- The body is that of a Weir station. -/
abbrev weirBody (body : List Byte) : Prop := (1 ≤ g2 body 0 ∧ g2 body 0 ≤ 6) ∨ g2 body 0 = 0x10

theorem weirBody_bool (body : List Byte) :
    (decide (1 ≤ g2 body 0) && decide (g2 body 0 ≤ 6) || g2 body 0 == 0x10) = decide (weirBody body) := by
  simp only [weirBody, Bool.decide_or, Bool.decide_and, Bool.beq_eq_decide_eq]

theorem isWeir_eq (s : State) (n : Nat) : isWeir s n = decide (weirBody (stn s n)) := weirBody_bool (stn s n)

/-- An absent station has an empty body, and so no type. -/
theorem stn_ne_nil_of_isWeir {s : State} {n : Nat} (h : isWeir s n = true) : stn s n ≠ [] := by
  intro hnil
  have htype : stnType s n = 0 := by rw [stnType, hnil]; rfl
  simp [isWeir, htype] at h

section
variable {b : List Byte} {s : State}

theorem weirStation_isWeir (hzero : g2 b 2 = 0) (hn : g2 b 0 < 128) (hweir : isWeir s (g2 b 0) = true) :
    weirStation b s = none := by
  have hpresent := stn_ne_nil_of_isWeir hweir
  simp [weirStation, hzero, Nat.not_le.mpr hn, hweir, hpresent]

theorem weirStation_badObject
    (h : g2 b 2 ≠ 0 ∨ (stn s (g2 b 0) ≠ [] ∧ g2 b 0 < 128 ∧ isWeir s (g2 b 0) = false)) :
    weirStation b s = some sBADOBJ := by
  by_cases hzero : g2 b 2 = 0
  · obtain ⟨hpresent, hn, hother⟩ := h.resolve_left (not_not_intro hzero)
    simp [weirStation, hzero, hpresent, Nat.not_le.mpr hn, hother]
  · simp [weirStation, hzero]

theorem weirStation_absent (hzero : g2 b 2 = 0) (h : 128 ≤ g2 b 0 ∨ stn s (g2 b 0) = []) :
    weirStation b s = some sNOTFOUND := by
  simp [weirStation, hzero, h]

/-! ### WEIR_SAMPLE and WEIR_RAW (spec/05_weir.md R213, R214) -/

variable {o : Org} {st : Nat}

theorem weirSampleH_refused (h : weirStation b s = some st) : weirSampleH o b s = .done st [] s := by
  simp only [weirSampleH, h]

theorem weirSampleH_waits (h : weirStation b s = none) :
    weirSampleH o b s =
      .later (addJob { org := o, a := g2 b 0 }
        (modWst (g2 b 0) (fun x =>
          { x with running := true, count := if stnSampleMode s (g2 b 0) = 2 ∧ x.running = false then 0 else x.count }) s)) := by
  simp only [weirSampleH, h, Bool.and_eq_true, decide_eq_true_eq, Bool.not_eq_true']

theorem weirRawH_refused (h : weirStation b s = some st) : weirRawH o b s = .done st [] s := by
  simp only [weirRawH, h]

/-- The quantity of the latest conversion as WEIR_RAW tells it: a free value where there is none
(notes/assumptions/145.md). -/
def toldQuantity (x : WeirSt) (s : State) : List Byte := p4 ((x.s.map f32.encode).getD (Config.freeNat s.fresh))

theorem weirRawH_answers (h : weirStation b s = none) {x : WeirSt} (hx : x = wst s (g2 b 0)) :
    weirRawH o b s =
      .done sOK
        (toldQuantity x s ++ f32Or x.x ++ f32Or x.t ++ q4 x.value ++ p2 x.flags ++ p1 x.convRange ++
          p1 (if pairs (stnType s (g2 b 0)) then 1 - x.phase else 0) ++
          p1 (min 255 (x.changes.filter (fun e => s.sys.devTime - e.1 ≤ 1000000000)).length) ++ p1 x.lands ++ zeros 2 ++
          p8 x.convTime)
        (drawn 1 s) := by
  subst hx
  cases hq : (wst s (g2 b 0)).s with
  | none => simp only [weirRawH, h, hq, toldQuantity, Option.map_none, Option.getD_none]
  | some q => simp only [weirRawH, h, hq, toldQuantity, Option.map_some, Option.getD_some]

/-! ### WEIR_TERMINAL (spec/05_weir.md R215) -/

/-- The terminals that have cells: 24 U and 8 Q. -/
abbrev cellTerminal (kind term : Nat) : Prop := kind = 1 ∧ term < 24 ∨ kind = 2 ∧ term < 8

theorem cellTerminal_bool (kind term : Nat) :
    (kind == 1 && decide (term < 24) || kind == 2 && decide (term < 8)) = decide (cellTerminal kind term) := by
  simp only [cellTerminal, Bool.decide_or, Bool.decide_and, Bool.beq_eq_decide_eq]

theorem weirTerminalH_answers (hzero : g2 b 2 = 0) (hterm : cellTerminal (g1 b 0) (g1 b 1)) :
    weirTerminalH o b s =
      .done sOK
        (p1 (cellState s (g1 b 0) (g1 b 1)) ++
          p1 (b01 (spareAlive s (cellBank (g1 b 0) (g1 b 1)) &&
            !(tfind s.absorb.spareServes (cellBank (g1 b 0) (g1 b 1))).isSome)) ++
          p2 ((stationAt s (g1 b 0) (g1 b 1)).getD 0xFFFF) ++ p4 (w32 (tget s.weir.openWires (g1 b 0 * 256 + g1 b 1))) ++
          q8 (tget s.weir.substitutedAt (g1 b 0 * 256 + g1 b 1))) s := by
  simp [weirTerminalH, hzero, cellTerminal_bool, hterm]

theorem weirTerminalH_refused (h : g2 b 2 ≠ 0 ∨ ¬ cellTerminal (g1 b 0) (g1 b 1)) :
    weirTerminalH o b s = .done sBADOBJ [] s := by
  have hbad : (g2 b 2 != 0 || !decide (cellTerminal (g1 b 0) (g1 b 1))) = true := by
    simpa only [Bool.or_eq_true, bne_iff_ne, Bool.not_eq_true', decide_eq_false_iff_not] using h
  simp only [weirTerminalH, cellTerminal_bool, hbad, if_true]

/-! ### WEIR_LIN_EVAL (spec/05_weir.md R216) -/

/-- The station body that a request of side `d` asks for: the active one, or that of its own working copy. -/
abbrev linSource (d : Side) (b : List Byte) (s : State) (body : List Byte) : Prop :=
  (g1 b 4 = 0 ∧ body = stn s (g2 b 0)) ∨ (g1 b 4 = 1 ∧ ∃ t ∈ s.cfg.txn, t.owner = d ∧ body = workingStn t (g2 b 0))

theorem weirLinEvalH_refused (h : g2 b 2 ≠ 0 ∨ 1 < g1 b 4 ∨ g1 b 5 ≠ 0 ∨
    (g1 b 4 = 1 ∧ s.cfg.txn.map (·.owner) ≠ some o.side)) : weirLinEvalH o b s = .done sBADOBJ [] s := by
  by_cases hbad : (g2 b 2 != 0 || decide (g1 b 4 > 1) || g1 b 5 != 0) = true
  · exact if_pos hbad
  · obtain ⟨hcopy, hother⟩ : g1 b 4 = 1 ∧ s.cfg.txn.map (·.owner) ≠ some o.side := by
      simp only [Bool.or_eq_true, bne_iff_ne, decide_eq_true_eq, gt_iff_lt, not_or] at hbad
      obtain ⟨⟨hzero, hsource⟩, hreserved⟩ := hbad
      exact ((h.resolve_left hzero).resolve_left hsource).resolve_left hreserved
    refine (if_neg hbad).trans ?_
    cases htxn : s.cfg.txn with
    | none => simp only [hcopy]
    | some t =>
      have hside : t.owner ≠ o.side := by simpa [htxn] using hother
      simp only [hcopy, if_neg hside]

/-- A given s and T linearised as the body says, T also at the cold junction where a station compensates it. -/
def linEvaluated (body : List Byte) (sv t : Rat) : Lin :=
  linearise (g2 body 0) (body.drop 64) sv (some t)
    (if wComp (body.drop 64) = 0xFFFF then ((i4 (body.drop 64) 24 : Int) : Rat) / 1000 else t)

/-- The answer's bytes: the result, its rounded value and its flags. -/
def linResult (l : Lin) : List Byte :=
  p8 (f64.encode l.y) ++ q4 (saturateRound l.y l.outOfCurve).1 ++ p2 (saturateRound l.y l.outOfCurve).2 ++ zeros 2

/-- What a request about a station body comes to; an s or T that is no number gives free values
(notes/assumptions/36.md). -/
def linAnswer (b body : List Byte) (s : State) : Res :=
  if 128 ≤ g2 b 0 ∨ body = [] then .done sNOTFOUND [] s
  else if ¬ weirBody body then .done sBADOBJ [] s
  else match gf32 b 6, gf32 b 10 with
    | some sv, some t =>
      .done sOK (linResult (linEvaluated body sv t)) s
    | _, _ =>
      .done sOK (p8 (Config.freeNat s.fresh) ++ p4 (Config.freeNat (s.fresh + 1)) ++
        p2 (Config.freeNat (s.fresh + 2) % 4 * 16) ++ zeros 2) (drawn 3 s)

section
variable {body : List Byte}

theorem weirLinEvalH_of_source (hzero : g2 b 2 = 0) (hreserved : g1 b 5 = 0) (hsource : linSource o.side b s body) :
    weirLinEvalH o b s = linAnswer b body s := by
  have habsent : (decide (g2 b 0 ≥ 128) || body.isEmpty) = decide (128 ≤ g2 b 0 ∨ body = []) := by
    rw [Bool.eq_iff_iff]
    simp
  rcases hsource with ⟨hactive, rfl⟩ | ⟨hcopy, t, ht, howner, rfl⟩
  · simp only [weirLinEvalH, hzero, hreserved, hactive, habsent, weirBody_bool, decide_eq_true_eq, Bool.not_eq_true',
      decide_eq_false_iff_not]
    rfl
  · simp only [weirLinEvalH, hzero, hreserved, hcopy, Option.mem_def.mp ht, howner, if_true, habsent, weirBody_bool,
      decide_eq_true_eq, Bool.not_eq_true', decide_eq_false_iff_not]
    rfl

theorem linAnswer_absent (h : 128 ≤ g2 b 0 ∨ body = []) : linAnswer b body s = .done sNOTFOUND [] s := if_pos h

section
variable (hn : g2 b 0 < 128) (hpresent : body ≠ [])
include hn hpresent

theorem linAnswer_otherType (h : ¬ weirBody body) : linAnswer b body s = .done sBADOBJ [] s := by
  rw [linAnswer, if_neg (not_or.mpr ⟨Nat.not_le.mpr hn, hpresent⟩), if_pos h]

variable (htype : weirBody body)
include htype

theorem linAnswer_numbers {sv t : Rat} (hs : gf32 b 6 = some sv) (ht : gf32 b 10 = some t) :
    linAnswer b body s = .done sOK (linResult (linEvaluated body sv t)) s := by
  rw [linAnswer, if_neg (not_or.mpr ⟨Nat.not_le.mpr hn, hpresent⟩), if_neg (not_not_intro htype), hs, ht]

theorem linAnswer_noNumber (h : gf32 b 6 = none ∨ gf32 b 10 = none) :
    linAnswer b body s =
      .done sOK (p8 (Config.freeNat s.fresh) ++ p4 (Config.freeNat (s.fresh + 1)) ++
        p2 (Config.freeNat (s.fresh + 2) % 4 * 16) ++ zeros 2) (drawn 3 s) := by
  rw [linAnswer, if_neg (not_or.mpr ⟨Nat.not_le.mpr hn, hpresent⟩), if_neg (not_not_intro htype)]
  rcases h with hs | ht
  · rw [hs]
  · rw [ht]
    cases gf32 b 6 <;> rfl

end

end

end

/-- Settles O45: the station of the request, its terminal, or its source of a body decides; each clause is then an outcome of its
handler. -/
theorem weirCommandsAct : Obligations.WeirCommandsAct := by
  unfold Obligations.WeirCommandsAct
  refine ⟨?sample, ?sampleBad, ?sampleAbsent, ?raw, ?rawFree, ?rawBad, ?rawAbsent, ?terminal, ?terminalBad, ?eval, ?evalFree,
    ?evalBad, ?evalAbsent, ?evalOther⟩
  case sample =>
    intro s r ha hzero hn hweir
    exact next_settled_congr (serve_of_later ha (by decide) (weirSampleH_waits (weirStation_isWeir hzero hn hweir)))
  case sampleBad => exact fun s r ha h => next_settled_congr (serve_of_done ha (weirSampleH_refused (weirStation_badObject h)))
  case sampleAbsent =>
    exact fun s r ha hzero h => next_settled_congr (serve_of_done ha (weirSampleH_refused (weirStation_absent hzero h)))
  case raw =>
    rintro s r n x q ha rfl hzero hn hweir hx hq
    have hstation : weirStation r.payload (begun 0x0502 r s) = none := weirStation_isWeir hzero hn hweir
    refine next_settled_congr (serve_of_done ha ((weirRawH_answers hstation hx).trans ?_))
    rw [toldQuantity, hq]
    rfl
  case rawFree =>
    rintro s r n x ha rfl hzero hn hweir hx hq
    have hstation : weirStation r.payload (begun 0x0502 r s) = none := weirStation_isWeir hzero hn hweir
    refine next_settled_congr (serve_of_done ha ((weirRawH_answers hstation hx).trans ?_))
    rw [toldQuantity, hq]
    rfl
  case rawBad => exact fun s r ha h => next_settled_congr (serve_of_done ha (weirRawH_refused (weirStation_badObject h)))
  case rawAbsent =>
    exact fun s r ha hzero h => next_settled_congr (serve_of_done ha (weirRawH_refused (weirStation_absent hzero h)))
  case terminal =>
    rintro s r k t ha rfl rfl hzero hterm
    exact next_settled_congr (serve_of_done ha (weirTerminalH_answers hzero hterm))
  case terminalBad => exact fun s r ha h => next_settled_congr (serve_of_done ha (weirTerminalH_refused h))
  case eval =>
    rintro s r n sv t b l ha rfl hzero hreserved hsource hn hpresent htype hs ht hy hout
    refine next_settled_congr (serve_of_done ha ((weirLinEvalH_of_source hzero hreserved hsource).trans
      ((linAnswer_numbers hn hpresent htype hs ht).trans ?_)))
    rw [hy, hout]
    rfl
  case evalFree =>
    rintro s r n b ha rfl hzero hreserved hsource hn hpresent htype h
    exact next_settled_congr (serve_of_done ha ((weirLinEvalH_of_source hzero hreserved hsource).trans
      (linAnswer_noNumber hn hpresent htype h)))
  case evalBad => exact fun s r ha h => next_settled_congr (serve_of_done ha (weirLinEvalH_refused h))
  case evalAbsent =>
    intro s r ha hzero hreserved hactive h
    exact next_settled_congr (serve_of_done ha ((weirLinEvalH_of_source hzero hreserved (.inl ⟨hactive, rfl⟩)).trans
      (linAnswer_absent h)))
  case evalOther =>
    intro s r ha hzero hreserved hactive hn hpresent hother
    have htype : ¬ weirBody (stn s (g2 r.payload 0)) := by
      rwa [isWeir_eq, decide_eq_false_iff_not] at hother
    exact next_settled_congr (serve_of_done ha ((weirLinEvalH_of_source hzero hreserved (.inl ⟨hactive, rfl⟩)).trans
      (linAnswer_otherType hn hpresent htype)))

end Sys2Proof.Machine

/-! Proofs of the statements of spec/06_watermark.md: the link, the starts and the records of the island, how it takes up its
seal, its parameters, the tap, grain temperatures and stations, and the Watermark commands. The statement on the commands fails on a
discard while an air capture is under way: it is refuted by a concrete state. -/

namespace Sys2Proof.Machine

/-! ### What telling and recording leave alone -/

theorem note_fsh (code : Nat) (fields : List Int) (s : State) : (note code fields s).fsh = s.fsh := by rw [note_touches]

/-- An entry that waits for its store changes the entries waiting and the queue of stores. -/
theorem audit_touches (kind actor : Nat) (data : List Byte) (s : State) :
    audit kind actor data s =
      { s with
        island := { s.island with waiting := (audit kind actor data s).island.waiting },
        power := { s.power with stores := (audit kind actor data s).power.stores } } := by
  unfold audit
  split <;> rfl

/-- The island receives a selection, or not: nothing but the engine's log of them changes. -/
theorem takeSelection_touches (s : State) : takeSelection s = { s with engine := (takeSelection s).engine } := by
  unfold takeSelection
  dsimp only
  split
  · rfl
  · split <;> rfl

theorem takeSelection_fsh (s : State) : (takeSelection s).fsh = s.fsh := by rw [takeSelection_touches]

/-- A block of sequence numbers asked for leaves what the island keeps of an abandoned commit. -/
theorem askSeq_abandoned (s : State) : (askSeq s).island.abandoned = s.island.abandoned := by
  unfold askSeq
  split <;> rfl

/-- Whether the island serves is not in what else it holds. -/
theorem islandUp_onIsland {f : Island → Island} {s : State} (hrunning : (f s.island).running = s.island.running)
    (hfailed : (f s.island).failed = s.island.failed) : islandUp (onIsland f s) = islandUp s := by
  simp [islandUp, hrunning, hfailed]

/-! ### The link (R220–R222) -/

section
variable {s : State}

theorem linkDown_false (hlink : s.island.linkUp = true) (hup : islandUp s = true) : linkDown s = false := by
  simp [linkDown, hlink, hup]

theorem linkDown_of_lost (hlink : s.island.linkUp = false) : linkDown s = true := by simp [linkDown, hlink]

theorem linkDown_of_stopped (hup : islandUp s = false) : linkDown s = true := by simp [linkDown, hup]

/-- The link is lost, and the recorder told of it. -/
def linkGone (s : State) : State :=
  note 0x0621 [s.island.lastSeq.getD (Config.freeNat s.fresh)] (drawn 1 (onIsland (fun i => { i with linkUp := false }) s))

theorem islandLinkLostFx_down (hlink : s.island.linkUp = false) : islandLinkLostFx s = s := by simp [islandLinkLostFx, hlink]

theorem islandLinkLostFx_free (hlink : s.island.linkUp = true) (hsession : s.island.session = none) :
    islandLinkLostFx s = allStale (islandJobsTimeout (linkGone s)) := by
  simp [islandLinkLostFx, hlink, hsession, linkGone]

theorem islandLinkLostFx_session {p : PSession} (hlink : s.island.linkUp = true) (hsession : s.island.session = some p) :
    islandLinkLostFx s =
      allStale (islandJobsTimeout (if p.writing then linkGone s else discardSession 3 sTIMEOUT (linkGone s))) := by
  simp [islandLinkLostFx, hlink, hsession, linkGone]

theorem islandLinkBack_up (hlink : s.island.linkUp = true) : islandLinkBack s = s := if_pos hlink

theorem islandLinkBack_down (hlink : s.island.linkUp = false) :
    islandLinkBack s =
      takeSelection (note 0x0622 [s.island.buffered.length, s.island.dropped] (onIsland (fun i =>
        { i with
          linkUp := true, outbox := i.outbox ++ i.buffered, buffered := [], lost := w32 (i.lost + i.dropped), dropped := 0 })
        s)) := if_neg (by simp [hlink])

theorem islandLinkBack_fsh (s : State) : (islandLinkBack s).fsh = s.fsh := by
  unfold islandLinkBack
  split
  · rfl
  · rw [takeSelection_fsh, note_fsh, onIsland_fsh]

theorem watermarkServes_inactive {old : List Nat} (h : s.fsh.state ≠ 4) : watermarkServes old s = s := by
  simp [watermarkServes, h]

theorem islandTimeUpdateFx_off (h : linkDown s = true) : islandTimeUpdateFx s = s := if_pos h

section
variable {d : Int} (hlink : s.island.linkUp = true) (hup : islandUp s = true)
  (hd : d = s.sys.calTime - islandCal s s.sys.devTime)
include hlink hup hd

theorem islandTimeUpdateFx_near (hnear : d.natAbs ≤ 1000) :
    islandTimeUpdateFx s =
      onIsland (fun i => { i with calOffset := s.sys.calTime - (nsMs s.sys.devTime : Int), openedAt := i.openedAt + d }) s := by
  subst hd
  simp [islandTimeUpdateFx, linkDown_false hlink hup, Nat.not_lt.mpr hnear]

theorem islandTimeUpdateFx_far (hfar : 1000 < d.natAbs) :
    islandTimeUpdateFx s =
      audit 0x0A 0 (q8 (islandCal s s.sys.devTime) ++ q8 s.sys.calTime) (onIsland (fun i =>
        { i with
          calOffset := s.sys.calTime - (nsMs s.sys.devTime : Int), openedAt := i.openedAt + d,
          epoch := (i.epoch + 1) % 65536 }) s) := by
  subst hd
  simp only [islandTimeUpdateFx, linkDown_false hlink hup, gt_iff_lt, hfar, if_true, Bool.false_eq_true, if_false]
  rfl

end

section
variable {r : List Byte}

theorem islandRecordReceivedFx_off (h : s.island.linkUp = false ∨ s.absorb.reexecuting = true ∨ s.sys.ready = false) :
    islandRecordReceivedFx r s = s := by
  have hoff : (!s.island.linkUp || s.absorb.reexecuting || !s.sys.ready) = true := by simpa [or_assoc] using h
  exact if_pos hoff

/-- A record that the island signed and that is newer than the last accepted is accepted, any other refused. -/
theorem islandRecordReceivedFx_judged (hlink : s.island.linkUp = true) (hre : s.absorb.reexecuting = false)
    (hready : s.sys.ready = true) {u : State} (hu : u = onIsland (fun i => { i with outbox := i.outbox.filter (· != r) }) s) :
    islandRecordReceivedFx r s =
      if recordAuthentic r = true ∧ (∀ n ∈ s.island.lastSeq, n < g4 r 4) then acceptRecord r u else refuseRecord r u := by
  subst hu
  cases hlast : s.island.lastSeq with
  | none => simp [islandRecordReceivedFx, receiveRecord, hlink, hre, hready, hlast]
  | some n => simp [islandRecordReceivedFx, receiveRecord, hlink, hre, hready, hlast]

end

/-! ### Restarts and starts (R223, R235, R236, R241) -/

theorem islandWatchdogFx_off (hup : islandUp s = false) : islandWatchdogFx s = s := by simp [islandWatchdogFx, hup]

theorem islandWatchdogFx_restarts (hup : islandUp s = true) :
    islandWatchdogFx s =
      note 0x0623 [1, (islandSramLost s).island.seqEnd]
        (allStale (onIsland (fun i => { i with running := false }) (islandSramLost s))) := by
  simp [islandWatchdogFx, hup]

/-- New island firmware is in its bank and has not served yet (R486). -/
abbrev firmwareTried (s : State) : Prop := s.fsh.state = 4 ∧ s.fsh.img.kind = 3 ∧ s.fsh.bankReady = true

section
variable {ok sh torn : Bool} {cb : Option Nat} {pb : List (Nat × Nat)}

theorem islandStartFx_untried (h : ¬ firmwareTried s) : islandStartFx ok sh cb pb torn s = islandStarts ok sh cb pb torn s := by
  have hold : ¬ (decide (s.fsh.state = 4) && decide (s.fsh.img.kind = 3) && s.fsh.bankReady) = true := by
    simpa [firmwareTried, and_assoc] using h
  exact if_neg hold

theorem islandStartFx_tried (h : firmwareTried s) :
    islandStartFx ok sh cb pb torn s =
      if ok then watermarkServes (wmVersion s) (islandStarts true sh cb pb torn s) else watermarkTrialTimeoutFx s := by
  obtain ⟨hstate, hkind, hbank⟩ := h
  cases ok <;> simp [islandStartFx, hstate, hkind, hbank]

theorem islandStarts_off (h : s.sys.mode = .vault ∨ s.sys.mode = .ice ∨ s.sys.mode = .recovery) :
    islandStarts ok sh cb pb torn s = s := by
  rcases h with hmode | hmode | hmode <;> simp [islandStarts, hmode]

section
variable (hvault : s.sys.mode ≠ .vault) (hice : s.sys.mode ≠ .ice) (hrecovery : s.sys.mode ≠ .recovery)
include hvault hice hrecovery

theorem islandStarts_badDigest :
    islandStarts false sh cb pb torn s =
      allStale (noteFault 0x0623 [2, (islandSramLost s).island.seqEnd]
        (onIsland (fun i => { i with running := false, failed := true }) (islandSramLost s))) := by
  unfold islandStarts
  split
  · exact absurd ‹_› hvault
  · exact absurd ‹_› hice
  · exact absurd ‹_› hrecovery
  · rfl

/-- A start that finds nothing wrong and no abandoned commit. -/
theorem islandStarts_clean (habandoned : (islandSramLost s).island.abandoned = none) :
    islandStarts true false none [] false s =
      takeSelection (onEngine (fun e => { e with intervalAt := some s.sys.devTime })
        (sealTakeUp (tamperCopied (tellUnpowered (askSeq (onIsland (fun i =>
          { i with
            running := true, failed := false, torn := false, seqNext := i.seqEnd,
            calOffset := s.sys.calTime - (nsMs s.sys.devTime : Int) }) (islandSramLost s))))))) := by
  unfold islandStarts
  split
  · exact absurd ‹_› hvault
  · exact absurd ‹_› hice
  · exact absurd ‹_› hrecovery
  · simp [askSeq_abandoned, habandoned]

end

end

end

/-! ### What taking up a change of the seal leaves alone (R228, R234, R242) -/

/-- The device-wide state and the image store are as before, and so are the level of SEAL# and what the island took up of it. -/
abbrev sealKept (s t : State) : Prop :=
  t.sys = s.sys ∧ t.fsh = s.fsh ∧ t.island.sealPin = s.island.sealPin ∧ t.island.sealSeen = s.island.sealSeen

theorem sealKept.refl (s : State) : sealKept s s := ⟨rfl, rfl, rfl, rfl⟩

theorem sealKept.trans {s t u : State} (h₁ : sealKept s t) (h₂ : sealKept t u) : sealKept s u := by
  obtain ⟨hsys, hfsh, hpin, hseen⟩ := h₁
  obtain ⟨hsys', hfsh', hpin', hseen'⟩ := h₂
  exact ⟨hsys'.trans hsys, hfsh'.trans hfsh, hpin'.trans hpin, hseen'.trans hseen⟩

theorem foldl_sealKept {α : Type} {f : State → α → State} (hf : ∀ t a, sealKept t (f t a)) (l : List α) (s : State) :
    sealKept s (l.foldl f s) := by
  induction l generalizing s with
  | nil => exact .refl s
  | cons a l ih => exact (hf s a).trans (ih (f s a))

theorem note_sealKept (code : Nat) (fields : List Int) (s : State) : sealKept s (note code fields s) := by
  rw [note_touches]
  exact .refl s

theorem audit_sealKept (kind actor : Nat) (data : List Byte) (s : State) : sealKept s (audit kind actor data s) := by
  rw [audit_touches]
  exact .refl s

theorem finish_sealKept (o : Org) (status : Nat) (data : List Byte) (s : State) : sealKept s (finish o status data s) := by
  rw [finish_touches o status data s]
  exact .refl s

theorem countFull_sealKept (n : Nat) (s : State) : sealKept s (countFull n s) := by
  unfold countFull
  split <;> exact .refl s

theorem captureEnds_sealKept (status : Nat) (s : State) : sealKept s (captureEnds status s) := by
  unfold captureEnds
  refine sealKept.trans (t := endCapture s) (.refl s) (foldl_sealKept (fun t j => ?_) ..)
  split
  · exact .refl t
  · exact finish_sealKept ..

theorem discardSession_sealKept (cause status : Nat) (s : State) : sealKept s (discardSession cause status s) := by
  unfold discardSession
  split
  · exact .refl s
  · dsimp only
    refine sealKept.trans ?_ (captureEnds_sealKept status _)
    refine sealKept.trans ?_ (foldl_sealKept (fun t (j : Job) => finish_sealKept j.org status [] t) _ _)
    split
    · exact ⟨rfl, rfl, rfl, rfl⟩
    · exact sealKept.trans ⟨rfl, rfl, rfl, rfl⟩ (note_sealKept 0x0614 [cause] _)

/-! ### The seal as the running island takes it up (R228, R234, R242) -/

theorem countFull_room {n : Nat} {s : State} (h : s.island.trail.length + s.island.waiting.length < 8191) :
    countFull n s = s := by
  simp [countFull, Nat.not_le.mpr h]

theorem countFull_full {n : Nat} {s : State} (hlegal : s.sys.legal = true)
    (h : 8191 ≤ s.island.trail.length + s.island.waiting.length) :
    countFull n s = onIsland (fun i => { i with fullCount := i.fullCount + n }) s := by
  simp [countFull, hlegal, h]

theorem sealClosed_room {secs : Nat} {s : State} (h : s.island.trail.length + s.island.waiting.length < 8191) :
    sealClosed secs s =
      note 0x0611 [s.island.objsChanged, secs] (audit 3 0 (p2 s.island.objsChanged ++ zeros 2 ++ p4 secs) s) := by
  rw [sealClosed, countFull_room h]

theorem sealClosed_sealKept (secs : Nat) (s : State) : sealKept s (sealClosed secs s) :=
  ((countFull_sealKept 1 s).trans (audit_sealKept ..)).trans (note_sealKept ..)

section
variable {o : Bool} {s : State}

theorem sealTaken_of_seen (h : s.island.sealSeen = o) : sealTaken o s = s := if_pos h.symm

/-- An XSR7-BP1 follows the level and tells nothing of it (R230). -/
theorem sealTaken_unsealed (hlegal : s.sys.legal = false) : sealTaken o s = onIsland (fun i => { i with sealSeen := o }) s := by
  by_cases hseen : s.island.sealSeen = o
  · subst hseen
    exact sealTaken_of_seen rfl
  · simp [sealTaken, Ne.symm hseen, hlegal]

variable (hlegal : s.sys.legal = true)
include hlegal

theorem sealTaken_opens (hseen : s.island.sealSeen = false) :
    sealTaken true s =
      note 0x0610 [s.island.openings + 1] (audit 2 0 (p4 (s.island.openings + 1)) (countFull 1 (onIsland (fun i =>
        { i with
          sealSeen := true, openings := s.island.openings + 1, openedAt := islandCal s s.sys.devTime,
          openedDev := s.sys.devTime, objsChanged := 0 }) s))) := by
  simp only [sealTaken, hseen, hlegal, Bool.true_eq_false, Bool.not_true, Bool.false_eq_true, if_false, if_true]
  rfl

variable (hseen : s.island.sealSeen = true) {secs : Nat}
  (hsecs : secs = (islandCal s s.sys.devTime - s.island.openedAt).toNat / 1000) {u : State}
  (hu : u = onIsland (fun i => { i with sealSeen := false, closedAt := s.sys.devTime }) s)
include hseen hsecs hu

theorem sealTaken_closes_free (hsession : s.island.session = none) : sealTaken false s = sealClosed secs u := by
  subst hsecs hu
  simp only [sealTaken, hseen, hlegal, hsession, Bool.false_eq_true, Bool.not_true, if_false]
  rfl

/-- A closing waits for a commit that is being written, and ends any other session. -/
theorem sealTaken_closes_session {p : PSession} (hsession : s.island.session = some p) :
    sealTaken false s =
      if p.writing then onIsland (fun i => { i with closeAfter := some secs }) u
      else sealClosed secs (discardSession 1 sSEALED u) := by
  subst hsecs hu
  simp only [sealTaken, hseen, hlegal, hsession, Bool.false_eq_true, Bool.not_true, if_false]
  rfl

end

/-- Taking up a change leaves all but the change itself. -/
theorem sealTaken_sealKept (o : Bool) (s : State) :
    sealKept (onIsland (fun i => { i with sealSeen := o }) s) (sealTaken o s) := by
  by_cases hsame : s.island.sealSeen = o
  · rw [sealTaken_of_seen hsame]
    exact ⟨rfl, rfl, rfl, hsame⟩
  cases hlegal : s.sys.legal with
  | false =>
    rw [sealTaken_unsealed hlegal]
    exact .refl _
  | true =>
    cases o with
    | true =>
      rw [sealTaken_opens hlegal (by simpa using hsame)]
      refine sealKept.trans ?_ (note_sealKept ..)
      refine sealKept.trans ?_ (audit_sealKept ..)
      exact sealKept.trans ⟨rfl, rfl, rfl, rfl⟩ (countFull_sealKept 1 _)
    | false =>
      have hseen : s.island.sealSeen = true := by simpa using hsame
      cases hsession : s.island.session with
      | none =>
        rw [sealTaken_closes_free hlegal hseen rfl rfl hsession]
        exact sealKept.trans ⟨rfl, rfl, rfl, rfl⟩ (sealClosed_sealKept ..)
      | some p =>
        rw [sealTaken_closes_session hlegal hseen rfl rfl hsession]
        split
        · exact ⟨rfl, rfl, rfl, rfl⟩
        · refine sealKept.trans ?_ (sealClosed_sealKept ..)
          exact sealKept.trans ⟨rfl, rfl, rfl, rfl⟩ (discardSession_sealKept 1 sSEALED _)

theorem sealTaken_sealTaken (o : Bool) (s : State) : sealTaken o (sealTaken o s) = sealTaken o s := by
  obtain ⟨-, -, -, hseen⟩ := sealTaken_sealKept o s
  exact sealTaken_of_seen hseen

/-- What taking up every missed change can change of the pin, the image store and the device: nothing. -/
abbrev pinKept (s t : State) : Prop := t.sys = s.sys ∧ t.fsh = s.fsh ∧ t.island.sealPin = s.island.sealPin

theorem sealTakeUp_pinKept (s : State) : pinKept s (sealTakeUp s) := by
  unfold sealTakeUp
  split
  · exact ⟨rfl, rfl, rfl⟩
  · generalize s.island.sealMissed ++ [s.island.sealPin] = changes
    have hfold : ∀ t : State, pinKept t (changes.foldl (fun t o => sealTaken o t) t) := by
      induction changes with
      | nil => exact fun t => ⟨rfl, rfl, rfl⟩
      | cons o changes ih =>
        intro t
        obtain ⟨hsys, hfsh, hpin, -⟩ := sealTaken_sealKept o t
        obtain ⟨hsys', hfsh', hpin'⟩ := ih (sealTaken o t)
        exact ⟨hsys'.trans hsys, hfsh'.trans hfsh, hpin'.trans hpin⟩
    exact hfold _

/-! ### SEAL_CHANGE (R226, R228, R234) -/

section
variable {o : Bool} {s : State}

theorem sealMoved_unpowered (h : s.sys.mode = .vault ∨ s.sys.mode = .ice) : sealMoved o s = s := by simp [sealMoved, h]

/-- No WATERMARK image is being activated. -/
abbrev noFirmware (s : State) : Prop := ¬ (s.fsh.state = 4 ∧ s.fsh.img.kind = 3)

theorem sealEnds_quiet (h : noFirmware s ∨ s.sys.legal = false ∨ s.island.sealPin = true) : sealEnds s = s := by
  have hquiet : (s.fsh.state != 4 || s.fsh.img.kind != 3 || !s.sys.legal || s.island.sealPin) = true := by
    simpa only [noFirmware, Decidable.not_and_iff_not_or_not, or_assoc, Bool.or_eq_true, bne_iff_ne, ne_eq,
      Bool.not_eq_true'] using h
  exact if_pos hquiet

section
variable (hvault : s.sys.mode ≠ .vault) (hice : s.sys.mode ≠ .ice)
include hvault hice

theorem sealMoved_eq :
    sealMoved o s =
      sealTakeUp (onIsland (fun i =>
        { i with sealPin := o, sealMissed := if o = i.sealPin then i.sealMissed else i.sealMissed ++ [o] }) s) := by
  simp [sealMoved, hvault, hice]

theorem sealMoved_pinKept : pinKept (onIsland (fun i => { i with sealPin := o }) s) (sealMoved o s) := by
  rw [sealMoved_eq hvault hice]
  exact sealTakeUp_pinKept _

/-- A restarting island takes the change up later. -/
theorem sealMoved_stopped (hup : islandUp s = false) :
    sealMoved o s =
      onIsland (fun i =>
        { i with sealPin := o, sealMissed := if o = i.sealPin then i.sealMissed else i.sealMissed ++ [o] }) s := by
  rw [sealMoved_eq hvault hice]
  exact if_pos (by rw [islandUp_onIsland rfl rfl, hup]; rfl)

/-- A running island that missed nothing takes up the new level. -/
theorem sealMoved_up (hup : islandUp s = true) (hmissed : s.island.sealMissed = []) :
    sealMoved o s = sealTaken o (onIsland (fun i => { i with sealPin := o }) s) := by
  have hnone : ∀ i : Island, i.sealMissed = [] → { i with sealPin := o, sealMissed := [] } = { i with sealPin := o } := by
    rintro i h
    rw [← h]
  rw [sealMoved_eq hvault hice, sealTakeUp, if_neg (by rw [islandUp_onIsland rfl rfl, hup]; decide)]
  by_cases hpin : o = s.island.sealPin
  · simp [onIsland, hmissed, hnone, ← hpin]
  · simp [onIsland, hmissed, hnone, hpin, sealTaken_sealTaken]

end

theorem sealChangeFx_unpowered (h : s.sys.mode = .vault ∨ s.sys.mode = .ice) (hfirmware : noFirmware s) :
    sealChangeFx o s = s := by
  rw [sealChangeFx, sealMoved_unpowered h, sealEnds_quiet (.inl hfirmware)]

section
variable (hvault : s.sys.mode ≠ .vault) (hice : s.sys.mode ≠ .ice)
include hvault hice

/-- Only a closing can end an activation, and only of island firmware on an XSR7-BM1. -/
theorem sealChangeFx_eq_sealMoved (h : noFirmware s ∨ s.sys.legal = false ∨ o = true) : sealChangeFx o s = sealMoved o s := by
  obtain ⟨hsys, hfsh, hpin⟩ := sealMoved_pinKept (o := o) hvault hice
  exact sealEnds_quiet (by simpa only [noFirmware, hsys, hfsh, hpin, onIsland_sys, onIsland_fsh, onIsland_island] using h)

theorem sealChangeFx_endsActivation (hlegal : s.sys.legal = true) (hstate : s.fsh.state = 4) (hkind : s.fsh.img.kind = 3)
    {u : State} (hu : u = cancelStore .islandBank (onFsh (fun f =>
      { f with state := 3, outcome := sSEALED, grantUsed := false, bankReady := false }) (sealMoved false s))) :
    sealChangeFx false s =
      if s.fsh.bankReady then allStale (onIsland (fun i => { i with running := false }) (islandSramLost u)) else u := by
  obtain ⟨hsys, hfsh, hpin⟩ := sealMoved_pinKept (o := false) hvault hice
  subst hu
  simp [sealChangeFx, sealEnds, hsys, hfsh, hpin, hlegal, hstate, hkind]

section
variable (hup : islandUp s = true) (hmissed : s.island.sealMissed = [])
include hup hmissed

theorem sealChangeFx_up (h : noFirmware s ∨ s.sys.legal = false ∨ o = true) :
    sealChangeFx o s = sealTaken o (onIsland (fun i => { i with sealPin := o }) s) :=
  (sealChangeFx_eq_sealMoved hvault hice h).trans (sealMoved_up hvault hice hup hmissed)

theorem sealChangeFx_seen (hfirmware : noFirmware s) (hseen : o = s.island.sealSeen) :
    sealChangeFx o s = onIsland (fun i => { i with sealPin := o }) s :=
  (sealChangeFx_up hvault hice hup hmissed (.inl hfirmware)).trans (sealTaken_of_seen hseen.symm)

theorem sealChangeFx_unsealed (hlegal : s.sys.legal = false) :
    sealChangeFx o s = onIsland (fun i => { i with sealPin := o, sealSeen := o }) s :=
  (sealChangeFx_up hvault hice hup hmissed (.inr (.inl hlegal))).trans (sealTaken_unsealed hlegal)

variable (hlegal : s.sys.legal = true)
include hlegal

theorem sealChangeFx_opens (hseen : s.island.sealSeen = false) {u : State}
    (hu : countFull 1 (onIsland (fun i =>
      { i with
        sealPin := true, sealSeen := true, openings := s.island.openings + 1, openedAt := islandCal s s.sys.devTime,
        openedDev := s.sys.devTime, objsChanged := 0 }) s) = u) :
    sealChangeFx true s = note 0x0610 [s.island.openings + 1] (audit 2 0 (p4 (s.island.openings + 1)) u) := by
  subst hu
  exact (sealChangeFx_up hvault hice hup hmissed (.inr (.inr rfl))).trans (sealTaken_opens hlegal hseen)

variable (hfirmware : noFirmware s) (hseen : s.island.sealSeen = true) {secs : Nat}
  (hsecs : secs = (islandCal s s.sys.devTime - s.island.openedAt).toNat / 1000) {u : State}
  (hu : u = onIsland (fun i => { i with sealPin := false, sealSeen := false, closedAt := s.sys.devTime }) s)
include hfirmware hseen hsecs hu

theorem sealChangeFx_closes_free (hsession : s.island.session = none) : sealChangeFx false s = sealClosed secs u :=
  (sealChangeFx_up hvault hice hup hmissed (.inl hfirmware)).trans
    (sealTaken_closes_free (s := onIsland (fun i => { i with sealPin := false }) s) hlegal hseen hsecs hu hsession)

theorem sealChangeFx_closes_session {p : PSession} (hsession : s.island.session = some p) :
    sealChangeFx false s =
      if p.writing then onIsland (fun i => { i with closeAfter := some secs }) u
      else sealClosed secs (discardSession 1 sSEALED u) :=
  (sealChangeFx_up hvault hice hup hmissed (.inl hfirmware)).trans
    (sealTaken_closes_session (s := onIsland (fun i => { i with sealPin := false }) s) hlegal hseen hsecs hu hsession)

end

end

end

/-! ### Unpowered changes, the shield loop, the parameter check and the idle session (R229, R234, R235) -/

section
variable {s : State}

theorem sealSampleUnpoweredFx_counts {o : Bool} (hmode : s.sys.mode = .vault ∨ s.sys.mode = .ice) (hpin : o ≠ s.island.sealPin) :
    sealSampleUnpoweredFx o s =
      onIsland (fun i =>
        { i with
          sealPin := o, unpoweredCount := i.unpoweredCount + 1,
          unpoweredFirst := if i.unpoweredCount = 0 then s.power.springNs / 1000000 else i.unpoweredFirst }) s := by
  have hchange : ¬ ((s.sys.mode != .vault && s.sys.mode != .ice) || decide (o = s.island.sealPin)) = true := by
    rcases hmode with hmode | hmode <;> simp [hmode, hpin]
  exact if_neg hchange

theorem sealSampleUnpoweredFx_off {o : Bool}
    (h : (s.sys.mode ≠ .vault ∧ s.sys.mode ≠ .ice) ∨ o = s.island.sealPin) : sealSampleUnpoweredFx o s = s := by
  have hoff : ((s.sys.mode != .vault && s.sys.mode != .ice) || decide (o = s.island.sealPin)) = true := by simpa using h
  exact if_pos hoff

theorem shieldLoopOpenFx_latchesOnly
    (h : islandUp s = false ∨ s.sys.mode = .vault ∨ s.sys.mode = .ice ∨ s.island.tamperedFlash = true) :
    shieldLoopOpenFx s = onIsland (fun i => { i with tampered := true }) s := by
  rcases h with h | h | h | h <;> simp [shieldLoopOpenFx, tamperCopied, h]

/-- A latch that the trail does not tell of yet is recorded, and copied to flash where a write may start. -/
theorem shieldLoopOpenFx_records (hup : islandUp s = true) (hvault : s.sys.mode ≠ .vault) (hice : s.sys.mode ≠ .ice)
    (hflash : s.island.tamperedFlash = false) (htold : tamperTold s = false) {u : State}
    (hu : u = note 0x0650 [s.sys.calTime] (audit 0x0B 0 [] (onIsland (fun i => { i with tampered := true }) s))) :
    shieldLoopOpenFx s = if canStore .islandAudit s then onIsland (fun i => { i with tamperedFlash := true }) u else u := by
  have htold' : tamperTold (onIsland (fun i => { i with tampered := true }) s) = false := htold
  have hstore : canStore .islandAudit (onIsland (fun i => { i with tampered := true }) s) = canStore .islandAudit s := rfl
  subst hu
  simp [shieldLoopOpenFx, tamperCopied, hup, hvault, hice, hflash, htold', hstore]

theorem paramCrcCheckFx_up {bad : List (Nat × Nat)} (hup : islandUp s = true) :
    paramCrcCheckFx bad s = bad.foldl (fun t k => paramBroken k.1 k.2 t) s := if_pos hup

theorem paramCrcCheckFx_off {bad : List (Nat × Nat)} (hup : islandUp s = false) : paramCrcCheckFx bad s = s :=
  if_neg (by simp [hup])

theorem paramSessionIdleFx_discards {p : PSession} (hsession : s.island.session = some p) (hwriting : p.writing = false) :
    paramSessionIdleFx s = discardSession 2 sTIMEOUT s := by
  simp [paramSessionIdleFx, hsession, hwriting]

theorem paramSessionIdleFx_stays (h : ∀ p ∈ s.island.session, p.writing = true) : paramSessionIdleFx s = s := by
  cases hsession : s.island.session with
  | none => simp [paramSessionIdleFx, hsession]
  | some p => simp [paramSessionIdleFx, hsession, h p hsession]

/-! ### The tap (R254–R256) -/

section
variable {w : Nat} {d : List Byte} {fd : Bool}

theorem tapTriggerFx_ignored {own : Bool}
    (h : tapOn s = false ∨ own = true ∨ w ≠ g4 (paramBody s 5 0) 4 ∨ fd ≠ (g1 (paramBody s 5 0) 1 == 1) ∨ d.length ≠ 8 ∨
      g1 d 0 = 0 ∨ 4 < g1 d 0 ∨ (g1 d 1 ≠ 1 ∧ g1 d 1 ≠ 2) ∨ zeroAt d 4 4 = false ∨ s.island.tapCounter = some (g2 d 2)) :
    tapTriggerFx w fd own d s = s := by
  refine if_pos ?_
  simpa [or_assoc] using h

theorem tapTriggerFx_counts (hon : tapOn s = true) (hfd : fd = (g1 (paramBody s 5 0) 1 == 1)) (hlen : d.length = 8)
    (hmin : 1 ≤ g1 d 0) (hmax : g1 d 0 ≤ 4) (hchan : g1 d 1 = 1 ∨ g1 d 1 = 2) (hzero : zeroAt d 4 4 = true)
    (hnew : s.island.tapCounter ≠ some (g2 d 2)) {u : State}
    (hu : u = note 0x0640 [g1 d 0, g1 d 1, g2 d 2] (onIsland (fun i =>
      { i with
        tapCounter := some (g2 d 2), tapTriggers := (i.tapTriggers + 1) % 65536,
        tapGaps := if ∃ k ∈ s.island.tapCounter, g2 d 2 ≠ (k + 1) % 65536 then (i.tapGaps + 1) % 65536 else i.tapGaps }) s)) :
    tapTriggerFx (g4 (paramBody s 5 0) 4) fd false d s =
      if wOn s (g1 d 1) then (wgtAsk (g1 d 1) { kind := g1 d 0, source := 1, since := s.sys.devTime } u).2 else u := by
  subst hfd hu
  have hchan' : (g1 d 1 == 1 || g1 d 1 == 2) = true := by simpa using hchan
  cases hlast : s.island.tapCounter with
  | none => simp [tapTriggerFx, hon, hlen, hmin, hmax, hchan', hzero, hlast]
  | some k =>
    have hk : k ≠ g2 d 2 := by simpa [hlast] using hnew
    simp [tapTriggerFx, hon, hlen, hmin, hmax, hchan', hzero, hlast, hk]

end

/-! ### Grain temperatures (R232, R251–R253) -/

section
variable {t0 : Nat} {u : State}
  (hu : u = if t0 < s.island.committedAt then onIsland (fun i => { i with params := paramsAt s t0 }) s else s)
include hu

/-- An effect under the parameters of an interval's start leaves the present ones. -/
theorem underParams_eq {f : State → State} {v : State} (hv : f u = v) :
    underParams t0 f s =
      if t0 < s.island.committedAt then onIsland (fun i => { i with params := s.island.params }) v else v := by
  subst hu
  unfold underParams
  split
  · next h => rw [← hv, if_pos h]; rfl
  · next h => rw [← hv, if_neg h]

/-- The parameters of an interval's start are all that its effect sees otherwise. -/
theorem underParams_sees (ch : Nat) :
    islandUp u = islandUp s ∧ pllDown u 2 = pllDown s 2 ∧ grainMeasured u ch = grainMeasured s ch ∧ u.fresh = s.fresh ∧
      u.sys = s.sys := by
  subst hu
  split <;> exact ⟨rfl, rfl, rfl, rfl, rfl⟩

variable {ch t1 : Nat} {rs : List Rat} {cal : List Byte} {r : Rat} (hch : ch ≤ 1) (hup : islandUp s = true)
  (hpll : pllDown s 2 = false) (hmeasured : grainMeasured s ch = true) (hcal : cal = paramBody u 4 ch) (hpresent : cal ≠ [])
include hch hup hpll hmeasured hcal hpresent

/-- An open wire, or a second without pairs, has no temperature (notes/assumptions/123.md). -/
theorem grainTempRecordFx_invalid {ow : Bool} (hr : r = ratDiv rs.sum (rs.length : Nat)) (hbad : ow = true ∨ rs = []) {v : State}
    (hv : v = makeRecord (3 + ch) 4 0x20 t0 t1
      (q4 invalidValue ++ p4 (if rs = [] then Config.freeNat (s.fresh + 1) else uField 4 (roundRat (r * 1000))) ++
        p1 (g1 cal 0) ++ p1 1 ++ p2 rs.length ++ zeros 20) (drawn 2 u)) :
    grainTempRecordFx ch rs ow t0 t1 s =
      if t0 < s.island.committedAt then onIsland (fun i => { i with params := s.island.params }) v else v := by
  obtain ⟨hup', hpll', hmeasured', hfresh, -⟩ := underParams_sees hu ch
  refine underParams_eq hu ?_
  subst hv hr hcal
  by_cases hpairs : rs = []
  · simp [hup', hpll', hmeasured', hfresh, hup, hpll, hmeasured, hpresent, Nat.not_lt.mpr hch, hpairs]
  · have hopen : ow = true := hbad.resolve_right hpairs
    simp [hup', hpll', hmeasured', hup, hpll, hmeasured, hpresent, Nat.not_lt.mpr hch, hopen, hpairs, ratDiv]

theorem grainTempRecordFx_valid (hpairs : rs ≠ []) (hr : r = rs.sum / (rs.length : Nat)) {g : Rat × Bool}
    (hg : g = gtLaw cal r s.fresh) {v : Int} (hv : v = if g.2 then roundRat (g.1 * 1000) else invalidValue) {w : State}
    (hw : w = makeRecord (3 + ch) 4 (if v ≠ invalidValue ∧ i4 cal 8 ≤ v ∧ v ≤ i4 cal 12 then 0 else 0x20) t0 t1
      (q4 v ++ p4 (uField 4 (roundRat (r * 1000))) ++ p1 (g1 cal 0) ++ p1 (if g.2 then 0 else 2) ++ p2 rs.length ++ zeros 20)
      (drawn 2 (if v = invalidValue then u
        else onIsland (fun i => { i with gtTemp := tset i.gtTemp ch (v, s.sys.devTime) }) u))) :
    grainTempRecordFx ch rs false t0 t1 s =
      if t0 < s.island.committedAt then onIsland (fun i => { i with params := s.island.params }) w else w := by
  obtain ⟨hup', hpll', hmeasured', hfresh, hsys⟩ := underParams_sees hu ch
  refine underParams_eq hu ?_
  subst hw hcal hr
  cases hinside : g.2 with
  | false =>
    subst hv
    simp [hup', hpll', hmeasured', hfresh, hup, hpll, hmeasured, hpresent, Nat.not_lt.mpr hch, hpairs, ← hg, hinside]
  | true =>
    have hmeasure : roundRat (g.1 * 1000) = v := by rw [hv, if_pos hinside]
    simp [hup', hpll', hmeasured', hfresh, hup, hpll, hmeasured, hpresent, Nat.not_lt.mpr hch, hpairs, ← hg, hinside, hmeasure,
      hsys, and_assoc]

end

theorem grainTempRecordFx_off {ch t0 t1 : Nat} {rs : List Rat} {ow : Bool} (hold : s.island.committedAt ≤ t0)
    (h : 1 < ch ∨ paramBody s 4 ch = [] ∨ islandUp s = false ∨ pllDown s 2 = true ∨ grainMeasured s ch = false) :
    grainTempRecordFx ch rs ow t0 t1 s = s := by
  refine (if_neg (Nat.not_lt.mpr hold)).trans (if_pos ?_)
  simpa [or_assoc] using h

/-! ### Publication (R192, R250, R253) -/

section
variable {n : Nat}

theorem stationPublishFx_off
    (h : 128 ≤ n ∨ s.sys.ready = false ∨ stnSampleMode s n ≠ 0 ∨ (isWeir s n = true ∧ (wst s n).has = false) ∨
      (isWeir s n = false ∧ isIsland s n = false ∧ isProp s n = false ∧ stnType s n ≠ 0x31 ∧ isLoopOut s n = false)) :
    stationPublishFx n s = s := by
  rcases h with h | h | h | ⟨hweir, hhas⟩ | ⟨hweir, hisland, hprop, htype, hloop⟩
  · simp [stationPublishFx, h]
  · simp [stationPublishFx, h]
  · simp [stationPublishFx, h]
  · simp [stationPublishFx, hweir, hhas]
  · simp [stationPublishFx, hweir, hisland, hprop, htype, hloop]

section
variable (hn : n < 128) (hready : s.sys.ready = true) (hmode : stnSampleMode s n = 0)
include hn hready hmode

theorem stationPublishFx_weir (hweir : isWeir s n = true) (hhas : (wst s n).has = true) :
    stationPublishFx n s =
      weirPublish n { published := true, flags := (wst s n).flags, value := (wst s n).value, time := (wst s n).time } s := by
  simp [stationPublishFx, Nat.not_le.mpr hn, hready, hmode, hweir, hhas]

variable (hweir : isWeir s n = false)
include hweir

theorem stationPublishFx_island (hisland : isIsland s n = true) : stationPublishFx n s = islandPublish n s := by
  simp [stationPublishFx, Nat.not_le.mpr hn, hready, hmode, hweir, hisland]

variable (hisland : isIsland s n = false)
include hisland

theorem stationPublishFx_valve (hvalve : isProp s n = true ∨ stnType s n = 0x31) : stationPublishFx n s = publishValve n s := by
  simp [stationPublishFx, Nat.not_le.mpr hn, hready, hmode, hweir, hisland, hvalve]

theorem stationPublishFx_loop (hprop : isProp s n = false) (htype : stnType s n ≠ 0x31) (hloop : isLoopOut s n = true) :
    stationPublishFx n s = publishField n s.sys.devTime s := by
  simp [stationPublishFx, Nat.not_le.mpr hn, hready, hmode, hweir, hisland, hprop, htype, hloop]

end

theorem islandStationStaleFx_stale (hn : n < 128) (hisland : isIsland s n = true) (hfresh : s.island.stale.contains n = false) :
    islandStationStaleFx n s = islandPublish n (onIsland (fun i => { i with stale := n :: i.stale }) s) := by
  simp only [islandStationStaleFx, hn, hisland, hfresh, makeStale, decide_true, Bool.and_true, if_true, List.foldl_cons,
    List.foldl_nil, Bool.false_eq_true, if_false]

theorem islandStationStaleFx_off (h : 128 ≤ n ∨ isIsland s n = false ∨ s.island.stale.contains n = true) :
    islandStationStaleFx n s = s := by
  rcases h with h | h | h
  · simp [islandStationStaleFx, Nat.not_lt.mpr h]
  · simp [islandStationStaleFx, h]
  · simp only [islandStationStaleFx, makeStale, List.foldl_cons, List.foldl_nil, h, if_true, ite_self]

end

end

/-- Settles O46: whether the link, the island or the station serves decides each event, and each clause is a branch of its effect.
A change of SEAL# that nothing missed is taken up once, since taking it up again changes nothing. That an event which nothing
serves changes nothing is notes/assumptions/94.md. -/
theorem islandEventsAct : Obligations.IslandEventsAct := by
  unfold Obligations.IslandEventsAct
  refine ⟨?check, ?lost, ?lostSession, ?lostBefore, ?restored, ?restoredServes, ?restoredBefore, ?timeNear, ?timeFar, ?stopped,
    ?record, ?recordWaits, ?watchdog, ?startOff, ?startBad, ?startClean, ?start, ?startTried, ?opens, ?opensFull, ?closes,
    ?closesSession, ?closesActivation, ?sealStopped, ?sealSeen, ?sealUnsealed, ?sealUnpowered, ?sample, ?sampleOff, ?shield,
    ?shieldUnstored, ?shieldOff, ?crcOne, ?crc, ?crcOff, ?idle, ?idleStays, ?tap, ?tapIgnored, ?grainInvalid, ?grain, ?grainOff,
    ?publishWeir, ?publishIsland, ?publishValve, ?publishLoop, ?publishOff, ?stale, ?staleOff⟩
  case check => exact fun s => rfl
  case lost => exact fun s hlink hsession => next_settled_congr (islandLinkLostFx_free hlink hsession)
  case lostSession => exact fun s p hlink hsession => next_settled_congr (islandLinkLostFx_session hlink hsession)
  case lostBefore =>
    exact fun s hlink => ⟨next_settled_congr (islandLinkLostFx_down hlink),
      next_settled_congr (islandTimeUpdateFx_off (linkDown_of_lost hlink))⟩
  case restored =>
    intro s hlink hstate
    refine next_settled_congr ((watermarkServes_inactive ?_).trans (islandLinkBack_down hlink))
    rwa [islandLinkBack_fsh]
  case restoredServes =>
    exact fun s hlink => next_settled_congr (congrArg (watermarkServes (wmVersion s)) (islandLinkBack_down hlink))
  case restoredBefore =>
    exact fun s hlink => next_settled_congr (congrArg (watermarkServes (wmVersion s)) (islandLinkBack_up hlink))
  case timeNear => exact fun s d hlink hup hd hnear => next_settled_congr (islandTimeUpdateFx_near hlink hup hd hnear)
  case timeFar => exact fun s d hlink hup hd hfar => next_settled_congr (islandTimeUpdateFx_far hlink hup hd hfar)
  case stopped =>
    exact fun s hup => ⟨next_settled_congr (islandTimeUpdateFx_off (linkDown_of_stopped hup)),
      next_settled_congr (islandWatchdogFx_off hup)⟩
  case record =>
    exact fun s u r hlink hre hready hu => next_settled_congr (islandRecordReceivedFx_judged hlink hre hready hu)
  case recordWaits => exact fun s r h => next_settled_congr (islandRecordReceivedFx_off h)
  case watchdog => exact fun s hup => next_settled_congr (islandWatchdogFx_restarts hup)
  case startOff =>
    exact fun s d sh torn cb pb huntried hmode =>
      next_settled_congr ((islandStartFx_untried huntried).trans (islandStarts_off hmode))
  case startBad =>
    exact fun s sh torn cb pb huntried hvault hice hrecovery =>
      next_settled_congr ((islandStartFx_untried huntried).trans (islandStarts_badDigest hvault hice hrecovery))
  case startClean =>
    exact fun s huntried hvault hice hrecovery habandoned =>
      next_settled_congr ((islandStartFx_untried huntried).trans (islandStarts_clean hvault hice hrecovery habandoned))
  case start => exact fun s sh torn cb pb huntried => next_settled_congr (islandStartFx_untried huntried)
  case startTried =>
    exact fun s sh torn cb pb hstate hkind hbank => ⟨next_settled_congr (islandStartFx_tried ⟨hstate, hkind, hbank⟩),
      next_settled_congr (islandStartFx_tried ⟨hstate, hkind, hbank⟩)⟩
  case opens =>
    intro s hup hvault hice hlegal hseen hmissed hroom
    exact next_settled_congr (sealChangeFx_opens hvault hice hup hmissed hlegal hseen (countFull_room hroom))
  case opensFull =>
    intro s hup hvault hice hlegal hseen hmissed hfull
    exact next_settled_congr (sealChangeFx_opens hvault hice hup hmissed hlegal hseen (countFull_full hlegal hfull))
  case closes =>
    intro s secs hup hvault hice hlegal hseen hmissed hfirmware hroom hsession hsecs
    exact next_settled_congr ((sealChangeFx_closes_free hvault hice hup hmissed hlegal hfirmware hseen hsecs rfl hsession).trans
      (sealClosed_room hroom))
  case closesSession =>
    intro s p secs hup hvault hice hlegal hseen hmissed hfirmware hsession hsecs
    exact next_settled_congr (sealChangeFx_closes_session hvault hice hup hmissed hlegal hfirmware hseen hsecs rfl hsession)
  case closesActivation =>
    exact fun s hvault hice hlegal hstate hkind =>
      next_settled_congr (sealChangeFx_endsActivation hvault hice hlegal hstate hkind rfl)
  case sealStopped =>
    exact fun s o hvault hice hfirmware hup =>
      next_settled_congr ((sealChangeFx_eq_sealMoved hvault hice (.inl hfirmware)).trans (sealMoved_stopped hvault hice hup))
  case sealSeen =>
    exact fun s o hvault hice hfirmware hup hmissed hseen =>
      next_settled_congr (sealChangeFx_seen hvault hice hup hmissed hfirmware hseen)
  case sealUnsealed =>
    exact fun s o hvault hice hup hlegal hmissed => next_settled_congr (sealChangeFx_unsealed hvault hice hup hmissed hlegal)
  case sealUnpowered => exact fun s o hmode hfirmware => next_settled_congr (sealChangeFx_unpowered hmode hfirmware)
  case sample => exact fun s o hmode hpin => next_settled_congr (sealSampleUnpoweredFx_counts hmode hpin)
  case sampleOff => exact fun s o h => next_settled_congr (sealSampleUnpoweredFx_off h)
  case shield =>
    intro s hup hvault hice hflash htold hstore
    exact next_settled_congr ((shieldLoopOpenFx_records hup hvault hice hflash htold rfl).trans (if_pos hstore))
  case shieldUnstored =>
    intro s hup hvault hice hflash htold hstore
    exact next_settled_congr ((shieldLoopOpenFx_records hup hvault hice hflash htold rfl).trans
      (if_neg (Bool.eq_false_iff.mp hstore)))
  case shieldOff => exact fun s h => next_settled_congr (shieldLoopOpenFx_latchesOnly h)
  case crcOne => exact fun s cls i hup => next_settled_congr (paramCrcCheckFx_up hup)
  case crc => exact fun s bad hup => next_settled_congr (paramCrcCheckFx_up hup)
  case crcOff => exact fun s bad hup => next_settled_congr (paramCrcCheckFx_off hup)
  case idle => exact fun s p hsession hwriting => next_settled_congr (paramSessionIdleFx_discards hsession hwriting)
  case idleStays => exact fun s h => next_settled_congr (paramSessionIdleFx_stays h)
  case tap =>
    exact fun s u d fd hon hfd hlen hmin hmax hchan hzero hnew hu =>
      next_settled_congr (tapTriggerFx_counts hon hfd hlen hmin hmax hchan hzero hnew hu)
  case tapIgnored => exact fun s w d fd own h => next_settled_congr (tapTriggerFx_ignored h)
  case grainInvalid =>
    exact fun s u ch rs ow t0 t1 cal r hu hch hup hpll hmeasured hcal hpresent hr hbad =>
      next_settled_congr (grainTempRecordFx_invalid hu hch hup hpll hmeasured hcal hpresent hr hbad rfl)
  case grain =>
    exact fun s u ch rs t0 t1 cal r g v hu hch hup hpll hmeasured hcal hpresent hpairs hr htemp hinside hv =>
      next_settled_congr
        (grainTempRecordFx_valid hu hch hup hpll hmeasured hcal hpresent hpairs hr (Prod.ext htemp hinside) hv rfl)
  case grainOff => exact fun s ch rs ow t0 t1 hold h => next_settled_congr (grainTempRecordFx_off hold h)
  case publishWeir =>
    exact fun s n hn hready hmode hweir hhas => next_settled_congr (stationPublishFx_weir hn hready hmode hweir hhas)
  case publishIsland =>
    exact fun s n hn hready hmode hweir hisland => next_settled_congr (stationPublishFx_island hn hready hmode hweir hisland)
  case publishValve =>
    exact fun s n hn hready hmode hweir hisland hvalve =>
      next_settled_congr (stationPublishFx_valve hn hready hmode hweir hisland hvalve)
  case publishLoop =>
    exact fun s n hn hready hmode hweir hisland hprop htype hloop =>
      next_settled_congr (stationPublishFx_loop hn hready hmode hweir hisland hprop htype hloop)
  case publishOff => exact fun s n h => next_settled_congr (stationPublishFx_off h)
  case stale => exact fun s n hn hisland hfresh => next_settled_congr (islandStationStaleFx_stale hn hisland hfresh)
  case staleOff => exact fun s n h => next_settled_congr (islandStationStaleFx_off h)

/-! ### A discarded session whose air capture is under way (R259; notes/assumptions/170.md) -/

/-- An MST_CAPTURE_AIR of the SPI side, on its sluice 2. -/
def captureOrg : Org := { side := .spi, sluice := 2, tag := 5, code := 0x0702 }

/-- RUN with the seal open, S1 idle, and a parameter session of the SPI side whose air capture is under way. -/
def capturing : State :=
  { sys := { mode := .run, ready := true }, island := { sealPin := true, session := some { owner := .spi } },
    engine := { st := 3, capture := some (captureOrg, 100000, 10000, 0) },
    mail :=
      { sluices := [(1, { owner := some .spi, sizeKib := 1, st := .idle }),
          (2, { owner := some .spi, sizeKib := 1, st := .busy })],
        jobs := [{ org := captureOrg }] } }

/-- A WM_PARAM_DISCARD on S1. -/
def discardRequest : Req := { side := .spi, sluice := 1, tag := 0, flags := 0, payload := [] }

theorem asks_discardRequest : asks 0x0607 discardRequest capturing = true := by decide +kernel

theorem ownSession_capturing : ownSession (reqOrg 0x0607 discardRequest) capturing = .inl { owner := .spi } := by decide +kernel

/-- The capture is answered BAD_OBJECT, and so no longer in progress. -/
theorem jobs_capturing_discarded : (settled capturing (wmParamDiscardFx discardRequest capturing)).mail.jobs = [] := by
  decide +kernel

/-- Refutes O47 by its clause on a discard, which ends an air capture of the session with OK: that would wait, past its commit
point, for its answer to be placed, and the model answers BAD_OBJECT at once. -/
theorem not_watermarkCommandsAct : ¬ Obligations.WatermarkCommandsAct := by
  unfold Obligations.WatermarkCommandsAct
  rintro ⟨-, -, -, -, -, -, -, -, -, -, -, -, -, -, -, -, -, -, -, -, -, -, -, -, -, hdiscard, -⟩
  have hsame := Host.Outcome.next.inj (hdiscard capturing discardRequest _ asks_discardRequest ownSession_capturing)
  have hended := jobs_capturing_discarded.symm.trans (congrArg (fun t => t.mail.jobs) hsame)
  exact absurd hended (by decide +kernel)

end Sys2Proof.Machine

/-! Proofs of the statements of spec/07_moisture_engine.md. The statement on the engine fails on an air capture whose side does not
own the parameter session: it is refuted by a concrete state. -/

namespace Sys2Proof.Machine

/-! ### What making records and staging leave alone -/

/-- The device-wide state, and the air capture that is under way, are as before. -/
abbrev keepsCapture (s t : State) : Prop := t.sys = s.sys ∧ t.engine.capture = s.engine.capture

theorem keepsCapture.trans {s t u : State} (h₁ : keepsCapture s t) (h₂ : keepsCapture t u) : keepsCapture s u := by
  obtain ⟨hsys, hcapture⟩ := h₁
  obtain ⟨hsys', hcapture'⟩ := h₂
  exact ⟨hsys'.trans hsys, hcapture'.trans hcapture⟩

theorem note_keepsCapture (code : Nat) (fields : List Int) (s : State) : keepsCapture s (note code fields s) := by
  rw [note_touches]
  exact ⟨rfl, rfl⟩

theorem onEngine_keepsCapture {f : Engine → Engine} {s : State} (h : (f s.engine).capture = s.engine.capture) :
    keepsCapture s (onEngine f s) := ⟨rfl, h⟩

theorem noteIf_keepsCapture (c : Prop) [Decidable c] (code : Nat) (fields : List Int) (s : State) :
    keepsCapture s (if c then note code fields s else s) := by
  split
  · exact note_keepsCapture code fields s
  · exact ⟨rfl, rfl⟩

theorem finish_keepsCapture (o : Org) (status : Nat) (data : List Byte) (s : State) : keepsCapture s (finish o status data s) := by
  rw [finish_touches]
  exact ⟨rfl, rfl⟩

theorem askSeq_keepsCapture (s : State) : keepsCapture s (askSeq s) := by
  unfold askSeq
  split <;> exact ⟨rfl, rfl⟩

theorem signRecord_keepsCapture (head : List Byte) (s : State) : keepsCapture s (signRecord head s) :=
  askSeq_keepsCapture _

theorem makeGraded_keepsCapture (term rtype : Nat) (why : BitVec 16) (t0 t1 : Nat) (body : List Byte) (s : State) :
    keepsCapture s (makeGraded term rtype why t0 t1 body s) := by
  unfold makeGraded
  split
  · exact ⟨rfl, rfl⟩
  · dsimp only
    split
    all_goals
      split
      · exact signRecord_keepsCapture ..
      · exact ⟨rfl, rfl⟩

theorem makeRecord_keepsCapture (term rtype : Nat) (own : BitVec 16) (t0 t1 : Nat) (body : List Byte) (s : State) :
    keepsCapture s (makeRecord term rtype own t0 t1 body s) :=
  makeGraded_keepsCapture term rtype _ t0 t1 body (refreshTempHot s)

theorem loopBack_keepsCapture (ws : List Sweep) (start trigger : Nat) (s : State) :
    keepsCapture s (loopBack ws start trigger s) := by
  unfold loopBack
  dsimp only
  refine keepsCapture.trans ?_ (makeRecord_keepsCapture ..)
  refine keepsCapture.trans ?_ (onEngine_keepsCapture rfl)
  refine keepsCapture.trans ?_ (noteIf_keepsCapture ..)
  exact keepsCapture.trans (noteIf_keepsCapture ..) (noteIf_keepsCapture ..)

theorem stageCapture_keepsCapture (o : Org) (p : PSession) (len fill cable : Nat) (ws : List Sweep) (s : State) :
    keepsCapture s (stageCapture o p len fill cable ws s) := by
  unfold stageCapture
  dsimp only
  split
  · exact finish_keepsCapture ..
  · next q _ =>
    have hstaged : keepsCapture s (commitJob o (setSession (some q) s)) := ⟨rfl, rfl⟩
    exact (hstaged.trans (note_keepsCapture ..)).trans (makeRecord_keepsCapture ..)

/-! ### What settling leaves of the engine -/

theorem placeDue_engine (b s : State) : (placeDue b s).engine = s.engine := by
  unfold placeDue
  split
  · rfl
  · refine List.foldlRecOn (motive := fun t => t.engine = s.engine) _ _ rfl fun (t : State) ht j _ => ?_
    split
    · split
      · rwa [answerJob_touches]
      · exact ht
    · exact ht

theorem raiseIrqs_engine (b s : State) : (raiseIrqs b s).engine = s.engine := by
  unfold raiseIrqs irqBoth
  dsimp only
  split <;> split <;> rfl

theorem sendOut_engine (b : State) (e : Nat × List Byte) (s : State) : (sendOut b e s).engine = s.engine := by
  unfold sendOut enqueue modPort
  dsimp only
  repeat' split
  all_goals rfl

theorem sendAll_engine (b s : State) : (sendAll b s).engine = s.engine :=
  List.foldlRecOn (motive := fun t => t.engine = s.engine) _ _ rfl fun (t : State) ht e _ => (sendOut_engine b e t).trans ht

/-- In RUN without a cause to leave it, settling changes nothing of the moisture engine. -/
theorem settled_engine_of_run {b e : State} (hmode : e.sys.mode = .run) (hcauses : e.sys.holdCauses = 0) :
    (settled b e).engine = e.engine := by
  have hfollow : followCauses b e = e := by simp [followCauses, hmode, hcauses]
  calc (settled b e).engine
      = (sendAll b (pumpReam (refreshBoost (refreshBanks (raiseIrqs b (placeDue b (pinMode e e))))))).engine := by
        unfold settled; rw [hfollow]; rfl
    _ = (refreshBoost (refreshBanks (raiseIrqs b (placeDue b (pinMode e e))))).engine := by rw [sendAll_engine, pumpReam_touches]
    _ = (raiseIrqs b (placeDue b (pinMode e e))).engine := by rw [refreshBoost_valvesOnly, refreshBanks_valvesOnly]
    _ = e.engine := by rw [raiseIrqs_engine, placeDue_engine]; rfl

/-! ### An air capture in another side's session (R288, R289) -/

/-- A capture whose side does not own the session has nothing to stage in, and stays. -/
theorem airCaptureCompleteFx_otherOwner {s : State} {o : Org} {len fill cable : Nat} {p : PSession}
    (hcapture : s.engine.capture = some (o, len, fill, cable)) (hsession : s.island.session = some p) (howner : p.owner ≠ o.side)
    (ws : List Sweep) : airCaptureCompleteFx ws s = s := by
  simp [airCaptureCompleteFx, hcapture, hsession, howner]

/-- The SPI side's air capture is under way, and the APP side owns the parameter session. -/
def capturingInOther : State := onIsland (fun i => { i with session := some { owner := .app } }) capturing

/-- The 255 sweeps of an air capture, without a signal at any point. -/
def silentSweeps : List Sweep := List.replicate 255 (List.replicate 201 { a := List.replicate 320 0, b := List.replicate 320 0 })

/-- Refutes O48 by its clause on a completed air capture, which does not ask that the session is the capturing side's: where it is
another side's the model leaves the capture under way, and the clause would end it. -/
theorem not_moistureEngineActs : ¬ Obligations.MoistureEngineActs := by
  unfold Obligations.MoistureEngineActs
  rintro ⟨-, -, -, -, -, -, -, -, hcomplete, -⟩
  have hstays : exec (.airCaptureComplete silentSweeps) capturingInOther = .next (settled capturingInOther capturingInOther) :=
    next_settled_congr (airCaptureCompleteFx_otherOwner rfl rfl (by decide) silentSweeps)
  have hsame := Host.Outcome.next.inj
    (hstays.symm.trans (hcomplete capturingInOther silentSweeps captureOrg 100000 10000 0 { owner := .app } rfl rfl (by decide) rfl))
  obtain ⟨hsys, hended⟩ := (loopBack_keepsCapture (silentSweeps.take 5) capturingInOther.engine.captureAt 3
    (onEngine (fun e => { e with capture := none, st := 0, intervalAt := some capturingInOther.sys.devTime }) capturingInOther)).trans
      (stageCapture_keepsCapture captureOrg { owner := .app } 100000 10000 0 (silentSweeps.drop 5) _)
  have hengine := congrArg State.engine hsame
  rw [settled_engine_of_run rfl rfl, settled_engine_of_run (congrArg Sys.mode hsys) (congrArg Sys.holdCauses hsys)] at hengine
  exact absurd ((congrArg Engine.capture hengine).trans hended) (by decide)

end Sys2Proof.Machine

/-! Proofs of the statements of spec/09_zone_programmes.md: when a programme step runs, what each step does in a zone that is not
IDLE, and the zone commands. -/

namespace Sys2Proof.Machine

/-! ### Programme steps that fall due (spec/09_zone_programmes.md R322) -/

/-- No programme step acts in a zone that is IDLE or absent. -/
theorem zoneStepRun_of_not_stepping {s : State} {z : Nat} (h : stepping s z = false) (late : Bool) (k : ZoneStep) :
    zoneStepRun z late k s = s := by
  cases k with
  | permissiveClear => simp [zoneStepRun, permissiveClear, h]
  | deckleConfirmed i => simp [zoneStepRun, deckleConfirmed, h]
  | deckleCleared i => simp [zoneStepRun, deckleCleared, h]
  | feltStop => simp [zoneStepRun, feltStopReaction, h]
  | targetTimeout => simp [zoneStepRun, targetTimeout, h]
  | heatPhase => simp [zoneStepRun, heatPhaseTimeout, h]
  | plenumLoop => simp [zoneStepRun, plenumLoopStep, h]
  | plenumInvalid => simp [zoneStepRun, plenumInvalidTimeout, h]
  | exposure => simp [zoneStepRun, exposureStep, h]
  | batchPhase => simp [zoneStepRun, batchPhaseTimeout, h]
  | silo => simp [zoneStepRun, siloEvaluation, h]
  | weighEmpty => simp [zoneStepRun, weighEmptyDetect, h]
  | weighPhase => simp [zoneStepRun, weighPhaseTimeout, h]

theorem zoneDue_of_not_stepping {s : State} {z : Nat} (h : stepping s z = false) (k : ZoneStep) : zoneDue z k s = s := by
  simp [zoneDue, h, zoneStepRun_of_not_stepping h]

/-- During supervisor re-execution a step waits, in order. -/
theorem zoneDue_waits {s : State} {z : Nat} (hre : s.absorb.reexecuting = true) (hstep : stepping s z = true) (k : ZoneStep) :
    zoneDue z k s = onAbsorb (fun a => { a with late := a.late ++ [.step z k] }) s := by
  simp [zoneDue, hre, hstep]

/-- Otherwise it runs, and its row completes with what the step does. -/
theorem next_zoneDue_runs {s e : State} {z : Nat} {k : ZoneStep} (hre : s.absorb.reexecuting = false)
    (h : zoneStepRun z false k s = e) :
    (.next (settled s (zoneDue z k s)) : Host.Outcome State Fault Refusal) = .next (settled s e) := by
  simp [zoneDue, hre, h]

/-! ### Steps whose condition does not stand -/

section
variable {s : State} {z i : Nat}

theorem permissiveClear_idle (h : stepping s z = false ∨ permOpen s z ≠ []) : permissiveClear z s = s := by
  rcases h with h | h <;> simp [permissiveClear, h]

theorem deckleConfirmed_idle
    (h : deckleCount s z ≤ i ∨ (zone s z).deckle.getLsbD i = true ∨ deckleViolated s z i = false) :
    deckleConfirmed z i s = s := by
  rcases h with h | h | h <;> simp [deckleConfirmed, h]

theorem deckleCleared_idle (h : (zone s z).deckle.getLsbD i = false ∨ deckleInside s z i = false) :
    deckleCleared z i s = s := by
  rcases h with h | h <;> simp [deckleCleared, h]

theorem feltStopReaction_idle
    (h : (zone s z).st ≠ 2 ∨ stopMs s z = 0 ∨ (felt s (zoneFelt s z)).state.getLsbD 1 = false) :
    feltStopReaction z s = s := by
  rcases h with h | h | h
  · simp [feltStopReaction, h]
  · simp [feltStopReaction, h]
  · simp only [feltStopReaction, h, Bool.not_false, Bool.or_true, if_true]

theorem targetTimeout_idle (h : (zone s z).st ≠ 2 ∨ zoneProg s z ≠ 1 ∨ g4 (zp s z) 28 = 0) : targetTimeout z s = s := by
  rcases h with h | h | h <;> simp [targetTimeout, h]

/-- Phases without a time of their own, fans that are all proven, and a flame that is there. -/
theorem heatPhaseTimeout_idle
    (h : hasHeat s z = false ∨ (zone s z).phase = 0 ∨ (zone s z).phase = 4 ∨ (zone s z).phase = 7 ∨ 8 < (zone s z).phase ∨
      ((zone s z).phase = 1 ∧ ∀ p ∈ zProofs s z, inputOn s p.2 = true) ∨
      ((zone s z).phase = 2 ∧ inputOn s (zFlame s z) = true)) :
    heatPhaseTimeout z s = s := by
  rcases h with h | h | h | h | h | ⟨hphase, hproofs⟩ | ⟨hphase, hflame⟩
  · simp [heatPhaseTimeout, h]
  · simp [heatPhaseTimeout, h]
  · simp [heatPhaseTimeout, h]
  · simp [heatPhaseTimeout, h]
  · obtain ⟨n, hphase⟩ := Nat.exists_eq_add_of_lt h
    simp [heatPhaseTimeout, hphase, Nat.add_comm 8 n]
  · have hnone : (zProofs s z).find? (fun p => !inputOn s p.2) = none := by simpa using hproofs
    simp [heatPhaseTimeout, hphase, hnone]
  · simp [heatPhaseTimeout, hphase, hflame]

theorem plenumLoopStep_idle {late : Bool} (h : hasHeat s z = false ∨ (zone s z).st ≠ 2 ∨ (zone s z).phase ≠ 4) :
    plenumLoopStep z late s = s := by
  rcases h with h | h | h <;> simp [plenumLoopStep, h]

theorem plenumInvalidTimeout_idle (h : (hasHeat s z = false ∨ (zone s z).st ≠ 2 ∨ (zone s z).phase ≠ 4) ∨
      plenumVal s z ≠ none ∨ zoneProg s z = 1 ∨ (zone s z).heat.plenumHeld = true) :
    plenumInvalidTimeout z s = s := by
  rcases h with (h | h | h) | h | h | h <;> simp [plenumInvalidTimeout, h, Option.isSome_iff_ne_none]

theorem exposureStep_idle {late : Bool} (h : zoneType s z ≠ 1) : exposureStep z late s = s := by
  simp [exposureStep, h]

/-- Only the four phases that `batchPhaseTimeout` names have a time. -/
theorem batchPhaseTimeout_idle (h : zoneType s z ≠ 2 ∨ (zone s z).st ≠ 2 ∨
      ((zone s z).phase ≠ 4 ∧ (zone s z).phase ≠ 7 ∧ (zone s z).phase ≠ 8 ∧ (zone s z).phase ≠ 9)) :
    batchPhaseTimeout z s = s := by
  rcases h with h | h | ⟨h4, h7, h8, h9⟩
  · simp [batchPhaseTimeout, h]
  · simp [batchPhaseTimeout, h]
  · simp [batchPhaseTimeout]

theorem siloEvaluation_idle (h : zoneType s z ≠ 3 ∨ (zone s z).st ≠ 2) : siloEvaluation z s = s := by
  rcases h with h | h <;> simp [siloEvaluation, h]

theorem weighEmptyDetect_idle (h : zoneType s z ≠ 5 ∨ (zone s z).st ≠ 2 ∨ (zone s z).phase ≠ 3 ∨
      (zone s z).weigh.disOn = false ∨ (∀ g ∈ weighGross s z, i4 (zb s z) 16 < g)) :
    weighEmptyDetect z s = s := by
  rcases h with h | h | h | h | h
  · simp [weighEmptyDetect, h]
  · simp [weighEmptyDetect, h]
  · simp [weighEmptyDetect, h]
  · simp [weighEmptyDetect, h]
  · cases hg : weighGross s z with
    | none => simp [weighEmptyDetect, hg]
    | some g => simp [weighEmptyDetect, hg, h g hg]

theorem weighPhaseTimeout_idle (h : zoneType s z ≠ 5 ∨
      ((zone s z).st ≠ 1 ∧ ¬ ((zone s z).st = 2 ∧ ((zone s z).phase = 1 ∨ (zone s z).phase = 3)))) :
    weighPhaseTimeout z s = s := by
  rcases h with h | ⟨h1, h2⟩
  · simp [weighPhaseTimeout, h]
  · simp [weighPhaseTimeout, h1, h2]

end

/-! ### Steps that act (spec/09_zone_programmes.md R323–R325, R331, R332, R335, R337, R344, R345) -/

/-- Entry `i` of the deckle is marked violated, and recorded with its action (R324). -/
def deckleMarked (z i : Nat) (s : State) : State :=
  note 0x0330 [z, i, valueOf s (g2 (deckleEntry s z i) 0), g1 (deckleEntry s z i) 2]
    (modZone z (fun q =>
      { q with deckle := q.deckle ||| BitVec.ofNat 16 (2 ^ i), deckleAt := tset q.deckleAt i s.sys.devTime }) s)

/-- Entry `i` of the deckle is inside again, and recorded with the time it was outside (R324). -/
def deckleUnmarked (z i : Nat) (s : State) : State :=
  note 0x0331 [z, i, nsMs (s.sys.devTime - tget (zone s z).deckleAt i)]
    (modZone z (fun q => { q with deckle := q.deckle &&& ~~~(BitVec.ofNat 16 (2 ^ i)), deckleAt := tdel q.deckleAt i }) s)

/-- Some entry that is marked violated holds the zone. -/
abbrev deckleHolds (z : Nat) (s : State) : Bool :=
  (List.range 16).any (fun j => (zone s z).deckle.getLsbD j && g1 (deckleEntry s z j) 2 == 1)

/-- What a step of the plenum loop over `ns` does besides moving the valve, which took `s` to `u`: the time of high fire counts,
and a COLUMN trims its rate. -/
def plenumStepped (z ns : Nat) (s u : State) : State :=
  let v := modZone z (fun q =>
    { q with
      loopLast := some (s.sys.devTime, false),
      batch :=
        if (highFire s z : Int) ≤ q.heat.u then { q.batch with highFireMs := q.batch.highFireMs + ns / 1000000 } else q.batch }) u
  if zoneType s z = 1 then columnTrim z ns v else v

/-- Of the values a sensor has had, those of the last 24 h and the newest before (R339). -/
def keptPast (now : Nat) (l : List (Nat × Int)) : List (Nat × Int) :=
  l.filter (fun p => now < p.1 + 86400000000000) ++ (l.filter (fun p => !(now < p.1 + 86400000000000))).take 1

/-- The hottest sensor, its cable and its value. -/
def hottestSensor (vs : List (Nat × Nat × Int)) : Nat × Nat × Int :=
  vs.foldl (fun a x => if x.2.2 > a.2.2 then x else a) (vs.headD (0, 0, invalidValue))

/-- The hot ones of a SILO's sensors (R339). -/
def hotSensors (s : State) (z : Nat) (vs : List (Nat × Nat × Int)) : List (Nat × Nat × Int) :=
  vs.filter (fun x => hotCause s z vs x != 0)

/-- The hot ones not yet recorded since the zone started. -/
def newlyHot (s : State) (z : Nat) (vs : List (Nat × Nat × Int)) : List (Nat × Nat × Int) :=
  (hotSensors s z vs).filter (fun x => !(zone s z).silo.hotSeen.contains x.1)

/-- A SILO whose valid sensors read `vs`, with this mean: the newly hot ones are recorded, and the aeration follows (R339). -/
def siloJudged (z : Nat) (vs : List (Nat × Nat × Int)) (mean : Rat) (s : State) : State :=
  siloAerate z (some mean) (modZone z (fun q =>
    { q with
      silo := { q.silo with
        hot := (hotSensors s z vs).map (·.1), hotSeen := q.silo.hotSeen ++ (newlyHot s z vs).map (·.1),
        past := vs.foldl (fun t x => tmod t x.1 (fun l => keptPast s.sys.devTime ((s.sys.devTime, x.2.2) :: l))) q.silo.past,
        mean := roundRat mean, hottest := (hottestSensor vs).2.2, hottestIdx := (hottestSensor vs).1 } })
    (siloCount z ((newlyHot s z vs).foldl (fun t x => note 0x0350 [z, x.1, hotCause s z vs x, x.2.2] t) s)))

section
variable {s : State} {z i : Nat} (hstep : stepping s z = true)
include hstep

theorem permissiveClear_acts (hopen : permOpen s z = []) : permissiveClear z s = zonesEval (clearCause z 2 s) := by
  simp [permissiveClear, hstep, hopen]

section
variable (hi : i < deckleCount s z) (hclear : (zone s z).deckle.getLsbD i = false) (hviolated : deckleViolated s z i = true)
include hi hclear hviolated

theorem deckleConfirmed_holds (haction : g1 (deckleEntry s z i) 2 = 1) :
    deckleConfirmed z i s = raiseCause z 3 (g2 (deckleEntry s z i) 0) (deckleMarked z i s) := by
  simp [deckleConfirmed, deckleMarked, hstep, Nat.not_le.mpr hi, hclear, hviolated, haction]

theorem deckleConfirmed_stops (haction : g1 (deckleEntry s z i) 2 = 2) :
    deckleConfirmed z i s = zonesEval (stopOrderly z (deckleMarked z i s)) := by
  simp [deckleConfirmed, deckleMarked, hstep, Nat.not_le.mpr hi, hclear, hviolated, haction]

theorem deckleConfirmed_reports (hhold : g1 (deckleEntry s z i) 2 ≠ 1) (hstop : g1 (deckleEntry s z i) 2 ≠ 2) :
    deckleConfirmed z i s = deckleMarked z i s := by
  simp [deckleConfirmed, deckleMarked, hstep, Nat.not_le.mpr hi, hclear, hviolated]

end

/-- The cause clears with the last entry that holds the zone. -/
theorem deckleCleared_acts (hmarked : (zone s z).deckle.getLsbD i = true) (hinside : deckleInside s z i = true) :
    deckleCleared z i s =
      if deckleHolds z (deckleUnmarked z i s) then deckleUnmarked z i s else zonesEval (clearCause z 3 (deckleUnmarked z i s)) := by
  have hon : (!stepping s z || !(zone s z).deckle.getLsbD i || !deckleInside s z i) ≠ true := by
    rw [hstep, hmarked, hinside]
    decide
  exact if_neg hon

theorem feltStopReaction_acts (hst : (zone s z).st = 2) (hms : stopMs s z ≠ 0)
    (hstopped : (felt s (zoneFelt s z)).state.getLsbD 1 = true) :
    feltStopReaction z s =
      if stopAction s z = 1 then raiseCause z 8 0xFFFF (note 0x0340 [z, stopAction s z] s)
      else if stopAction s z = 2 then zonesEval (stopOrderly z (note 0x0340 [z, stopAction s z] s))
      else note 0x0340 [z, stopAction s z] s := by
  have hon : (!stepping s z || (zone s z).st != 2 || decide (stopMs s z = 0) ||
      !(felt s (zoneFelt s z)).state.getLsbD 1) ≠ true := by
    rw [hstep, hst, hstopped, decide_eq_false hms]
    decide
  refine (if_neg hon).trans ?_
  by_cases hhold : stopAction s z = 1
  · simp only [hhold, if_true]
  · by_cases hstop : stopAction s z = 2
    · simp only [hstop, if_true]
      rfl
    · simp only [if_neg hhold, if_neg hstop]

theorem targetTimeout_acts (hst : (zone s z).st = 2) (hprog : zoneProg s z = 1) (htime : g4 (zp s z) 28 ≠ 0) :
    targetTimeout z s = raiseCause z 7 0xFFFF s := by
  simp [targetTimeout, hstep, hst, hprog, htime]

/-! A zone with a heat block. -/

section
variable (hheat : hasHeat s z = true)
include hheat

theorem heatPhaseTimeout_unproven {n m : Nat} (hphase : (zone s z).phase = 1)
    (hfan : (zProofs s z).find? (fun p => !inputOn s p.2) = some (n, m)) :
    heatPhaseTimeout z s = raiseCause z 5 n (note 0x0321 [z, n] s) := by
  simp [heatPhaseTimeout, hstep, hheat, hphase, hfan]

theorem heatPhaseTimeout_noFlame (hphase : (zone s z).phase = 2) (hflame : inputOn s (zFlame s z) = false) :
    heatPhaseTimeout z s = raiseCause z 4 (zFlame s z) (note 0x0322 [z, 2] (burnerTo z false s)) := by
  simp [heatPhaseTimeout, hstep, hheat, hphase, hflame]

theorem heatPhaseTimeout_warmed (hphase : (zone s z).phase = 3) :
    heatPhaseTimeout z s =
      zonesEval (if zoneType s z = 2 ∧ (zone s z).st = 1 then batchRun z s else enterPhase z 2 4 s) := by
  simp [heatPhaseTimeout, hstep, hheat, hphase]

theorem heatPhaseTimeout_extinguished (hphase : (zone s z).phase = 5) :
    heatPhaseTimeout z s = zonesEval (enterPhase z (zone s z).st (if zoneType s z = 2 then 8 else 6) s) := by
  simp [heatPhaseTimeout, hstep, hheat, hphase]

theorem heatPhaseTimeout_cooledDown (hphase : (zone s z).phase = 6) : heatPhaseTimeout z s = zonesEval (goIdle z 0 s) := by
  simp [heatPhaseTimeout, hstep, hheat, hphase]

theorem heatPhaseTimeout_batchCooled (hphase : (zone s z).phase = 8) :
    heatPhaseTimeout z s = zonesEval (if (zone s z).st = 3 then goIdle z 0 s else enterPhase z (zone s z).st 9 s) := by
  simp [heatPhaseTimeout, hstep, hheat, hphase]

section
variable (hst : (zone s z).st = 2) (hphase : (zone s z).phase = 4)
include hst hphase

section
variable {ns : Nat} (hns : ns = lawNs 100000000 s.sys.devTime false (zone s z).loopLast)
include hns

theorem plenumLoopStep_byTarget {ua : Int} (htarget : target s z 2 = some ua) :
    plenumLoopStep z false s = plenumStepped z ns s (valveTo z ua s) := by
  simp [plenumLoopStep, plenumStepped, hstep, hheat, hst, hphase, hns, htarget]

variable (htarget : target s z 2 = none)
include htarget

theorem plenumLoopStep_byLaw {tp : Int} (hvalue : plenumVal s z = some tp) (hprog : zoneProg s z ≠ 1) :
    plenumLoopStep z false s = plenumStepped z ns s (plenumLaw z tp ns s) := by
  simp [plenumLoopStep, plenumStepped, hstep, hheat, hst, hphase, hns, htarget, hvalue, hprog]

/-- Without a law the valve stays, or is at low fire once the plenum has been invalid for 10 s. -/
theorem plenumLoopStep_withoutLaw (hnone : plenumVal s z = none ∨ zoneProg s z = 1) :
    plenumLoopStep z false s =
      plenumStepped z ns s
        (if plenumVal s z = none ∧ (zone s z).heat.plenumHeld = true then valveTo z (lowFire s z : Int) s else s) := by
  cases hvalue : plenumVal s z with
  | none => simp [plenumLoopStep, plenumStepped, hstep, hheat, hst, hphase, hns, htarget, hvalue]
  | some tp =>
    have hprog : zoneProg s z = 1 := hnone.resolve_left (by simp [hvalue])
    simp [plenumLoopStep, plenumStepped, hstep, hheat, hst, hphase, hns, htarget, hvalue, hprog]

end

theorem plenumInvalidTimeout_acts (hvalue : plenumVal s z = none) (hprog : zoneProg s z ≠ 1)
    (hheld : (zone s z).heat.plenumHeld = false) :
    plenumInvalidTimeout z s =
      note 0x0323 [z, plenumStn s z]
        (valveTo z (lowFire s z : Int) (modZone z (fun q => { q with heat := { q.heat with plenumHeld := true } }) s)) := by
  simp [plenumInvalidTimeout, hstep, hheat, hst, hphase, hvalue, hprog, hheld]

end

end

/-! COLUMN, BATCH, SILO and WEIGH. -/

/-- The parcels that are not yet past the heated end gain the exposure of `ns` at plenum value `tp` (R335). -/
theorem exposureStep_acts {ns : Nat} {tp : Int} (htype : zoneType s z = 1) (hvalue : plenumVal s z = some tp)
    (hns : ns = lawNs 1000000000 s.sys.devTime false (zone s z).expLast) :
    exposureStep z false s =
      modParcels z (fun p =>
        if 0 < posDist (zonePos s z) (p.start + g4 (zb s z) 80)
        then { p with exposure := p.exposure + max 0 (((tp - i4 (zb s z) 100 : Int) : Rat) / 1000) * ((ns : Rat) / 3600000000000) }
        else p)
        (modZone z (fun q => { q with expLast := some (s.sys.devTime, false) }) s) := by
  simp [exposureStep, hstep, htype, hvalue, hns]

theorem exposureStep_noValue (htype : zoneType s z = 1) (hvalue : plenumVal s z = none) :
    exposureStep z false s = modZone z (fun q => { q with expLast := some (s.sys.devTime, false) }) s := by
  simp [exposureStep, hstep, htype, hvalue]

section
variable (htype : zoneType s z = 2) (hst : (zone s z).st = 2)
include htype hst

theorem batchPhaseTimeout_fill (hphase : (zone s z).phase = 7) :
    batchPhaseTimeout z s = raiseCause z 6 (g2 (zb s z) 66) s := by
  simp [batchPhaseTimeout, hstep, htype, hst, hphase]

theorem batchPhaseTimeout_dry (hphase : (zone s z).phase = 4) :
    batchPhaseTimeout z s = zonesEval (enterPhase z 2 5 (note 0x0332 [z, valueOf s (g2 (zb s z) 72)] s)) := by
  simp [batchPhaseTimeout, hstep, htype, hst, hphase]

theorem batchPhaseTimeout_cool (hphase : (zone s z).phase = 8) :
    batchPhaseTimeout z s = zonesEval (enterPhase z 2 9 s) := by
  simp [batchPhaseTimeout, hstep, htype, hst, hphase]

theorem batchPhaseTimeout_discharge (hphase : (zone s z).phase = 9) :
    batchPhaseTimeout z s = raiseCause z 6 (g2 (zb s z) 70) s := by
  simp [batchPhaseTimeout, hstep, htype, hst, hphase]

end

section
variable (htype : zoneType s z = 3) (hst : (zone s z).st = 2)
include htype hst

theorem siloEvaluation_acts {mean : Rat} (hvalid : siloValid s z ≠ [])
    (hmean : mean = (((siloValid s z).map (fun x => x.2.2)).sum : Int) / ((siloValid s z).length : Nat)) :
    siloEvaluation z s = siloJudged z (siloValid s z) mean s := by
  have hon : (!stepping s z || zoneType s z != 3 || (zone s z).st != 2) ≠ true := by
    rw [hstep, htype, hst]
    decide
  have hnonempty : (siloValid s z).isEmpty = false := by simpa using hvalid
  refine (if_neg hon).trans ?_
  simp only [hnonempty, Bool.false_eq_true, if_false, ← hmean]
  rfl

theorem siloEvaluation_noValues (hvalid : siloValid s z = []) :
    siloEvaluation z s =
      siloAerate z none (modZone z (fun q =>
        { q with silo := { q.silo with hot := [], mean := invalidValue, hottest := invalidValue, hottestIdx := 0 } })
        (siloCount z s)) := by
  simp [siloEvaluation, hstep, htype, hst, hvalid]

end

section
variable (htype : zoneType s z = 5)
include htype

theorem weighEmptyDetect_acts {g : Int} (hst : (zone s z).st = 2) (hphase : (zone s z).phase = 3)
    (hopen : (zone s z).weigh.disOn = true) (hgross : weighGross s z = some g) (hempty : g ≤ i4 (zb s z) 16) :
    weighEmptyDetect z s =
      zonesEval (modZone z (fun q =>
        { q with weigh := { q.weigh with disOn := false, proving := some s.sys.devTime } }) (driveAny (g2 (zb s z) 4) 0 s)) := by
  simp [weighEmptyDetect, hstep, htype, hst, hphase, hopen, hgross, hempty]

theorem weighPhaseTimeout_acts
    (hphase : (zone s z).st = 1 ∨ (zone s z).st = 2 ∧ ((zone s z).phase = 1 ∨ (zone s z).phase = 3)) :
    weighPhaseTimeout z s = raiseCause z 6 0xFFFF s := by
  simp [weighPhaseTimeout, hstep, htype, hphase]

end

end

/-- Settles O50: a step waits, runs or does nothing as `zoneDue` says, and what runs is the step's own lemma. -/
theorem zoneProgrammesStep : Obligations.ZoneProgrammesStep := by
  unfold Obligations.ZoneProgrammesStep
  refine ⟨?waits, ?notStepping, ?permissive, ?permissiveIdle, ?deckleHold, ?deckleOther, ?deckleIdle, ?insideLast, ?insideMore,
    ?insideIdle, ?felt, ?feltIdle, ?target, ?targetIdle, ?noFlame, ?unproven, ?heatIdle, ?warmed, ?extinguished, ?cooledDown,
    ?batchCooled, ?byLaw, ?byTarget, ?withoutLaw, ?notFiring, ?invalidIdle, ?invalid, ?exposure, ?exposureNone, ?exposureIdle,
    ?fill, ?dry, ?cool, ?discharge, ?batchIdle, ?silo, ?siloNone, ?siloIdle, ?empty, ?emptyIdle, ?weighTime, ?weighIdle⟩
  case waits =>
    intro s z i hre hstep
    have hwaits := fun k => next_settled_congr (s := s) (zoneDue_waits hre hstep k)
    exact ⟨hwaits _, hwaits _, hwaits _, hwaits _, hwaits _, hwaits _, hwaits _, hwaits _, hwaits _, hwaits _, hwaits _, hwaits _,
      hwaits _⟩
  case notStepping =>
    intro s z i hstep
    have hnothing := fun k => next_settled_congr (s := s) (zoneDue_of_not_stepping hstep k)
    exact ⟨hnothing _, hnothing _, hnothing _, hnothing _, hnothing _, hnothing _, hnothing _, hnothing _, hnothing _, hnothing _,
      hnothing _, hnothing _, hnothing _⟩
  case permissive => exact fun s z hre hstep hopen => next_zoneDue_runs hre (permissiveClear_acts hstep hopen)
  case permissiveIdle => exact fun s z hre h => next_zoneDue_runs hre (permissiveClear_idle h)
  case deckleHold =>
    rintro s z i e hre hstep hi hclear rfl hviolated haction
    refine next_zoneDue_runs hre ((deckleConfirmed_holds hstep hi hclear hviolated haction).trans ?_)
    rw [deckleMarked, haction]
    rfl
  case deckleOther =>
    rintro s u z i e hre hstep hi hclear rfl hviolated haction rfl
    refine next_zoneDue_runs hre ?_
    split
    · next hstop => exact deckleConfirmed_stops hstep hi hclear hviolated hstop
    · next hreport => exact deckleConfirmed_reports hstep hi hclear hviolated haction hreport
  case deckleIdle => exact fun s z i hre h => next_zoneDue_runs hre (deckleConfirmed_idle h)
  case insideLast =>
    rintro s u z i hre hstep hmarked hinside rfl hlast
    exact next_zoneDue_runs hre ((deckleCleared_acts hstep hmarked hinside).trans (if_neg (ne_true_of_eq_false hlast)))
  case insideMore =>
    rintro s u z i hre hstep hmarked hinside rfl hmore
    exact next_zoneDue_runs hre ((deckleCleared_acts hstep hmarked hinside).trans (if_pos hmore))
  case insideIdle => exact fun s z i hre h => next_zoneDue_runs hre (deckleCleared_idle h)
  case felt => exact fun s z hre hstep hst hms hstopped => next_zoneDue_runs hre (feltStopReaction_acts hstep hst hms hstopped)
  case feltIdle => exact fun s z hre h => next_zoneDue_runs hre (feltStopReaction_idle h)
  case target => exact fun s z hre hstep hst hprog htime => next_zoneDue_runs hre (targetTimeout_acts hstep hst hprog htime)
  case targetIdle => exact fun s z hre h => next_zoneDue_runs hre (targetTimeout_idle h)
  case noFlame =>
    exact fun s z hre hstep hheat hphase hflame => next_zoneDue_runs hre (heatPhaseTimeout_noFlame hstep hheat hphase hflame)
  case unproven =>
    exact fun s z n m hre hstep hheat hphase hfan => next_zoneDue_runs hre (heatPhaseTimeout_unproven hstep hheat hphase hfan)
  case heatIdle => exact fun s z hre h => next_zoneDue_runs hre (heatPhaseTimeout_idle h)
  case warmed => exact fun s z hre hstep hheat hphase => next_zoneDue_runs hre (heatPhaseTimeout_warmed hstep hheat hphase)
  case extinguished =>
    exact fun s z hre hstep hheat hphase => next_zoneDue_runs hre (heatPhaseTimeout_extinguished hstep hheat hphase)
  case cooledDown => exact fun s z hre hstep hheat hphase => next_zoneDue_runs hre (heatPhaseTimeout_cooledDown hstep hheat hphase)
  case batchCooled =>
    exact fun s z hre hstep hheat hphase => next_zoneDue_runs hre (heatPhaseTimeout_batchCooled hstep hheat hphase)
  case byLaw =>
    rintro s u z ns tp hre hstep hheat hst hphase hns htarget hvalue hprog rfl
    exact next_zoneDue_runs hre (plenumLoopStep_byLaw hstep hheat hst hphase hns htarget hvalue hprog)
  case byTarget =>
    exact fun s z ns ua hre hstep hheat hst hphase hns htarget =>
      next_zoneDue_runs hre (plenumLoopStep_byTarget hstep hheat hst hphase hns htarget)
  case withoutLaw =>
    exact fun s z ns hre hstep hheat hst hphase hns htarget hnone =>
      next_zoneDue_runs hre (plenumLoopStep_withoutLaw hstep hheat hst hphase hns htarget hnone)
  case notFiring =>
    exact fun s z hre h =>
      ⟨next_zoneDue_runs hre (plenumLoopStep_idle h), next_zoneDue_runs hre (plenumInvalidTimeout_idle (.inl h))⟩
  case invalidIdle => exact fun s z hre h => next_zoneDue_runs hre (plenumInvalidTimeout_idle (.inr h))
  case invalid =>
    exact fun s z hre hstep hheat hst hphase hvalue hprog hheld =>
      next_zoneDue_runs hre (plenumInvalidTimeout_acts hstep hheat hst hphase hvalue hprog hheld)
  case exposure =>
    exact fun s z ns tp hre hstep htype hvalue hns => next_zoneDue_runs hre (exposureStep_acts hstep htype hvalue hns)
  case exposureNone => exact fun s z hre hstep htype hvalue => next_zoneDue_runs hre (exposureStep_noValue hstep htype hvalue)
  case exposureIdle => exact fun s z hre h => next_zoneDue_runs hre (exposureStep_idle h)
  case fill => exact fun s z hre hstep htype hst hphase => next_zoneDue_runs hre (batchPhaseTimeout_fill hstep htype hst hphase)
  case dry => exact fun s z hre hstep htype hst hphase => next_zoneDue_runs hre (batchPhaseTimeout_dry hstep htype hst hphase)
  case cool => exact fun s z hre hstep htype hst hphase => next_zoneDue_runs hre (batchPhaseTimeout_cool hstep htype hst hphase)
  case discharge =>
    exact fun s z hre hstep htype hst hphase => next_zoneDue_runs hre (batchPhaseTimeout_discharge hstep htype hst hphase)
  case batchIdle => exact fun s z hre h => next_zoneDue_runs hre (batchPhaseTimeout_idle h)
  case silo =>
    rintro s z vs hots mean hre hstep htype hst rfl hvalid rfl hmean
    exact next_zoneDue_runs hre (siloEvaluation_acts hstep htype hst hvalid hmean)
  case siloNone =>
    exact fun s z hre hstep htype hst hvalid => next_zoneDue_runs hre (siloEvaluation_noValues hstep htype hst hvalid)
  case siloIdle => exact fun s z hre h => next_zoneDue_runs hre (siloEvaluation_idle h)
  case empty =>
    exact fun s z g hre hstep htype hst hphase hopen hgross hempty =>
      next_zoneDue_runs hre (weighEmptyDetect_acts hstep htype hst hphase hopen hgross hempty)
  case emptyIdle => exact fun s z hre h => next_zoneDue_runs hre (weighEmptyDetect_idle h)
  case weighTime => exact fun s z hre hstep htype hphase => next_zoneDue_runs hre (weighPhaseTimeout_acts hstep htype hphase)
  case weighIdle => exact fun s z hre h => next_zoneDue_runs hre (weighPhaseTimeout_idle h)

/-! ### ZONE_START, ZONE_STOP and ZONE_STATUS (spec/09_zone_programmes.md R319, R347, R348) -/

/-- What ZONE_START does before the zone starts: no stop is asked, and autostart may act again. -/
def startAsked (z : Nat) (s : State) : State :=
  modZone z (fun q => { q with stopAsked := false })
    (onPower (fun p => { p with noAutostart := p.noAutostart.filter (· != z) }) s)

section
variable {o : Org} {b : List Byte} {s : State}

theorem zoneStartH_badObject (h : 15 < g1 b 0 ∨ zeroAt b 1 3 = false) : zoneStartH o b s = .done sBADOBJ [] s := by
  rcases h with h | h <;> simp [zoneStartH, h]

theorem zoneStatusH_badObject (h : 15 < g1 b 0 ∨ zeroAt b 1 3 = false) : zoneStatusH o b s = .done sBADOBJ [] s := by
  rcases h with h | h <;> simp [zoneStatusH, h]

theorem zoneStopH_badObject (h : 15 < g1 b 0 ∨ 1 < g1 b 1 ∨ zeroAt b 2 2 = false) : zoneStopH o b s = .done sBADOBJ [] s := by
  rcases h with h | h | h <;> simp [zoneStopH, h]

section
variable (hz : g1 b 0 ≤ 15) (hzero : zeroAt b 1 3 = true)
include hz hzero

theorem zoneStartH_absent (habsent : zonePresent s (g1 b 0) = false) : zoneStartH o b s = .done sNOTFOUND [] s := by
  simp [zoneStartH, Nat.not_lt.mpr hz, hzero, habsent]

theorem zoneStatusH_absent (habsent : zonePresent s (g1 b 0) = false) : zoneStatusH o b s = .done sNOTFOUND [] s := by
  simp [zoneStatusH, Nat.not_lt.mpr hz, hzero, habsent]

variable (hpresent : zonePresent s (g1 b 0) = true)
include hpresent

theorem zoneStatusH_answers :
    zoneStatusH o b s =
      .done sOK
        (p1 (zone s (g1 b 0)).st ++ p1 (zone s (g1 b 0)).phase ++ p2 (zone s (g1 b 0)).causes.toNat ++
          p1 (zoneType s (g1 b 0)) ++ p1 (zoneFelt s (g1 b 0)) ++ p2 (zone s (g1 b 0)).deckle.toNat ++
          p4 (parcels s (g1 b 0)).length ++ p4 (zone s (g1 b 0)).lastParcel ++
          (zoneValues s (g1 b 0)).flatMap (fun v => q4 (sField 4 v)) ++ q8 (zone s (g1 b 0)).since) s := by
  simp only [zoneStatusH, decide_eq_false (Nat.not_lt.mpr hz), hzero, hpresent, gt_iff_lt, Bool.not_true, Bool.or_false,
    Bool.false_eq_true, if_false]

theorem zoneStartH_wrongMode (h : permOpen s (g1 b 0) ≠ [] ∨ ((zone s (g1 b 0)).st ≠ 0 ∧
      ((zone s (g1 b 0)).st ≠ 4 ∨ (zone s (g1 b 0)).causes = 0 ∨ (zone s (g1 b 0)).causes &&& unlatched ≠ 0))) :
    zoneStartH o b s = .done sWRONGMODE [] s := by
  rcases h with hopen | ⟨hst, hheld | hnone | hstands⟩
  · simp [zoneStartH, Nat.not_lt.mpr hz, hzero, hpresent, hopen]
  · simp [zoneStartH, Nat.not_lt.mpr hz, hzero, hpresent, hst, hheld]
  · simp [zoneStartH, Nat.not_lt.mpr hz, hzero, hpresent, hst, hnone]
  · simpa [zoneStartH, Nat.not_lt.mpr hz, hzero, hpresent, hst] using fun _ _ _ => hstands

variable (hopen : permOpen s (g1 b 0) = [])
include hopen

theorem zoneStartH_starts (hst : (zone s (g1 b 0)).st = 0) :
    zoneStartH o b s = .done sOK [] (zonesEval (startZone (g1 b 0) (startAsked (g1 b 0) s))) := by
  simp [zoneStartH, startAsked, Nat.not_lt.mpr hz, hzero, hpresent, hopen, hst]

/-- A zone held by latched causes alone begins its start sequence again. -/
theorem zoneStartH_resumes (hst : (zone s (g1 b 0)).st = 4) (hcauses : (zone s (g1 b 0)).causes ≠ 0)
    (hlatched : (zone s (g1 b 0)).causes &&& unlatched = 0) :
    zoneStartH o b s = .done sOK [] (zonesEval (startSeq (g1 b 0) (startAsked (g1 b 0) s))) := by
  simpa [zoneStartH, startAsked, Nat.not_lt.mpr hz, hzero, hpresent, hopen, hst, hlatched] using hcauses

end

section
variable (hz : g1 b 0 ≤ 15) (hzero : zeroAt b 2 2 = true)
include hz hzero

theorem zoneStopH_absent (how : g1 b 1 ≤ 1) (habsent : zonePresent s (g1 b 0) = false) :
    zoneStopH o b s = .done sNOTFOUND [] s := by
  simp [zoneStopH, Nat.not_lt.mpr hz, Nat.not_lt.mpr how, hzero, habsent]

variable (hpresent : zonePresent s (g1 b 0) = true)
include hpresent

theorem zoneStopH_immediate (how : g1 b 1 = 1) : zoneStopH o b s = .done sOK [] (stopNow (g1 b 0) s) := by
  simp [zoneStopH, Nat.not_lt.mpr hz, hzero, hpresent, how]

theorem zoneStopH_orderly (how : g1 b 1 = 0) : zoneStopH o b s = .done sOK [] (zonesEval (stopOrderly (g1 b 0) s)) := by
  simp [zoneStopH, Nat.not_lt.mpr hz, hzero, hpresent, how]

end

/-! ### ZONE_TARGET (spec/09_zone_programmes.md R345, R347) -/

/-- The target is one of the zone's type: a value of its programme, or an output station of the zone's. -/
abbrev targetFits (s : State) (z code n : Nat) : Prop :=
  targetFor s z code = true ∧ (code ≠ 0 → n = 0xFFFF) ∧
    (code = 0 → n < 128 ∧ stnZone s n = z ∧ (isFieldOut s n = true ∨ isLoopOut s n = true ∨ isProp s n = true))

/-- The side, the programme and the state of the zone let a target in. -/
abbrev targetAllowed (s : State) (d : Side) (z code : Nat) : Prop :=
  zoneProg s z ≠ 0 ∧ d = .app ∧ (zone s z).st ≠ 0 ∧ (code = 0 → (zone s z).st = 2)

theorem not_targetFits {s : State} {z code n : Nat}
    (h : targetFor s z code = false ∨ (code ≠ 0 ∧ n ≠ 0xFFFF) ∨ (code = 0 ∧
      (128 ≤ n ∨ stnZone s n ≠ z ∨ (isFieldOut s n = false ∧ isLoopOut s n = false ∧ isProp s n = false)))) :
    ¬ targetFits s z code n := by
  rintro ⟨hcode, hvalue, houtput⟩
  rcases h with h | ⟨hheld, hn⟩ | ⟨hout, h⟩
  · simp [h] at hcode
  · exact hn (hvalue hheld)
  · obtain ⟨hn, hzone, hkind⟩ := houtput hout
    rcases h with h | h | ⟨hfield, hloop, hprop⟩
    · exact Nat.not_lt.mpr h hn
    · exact h hzone
    · simp [hfield, hloop, hprop] at hkind

theorem not_targetAllowed {s : State} {d : Side} {z code : Nat}
    (h : zoneProg s z = 0 ∨ d ≠ .app ∨ (zone s z).st = 0 ∨ (code = 0 ∧ (zone s z).st ≠ 2)) :
    ¬ targetAllowed s d z code := by
  rintro ⟨hprog, hside, hst, hrunning⟩
  rcases h with h | h | h | ⟨hcode, h⟩
  · exact hprog h
  · exact h hside
  · exact hst h
  · exact h (hrunning hcode)

/-- A zone's target is given: an output station is driven at once for the application, another target is held (R345). -/
def targetGiven (z code n : Nat) (v : Int) (s : State) : State :=
  let held := modZone z (fun q => { q with targets := if code = 0 then q.targets else tset q.targets code v }) s
  if code = 0 then modFld n (fun f => { f with commander := some .app }) (driveAny n v held) else held

theorem targetGiven_output {z code n : Nat} {v : Int} {s : State} (hcode : code = 0) :
    targetGiven z code n v s =
      modFld n (fun f => { f with commander := some .app })
        (driveAny n v (modZone z (fun q => { q with targets := q.targets }) s)) := by
  simp [targetGiven, hcode]

theorem targetGiven_held {z code n : Nat} {v : Int} {s : State} (hcode : code ≠ 0) :
    targetGiven z code n v s = modZone z (fun q => { q with targets := tset q.targets code v }) s := by
  simp [targetGiven, hcode]

/-- The handler's test of the target is `targetFits`. -/
theorem targetFits_bool (s : State) (z code n : Nat) :
    (!targetFor s z code || (code != 0 && n != 0xFFFF) ||
      (decide (code = 0) && !(decide (n < 128) && stnZone s n == z && (isFieldOut s n || isLoopOut s n || isProp s n)))) =
      !decide (targetFits s z code n) := by
  rw [Bool.eq_iff_iff]
  simp [targetFits, or_assoc, and_assoc]

/-- The handler's test of side, programme and state is `targetAllowed`. -/
theorem targetAllowed_bool (s : State) (d : Side) (z code : Nat) :
    (decide (zoneProg s z = 0) || d != .app || decide ((zone s z).st = 0) || (decide (code = 0) && (zone s z).st != 2)) =
      !decide (targetAllowed s d z code) := by
  rw [Bool.eq_iff_iff]
  simp [targetAllowed, or_assoc]

theorem zoneTargetH_outOfRange (hz : 15 < g1 b 0) : zoneTargetH o b s = .done sBADOBJ [] s := if_pos hz

section
variable (hz : g1 b 0 ≤ 15)
include hz

theorem zoneTargetH_absent (habsent : zonePresent s (g1 b 0) = false) : zoneTargetH o b s = .done sNOTFOUND [] s := by
  simp [zoneTargetH, Nat.not_lt.mpr hz, habsent]

variable (hpresent : zonePresent s (g1 b 0) = true)
include hpresent

/-- What a target for a zone that is there comes to. -/
theorem zoneTargetH_eq :
    zoneTargetH o b s =
      if ¬ targetFits s (g1 b 0) (g1 b 1) (g2 b 2) then .done sBADOBJ [] s
      else if ¬ targetAllowed s o.side (g1 b 0) (g1 b 1) then .done sWRONGMODE [] s
      else if targetInRange s (g1 b 0) (g1 b 1) (g2 b 2) (i4 b 4) = false then .done sLIMIT [] s
      else .done sOK [] (zonesEval (targetGiven (g1 b 0) (g1 b 1) (g2 b 2) (i4 b 4) s)) := by
  simp only [zoneTargetH, if_neg (Nat.not_lt.mpr hz), hpresent, targetFits_bool, targetAllowed_bool, gt_iff_lt, Bool.not_true,
    Bool.false_eq_true, if_false, Bool.not_eq_true', decide_eq_false_iff_not]
  rfl

theorem zoneTargetH_unfit (hunfit : ¬ targetFits s (g1 b 0) (g1 b 1) (g2 b 2)) : zoneTargetH o b s = .done sBADOBJ [] s := by
  rw [zoneTargetH_eq hz hpresent, if_pos hunfit]

variable (hfits : targetFits s (g1 b 0) (g1 b 1) (g2 b 2))
include hfits

theorem zoneTargetH_notAllowed (hbarred : ¬ targetAllowed s o.side (g1 b 0) (g1 b 1)) :
    zoneTargetH o b s = .done sWRONGMODE [] s := by
  rw [zoneTargetH_eq hz hpresent, if_neg (not_not_intro hfits), if_pos hbarred]

variable (hallowed : targetAllowed s o.side (g1 b 0) (g1 b 1))
include hallowed

theorem zoneTargetH_limit (hrange : targetInRange s (g1 b 0) (g1 b 1) (g2 b 2) (i4 b 4) = false) :
    zoneTargetH o b s = .done sLIMIT [] s := by
  rw [zoneTargetH_eq hz hpresent, if_neg (not_not_intro hfits), if_neg (not_not_intro hallowed), if_pos hrange]

theorem zoneTargetH_given (hrange : targetInRange s (g1 b 0) (g1 b 1) (g2 b 2) (i4 b 4) = true) :
    zoneTargetH o b s = .done sOK [] (zonesEval (targetGiven (g1 b 0) (g1 b 1) (g2 b 2) (i4 b 4) s)) := by
  rw [zoneTargetH_eq hz hpresent, if_neg (not_not_intro hfits), if_neg (not_not_intro hallowed),
    if_neg (ne_false_of_eq_true hrange)]

end

end

/-- Settles O51: the range, the presence and then the state of the zone decide; each clause is an outcome of its handler. -/
theorem zoneCommandsAct : Obligations.ZoneCommandsAct := by
  unfold Obligations.ZoneCommandsAct
  refine ⟨?start, ?restart, ?startWrong, ?startBad, ?startAbsent, ?stopNow, ?stopOrderly, ?stopBad, ?stopAbsent, ?status,
    ?statusBad, ?statusAbsent, ?held, ?output, ?unfit, ?notAllowed, ?limit, ?targetBad, ?targetAbsent⟩
  case start =>
    rintro s r z ha rfl hz hzero hpresent hopen hst
    exact next_settled_congr (serve_of_done ha (zoneStartH_starts hz hzero hpresent hopen hst))
  case restart =>
    rintro s r z ha rfl hz hzero hpresent hopen hst hcauses hlatched
    exact next_settled_congr (serve_of_done ha (zoneStartH_resumes hz hzero hpresent hopen hst hcauses hlatched))
  case startWrong =>
    exact fun s r ha hz hzero hpresent h => next_settled_congr (serve_of_done ha (zoneStartH_wrongMode hz hzero hpresent h))
  case startBad => exact fun s r ha h => next_settled_congr (serve_of_done ha (zoneStartH_badObject h))
  case startAbsent =>
    exact fun s r ha hz hzero habsent => next_settled_congr (serve_of_done ha (zoneStartH_absent hz hzero habsent))
  case stopNow =>
    exact fun s r ha hz how hzero hpresent =>
      next_settled_congr (serve_of_done ha (zoneStopH_immediate hz hzero hpresent how))
  case stopOrderly =>
    exact fun s r ha hz how hzero hpresent => next_settled_congr (serve_of_done ha (zoneStopH_orderly hz hzero hpresent how))
  case stopBad => exact fun s r ha h => next_settled_congr (serve_of_done ha (zoneStopH_badObject h))
  case stopAbsent =>
    exact fun s r ha hz how hzero habsent => next_settled_congr (serve_of_done ha (zoneStopH_absent hz hzero how habsent))
  case status =>
    rintro s r z q ha rfl hz hzero hpresent rfl
    exact next_settled_congr (serve_of_done ha (zoneStatusH_answers hz hzero hpresent))
  case statusBad => exact fun s r ha h => next_settled_congr (serve_of_done ha (zoneStatusH_badObject h))
  case statusAbsent =>
    exact fun s r ha hz hzero habsent => next_settled_congr (serve_of_done ha (zoneStatusH_absent hz hzero habsent))
  case held =>
    rintro s r z ha rfl hz hpresent hcode htype hn hprog hside hst hrange
    have hnotOutput : ∀ {p : Prop}, g1 r.payload 1 = 0 → p := fun hzero => absurd hzero hcode
    have hfits : targetFits s (g1 r.payload 0) (g1 r.payload 1) (g2 r.payload 2) := ⟨htype, fun _ => hn, hnotOutput⟩
    have hgiven := zoneTargetH_given (o := reqOrg 0x0304 r) (s := begun 0x0304 r s) hz hpresent hfits
      ⟨hprog, hside, hst, hnotOutput⟩ (hn ▸ hrange)
    rw [targetGiven_held hcode] at hgiven
    exact next_settled_congr (serve_of_done ha hgiven)
  case output =>
    rintro s r z n ha rfl hz hpresent hcode htype rfl hn hzone hout hprog hside hst hrange
    have hcodeFits : targetFor s (g1 r.payload 0) (g1 r.payload 1) = true := by simp [hcode, targetFor, htype]
    have hfits : targetFits s (g1 r.payload 0) (g1 r.payload 1) (g2 r.payload 2) :=
      ⟨hcodeFits, fun hvalue => absurd hcode hvalue, fun _ => ⟨hn, hzone, hout⟩⟩
    have hallowed : targetAllowed s r.side (g1 r.payload 0) (g1 r.payload 1) := ⟨hprog, hside, by simp [hst], fun _ => hst⟩
    have hgiven := zoneTargetH_given (o := reqOrg 0x0304 r) (s := begun 0x0304 r s) hz hpresent hfits hallowed
      (hcode ▸ hrange)
    rw [targetGiven_output hcode] at hgiven
    exact next_settled_congr (serve_of_done ha hgiven)
  case unfit =>
    rintro s r z ha rfl hz hpresent h
    exact next_settled_congr (serve_of_done ha (zoneTargetH_unfit hz hpresent (not_targetFits (s := s) h)))
  case notAllowed =>
    rintro s r z ha rfl hz hpresent htype hvalue houtput h
    exact next_settled_congr (serve_of_done ha
      (zoneTargetH_notAllowed hz hpresent ⟨htype, hvalue, houtput⟩ (not_targetAllowed (s := s) h)))
  case limit =>
    rintro s r z ha rfl hz hpresent htype hvalue houtput hprog hside hst hrunning hrange
    exact next_settled_congr (serve_of_done ha
      (zoneTargetH_limit hz hpresent ⟨htype, hvalue, houtput⟩ ⟨hprog, hside, hst, hrunning⟩ hrange))
  case targetBad => exact fun s r ha hz => next_settled_congr (serve_of_done ha (zoneTargetH_outOfRange hz))
  case targetAbsent =>
    exact fun s r ha hz habsent => next_settled_congr (serve_of_done ha (zoneTargetH_absent hz habsent))

end Sys2Proof.Machine

/-! Proofs of the statements of spec/10_valve_drive.md: what the valve commands answer, how the phases of a pulse follow each
other and waiting pulses start, and what the protection of channels and banks and the supervision of coils do. -/

namespace Sys2Proof.Machine

/-! ### A change of one channel, coil or bank -/

section
variable (c : Nat) (s : State)

@[simp] theorem chn_modChan_self (f : Chan → Chan) : chn (modChan c f s) c = f (chn s c) := tget_tmod_self s.valves.chans c f
@[simp] theorem coil_modCoil_self (f : Coil → Coil) : coil (modCoil c f s) c = f (coil s c) := tget_tmod_self s.valves.coils c f
@[simp] theorem bank_modBank_self (f : Bank → Bank) : bank (modBank c f s) c = f (bank s c) := tget_tmod_self s.valves.banks c f

@[simp] theorem chn_modBank (d : Nat) (f : Bank → Bank) : chn (modBank d f s) c = chn s c := rfl
@[simp] theorem coil_modChan (d : Nat) (f : Chan → Chan) : coil (modChan d f s) c = coil s c := rfl
@[simp] theorem coil_modBank (d : Nat) (f : Bank → Bank) : coil (modBank d f s) c = coil s c := rfl
@[simp] theorem bank_modChan (d : Nat) (f : Chan → Chan) : bank (modChan d f s) c = bank s c := rfl

end

/-- What a change makes of the present entry decides it. -/
theorem modChan_congr {c : Nat} {f g : Chan → Chan} {s : State} (h : f (chn s c) = g (chn s c)) :
    modChan c f s = modChan c g s :=
  congrArg (fun k => onValves (fun v => { v with chans := tset s.valves.chans c k }) s) h

theorem modCoil_congr {c : Nat} {f g : Coil → Coil} {s : State} (h : f (coil s c) = g (coil s c)) :
    modCoil c f s = modCoil c g s :=
  congrArg (fun k => onValves (fun v => { v with coils := tset s.valves.coils c k }) s) h

@[simp] theorem note_valves (code : Nat) (fields : List Int) (s : State) : (note code fields s).valves = s.valves := by
  rw [note_touches]

/-! ### What the current and its decay leave alone (spec/10_valve_drive.md R359, R368) -/

/-- What a decay of channel `c` leaves alone: every channel, and the count of the pulses that were cut. -/
abbrev decaysOnly (c : Nat) (s t : State) : Prop := t.valves.chans = s.valves.chans ∧ (coil t c).cut = (coil s c).cut

theorem chargeClamp_decaysOnly (c : Nat) (i0 i1 : Int) (s : State) : decaysOnly c s (chargeClamp c i0 i1 s) := by
  have hcut : (coil (modCoil c (fun k =>
      { k with clampTotal := k.clampTotal + clampEnergy (g4 (vpart s c) 4) i0 i1 s.power.vfieldVd }) s) c).cut =
      (coil s c).cut := by
    rw [coil_modCoil_self]
  unfold chargeClamp decaysOnly coil
  dsimp only
  split
  · rw [note_valves]
    exact ⟨rfl, hcut⟩
  · exact ⟨rfl, hcut⟩

theorem decayTo_decaysOnly (c : Nat) (fast forced : Bool) (i0 i1 : Int) (s : State) :
    decaysOnly c s (decayTo c fast forced i0 i1 s) := by
  unfold decayTo
  split
  · exact chargeClamp_decaysOnly c i0 i1 s
  · exact ⟨rfl, rfl⟩

theorem stepDecay_decaysOnly (c : Nat) (i0 i1 : Int) (s : State) : decaysOnly c s (stepDecay c i0 i1 s) := by
  unfold stepDecay
  split
  · exact ⟨rfl, rfl⟩
  · exact decayTo_decaysOnly ..

theorem chn_of_decaysOnly {c : Nat} {s t : State} (h : decaysOnly c s t) (d : Nat) : chn t d = chn s d :=
  congrArg (fun l => tget l d) h.1

/-- A channel brought up to now: its current summed and its pieces kept (R359, R385). -/
def broughtUp (s : State) (c : Nat) : Chan :=
  { chn s c with
    sum := (chn s c).sum + ((slewPieces s c (chn s c).sumAt s.sys.devTime).map (pieceSum (chn s c).sumAt)).sum,
    sumAt := s.sys.devTime,
    past := (slewPieces s c (chn s c).sumAt s.sys.devTime ++ (chn s c).past).filter
      (fun p => decide (s.sys.devTime < p.2.1 + 10000000)) }

theorem chn_touchChan (c : Nat) (s : State) : chn (touchChan c s) c = broughtUp s c := by
  unfold touchChan
  rw [chn_modChan_self, chn_of_decaysOnly (stepDecay_decaysOnly ..), broughtUp]

/-! ### VLV commands (spec/10_valve_drive.md R383–R386) -/

/-- The handling of a request that names a station, once its reserved field and the station's presence are checked. -/
def withStation (b : List Byte) (s : State) (rest : Res) : Res :=
  if g2 b 2 != 0 then .done sBADOBJ [] s
  else if g2 b 0 ≥ 128 || (stn s (g2 b 0)).isEmpty then .done sNOTFOUND [] s
  else rest

section
variable {o : Org} {b : List Byte} {s : State} {rest : Res}

theorem withStation_reserved (h : g2 b 2 ≠ 0) : withStation b s rest = .done sBADOBJ [] s := if_pos (bne_iff_ne.mpr h)

section
variable (hzero : g2 b 2 = 0)
include hzero

theorem withStation_absent (h : 128 ≤ g2 b 0 ∨ (stn s (g2 b 0)).isEmpty = true) :
    withStation b s rest = .done sNOTFOUND [] s := by
  have habsent : (decide (g2 b 0 ≥ 128) || (stn s (g2 b 0)).isEmpty) = true := by simpa using h
  simp only [withStation, hzero, bne_self_eq_false, Bool.false_eq_true, if_false, if_pos habsent]

variable (hn : g2 b 0 < 128) (hpresent : (stn s (g2 b 0)).isEmpty = false)
include hn hpresent

theorem withStation_present : withStation b s rest = rest := by
  simp [withStation, hzero, Nat.not_le.mpr hn, hpresent]

end

/-- A station that is there and for which the rest is a bad object, or a reserved field. -/
theorem withStation_badObject {bad : Prop} (hrest : bad → rest = .done sBADOBJ [] s)
    (h : g2 b 2 ≠ 0 ∨ (g2 b 0 < 128 ∧ (stn s (g2 b 0)).isEmpty = false ∧ bad)) :
    withStation b s rest = .done sBADOBJ [] s := by
  by_cases hzero : g2 b 2 = 0
  · obtain ⟨hn, hpresent, hbad⟩ := h.resolve_left (not_not_intro hzero)
    rw [withStation_present hzero hn hpresent, hrest hbad]
  · exact withStation_reserved hzero

end

/-- A setpoint that a proportional station takes (R355, R383). -/
abbrev setpointFits (s : State) (n : Nat) (v : Int) : Prop := isProp s n = true ∧ 0 ≤ v ∧ v ≤ iMax s (stnTerm s n)

/-- No VLV_SET: a running zone drives the station, or it is latched off (R383). -/
abbrev setBarred (s : State) (n : Nat) : Prop := inRunningZone s n = true ∨ (chn s (stnTerm s n)).latched = true

/-- A pulse that an injector station takes (R384). -/
abbrev pulseFits (s : State) (n len : Nat) : Prop := isInj s n = true ∧ 100 ≤ len ∧ len ≤ 10000000

/-- A VLV_PULSE of origin `o` as a pulse that is due now. -/
def commandedPulse (o : Org) (n len : Nat) (s : State) : PulseReq :=
  { chan := stnTerm s n, station := n, lenUs := len, due := s.sys.devTime, org := some o }

/-- The faults of a valve channel are forgotten (R386). -/
def faultsReset (k : Chan) : Chan :=
  { k with
    latched := false, stuck := false, misses := 0, trips := [], kinkSum := 0, kinkCount := 0,
    kinkRef := none, driftSaid := false, retrying := false, st := if k.st = 6 then 0 else k.st }

/-- The bytes that VLV_STATUS answers (R385). -/
def valveStatus (n c : Nat) (s : State) : List Byte :=
  p2 (valveFlags s n (valueOf s n)) ++ p1 (vlvState s c) ++ zeros 1 ++ q4 (vlvTarget s c) ++ q4 (vlvCurrent s c) ++
    p2 (vlvDuty s c) ++
    p2 (chn s c).kinkLast ++ q4 (roundRat ((coil s c).tw * 1000)) ++ q4 (roundRat ((coil s c).tb * 1000)) ++
    p4 (coil s c).rMeas ++ p4 (coil s c).pulses ++ p4 (coil s c).deferred ++ p4 (coil s c).refused ++ p4 (coil s c).cut ++
    p2 (kinkMean (chn s c)) ++ p1 (uField 1 (chn s c).misses) ++ p1 (min (coil s c).peakSlow 255)

/-- The bytes that VLV_BANK answers (R385). -/
def bankStatus (k : Nat) (s : State) : List Byte :=
  p1 (if (bank s k).latched then 2 else b01 (bank s k).closed) ++ p1 s.valves.boost ++ p1 ((bank s k).peakOwner.getD 0xFF) ++
    p1 (bank s k).queue.length ++ q4 s.valves.vbst ++ q4 s.power.vfieldVd ++
    q4 ((bankChans k).foldl (fun a c => a + nowUa s c) 0) ++ q4 (bankBudget s k) ++
    p2 (uField 2 (roundRat (clampPower s k * 1000))) ++ p2 (uField 2 (bank s k).maxWaitUs) ++ p4 (bank s k).refused ++ zeros 4

section
variable {o : Org} {b : List Byte} {s : State}

/-- What a VLV_SET comes to. -/
theorem vlvSetH_eq :
    vlvSetH o b s = withStation b s
      (if ¬ setpointFits s (g2 b 0) (i4 b 4) then .done sBADOBJ [] s
      else if setBarred s (g2 b 0) then .done sWRONGMODE [] s
      else .done sOK [] (driveProp (stnTerm s (g2 b 0)) (i4 b 4) false s)) := by
  have hfits : (!isProp s (g2 b 0) || decide (i4 b 4 < 0) || decide (i4 b 4 > iMax s (stnTerm s (g2 b 0)))) =
      decide (¬ setpointFits s (g2 b 0) (i4 b 4)) := by
    rw [Bool.eq_iff_iff]
    simp only [setpointFits, Decidable.not_and_iff_or_not, Bool.not_eq_true, Int.not_le, Bool.or_eq_true, Bool.not_eq_true',
      decide_eq_true_eq, gt_iff_lt, or_assoc]
  simp only [vlvSetH, withStation, hfits, decide_eq_true_eq, Bool.or_eq_true]

/-- What a VLV_PULSE comes to. -/
theorem vlvPulseH_eq :
    vlvPulseH o b s = withStation b s
      (if ¬ pulseFits s (g2 b 0) (g4 b 4) then .done sBADOBJ [] s
      else if inRunningZone s (g2 b 0) then .done sWRONGMODE [] s
      else .later (pulseDue (commandedPulse o (g2 b 0) (g4 b 4) s) (addJob { org := o } s))) := by
  have hfits : (!isInj s (g2 b 0) || decide (g4 b 4 < 100) || decide (g4 b 4 > 10000000)) =
      decide (¬ pulseFits s (g2 b 0) (g4 b 4)) := by
    rw [Bool.eq_iff_iff]
    simp only [pulseFits, Decidable.not_and_iff_or_not, Bool.not_eq_true, Nat.not_le, Bool.or_eq_true, Bool.not_eq_true',
      decide_eq_true_eq, gt_iff_lt, or_assoc]
  simp only [vlvPulseH, hfits, decide_eq_true_eq]
  rfl

/-- What a VLV_STATUS comes to. -/
theorem vlvStatusH_eq :
    vlvStatusH o b s = withStation b s
      (if isProp s (g2 b 0) = false ∧ isInj s (g2 b 0) = false then .done sBADOBJ [] s
      else .done sOK (valveStatus (g2 b 0) (stnTerm s (g2 b 0)) s) (drawn 2 s)) := by
  simp only [vlvStatusH, Bool.and_eq_true, Bool.not_eq_true']
  rfl

section
variable (hzero : g2 b 2 = 0)
include hzero

section
variable (h : 128 ≤ g2 b 0 ∨ (stn s (g2 b 0)).isEmpty = true)
include h

theorem vlvSetH_absent : vlvSetH o b s = .done sNOTFOUND [] s := vlvSetH_eq.trans (withStation_absent hzero h)
theorem vlvPulseH_absent : vlvPulseH o b s = .done sNOTFOUND [] s := vlvPulseH_eq.trans (withStation_absent hzero h)
theorem vlvStatusH_absent : vlvStatusH o b s = .done sNOTFOUND [] s := vlvStatusH_eq.trans (withStation_absent hzero h)

end

section
variable (hn : g2 b 0 < 128) (hpresent : (stn s (g2 b 0)).isEmpty = false)
include hn hpresent

theorem vlvSetH_barred (hfits : setpointFits s (g2 b 0) (i4 b 4)) (hbarred : setBarred s (g2 b 0)) :
    vlvSetH o b s = .done sWRONGMODE [] s := by
  rw [vlvSetH_eq, withStation_present hzero hn hpresent, if_neg (not_not_intro hfits), if_pos hbarred]

theorem vlvSetH_drives (hfits : setpointFits s (g2 b 0) (i4 b 4)) (hzone : inRunningZone s (g2 b 0) = false)
    (hlatched : (chn s (stnTerm s (g2 b 0))).latched = false) :
    vlvSetH o b s = .done sOK [] (driveProp (stnTerm s (g2 b 0)) (i4 b 4) false s) := by
  have hfree : ¬ setBarred s (g2 b 0) := by simp [hzone, hlatched]
  rw [vlvSetH_eq, withStation_present hzero hn hpresent, if_neg (not_not_intro hfits), if_neg hfree]

theorem vlvPulseH_barred (hfits : pulseFits s (g2 b 0) (g4 b 4)) (hzone : inRunningZone s (g2 b 0) = true) :
    vlvPulseH o b s = .done sWRONGMODE [] s := by
  rw [vlvPulseH_eq, withStation_present hzero hn hpresent, if_neg (not_not_intro hfits), if_pos hzone]

theorem vlvPulseH_falls_due (hfits : pulseFits s (g2 b 0) (g4 b 4)) (hzone : inRunningZone s (g2 b 0) = false) :
    vlvPulseH o b s = .later (pulseDue (commandedPulse o (g2 b 0) (g4 b 4) s) (addJob { org := o } s)) := by
  rw [vlvPulseH_eq, withStation_present hzero hn hpresent, if_neg (not_not_intro hfits),
    if_neg (ne_true_of_eq_false hzone)]

theorem vlvStatusH_answers (hvalve : isProp s (g2 b 0) = true ∨ isInj s (g2 b 0) = true) :
    vlvStatusH o b s = .done sOK (valveStatus (g2 b 0) (stnTerm s (g2 b 0)) s) (drawn 2 s) := by
  have hvalid : ¬ (isProp s (g2 b 0) = false ∧ isInj s (g2 b 0) = false) := fun ⟨hprop, hinj⟩ =>
    hvalve.elim (ne_true_of_eq_false hprop) (ne_true_of_eq_false hinj)
  rw [vlvStatusH_eq, withStation_present hzero hn hpresent, if_neg hvalid]

end

end

theorem vlvSetH_badObject (h : g2 b 2 ≠ 0 ∨ (g2 b 0 < 128 ∧ (stn s (g2 b 0)).isEmpty = false ∧
    (isProp s (g2 b 0) = false ∨ i4 b 4 < 0 ∨ iMax s (stnTerm s (g2 b 0)) < i4 b 4))) :
    vlvSetH o b s = .done sBADOBJ [] s := by
  refine vlvSetH_eq.trans (withStation_badObject (fun hbad => if_pos ?_) h)
  rintro ⟨hprop, hlo, hhi⟩
  rcases hbad with hother | hbelow | habove
  · exact ne_true_of_eq_false hother hprop
  · exact Int.not_le.mpr hbelow hlo
  · exact Int.not_le.mpr habove hhi

theorem vlvPulseH_badObject (h : g2 b 2 ≠ 0 ∨ (g2 b 0 < 128 ∧ (stn s (g2 b 0)).isEmpty = false ∧
    (isInj s (g2 b 0) = false ∨ g4 b 4 < 100 ∨ 10000000 < g4 b 4))) :
    vlvPulseH o b s = .done sBADOBJ [] s := by
  refine vlvPulseH_eq.trans (withStation_badObject (fun hbad => if_pos ?_) h)
  rintro ⟨hinj, hlo, hhi⟩
  rcases hbad with hother | hbelow | habove
  · exact ne_true_of_eq_false hother hinj
  · exact Nat.not_le.mpr hbelow hlo
  · exact Nat.not_le.mpr habove hhi

theorem vlvStatusH_badObject (h : g2 b 2 ≠ 0 ∨ (g2 b 0 < 128 ∧ (stn s (g2 b 0)).isEmpty = false ∧
    isProp s (g2 b 0) = false ∧ isInj s (g2 b 0) = false)) :
    vlvStatusH o b s = .done sBADOBJ [] s :=
  vlvStatusH_eq.trans (withStation_badObject (fun hother => if_pos hother) h)

theorem vlvBankH_answers (hzero : zeroAt b 1 3 = true) (hbank : g1 b 0 ≤ 2) :
    vlvBankH o b s = .done sOK (bankStatus (g1 b 0) s) s := by
  have hok : ¬ (!zeroAt b 1 3 || decide (g1 b 0 > 2)) = true := by simp [hzero, hbank]
  exact if_neg hok

theorem vlvBankH_badObject (h : zeroAt b 1 3 = false ∨ 2 < g1 b 0) : vlvBankH o b s = .done sBADOBJ [] s := by
  have hbad : (!zeroAt b 1 3 || decide (g1 b 0 > 2)) = true := by simpa using h
  exact if_pos hbad

section
variable (hzero : g1 b 1 = 0)
include hzero

theorem vlvResetFaultH_bank (hkind : g1 b 0 = 1) (hbank : g2 b 2 ≤ 2) :
    vlvResetFaultH o b s =
      .done sOK [] (noteBy o.side 0x0914 [256 + g2 b 2, 2] (refreshBanks
        (modBank (g2 b 2) (fun k => { k with latched := false, tripped := false, trips := [] }) s))) := by
  simp [vlvResetFaultH, hkind, hzero, Nat.not_lt.mpr hbank]

variable (hkind : g1 b 0 = 0)
include hkind

theorem vlvResetFaultH_absent (h : 128 ≤ g2 b 2 ∨ (stn s (g2 b 2)).isEmpty = true) :
    vlvResetFaultH o b s = .done sNOTFOUND [] s := by
  have habsent : (decide (g2 b 2 ≥ 128) || (stn s (g2 b 2)).isEmpty) = true := by simpa using h
  simp only [vlvResetFaultH, hkind, hzero, habsent]
  rfl

variable (hn : g2 b 2 < 128) (hpresent : (stn s (g2 b 2)).isEmpty = false)
include hn hpresent

theorem vlvResetFaultH_otherType (hprop : isProp s (g2 b 2) = false) (hinj : isInj s (g2 b 2) = false) :
    vlvResetFaultH o b s = .done sBADOBJ [] s := by
  simp [vlvResetFaultH, hkind, hzero, Nat.not_le.mpr hn, hpresent, hprop, hinj]

theorem vlvResetFaultH_valve (hvalve : isProp s (g2 b 2) = true ∨ isInj s (g2 b 2) = true) {u : State}
    (hu : u = modChan (stnTerm s (g2 b 2)) faultsReset s) :
    vlvResetFaultH o b s =
      .done sOK [] (noteBy o.side 0x0914 [g2 b 2, 2]
        (if isProp s (g2 b 2) then retake (stnTerm s (g2 b 2)) u else u)) := by
  subst hu
  have hvalid : (!isProp s (g2 b 2) && !isInj s (g2 b 2)) = false := by
    rcases hvalve with hprop | hinj
    · rw [hprop, Bool.not_true, Bool.false_and]
    · rw [hinj, Bool.not_true, Bool.and_false]
  have hthere : (decide (g2 b 2 ≥ 128) || (stn s (g2 b 2)).isEmpty) = false := by simp [hn, hpresent]
  simp only [vlvResetFaultH, hkind, hzero, hthere, hvalid]
  rfl

end

theorem vlvResetFaultH_badObject (h : 1 < g1 b 0 ∨ g1 b 1 ≠ 0 ∨ (g1 b 0 = 1 ∧ 2 < g2 b 2) ∨
    (g1 b 0 = 0 ∧ g2 b 2 < 128 ∧ (stn s (g2 b 2)).isEmpty = false ∧
      isProp s (g2 b 2) = false ∧ isInj s (g2 b 2) = false)) :
    vlvResetFaultH o b s = .done sBADOBJ [] s := by
  by_cases hbad : (decide (g1 b 0 > 1) || g1 b 1 != 0) = true
  · exact if_pos hbad
  · simp only [Bool.or_eq_true, decide_eq_true_eq, bne_iff_ne, not_or, Decidable.not_not] at hbad
    obtain ⟨hkinds, hzero⟩ := hbad
    rcases (h.resolve_left hkinds).resolve_left (not_not_intro hzero) with
      ⟨hkind, hbank⟩ | ⟨hkind, hn, hpresent, hprop, hinj⟩
    · simp [vlvResetFaultH, hkind, hzero, hbank]
    · exact vlvResetFaultH_otherType hzero hkind hn hpresent hprop hinj

end

/-! ### What taking a window leaves of the valve drive -/

section
variable (code : Nat) (r : Req) (s : State)

/-- The mean current is told from the kept pieces of the channel brought up to now, none of which the mail changes. -/
theorem vlvCurrent_begun (c : Nat) : vlvCurrent (begun code r s) c = vlvCurrent s c := by
  unfold vlvCurrent
  rw [chn_touchChan, chn_touchChan]
  rfl

theorem valveStatus_begun (n c : Nat) : valveStatus n c (begun code r s) = valveStatus n c s := by
  unfold valveStatus
  rw [vlvCurrent_begun]
  rfl

theorem bankStatus_begun (k : Nat) : bankStatus k (begun code r s) = bankStatus k s := rfl

end

/-- Settles O35: the fields of the request and the station that it names decide; each clause is then an outcome of its
handler. -/
theorem valveCommandsAct : Obligations.ValveCommandsAct := by
  unfold Obligations.ValveCommandsAct
  refine ⟨?set, ?setBarred, ?pulse, ?pulseBarred, ?setAbsent, ?pulseAbsent, ?statusAbsent, ?setBad, ?pulseBad, ?status,
    ?statusBad, ?bank, ?bankBad, ?resetBank, ?resetValve, ?resetBad, ?resetAbsent⟩
  case set =>
    exact fun s r ha hzero hn hpresent hprop hlo hhi hzone hlatched =>
      next_settled_congr (serve_of_done ha (vlvSetH_drives hzero hn hpresent ⟨hprop, hlo, hhi⟩ hzone hlatched))
  case setBarred =>
    exact fun s r ha hzero hn hpresent hprop hlo hhi hbarred =>
      next_settled_congr (serve_of_done ha (vlvSetH_barred hzero hn hpresent ⟨hprop, hlo, hhi⟩ hbarred))
  case pulse =>
    exact fun s r ha hzero hn hpresent hinj hlo hhi hzone =>
      next_settled_congr (serve_of_later ha (by decide) (vlvPulseH_falls_due hzero hn hpresent ⟨hinj, hlo, hhi⟩ hzone))
  case pulseBarred =>
    exact fun s r ha hzero hn hpresent hinj hlo hhi hzone =>
      next_settled_congr (serve_of_done ha (vlvPulseH_barred hzero hn hpresent ⟨hinj, hlo, hhi⟩ hzone))
  case setAbsent => exact fun s r ha hzero h => next_settled_congr (serve_of_done ha (vlvSetH_absent hzero h))
  case pulseAbsent => exact fun s r ha hzero h => next_settled_congr (serve_of_done ha (vlvPulseH_absent hzero h))
  case statusAbsent => exact fun s r ha hzero h => next_settled_congr (serve_of_done ha (vlvStatusH_absent hzero h))
  case setBad => exact fun s r ha h => next_settled_congr (serve_of_done ha (vlvSetH_badObject h))
  case pulseBad => exact fun s r ha h => next_settled_congr (serve_of_done ha (vlvPulseH_badObject h))
  case status =>
    rintro s r n c ha hzero rfl hn rfl hpresent hvalve
    have hanswer := vlvStatusH_answers (o := reqOrg 0x0903 r) (s := begun 0x0903 r s) hzero hn hpresent hvalve
    rw [valveStatus_begun] at hanswer
    exact next_settled_congr (serve_of_done ha hanswer)
  case statusBad => exact fun s r ha h => next_settled_congr (serve_of_done ha (vlvStatusH_badObject h))
  case bank =>
    rintro s r k bk ha hzero rfl hbank rfl
    have hanswer := vlvBankH_answers (o := reqOrg 0x0904 r) (s := begun 0x0904 r s) hzero hbank
    rw [bankStatus_begun] at hanswer
    exact next_settled_congr (serve_of_done ha hanswer)
  case bankBad => exact fun s r ha h => next_settled_congr (serve_of_done ha (vlvBankH_badObject h))
  case resetBank =>
    exact fun s r ha hkind hzero hbank => next_settled_congr (serve_of_done ha (vlvResetFaultH_bank hzero hkind hbank))
  case resetValve =>
    rintro s r n u ha hkind hzero rfl hn hpresent hvalve hu
    have hanswer := vlvResetFaultH_valve (o := reqOrg 0x0905 r) (s := begun 0x0905 r s) hzero hkind hn hpresent hvalve hu
    have hprop : isProp (begun 0x0905 r s) (g2 r.payload 2) = isProp s (g2 r.payload 2) := rfl
    have hterm : stnTerm (begun 0x0905 r s) (g2 r.payload 2) = stnTerm s (g2 r.payload 2) := rfl
    rw [hprop, hterm] at hanswer
    exact next_settled_congr (serve_of_done ha hanswer)
  case resetBad => exact fun s r ha h => next_settled_congr (serve_of_done ha (vlvResetFaultH_badObject h))
  case resetAbsent =>
    exact fun s r ha hkind hzero h => next_settled_congr (serve_of_done ha (vlvResetFaultH_absent hzero hkind h))

/-! ### The phases of a pulse (spec/10_valve_drive.md R364, R365) -/

/-- The length of the running pulse is over, `us` after its start. -/
abbrev lengthOver (s : State) (c us : Nat) : Prop := (chn s c).pulseEnd - (chn s c).pulseStart ≤ us * 1000

/-- RISE has ended at `ua`: the channel dwells at its peak. -/
def dwellsFrom (now c : Nat) (ua : Int) (s : State) : State :=
  modChan c (fun k => { k with phase := 2, phaseAt := some now, st := 2, current := ua }) s

/-- The peak was not reached in time (R365). -/
def peakSlowCounted (c : Nat) (s : State) : State := modCoil c (fun k => { k with peakSlow := k.peakSlow + 1 }) s

section
variable {s : State} {c us : Nat} {ua : Int}

theorem pulsePhaseEndFx_idle (h : chanIsInj s c = false ∨ (chn s c).phase = 0) : pulsePhaseEndFx c ua us s = s := by
  rcases h with h | h
  · simp [pulsePhaseEndFx, h]
  · simp [pulsePhaseEndFx, h]

section
variable (hinj : chanIsInj s c = true)
include hinj

section
variable (hphase : (chn s c).phase = 1)
include hphase

theorem pulsePhaseEndFx_rise_over (hover : lengthOver s c us) : pulsePhaseEndFx c ua us s = toOff c ua (freePeak c us s) := by
  simp [pulsePhaseEndFx, hinj, hphase, hover]

variable (hruns : us * 1000 < (chn s c).pulseEnd - (chn s c).pulseStart)
include hruns

theorem pulsePhaseEndFx_rise_atPeak (hpeak : iPeak s c ≤ ua) :
    pulsePhaseEndFx c ua us s = dwellsFrom s.sys.devTime c ua s := by
  simp [pulsePhaseEndFx, hinj, hphase, Nat.not_le.mpr hruns, Int.not_lt.mpr hpeak, dwellsFrom]

variable (hshort : ua < iPeak s c)
include hshort

theorem pulsePhaseEndFx_rise_slow (hnear : iPeak s c ≤ ua * 10) :
    pulsePhaseEndFx c ua us s = dwellsFrom s.sys.devTime c ua (peakSlowCounted c s) := by
  simp [pulsePhaseEndFx, hinj, hphase, Nat.not_le.mpr hruns, hshort, Int.not_lt.mpr hnear, dwellsFrom, peakSlowCounted]

theorem pulsePhaseEndFx_rise_open (hfar : ua * 10 < iPeak s c) :
    pulsePhaseEndFx c ua us s =
      dwellsFrom s.sys.devTime c ua (note 0x0915 [(chanStn s c).getD 0, 2]
        (modChan c (fun k => { k with openLoad := true }) (peakSlowCounted c s))) := by
  simp [pulsePhaseEndFx, hinj, hphase, Nat.not_le.mpr hruns, hshort, hfar, dwellsFrom, peakSlowCounted]

end

theorem pulsePhaseEndFx_dwell_over (hphase : (chn s c).phase = 2) (hover : lengthOver s c us) :
    pulsePhaseEndFx c ua us s = toOff c ua (freePeak c us s) := by
  simp [pulsePhaseEndFx, hinj, hphase, hover]

theorem pulsePhaseEndFx_dwell (hphase : (chn s c).phase = 2) (hruns : us * 1000 < (chn s c).pulseEnd - (chn s c).pulseStart) :
    pulsePhaseEndFx c ua us s =
      modChan c (fun k =>
          { k with
            phase := 3, phaseAt := some s.sys.devTime, st := 4, current := ua,
            charged := decaysFast s c (g1 (vpart s c) 52 == 1) false })
        (freePeak c us (decayTo c (g1 (vpart s c) 52 == 1) false ua (iHold s c) s)) := by
  simp [pulsePhaseEndFx, hinj, hphase, Nat.not_le.mpr hruns]

theorem pulsePhaseEndFx_drop (hphase : (chn s c).phase = 3) (hruns : us * 1000 < (chn s c).pulseEnd - (chn s c).pulseStart) :
    pulsePhaseEndFx c ua us s =
      modChan c (fun k => { k with phase := 4, phaseAt := some s.sys.devTime, st := 3, current := iHold s c, charged := false })
        (touchChan c s) := by
  simp [pulsePhaseEndFx, hinj, hphase, Nat.not_le.mpr hruns]

theorem pulsePhaseEndFx_ends (h : ((chn s c).phase = 3 ∧ lengthOver s c us) ∨ (chn s c).phase = 4) :
    pulsePhaseEndFx c ua us s = toOff c ua s := by
  rcases h with ⟨hphase, hover⟩ | hphase
  · simp [pulsePhaseEndFx, hinj, hphase, hover]
  · simp [pulsePhaseEndFx, hinj, hphase]

theorem pulsePhaseEndFx_off (hphase : (chn s c).phase = 5) :
    pulsePhaseEndFx c ua us s =
      afterOff c (modChan c (fun k =>
        { k with
          phase := 0, phaseAt := some s.sys.devTime, st := 0, current := 0, charged := false,
          offUs := us - (k.pulseEnd - k.pulseStart) / 1000 }) s) := by
  simp only [pulsePhaseEndFx, hinj, hphase, Bool.not_true, Bool.false_eq_true, if_false]
  exact congrArg (afterOff c) (modChan_congr rfl)

end

end

/-! ### Waiting pulses (spec/10_valve_drive.md R376) -/

/-- A pulse has waited to the limit of its station. -/
abbrev waitedOut (s : State) (q : PulseReq) : Bool := decide (q.since + deferUs s q.chan * 1000 ≤ s.sys.devTime)

section
variable {s : State} {b : Nat} {q : PulseReq}

theorem peakStartFx_starts {rest : List PulseReq} (hqueue : readyQueue s b = q :: rest) (hfree : peakCauses s q.chan = []) :
    peakStartFx b s = startPulse q (dropPulse q s) := by
  simp [peakStartFx, hqueue, hfree]

theorem peakStartFx_waits (h : ∀ q ∈ (readyQueue s b).head?, peakCauses s q.chan ≠ []) : peakStartFx b s = s := by
  cases hqueue : readyQueue s b with
  | nil => simp [peakStartFx, hqueue]
  | cons q rest =>
    have hheld : peakCauses s q.chan ≠ [] := h q (by simp [hqueue])
    simp [peakStartFx, hqueue, hheld]

theorem pulseDeferLimitFx_none (h : (readyQueue s b).find? (waitedOut s) = none) : pulseDeferLimitFx b s = s := by
  simp only [pulseDeferLimitFx, h]

section
variable (hout : (readyQueue s b).find? (waitedOut s) = some q)
include hout

theorem pulseDeferLimitFx_refuses {k : Nat} (hcause : (peakCauses s q.chan).head? = some k) :
    pulseDeferLimitFx b s = refusePulse q k (dropPulse q s) := by
  simp only [pulseDeferLimitFx, hout, hcause]

theorem pulseDeferLimitFx_free (hfree : peakCauses s q.chan = []) :
    pulseDeferLimitFx b s =
      if (readyQueue s b).head? = some q then startPulse q (dropPulse q s) else refusePulse q 1 (dropPulse q s) := by
  simp only [pulseDeferLimitFx, hout, hfree, List.head?_nil]

end

end

/-! ### The boost, the clamp and the supply (spec/10_valve_drive.md R354, R369, R378) -/

section
variable {s : State} {uv : Int}

section
variable (hready : 44000000 ≤ uv)
include hready

theorem boostReadyChangeFx_ready (h : s.valves.boost = 1 ∨ s.valves.boost = 2) :
    boostReadyChangeFx uv s = onValves (fun v => { v with vbst := uv, boost := 2 }) s := by
  have hon : s.valves.boost ≠ 0 := by omega
  have hsound : s.valves.boost ≠ 3 := by omega
  simp [boostReadyChangeFx, hon, hsound, hready, onValves]

theorem boostReadyChangeFx_recovers (h : s.valves.boost = 3) :
    boostReadyChangeFx uv s = note 0x0911 [2, uv / 1000] (onValves (fun v => { v with vbst := uv, boost := 2 }) s) := by
  simp [boostReadyChangeFx, h, hready, onValves]

end

theorem boostReadyChangeFx_notReady (h : s.valves.boost = 1 ∨ s.valves.boost = 2) (hlow : uv < 44000000) :
    boostReadyChangeFx uv s = onValves (fun v => { v with vbst := uv, boost := 1 }) s := by
  have hon : s.valves.boost ≠ 0 := by omega
  have hsound : s.valves.boost ≠ 3 := by omega
  simp [boostReadyChangeFx, hon, hsound, Int.not_le.mpr hlow, onValves]

theorem boostReadyChangeFx_measured (h : s.valves.boost = 0 ∨ (s.valves.boost = 3 ∧ uv < 44000000)) :
    boostReadyChangeFx uv s = onValves (fun v => { v with vbst := uv }) s := by
  rcases h with h | ⟨h, hlow⟩
  · simp [boostReadyChangeFx, h]
  · simp [boostReadyChangeFx, h, Int.not_le.mpr hlow, onValves]

theorem boostFaultFx_faults (h : s.valves.boost = 1) (hlow : uv < 44000000) :
    boostFaultFx uv s =
      refuseWaiting (noteFault 0x0911 [1, uv / 1000] (onValves (fun v => { v with vbst := uv, boost := 3 }) s)) := by
  simp [boostFaultFx, h, Int.not_le.mpr hlow]

theorem boostFaultFx_idle (h : s.valves.boost ≠ 1 ∨ 44000000 ≤ uv) : boostFaultFx uv s = s := by
  have hidle : (s.valves.boost != 1 || decide (uv ≥ 44000000)) = true := by simpa using h
  exact if_pos hidle

theorem clampHotClearFx_clears {b : Nat} (hhot : (bank s b).clampHot = true) (hcool : clampPower s b < (1 : Rat) / 5)
    (htime : (bank s b).clampHotAt + 10000000000 ≤ s.sys.devTime) :
    clampHotClearFx b s =
      note 0x0917 [b, 2, roundRat (clampPower s b * 1000)] (modBank b (fun k => { k with clampHot := false }) s) := by
  have hclears : ¬ (!(bank s b).clampHot || decide (clampPower s b ≥ (1 : Rat) / 5) ||
      decide (s.sys.devTime < (bank s b).clampHotAt + 10000000000)) = true := by
    simp only [hhot, decide_eq_false (Rat.not_le.mpr hcool), decide_eq_false (Nat.not_lt.mpr htime)]
    decide
  exact if_neg hclears

theorem clampHotClearFx_stays {b : Nat} (h : (bank s b).clampHot = false ∨ (1 : Rat) / 5 ≤ clampPower s b ∨
    s.sys.devTime < (bank s b).clampHotAt + 10000000000) : clampHotClearFx b s = s := by
  have hstays : (!(bank s b).clampHot || decide (clampPower s b ≥ (1 : Rat) / 5) ||
      decide (s.sys.devTime < (bank s b).clampHotAt + 10000000000)) = true := by
    simpa [or_assoc] using h
  exact if_pos hstays

theorem peaksBlockedLowSupplyFx_low (hlow : uv < 15000000) : peaksBlockedLowSupplyFx uv s = setVfieldVd uv s :=
  if_neg (Int.not_le.mpr hlow)

theorem setVfieldVd_blocks (hlow : uv < 15000000) :
    (setVfieldVd uv s).valves.peaksBlocked = true ∧ (setVfieldVd uv s).field.lowVd = true ∧
      (setVfieldVd uv s).power.vfieldVd = uv :=
  ⟨decide_eq_true hlow, decide_eq_true (by omega), rfl⟩

end

/-- Settles O36: the phase and the pulse's length, the queue and the causes against its head, or the boost, the clamp and the
supply decide; each clause is then an outcome of its event. -/
theorem injectorPulsesRun : Obligations.InjectorPulsesRun := by
  unfold Obligations.InjectorPulsesRun
  refine ⟨?riseAtPeak, ?riseSlow, ?riseOpen, ?peakOver, ?dwell, ?drop, ?ends, ?off, ?noPulse, ?starts, ?waits, ?refuses,
    ?limitFree, ?limitNone, ?ready, ?recovers, ?notReady, ?measured, ?fault, ?faultIdle, ?clampClears, ?clampStays,
    ?supplyLow, ?supplyHigh⟩
  case riseAtPeak =>
    exact fun s c us ua hinj hphase hpeak hruns => next_settled_congr (pulsePhaseEndFx_rise_atPeak hinj hphase hruns hpeak)
  case riseSlow =>
    exact fun s c us ua hinj hphase hshort hnear hruns =>
      next_settled_congr (pulsePhaseEndFx_rise_slow hinj hphase hruns hshort hnear)
  case riseOpen =>
    exact fun s c us ua hinj hphase hshort hfar hruns =>
      next_settled_congr (pulsePhaseEndFx_rise_open hinj hphase hruns hshort hfar)
  case peakOver =>
    rintro s c us ua hinj (⟨hphase, -⟩ | hphase) hover
    · exact next_settled_congr (pulsePhaseEndFx_rise_over hinj hphase hover)
    · exact next_settled_congr (pulsePhaseEndFx_dwell_over hinj hphase hover)
  case dwell => exact fun s c us ua hinj hphase hruns => next_settled_congr (pulsePhaseEndFx_dwell hinj hphase hruns)
  case drop => exact fun s c us ua hinj hphase hruns => next_settled_congr (pulsePhaseEndFx_drop hinj hphase hruns)
  case ends => exact fun s c us ua hinj h => next_settled_congr (pulsePhaseEndFx_ends hinj h)
  case off => exact fun s c us ua hinj hphase => next_settled_congr (pulsePhaseEndFx_off hinj hphase)
  case noPulse => exact fun s c us ua h => next_settled_congr (pulsePhaseEndFx_idle h)
  case starts => exact fun s b q rest hqueue hfree => next_settled_congr (peakStartFx_starts hqueue hfree)
  case waits => exact fun s b h => next_settled_congr (peakStartFx_waits h)
  case refuses => exact fun s b q k hout hcause => next_settled_congr (pulseDeferLimitFx_refuses hout hcause)
  case limitFree => exact fun s b q hout hfree => next_settled_congr (pulseDeferLimitFx_free hout hfree)
  case limitNone => exact fun s b h => next_settled_congr (pulseDeferLimitFx_none h)
  case ready => exact fun s uv h hready => next_settled_congr (boostReadyChangeFx_ready hready h)
  case recovers => exact fun s uv h hready => next_settled_congr (boostReadyChangeFx_recovers hready h)
  case notReady => exact fun s uv h hlow => next_settled_congr (boostReadyChangeFx_notReady h hlow)
  case measured => exact fun s uv h => next_settled_congr (boostReadyChangeFx_measured h)
  case fault => exact fun s uv h hlow => next_settled_congr (boostFaultFx_faults h hlow)
  case faultIdle => exact fun s uv h => next_settled_congr (boostFaultFx_idle h)
  case clampClears => exact fun s b hhot hcool htime => next_settled_congr (clampHotClearFx_clears hhot hcool htime)
  case clampStays => exact fun s b h => next_settled_congr (clampHotClearFx_stays h)
  case supplyLow => exact fun s uv hlow => ⟨next_settled_congr (peaksBlockedLowSupplyFx_low hlow), setVfieldVd_blocks hlow⟩
  case supplyHigh => exact fun s uv hhigh => next_settled_congr (if_pos hhigh)

/-! ### Overcurrents (spec/10_valve_drive.md R379) -/

/-- A channel's overcurrent is told and counted among its trips; an injector waits for its next pulse, not for a retry. -/
def overcurrentTold (c n : Nat) (ua : Int) (s : State) : State :=
  note 0x0913 [n, ua] (modChan c
    (fun k => { k with overcurrent := true, trips := tripsNow s.sys.devTime (chn s c).trips, retrying := isProp s n })
    (tripChan c ua s))

/-- A bank's overcurrent trips it, and is told and counted (notes/assumptions/19.md). -/
def bankTripTold (b : Nat) (ua : Int) (s : State) : State :=
  note 0x0913 [256 + b, ua] (refreshBanks
    (modBank b (fun k => { k with tripped := true, trips := tripsNow s.sys.devTime (bank s b).trips }) s))

section
variable {s : State} {ua : Int}

theorem valveOvercurrentFx_trips {c n : Nat} (hstn : chanStn s c = some n)
    (hover : (if isProp s n then 3500000 else 10000000) < ua) :
    valveOvercurrentFx c ua s =
      if 3 ≤ (tripsNow s.sys.devTime (chn s c).trips).length then
        noteFault 0x0914 [n, 1]
          (modChan c (fun k => { k with latched := true, st := 6, retrying := false }) (overcurrentTold c n ua s))
      else overcurrentTold c n ua s := by
  simp only [valveOvercurrentFx, hstn, if_neg (Int.not_le.mpr hover)]
  rfl

theorem valveOvercurrentFx_idle {c : Nat} (h : chanStn s c = none ∨ ua ≤ 3500000) : valveOvercurrentFx c ua s = s := by
  cases hstn : chanStn s c with
  | none => simp only [valveOvercurrentFx, hstn]
  | some n =>
    have hlow : ua ≤ 3500000 := h.resolve_left (by simp [hstn])
    have hunder : ua ≤ if isProp s n then 3500000 else 10000000 := by split <;> omega
    simp only [valveOvercurrentFx, hstn, if_pos hunder]

theorem bankOvercurrentFx_trips {b : Nat} (hbank : b ≤ 2) (hover : 18000000 < ua) :
    bankOvercurrentFx b ua s =
      if 3 ≤ (tripsNow s.sys.devTime (bank s b).trips).length then
        noteFault 0x0914 [256 + b, 1] (modBank b (fun k => { k with latched := true }) (bankTripTold b ua s))
      else bankTripTold b ua s := by
  have htrips : ¬ (decide (b > 2) || decide (ua ≤ 18000000)) = true := by simp [hbank, hover]
  exact if_neg htrips

theorem bankOvercurrentFx_idle {b : Nat} (h : 2 < b ∨ ua ≤ 18000000) : bankOvercurrentFx b ua s = s := by
  have hidle : (decide (b > 2) || decide (ua ≤ 18000000)) = true := by simpa using h
  exact if_pos hidle

end

/-! ### A pulse that a trip cuts (spec/10_valve_drive.md R368, R379, R385) -/

theorem touchChan_coil_cut (c : Nat) (s : State) : (coil (touchChan c s) c).cut = (coil s c).cut :=
  (stepDecay_decaysOnly c _ _ s).2

/-- An owner that gives up what it owns is no longer the owner. -/
theorem freed_ne_some (owner : Option Nat) (c : Nat) : (if owner = some c then none else owner) ≠ some c := by
  split
  · exact nofun
  · assumption

section
variable {c : Nat} {s : State}

theorem pulseOver_coil_cut (hopen : opened s c = true) : (coil (pulseOver c s) c).cut = (coil s c).cut + 1 := by
  unfold pulseOver
  rw [if_pos hopen, coil_modChan, coil_modBank, coil_modCoil_self]

theorem pulseOver_pulseCut : (chn (pulseOver c s) c).pulseCut = ((chn s c).pulseCut || (chn s c).phase != 0) := by
  unfold pulseOver
  rw [chn_modChan_self, chn_modBank]
  split <;> rfl

theorem pulseOver_peakOwner : (bank (pulseOver c s) (c / 4)).peakOwner ≠ some c := by
  unfold pulseOver
  rw [bank_modChan, bank_modBank_self]
  exact freed_ne_some _ c

end

/-- A trip cuts the pulse that the channel was in, counts it, and frees the bank's peak. -/
theorem tripChan_cuts {s : State} {c : Nat} (ua : Int) (hlo : 1 ≤ (chn s c).phase) (hhi : (chn s c).phase ≤ 4) :
    (chn (tripChan c ua s) c).phase = 0 ∧ (chn (tripChan c ua s) c).pulseCut = true ∧
      (coil (tripChan c ua s) c).cut = (coil s c).cut + 1 ∧ (bank (tripChan c ua s) (c / 4)).peakOwner ≠ some c := by
  have hdecay := decayTo_decaysOnly c true true ua 0 (touchChan c s)
  have hphase : (chn (decayTo c true true ua 0 (touchChan c s)) c).phase = (chn s c).phase := by
    rw [chn_of_decaysOnly hdecay, chn_touchChan, broughtUp]
  have hopen : opened (decayTo c true true ua 0 (touchChan c s)) c = true := by
    simp [opened, hphase, hlo, hhi]
  have hpulse : (chn s c).phase ≠ 0 := Nat.one_le_iff_ne_zero.mp hlo
  unfold tripChan
  dsimp only
  rw [chn_modChan_self, coil_modChan, bank_modChan, pulseOver_coil_cut hopen, pulseOver_pulseCut, hdecay.2,
    touchChan_coil_cut, hphase]
  exact ⟨rfl, by simp [hpulse], rfl, pulseOver_peakOwner⟩

/-! ### The retry after a trip (spec/10_valve_drive.md R379) -/

section
variable {s : State} {c : Nat}

theorem valveRetryFx_channel (hbank : (bank s (c / 4)).tripped = false ∨ (bank s (c / 4)).latched = true)
    (hretry : (chn s c).retrying = true) (hlatched : (chn s c).latched = false) :
    valveRetryFx c s = retake c (modChan c (fun k => { k with retrying := false, st := 0 }) s) := by
  have hstays : ((bank s (c / 4)).tripped && !(bank s (c / 4)).latched) = false := by
    rcases hbank with h | h <;> simp [h]
  simp [valveRetryFx, hstays, hretry, hlatched]

theorem valveRetryFx_bank {u : State} (htripped : (bank s (c / 4)).tripped = true) (hlatched : (bank s (c / 4)).latched = false)
    (hu : u = refreshBanks (modBank (c / 4) (fun k => { k with tripped := false }) s))
    (hchan : (chn u c).retrying = false ∨ (chn u c).latched = true) : valveRetryFx c s = u := by
  subst hu
  simp only [valveRetryFx, htripped, hlatched, Bool.not_false, Bool.and_true, if_true]
  refine if_neg ?_
  rcases hchan with h | h <;> simp [h]

theorem valveRetryFx_idle (hbank : (bank s (c / 4)).tripped = false)
    (hchan : (chn s c).retrying = false ∨ (chn s c).latched = true) :
    valveRetryFx c s = s := by
  simp only [valveRetryFx, hbank, Bool.false_and, Bool.false_eq_true, if_false]
  refine if_neg ?_
  rcases hchan with h | h <;> simp [h]

end

/-! ### Leaks of a channel that is off (spec/10_valve_drive.md R380) -/

/-- The unexplained current is half the channel's expected current or more. -/
abbrev halfExpected (s : State) (c : Nat) (ua : Int) : Prop := 0 < expectedUa s c ∧ expectedUa s c ≤ 2 * ua

/-- The unexplained current is that of a channel stuck on. -/
abbrev stuckOn (s : State) (c : Nat) (ua : Int) : Prop := 200000 ≤ ua ∨ halfExpected s c ua

/-- The event's test of the current is `stuckOn`. -/
theorem stuckOn_bool (s : State) (c : Nat) (ua : Int) :
    (decide (ua ≥ 200000) || (decide (expectedUa s c > 0) && decide (2 * ua ≥ expectedUa s c))) = decide (stuckOn s c ua) := by
  simp only [stuckOn, halfExpected, Bool.decide_or, Bool.decide_and]

section
variable {s : State} {c : Nat} {ua : Int}

theorem lsLandLowFx_skips (h : (bank s (c / 4)).closed = false ∨ chanOff s c = false) : lsLandLowFx c ua s = s := by
  have hskips : (!(bank s (c / 4)).closed || !chanOff s c) = true := by simpa using h
  exact if_pos hskips

section
variable (hclosed : (bank s (c / 4)).closed = true) (hoff : chanOff s c = true)
include hclosed hoff

theorem lsLandLowFx_opens (h : stuckOn s c ua) : lsLandLowFx c ua s = openBank c ua s := by
  simp only [lsLandLowFx, hclosed, hoff, stuckOn_bool, h, decide_true, Bool.not_true, Bool.or_false, Bool.false_eq_true, if_false,
    if_true]

section
variable (hlow : ua < 200000) (hhalf : ¬ halfExpected s c ua)
include hlow hhalf

theorem lsLandLowFx_noStation (hstn : chanStn s c = none) : lsLandLowFx c ua s = s := by
  have hsmall : ¬ stuckOn s c ua := not_or.mpr ⟨Int.not_le.mpr hlow, hhalf⟩
  simp only [lsLandLowFx, hclosed, hoff, stuckOn_bool, hsmall, hstn, decide_false, Bool.not_true, Bool.or_false,
    Bool.false_eq_true, if_false]

/-- What a small current of a channel that is off is: an open load below 50 mA, else a leak. -/
theorem lsLandLowFx_small {n : Nat} (hstn : chanStn s c = some n) :
    lsLandLowFx c ua s =
      if ua < 50000 then
        if (chn s c).openLoad then s else note 0x0915 [n, 0] (modChan c (fun k => { k with openLoad := true }) s)
      else if (chn s c).leak then s
      else note 0x091C [n, 1, ua, expectedUa s c] (modChan c (fun k => { k with leak := true }) s) := by
  have hsmall : ¬ stuckOn s c ua := not_or.mpr ⟨Int.not_le.mpr hlow, hhalf⟩
  simp only [lsLandLowFx, hclosed, hoff, stuckOn_bool, hsmall, hstn, decide_false, Bool.not_true, Bool.or_false,
    Bool.false_eq_true, if_false]

theorem lsLandLowFx_known (h : (ua < 50000 ∧ (chn s c).openLoad = true) ∨ (50000 ≤ ua ∧ (chn s c).leak = true)) :
    lsLandLowFx c ua s = s := by
  cases hstn : chanStn s c with
  | none => exact lsLandLowFx_noStation hclosed hoff hlow hhalf hstn
  | some n =>
    rw [lsLandLowFx_small hclosed hoff hlow hhalf hstn]
    rcases h with ⟨hload, hknown⟩ | ⟨hleak, hknown⟩
    · rw [if_pos hload, if_pos hknown]
    · rw [if_neg (Int.not_lt.mpr hleak), if_pos hknown]

end

variable (hhalf : ¬ halfExpected s c ua)
include hhalf

theorem lsLandLowFx_openLoad {n : Nat} (hload : ua < 50000) (hstn : chanStn s c = some n) (hnew : (chn s c).openLoad = false) :
    lsLandLowFx c ua s = note 0x0915 [n, 0] (modChan c (fun k => { k with openLoad := true }) s) := by
  rw [lsLandLowFx_small hclosed hoff (by omega) hhalf hstn, if_pos hload, if_neg (ne_true_of_eq_false hnew)]

theorem lsLandLowFx_leaks {n : Nat} (hleak : 50000 ≤ ua) (hlow : ua < 200000) (hstn : chanStn s c = some n)
    (hnew : (chn s c).leak = false) :
    lsLandLowFx c ua s = note 0x091C [n, 1, ua, expectedUa s c] (modChan c (fun k => { k with leak := true }) s) := by
  rw [lsLandLowFx_small hclosed hoff hlow hhalf hstn, if_neg (Int.not_lt.mpr hleak), if_neg (ne_true_of_eq_false hnew)]

end

theorem lsLandLowFx_idle (h : (bank s (c / 4)).closed = false ∨ chanOff s c = false ∨
    (ua < 50000 ∧ ¬ halfExpected s c ua ∧ (chn s c).openLoad = true) ∨
    (50000 ≤ ua ∧ ua < 200000 ∧ ¬ halfExpected s c ua ∧ (chn s c).leak = true)) : lsLandLowFx c ua s = s := by
  by_cases hskips : (bank s (c / 4)).closed = false ∨ chanOff s c = false
  · exact lsLandLowFx_skips hskips
  · obtain ⟨hclosed, hoff⟩ := not_or.mp hskips
    rw [Bool.not_eq_false] at hclosed hoff
    rcases h with h | h | ⟨hlow, hhalf, hknown⟩ | ⟨hlo, hhi, hhalf, hknown⟩
    · exact absurd (.inl h) hskips
    · exact absurd (.inr h) hskips
    · exact lsLandLowFx_known hclosed hoff (by omega) hhalf (.inl ⟨hlow, hknown⟩)
    · exact lsLandLowFx_known hclosed hoff hhi hhalf (.inr ⟨hlo, hknown⟩)

theorem leakEscalationFx_opens (hleak : (chn s c).leak = true) : leakEscalationFx c ua s = openBank c ua s := if_pos hleak

theorem leakEscalationFx_idle (hleak : (chn s c).leak = false) : leakEscalationFx c ua s = s :=
  if_neg (ne_true_of_eq_false hleak)

theorem leakClearedFx_clears (hleak : (chn s c).leak = true) :
    leakClearedFx c ua s =
      note 0x091C [(chanStn s c).getD 0, 2, ua, expectedUa s c] (modChan c (fun k => { k with leak := false }) s) := by
  simp [leakClearedFx, hleak]

theorem leakClearedFx_idle (hleak : (chn s c).leak = false) : leakClearedFx c ua s = s := by
  simp [leakClearedFx, hleak]

end

/-! ### Headroom of the duty (spec/10_valve_drive.md R363) -/

/-- The current that the channel is to have. -/
def headroomGoal (u : State) (c : Nat) : Int := if chanIsInj u c then iHold u c else slewed u c u.sys.devTime

section
variable {s u : State} {c n duty : Nat} {ua : Int}

theorem headroomClearedFx_headroom :
    headroomClearedFx c false s = modChan c (fun k => { k with headroom := false }) (touchChan c s) := rfl

theorem headroomClearedFx_openLoad :
    headroomClearedFx c true s = modChan c (fun k => { k with openLoad := false }) (touchChan c s) := rfl

theorem valveHeadroomFx_idle (hduty : duty < 9500) : valveHeadroomFx c ua duty s = s := by
  simp [valveHeadroomFx, hduty]

section
variable (hu : u = touchChan c s) (hduty : 9500 ≤ duty) (hruns : (chn u c).st = 1 ∨ (chn u c).phase = 4)
  (hstn : chanStn u c = some n)
include hu hduty hruns hstn

/-- What a duty at its limit comes to, on a channel that regulates or holds. -/
theorem valveHeadroomFx_eq {told : State} (htold : told = modChan c (fun k => { k with current := ua, duty := duty }) u) :
    valveHeadroomFx c ua duty s =
      if 100000 ≤ headroomGoal u c ∧ ua * 10 < headroomGoal u c then
        if (chn u c).openLoad then told else note 0x0915 [n, 1] (modChan c (fun k => { k with openLoad := true }) told)
      else if ua * 100 < headroomGoal u c * 98 then
        if (chn u c).headroom then told
        else note 0x0912 [n, headroomGoal u c, ua, u.power.vfieldVd / 1000]
          (modChan c (fun k => { k with headroom := true }) told)
      else told := by
  subst hu htold
  have hjudged : ((some n).isNone || decide (duty < 9500) ||
      ((chn (touchChan c s) c).st != 1 && (chn (touchChan c s) c).phase != 4)) = false := by
    rcases hruns with h | h <;> simp [hduty, h]
  simp only [valveHeadroomFx, hjudged, hstn, Bool.false_eq_true, if_false, Option.getD_some, Bool.and_eq_true,
    decide_eq_true_eq, ge_iff_le]
  rfl

theorem valveHeadroomFx_openLoad {goal : Int} (hgoal : goal = headroomGoal u c) (hbig : 100000 ≤ goal) (hfar : ua * 10 < goal)
    (hnew : (chn u c).openLoad = false) :
    valveHeadroomFx c ua duty s =
      note 0x0915 [n, 1]
        (modChan c (fun k => { k with openLoad := true }) (modChan c (fun k => { k with current := ua, duty := duty }) u)) := by
  rw [valveHeadroomFx_eq hu hduty hruns hstn rfl, ← hgoal, if_pos ⟨hbig, hfar⟩, if_neg (ne_true_of_eq_false hnew)]

theorem valveHeadroomFx_headroom {goal : Int} (hgoal : goal = headroomGoal u c) (hnear : goal < 100000 ∨ goal ≤ ua * 10)
    (hshort : ua * 100 < goal * 98) (hnew : (chn u c).headroom = false) :
    valveHeadroomFx c ua duty s =
      note 0x0912 [n, goal, ua, u.power.vfieldVd / 1000]
        (modChan c (fun k => { k with headroom := true }) (modChan c (fun k => { k with current := ua, duty := duty }) u)) := by
  have hloaded : ¬ (100000 ≤ goal ∧ ua * 10 < goal) := by omega
  rw [valveHeadroomFx_eq hu hduty hruns hstn rfl, ← hgoal, if_neg hloaded, if_pos hshort, if_neg (ne_true_of_eq_false hnew)]

end

end

/-! ### The coil model (spec/10_valve_drive.md R370–R372) -/

/-- Both nodes of a coil after a step: the winding at `w1`, the body by what flows through it (R370). -/
def nodesMoved (c : Nat) (w1 : Rat) (u : State) : State :=
  modCoil c (fun k =>
    { k with
      tw := w1,
      tb := k.tb + (1 : Rat) / 10 / rf32 (vpart u c) 20 *
        ((w1 - k.tb) / rf32 (vpart u c) 8 - (k.tb - coilAmbient u c) / rf32 (vpart u c) 12) }) u

/-- The winding after a step, before a measurement (R370). -/
def windingMoved (c : Nat) (ms : Rat) (u : State) : Rat :=
  (coil u c).tw + (1 : Rat) / 10 / rf32 (vpart u c) 16 *
    (windingR u c * meanSquare u c ms - ((coil u c).tw - (coil u c).tb) / rf32 (vpart u c) 8)

/-- A step has ended: the measurement time starts again, and the levels are judged (R371, R372). -/
def stepJudged (c : Nat) (s : State) : State := coilLevels c (modChan c (fun k => { k with heldLong := false }) s)

section
variable {s u : State} {c n : Nat} {ms : Rat}

theorem coilModelStepFx_noStation {m : Option CoilMeas} (hstn : chanStn (touchChan c s) c = none) :
    coilModelStepFx c ms m s = touchChan c s := by
  simp only [coilModelStepFx, hstn]

section
variable (hu : u = touchChan c s) (hstn : chanStn u c = some n) {w1 : Rat} (hw : w1 = windingMoved c ms u)
include hu hstn hw

theorem coilModelStepFx_unmeasured {m : Option CoilMeas} (hm : ∀ x ∈ m, x.i ≤ 0 ∨ measures u c = false) :
    coilModelStepFx c ms m s = stepJudged c (nodesMoved c w1 u) := by
  subst hu hw
  cases m with
  | none =>
    simp only [coilModelStepFx, hstn]
    exact congrArg (stepJudged c) (modCoil_congr rfl)
  | some x =>
    have hidle : (decide (x.i ≤ 0) || !measures (touchChan c s) c) = true := by simpa using hm x rfl
    simp only [coilModelStepFx, hstn, hidle, if_true]
    exact congrArg (stepJudged c) (modCoil_congr rfl)

theorem coilModelStepFx_agrees {m : CoilMeas} {rr tm : Rat} (hi : 0 < m.i) (hmeasures : measures u c = true)
    (hrr : rr = (m.duty * ((u.power.vfieldVd : Rat) / 1000000 - m.bank * m.rHs) - m.i * m.rLs) / m.i)
    (htm : tm = 20 + (rr / ((g4 (vpart u c) 0 : Rat) / 1000) - 1) / ((393 : Rat) / 100000)) (hdiff : absRat (tm - w1) < 10) :
    coilModelStepFx c ms (some m) s =
      stepJudged c (modCoil c (fun k =>
        { k with
          tw := w1 + (tm - w1) / 5, rMeas := uField 4 (roundRat (rr * 1000)), mismatchSince := none, mismatchSaid := false })
        (nodesMoved c w1 u)) := by
  have hcounts : (decide (m.i ≤ 0) || !measures u c) = false := by simp [hmeasures, Rat.not_le.mpr hi]
  have hclose : ¬ absRat (tm - w1) > 15 := Rat.not_lt.mpr (Rat.le_trans (Rat.le_of_lt hdiff) (by decide))
  subst hu hw hrr htm
  unfold windingMoved at hdiff hclose
  simp only [coilModelStepFx, hstn, hcounts, if_neg hclose, if_pos hdiff, Bool.and_false, Bool.false_eq_true, if_false]
  exact congrArg (fun t => stepJudged c (modCoil c _ t)) (modCoil_congr rfl)

end

end

/-! ### Closing kinks (spec/10_valve_drive.md R373, R374) -/

section
variable {s : State} {c n : Nat} {slots : List Int}

/-- The first slot of the pulse's window in which the land kinks. -/
abbrev kinkAt (s : State) (c : Nat) (slots : List Int) : Option Nat :=
  kinkSlot slots (g2 (vpart s c) 56) (g2 (vpart s c) 58) (g2 (vpart s c) 60)

variable (hstn : chanStn s c = some n)
include hstn

theorem kinkEvaluationFx_idle (h : isInj s n = false ∨ g2 (vpart s c) 58 = 0 ∨ kinkUsable s c = false) :
    kinkEvaluationFx c slots s = s := by
  have hidle : (!isInj s n || decide (g2 (vpart s c) 58 = 0) || !kinkUsable s c) = true := by simpa [or_assoc] using h
  simp only [kinkEvaluationFx, hstn, hidle, if_true]

variable (hinj : isInj s n = true) (hwindow : g2 (vpart s c) 58 ≠ 0) (husable : kinkUsable s c = true)
include hinj hwindow husable

section
variable (hnone : kinkAt s c slots = none)
include hnone

theorem kinkEvaluationFx_misses (hfew : (chn s c).misses + 1 < g1 (vpart s c) 62) :
    kinkEvaluationFx c slots s = modChan c (fun k => { k with misses := k.misses + 1 }) s := by
  have hshort : ¬ (chn s c).misses + 1 ≥ g1 (vpart s c) 62 := Nat.not_le.mpr hfew
  simp only [kinkEvaluationFx, hstn, hinj, hwindow, husable, hnone, decide_eq_false hshort, Bool.not_true,
    Bool.or_false, decide_false, Bool.false_and, Bool.false_eq_true, if_false]
  exact modChan_congr rfl

theorem kinkEvaluationFx_sticks (hmany : g1 (vpart s c) 62 ≤ (chn s c).misses + 1) (hnew : (chn s c).stuck = false) :
    kinkEvaluationFx c slots s =
      note 0x0918 [n, 1, kinkMean (chn s c), (chn s c).kinkRef.getD (Config.freeNat s.fresh)]
        (drawn 1 (modChan c (fun k => { k with misses := k.misses + 1, stuck := true }) s)) := by
  have hlong : (chn s c).misses + 1 ≥ g1 (vpart s c) 62 := hmany
  simp only [kinkEvaluationFx, hstn, hinj, hwindow, husable, hnone, hnew, decide_eq_true hlong, Bool.not_true, Bool.not_false,
    Bool.or_false, Bool.or_true, decide_false, Bool.true_and, Bool.false_eq_true, if_false, if_true]
  exact congrArg (fun t => note 0x0918 _ (drawn 1 t)) (modChan_congr rfl)

end

/-- A kink ends the misses, and its closing delay joins the latest ones; there is no reference of 64 yet (R374). -/
theorem kinkEvaluationFx_kink {k : Nat} (hkink : kinkAt s c slots = some k) (hfew : (chn s c).kinkCount < 63) :
    kinkEvaluationFx c slots s =
      modChan c (fun x =>
        { x with
          misses := 0, stuck := false, kinks := (k * 10 :: x.kinks).take 64, kinkCount := x.kinkCount + 1,
          kinkSum := x.kinkSum + k * 10, kinkRef := none, kinkLast := k * 10 }) s := by
  have hcounted : (chn s c).kinkCount < 64 := by omega
  have hnoRef : ¬ (chn s c).kinkCount + 1 = 64 := by omega
  simp only [kinkEvaluationFx, hstn, hinj, hwindow, husable, hkink, if_pos hcounted, if_neg hnoRef, Bool.not_true, Bool.or_false,
    decide_false, Option.isSome_none, Bool.false_and, Bool.false_eq_true, if_false]
  exact modChan_congr rfl

end

/-- Settles O37: the station, the measured current, the state of the channel and its bank, or what the coil and the land show
decide; each clause is then an outcome of its event. -/
theorem valveProtectionActs : Obligations.ValveProtectionActs := by
  unfold Obligations.ValveProtectionActs
  refine ⟨?overcurrent, ?cuts, ?overcurrentIdle, ?bankTrips, ?bankIdle, ?retry, ?retryBank, ?retryIdle, ?openLoad, ?leaks,
    ?opens, ?landIdle, ?escalates, ?leakEnds, ?noLeak, ?headroom, ?headroomOpen, ?headroomIdle, ?headroomCleared, ?unmeasured,
    ?measured, ?noStation, ?misses, ?sticks, ?kink, ?kinkIdle⟩
  case overcurrent =>
    rintro s c n ua ts u hstn hover rfl rfl
    exact next_settled_congr (valveOvercurrentFx_trips hstn hover)
  case cuts => exact fun s c ua hlo hhi => tripChan_cuts ua hlo hhi
  case overcurrentIdle => exact fun s c ua h => next_settled_congr (valveOvercurrentFx_idle h)
  case bankTrips =>
    rintro s b ua ts u hbank hover rfl rfl
    exact next_settled_congr (bankOvercurrentFx_trips hbank hover)
  case bankIdle => exact fun s b ua h => next_settled_congr (bankOvercurrentFx_idle h)
  case retry => exact fun s c hbank hretry hlatched => next_settled_congr (valveRetryFx_channel hbank hretry hlatched)
  case retryBank =>
    exact fun s c u htripped hlatched hu hchan => next_settled_congr (valveRetryFx_bank htripped hlatched hu hchan)
  case retryIdle => exact fun s c hbank hchan => next_settled_congr (valveRetryFx_idle hbank hchan)
  case openLoad =>
    exact fun s c n ua hclosed hoff hload hhalf hstn hnew =>
      next_settled_congr (lsLandLowFx_openLoad hclosed hoff hhalf hload hstn hnew)
  case leaks =>
    exact fun s c n ua hclosed hoff hleak hlow hhalf hstn hnew =>
      next_settled_congr (lsLandLowFx_leaks hclosed hoff hhalf hleak hlow hstn hnew)
  case opens => exact fun s c ua hclosed hoff h => next_settled_congr (lsLandLowFx_opens hclosed hoff h)
  case landIdle => exact fun s c ua h => next_settled_congr (lsLandLowFx_idle h)
  case escalates => exact fun s c ua hleak => next_settled_congr (leakEscalationFx_opens hleak)
  case leakEnds => exact fun s c ua hleak => next_settled_congr (leakClearedFx_clears hleak)
  case noLeak =>
    exact fun s c ua hleak =>
      ⟨next_settled_congr (leakEscalationFx_idle hleak), next_settled_congr (leakClearedFx_idle hleak)⟩
  case headroom =>
    exact fun s c n duty ua goal u _ hu hduty hruns hgoal hnear hshort hnew hstn =>
      next_settled_congr (valveHeadroomFx_headroom hu hduty hruns hstn hgoal hnear hshort hnew)
  case headroomOpen =>
    exact fun s c n duty ua goal u _ hu hduty hruns hgoal hbig hfar hnew hstn =>
      next_settled_congr (valveHeadroomFx_openLoad hu hduty hruns hstn hgoal hbig hfar hnew)
  case headroomIdle => exact fun s c duty ua hduty => next_settled_congr (valveHeadroomFx_idle hduty)
  case headroomCleared =>
    exact fun s c => ⟨next_settled_congr headroomClearedFx_headroom, next_settled_congr headroomClearedFx_openLoad⟩
  case unmeasured => exact fun s c n ms m u w1 hu hstn hw hm => next_settled_congr (coilModelStepFx_unmeasured hu hstn hw hm)
  case measured =>
    exact fun s c n ms m u w1 rr tm hu hstn hw hi hmeasures hrr htm hdiff =>
      next_settled_congr (coilModelStepFx_agrees hu hstn hw hi hmeasures hrr htm hdiff)
  case noStation => exact fun s c ms m hstn => next_settled_congr (coilModelStepFx_noStation hstn)
  case misses =>
    exact fun s c n slots hstn hinj hwindow husable hnone hfew =>
      next_settled_congr (kinkEvaluationFx_misses hstn hinj hwindow husable hnone hfew)
  case sticks =>
    exact fun s c n slots hstn hinj hwindow husable hnone hmany hnew =>
      next_settled_congr (kinkEvaluationFx_sticks hstn hinj hwindow husable hnone hmany hnew)
  case kink =>
    exact fun s c n k slots hstn hinj hwindow husable hkink hfew =>
      next_settled_congr (kinkEvaluationFx_kink hstn hinj hwindow husable hkink hfew)
  case kinkIdle => exact fun s c n slots hstn h => next_settled_congr (kinkEvaluationFx_idle hstn h)

end Sys2Proof.Machine

/-! Proofs of the statements of spec/11_field_io.md: what the zones and outputs that follow a supply leave alone, what the field
supplies, inputs, outputs and loops do, and where FIO_STATUS reports more inputs than its statement says. -/

namespace Sys2Proof.Machine

/-! ### What evaluating the zones leaves of the device-wide state (spec/09_zone_programmes.md R322) -/

/-! A supply that changes makes the zones be evaluated, and with them outputs be driven, parcels close, wheel entries act and
requests go to the island. None of it writes `State.sys`: the mode and whether Evver runs are those of before the event. -/

/-- A run of operations that each leave it alone. -/
theorem foldl_sys {α : Type} {f : State → α → State} (hf : ∀ t a, (f t a).sys = t.sys) (l : List α) (s : State) :
    (l.foldl f s).sys = s.sys :=
  List.foldlRecOn (motive := fun t => t.sys = s.sys) l f rfl fun t ht a _ => (hf t a).trans ht

section
variable (s : State)

/-! Entries of tables, events and ends of commands. -/

@[simp] theorem modFld_sys (n : Nat) (f : Field → Field) : (modFld n f s).sys = s.sys := rfl
@[simp] theorem modZone_sys (z : Nat) (f : Zone → Zone) : (modZone z f s).sys = s.sys := rfl
@[simp] theorem modChan_sys (c : Nat) (f : Chan → Chan) : (modChan c f s).sys = s.sys := rfl
@[simp] theorem modCoil_sys (c : Nat) (f : Coil → Coil) : (modCoil c f s).sys = s.sys := rfl
@[simp] theorem modBank_sys (b : Nat) (f : Bank → Bank) : (modBank b f s).sys = s.sys := rfl
@[simp] theorem modW_sys (c : Nat) (f : WChan → WChan) : (modW c f s).sys = s.sys := rfl
@[simp] theorem modParcels_sys (z : Nat) (f : Parcel → Parcel) : (modParcels z f s).sys = s.sys := rfl

@[simp] theorem note_sys (code : Nat) (fields : List Int) : (note code fields s).sys = s.sys := by rw [note_touches]

@[simp] theorem requestStore_sys (a : StoreAct) : (requestStore a s).sys = s.sys := rfl

@[simp] theorem finish_sys (o : Org) (status : Nat) (data : List Byte) : (finish o status data s).sys = s.sys := by
  rw [finish_touches]

/-! Field outputs and loops. -/

@[simp] theorem publish_sys (n flags : Nat) (v aux : Int) (t : Nat) : (publish n flags v aux t s).sys = s.sys := rfl

@[simp] theorem publishField_sys (n t : Nat) : (publishField n t s).sys = s.sys := by
  unfold publishField
  split <;> rfl

@[simp] theorem republishFields_sys : (republishFields s).sys = s.sys :=
  foldl_sys (fun t n => publishField_sys t n t.sys.devTime) ..

@[simp] theorem refreshFault_sys : (refreshFault s).sys = s.sys := by
  unfold refreshFault
  dsimp only
  split
  · rw [note_sys, onField_sys]
  · split
    · rw [note_sys, onField_sys]
    · rfl

@[simp] theorem setOut_sys (n : Nat) (v : Int) (bypass : Bool) : (setOut n v bypass s).sys = s.sys := by
  unfold setOut
  dsimp only
  repeat' split
  all_goals rfl

@[simp] theorem showOut_sys (n : Nat) (v : Int) : (showOut n v s).sys = s.sys := by simp [showOut]
@[simp] theorem driveField_sys (n : Nat) (v : Int) : (driveField n v s).sys = s.sys := by simp [driveField]
@[simp] theorem safeField_sys (n : Nat) : (safeField n s).sys = s.sys := by simp [safeField]
@[simp] theorem latchOff_sys (n : Nat) : (latchOff n s).sys = s.sys := by simp [latchOff]

/-! Valve channels and pulses. -/

@[simp] theorem touchChan_sys (c : Nat) : (touchChan c s).sys = s.sys := by rw [touchChan_valvesOnly c s]

@[simp] theorem decayTo_sys (c : Nat) (fast forced : Bool) (i0 i1 : Int) : (decayTo c fast forced i0 i1 s).sys = s.sys := by
  rw [decayTo_valvesOnly]

@[simp] theorem pulseOver_sys (c : Nat) : (pulseOver c s).sys = s.sys := by rw [pulseOver_valvesOnly]

@[simp] theorem driveProp_sys (c : Nat) (v : Int) (bypass : Bool) : (driveProp c v bypass s).sys = s.sys := by
  rw [driveProp_valvesOnly]

@[simp] theorem safeProp_sys (n : Nat) (bypass : Bool) : (safeProp n bypass s).sys = s.sys := by simp [safeProp]

@[simp] theorem doseShort_sys (z parcel : Nat) : (doseShort z parcel s).sys = s.sys := by
  unfold doseShort
  dsimp only
  split
  · rfl
  · split <;> rfl

@[simp] theorem refusePulse_sys (q : PulseReq) (cause : Nat) : (refusePulse q cause s).sys = s.sys := by
  unfold refusePulse
  dsimp only
  split <;> simp

@[simp] theorem startPulse_sys (q : PulseReq) : (startPulse q s).sys = s.sys := by
  unfold startPulse
  dsimp only
  split <;> simp

@[simp] theorem enqueuePulse_sys (q : PulseReq) : (enqueuePulse q s).sys = s.sys := rfl

@[simp] theorem pulseDue_sys (q : PulseReq) : (pulseDue q s).sys = s.sys := by
  unfold pulseDue
  dsimp only
  repeat' split
  all_goals simp

@[simp] theorem cutPulse_sys (c : Nat) : (cutPulse c s).sys = s.sys := by simp [cutPulse]

@[simp] theorem withdraw_sys (b : Nat) (p : PulseReq → Bool) : (withdraw b p s).sys = s.sys := by
  refine foldl_sys (fun t q => ?_) ..
  dsimp only
  split <;> simp

@[simp] theorem valvesSafe_sys (p : Nat → Bool) : (valvesSafe p s).sys = s.sys := by
  refine foldl_sys (fun t b => ?_) ..
  dsimp only
  split
  all_goals
    simp only [note_sys, withdraw_sys, foldl_sys (fun u c => cutPulse_sys u c)]
    refine foldl_sys (fun u c => ?_) ..
    repeat' split
    all_goals simp

@[simp] theorem setVfieldVd_sys (uv : Int) : (setVfieldVd uv s).sys = s.sys := by
  unfold setVfieldVd
  dsimp only [onPower_sys, onField_sys, onValves_sys]
  refine foldl_sys (fun t c => ?_) ..
  rw [modChan_sys, touchChan_sys]

/-! Outputs by station, bus objects and wheel entries. -/

@[simp] theorem driveAny_sys (n : Nat) (v : Int) : (driveAny n v s).sys = s.sys := by
  unfold driveAny
  repeat' split
  all_goals simp

@[simp] theorem entryDrive_sys (n : Nat) (v : Int) : (entryDrive n v s).sys = s.sys := by
  unfold entryDrive
  repeat' split
  all_goals simp

@[simp] theorem safeAny_sys (n : Nat) : (safeAny n s).sys = s.sys := by
  unfold safeAny
  repeat' split
  all_goals simp

@[simp] theorem sendObj_sys (c k : Nat) (f : TxFrame) : (sendObj c k f s).sys = s.sys := by
  unfold sendObj
  dsimp only
  split
  · rfl
  · split <;> rfl

@[simp] theorem driveRef_sys (k ref cmd : Nat) : (driveRef k ref cmd s).sys = s.sys := by
  unfold driveRef
  dsimp only
  repeat' split
  all_goals simp [modObj]

@[simp] theorem checkSpill_sys : (checkSpill s).sys = s.sys := by
  unfold checkSpill
  dsimp only
  repeat' split
  all_goals simp

@[simp] theorem serveWheelWait_sys (d : Side) : (serveWheelWait d s).sys = s.sys := by
  unfold serveWheelWait
  dsimp only
  repeat' split
  all_goals simp

@[simp] theorem outcome_sys (e : Entry) (code : Nat) : (outcome e code s).sys = s.sys := by
  unfold outcome
  dsimp only
  repeat' split
  all_goals simp

@[simp] theorem inletFor_sys (z : Nat) (p : Parcel) : (inletFor z p s).2.sys = s.sys := by
  unfold inletFor
  dsimp only
  repeat' split
  all_goals simp

@[simp] theorem outDrive_sys (z : Nat) : (outDrive z s).sys = s.sys := by
  unfold outDrive
  dsimp only
  repeat' split
  all_goals simp

@[simp] theorem horizonUpdate_sys (z parcel : Nat) : (horizonUpdate z parcel s).sys = s.sys := by
  unfold horizonUpdate
  split
  · next p _ _ _ =>
    have hinlet := inletFor_sys s z p
    dsimp only
    split
    · exact hinlet
    · rw [outDrive_sys, modZone_sys, modParcels_sys]
      repeat' split
      all_goals simp
  · rfl

@[simp] theorem sampleStation_sys (n : Nat) : (sampleStation n s).sys = s.sys := by
  unfold sampleStation
  dsimp only
  repeat' split
  all_goals simp

@[simp] theorem actEntry_sys (e : Entry) (code : Nat) : (actEntry e code s).sys = s.sys := by
  unfold actEntry
  dsimp only
  split
  · exact outcome_sys ..
  · rw [outcome_sys]
    split <;> simp
  · split
    · rw [outcome_sys]
      repeat' split
      all_goals simp
    · split
      · rfl
      · rw [outcome_sys]
        repeat' split
        all_goals simp

@[simp] theorem nextHandle_sys : (nextHandle s).sys = s.sys := by rw [nextHandle, onFelt_sys]
@[simp] theorem wheelFull_sys (e : Entry) : (wheelFull e s).sys = s.sys := by rw [wheelFull, onFelt_sys, note_sys]
@[simp] theorem putEntry_sys (e : Entry) (spilled : Bool) : (putEntry e spilled s).sys = s.sys := by
  rw [putEntry, checkSpill_sys, onFelt_sys]

@[simp] theorem programmeEntry_sys (e : Entry) : (programmeEntry e s).2.sys = s.sys := by
  simp only [programmeEntry]
  split
  · rfl
  · split
    · rw [actEntry_sys, nextHandle_sys]
    · split
      · rw [wheelFull_sys]
      · rw [putEntry_sys]

/-! Parcels. -/

theorem sys_of_programmeEntry {u t : State} {e : Entry} {ok : Bool} (h : programmeEntry e u = (ok, t)) : t.sys = u.sys := by
  rw [← programmeEntry_sys u e, h]

@[simp] theorem temperDose_sys (z : Nat) (p : Parcel) : (temperDose z p s).sys = s.sys := by
  unfold temperDose
  extract_lets b used np mass
  split
  next m s1 hm =>
  have h1 : s1.sys = s.sys := by
    split at hm
    · cases hm
      rfl
    · rw [← inletFor_sys s z p, hm]
  extract_lets s2
  have h2 : s2.sys = s.sys := (modParcels_sys ..).trans h1
  split
  · exact (doseShort_sys ..).trans h2
  · extract_lets s3 s4
    have h3 : s3.sys = s.sys := (modZone_sys ..).trans h2
    split
    · exact h3
    · have h4 : s4.sys = s.sys := by
        refine (foldl_sys (fun t i => ?_) ..).trans h3
        extract_lets us t0 len t1
        have ht0 : t0.sys = t.sys := modZone_sys ..
        split
        · rw [note_sys, doseShort_sys, ht0]
        · have ht1 : t1.sys = t.sys := by
            subst t1
            split
            · rw [note_sys, doseShort_sys, ht0]
            · exact ht0
          refine (foldl_sys (fun u j => ?_) ..).trans ht1
          extract_lets e
          split
          · exact doseShort_sys ..
          · split
            next ok v hv =>
            split
            · exact sys_of_programmeEntry hv
            · exact (doseShort_sys ..).trans (sys_of_programmeEntry hv)
      split
      · exact h4
      · exact (modZone_sys ..).trans h4

@[simp] theorem scheduleFor_sys (z : Nat) (p : Parcel) : (scheduleFor z p s).sys = s.sys := by
  unfold scheduleFor
  extract_lets f outlet s1
  have h1 : s1.sys = s.sys := by
    subst s1
    split
    · split
      next ok t ht =>
      split
      · exact sys_of_programmeEntry ht
      · exact (modParcels_sys ..).trans (sys_of_programmeEntry ht)
    · rfl
  split
  · exact (programmeEntry_sys ..).trans h1
  · exact (temperDose_sys ..).trans h1
  · exact h1

@[simp] theorem noteAccepted_sys (z : Nat) (p : Parcel) : (noteAccepted z p s).sys = s.sys := by
  unfold noteAccepted
  split <;> rfl

@[simp] theorem closeParcel_sys (z pos : Nat) : (closeParcel z pos s).sys = s.sys := by
  unfold closeParcel
  dsimp only
  split <;> simp

/-! Records of the island, and requests to it. -/

theorem withParams_sys {f : State → State} (hf : ∀ t, (f t).sys = t.sys) (ps : List IParam) :
    (withParams ps f s).sys = s.sys := by
  rw [withParams, onIsland_sys, hf, onIsland_sys]

theorem underParams_sys {f : State → State} (hf : ∀ t, (f t).sys = t.sys) (t0 : Nat) : (underParams t0 f s).sys = s.sys := by
  unfold underParams
  split
  · exact withParams_sys s hf _
  · exact hf s

@[simp] theorem refreshTempHot_sys : (refreshTempHot s).sys = s.sys := rfl

@[simp] theorem askSeq_sys : (askSeq s).sys = s.sys := by rw [(askSeq_keepsCapture s).1]

@[simp] theorem makeGraded_sys (term rtype : Nat) (why : BitVec 16) (t0 t1 : Nat) (body : List Byte) :
    (makeGraded term rtype why t0 t1 body s).sys = s.sys := (makeGraded_keepsCapture ..).1

@[simp] theorem makeRecord_sys (term rtype : Nat) (own : BitVec 16) (t0 t1 : Nat) (body : List Byte) :
    (makeRecord term rtype own t0 t1 body s).sys = s.sys := (makeRecord_keepsCapture ..).1

@[simp] theorem massRecord_sys (c cause : Nat) : (massRecord c cause s).sys = s.sys :=
  underParams_sys s (fun t => by simp) _

@[simp] theorem cycleRecord_sys (c : Nat) (full empty : Option Int) (load total : Int) (flags : BitVec 8) :
    (cycleRecord c full empty load total flags s).sys = s.sys := by
  unfold cycleRecord
  dsimp only
  rw [modW_sys, makeGraded_sys, refreshTempHot_sys]
  split
  · exact note_sys ..
  · rfl

@[simp] theorem setZero_sys (c source : Nat) (z : Rat) (initial : Bool) : (setZero c source z initial s).sys = s.sys := by
  simp [setZero]

@[simp] theorem doZero_sys (c source : Nat) : (doZero c source s).2.sys = s.sys := by
  unfold doZero
  dsimp only
  repeat' split
  all_goals simp

@[simp] theorem doTare_sys (c source : Nat) : (doTare c source s).2.sys = s.sys := by
  unfold doTare
  repeat' split
  all_goals simp

@[simp] theorem cycleStore_sys (c next : Nat) : (cycleStore c next s).sys = s.sys := by
  unfold cycleStore
  dsimp only
  split
  · rfl
  · rw [requestStore_sys]
    split <;> simp

@[simp] theorem answerReq_sys (c : Nat) (q : WReq) (status no : Nat) : (answerReq c q status no s).sys = s.sys := by
  unfold answerReq
  dsimp only
  repeat' split
  all_goals simp

@[simp] theorem actReq_sys (c kind source : Nat) : (actReq c kind source s).2.sys = s.sys := by
  unfold actReq
  split
  all_goals try split
  all_goals simp

@[simp] theorem wgtAsk_sys (c : Nat) (q : WReq) : (wgtAsk c q s).2.sys = s.sys := by
  unfold wgtAsk
  dsimp only
  repeat' split
  all_goals simp

@[simp] theorem weighSend_sys (z kind : Nat) : (weighSend z kind s).2.sys = s.sys := by
  unfold weighSend
  dsimp only
  repeat' split
  all_goals simp

/-! Zones. -/

@[simp] theorem setZone_sys (z st phase cause : Nat) : (setZone z st phase cause s).sys = s.sys := by
  unfold setZone
  dsimp only
  split <;> simp

@[simp] theorem setPhase_sys (z phase : Nat) : (setPhase z phase s).sys = s.sys := setZone_sys ..

@[simp] theorem siloSafe_sys (z : Nat) : (siloSafe z s).sys = s.sys := by
  unfold siloSafe
  split <;> simp [siloCount]

@[simp] theorem safeZone_sys (z : Nat) : (safeZone z s).sys = s.sys := by
  unfold safeZone
  dsimp only
  rw [modZone_sys, siloSafe_sys]
  split <;> simp [foldl_sys (fun t n => safeField_sys t n)]

@[simp] theorem goIdle_sys (z cause : Nat) : (goIdle z cause s).sys = s.sys := by simp [goIdle]

@[simp] theorem raiseCause_sys (z bit station : Nat) : (raiseCause z bit station s).sys = s.sys := by
  unfold raiseCause
  dsimp only
  repeat' split
  all_goals simp

@[simp] theorem fansTo_sys (z : Nat) (on : Bool) : (fansTo z on s).sys = s.sys := by
  refine foldl_sys (fun t n => ?_) ..
  split <;> simp

@[simp] theorem valveTo_sys (z : Nat) (ua : Rat) : (valveTo z ua s).sys = s.sys := by simp [valveTo]

@[simp] theorem burnerTo_sys (z : Nat) (on : Bool) : (burnerTo z on s).sys = s.sys := by
  unfold burnerTo
  dsimp only
  split <;> simp

@[simp] theorem heatOff_sys (z : Nat) : (heatOff z s).sys = s.sys := by simp [heatOff]

@[simp] theorem enterPhase_sys (z st phase : Nat) : (enterPhase z st phase s).sys = s.sys := by
  unfold enterPhase
  dsimp only
  repeat' split
  all_goals simp

@[simp] theorem beginStop_sys (z : Nat) : (beginStop z s).sys = s.sys := by
  unfold beginStop
  dsimp only
  repeat' split
  all_goals simp

@[simp] theorem weighStep_sys (z kind phase : Nat) : (weighStep z kind phase s).sys = s.sys := by
  unfold weighStep
  dsimp only
  repeat' split
  all_goals simp

@[simp] theorem weighEnter_sys (z phase : Nat) : (weighEnter z phase s).sys = s.sys := by
  unfold weighEnter
  dsimp only
  split <;> simp

@[simp] theorem batchRun_sys (z : Nat) : (batchRun z s).sys = s.sys := by simp [batchRun]

@[simp] theorem proofsSeen_sys (z : Nat) : (proofsSeen z s).sys = s.sys := by
  unfold proofsSeen
  dsimp only
  split <;> rfl

theorem weighEval_sys (z : Nat) : ∀ t ∈ weighEval z s, t.sys = s.sys := by
  unfold weighEval
  dsimp only
  repeat' split
  all_goals simp

theorem heatEval_sys (z : Nat) : ∀ t ∈ heatEval z s, t.sys = s.sys := by
  unfold heatEval
  dsimp only
  repeat' split
  all_goals simp

theorem zoneStep1_sys (z : Nat) : ∀ t ∈ zoneStep1 z s, t.sys = s.sys := by
  unfold zoneStep1
  dsimp only
  split
  · simp
  · split
    · simp
    · split
      · simp
      · split
        · exact heatEval_sys s z
        · exact heatEval_sys s z
        · split <;> simp
        · split
          · simp
          · split <;> simp
        · exact weighEval_sys s z
        · split <;> simp

end

theorem zoneEval_sys (fuel z : Nat) (s : State) : (zoneEval fuel z s).sys = s.sys := by
  induction fuel generalizing s with
  | zero => rfl
  | succ fuel ih =>
    rw [zoneEval]
    split
    next t ht => rw [ih, zoneStep1_sys _ z t ht, proofsSeen_sys]
    next => exact proofsSeen_sys ..

@[simp] theorem zonesEval_sys (s : State) : (zonesEval s).sys = s.sys := by
  unfold zonesEval
  split
  · rfl
  · exact foldl_sys (fun t z => zoneEval_sys 16 z t) ..

/-! ### Field supplies (spec/10_valve_drive.md R353; spec/11_field_io.md R403; spec/18_power_reservoir_thermal.md R560) -/

@[simp] theorem setSupply_sys (supply : Nat) (uv : Int) (s : State) : (setSupply supply uv s).sys = s.sys := by
  unfold setSupply
  dsimp only
  repeat' split
  all_goals simp

/-- The supervisor serves the supply monitors by the mode alone. -/
theorem watched_congr {s t : State} (h : t.sys = s.sys) : watched t = watched s := by rw [watched, h, watched]

/-- When the sag of a supply that stands was confirmed. -/
def sagOf (supply : Nat) (s : State) : Option Int := if supply = 0 then s.field.sagIo else s.field.sagVd

/-- The sag of a supply is kept, or its end. -/
def keepSag (supply : Nat) (q : Option Int) (s : State) : State :=
  onField (fun f => if supply = 0 then { f with sagIo := q } else { f with sagVd := q }) s

/-- A supply sags that did not: the sag stands, and every field output is latched off and recorded (R403). -/
def sagged (supply : Nat) (uv : Int) (s : State) : State :=
  let u := keepSag supply (some (s.sys.devTime : Int)) (setSupply supply uv s)
  note 0x0A21 [supply, mvOf uv, outputsOn s] ((stationsOfType u 0x41).foldl (fun t n => latchOff n t) u)

/-- A sag that stood since `q` is over, and is recorded (R403). -/
def sagEnded (supply : Nat) (uv q : Int) (s : State) : State :=
  drawn 1 (note 0x0A22 [supply, sagMs q (if supply = 0 then s.field.lowIoAt else s.field.lowVdAt) s]
    (keepSag supply none (setSupply supply uv s)))

/-- The high-side switches of every valve bank are cut off for their supply, or no longer (R353). -/
def cutBanks (on : Bool) (s : State) : State :=
  modBank 2 (fun k => { k with lowCut := on }) (modBank 1 (fun k => { k with lowCut := on })
    (modBank 0 (fun k => { k with lowCut := on }) s))

section
variable {supply : Nat} {uv q : Int} {s : State}

theorem keepSag_sys (q : Option Int) : (keepSag supply q s).sys = s.sys := rfl

theorem sagged_sys : (sagged supply uv s).sys = s.sys := by
  rw [sagged, note_sys, foldl_sys (fun t n => latchOff_sys t n), keepSag_sys, setSupply_sys]

/-- What is told of the one supply or of the other. -/
theorem sagOf_of {p : Option Int → Prop} (h : (supply = 0 ∧ p s.field.sagIo) ∨ (supply = 1 ∧ p s.field.sagVd)) :
    supply ≤ 1 ∧ p (sagOf supply s) := by
  rcases h with ⟨rfl, h⟩ | ⟨rfl, h⟩
  · exact ⟨Nat.zero_le 1, h⟩
  · exact ⟨Nat.le_refl 1, h⟩

theorem vfieldLowFx_there (hsupply : supply ≤ 1) : vfieldLowFx supply uv s = setSupply supply uv s :=
  if_neg (Nat.not_lt.mpr hsupply)

theorem vfieldLowFx_absent (habsent : 1 < supply) : vfieldLowFx supply uv s = s := if_pos habsent

theorem vfieldSagFx_idle (h : 1 < supply ∨ 15000000 ≤ uv) : vfieldSagFx supply uv s = s := by
  have hidle : (decide (supply > 1) || decide (uv ≥ 15000000)) = true := by simpa using h
  exact if_pos hidle

theorem vfieldRecoveredFx_idle (h : 1 < supply ∨ uv ≤ 18000000) : vfieldRecoveredFx supply uv s = s := by
  have hidle : (decide (supply > 1) || decide (uv ≤ 18000000)) = true := by simpa using h
  exact if_pos hidle

section
variable (hsupply : supply ≤ 1)
include hsupply

section
variable (hlow : uv < 15000000)
include hlow

/-- What a voltage below 15.0 V comes to. -/
theorem vfieldSagFx_eq :
    vfieldSagFx supply uv s =
      if (sagOf supply s).isSome then setSupply supply uv s
      else
        let u := keepSag supply (some (s.sys.devTime : Int)) (setSupply supply uv s)
        let t := (stationsOfType u 0x41).foldl (fun t n => latchOff n t) u
        let w := if s.sys.ready then note 0x0A21 [supply, mvOf uv, outputsOn s] t else t
        if watched s then setCause (3 + supply) true w else w := by
  have hacts : ¬ (decide (supply > 1) || decide (uv ≥ 15000000)) = true := by simp [hsupply, hlow]
  exact if_neg hacts

theorem vfieldSagFx_again (hsags : sagOf supply s ≠ none) : vfieldSagFx supply uv s = setSupply supply uv s := by
  rw [vfieldSagFx_eq hsupply hlow, if_pos (Option.isSome_iff_ne_none.mpr hsags)]

theorem vfieldSagFx_sags (hnew : sagOf supply s = none) (hready : s.sys.ready = true)
    (hwatched : watched (sagged supply uv s) = true) :
    vfieldSagFx supply uv s = setCause (3 + supply) true (sagged supply uv s) := by
  rw [watched_congr sagged_sys] at hwatched
  rw [vfieldSagFx_eq hsupply hlow, hnew]
  simp only [Option.isSome_none, Bool.false_eq_true, if_false, hready, hwatched, if_true]
  rfl

end

section
variable (hhigh : 18000000 < uv)
include hhigh

theorem vfieldRecoveredFx_again (hnone : sagOf supply s = none) : vfieldRecoveredFx supply uv s = setSupply supply uv s := by
  have hacts : ¬ (decide (supply > 1) || decide (uv ≤ 18000000)) = true := by simp [hsupply, hhigh]
  unfold sagOf at hnone
  simp only [vfieldRecoveredFx, if_neg hacts, hnone]

theorem vfieldRecoveredFx_recovers (hsags : sagOf supply s = some q) (hready : s.sys.ready = true)
    (hwatched : watched (keepSag supply none (setSupply supply uv s)) = true) :
    vfieldRecoveredFx supply uv s = setCause (3 + supply) false (sagEnded supply uv q s) := by
  have hacts : ¬ (decide (supply > 1) || decide (uv ≤ 18000000)) = true := by simp [hsupply, hhigh]
  rw [watched_congr ((keepSag_sys _).trans (setSupply_sys ..))] at hwatched
  unfold sagOf at hsags
  simp only [vfieldRecoveredFx, if_neg hacts, hsags, hready, hwatched, if_true]
  rfl

end
end

theorem vfieldVdCutoffFx_cuts (hlow : uv < 10000000) : vfieldVdCutoffFx uv s = cutBanks true (setSupply 1 uv s) := if_pos hlow

theorem vfieldVdCutoffFx_above (h : 10000000 ≤ uv) : vfieldVdCutoffFx uv s = setSupply 1 uv s := if_neg (Int.not_lt.mpr h)

theorem vfieldVdRestoredFx_restores (hhigh : 12000000 < uv) : vfieldVdRestoredFx uv s = cutBanks false (setSupply 1 uv s) :=
  if_pos hhigh

theorem vfieldVdRestoredFx_below (h : uv ≤ 12000000) : vfieldVdRestoredFx uv s = setSupply 1 uv s := if_neg (Int.not_lt.mpr h)

end

/-- Settles O26: the supply, its voltage and the sag that stands decide. The supplies' monitors are served as before the event,
since neither the zones nor the outputs that follow a supply change the mode. -/
theorem fieldSuppliesAct : Obligations.FieldSuppliesAct := by
  unfold Obligations.FieldSuppliesAct
  refine ⟨?low, ?sags, ?recovers, ?sagsAgain, ?noSag, ?idle, ?absent, ?between, ?cutoff, ?restored, ?noSupply⟩
  case low => exact fun s supply uv hsupply => next_settled_congr (vfieldLowFx_there hsupply)
  case sags =>
    rintro s supply uv _ _ hlow h rfl rfl hready hwatched
    obtain ⟨hsupply, hnew⟩ := sagOf_of (p := (· = none)) h
    exact next_settled_congr (vfieldSagFx_sags hsupply hlow hnew hready hwatched)
  case recovers =>
    rintro s supply uv q _ hhigh h rfl hready hwatched
    obtain ⟨hsupply, hsags⟩ := sagOf_of (p := (· = some q)) h
    exact next_settled_congr (vfieldRecoveredFx_recovers hsupply hhigh hsags hready hwatched)
  case sagsAgain =>
    intro s supply uv hlow h
    obtain ⟨hsupply, hsags⟩ := sagOf_of (p := (· ≠ none)) h
    exact next_settled_congr (vfieldSagFx_again hsupply hlow hsags)
  case noSag =>
    intro s supply uv hhigh h
    obtain ⟨hsupply, hnone⟩ := sagOf_of (p := (· = none)) h
    exact next_settled_congr (vfieldRecoveredFx_again hsupply hhigh hnone)
  case idle =>
    exact fun s supply uv h =>
      ⟨next_settled_congr (vfieldSagFx_idle (h.imp_right And.left)),
        next_settled_congr (vfieldRecoveredFx_idle (h.imp_right And.right))⟩
  case absent => exact fun s supply uv habsent => next_settled_congr (vfieldLowFx_absent habsent)
  case between =>
    exact fun s uv hlo hhi =>
      ⟨next_settled_congr (vfieldVdCutoffFx_above hlo), next_settled_congr (vfieldVdRestoredFx_below hhi)⟩
  case cutoff => exact fun s uv hlow => next_settled_congr (vfieldVdCutoffFx_cuts hlow)
  case restored => exact fun s uv hhigh => next_settled_congr (vfieldVdRestoredFx_restores hhigh)
  case noSupply => exact fun s uv => rfl

/-! ### Field inputs (spec/11_field_io.md R392) -/

theorem modFld_congr {n : Nat} {f g : Field → Field} {s : State} (h : f (fld s n) = g (fld s n)) :
    modFld n f s = modFld n g s :=
  congrArg (fun k => onField (fun x => { x with stations := tset s.field.stations n k }) s) h

/-- The edge comes less than 50 µs after the one before it. -/
def edgeClose (s : State) (n : Nat) : Bool :=
  match (fld s n).lastEdge with
  | some t => decide (s.sys.devTime < t + 50000)
  | none => false

/-- An edge is counted. -/
def edgeCounted (n : Nat) (s : State) : State :=
  modFld n (fun f =>
    { f with
      count := w32 (f.count + 1), rateHigh := edgeClose s n, lastEdge := some s.sys.devTime,
      value := if inMode s n = 1 then s32 (f.count + 1) else f.value }) (seeLevel n true s)

/-- The end of a gate of a FREQUENCY input (R392). -/
def gateEnd (s : State) (n : Nat) : Nat := (fld s n).gateStart + g4 (stnPart s n) 8 * 1000000

section
variable {s : State} {n : Nat}

theorem edgeClose_slow (h : ∀ q, (fld s n).lastEdge = some q → q + 50000 ≤ s.sys.devTime) : edgeClose s n = false := by
  unfold edgeClose
  split
  next t ht => exact decide_eq_false (Nat.not_lt.mpr (h t ht))
  next => rfl

theorem edgeClose_soon {q : Nat} (hlast : (fld s n).lastEdge = some q) (h : s.sys.devTime < q + 50000) :
    edgeClose s n = true := by
  simp [edgeClose, hlast, h]

theorem edgeCounted_count (hmode : inMode s n = 1) :
    edgeCounted n s =
      modFld n (fun f =>
        { f with
          count := w32 (f.count + 1), rateHigh := edgeClose s n, lastEdge := some s.sys.devTime, value := s32 (f.count + 1) })
        (seeLevel n true s) := by
  simp only [edgeCounted, hmode, if_true]

theorem edgeCounted_frequency (hmode : inMode s n = 2) :
    edgeCounted n s =
      modFld n (fun f => { f with count := w32 (f.count + 1), rateHigh := edgeClose s n, lastEdge := some s.sys.devTime })
        (seeLevel n true s) := by
  simp [edgeCounted, hmode]

theorem fioInputChangeFx_idle {lvl : Bool} {q : Nat} (h : inputRuns s n = false ∨ inLevel s n = lvl) :
    fioInputChangeFx n lvl q s = s := by
  have hidle : (!inputRuns s n || inLevel s n == lvl) = true := by simpa using h
  exact if_pos hidle

theorem fioCountEdgeFx_idle (h : inputRuns s n = false ∨ inMode s n = 0) : fioCountEdgeFx n s = s := by
  have hidle : (!inputRuns s n || decide (inMode s n = 0)) = true := by simpa using h
  exact if_pos hidle

section
variable (hruns : inputRuns s n = true)
include hruns

section
variable {lvl : Bool} {q : Nat} (hnew : inLevel s n ≠ lvl)
include hnew

/-- What a new level comes to. -/
theorem fioInputChangeFx_eq :
    fioInputChangeFx n lvl q s =
      if inMode s n != 0 then seeLevel n lvl s
      else inputWakes n (zonesInput n (publishField n (min q s.sys.devTime)
        (modFld n (fun f => { f with value := levelValue (seeLevel n lvl s) n }) (seeLevel n lvl s)))) := by
  have hacts : ¬ (!inputRuns s n || inLevel s n == lvl) = true := by simp [hruns, hnew]
  exact if_neg hacts

theorem fioInputChangeFx_level (hmode : inMode s n = 0) :
    fioInputChangeFx n lvl q s =
      inputWakes n (zonesInput n (publishField n (min q s.sys.devTime)
        (modFld n (fun f => { f with value := levelValue (seeLevel n lvl s) n }) (seeLevel n lvl s)))) := by
  rw [fioInputChangeFx_eq hruns hnew, hmode, bne_self_eq_false, if_neg Bool.false_ne_true]

theorem fioInputChangeFx_other (hmode : inMode s n ≠ 0) : fioInputChangeFx n lvl q s = seeLevel n lvl s := by
  rw [fioInputChangeFx_eq hruns hnew, if_pos (bne_iff_ne.mpr hmode)]

end

/-- What an edge comes to. -/
theorem fioCountEdgeFx_eq (hmode : inMode s n ≠ 0) :
    fioCountEdgeFx n s =
      let u := if edgeClose s n then note 0x0A13 [n] (edgeCounted n s) else edgeCounted n s
      inputWakes n (if inMode s n = 1 then zonesInput n (publishField n s.sys.devTime u) else u) := by
  have hacts : ¬ (!inputRuns s n || decide (inMode s n = 0)) = true := by simp [hruns, hmode]
  exact if_neg hacts

section
variable (hmode : inMode s n = 1)
include hmode

theorem fioCountEdgeFx_count (hslow : edgeClose s n = false) :
    fioCountEdgeFx n s = inputWakes n (zonesInput n (publishField n s.sys.devTime (edgeCounted n s))) := by
  simp [fioCountEdgeFx_eq hruns, hmode, hslow]

theorem fioCountEdgeFx_countFast (hfast : edgeClose s n = true) :
    fioCountEdgeFx n s =
      inputWakes n (zonesInput n (publishField n s.sys.devTime (note 0x0A13 [n] (edgeCounted n s)))) := by
  simp [fioCountEdgeFx_eq hruns, hmode, hfast]

end

theorem fioCountEdgeFx_frequency (hmode : inMode s n = 2) (hslow : edgeClose s n = false) :
    fioCountEdgeFx n s = inputWakes n (edgeCounted n s) := by
  simp [fioCountEdgeFx_eq hruns, hmode, hslow]

end

theorem fioFreqGateFx_ends (hruns : fieldRuns s = true) (hin : isFieldIn s n = true) (hmode : inMode s n = 2)
    (hend : gateEnd s n ≤ s.sys.devTime) :
    fioFreqGateFx n s =
      zonesInput n (publishField n s.sys.devTime (modFld n (fun f =>
        { f with value := roundDiv (f.count * 1000) (g4 (stnPart s n) 8), count := 0, gateStart := s.sys.devTime }) s)) := by
  have hacts : ¬ (!fieldRuns s || !isFieldIn s n || inMode s n != 2 || decide (s.sys.devTime < gateEnd s n)) = true := by
    simp [hruns, hin, hmode, hend]
  exact if_neg hacts

theorem fioFreqGateFx_idle
    (h : fieldRuns s = false ∨ isFieldIn s n = false ∨ inMode s n ≠ 2 ∨ s.sys.devTime < gateEnd s n) :
    fioFreqGateFx n s = s := by
  have hidle : (!fieldRuns s || !isFieldIn s n || inMode s n != 2 || decide (s.sys.devTime < gateEnd s n)) = true := by
    simpa [or_assoc] using h
  exact if_pos hidle

/-! ### Output faults and command timeouts (spec/11_field_io.md R398–R400; spec/01_one_view.md R40) -/

theorem fioOutputFaultFx_faults (hruns : fieldRuns s = true) (hout : isFieldOut s n = true) (hover : blankingOver s n = true) :
    fioOutputFaultFx n s = refreshFault (modFld n (fun f => { f with faulted := true }) s) := by
  simp [fioOutputFaultFx, hruns, hout, hover]

theorem fioOutputFaultFx_idle (h : fieldRuns s = false ∨ isFieldOut s n = false ∨ blankingOver s n = false) :
    fioOutputFaultFx n s = s := by
  have hidle : (!fieldRuns s || !isFieldOut s n || !blankingOver s n) = true := by simpa [or_assoc] using h
  exact if_pos hidle

theorem fioOutputFaultClearFx_clears (hout : isFieldOut s n = true) :
    fioOutputFaultClearFx n s = refreshFault (modFld n (fun f => { f with faulted := false }) s) := by
  simp [fioOutputFaultClearFx, hout]

theorem fioOutputFaultClearFx_idle (hother : isFieldOut s n = false) : fioOutputFaultClearFx n s = s := by
  simp [fioOutputFaultClearFx, hother]

theorem outputCmdTimeoutFx_acts (h : s.absorb.reexecuting = false) : outputCmdTimeoutFx n s = outputTimeout n s := by
  simp [outputCmdTimeoutFx, h]

theorem outputCmdTimeoutFx_waits (h : s.absorb.reexecuting = true) : outputCmdTimeoutFx n s = s := if_pos h

theorem outputTimeout_runsOut (hout : isFieldOut s n = true ∨ isLoopOut s n = true) (htimeout : cmdTimeout s n ≠ 0)
    (hsafe : (fld s n).safe = false) (hcommander : (fld s n).commander.isSome = true)
    (htime : (fld s n).cmdAt + cmdTimeout s n * 1000000 ≤ s.sys.devTime) :
    outputTimeout n s = note 0x0A30 [n, cmdTimeout s n] (safeField n (modFld n (fun f => { f with timedOut := true }) s)) := by
  have houtput : (isFieldOut s n || isLoopOut s n) = true := by simpa using hout
  have hnone : (fld s n).commander.isNone = false := by simpa using hcommander
  simp [outputTimeout, houtput, htimeout, hsafe, hnone, Nat.not_lt.mpr htime]

/-! ### Loop deviations (spec/11_field_io.md R406) -/

/-- The loop is open rather than off its setpoint: of 3.6 mA or more, less than 100 µA flow. -/
abbrev loopOpens (s : State) (n : Nat) (ua : Int) : Prop := 3600 ≤ loopTarget s n s.sys.devTime ∧ ua < 100

/-- A loop is measured away from its setpoint, as an event tells it. -/
def deviated (n : Nat) (ua mv : Int) (s : State) : State :=
  publishField n s.sys.devTime (modFld n (fun f =>
    { f with
      measured := ua, termMv := some mv, openLoop := f.openLoop || decide (loopOpens s n ua),
      loopFault := f.loopFault || !decide (loopOpens s n ua) }) s)

variable {ua mv : Int}

/-- What is told of a loop that is measured away from its setpoint is told of the present entry of its station. -/
theorem deviated_congr {f : Field → Field}
    (h : { fld s n with
      measured := ua, termMv := some mv, openLoop := (fld s n).openLoop || decide (loopOpens s n ua),
      loopFault := (fld s n).loopFault || !decide (loopOpens s n ua) } = f (fld s n)) :
    deviated n ua mv s = publishField n s.sys.devTime (modFld n f s) :=
  congrArg (publishField n s.sys.devTime) (modFld_congr h)

theorem loopOutputDeviationFx_idle
    (h : fieldRuns s = false ∨ isLoopOut s n = false ∨ (loopTarget s n s.sys.devTime - ua).natAbs ≤ 50) :
    loopOutputDeviationFx n ua mv s = s := by
  have hidle : (!fieldRuns s || !isLoopOut s n || decide ((loopTarget s n s.sys.devTime - ua).natAbs ≤ 50)) = true := by
    simpa [or_assoc] using h
  exact if_pos hidle

theorem loopOutputRecoveredFx_idle
    (h : fieldRuns s = false ∨ isLoopOut s n = false ∨ 50 < (ua - loopTarget s n s.sys.devTime).natAbs) :
    loopOutputRecoveredFx n ua mv s = s := by
  have hidle : (!fieldRuns s || !isLoopOut s n || decide ((ua - loopTarget s n s.sys.devTime).natAbs > 50)) = true := by
    simpa [or_assoc] using h
  exact if_pos hidle

section
variable (hruns : fieldRuns s = true) (hloop : isLoopOut s n = true)
include hruns hloop

theorem loopOutputRecoveredFx_recovers (hnear : (ua - loopTarget s n s.sys.devTime).natAbs ≤ 50) :
    loopOutputRecoveredFx n ua mv s =
      publishField n s.sys.devTime
        (modFld n (fun f => { f with measured := ua, termMv := some mv, loopFault := false, openLoop := false }) s) := by
  have hacts : ¬ (!fieldRuns s || !isLoopOut s n || decide ((ua - loopTarget s n s.sys.devTime).natAbs > 50)) = true := by
    simp [hruns, hloop, hnear]
  exact if_neg hacts

/-- What a deviation comes to. -/
theorem loopOutputDeviationFx_eq (hfar : 50 < (loopTarget s n s.sys.devTime - ua).natAbs) :
    loopOutputDeviationFx n ua mv s =
      if loopOpens s n ua then
        if (fld s n).openLoop then deviated n ua mv s else note 0x0A32 [n] (deviated n ua mv s)
      else if (fld s n).loopFault then deviated n ua mv s
      else note 0x0A31 [n, loopTarget s n s.sys.devTime, ua] (deviated n ua mv s) := by
  have hacts : ¬ (!fieldRuns s || !isLoopOut s n || decide ((loopTarget s n s.sys.devTime - ua).natAbs ≤ 50)) = true := by
    simp [hruns, hloop, hfar]
  simp only [loopOutputDeviationFx, if_neg hacts, deviated, loopOpens, Bool.decide_and, Bool.and_eq_true, decide_eq_true_eq,
    ge_iff_le]

theorem loopOutputDeviationFx_opens (ha : ua < 100) (hgoal : 3600 ≤ loopTarget s n s.sys.devTime)
    (hnew : (fld s n).openLoop = false) :
    loopOutputDeviationFx n ua mv s =
      note 0x0A32 [n] (publishField n s.sys.devTime
        (modFld n (fun f => { f with measured := ua, termMv := some mv, openLoop := true }) s)) := by
  have hopens : loopOpens s n ua := ⟨hgoal, ha⟩
  have hentry : deviated n ua mv s = publishField n s.sys.devTime
      (modFld n (fun f => { f with measured := ua, termMv := some mv, openLoop := true }) s) :=
    deviated_congr (by simp [hopens])
  rw [loopOutputDeviationFx_eq hruns hloop (by omega), if_pos hopens, hnew, if_neg Bool.false_ne_true, hentry]

section
variable (hclosed : 100 ≤ ua ∨ loopTarget s n s.sys.devTime < 3600) (hfar : 50 < (loopTarget s n s.sys.devTime - ua).natAbs)
include hclosed hfar

theorem loopOutputDeviationFx_deviates (hnew : (fld s n).loopFault = false) :
    loopOutputDeviationFx n ua mv s =
      note 0x0A31 [n, loopTarget s n s.sys.devTime, ua] (publishField n s.sys.devTime
        (modFld n (fun f => { f with measured := ua, termMv := some mv, loopFault := true }) s)) := by
  have hopens : ¬ loopOpens s n ua := by omega
  have hentry : deviated n ua mv s = publishField n s.sys.devTime
      (modFld n (fun f => { f with measured := ua, termMv := some mv, loopFault := true }) s) :=
    deviated_congr (by simp [hopens])
  rw [loopOutputDeviationFx_eq hruns hloop hfar, if_neg hopens, hnew, if_neg Bool.false_ne_true, hentry]

theorem loopOutputDeviationFx_again (hfault : (fld s n).loopFault = true) :
    loopOutputDeviationFx n ua mv s =
      publishField n s.sys.devTime (modFld n (fun f => { f with measured := ua, termMv := some mv }) s) := by
  have hopens : ¬ loopOpens s n ua := by omega
  have hentry : deviated n ua mv s = publishField n s.sys.devTime
      (modFld n (fun f => { f with measured := ua, termMv := some mv }) s) :=
    deviated_congr (by simp [hopens, hfault])
  rw [loopOutputDeviationFx_eq hruns hloop hfar, if_neg hopens, if_pos hfault, hentry]

end
end
end

/-- Settles O34: whether the field stations work, the station and its mode, the blanking time, the timeout or the measured
current decide; each clause is then an outcome of its event. That an edge which is not fast clears RATE_HIGH is
notes/assumptions/152.md. -/
theorem fieldEventsAct : Obligations.FieldEventsAct := by
  unfold Obligations.FieldEventsAct
  refine ⟨?level, ?otherMode, ?noChange, ?count, ?countFast, ?frequency, ?noEdge, ?gate, ?noGate, ?faults, ?clears, ?noOutput,
    ?noFault, ?timeout, ?runsOut, ?waits, ?deviates, ?opens, ?again, ?noDeviation, ?recovers, ?noRecovery⟩
  case level => exact fun s n lvl q hruns hnew hmode => next_settled_congr (fioInputChangeFx_level hruns hnew hmode)
  case otherMode => exact fun s n lvl q hruns hnew hmode => next_settled_congr (fioInputChangeFx_other hruns hnew hmode)
  case noChange => exact fun s n lvl q h => next_settled_congr (fioInputChangeFx_idle h)
  case count =>
    intro s n hruns hmode h
    have hslow := edgeClose_slow h
    have hedge := fioCountEdgeFx_count hruns hmode hslow
    rw [edgeCounted_count hmode, hslow] at hedge
    exact next_settled_congr hedge
  case countFast =>
    intro s n q hruns hmode hlast h
    have hfast := edgeClose_soon hlast h
    have hedge := fioCountEdgeFx_countFast hruns hmode hfast
    rw [edgeCounted_count hmode, hfast] at hedge
    exact next_settled_congr hedge
  case frequency =>
    intro s n hruns hmode h
    have hslow := edgeClose_slow h
    have hedge := fioCountEdgeFx_frequency hruns hmode hslow
    rw [edgeCounted_frequency hmode, hslow] at hedge
    exact next_settled_congr hedge
  case noEdge => exact fun s n h => next_settled_congr (fioCountEdgeFx_idle h)
  case gate => exact fun s n hruns hin hmode hend => next_settled_congr (fioFreqGateFx_ends hruns hin hmode hend)
  case noGate => exact fun s n h => next_settled_congr (fioFreqGateFx_idle h)
  case faults => exact fun s n hruns hout hover => next_settled_congr (fioOutputFaultFx_faults hruns hout hover)
  case clears => exact fun s n hout => next_settled_congr (fioOutputFaultClearFx_clears hout)
  case noOutput =>
    exact fun s n hother =>
      ⟨next_settled_congr (fioOutputFaultFx_idle (.inr (.inl hother))),
        next_settled_congr (fioOutputFaultClearFx_idle hother)⟩
  case noFault => exact fun s n h => next_settled_congr (fioOutputFaultFx_idle (h.imp_right .inr))
  case timeout => exact fun s n h => next_settled_congr (outputCmdTimeoutFx_acts h)
  case runsOut =>
    exact fun s n hout htimeout hsafe hcommander htime => outputTimeout_runsOut hout htimeout hsafe hcommander htime
  case waits => exact fun s n h => next_settled_congr (outputCmdTimeoutFx_waits h)
  case deviates =>
    exact fun s n ua mv hruns hloop hclosed hfar hnew =>
      next_settled_congr (loopOutputDeviationFx_deviates hruns hloop hclosed hfar hnew)
  case opens =>
    exact fun s n ua mv hruns hloop ha hgoal hnew => next_settled_congr (loopOutputDeviationFx_opens hruns hloop ha hgoal hnew)
  case again =>
    exact fun s n ua mv hruns hloop hclosed hfar hfault =>
      next_settled_congr (loopOutputDeviationFx_again hruns hloop hclosed hfar hfault)
  case noDeviation => exact fun s n ua mv h => next_settled_congr (loopOutputDeviationFx_idle h)
  case recovers =>
    exact fun s n ua mv hruns hloop hnear => next_settled_congr (loopOutputRecoveredFx_recovers hruns hloop hnear)
  case noRecovery => exact fun s n ua mv h => next_settled_congr (loopOutputRecoveredFx_idle h)

/-! ### The inputs that FIO_STATUS reports (spec/11_field_io.md R390, R413) -/

/-- An Encoder station, on FIO2 and so an input there. -/
def encoderStation : Obj := { kind := 2, index := 3, flags := 1, body := [0x42, 0, 0xFF, 0, 4, 1, 2] }

/-- RUN with that encoder, whose channel is high, and S1 of the SPI side idle. -/
def encoderHigh : State :=
  { sys := { mode := .run, ready := true }, cfg := { active := [encoderStation] }, field := { levels := 4 },
    mail := { sluices := [(1, { owner := some .spi, sizeKib := 1, st := .idle })] } }

/-- FIO_STATUS of the SPI side on its S1, which clears nothing. -/
def fioStatusRequest : Req := { side := .spi, sluice := 1, tag := 0, flags := 0, payload := [0, 0, 0, 0] }

theorem asks_encoderHigh : asks 0x0A02 fioStatusRequest encoderHigh = true := by decide +kernel

/-- The first byte of the answer, after the header, tells the level of FIO2. -/
theorem fioStatus_encoderHigh_in :
    readWin (settled encoderHigh (fioStatusFx fioStatusRequest encoderHigh)) 1 16 1 = [4] := by decide +kernel

/-- Refutes O33 by its clause on FIO_STATUS, whose `in` holds the Field input stations only: the channels of an encoder are
inputs too (R390), and the model reports their levels. -/
theorem not_fieldCommandsAct : ¬ Obligations.FieldCommandsAct := by
  unfold Obligations.FieldCommandsAct
  rintro ⟨-, -, -, -, -, -, -, -, hstatus, -⟩
  have hsame := Host.Outcome.next.inj (hstatus encoderHigh fioStatusRequest asks_encoderHigh (by decide) (by decide))
  have hin := fioStatus_encoderHigh_in.symm.trans (congrArg (fun t => readWin t 1 16 1) hsame)
  exact absurd hin (by decide +kernel)

end Sys2Proof.Machine

/-! Proofs of the statements of spec/12_priority_bus.md: the bus events and the time reference. The statement on the commands fails
on a subscription whose mask has more than 29 bits, and is refuted by a concrete state. -/

namespace Sys2Proof.Machine

/-! ### A mask beyond the identifier (spec/12_priority_bus.md R446) -/

/-- RUN, with an idle S1 of the SPI side. -/
def busHost : State :=
  { sys := { mode := .run, ready := true }, mail := { sluices := [(1, { owner := some .spi, sizeKib := 1, st := .idle })] } }

/-- BUS_SUBSCRIBE to identifier 0 of Bus A under a mask of all 32 bits. -/
def wideMask : Req := { side := .spi, sluice := 1, tag := 0, flags := 0, payload := zeros 8 ++ [0xFF, 0xFF, 0xFF, 0xFF] }

theorem asks_wideMask : asks 0x0B03 wideMask busHost = true := by decide +kernel

/-- The side has its subscription. -/
theorem subs_wideMask : (settled busHost (busSubscribeFx wideMask busHost)).bus.subs.length = 1 := by decide +kernel

/-- Refutes O38 by its clause on the fields of BUS_SUBSCRIBE, which refuses a mask of 30 bits or more: R446 gives the mask 32 bits,
and the model takes each of them. -/
theorem not_busCommandsAct : ¬ Obligations.BusCommandsAct := by
  unfold Obligations.BusCommandsAct
  rintro ⟨-, -, -, -, -, -, -, -, -, -, hrefused, -⟩
  have hsame := Host.Outcome.next.inj (hrefused busHost wideMask asks_wideMask (by decide))
  have hsubs := subs_wideMask.symm.trans (congrArg (fun t => t.bus.subs.length) hsame)
  exact absurd hsubs (by decide +kernel)

/-! ### Frames received, drained and sent (spec/12_priority_bus.md R424–R428, R434, R442) -/

section
variable {s : State} {c : Nat}

/-- A change of one channel is what it makes of that channel. -/
theorem modCh_congr {f g : Chn → Chn} (h : f (ch s c) = g (ch s c)) : modCh c f s = modCh c g s := by
  simp only [modCh, tmod, onBus]
  exact congrArg (fun k => { s with bus := { s.bus with chans := tset s.bus.chans c k } }) h

/-- A frame enters a ring that has room, and that has lost none since the last. -/
theorem ringFrame_room (hroom : (ch s c).ring.length < 1024) (hnone : (ch s c).ringLost = 0) (w : Nat) (fflags : BitVec 8)
    (data : List Byte) (start eof : Nat) :
    ringFrame c w fflags data start eof s =
      modCh c (fun k =>
        { k with
          ring := k.ring ++ [{
            ident := identBits w, ext := identExt w, fflags := fflags, data := data.take 64, eof := eof, sof := sofAt c start,
            seq := w32 ((ch s c).rxFrames + 1), chan := c }],
          ringLost := 0, rxFrames := w32 (k.rxFrames + 1) }) s := by
  simp only [ringFrame, if_pos hroom, hnone, gt_iff_lt, lt_self_iff_false, if_false]

theorem canFrameReceivedFx_idle (h : 3 < c ∨ busUp s c = false ∨ (ch s c).st = 0) (f : CanIn) : canFrameReceivedFx c f s = s :=
  if_pos (by rcases h with h | h | h <;> simp [h])

section
variable (hc : c ≤ 3) (hup : busUp s c = true) (hst : (ch s c).st ≠ 0)
include hc hup hst

theorem canFrameReceivedFx_received (f : CanIn) :
    canFrameReceivedFx c f s =
      let t := ringFrame c f.ident (f.fflags.setWidth 8) f.data f.start f.eof s
      let u := if carriesOwn s c f.ident then note 0x0B32 [c, identBits f.ident] t else t
      if s.sys.mode = .still && wakesStill s c f.ident (dlcOf f.data.length) then wakeFrom 1 u else u :=
  if_neg (by simp [hc, hup, hst])

theorem canFrameReceivedFx_awake (hawake : s.sys.mode ≠ .still) (f : CanIn) :
    canFrameReceivedFx c f s =
      let t := ringFrame c f.ident (f.fflags.setWidth 8) f.data f.start f.eof s
      if carriesOwn s c f.ident then note 0x0B32 [c, identBits f.ident] t else t :=
  (canFrameReceivedFx_received hc hup hst f).trans (if_neg (by simp [hawake]))

theorem canFrameReceivedFx_still (hstill : s.sys.mode = .still) (f : CanIn) (hother : carriesOwn s c f.ident = false) :
    canFrameReceivedFx c f s =
      let t := ringFrame c f.ident (f.fflags.setWidth 8) f.data f.start f.eof s
      if wakesStill s c f.ident (dlcOf f.data.length) then wakeFrom 1 t else t := by
  rw [canFrameReceivedFx_received hc hup hst, hother, hstill]
  simp only [Bool.false_eq_true, if_false, decide_true, Bool.true_and]

end

theorem rxRingDrainFx_drains (hre : s.absorb.reexecuting = false) (hice : s.sys.mode ≠ .ice) :
    rxRingDrainFx c s = (ch s c).ring.foldl (fun t f => deliver c f t) (modCh c (fun k => { k with ring := [] }) s) :=
  if_neg (by simp [hre, hice])

theorem rxRingDrainFx_idle (h : s.absorb.reexecuting = true ∨ s.sys.mode = .ice) : rxRingDrainFx c s = s :=
  if_pos (by rcases h with h | h <;> simp [h])

/-- A frame other than a reference or a felt reference is sent. -/
theorem canFrameSentFx_sent {start : Nat} {f : TxFrame} (hf : offered s c start = some f) (hup : busUp s c = true)
    (hst : (ch s c).st ≠ 0) (hlow : (ch s c).st < 4) (hsends : listenOnly s c = false) (href : f.what ≠ 2) (hfelt : f.what ≠ 3)
    (eof : Nat) :
    canFrameSentFx c start eof s =
      txOutcome f sOK c eof (sofAt c start) (measureDelay c f
        (ringFrame c (identWord f.ident f.ext)
          (BitVec.ofNat 8 (f.fmt % 4 + b01 ((ch s c).st == 3 && bitOf f.fmt 0) * 4 + 0x10)) f.data start eof
          (refill c (modCh c (fun k => { k with pending := k.pending.erase f }) s)))) := by
  have hworks : ¬ (!busUp s c || decide ((ch s c).st = 0) || decide ((ch s c).st ≥ 4) || listenOnly s c) = true := by
    simp [hup, hst, hlow, hsends]
  simp only [canFrameSentFx, hf, if_neg hworks, if_neg href, if_neg hfelt]

theorem canFrameSentFx_idle {start : Nat} (h : offered s c start = none ∨ busUp s c = false ∨ (ch s c).st = 0 ∨ 4 ≤ (ch s c).st ∨
    listenOnly s c = true) (eof : Nat) : canFrameSentFx c start eof s = s := by
  unfold canFrameSentFx
  dsimp only
  cases hf : offered s c start with
  | none => rfl
  | some f => exact if_pos (by rcases h.resolve_left (by simp [hf]) with h | h | h | h <;> simp [h])

end

/-! ### Error states, bus-off and recovery (spec/12_priority_bus.md R431–R433) -/

section
variable {s : State} {c : Nat}

/-- The channel sends, and its error states move. -/
abbrev transmits (s : State) (c : Nat) : Prop :=
  c ≤ 3 ∧ busUp s c = true ∧ (1 ≤ (ch s c).st ∧ (ch s c).st ≤ 3) ∧ listenOnly s c = false

/-- The models' test of it refuses what does not, and nothing else. -/
theorem silent_iff :
    (decide (c > 3) || !busUp s c || decide ((ch s c).st = 0) || decide ((ch s c).st ≥ 4) || listenOnly s c) = true ↔
      ¬ transmits s c := by
  simp only [Bool.or_eq_true, decide_eq_true_eq, transmits]
  cases busUp s c <;> cases listenOnly s c <;> simp
  omega

theorem not_transmits (h : 3 < c ∨ busUp s c = false ∨ (ch s c).st = 0 ∨ 4 ≤ (ch s c).st ∨ listenOnly s c = true) :
    ¬ transmits s c := by
  rintro ⟨hc, hup, ⟨hlo, hhi⟩, hsends⟩
  rcases h with h | h | h | h | h
  · omega
  · exact Bool.false_ne_true (h.symm.trans hup)
  · omega
  · omega
  · exact Bool.false_ne_true (hsends.symm.trans h)

theorem canErrorStateChangeFx_idle (h : ¬ transmits s c) (tec rec : Nat) (w : Option Nat) :
    canErrorStateChangeFx c tec rec w s = s :=
  if_pos (silent_iff.mpr h)

theorem busOffFx_idle (h : ¬ transmits s c) : busOffFx c s = s := if_pos (silent_iff.mpr h)

/-- The error state that two counters make (R431). -/
def errorState (tec rec : Nat) : Nat :=
  if tec > 127 || rec > 127 then 3 else if tec ≥ 96 || rec ≥ 96 then 2 else 1

/-- The frames of a channel that has gone bus-off are told of. -/
def busOffTold (c : Nat) (s : State) : State :=
  ((ch s c).pending ++ (ch s c).overflow).foldl (fun t f => txOutcome f sDEFERRED c 0 0 t)
    (note 0x0B22 [c, (ch s c).pending.length + (ch s c).overflow.length] (modCh c (fun k =>
      { k with st := 4, tec := 256, busoffs := w32 (k.busoffs + 1), busOffAt := s.sys.devTime }) s))

/-- A channel recovers from bus-off where it is configured to. -/
def recoveryBegun (s : State) (c : Nat) (t : State) : State :=
  if autoRecover s c then modCh c (fun k => { k with st := 5, recoverCause := 1 }) t else t

/-- A partner may take over a channel's frames (R432). -/
abbrev takesOver (s : State) (p : Nat) : Prop :=
  p < 4 ∧ chOn s p = true ∧ listenOnly s p = false ∧ (ch s p).st ≠ 0 ∧ (ch s p).st < 4

section
variable (h : transmits s c)
include h

theorem canErrorStateChangeFx_acts (tec rec : Nat) (w : Option Nat) :
    canErrorStateChangeFx c tec rec w s =
      let k := ch s c
      let st := errorState tec rec
      let s1 := match w with | some w => bitErrorSeen c w s | none => s
      if tec > 255 then busOffFx c (modCh c (fun k => { k with rxErr := rec }) s1)
      else
        let s2 := modCh c (fun k =>
          { k with tec := tec, rxErr := rec, st := st, activeSince := if st = 1 && k.st != 1 then s.sys.devTime else k.activeSince }) s1
        if st != k.st && st != 1 then note 0x0B20 [c, st, tec, rec] s2 else s2 :=
  if_neg fun hsilent => silent_iff.mp hsilent h

theorem canErrorStateChangeFx_none {tec : Nat} (htec : tec ≤ 255) (rec : Nat) :
    canErrorStateChangeFx c tec rec none s =
      let st := errorState tec rec
      let t := modCh c (fun k =>
        { k with tec := tec, rxErr := rec, st := st, activeSince := if st = 1 ∧ k.st ≠ 1 then s.sys.devTime else k.activeSince }) s
      if st ≠ (ch s c).st ∧ st ≠ 1 then note 0x0B20 [c, st, tec, rec] t else t := by
  rw [canErrorStateChangeFx_acts h]
  simp only [if_neg (Nat.not_lt.mpr htec), Bool.and_eq_true, bne_iff_ne, decide_eq_true_eq]

theorem busOffFx_acts :
    busOffFx c s =
      let p := partnerOf s c
      recoveryBegun s c (if p < 4 && chOn s p && !listenOnly s p && (ch s p).st != 0 && (ch s p).st < 4 then
        failOver c p (busOffTold c s) else busOffTold c s) :=
  if_neg fun hsilent => silent_iff.mp hsilent h

theorem busOffFx_failsOver (hp : takesOver s (partnerOf s c)) :
    busOffFx c s = recoveryBegun s c (failOver c (partnerOf s c) (busOffTold c s)) := by
  obtain ⟨hpartner, hon, hsends, hst, hlow⟩ := hp
  rw [busOffFx_acts h]
  dsimp only
  rw [if_pos (by simp [hpartner, hon, hsends, hst, hlow])]

theorem busOffFx_stays (hp : ¬ takesOver s (partnerOf s c)) : busOffFx c s = recoveryBegun s c (busOffTold c s) := by
  rw [busOffFx_acts h]
  dsimp only
  rw [if_neg (by simpa [takesOver, and_assoc] using hp)]

end

theorem not_takesOver {p : Nat} (h : 4 ≤ p ∨ chOn s p = false ∨ listenOnly s p = true ∨ (ch s p).st = 0 ∨ 4 ≤ (ch s p).st) :
    ¬ takesOver s p := by
  rintro ⟨hp, hon, hsends, hst, hlow⟩
  rcases h with h | h | h | h | h
  · omega
  · exact Bool.false_ne_true (h.symm.trans hon)
  · exact Bool.false_ne_true (hsends.symm.trans h)
  · exact hst h
  · omega

theorem busoffRecoveryDoneFx_done (hst : (ch s c).st = 5) :
    busoffRecoveryDoneFx c s =
      note 0x0B23 [c, nsMs (s.sys.devTime - (ch s c).busOffAt), (ch s c).recoverCause]
        (modCh c (fun k => { k with st := 1, tec := 0, rxErr := 0, activeSince := s.sys.devTime }) s) :=
  if_neg (by simp [hst])

theorem busoffRecoveryDoneFx_idle (hst : (ch s c).st ≠ 5) : busoffRecoveryDoneFx c s = s := if_pos (by simp [hst])

theorem failbackFx_returns (hauto : autoFailback s c = true) (hst : (ch s c).st = 1)
    (hlong : (ch s c).activeSince + 10000000000 ≤ s.sys.devTime) : failbackFx c s = failBack c s :=
  if_pos (by simp [hauto, hst, hlong])

theorem failbackFx_idle (h : autoFailback s c = false ∨ (ch s c).st ≠ 1 ∨ s.sys.devTime < (ch s c).activeSince + 10000000000) :
    failbackFx c s = s := by
  refine if_neg fun hdue => ?_
  simp only [Bool.and_eq_true, decide_eq_true_eq] at hdue
  obtain ⟨⟨hauto, hst⟩, hlong⟩ := hdue
  rcases h with h | h | h
  · exact Bool.false_ne_true (h.symm.trans hauto)
  · exact h hst
  · omega

end

/-! ### Timeouts and periodic objects (spec/12_priority_bus.md R425, R426) -/

section
variable {s : State} {c : Nat}

/-- A frame with a handle has waited 10 s, and its outcome is still to be given. -/
abbrev overdue (s : State) (h : Nat) (f : TxFrame) : Prop := f.handle = h ∧ f.late = false ∧ f.accepted + 10000000000 ≤ s.sys.devTime

theorem overdue_iff {h : Nat} (hne : h ≠ 0) (f : TxFrame) :
    (f.handle == h && h != 0 && !f.late && decide (f.accepted + 10000000000 ≤ s.sys.devTime)) = true ↔ overdue s h f := by
  simp [overdue, hne, and_assoc]

theorem frameSendTimeoutFx_tells {h : Nat} {f : TxFrame} (hst : (ch s c).st = 1 ∨ (ch s c).st = 2) (hne : h ≠ 0)
    (hf : ((ch s c).pending ++ (ch s c).overflow).find?
      (fun g => g.handle == h && !g.late && decide (g.accepted + 10000000000 ≤ s.sys.devTime)) = some f) :
    frameSendTimeoutFx c h s =
      txOutcome f sTIMEOUT c 0 0 (modCh c (fun k => { k with
        pending := k.pending.map (fun g => if overdue s h g then { g with late := true } else g),
        overflow := k.overflow.map (fun g => if overdue s h g then { g with late := true } else g) }) s) := by
  have hworks : ¬ (decide ((ch s c).st = 0) || decide ((ch s c).st > 2)) = true := by
    rcases hst with hst | hst <;> simp [hst]
  have hnonzero : (h != 0) = true := bne_iff_ne.mpr hne
  simp only [frameSendTimeoutFx, if_neg hworks, hnonzero, Bool.and_true, hf]
  simp only [Bool.and_eq_true, beq_iff_eq, Bool.not_eq_true', decide_eq_true_eq, and_assoc]

theorem frameSendTimeoutFx_idle {h : Nat} (hidle : (ch s c).st = 0 ∨ 2 < (ch s c).st ∨
    ∀ g ∈ (ch s c).pending ++ (ch s c).overflow, g.handle ≠ h ∨ g.late = true ∨ s.sys.devTime < g.accepted + 10000000000) :
    frameSendTimeoutFx c h s = s := by
  unfold frameSendTimeoutFx
  dsimp only
  rcases hidle with hst | hst | hnone
  · exact if_pos (by simp [hst])
  · exact if_pos (by simp [hst])
  · split
    · rfl
    · rw [List.find?_eq_none.mpr]
      intro g hg hdue
      simp only [Bool.and_eq_true, beq_iff_eq, Bool.not_eq_true', decide_eq_true_eq] at hdue
      obtain ⟨⟨⟨hhandle, -⟩, hlate⟩, hlong⟩ := hdue
      rcases hnone g hg with h1 | h1 | h1
      · exact h1 hhandle
      · exact Bool.false_ne_true (hlate.symm.trans h1)
      · omega

theorem periodicSendFx_due {k : Nat} {e : List Byte} (he : objEntry s c k = some e) (hup : busUp s c = true) (hst : (ch s c).st ≠ 0)
    (hsend : entSend e = true) (hperiod : g2 e 12 ≠ 0) :
    periodicSendFx c k s = if objPending s c k then modCh c (fun x => { x with late := x.late + 1 }) s else sendObj c k {} s := by
  simp only [periodicSendFx, he]
  exact if_neg (by simp [hup, hst, hsend, hperiod])

theorem periodicSendFx_idle {k : Nat} (h : busUp s c = false ∨ (ch s c).st = 0 ∨
    ∀ e ∈ objEntry s c k, entSend e = false ∨ g2 e 12 = 0) : periodicSendFx c k s = s := by
  unfold periodicSendFx
  cases he : objEntry s c k with
  | none => rfl
  | some e =>
    refine if_pos ?_
    rcases h with h | h | h
    · simp [h]
    · simp [h]
    · rcases h e he with h | h <;> simp [h]

end

/-- Settles O39: whether the channel works, and each event's own condition, decide. Which frame was sent is notes/assumptions/85.md,
the partner that may send and the frame in arbitration 173.md, the recovery after a failover 153.md. -/
theorem busEventsAct : Obligations.BusEventsAct := by
  unfold Obligations.BusEventsAct
  refine ⟨?room, ?received, ?own, ?still, ?notReceived, ?drains, ?noDrain, ?sent, ?notSent, ?warning, ?sameState, ?bitError, ?silent,
    ?busOff, ?failsOver, ?recovered, ?notRecovering, ?returns, ?noReturn, ?timeout, ?noTimeout, ?periodic, ?late, ?noPeriodic⟩
  case room =>
    intro s c f hc hup hst hother hawake hroom hnone
    refine next_settled_congr ((canFrameReceivedFx_awake hc hup hst hawake f).trans ?_)
    rw [hother, if_neg Bool.false_ne_true, ringFrame_room hroom hnone]
  case received =>
    intro s c f hc hup hst hother hawake
    refine next_settled_congr ((canFrameReceivedFx_awake hc hup hst hawake f).trans ?_)
    rw [hother, if_neg Bool.false_ne_true]
  case own =>
    intro s c f hc hup hst hown hawake
    refine next_settled_congr ((canFrameReceivedFx_awake hc hup hst hawake f).trans ?_)
    rw [hown, if_pos rfl]
  case still =>
    exact fun s c f hc hup hst hother hstill => next_settled_congr (canFrameReceivedFx_still hc hup hst hstill f hother)
  case notReceived => exact fun s c f h => next_settled_congr (canFrameReceivedFx_idle h f)
  case drains => exact fun s c hre hice => next_settled_congr (rxRingDrainFx_drains hre hice)
  case noDrain => exact fun s c h => next_settled_congr (rxRingDrainFx_idle h)
  case sent =>
    exact fun s c start eof f hf hup hst hlow hsends href hfelt =>
      next_settled_congr (canFrameSentFx_sent hf hup hst hlow hsends href hfelt eof)
  case notSent => exact fun s c start eof h => next_settled_congr (canFrameSentFx_idle h eof)
  case warning =>
    intro s c hc hup hst hsends
    have ht : transmits s c := ⟨hc, hup, by omega, hsends⟩
    refine next_settled_congr ((canErrorStateChangeFx_none ht (by decide) 10).trans ?_)
    rw [hst]
    rfl
  case sameState =>
    rintro s c tec rec _ hc hup hlo hhi hsends htec hst hsame
    have ht : transmits s c := ⟨hc, hup, ⟨hlo, hhi⟩, hsends⟩
    have hstate : errorState tec rec = if 127 < tec ∨ 127 < rec then 3 else if 96 ≤ tec ∨ 96 ≤ rec then 2 else 1 := by
      simp only [errorState, Bool.or_eq_true, decide_eq_true_eq, gt_iff_lt, ge_iff_le]
    rw [← hstate] at hst
    subst hst
    refine next_settled_congr ((canErrorStateChangeFx_none ht htec rec).trans (if_neg ?_))
    rintro ⟨hother, hworse⟩
    exact hsame.elim hother hworse
  case bitError =>
    intro s c rec w hc hup hlo hhi hsends
    exact next_settled_congr (canErrorStateChangeFx_acts ⟨hc, hup, ⟨hlo, hhi⟩, hsends⟩ 256 rec (some w))
  case silent =>
    exact fun s c tec rec w h =>
      ⟨next_settled_congr (canErrorStateChangeFx_idle (not_transmits h) tec rec w),
        next_settled_congr (busOffFx_idle (not_transmits h))⟩
  case busOff =>
    rintro s c _ hc hup hlo hhi hsends hp rfl
    exact next_settled_congr (busOffFx_stays ⟨hc, hup, ⟨hlo, hhi⟩, hsends⟩ (not_takesOver hp))
  case failsOver =>
    rintro s c _ hc hup hlo hhi hsends hpartner hon hother hst hlow rfl
    exact next_settled_congr (busOffFx_failsOver ⟨hc, hup, ⟨hlo, hhi⟩, hsends⟩ ⟨hpartner, hon, hother, hst, hlow⟩)
  case recovered => exact fun s c hst => next_settled_congr (busoffRecoveryDoneFx_done hst)
  case notRecovering => exact fun s c hst => next_settled_congr (busoffRecoveryDoneFx_idle hst)
  case returns => exact fun s c hauto hst hlong => next_settled_congr (failbackFx_returns hauto hst hlong)
  case noReturn => exact fun s c h => next_settled_congr (failbackFx_idle h)
  case timeout => exact fun s c h f hst hne hf => next_settled_congr (frameSendTimeoutFx_tells hst hne hf)
  case noTimeout => exact fun s c h hidle => next_settled_congr (frameSendTimeoutFx_idle hidle)
  case periodic =>
    intro s c k e he hup hst hsend hperiod hfree
    exact next_settled_congr ((periodicSendFx_due he hup hst hsend hperiod).trans (if_neg (by simp [hfree])))
  case late =>
    intro s c k e he hup hst hsend hperiod hpending
    exact next_settled_congr ((periodicSendFx_due he hup hst hsend hperiod).trans (if_pos hpending))
  case noPeriodic => exact fun s c k h => next_settled_congr (periodicSendFx_idle h)

/-! ### The time reference (spec/12_priority_bus.md R436–R438) -/

section
variable {s : State} {c : Nat}

/-- The channel works and takes part in the time reference. -/
abbrev keepsTime (s : State) (c : Nat) : Prop := c ≤ 2 ∧ busUp s c = true ∧ (ch s c).st ≠ 0 ∧ timeRole s c ≠ 0

theorem not_keepsTime (h : 2 < c ∨ busUp s c = false ∨ (ch s c).st = 0 ∨ timeRole s c = 0) : ¬ keepsTime s c := by
  rintro ⟨hc, hup, hst, hrole⟩
  rcases h with h | h | h | h
  · omega
  · exact Bool.false_ne_true (h.symm.trans hup)
  · exact hst h
  · exact hrole h

/-- A potential time master's reference message becomes pending. -/
theorem referenceMessageSendFx_sends (h : keepsTime s c) (hrole : timeRole s c = 1) {cyc w : Nat}
    (hcyc : cyc = if (ch s c).sending ∨ (ch s c).prevEof.isSome then ((ch s c).cycle + 1) % 64 else (ch s c).cycle)
    (hw : w = refIdent s c + masterPrio s c) :
    referenceMessageSendFx c s =
      setMaster c (plantAddr s) (masterPrio s c)
        (pend (effChan s c)
          { home := c, what := 2, fmt := 1, ident := identBits w, ext := identExt w,
            data := p1 cyc ++ p1 (plantAddr s) ++ zeros 2 ++ p8 (if (ch s c).sending then (ch s c).myPrevEof.getD 0 else 0),
            moved := effChan s c != c, accepted := s.sys.devTime }
          (dropInternal 2 c (effChan s c) (modCh c (fun k =>
            { k with sending := true, cycle := cyc, masterIdent := w, masterOffset := 0 }) s))) := by
  obtain ⟨hc, hup, hst, -⟩ := h
  have hsends : ¬ (decide (c > 2) || !busUp s c || decide ((ch s c).st = 0) || timeRole s c != 1) = true := by
    simp [hc, hup, hst, hrole]
  subst hcyc hw
  unfold referenceMessageSendFx
  dsimp only
  rw [if_neg hsends]
  simp only [Bool.or_eq_true]

theorem referenceMessageSendFx_idle (h : ¬ keepsTime s c) : referenceMessageSendFx c s = s := by
  refine if_pos ?_
  by_contra hworks
  simp only [Bool.or_eq_true, not_or, decide_eq_true_eq, Bool.not_eq_true', bne_iff_ne, not_not, Bool.not_eq_false] at hworks
  obtain ⟨⟨⟨hc, hup⟩, hst⟩, hrole⟩ := hworks
  exact h ⟨Nat.not_lt.mp hc, hup, hst, by omega⟩

section
variable {id : Nat}

theorem refRange_iff :
    (decide (c > 2) || !busUp s c || decide ((ch s c).st = 0) || decide (timeRole s c = 0) || decide (id < refIdent s c) ||
      decide (id > refIdent s c + 7)) = true ↔ ¬ (keepsTime s c ∧ refIdent s c ≤ id ∧ id ≤ refIdent s c + 7) := by
  simp only [Bool.or_eq_true, decide_eq_true_eq, keepsTime]
  cases busUp s c with
  | true =>
    simp only [Bool.not_true, Bool.false_eq_true, or_false, true_and]
    omega
  | false => simp

theorem referenceMessageFx_idle (h : ¬ (keepsTime s c ∧ refIdent s c ≤ id ∧ id ≤ refIdent s c + 7)) (data : List Byte) (eof : Nat) :
    referenceMessageFx c id data eof s = s :=
  if_pos (refRange_iff.mpr h)

/-- What a reference message that is followed leaves of its channel (R437). -/
def referenceHeard (id : Nat) (data : List Byte) (eof : Nat) (k : Chn) : Chn :=
  { k with
    masterOffset := (match k.prevEof with
      | some e => if g8 data 4 ≠ 0 ∧ k.masterIdent = id ∧ g1 data 0 % 64 = (k.cycle + 1) % 64 then (g8 data 4 : Int) - e
        else k.masterOffset
      | none => k.masterOffset),
    prevEof := some eof, cycle := g1 data 0 % 64, masterIdent := id, refMissing := false, sending := false }

section
variable (h : keepsTime s c ∧ refIdent s c ≤ id ∧ id ≤ refIdent s c + 7)
include h

theorem referenceMessageFx_stays (hsending : (ch s c).sending = true) (hlow : refIdent s c + masterPrio s c ≤ id) (data : List Byte)
    (eof : Nat) : referenceMessageFx c id data eof s = modCh c (fun k => { k with refMissing := false }) s := by
  have hheard := fun hout => refRange_iff.mp hout h
  have hstays : ((ch s c).sending && decide (refIdent s c + masterPrio s c ≤ id)) = true := by simp [hsending, hlow]
  simp only [referenceMessageFx, if_neg hheard, if_pos hstays]

theorem referenceMessageFx_follows (hyields : (ch s c).sending = false ∨ id < refIdent s c + masterPrio s c) (data : List Byte)
    (eof : Nat) :
    referenceMessageFx c id data eof s =
      let u := modCh c (referenceHeard id data eof) s
      sendFeltRef c (latchFelts c (setMaster c (g1 data 1) (id - refIdent s c)
        (if (ch s c).sending then dropInternal 2 c (effChan s c) u else u))) := by
  have hheard := fun hout => refRange_iff.mp hout h
  have hstays : ¬ ((ch s c).sending && decide (refIdent s c + masterPrio s c ≤ id)) = true := by
    rcases hyields with hy | hy <;> simp [hy]
  simp only [referenceMessageFx, if_neg hheard, if_neg hstays]
  rw [modCh_congr (g := referenceHeard id data eof)]
  cases hprev : (ch s c).prevEof <;> simp [referenceHeard, hprev, and_assoc]

end
end

theorem referenceMissingFx_misses (h : keepsTime s c) (hnew : (ch s c).refMissing = false) :
    referenceMissingFx c s = note 0x0B33 [c, 3] (modCh c (fun k => { k with refMissing := true, master := none }) s) := by
  obtain ⟨hc, hup, hst, hrole⟩ := h
  exact if_neg (by simp [hc, hup, hst, hrole, hnew])

theorem referenceMissingFx_idle (h : 2 < c ∨ busUp s c = false ∨ (ch s c).st = 0 ∨ timeRole s c = 0 ∨ (ch s c).refMissing = true) :
    referenceMissingFx c s = s :=
  if_pos (by rcases h with h | h | h | h | h <;> simp [h])

end

/-- Settles O40: whether the channel takes part, whether this device sends, and whose priority is higher decide. Which t_prev pairs,
and a master before a sender of no higher priority, are notes/assumptions/153.md. -/
theorem busTimeReferenceActs : Obligations.BusTimeReferenceActs := by
  unfold Obligations.BusTimeReferenceActs
  refine ⟨?sends, ?follows, ?stays, ?notHeard, ?misses, ?noPart, ?missing⟩
  case sends =>
    intro s c cyc w hc hup hst hrole hcyc hw
    exact next_settled_congr (referenceMessageSendFx_sends ⟨hc, hup, hst, by omega⟩ hrole hcyc hw)
  case follows =>
    intro s c id eof data hc hup hst hrole hlo hhi hyields
    exact next_settled_congr (referenceMessageFx_follows ⟨⟨hc, hup, hst, hrole⟩, hlo, hhi⟩ hyields data eof)
  case stays =>
    intro s c id eof data hc hup hst hrole hlow hhi hsending
    exact next_settled_congr (referenceMessageFx_stays ⟨⟨hc, hup, hst, hrole⟩, by omega, hhi⟩ hsending hlow data eof)
  case notHeard =>
    intro s c id eof data h
    refine next_settled_congr (referenceMessageFx_idle ?_ data eof)
    rintro ⟨⟨hc, hup, hst, hrole⟩, hlo, hhi⟩
    rcases h with h | h | h | h | h | h
    · omega
    · exact Bool.false_ne_true (h.symm.trans hup)
    · exact hst h
    · exact hrole h
    · omega
    · omega
  case misses =>
    exact fun s c hc hup hst hrole hnew => next_settled_congr (referenceMissingFx_misses ⟨hc, hup, hst, hrole⟩ hnew)
  case noPart =>
    exact fun s c h =>
      ⟨next_settled_congr (referenceMissingFx_idle (h.imp_right (.imp_right (.imp_right .inl)))),
        next_settled_congr (referenceMessageSendFx_idle (not_keepsTime h))⟩
  case missing => exact fun s c h => next_settled_congr (referenceMissingFx_idle (.inr (.inr (.inr (.inr h)))))

end Sys2Proof.Machine

/-! Proofs of the statements of spec/13_line_uplink.md: what comes in on the line ports, the ordinary clock, the loop guard,
links, and sessions. -/

namespace Sys2Proof.Machine

/-! ### A frame that comes in (spec/13_line_uplink.md R453–R456) -/

/-- What the switch counts and learns of a frame stays in its ports and its address table. -/
theorem counted_touches (p : Nat) (mac : List Byte) (s : State) :
    counted p mac s =
      { s with net :=
        { s.net with macTable := (counted p mac s).net.macTable, ports := (counted p mac s).net.ports } } := by
  unfold counted learn
  dsimp only
  split <;> rfl

@[simp] theorem counted_ipAddr (p : Nat) (mac : List Byte) (s : State) : ipAddr (counted p mac s) = ipAddr s := by
  rw [counted_touches]; rfl

@[simp] theorem counted_netBody (p : Nat) (mac : List Byte) (s : State) : netBody (counted p mac s) = netBody s := by
  rw [counted_touches]; rfl

@[simp] theorem counted_ordinaryClock (p : Nat) (mac : List Byte) (s : State) :
    ordinaryClock (counted p mac s) = ordinaryClock s := by
  rw [counted_touches]; rfl

@[simp] theorem counted_loopGuard (p : Nat) (mac : List Byte) (s : State) : loopGuard (counted p mac s) = loopGuard s := by
  rw [counted_touches]; rfl

@[simp] theorem counted_devicePort (p : Nat) (mac : List Byte) (s : State) : devicePort (counted p mac s) = devicePort s := by
  rw [counted_touches]; rfl

@[simp] theorem counted_portBlocked (p : Nat) (mac : List Byte) (s : State) (q : Nat) :
    portBlocked (counted p mac s) q = portBlocked s q := by
  rw [counted_touches]; rfl

@[simp] theorem counted_absorb (p : Nat) (mac : List Byte) (s : State) : (counted p mac s).absorb = s.absorb := by
  rw [counted_touches]

@[simp] theorem counted_sys (p : Nat) (mac : List Byte) (s : State) : (counted p mac s).sys = s.sys := by
  rw [counted_touches]

@[simp] theorem counted_mac (p : Nat) (mac : List Byte) (s : State) : (counted p mac s).net.mac = s.net.mac := by
  rw [counted_touches]

@[simp] theorem counted_ptpMasters (p : Nat) (mac : List Byte) (s : State) :
    (counted p mac s).net.ptpMasters = s.net.ptpMasters := by
  rw [counted_touches]

@[simp] theorem counted_ptpChosen (p : Nat) (mac : List Byte) (s : State) :
    (counted p mac s).net.ptpChosen = s.net.ptpChosen := by
  rw [counted_touches]

@[simp] theorem counted_ptpExchange (p : Nat) (mac : List Byte) (s : State) :
    (counted p mac s).net.ptpExchange = s.net.ptpExchange := by
  rw [counted_touches]

@[simp] theorem counted_portIdentity (p : Nat) (mac : List Byte) (s : State) :
    portIdentity (counted p mac s) = portIdentity s := by
  rw [counted_touches]; rfl

@[simp] theorem counted_calendarNs (p : Nat) (mac : List Byte) (s : State) : calendarNs (counted p mac s) = calendarNs s := by
  rw [counted_touches]; rfl

/-- A frame of the device carries its hardware address and its management tag, which no count changes. -/
theorem counted_deviceFrame (p : Nat) (mac dst : List Byte) (ethertype : Nat) (body : List Byte) (s : State) :
    deviceFrame (counted p mac s) dst ethertype body = deviceFrame s dst ethertype body := by
  rw [counted_touches]; rfl

theorem counted_ipHeader (p : Nat) (mac dst : List Byte) (proto len : Nat) (s : State) :
    ipHeader (counted p mac s) proto len dst = ipHeader s proto len dst := by
  rw [counted_touches]; rfl

section
variable {s : State} {p : Nat} {mac : List Byte} {probe : Bool} {f : State → State}

theorem fromLine_passes (hon : switchOn s = true) (hp : p ≤ 2) (hfree : portBlocked s p = false ∨ probe = true) :
    fromLine p mac probe f s = f (counted p mac s) := by
  unfold fromLine
  rw [if_neg (by simp [hon, hp])]
  dsimp only
  rw [if_neg (by rcases hfree with h | h <;> simp [h])]
  rfl

theorem fromLine_blocked (hon : switchOn s = true) (hp : p ≤ 2) (hblocked : portBlocked s p = true) :
    fromLine p mac false f s = modPort p (fun x => { x with rx := w32 (x.rx + 1) }) s := by
  unfold fromLine
  rw [if_neg (by simp [hon, hp])]
  exact if_pos (by simp [hblocked])

theorem fromLine_idle (h : switchOn s = false ∨ 2 < p) : fromLine p mac probe f s = s :=
  if_pos (by rcases h with h | h <;> simp [h])

variable {w : Waiting}

theorem heardNow_hears (hdevice : devicePort s = true) (hre : s.absorb.reexecuting = false) : heardNow w f s = f s := by
  simp [heardNow, hdevice, hre]

theorem heardNow_waits (hdevice : devicePort s = true) (hre : s.absorb.reexecuting = true) : heardNow w f s = buffer w s := by
  simp [heardNow, hdevice, hre]

/-- What the device does not take up, and what comes while the device port is closed, ends at the switch. -/
theorem heardNow_ignores (h : devicePort s = false ∨ (s.absorb.reexecuting = false ∧ f s = s)) : heardNow w f s = s := by
  rcases h with h | ⟨hre, hf⟩
  · simp [heardNow, h]
  · simp [heardNow, hre, hf]

variable {i : LateFrame}

theorem lineRow_hears (hin : comesIn s p) (hdevice : devicePort s = true) (hre : s.absorb.reexecuting = false) :
    lineRow p mac i f s = f (counted p mac s) := by
  obtain ⟨hon, hp, hfree⟩ := hin
  exact (fromLine_passes hon hp (.inl hfree)).trans
    (heardNow_hears ((counted_devicePort ..).trans hdevice) (by rw [counted_absorb, hre]))

theorem lineRow_waits (hin : comesIn s p) (hdevice : devicePort s = true) (hre : s.absorb.reexecuting = true) :
    lineRow p mac i f s = buffer (waitingOf i) (counted p mac s) := by
  obtain ⟨hon, hp, hfree⟩ := hin
  exact (fromLine_passes hon hp (.inl hfree)).trans
    (heardNow_waits ((counted_devicePort ..).trans hdevice) (by rw [counted_absorb, hre]))

theorem lineRow_ignores (hin : comesIn s p)
    (h : devicePort s = false ∨ (s.absorb.reexecuting = false ∧ f (counted p mac s) = counted p mac s)) :
    lineRow p mac i f s = counted p mac s := by
  obtain ⟨hon, hp, hfree⟩ := hin
  exact (fromLine_passes hon hp (.inl hfree)).trans (heardNow_ignores (by simpa using h))

theorem lineRow_blocked (hon : switchOn s = true) (hp : p ≤ 2) (hblocked : portBlocked s p = true) :
    lineRow p mac i f s = modPort p (fun x => { x with rx := w32 (x.rx + 1) }) s := fromLine_blocked hon hp hblocked

theorem lineRow_idle (h : switchOn s = false ∨ 2 < p) : lineRow p mac i f s = s := fromLine_idle h

end

/-! ### A frame on a port of the switch (R453–R456) -/

section
variable {s : State} {p : Nat} {b : List Byte}

/-- A frame of a VLAN that the applied NETWORK object does not carry. -/
def foreignVlan (s : State) (b : List Byte) : Prop :=
  tagOf b ≠ none ∧ s.net.applied = true ∧ netVids s ≠ [] ∧ (netVids s).contains ((tagOf b).getD 0 % 4096) = false

section
variable (hon : switchOn s = true) (hp : p ≤ 2) (hlink : (port s p).link = true)
include hon hp hlink

theorem ethFrameFx_badCheck :
    ethFrameFx p b false s = modPort p (fun x => { x with fcs := w32 (x.fcs + 1) }) s := by
  unfold ethFrameFx
  dsimp only
  rw [if_neg (by simp [hon, hp, hlink])]
  rfl

theorem ethFrameFx_foreign (hmin : 64 ≤ b.length) (hmax : b.length ≤ 1522) (hforeign : foreignVlan s b) :
    ethFrameFx p b true s = modPort p (fun x => { x with rx := w32 (x.rx + 1) }) s := by
  obtain ⟨htag, happlied, hvids, hother⟩ := hforeign
  obtain ⟨t, ht⟩ := Option.ne_none_iff_exists'.mp htag
  rw [ht, Option.getD_some] at hother
  unfold ethFrameFx
  simp only [ht, happlied, hother]
  rw [if_neg (by simp [hon, hp, hlink]), if_neg (by decide), if_neg (by simp [hmin, hmax])]
  exact if_pos (by simp [hvids])

/-- A whole frame of a VLAN that is carried goes to the switch. -/
theorem ethFrameFx_whole (hmin : 64 ≤ b.length) (hmax : b.length ≤ 1522)
    (hown : tagOf b = none ∨ s.net.applied = false ∨ netVids s = [] ∨
      (netVids s).contains ((tagOf b).getD 0 % 4096) = true) :
    ethFrameFx p b true s =
      fromLine p (slice b 6 6) (isProbe b) (fun t =>
        deviceTakes p b ((egress t p b).foldl (fun u q => enqueue q b u) t)) s := by
  unfold ethFrameFx
  dsimp only
  rw [if_neg (by simp [hon, hp, hlink]), if_neg (by decide), if_neg (by simp [hmin, hmax])]
  refine if_neg ?_
  cases ht : tagOf b with
  | none => exact Bool.false_ne_true
  | some t =>
    rw [ht, Option.getD_some] at hown
    rcases hown with h | h | h | h
    · cases h
    · simp [h]
    · simp [h]
    · simp [List.contains_iff_mem.mp h]

end

theorem ethFrameFx_idle {k : Bool} (h : switchOn s = false ∨ 2 < p ∨ (port s p).link = false ∨
    (k = true ∧ (b.length < 64 ∨ 1522 < b.length))) : ethFrameFx p b k s = s := by
  unfold ethFrameFx
  dsimp only
  by_cases hline : (!switchOn s || decide (p > 2) || !(port s p).link) = true
  · rw [if_pos hline]
  · rw [if_neg hline]
    rcases h with h | h | h | ⟨hk, hlen⟩
    · exact absurd (by simp [h]) hline
    · exact absurd (by simp [h]) hline
    · exact absurd (by simp [h]) hline
    · rw [if_neg (by simp [hk])]
      exact if_pos (by simpa using hlen)

/-- What leaves on the ports is in their queues: the device keeps its address. -/
theorem enqueue_mac (q : Nat) (f : List Byte) (t : State) : (enqueue q f t).net.mac = t.net.mac := by
  unfold enqueue
  dsimp only
  split
  · rfl
  · split <;> rfl

theorem foldl_enqueue_mac (l : List Nat) (f : List Byte) (t : State) :
    (l.foldl (fun u q => enqueue q f u) t).net.mac = t.net.mac := by
  induction l generalizing t with
  | nil => rfl
  | cons q l ih => exact (ih _).trans (enqueue_mac q f t)

/-- A frame that is neither the device's, nor a group's, nor its own probe does not reach the device port. -/
theorem deviceTakes_forOthers {t : State} (hdst : slice b 0 6 ≠ t.net.mac) (hgroup : g1 b 0 % 2 = 0)
    (hsrc : slice b 6 6 ≠ t.net.mac) : deviceTakes p b t = t := by
  have hfirst : g1 (slice b 0 6) 0 = g1 b 0 := by
    cases b <;> rfl
  unfold deviceTakes
  dsimp only
  rw [if_neg (by simp [hsrc])]
  exact if_pos (by simp [hdst, hfirst, hgroup])

end

/-! ### ARP and echo (R458) -/

theorem answerArp_own {s : State} (p : Nat) (mac ip : List Byte) :
    answerArp p mac ip (ipAddr s) s =
      enqueue p (deviceFrame s (fit 6 mac) 0x0806
        (asciiBytes [0, 1, 8, 0, 6, 4, 0, 2] ++ s.net.mac ++ ipAddr s ++ fit 6 mac ++ fit 4 ip)) s :=
  if_neg (by simp)

theorem answerArp_other {s : State} {target : List Byte} (h : target ≠ ipAddr s) (p : Nat) (mac ip : List Byte) :
    answerArp p mac ip target s = s := if_pos (by simp [h])

theorem answerEcho_own {s : State} {d msg : List Byte} (hmsg : msg = zeros 2 ++ beBytes 2 (inetSum (zeros 4 ++ d)) ++ d)
    (p : Nat) (mac ip : List Byte) :
    answerEcho p mac ip (ipAddr s) d s =
      enqueue p (deviceFrame s (fit 6 mac) 0x0800 (ipHeader s 1 msg.length ip ++ msg)) s := by
  subst hmsg
  exact if_neg (by simp)

theorem answerEcho_other {s : State} {dst : List Byte} (h : dst ≠ ipAddr s) (p : Nat) (mac ip d : List Byte) :
    answerEcho p mac ip dst d s = s := if_pos (by simp [h])

/-- A frame of an echo request has 24 bytes more than its data, and at least 64. -/
theorem waitingOf_echo (p : Nat) (mac ip dst d : List Byte) :
    waitingOf (.echo p mac ip dst d) = ⟨0, max 64 (42 + d.length), .echo p mac ip dst d⟩ := by
  simp only [waitingOf, wireSize]
  congr 2
  omega

/-! ### The ordinary clock (R459, R460; notes/assumptions/154.md) -/

theorem noteLock_self (s : State) : noteLock s s = s := if_pos (by simp)

section
variable {s : State} {m : PtpMsg}

theorem ptpMessageFx_frame (hbody : m.body ≠ .silent) : ptpMessageFx m s = lineRow m.port [] (.ptp m) (takePtp m) s := by
  unfold ptpMessageFx
  cases h : m.body with
  | silent => exact absurd h hbody
  | _ => rfl

theorem ptpMessageFx_heard (hbody : m.body ≠ .silent) (h : heardPtp s m) :
    ptpMessageFx m s = takePtp m (counted m.port [] s) := by
  obtain ⟨hin, hdevice, hre, -⟩ := h
  exact (ptpMessageFx_frame hbody).trans (lineRow_hears hin hdevice hre)

section
variable (hon : ordinaryClock s = true) (htransport : m.transport = g1 (netBody s) 34) (hdomain : m.domain = g1 (netBody s) 33)
include hon htransport hdomain

theorem takePtp_announce {gm a q b k : Nat} {utc : Int} (hbody : m.body = .announce gm a q b k utc) :
    takePtp m s =
      noteLock s (ptpChoose ({ source := m.source, rank := [a, q, b, gm, k, m.source], utcOffset := utc } ::
        s.net.ptpMasters.filter (fun x => x.source != m.source)) s) := by
  unfold takePtp
  simp only [hbody]
  exact if_neg (by simp [hon, htransport, hdomain])

theorem takePtp_silent (hbody : m.body = .silent) :
    takePtp m s = noteLock s (ptpChoose (s.net.ptpMasters.filter (fun x => x.source != m.source)) s) := by
  unfold takePtp
  simp only [hbody]
  exact if_neg (by simp [hon, htransport, hdomain])

/-- A message of the clock that is followed. -/
theorem takePtp_chosen {x : PtpMaster} (hannounce : isAnnounce m.body = false) (hsilent : m.body ≠ .silent)
    (hx : s.net.ptpMasters.find? (fun y => y.source == m.source) = some x) (hchosen : s.net.ptpChosen = some m.source) :
    takePtp m s = noteLock s (ptpFollow m x.utcOffset s) := by
  unfold takePtp
  dsimp only
  rw [if_neg (by simp [hon, htransport, hdomain])]
  cases hbody : m.body with
  | announce => rw [hbody] at hannounce; cases hannounce
  | silent => exact absurd hbody hsilent
  | _ => simp only [hx, if_pos hchosen]

end

theorem takePtp_elsewhere
    (h : ordinaryClock s = false ∨ m.transport ≠ g1 (netBody s) 34 ∨ m.domain ≠ g1 (netBody s) 33) : takePtp m s = s :=
  if_pos (by rcases h with h | h | h <;> simp [h])

/-- Besides Announce and its ceasing only a message of the followed clock acts, and it may change nothing. -/
theorem takePtp_unchanged (hannounce : isAnnounce m.body = false) (hsilent : m.body ≠ .silent)
    (h : s.net.ptpChosen = some m.source → ∀ utc, ptpFollow m utc s = s) : takePtp m s = s := by
  unfold takePtp
  dsimp only
  split
  · rfl
  · cases hbody : m.body with
    | announce => rw [hbody] at hannounce; cases hannounce
    | silent => exact absurd hbody hsilent
    | _ =>
      cases s.net.ptpMasters.find? (fun x => x.source == m.source) with
      | none => exact noteLock_self s
      | some x =>
        by_cases hchosen : s.net.ptpChosen = some m.source
        · simp only [if_pos hchosen, h hchosen, noteLock_self]
        · simp only [if_neg hchosen, noteLock_self]

variable {x : PtpExchange} {utc origin : Int}

theorem ptpFollow_sync (two : Bool) (hbody : m.body = .sync two origin) :
    ptpFollow m utc s =
      if two then
        onNet (fun n => { n with ptpExchange :=
          { n.ptpExchange with
            syncSeq := m.seq, origin := none, correction := m.correction, arrived := calendarNs s, left := none } }) s
      else
        askDelay origin m.correction (onNet (fun n => { n with ptpExchange :=
          { n.ptpExchange with
            syncSeq := m.seq, origin := none, correction := m.correction, arrived := calendarNs s, left := none } }) s) := by
  simp only [ptpFollow, hbody]
  rfl

theorem ptpFollow_followUp (hbody : m.body = .followUp origin) (hseq : m.seq = s.net.ptpExchange.syncSeq)
    (hopen : s.net.ptpExchange.origin = none) :
    ptpFollow m utc s = askDelay origin (s.net.ptpExchange.correction + m.correction) s := by
  simp [ptpFollow, hbody, hseq, hopen]

theorem ptpFollow_delayResp {receive t1 t3 off : Int} (hbody : m.body = .delayResp (beNat (portIdentity s)) receive)
    (hx : x = s.net.ptpExchange) (horigin : x.origin = some t1) (hleft : x.left = some t3) (hseq : m.seq = x.delaySeq)
    (hoff : off = ((x.arrived - (t1 - utc * 1000000000)) -
      ((receive - m.correction.fdiv 65536 - utc * 1000000000) - t3)).fdiv 2) :
    ptpFollow m utc s = ptpOffsetSeen off (onNet (fun n => { n with ptpExchange := { x with origin := none, left := none } }) s) := by
  subst hx hoff
  simp [ptpFollow, hbody, horigin, hleft, hseq]

/-- A message that does not belong to the exchange under way. -/
theorem ptpFollow_stray {k : Nat} {o : Int} (hx : x = s.net.ptpExchange)
    (h : (m.body = .followUp o ∧ (m.seq ≠ x.syncSeq ∨ x.origin ≠ none)) ∨
      (m.body = .delayResp k o ∧ (x.origin = none ∨ x.left = none ∨ k ≠ beNat (portIdentity s) ∨ m.seq ≠ x.delaySeq))) :
    ptpFollow m utc s = s := by
  subst hx
  rcases h with ⟨hbody, hstray⟩ | ⟨hbody, hstray⟩
  · unfold ptpFollow
    simp only [hbody]
    exact if_neg (by rcases hstray with h | h <;> simp [h])
  · unfold ptpFollow
    simp only [hbody]
    split
    · rename_i t1 t3 horigin hleft
      refine if_neg ?_
      rcases hstray with h | h | h | h
      · rw [horigin] at h; cases h
      · rw [hleft] at h; cases h
      · simp [h]
      · simp [h]
    · rfl

end

section
variable {s : State} {m : PtpMsg}

theorem fromChosen_known (h : fromChosen s m) :
    ∃ x, s.net.ptpMasters.find? (fun y => y.source == m.source) = some x := by
  obtain ⟨-, hany⟩ := h
  obtain ⟨y, hy, hsource⟩ := List.any_eq_true.mp hany
  exact Option.isSome_iff_exists.mp (List.find?_isSome.mpr ⟨y, hy, hsource⟩)

/-- A message of the followed clock that comes in. -/
theorem ptpMessageFx_followed {x : PtpMaster} (h : heardPtp s m) (hannounce : isAnnounce m.body = false)
    (hsilent : m.body ≠ .silent) (hx : s.net.ptpMasters.find? (fun y => y.source == m.source) = some x)
    (hchosen : s.net.ptpChosen = some m.source) :
    ptpMessageFx m s =
      noteLock (counted m.port [] s) (ptpFollow m x.utcOffset (counted m.port [] s)) := by
  rw [ptpMessageFx_heard hsilent h]
  obtain ⟨-, -, -, hon, htransport, hdomain⟩ := h
  exact takePtp_chosen (by simpa using hon) (by simpa using htransport) (by simpa using hdomain) hannounce hsilent
    (by simpa using hx) (by simpa using hchosen)

/-- A PTP message that changes nothing is only counted. -/
theorem ptpMessageFx_ignored (hin : comesIn s m.port) (hsilent : m.body ≠ .silent) (hre : s.absorb.reexecuting = false)
    (h : devicePort s = false ∨ takePtp m (counted m.port [] s) = counted m.port [] s) :
    ptpMessageFx m s = counted m.port [] s :=
  (ptpMessageFx_frame hsilent).trans (lineRow_ignores hin (h.imp_right (fun h => ⟨hre, h⟩)))

theorem ptpMessageFx_silent_heard (hbody : m.body = .silent) (hdevice : devicePort s = true) :
    ptpMessageFx m s = takePtp m s := by
  simp [ptpMessageFx, hbody, hdevice]

theorem ptpMessageFx_silent_idle (hbody : m.body = .silent) (h : devicePort s = false ∨ takePtp m s = s) :
    ptpMessageFx m s = s := by
  rcases h with h | h <;> simp [ptpMessageFx, hbody, h]

end

/-! ### The loop guard, links, the Spring clock, and idle sessions (R456, R457, R460, R463, R464) -/

section
variable {s : State} {p back b : Nat}

theorem loopProbeSendFx_sends (hdevice : devicePort s = true) (hguard : loopGuard s = true) (hp : p < 3) :
    loopProbeSendFx p s = enqueue p (deviceFrame s (fit 6 Config.probeDst) 0x88B5 Config.probeBody) s :=
  if_pos (by simp [hdevice, hguard, hp])

theorem loopProbeSendFx_idle (h : devicePort s = false ∨ loopGuard s = false ∨ 3 ≤ p) : loopProbeSendFx p s = s :=
  if_neg (by rcases h with h | h | h <;> simp [h])

theorem probeBack_guarded (hdevice : devicePort s = true) (hguard : loopGuard s = true)
    (hb : b = (if back = 0 then 2 else 1)) :
    probeBack back s =
      if portBlocked s b then
        onNet (fun n => { n with blocked := (b, s.sys.devTime) :: n.blocked.filter (fun e => e.1 != b) }) s
      else
        note 0x0C12 [b, 1] (onNet (fun n =>
          { n with blocked := (b, s.sys.devTime) :: n.blocked.filter (fun e => e.1 != b) }) s) := by
  subst hb
  exact if_neg (by simp [hdevice, hguard])

theorem probeBack_idle (h : devicePort s = false ∨ loopGuard s = false) : probeBack back s = s :=
  if_pos (by rcases h with h | h <;> simp [h])

theorem loopProbeReturnFx_comesBack (hon : switchOn s = true) (hback : back ≤ 2) :
    loopProbeReturnFx p back s =
      if p = back then counted back s.net.mac s else probeBack back (counted back s.net.mac s) :=
  fromLine_passes hon hback (.inr rfl)

theorem linkTo_comesUp (hlink : (port s p).link = false) (hready : s.sys.ready = true) :
    linkTo p 1 s = note 0x0C10 [p, 1] (modPort p (fun x =>
      { x with link := true, wrongSpeed := false, queues := x.queues }) s) := by
  simp only [linkTo, hlink, hready]
  rfl

theorem linkChangeFx_tells (hon : switchOn s = true) {cause : Nat} (h : (p < 2 ∧ (cause = 1 ∨ cause = 2)) ∨
    (p = 2 ∧ 1 ≤ cause ∧ cause ≤ 3 ∧ uplinkMode s ≠ 0 ∧ s.net.applied = true)) :
    linkChangeFx p cause s = linkTo p cause s := by
  refine if_neg ?_
  rcases h with ⟨hp, h | h⟩ | ⟨hp, hmin, hmax, huplink, happlied⟩
  · simp [hon, h, show p ≤ 2 by omega, show p ≠ 2 by omega]
  · simp [hon, h, show p ≤ 2 by omega, show p ≠ 2 by omega]
  · simp [hon, hp, huplink, happlied, show cause ≠ 0 by omega, hmax]

theorem linkChangeFx_idle {cause : Nat} (h : switchOn s = false ∨ 2 < p ∨ cause = 0 ∨ 3 < cause ∨ (p < 2 ∧ cause = 3) ∨
    (p = 2 ∧ (uplinkMode s = 0 ∨ s.net.applied = false))) : linkChangeFx p cause s = s := by
  refine if_pos ?_
  rcases h with h | h | h | h | ⟨hp, hc⟩ | ⟨hp, h | h⟩
  · simp [h]
  · simp [h]
  · simp [h]
  · simp [h]
  · simp [hp, hc]
  · simp [hp, h]
  · simp [hp, h]

theorem phyPollFx_polls {link gb : Bool} (hdevice : devicePort s = true) (hmode : uplinkMode s = 1) :
    phyPollFx link gb s = linkTo 2 (if link = false then 2 else if gb then 1 else 3) s := by
  unfold phyPollFx
  rw [if_neg (by simp [hdevice, hmode])]
  cases link <;> rfl

theorem phyPollFx_idle {link gb : Bool} (h : devicePort s = false ∨ uplinkMode s ≠ 1) : phyPollFx link gb s = s :=
  if_pos (by rcases h with h | h <;> simp [h])

theorem loopGuardReleaseFx_releases {l : List (Nat × Nat)}
    (hl : l = s.net.blocked.filter (fun e => decide (e.2 + 10000000000 ≤ s.sys.devTime))) :
    loopGuardReleaseFx s =
      l.foldl (fun t e => note 0x0C12 [e.1, 2] t) (onNet (fun n =>
        { n with blocked := n.blocked.filter (fun e => decide (s.sys.devTime < e.2 + 10000000000)) }) s) := by
  have hkept : (fun e : Nat × Nat => !decide (e.2 + 10000000000 ≤ s.sys.devTime)) =
      fun e => decide (s.sys.devTime < e.2 + 10000000000) := by
    funext e
    rw [← decide_not]
    exact decide_eq_decide.mpr Nat.not_le
  subst hl
  simp only [loopGuardReleaseFx, unblock, hkept]

theorem springClockUpdateFx_idle (h : s.sys.ready = false ∨ s.power.springPowered = false) : springClockUpdateFx s = s :=
  if_neg (by rcases h with h | h <;> simp [h])

theorem sessionIdleFx_ends {id k : Nat} (hk : sessionNo s id = some k)
    (hidle : (tget s.net.sessions k).lastSeen + idleSeconds s * 1000000000 ≤ s.sys.devTime) :
    sessionIdleFx id s = closeSession k 3 s := by
  simp only [sessionIdleFx, hk, if_pos hidle]

theorem sessionIdleFx_stays {id : Nat}
    (h : ∀ k ∈ sessionNo s id, s.sys.devTime < (tget s.net.sessions k).lastSeen + idleSeconds s * 1000000000) :
    sessionIdleFx id s = s := by
  unfold sessionIdleFx
  cases hk : sessionNo s id with
  | none => rfl
  | some k => exact if_neg (Nat.not_le.mpr (h k hk))

end

/-- Settles O53: each row is a frame that the switch counts and whose sender it learns, and what the device port then does with
it. -/
theorem lineEventsAct : Obligations.LineEventsAct := by
  unfold Obligations.LineEventsAct
  refine ⟨?badCheck, ?whole, ?forOthers, ?onlyCounted, ?unfit, ?arp, ?echo, ?notAnswered, ?waits, ?blocked, ?idle, ?announce,
    ?ceased, ?sync, ?syncTwoStep, ?followUp, ?delayResp, ?ptpIgnored, ?stray, ?ceasedIdle, ?probe, ?probeIdle, ?probeBack,
    ?probeBackAgain, ?probeBackIdle, ?probeBackOff, ?release, ?phy, ?phyIdle, ?linkUp, ?link, ?linkIdle, ?spring,
    ?springIdle, ?sessionIdle, ?sessionStays, ?lockout⟩
  case badCheck =>
    intro s p b hon hp hlink
    exact next_settled_congr (ethFrameFx_badCheck hon hp hlink)
  case whole =>
    intro s u p b hon hp hlink hmin hmax hown hfree hu
    subst hu
    exact next_settled_congr ((ethFrameFx_whole hon hp hlink hmin hmax hown).trans (fromLine_passes hon hp hfree))
  case forOthers =>
    intro s u p b hon hp hlink hmin hmax hown hfree hu hdst hgroup hsrc
    subst hu
    refine next_settled_congr ((ethFrameFx_whole hon hp hlink hmin hmax hown).trans
      ((fromLine_passes hon hp (.inl hfree)).trans ?_))
    have hmac := (foldl_enqueue_mac (egress (counted p (slice b 6 6) s) p b) b (counted p (slice b 6 6) s)).trans
      (counted_mac p (slice b 6 6) s)
    exact deviceTakes_forOthers (hmac ▸ hdst) hgroup (hmac ▸ hsrc)
  case onlyCounted =>
    intro s p b hon hp hlink hmin hmax h
    refine next_settled_congr ?_
    by_cases hforeign : foreignVlan s b
    · exact ethFrameFx_foreign hon hp hlink hmin hmax hforeign
    · obtain ⟨hblocked, hprobe⟩ := h.resolve_right hforeign
      rw [ethFrameFx_whole hon hp hlink hmin hmax (by
        simpa only [foreignVlan, not_and_or, not_not, Bool.not_eq_true, Bool.not_eq_false] using hforeign), hprobe]
      exact fromLine_blocked hon hp hblocked
  case unfit =>
    intro s p b k h
    exact next_settled_congr (ethFrameFx_idle h)
  case arp =>
    intro s u p mac ip hin hu hdevice hre
    subst hu
    have hanswer := answerArp_own (s := counted p mac s) p mac ip
    rw [counted_deviceFrame, counted_ipAddr, counted_mac] at hanswer
    exact next_settled_congr ((lineRow_hears hin hdevice hre).trans hanswer)
  case echo =>
    intro s u p mac ip d msg hin hu hdevice hre hmsg
    subst hu
    have hanswer := answerEcho_own (s := counted p mac s) hmsg p mac ip
    rw [counted_deviceFrame, counted_ipAddr, counted_ipHeader] at hanswer
    exact next_settled_congr ((lineRow_hears hin hdevice hre).trans hanswer)
  case notAnswered =>
    intro s u p mac ip dst d hin hu h
    subst hu
    exact ⟨next_settled_congr (lineRow_ignores hin (h.imp_right (And.imp_right (fun hdst =>
        answerArp_other (by simpa using hdst) p mac ip)))),
      next_settled_congr (lineRow_ignores hin (h.imp_right (And.imp_right (fun hdst =>
        answerEcho_other (by simpa using hdst) p mac ip d))))⟩
  case waits =>
    intro s u v p mac ip dst d m hin hu hv hdevice hre hport hbody
    subst hu hv hport
    have hecho := lineRow_waits (mac := mac) (i := .echo m.port mac ip dst d) (f := answerEcho m.port mac ip dst d) hin
      hdevice hre
    rw [waitingOf_echo] at hecho
    exact ⟨next_settled_congr (lineRow_waits hin hdevice hre), next_settled_congr hecho,
      next_settled_congr ((ptpMessageFx_frame hbody).trans (lineRow_waits hin hdevice hre))⟩
  case blocked =>
    intro s p mac ip dst d m hon hp hblocked hport hbody
    subst hport
    exact ⟨next_settled_congr (lineRow_blocked hon hp hblocked), next_settled_congr (lineRow_blocked hon hp hblocked),
      next_settled_congr ((ptpMessageFx_frame hbody).trans (lineRow_blocked hon hp hblocked))⟩
  case idle =>
    intro s p mac ip dst d m h hport hbody
    subst hport
    exact ⟨next_settled_congr (lineRow_idle h), next_settled_congr (lineRow_idle h),
      next_settled_congr ((ptpMessageFx_frame hbody).trans (lineRow_idle h))⟩
  case announce =>
    intro s u m gm a q b k utc l hheard hu hbody hl
    subst hu hl
    refine next_settled_congr ((ptpMessageFx_heard (by simp [hbody]) hheard).trans ?_)
    obtain ⟨-, -, -, hon, htransport, hdomain⟩ := hheard
    have htake := takePtp_announce (s := counted m.port [] s) (by simpa using hon) (by simpa using htransport)
      (by simpa using hdomain) hbody
    rwa [counted_ptpMasters] at htake
  case ceased =>
    intro s m l hdevice hon htransport hdomain hbody hl
    subst hl
    exact next_settled_congr ((ptpMessageFx_silent_heard hbody hdevice).trans (takePtp_silent hon htransport hdomain hbody))
  case sync =>
    intro s u m origin hheard hu hbody hfrom
    obtain ⟨x, hx⟩ := fromChosen_known hfrom
    subst hu
    have hact := ptpMessageFx_followed hheard (by rw [hbody]; rfl) (by simp [hbody]) hx hfrom.1
    rw [ptpFollow_sync false hbody, counted_calendarNs] at hact
    exact next_settled_congr hact
  case syncTwoStep =>
    intro s u m origin hheard hu hbody hfrom
    obtain ⟨x, hx⟩ := fromChosen_known hfrom
    subst hu
    have hact := ptpMessageFx_followed hheard (by rw [hbody]; rfl) (by simp [hbody]) hx hfrom.1
    rw [ptpFollow_sync true hbody, counted_calendarNs] at hact
    exact next_settled_congr hact
  case followUp =>
    intro s u m origin hheard hu hbody hfrom hseq hopen
    obtain ⟨x, hx⟩ := fromChosen_known hfrom
    subst hu
    have hact := ptpMessageFx_followed hheard (by rw [hbody]; rfl) (by simp [hbody]) hx hfrom.1
    rw [ptpFollow_followUp hbody (by simpa using hseq) (by simpa using hopen), counted_ptpExchange] at hact
    exact next_settled_congr hact
  case delayResp =>
    intro s u m x c t1 t3 rt off hheard hu hbody hchosen hc hx horigin hleft hseq hoff
    subst hu
    have hact := ptpMessageFx_followed hheard (by rw [hbody]; rfl) (by simp [hbody]) hc hchosen
    rw [ptpFollow_delayResp (by rw [counted_portIdentity]; exact hbody) (by simpa using hx) horigin hleft hseq hoff] at hact
    exact next_settled_congr hact
  case ptpIgnored =>
    intro s u m hin hre hu hsilent h
    subst hu
    refine next_settled_congr (ptpMessageFx_ignored hin hsilent hre ?_)
    rcases h with h | h | h | h | ⟨hannounce, hchosen⟩
    · exact .inl h
    · exact .inr (takePtp_elsewhere (.inl (by simpa using h)))
    · exact .inr (takePtp_elsewhere (.inr (.inl (by simpa using h))))
    · exact .inr (takePtp_elsewhere (.inr (.inr (by simpa using h))))
    · exact .inr (takePtp_unchanged hannounce hsilent
        (fun h => absurd h (by simpa using hchosen)))
  case stray =>
    intro s u m x k o hheard hu hx h
    have hkind : isAnnounce m.body = false ∧ m.body ≠ .silent := by
      rcases h with ⟨hbody, -⟩ | ⟨hbody, -⟩ <;> simp [hbody, isAnnounce]
    obtain ⟨hannounce, hsilent⟩ := hkind
    subst hu
    obtain ⟨hin, -, hre, -⟩ := hheard
    exact next_settled_congr (ptpMessageFx_ignored hin hsilent hre (.inr (takePtp_unchanged hannounce hsilent
      (fun _ _ => ptpFollow_stray (by simpa using hx) (by simpa using h)))))
  case ceasedIdle =>
    intro s m hbody h
    exact next_settled_congr (ptpMessageFx_silent_idle hbody (h.imp_right takePtp_elsewhere))
  case probe =>
    intro s p hdevice hguard hp
    exact next_settled_congr (loopProbeSendFx_sends hdevice hguard hp)
  case probeIdle =>
    intro s p h
    exact next_settled_congr (loopProbeSendFx_idle h)
  case probeBack =>
    intro s u p back b hon hdevice hguard hne hback hu hb hfree
    subst hu
    have hact := probeBack_guarded (s := counted back s.net.mac s) (by simpa using hdevice) (by simpa using hguard) hb
    rw [counted_portBlocked, if_neg (by simp [hfree]), counted_sys] at hact
    exact next_settled_congr ((loopProbeReturnFx_comesBack hon hback).trans ((if_neg hne).trans hact))
  case probeBackAgain =>
    intro s u p back b hon hdevice hguard hne hback hu hb hblocked
    subst hu
    have hact := probeBack_guarded (s := counted back s.net.mac s) (by simpa using hdevice) (by simpa using hguard) hb
    rw [counted_portBlocked, if_pos hblocked, counted_sys] at hact
    exact next_settled_congr ((loopProbeReturnFx_comesBack hon hback).trans ((if_neg hne).trans hact))
  case probeBackIdle =>
    intro s u p back hon hback hu h
    subst hu
    refine next_settled_congr ((loopProbeReturnFx_comesBack hon hback).trans ?_)
    split
    · rfl
    · next hne =>
      exact probeBack_idle (by simpa using h.imp_right (fun h => h.resolve_right hne))
  case probeBackOff =>
    intro s p back h
    exact next_settled_congr (fromLine_idle h)
  case release =>
    intro s l hl
    exact next_settled_congr (loopGuardReleaseFx_releases hl)
  case phy =>
    intro s link gb cause hdevice hmode hcause
    subst hcause
    exact next_settled_congr (phyPollFx_polls hdevice hmode)
  case phyIdle =>
    intro s link gb h
    exact next_settled_congr (phyPollFx_idle h)
  case linkUp =>
    intro s p hon hp hlink hspeed hready
    exact next_settled_congr ((linkChangeFx_tells hon (.inl ⟨hp, .inl rfl⟩)).trans (linkTo_comesUp hlink hready))
  case link =>
    intro s p cause hon h
    exact next_settled_congr (linkChangeFx_tells hon h)
  case linkIdle =>
    intro s p cause h
    exact next_settled_congr (linkChangeFx_idle h)
  case spring =>
    intro s hready hpowered
    exact next_settled_congr (if_pos (by simp [hready, hpowered]))
  case springIdle =>
    intro s h
    exact next_settled_congr (springClockUpdateFx_idle h)
  case sessionIdle =>
    intro s id k hk hidle
    exact next_settled_congr (sessionIdleFx_ends hk hidle)
  case sessionStays =>
    intro s id h
    exact next_settled_congr (sessionIdleFx_stays h)
  case lockout =>
    intro s addr via
    rfl

/-! ### Sessions (R461–R465, R468, R469) -/

section
variable {s t u : State} {r q : Req} {src : UdpSrc} {d : Side} {e : Nonce} {o : Org} {b : List Byte}

/-- What opens S0 and takes up the command changes sluices only. -/
theorem begun_openS0 (code : Nat) (q : Req) (d : Side) (s : State) :
    begun code q (openS0 d s) = { s with mail := (begun code q (openS0 d s)).mail } := by
  rw [openS0_touches]
  rfl

/-- A session-0 command of a source that is heard. -/
theorem fromGuest_serves {code : Nat} {h : Org → List Byte → State → Res} (hsrc : srcOf r.side = some src)
    (hd : dgramSide s src 0 (r.sluice % 16) = some d) (hq : q = { r with side := d }) (hu : u = openS0 d s) :
    fromGuest code h r s = serve code h q u := by
  simp only [fromGuest, hsrc, hd, hq, hu]

theorem fromGuest_discarded {code : Nat} {h : Org → List Byte → State → Res} (hsrc : srcOf r.side = some src)
    (hd : dgramSide s src 0 (r.sluice % 16) = none) : fromGuest code h r s = s := by
  simp only [fromGuest, hsrc, hd]

theorem fromGuest_otherSide {code : Nat} {h : Org → List Byte → State → Res} (hsrc : srcOf r.side = none) :
    fromGuest code h r s = serve code h r s := by
  simp only [fromGuest, hsrc]

/-- A session-0 command that its handler does at once. -/
theorem fromGuest_of_done {code st : Nat} {h : Org → List Byte → State → Res} {data : List Byte}
    (hsrc : srcOf r.side = some src) (hd : dgramSide s src 0 (r.sluice % 16) = some d) (hq : q = { r with side := d })
    (hu : u = openS0 d s) (ha : asks code q u = true)
    (hdone : h (reqOrg code q) r.payload (begun code q u) = .done st data t) :
    fromGuest code h r s = answered code q st data t := by
  rw [fromGuest_serves hsrc hd hq hu]
  refine serve_of_done ha ?_
  rw [hq] at hdone ⊢
  exact hdone

theorem firstKeyWay_keyed {k : List Byte} (hkey : s.net.key = some k) (via : Nat) : firstKeyWay s via = false := by
  simp [firstKeyWay, hkey]

/-- A proof that opens a session: that of the key, or on the first key's way zeros (R462, R465). -/
def rightProof (s : State) (src : UdpSrc) (e : Nonce) (b : List Byte) : Bool :=
  if firstKeyWay s src.via then b.all (· == 0)
  else b == lineProof (s.net.key.getD []) labelEvvr e.client e.device (serialBytes s)

/-- The device's own proof (R462, R465). -/
def deviceProof (s : State) (src : UdpSrc) (e : Nonce) : List Byte :=
  if firstKeyWay s src.via then zeros 16 else lineProof (s.net.key.getD []) labelRvve e.device e.client (serialBytes s)

/-- A session of a source opens with the next number. -/
def sessionOpened (s : State) (src : UdpSrc) (t : State) : State :=
  note 0x0C11 [freshId s, src.addr, 1] (openS0 (.udp (2 * s.net.sessionNext)) (drawn 2 (onNet (fun n =>
    { n with
      sessionNext := n.sessionNext + 1,
      sessions := tset n.sessions (2 * s.net.sessionNext)
        { id := freshId s, addr := src.addr, port := src.port, via := src.via, lastSeen := s.sys.devTime } }) t)))

section
variable (ht : t = { s with mail := t.mail })
include ht

theorem netSessionOpenH_opens (hsrc : srcOf o.side = some src) (hkey : s.net.key ≠ none ∨ firstKeyWay s src.via = true) :
    netSessionOpenH o b t =
      .done sOK (randomBytes 8 s ++ serialBytes s) (drawn 8 (onNet (fun n =>
        { n with
          nonces := { addr := src.addr, port := src.port, via := src.via, client := b, device := randomBytes 8 s,
                      at_ := s.sys.devTime } ::
            n.nonces.filter (fun x => !(x.addr == src.addr && x.port == src.port && x.via == src.via)) }) t)) := by
  have hway : ¬ (s.net.key.isNone && !firstKeyWay s src.via) = true := by
    rcases hkey with h | h <;> simp [h]
  generalize t.mail = m at ht
  subst ht
  simp only [netSessionOpenH, hsrc]
  exact if_neg hway

theorem netSessionOpenH_keyless (hsrc : srcOf o.side = some src) (hkey : s.net.key = none)
    (hway : firstKeyWay s src.via = false) : netSessionOpenH o b t = .done sAUTH [] t := by
  have hrefused : (s.net.key.isNone && !firstKeyWay s src.via) = true := by simp [hkey, hway]
  generalize t.mail = m at ht
  subst ht
  simp only [netSessionOpenH, hsrc]
  exact if_pos hrefused

/-- A kept pair is used up, whatever the proof. -/
theorem netSessionAuthH_pair (hsrc : srcOf o.side = some src) (he : nonceOf s src = some e)
    (hkey : s.net.key ≠ none ∨ firstKeyWay s src.via = true) {v : State}
    (hv : v = onNet (fun n => { n with nonces := n.nonces.filter (· != e) }) t) :
    netSessionAuthH o b t =
      if s.sys.devTime > e.at_ + 5000000000 then .done sTIMEOUT [] v
      else if !rightProof s src e b then .done sAUTH [] (wrongProof src v)
      else if min 4 (maxSessions s) ≤ s.net.sessions.length then .done sLIMIT [] v
      else .done sOK (p2 (freshId s) ++ zeros 2 ++ deviceProof s src e) (sessionOpened s src v) := by
  have hway : ¬ (s.net.key.isNone && !firstKeyWay s src.via) = true := by
    rcases hkey with h | h <;> simp [h]
  generalize t.mail = m at ht
  subst ht hv
  have hpair : nonceOf { s with mail := m } src = some e := he
  unfold netSessionAuthH
  simp only [hsrc, hpair]
  exact if_neg hway

/-- Without a pair, or without a key and the first key's way, a proof proves nothing. -/
theorem netSessionAuthH_refused (hsrc : srcOf o.side = some src)
    (h : nonceOf s src = none ∨ (s.net.key = none ∧ firstKeyWay s src.via = false)) :
    netSessionAuthH o b t = .done sAUTH [] t := by
  generalize t.mail = m at ht
  subst ht
  unfold netSessionAuthH
  simp only [hsrc]
  split
  · rfl
  · rfl
  · next he =>
    have hpair : nonceOf s src ≠ none := by rw [show nonceOf s src = some _ from he]; simp
    obtain ⟨hkey, hway⟩ := h.resolve_left hpair
    have hrefused : (s.net.key.isNone && !firstKeyWay s src.via) = true := by simp [hkey, hway]
    exact if_pos hrefused

end

/-- NET_SESSION_AUTH of a source with a kept pair. -/
theorem netSessionAuthFx_pair {v : State} (hsrc : srcOf r.side = some src)
    (hd : dgramSide s src 0 (r.sluice % 16) = some d) (hown : srcOf d = some src) (hq : q = { r with side := d })
    (hu : u = openS0 d s) (ha : asks 0x0C02 q u = true) (he : nonceOf s src = some e)
    (hkey : s.net.key ≠ none ∨ firstKeyWay s src.via = true)
    (hv : v = onNet (fun n => { n with nonces := n.nonces.filter (· != e) }) (begun 0x0C02 q u)) :
    netSessionAuthFx r s =
      if s.sys.devTime > e.at_ + 5000000000 then answered 0x0C02 q sTIMEOUT [] v
      else if rightProof s src e r.payload = true then
        if min 4 (maxSessions s) ≤ s.net.sessions.length then answered 0x0C02 q sLIMIT [] v
        else answered 0x0C02 q sOK (p2 (freshId s) ++ zeros 2 ++ deviceProof s src e) (sessionOpened s src v)
      else answered 0x0C02 q sAUTH [] (wrongProof src v) := by
  have hside : srcOf (reqOrg 0x0C02 q).side = some src := by rw [hq]; exact hown
  have hpair := netSessionAuthH_pair (b := r.payload) (by rw [hu]; exact begun_openS0 ..) hside he hkey hv
  have hdone {st : Nat} {data : List Byte} {t : State} (h : netSessionAuthH (reqOrg 0x0C02 q) r.payload (begun 0x0C02 q u) =
      .done st data t) : netSessionAuthFx r s = answered 0x0C02 q st data t := fromGuest_of_done hsrc hd hq hu ha h
  by_cases hlate : s.sys.devTime > e.at_ + 5000000000
  · rw [if_pos hlate] at hpair ⊢
    exact hdone hpair
  · rw [if_neg hlate] at hpair ⊢
    cases hproof : rightProof s src e r.payload with
    | false => exact hdone (hpair.trans (if_pos (by simp [hproof])))
    | true =>
      rw [if_neg (by simp [hproof])] at hpair
      rw [if_pos rfl]
      split at hpair
      · next hfull => rw [if_pos hfull]; exact hdone hpair
      · next hroom => rw [if_neg hroom]; exact hdone hpair

theorem netSessionOpenH_otherSide (hsrc : srcOf o.side = none) : netSessionOpenH o b s = .done sBADOBJ [] s := by
  simp only [netSessionOpenH, hsrc]

theorem netSessionAuthH_otherSide (hsrc : srcOf o.side = none) : netSessionAuthH o b s = .done sAUTH [] s := by
  simp only [netSessionAuthH, hsrc]

theorem netSessionCloseH_named {k : Nat} (hid : g2 b 0 ≠ 0) (hzero : zeroAt b 2 2 = true)
    (hk : (s.net.sessions.find? (fun e => e.2.id == g2 b 0)).map (·.1) = some k) :
    netSessionCloseH o b s = .later (closeSession k 2 (place o sOK [] s)) := by
  simp only [netSessionCloseH, hzero, if_neg hid, hk]
  rfl

theorem netSessionCloseH_own {k : Nat} (hid : g2 b 0 = 0) (hzero : zeroAt b 2 2 = true) (hside : o.side = .udp k)
    (hopen : tfind s.net.sessions k ≠ none) :
    netSessionCloseH o b s = .later (closeSession k 2 (place o sOK [] s)) := by
  have hsome : (tfind s.net.sessions k).isSome = true := Option.isSome_iff_ne_none.mpr hopen
  simp only [netSessionCloseH, hzero, if_pos hid, hside, if_pos hsome]
  rfl

theorem netSessionCloseH_reserved (hzero : zeroAt b 2 2 = false) : netSessionCloseH o b s = .done sBADOBJ [] s :=
  if_pos (by simp [hzero])

theorem netSessionCloseH_notFound (hzero : zeroAt b 2 2 = true)
    (h : (g2 b 0 ≠ 0 ∧ ∀ e ∈ s.net.sessions, e.2.id ≠ g2 b 0) ∨ (g2 b 0 = 0 ∧ (o.side = .spi ∨ o.side = .app))) :
    netSessionCloseH o b s = .done sNOTFOUND [] s := by
  rcases h with ⟨hid, hnone⟩ | ⟨hid, hside⟩
  · have hfind : s.net.sessions.find? (fun e => e.2.id == g2 b 0) = none :=
      List.find?_eq_none.mpr (fun e he => by simpa using hnone e he)
    simp only [netSessionCloseH, hzero, if_neg hid, hfind]
    rfl
  · rcases hside with hside | hside <;> simp only [netSessionCloseH, hzero, if_pos hid, hside] <;> rfl

theorem netKeyH_zeros (hzero : b.all (· == 0) = true) : netKeyH o b s = .done sBADOBJ [] s := if_pos hzero

theorem netKeyH_stores (hkey : b.all (· == 0) = false) (hstore : canStore (.netKey o b) s = true) :
    netKeyH o b s = .later (requestStore (.netKey o b) (addJob { org := o } s)) :=
  (if_neg (by rw [hkey]; exact Bool.false_ne_true)).trans (if_pos hstore)

theorem netKeyH_noEnergy (hkey : b.all (· == 0) = false) (hstore : canStore (.netKey o b) s = false) :
    netKeyH o b s = .done sNOENERGY [] (requestStore (.netKey o b) s) :=
  (if_neg (by rw [hkey]; exact Bool.false_ne_true)).trans (if_neg (by simp [hstore]))

end

/-- Settles O54: a session-0 command is served on the source's own side, whose opening and taking up change sluices only. -/
theorem sessionCommandsAct : Obligations.SessionCommandsAct := by
  unfold Obligations.SessionCommandsAct
  refine ⟨?open_, ?openKeyless, ?discarded, ?openOther, ?authOther, ?auth, ?authFirst, ?limit, ?late, ?noPair, ?close, ?closeOwn,
    ?closeReserved, ?closeNotFound, ?status, ?key, ?keyNoEnergy, ?keyZeros⟩
  case open_ =>
    intro s u r q src d hsrc hd hown hq hu ha hkey
    have hside : srcOf (reqOrg 0x0C01 q).side = some src := by rw [hq]; exact hown
    exact next_settled_congr (fromGuest_of_done hsrc hd hq hu ha
      (netSessionOpenH_opens (by rw [hu]; exact begun_openS0 ..) hside hkey))
  case openKeyless =>
    intro s u r q src d hsrc hd hown hq hu ha hkey hway
    have hside : srcOf (reqOrg 0x0C01 q).side = some src := by rw [hq]; exact hown
    exact next_settled_congr (fromGuest_of_done hsrc hd hq hu ha
      (netSessionOpenH_keyless (by rw [hu]; exact begun_openS0 ..) hside hkey hway))
  case discarded =>
    intro s r src hsrc hd
    exact ⟨next_settled_congr (fromGuest_discarded hsrc hd), next_settled_congr (fromGuest_discarded hsrc hd)⟩
  case openOther =>
    intro s r hsrc ha
    exact next_settled_congr ((fromGuest_otherSide hsrc).trans (serve_of_done ha (netSessionOpenH_otherSide hsrc)))
  case authOther =>
    intro s r hsrc ha
    exact next_settled_congr ((fromGuest_otherSide hsrc).trans (serve_of_done ha (netSessionAuthH_otherSide hsrc)))
  case auth =>
    intro s u r q src d e k hsrc hd hown hq hu ha hkey he htime hroom
    have hact := netSessionAuthFx_pair hsrc hd hown hq hu ha he (.inl (by simp [hkey])) rfl
    rw [if_neg (Nat.not_lt.mpr htime), if_neg (Nat.not_le.mpr hroom), rightProof, deviceProof, firstKeyWay_keyed hkey src.via,
      hkey] at hact
    exact next_settled_congr hact
  case authFirst =>
    intro s u r q src d e hsrc hd hown hq hu ha hway he htime hroom
    have hact := netSessionAuthFx_pair hsrc hd hown hq hu ha he (.inr hway) rfl
    rw [if_neg (Nat.not_lt.mpr htime), if_neg (Nat.not_le.mpr hroom), rightProof, deviceProof, hway] at hact
    exact next_settled_congr hact
  case limit =>
    intro s u r q src d e k hsrc hd hown hq hu ha hkey he htime hfull
    have hact := netSessionAuthFx_pair hsrc hd hown hq hu ha he (.inl (by simp [hkey])) rfl
    rw [if_neg (Nat.not_lt.mpr htime), if_pos hfull, rightProof, firstKeyWay_keyed hkey src.via, hkey] at hact
    exact next_settled_congr hact
  case late =>
    intro s u r q src d e hsrc hd hown hq hu ha hkey he htime
    exact next_settled_congr ((netSessionAuthFx_pair hsrc hd hown hq hu ha he hkey rfl).trans (if_pos htime))
  case noPair =>
    intro s u r q src d hsrc hd hown hq hu ha h
    have hside : srcOf (reqOrg 0x0C02 q).side = some src := by rw [hq]; exact hown
    exact next_settled_congr (fromGuest_of_done hsrc hd hq hu ha
      (netSessionAuthH_refused (by rw [hu]; exact begun_openS0 ..) hside h))
  case close =>
    intro s r k ha hid hzero hk
    exact next_settled_congr (serve_of_later ha (by decide) (netSessionCloseH_named hid hzero hk))
  case closeOwn =>
    intro s r k ha hid hzero hside hopen
    exact next_settled_congr (serve_of_later ha (by decide) (netSessionCloseH_own hid hzero hside hopen))
  case closeReserved =>
    intro s r ha hzero
    exact next_settled_congr (serve_of_done ha (netSessionCloseH_reserved hzero))
  case closeNotFound =>
    intro s r ha hzero h
    exact next_settled_congr (serve_of_done ha (netSessionCloseH_notFound hzero h))
  case status =>
    intro s r ha
    exact next_settled_congr (serve_of_done ha rfl)
  case key =>
    intro s r ha hkey hstore
    exact next_settled_congr (serve_of_later ha (by decide) (netKeyH_stores hkey hstore))
  case keyNoEnergy =>
    intro s r ha hkey hstore
    exact next_settled_congr (serve_of_done ha (netKeyH_noEnergy hkey hstore))
  case keyZeros =>
    intro s r ha hzero
    exact next_settled_congr (serve_of_done ha (netKeyH_zeros hzero))

end Sys2Proof.Machine

/-! Proofs of the statements of spec/14_freshet.md: the handshake on a line port, as taker and as holder, and the commands. -/

namespace Sys2Proof.Machine

/-! ### A Freshet datagram that comes in (spec/14_freshet.md R481, R482; spec/13_line_uplink.md R455) -/

theorem counted_link (p : Nat) (mac : List Byte) (s : State) : (port (counted p mac s) p).link = (port s p).link := by
  unfold counted learn
  dsimp only
  split <;> simp only [port, modPort, onNet, tget_tmod_self]

/-- The count and the learned sender are no part of what the device hears. -/
@[simp] theorem counted_hears (p kind : Nat) (mac d : List Byte) (s : State) :
    hears (counted p mac s) p kind d = hears s p kind d := by
  simp only [hears, counted_devicePort, counted_link]
  rw [counted_touches]

@[simp] theorem counted_accepts (p : Nat) (mac : List Byte) (s : State) (i : Nat) :
    accepts (counted p mac s) i = accepts s i := by
  rw [counted_touches]; rfl

@[simp] theorem counted_offering (p : Nat) (mac : List Byte) (s : State) : offering (counted p mac s) = offering s := by
  rw [counted_touches]; rfl

@[simp] theorem counted_forwards (p : Nat) (mac : List Byte) (s : State) (q : Nat) :
    forwards (counted p mac s) q = forwards s q := by
  rw [counted_touches]; rfl

@[simp] theorem counted_shake (p : Nat) (mac : List Byte) (s : State) (q : Nat) : shake (counted p mac s) q = shake s q := by
  rw [counted_touches]; rfl

@[simp] theorem counted_fsh (p : Nat) (mac : List Byte) (s : State) : (counted p mac s).fsh = s.fsh := by
  rw [counted_touches]

@[simp] theorem counted_blockWaits (p : Nat) (mac : List Byte) (s : State) : blockWaits (counted p mac s) = blockWaits s := by
  rw [counted_touches]; rfl

theorem devicePort_of_hears {s : State} {p kind : Nat} {d : List Byte} (h : hears s p kind d = true) : devicePort s = true := by
  simp only [hears, Bool.and_eq_true] at h
  obtain ⟨⟨⟨⟨⟨⟨⟨hdevice, -⟩, -⟩, -⟩, -⟩, -⟩, -⟩, -⟩ := h
  exact hdevice

section
variable {s v e : State} {p kind : Nat} {mac ip d : List Byte} {f : State → State}

/-- A datagram that is heard has its effect on the counted state. -/
theorem freshetRow_acts {i : LateFrame} (hin : comesIn s p) (hv : v = counted p mac s) (hhears : hears s p kind d = true)
    (hre : s.absorb.reexecuting = false) (hact : f v = e) : lineRow p mac i f s = e := by
  subst hv
  exact (lineRow_hears hin (devicePort_of_hears hhears) hre).trans hact

/-- A datagram that the device does not take up is only counted. -/
theorem freshetRow_ignored {i : LateFrame} {P : Prop} (hin : comesIn s p) (hv : v = counted p mac s)
    (h : devicePort s = false ∨ (s.absorb.reexecuting = false ∧ P)) (hact : P → f v = v) : lineRow p mac i f s = v := by
  subst hv
  exact lineRow_ignores hin (h.imp_right (And.imp_right hact))

/-! ### As taker: offer, challenge, acceptance (R477, R481) -/

theorem takeFshOffer_judged (hhears : hears v p 1 d = true) (haccepts : accepts v p = true) :
    takeFshOffer p mac ip d v =
      (let j := judgeOffer (.line p) (fshBody d) none v
      if j.1.status ≠ sOK then sendRefuse p (peerOf mac ip) 0 j.1.status j.1.retry j.2
      else if j.1.way = 0 then sendFsh p (peerOf mac ip) 9 0 0 0 (p2 sOK) j.2
      else if (shake v p).taker = 3 ∧ v.fsh.lock = some (.line p) then nextGet p j.2
      else sendFsh p (peerOf mac ip) 2 0 0 0 (randomBytes 8 j.2) (drawn 8 (modShake p (fun k =>
        { k with
          taker := 1, offer := fshBody d, clientNonce := randomBytes 8 j.2, takerSession := 0, peer := peerOf mac ip,
          buf := [] }) j.2))) := by
  unfold takeFshOffer
  rw [if_neg (by simp [hhears, haccepts])]
  simp only [bne_iff_ne, Bool.and_eq_true, decide_eq_true_eq]

theorem takeFshOffer_ignored (h : hears v p 1 d = false ∨ accepts v p = false) : takeFshOffer p mac ip d v = v :=
  if_pos (by rcases h with h | h <;> simp [h])

theorem takeFshChallenge_proves {b : List Byte} (hhears : hears v p 3 d = true) (htaker : (shake v p).taker = 1)
    (hpeer : (shake v p).peer = peerOf mac ip) (hb : b = fshBody d) (hlen : b.length = 16) :
    takeFshChallenge p mac ip d v =
      sendFsh p (peerOf mac ip) 4 0 0 0 (lineProof (lineKey v) labelTaker (shake v p).clientNonce (b.take 8) (b.drop 8))
        (modShake p (fun x => { x with taker := 2, devNonce := b.take 8, holderSerial := g8 b 8 }) v) := by
  subst hb
  unfold takeFshChallenge
  dsimp only
  rw [if_neg (by simp [hhears, htaker, hpeer, hlen]), hpeer]

theorem takeFshChallenge_ignored (h : hears v p 3 d = false ∨ (shake v p).taker ≠ 1 ∨ (shake v p).peer ≠ peerOf mac ip ∨
    (fshBody d).length ≠ 16) : takeFshChallenge p mac ip d v = v :=
  if_pos (by rcases h with h | h | h | h <;> simp [h])

theorem takeFshAccept_judged {b : List Byte} (hhears : hears v p 5 d = true) (htaker : (shake v p).taker = 2)
    (hpeer : (shake v p).peer = peerOf mac ip) (hb : b = fshBody d) (hlen : b.length = 20) :
    takeFshAccept p mac ip d v =
      (let k := shake v p
      let ends := modShake p (fun x => { x with taker := 0 })
      let j := judgeOffer (.line p) k.offer none v
      if b.drop 4 ≠ lineProof (lineKey v) labelHolder k.devNonce k.clientNonce (p8 k.holderSerial) then
        sendRefuse p k.peer (g2 b 0) sAUTH 0 (ends v)
      else if j.1.status ≠ sOK then sendRefuse p k.peer (g2 b 0) j.1.status j.1.retry (ends j.2)
      else if j.1.way = 0 then sendFsh p k.peer 9 (g2 b 0) 0 0 (p2 sOK) (ends j.2)
      else nextGet p (takeLock (.line p) (imgOf k.offer []) j.1.way
        (modShake p (fun x => { x with taker := 3, takerSession := g2 b 0, buf := [] }) j.2))) := by
  subst hb
  unfold takeFshAccept
  dsimp only
  rw [if_neg (by simp [hhears, htaker, hpeer, hlen])]
  simp only [bne_iff_ne]

theorem takeFshAccept_ignored (h : hears v p 5 d = false ∨ (shake v p).taker ≠ 2 ∨ (shake v p).peer ≠ peerOf mac ip ∨
    (fshBody d).length ≠ 20) : takeFshAccept p mac ip d v = v :=
  if_pos (by rcases h with h | h | h | h <;> simp [h])

/-! ### As holder: opening, authentication, reading (R481, R482) -/

theorem takeFshOpen_challenges (hhears : hears v p 2 d = true) (hoffering : offering v = true) (hforwards : forwards v p = true)
    (hlen : (fshBody d).length = 8) :
    takeFshOpen p mac ip d v =
      sendFsh p (peerOf mac ip) 3 0 0 0 (randomBytes 8 v ++ serialBytes v) (drawn 8 (modShake p (fun k =>
        { k with holder := 1, hClientNonce := fshBody d, hDevNonce := randomBytes 8 v, hNonceAt := v.sys.devTime }) v)) :=
  if_neg (by simp [hhears, hoffering, hforwards, hlen])

theorem takeFshOpen_ignored (h : hears v p 2 d = false ∨ offering v = false ∨ forwards v p = false ∨ (fshBody d).length ≠ 8) :
    takeFshOpen p mac ip d v = v :=
  if_pos (by rcases h with h | h | h | h <;> simp [h])

theorem takeFshAuth_checks (hhears : hears v p 4 d = true) (hholder : (shake v p).holder = 1)
    (htime : v.sys.devTime ≤ (shake v p).hNonceAt + 5000000000) :
    takeFshAuth p mac ip d v =
      (let k := shake v p
      let id := if leNat 2 (randomBytes 2 v) = 0 then 1 else leNat 2 (randomBytes 2 v)
      if fshBody d = lineProof (lineKey v) labelTaker k.hClientNonce k.hDevNonce (serialBytes v) then
        sendFsh p (peerOf mac ip) 5 id 0 0
          (p2 id ++ zeros 2 ++ lineProof (lineKey v) labelHolder k.hDevNonce k.hClientNonce (serialBytes v))
          (drawn 2 (modShake p (fun x => { x with holder := 2, hSession := id, hGetAt := v.sys.devTime }) v))
      else sendRefuse p (peerOf mac ip) 0 sAUTH 0 (modShake p (fun x => { x with holder := 0 }) v)) := by
  unfold takeFshAuth
  dsimp only
  rw [if_neg (by simp [hhears, hholder, htime])]
  by_cases hproof : fshBody d =
      lineProof (lineKey v) labelTaker (shake v p).hClientNonce (shake v p).hDevNonce (serialBytes v)
  · rw [if_pos hproof, if_neg (by simp [hproof])]
  · rw [if_neg hproof, if_pos (by simp [hproof])]

theorem takeFshAuth_ignored (h : hears v p 4 d = false ∨ (shake v p).holder ≠ 1 ∨
    (shake v p).hNonceAt + 5000000000 < v.sys.devTime) : takeFshAuth p mac ip d v = v :=
  if_pos (by rcases h with h | h | h <;> simp [h])

theorem takeFshGet_sends (hhears : hears v p 6 d = true) (hholder : (shake v p).holder = 2)
    (hsession : g2 d 4 = (shake v p).hSession) (hcount : g4 d 12 ≤ 8192) (hoffering : offering v = true) :
    takeFshGet p mac ip d v =
      sendPieces p (peerOf mac ip) (shake v p).hSession 8 (g4 d 8) (g4 d 12)
        (modShake p (fun x => { x with hGetAt := v.sys.devTime }) v) :=
  if_neg (by simp [hhears, hholder, hsession, hcount, hoffering])

theorem takeFshGet_ignored (h : hears v p 6 d = false ∨ (shake v p).holder ≠ 2 ∨ g2 d 4 ≠ (shake v p).hSession ∨
    8192 < g4 d 12 ∨ offering v = false) : takeFshGet p mac ip d v = v :=
  if_pos (by rcases h with h | h | h | h | h <;> simp [h])

/-! ### Pieces of the table and of blocks (R479, R481) -/

/-- A piece that is the one asked for, from the peer of the session that holds the lock. -/
structure PieceAsked (v : State) (p : Nat) (mac ip d b : List Byte) (off : Nat) : Prop where
  hears : hears v p 7 d = true
  taker : (shake v p).taker = 3
  peer : (shake v p).peer = peerOf mac ip
  session : g2 d 4 = (shake v p).takerSession
  lock : v.fsh.lock = some (.line p)
  loading : v.fsh.state = 1
  ready : blockWaits v = false
  offset : off = g4 d 8
  wanted : off = (shake v p).want
  body : b = fshBody d
  some : b ≠ []
  count : b.length = g4 d 12
  small : b.length ≤ 1024
  inside : off + b.length ≤ (shake v p).wantEnd

/-- Such a piece moves the taker on, and goes to the table or to its block. -/
theorem takeFshData_asked {b : List Byte} {off : Nat} {u : State} (hasked : PieceAsked v p mac ip d b off)
    (hu : u = modShake p (fun x => { x with want := off + b.length }) v) :
    takeFshData p mac ip d v =
      if off < payloadAt v.fsh.img then
        (let t := modShake p (fun x => { x with buf := x.buf ++ b }) u
        if ((shake v p).buf ++ b).length = 32 * v.fsh.img.blocks then tableCome p t
        else if off + b.length = (shake v p).wantEnd then nextGet p t else t)
      else
        (let q := off - payloadAt v.fsh.img
        let r := takePiece (.line p) (q / 65536) (q % 65536) b u
        if r.1 = .partly then (if off + b.length = (shake v p).wantEnd then nextGet p r.2 else r.2)
        else if r.1 = .bad then nextGet p r.2
        else stageBlock (q / 65536) r.2) := by
  obtain ⟨hhears, htaker, hpeer, hsession, hlock, hloading, hready, hoff, hwant, hb, hsome, hcount, hsmall, hinside⟩ := hasked
  subst hb hu
  rw [hoff] at hwant hinside
  rw [hwant] at hinside
  unfold takeFshData
  dsimp only
  rw [if_neg (by
    simp [hhears, htaker, hpeer, hsession, hlock, hloading, hready, hwant, hsome, hsmall, hcount.symm, hinside]), ← hoff]
  split
  · rfl
  · cases takePiece (.line p) ((off - payloadAt v.fsh.img) / 65536) ((off - payloadAt v.fsh.img) % 65536) (fshBody d)
      (modShake p (fun x => { x with want := off + (fshBody d).length }) v) with
    | mk r t => cases r <;> rfl

theorem takeFshData_ignored (h : hears v p 7 d = false ∨ (shake v p).taker ≠ 3 ∨ (shake v p).peer ≠ peerOf mac ip ∨
    g2 d 4 ≠ (shake v p).takerSession ∨ v.fsh.lock ≠ some (.line p) ∨ v.fsh.state ≠ 1 ∨ blockWaits v = true ∨
    g4 d 8 ≠ (shake v p).want ∨ fshBody d = [] ∨ (fshBody d).length ≠ g4 d 12 ∨ 1024 < (fshBody d).length ∨
    (shake v p).wantEnd < g4 d 8 + (fshBody d).length) : takeFshData p mac ip d v = v :=
  if_pos (by rcases h with h | h | h | h | h | h | h | h | h | h | h | h <;> simp [h])

/-! ### Refusals, ends and offers (R481, R482) -/

theorem takeFshRefuse_session (hhears : hears v p 8 d = true) (hlen : (fshBody d).length = 4)
    (hsession : (shake v p).taker ≠ 0 ∧ (shake v p).peer = peerOf mac ip ∧ g2 d 4 = (shake v p).takerSession) :
    takeFshRefuse p mac ip d v =
      (let t := modShake p (fun x => { x with taker := 0 }) v
      if v.fsh.lock = some (.line p) then endLock 3 t else t) := by
  obtain ⟨htaker, hpeer, hid⟩ := hsession
  unfold takeFshRefuse
  dsimp only
  rw [if_neg (by simp [hhears, hlen]), if_pos (by simp [htaker, hpeer, hid])]

theorem takeFshRefuse_offer (hhears : hears v p 8 d = true) (hlen : (fshBody d).length = 4)
    (hsession : ¬((shake v p).taker ≠ 0 ∧ (shake v p).peer = peerOf mac ip ∧ g2 d 4 = (shake v p).takerSession)) :
    takeFshRefuse p mac ip d v =
      if (shake v p).firstOffer = none then v
      else if g2 (fshBody d) 0 = sBUSY then
        modShake p (fun x => { x with holder := 0, notBefore := v.sys.devTime + g2 (fshBody d) 2 * 1000000000 }) v
      else forwardEnds p (g2 (fshBody d) 0) v := by
  unfold takeFshRefuse
  dsimp only
  rw [if_neg (by simp [hhears, hlen]), if_neg (by simpa [and_assoc] using hsession)]
  simp only [Option.isNone_iff_eq_none]

theorem takeFshRefuse_unheard (h : hears v p 8 d = false ∨ (fshBody d).length ≠ 4) : takeFshRefuse p mac ip d v = v :=
  if_pos (by rcases h with h | h <;> simp [h])

theorem takeFshDone_ends (hhears : hears v p 9 d = true) (hlen : (fshBody d).length = 2) (hoffer : (shake v p).firstOffer ≠ none) :
    takeFshDone p mac ip d v =
      if g2 (fshBody d) 0 = sOK then note 0x0D28 [p, sOK] (modShake p (fun k => { k with stopped := true, holder := 0 }) v)
      else note 0x0D28 [p, g2 (fshBody d) 0] (modShake p (fun x => { x with holder := 0 }) v) :=
  if_neg (by simp [hhears, hlen, hoffer])

theorem takeFshDone_ignored (h : hears v p 9 d = false ∨ (fshBody d).length ≠ 2 ∨ (shake v p).firstOffer = none) :
    takeFshDone p mac ip d v = v :=
  if_pos (by rcases h with h | h | h <;> simp [h])

theorem freshetOfferTimerFx_offers (hdevice : devicePort s = true) (hp : p ≤ 1) (hlink : (port s p).link = true)
    (hoffering : offering s = true) (hforwards : forwards s p = true) (hstopped : (shake s p).stopped = false)
    (hdelay : (shake s p).notBefore ≤ s.sys.devTime) :
    freshetOfferTimerFx p s =
      if (shake s p).firstOffer.getD s.sys.devTime + 86400000000000 ≤ s.sys.devTime then forwardEnds p sTIMEOUT s
      else sendFsh p (asciiBytes (List.replicate 10 255)) 1 0 0 0 s.fsh.img.header
        (modShake p (fun x => { x with firstOffer := some ((shake s p).firstOffer.getD s.sys.devTime) }) s) :=
  if_neg (by simp [hdevice, hp, hlink, hoffering, hforwards, hstopped, hdelay])

theorem freshetOfferTimerFx_idle (h : devicePort s = false ∨ 1 < p ∨ (port s p).link = false ∨ offering s = false ∨
    forwards s p = false ∨ (shake s p).stopped = true ∨ s.sys.devTime < (shake s p).notBefore) :
    freshetOfferTimerFx p s = s :=
  if_pos (by rcases h with h | h | h | h | h | h | h <;> simp [h])

end

/-- Settles O55: each row is a frame that the switch counts and whose sender it learns, and on the counted state the device does
what its part in the handshake asks for. -/
theorem freshetHandshakeActs : Obligations.FreshetHandshakeActs := by
  unfold Obligations.FreshetHandshakeActs
  refine ⟨?offer, ?offerIgnored, ?open_, ?openIgnored, ?challenge, ?challengeIgnored, ?auth, ?authIgnored, ?accept, ?acceptIgnored,
    ?get, ?getIgnored, ?tablePiece, ?blockPiece, ?dataIgnored, ?refuseSession, ?refuseOffer, ?refuseIgnored, ?done_, ?doneIgnored,
    ?waits, ?blocked, ?off, ?timer, ?timerIdle⟩
  case offer =>
    intro s v p mac ip d hin hv hhears hre haccepts
    exact next_settled_congr (freshetRow_acts hin hv hhears hre
      (takeFshOffer_judged (by simpa [hv] using hhears) (by simpa [hv] using haccepts)))
  case offerIgnored =>
    intro s v p mac ip d hin hv h
    exact next_settled_congr (freshetRow_ignored hin hv h (fun h => takeFshOffer_ignored (by simpa [hv] using h)))
  case open_ =>
    intro s v p mac ip d hin hv hhears hre hoffering hforwards hlen
    exact next_settled_congr (freshetRow_acts hin hv hhears hre (takeFshOpen_challenges (by simpa [hv] using hhears)
      (by simpa [hv] using hoffering) (by simpa [hv] using hforwards) hlen))
  case openIgnored =>
    intro s v p mac ip d hin hv h
    exact next_settled_congr (freshetRow_ignored hin hv h (fun h => takeFshOpen_ignored (by simpa [hv] using h)))
  case challenge =>
    intro s v p mac ip d b hin hv hhears hre htaker hpeer hb hlen
    exact next_settled_congr (freshetRow_acts hin hv hhears hre (takeFshChallenge_proves (by simpa [hv] using hhears)
      (by simpa [hv] using htaker) (by simpa [hv] using hpeer) hb hlen))
  case challengeIgnored =>
    intro s v p mac ip d hin hv h
    exact next_settled_congr (freshetRow_ignored hin hv h (fun h => takeFshChallenge_ignored (by simpa [hv] using h)))
  case auth =>
    intro s v p mac ip d hin hv hhears hre hholder htime
    exact next_settled_congr (freshetRow_acts hin hv hhears hre (takeFshAuth_checks (by simpa [hv] using hhears)
      (by simpa [hv] using hholder) (by simpa [hv] using htime)))
  case authIgnored =>
    intro s v p mac ip d hin hv h
    exact next_settled_congr (freshetRow_ignored hin hv h (fun h => takeFshAuth_ignored (by simpa [hv] using h)))
  case accept =>
    intro s v p mac ip d b hin hv hhears hre htaker hpeer hb hlen
    exact next_settled_congr (freshetRow_acts hin hv hhears hre (takeFshAccept_judged (by simpa [hv] using hhears)
      (by simpa [hv] using htaker) (by simpa [hv] using hpeer) hb hlen))
  case acceptIgnored =>
    intro s v p mac ip d hin hv h
    exact next_settled_congr (freshetRow_ignored hin hv h (fun h => takeFshAccept_ignored (by simpa [hv] using h)))
  case get =>
    intro s v p mac ip d hin hv hhears hre hholder hsession hcount hoffering
    exact next_settled_congr (freshetRow_acts hin hv hhears hre (takeFshGet_sends (by simpa [hv] using hhears)
      (by simpa [hv] using hholder) (by simpa [hv] using hsession) hcount (by simpa [hv] using hoffering)))
  case getIgnored =>
    intro s v p mac ip d hin hv h
    exact next_settled_congr (freshetRow_ignored hin hv h (fun h => takeFshGet_ignored (by simpa [hv] using h)))
  case tablePiece =>
    intro s v p mac ip d b off u hin hv hhears hre htaker hpeer hsession hlock hstate hready hoff hwant hb hsome hcount hsmall hinside
      hu htable
    have hasked : PieceAsked v p mac ip d b off := by
      constructor <;> simpa [hv]
    exact next_settled_congr (freshetRow_acts hin hv hhears hre
      ((takeFshData_asked hasked hu).trans (if_pos (by simpa [hv] using htable))))
  case blockPiece =>
    intro s v p mac ip d b off u hin hv hhears hre htaker hpeer hsession hlock hstate hready hoff hwant hb hsome hcount hsmall hinside
      hu hblock
    have hasked : PieceAsked v p mac ip d b off := by
      constructor <;> simpa [hv]
    exact next_settled_congr (freshetRow_acts hin hv hhears hre
      ((takeFshData_asked hasked hu).trans (if_neg (by simpa [hv] using hblock))))
  case dataIgnored =>
    intro s v p mac ip d hin hv h
    exact next_settled_congr (freshetRow_ignored hin hv h (fun h => takeFshData_ignored (by simpa [hv] using h)))
  case refuseSession =>
    intro s v p mac ip d hin hv hhears hre hlen hsession
    exact next_settled_congr (freshetRow_acts hin hv hhears hre
      (takeFshRefuse_session (by simpa [hv] using hhears) hlen (by simpa [hv] using hsession)))
  case refuseOffer =>
    intro s v p mac ip d hin hv hhears hre hlen hsession hoffer
    exact next_settled_congr (freshetRow_acts hin hv hhears hre
      ((takeFshRefuse_offer (by simpa [hv] using hhears) hlen (by simpa [hv] using hsession)).trans
        (if_neg (by simpa [hv] using hoffer))))
  case refuseIgnored =>
    intro s v p mac ip d hin hv h
    refine next_settled_congr (freshetRow_ignored hin hv h ?_)
    rintro (h | h | ⟨hsession, hoffer⟩)
    · exact takeFshRefuse_unheard (.inl (by simpa [hv] using h))
    · exact takeFshRefuse_unheard (.inr h)
    · by_cases hheard : hears v p 8 d = true ∧ (fshBody d).length = 4
      · obtain ⟨hhears, hlen⟩ := hheard
        exact (takeFshRefuse_offer hhears hlen (by simpa [hv] using hsession)).trans (if_pos (by simpa [hv] using hoffer))
      · exact takeFshRefuse_unheard (by simpa only [not_and_or, Bool.not_eq_true] using hheard)
  case done_ =>
    intro s v p mac ip d hin hv hhears hre hlen hoffer
    exact next_settled_congr (freshetRow_acts hin hv hhears hre
      (takeFshDone_ends (by simpa [hv] using hhears) hlen (by simpa [hv] using hoffer)))
  case doneIgnored =>
    intro s v p mac ip d hin hv h
    exact next_settled_congr (freshetRow_ignored hin hv h (fun h => takeFshDone_ignored (by simpa [hv] using h)))
  case waits =>
    intro s v p n mac ip d hin hv hdevice hre hn
    subst hv hn
    have hwaits (kind : Nat) (f : State → State) : lineRow p mac (.freshet kind p mac ip d) f s =
        buffer (waitingOf (.freshet kind p mac ip d)) (counted p mac s) := lineRow_waits hin hdevice hre
    exact ⟨next_settled_congr (hwaits 1 _), next_settled_congr (hwaits 2 _), next_settled_congr (hwaits 3 _),
      next_settled_congr (hwaits 4 _), next_settled_congr (hwaits 5 _), next_settled_congr (hwaits 6 _),
      next_settled_congr (hwaits 7 _), next_settled_congr (hwaits 8 _), next_settled_congr (hwaits 9 _)⟩
  case blocked =>
    intro s p mac ip d hon hp hblocked
    have hcounts (i : LateFrame) (f : State → State) : lineRow p mac i f s =
        modPort p (fun x => { x with rx := w32 (x.rx + 1) }) s := lineRow_blocked hon hp hblocked
    exact ⟨next_settled_congr (hcounts _ _), next_settled_congr (hcounts _ _), next_settled_congr (hcounts _ _),
      next_settled_congr (hcounts _ _), next_settled_congr (hcounts _ _), next_settled_congr (hcounts _ _),
      next_settled_congr (hcounts _ _), next_settled_congr (hcounts _ _), next_settled_congr (hcounts _ _)⟩
  case off =>
    intro s p mac ip d h
    have hidle (i : LateFrame) (f : State → State) : lineRow p mac i f s = s := lineRow_idle h
    exact ⟨next_settled_congr (hidle _ _), next_settled_congr (hidle _ _), next_settled_congr (hidle _ _),
      next_settled_congr (hidle _ _), next_settled_congr (hidle _ _), next_settled_congr (hidle _ _),
      next_settled_congr (hidle _ _), next_settled_congr (hidle _ _), next_settled_congr (hidle _ _)⟩
  case timer =>
    intro s p hdevice hp hlink hoffering hforwards hstopped hdelay
    exact next_settled_congr (freshetOfferTimerFx_offers hdevice hp hlink hoffering hforwards hstopped hdelay)
  case timerIdle =>
    intro s p h
    exact next_settled_congr (freshetOfferTimerFx_idle h)

/-! ### The commands (R474, R477–R479, R484, R487, R488, R494, R495) -/

section
variable {s : State} {o : Org} {b : List Byte}

/-- A header names its kind in its seventh byte. -/
theorem g1_take_256 (b : List Byte) : g1 (b.take 256) 6 = g1 b 6 := by
  rw [g1, g1, field, field, List.drop_take]
  cases b.drop 6 <;> rfl

/-- A verdict that leaves the state alone where it accepts. -/
def quietWhereAccepted (s : State) (j : Verdict × State) : Prop := j.1.status = sOK → j.2 = s

theorem quietWhereAccepted_ite {c : Prop} [Decidable c] {j k : Verdict × State} (hj : quietWhereAccepted s j)
    (hk : quietWhereAccepted s k) : quietWhereAccepted s (if c then j else k) := by
  split
  · exact hj
  · exact hk

/-- An offer is recorded only where it is refused (R478). -/
theorem judgeOffer_quiet (src : Source) (h : List Byte) (table : Option (List Byte)) (s : State) :
    quietWhereAccepted s (judgeOffer src h table s) := by
  unfold judgeOffer
  dsimp only
  repeat' apply quietWhereAccepted_ite
  all_goals simp [quietWhereAccepted]

theorem fshStatusH_answers (o : Org) (b : List Byte) (s : State) :
    fshStatusH o b s =
      .done sOK (p1 (modeCode s.sys.mode) ++ p1 s.fsh.state ++ p1 s.fsh.img.kind ++
        p1 ((s.fsh.source.map sourceCode).getD 0) ++ fit 3 (s.fsh.img.version.flatMap p1) ++ p1 s.fsh.recoveryCause ++
        p4 s.fsh.img.arb ++ p4 s.fsh.img.blocks ++
        p4 (if s.fsh.state = 4 ∨ s.fsh.state = 8 then s.fsh.doneBlocks.length else s.fsh.marked.length) ++
        p1 s.fsh.trialBoots ++ p1 (b01 s.fsh.grantHeld + b01 (grantOpen s) * 2) ++ zeros 2 ++ p4 s.fsh.trialLeft ++
        p4 (floorOf s 1) ++ p4 (floorOf s 2) ++ p4 (floorOf s 3) ++ p4 (floorOf s 4)) s := by
  unfold fshStatusH
  simp only [Bool.or_eq_true, decide_eq_true_eq]
  cases s.fsh.source <;> rfl

theorem fshOpenH_wrongKind (hlen : ¬(shapeOk (b.take 256) = true ∧ b.length ≠ 256 + 32 * g4 (b.take 256) 20))
    (hmode : s.sys.mode = .recovery) (hkind : 2 < g1 (b.take 256) 6) : fshOpenH o b s = .done sBADOBJ [] s :=
  (if_neg (by simp [hmode])).trans ((if_neg (by simpa using hlen)).trans (if_pos (by simp [hmode, hkind])))

theorem fshOpenH_shutOut (hmode : s.sys.mode ≠ .recovery) (hpolicy : accepts s 2 = false) :
    fshOpenH o b s = .done sAUTH [] s := if_pos (by simp [hmode, hpolicy])

section
variable (hpolicy : s.sys.mode = .recovery ∨ accepts s 2 = true)
include hpolicy

theorem fshOpenH_wrongLength (hshape : shapeOk (b.take 256) = true) (hlen : b.length ≠ 256 + 32 * g4 (b.take 256) 20) :
    fshOpenH o b s = .done sBADLEN [] s :=
  (if_neg (by rcases hpolicy with h | h <;> simp [h])).trans (if_pos (by simp [hshape, hlen]))

theorem fshOpenH_judged (hlen : ¬(shapeOk (b.take 256) = true ∧ b.length ≠ 256 + 32 * g4 (b.take 256) 20))
    (hkind : ¬(s.sys.mode = .recovery ∧ 2 < g1 (b.take 256) 6)) :
    fshOpenH o b s =
      (let h := b.take 256
      let table := b.drop 256
      let src : Source := .side o.side
      let j := judgeOffer src h (some table) s
      if j.1.status = sBUSY then .done sBUSY (p4 0 ++ p2 j.1.retry ++ zeros 2) j.2
      else if j.1.status ≠ sOK then .done j.1.status [] j.2
      else if j.1.way = 0 then .done sOK (p4 (g4 h 20) ++ p2 0 ++ zeros 2) j.2
      else if j.1.way = 1 then
        .done sOK (p4 (firstMissing j.2) ++ p2 0 ++ zeros 2) (takeLock src (imgOf h table) 1
          (onFsh (fun f => { f with img := { f.img with table := table } }) j.2))
      else .done sOK (p4 0 ++ p2 0 ++ zeros 2) (takeLock src (imgOf h table) 2 j.2)) := by
  unfold fshOpenH
  dsimp only
  rw [if_neg (by rcases hpolicy with h | h <;> simp [h]), if_neg (by simpa using hlen), if_neg (by simpa using hkind)]
  simp only [bne_iff_ne]
  split
  · rfl
  · split
    · rfl
    · next hok =>
      rw [judgeOffer_quiet _ _ _ _ (not_not.mp hok)]
      rcases (judgeOffer (.side o.side) (b.take 256) (some (b.drop 256)) s).1.way with _ | _ | way <;> rfl

end

/-- FSH_OPEN with a table of the right length, of a kind that the mode takes. -/
theorem fshOpenFx_judged {r : Req} (ha : asks 0x0D02 r s = true) (hpolicy : s.sys.mode = .recovery ∨ accepts s 2 = true)
    (hlen : ¬(shapeOk (r.payload.take 256) = true ∧ r.payload.length ≠ 256 + 32 * g4 (r.payload.take 256) 20))
    (hkind : ¬(s.sys.mode = .recovery ∧ 2 < g1 (r.payload.take 256) 6)) :
    fshOpenFx r s =
      (let h := r.payload.take 256
      let table := r.payload.drop 256
      let src : Source := .side r.side
      let j := judgeOffer src h (some table) (begun 0x0D02 r s)
      if j.1.status = sBUSY then answered 0x0D02 r sBUSY (p4 0 ++ p2 j.1.retry ++ zeros 2) j.2
      else if j.1.status ≠ sOK then answered 0x0D02 r j.1.status [] j.2
      else if j.1.way = 0 then answered 0x0D02 r sOK (p4 (g4 h 20) ++ p2 0 ++ zeros 2) j.2
      else if j.1.way = 1 then
        answered 0x0D02 r sOK (p4 (firstMissing j.2) ++ p2 0 ++ zeros 2) (takeLock src (imgOf h table) 1
          (onFsh (fun f => { f with img := { f.img with table := table } }) j.2))
      else answered 0x0D02 r sOK (p4 0 ++ p2 0 ++ zeros 2) (takeLock src (imgOf h table) 2 j.2)) := by
  refine (serve_of_asks ha).trans ?_
  rw [fshOpenH_judged (s := begun 0x0D02 r s) hpolicy hlen hkind]
  simp only [apply_ite (settleRes (reqOrg 0x0D02 r)), settleRes_done]
  rfl

/-- A piece of a block of the image that the side's session loads. -/
structure BlockInRange (s : State) (d : Side) (b : List Byte) : Prop where
  lock : s.fsh.lock = some (.side d)
  loading : s.fsh.state = 1
  block : g4 b 0 < s.fsh.img.blocks
  offset : g4 b 4 % 16 = 0
  inside : g4 b 4 + (b.drop 8).length ≤ blockLen s.fsh.img (g4 b 0)

theorem BlockInRange.begun {r : Req} (h : BlockInRange s r.side r.payload) :
    BlockInRange (begun 0x0D03 r s) (reqOrg 0x0D03 r).side r.payload :=
  ⟨h.lock, h.loading, h.block, h.offset, h.inside⟩

theorem fshBlockH_outOfRange (h : s.fsh.lock ≠ some (.side o.side) ∨ s.fsh.state ≠ 1 ∨ s.fsh.img.blocks ≤ g4 b 0 ∨
    g4 b 4 % 16 ≠ 0 ∨ blockLen s.fsh.img (g4 b 0) < g4 b 4 + (b.drop 8).length) : fshBlockH o b s = .done sBADOBJ [] s :=
  if_pos (by rcases h with h | h | h | h | h <;> simp [h, -List.length_drop])

theorem fshBlockH_inRange (hrange : BlockInRange s o.side b) :
    fshBlockH o b s =
      if blockWaits s then .done sBUSY [] s
      else if s.fsh.marked.contains (g4 b 0) then .done sOK (p4 s.fsh.marked.length ++ p1 1 ++ zeros 3) s
      else
        (let j := takePiece (.side o.side) (g4 b 0) (g4 b 4) (b.drop 8) s
        if j.1 = .partly then .done sOK (p4 s.fsh.marked.length ++ p1 0 ++ zeros 3) j.2
        else if j.1 = .bad then .done sBADOBJ [] j.2
        else if canStore (.freshetStage (g4 b 0)) j.2 = true then
          .later (stageBlock (g4 b 0) (addJob { org := o, a := g4 b 0 } j.2))
        else .done sNOENERGY [] (stageBlock (g4 b 0) j.2)) := by
  obtain ⟨hlock, hloading, hblock, hoffset, hinside⟩ := hrange
  unfold fshBlockH
  dsimp only
  rw [if_neg (by simp [hlock, hloading, hblock, hoffset, hinside, -List.length_drop])]
  cases takePiece (.side o.side) (g4 b 0) (g4 b 4) (b.drop 8) s with
  | mk r t => cases r <;> rfl

/-- FSH_BLOCK of a piece in range, of a block not yet held, while no block's store waits. -/
theorem fshBlockFx_takes {r : Req} (ha : asks 0x0D03 r s = true) (hrange : BlockInRange s r.side r.payload)
    (hwaits : blockWaits s = false) (hmarked : s.fsh.marked.contains (g4 r.payload 0) = false) :
    fshBlockFx r s =
      (let j := takePiece (.side r.side) (g4 r.payload 0) (g4 r.payload 4) (r.payload.drop 8) (begun 0x0D03 r s)
      if j.1 = .partly then answered 0x0D03 r sOK (p4 s.fsh.marked.length ++ p1 0 ++ zeros 3) j.2
      else if j.1 = .bad then answered 0x0D03 r sBADOBJ [] j.2
      else if canStore (.freshetStage (g4 r.payload 0)) j.2 = true then
        stageBlock (g4 r.payload 0) (addJob { org := reqOrg 0x0D03 r, a := g4 r.payload 0 } j.2)
      else answered 0x0D03 r sNOENERGY [] (stageBlock (g4 r.payload 0) j.2)) := by
  have hfore : (reqOrg 0x0D03 r).bg = false := show isBg 0x0D03 = false by decide
  refine (serve_of_asks ha).trans ?_
  rw [fshBlockH_inRange (o := reqOrg 0x0D03 r) (s := begun 0x0D03 r s) hrange.begun,
    if_neg (ne_true_of_eq_false (show blockWaits (begun 0x0D03 r s) = false from hwaits)),
    begun_fsh, if_neg (ne_true_of_eq_false hmarked)]
  simp only [apply_ite (settleRes (reqOrg 0x0D03 r)), settleRes_done, settleRes_later _ _ hfore]
  rfl

theorem fshGrantH_grants (hkinds : g1 b 0 ≤ 15) (hzero : zeroAt b 1 7 = true) :
    fshGrantH o b s = .done sOK [] (onFsh (fun f =>
      { f with grantHeld := true, grantUsed := false, grantKinds := g1 b 0, notBefore := i8 b 8, notAfter := i8 b 16 }) s) :=
  if_neg (by simp [hkinds, hzero])

theorem fshGrantH_badObject (h : 15 < g1 b 0 ∨ zeroAt b 1 7 = false) : fshGrantH o b s = .done sBADOBJ [] s :=
  if_pos (by rcases h with h | h <;> simp [h])

theorem fshConfirmH_noTrial (hstate : s.fsh.state ≠ 5) : fshConfirmH o b s = .done sWRONGMODE [] s :=
  if_pos (by simp [hstate])

section
variable (hstate : s.fsh.state = 5)
include hstate

theorem fshConfirmH_otherImage (h : zeroAt b 1 3 = false ∨ g1 b 0 ≠ s.fsh.img.kind ∨ g4 b 4 ≠ s.fsh.img.arb) :
    fshConfirmH o b s = .done sBADOBJ [] s :=
  (if_neg (by simp [hstate])).trans (if_pos (by rcases h with h | h | h <;> simp [h]))

theorem fshConfirmH_ofTrial (hzero : zeroAt b 1 3 = true) (hkind : g1 b 0 = s.fsh.img.kind) (harb : g4 b 4 = s.fsh.img.arb) :
    fshConfirmH o b s =
      if canStore (.floor (g1 b 0) (g4 b 4) (some o)) s then
        .later (requestStore (.floor (g1 b 0) (g4 b 4) (some o))
          (addJob { org := o } (cancelStore (.floor (g1 b 0) (g4 b 4) none) s)))
      else
        .done sNOENERGY [] (if storing (.floor (g1 b 0) (g4 b 4) none) s then s
          else requestStore (.floor (g1 b 0) (g4 b 4) none) s) :=
  (if_neg (by simp [hstate])).trans (if_neg (by simp [hzero, hkind, harb]))

end

theorem fshDiscardH_activating (h : s.fsh.state = 4 ∨ s.fsh.state = 5 ∨ s.fsh.state = 8) :
    fshDiscardH o b s = .done sWRONGMODE [] s := if_pos (by rcases h with h | h | h <;> simp [h])

section
variable (h4 : s.fsh.state ≠ 4) (h5 : s.fsh.state ≠ 5) (h8 : s.fsh.state ≠ 8)
include h4 h5 h8

theorem fshDiscardH_otherLock (hlocked : s.fsh.lock ≠ none) (hlock : s.fsh.lock ≠ some (.side o.side)) :
    fshDiscardH o b s = .done sBADOBJ [] s := by
  have hsome : s.fsh.lock.isSome = true := Option.isSome_iff_ne_none.mpr hlocked
  exact (if_neg (by simp [h4, h5, h8])).trans (if_pos (by simp [hsome, hlock]))

theorem fshDiscardH_empties (hlock : s.fsh.lock = none ∨ s.fsh.lock = some (.side o.side)) :
    fshDiscardH o b s = .done sOK [] (emptySlot (endLock 3 s)) :=
  (if_neg (by simp [h4, h5, h8])).trans (if_neg (by rcases hlock with h | h <;> simp [h]))

end

theorem fshRestoreH_restores (h : s.fsh.backed ≠ []) :
    fshRestoreH o b s =
      .done sOK [] (askBlock (onFsh (fun f => { f with state := 8, journal := 8, doneBlocks := [] }) s)) :=
  if_neg (by simp [h])

theorem fshRestoreH_noBackup (h : s.fsh.backed = []) : fshRestoreH o b s = .done sWRONGMODE [] s := if_pos (by simp [h])

end

/-- Settles O57: taking up a command changes sluices only, so each condition is read off the state before it. -/
theorem freshetCommandsAct : Obligations.FreshetCommandsAct := by
  unfold Obligations.FreshetCommandsAct
  refine ⟨?status, ?openShutOut, ?openLength, ?openKind, ?open_, ?blockRange, ?blockBusy, ?blockHeld, ?block, ?grant, ?grantBad,
    ?confirm, ?confirmNoEnergy, ?confirmNoTrial, ?confirmOther, ?discard, ?discardActivating, ?discardLocked, ?restore,
    ?restoreNone⟩
  case status =>
    intro s r f ha hf
    subst hf
    exact next_settled_congr (serve_of_done ha (fshStatusH_answers _ _ _))
  case openShutOut =>
    intro s r ha hmode hpolicy
    exact next_settled_congr (serve_of_done ha (fshOpenH_shutOut hmode hpolicy))
  case openLength =>
    intro s r ha hpolicy hshape hlen
    exact next_settled_congr (serve_of_done ha (fshOpenH_wrongLength hpolicy hshape hlen))
  case openKind =>
    intro s r ha hmode hlen hkind
    exact next_settled_congr (serve_of_done ha (fshOpenH_wrongKind hlen hmode (by rwa [g1_take_256])))
  case open_ =>
    intro s r ha hpolicy hlen hkind
    exact next_settled_congr (fshOpenFx_judged ha hpolicy hlen hkind)
  case blockRange =>
    intro s r ha h
    exact next_settled_congr (serve_of_done ha (fshBlockH_outOfRange h))
  case blockBusy =>
    intro s r ha hlock hstate hblock hoffset hinside hwaits
    have hrange : BlockInRange s r.side r.payload := ⟨hlock, hstate, hblock, hoffset, hinside⟩
    exact next_settled_congr (serve_of_done ha ((fshBlockH_inRange hrange.begun).trans (if_pos hwaits)))
  case blockHeld =>
    intro s r ha hlock hstate hblock hoffset hinside hwaits hmarked
    have hrange : BlockInRange s r.side r.payload := ⟨hlock, hstate, hblock, hoffset, hinside⟩
    exact next_settled_congr (serve_of_done ha ((fshBlockH_inRange hrange.begun).trans
      ((if_neg (ne_true_of_eq_false hwaits)).trans (if_pos hmarked))))
  case block =>
    intro s r ha hlock hstate hblock hoffset hinside hwaits hmarked
    exact next_settled_congr (fshBlockFx_takes ha ⟨hlock, hstate, hblock, hoffset, hinside⟩ hwaits hmarked)
  case grant =>
    intro s r ha hkinds hzero
    exact next_settled_congr (serve_of_done ha (fshGrantH_grants hkinds hzero))
  case grantBad =>
    intro s r ha h
    exact next_settled_congr (serve_of_done ha (fshGrantH_badObject h))
  case confirm =>
    intro s r o ha ho hstate hzero hkind harb hstore
    subst ho
    exact next_settled_congr (serve_of_later ha (by decide)
      ((fshConfirmH_ofTrial (s := begun 0x0D05 r s) hstate hzero hkind harb).trans (if_pos hstore)))
  case confirmNoEnergy =>
    intro s r o ha ho hstate hzero hkind harb hstore
    subst ho
    exact next_settled_congr (serve_of_done ha ((fshConfirmH_ofTrial (s := begun 0x0D05 r s) hstate hzero hkind harb).trans
      (if_neg (ne_true_of_eq_false hstore))))
  case confirmNoTrial =>
    intro s r ha hstate
    exact next_settled_congr (serve_of_done ha (fshConfirmH_noTrial hstate))
  case confirmOther =>
    intro s r ha hstate h
    exact next_settled_congr (serve_of_done ha (fshConfirmH_otherImage hstate h))
  case discard =>
    intro s r ha h4 h5 h8 hlock
    exact next_settled_congr (serve_of_done ha (fshDiscardH_empties h4 h5 h8 hlock))
  case discardActivating =>
    intro s r ha h
    exact next_settled_congr (serve_of_done ha (fshDiscardH_activating h))
  case discardLocked =>
    intro s r ha h4 h5 h8 hlocked hlock
    exact next_settled_congr (serve_of_done ha (fshDiscardH_otherLock h4 h5 h8 hlocked hlock))
  case restore =>
    intro s r ha h
    exact next_settled_congr (serve_of_done ha (fshRestoreH_restores h))
  case restoreNone =>
    intro s r ha h
    exact next_settled_congr (serve_of_done ha (fshRestoreH_noBackup h))

end Sys2Proof.Machine

/-! The statement of spec/15_ream.md fails on REAM_READ_BULK with NOTIFY, as that of spec/04_felt_time.md on WHEEL_WAIT does: it is
refuted by a concrete state. -/

namespace Sys2Proof.Machine

/-! ### PENDING of a REAM_READ_BULK with NOTIFY (spec/15_ream.md R515; spec/02_sluices.md R65, R81) -/

/-- REAM_READ_BULK of one record on S1 that asks for NOTIFY with its answer. -/
def notifiedBulk : Req := { side := .spi, sluice := 1, tag := 0, flags := 4, payload := zeros 4 ++ [1, 0] ++ zeros 6 }

theorem asks_notifiedBulk : asks 0x0E03 notifiedBulk waitPossible = true := by decide +kernel

/-- PENDING is not the answer that NOTIFY is for. -/
theorem notify_reamReadBulk_pending :
    (tget (settled waitPossible (reamReadBulkFx notifiedBulk waitPossible)).mail.sluices 1).notify = false := by decide +kernel

/-- Refutes O58 by its clause on a REAM_READ_BULK in range, which places PENDING as if it were the final answer: with NOTIFY in the
request, the interrupt would be asserted with PENDING, and the model leaves it for the completion notice. -/
theorem not_reamActs : ¬ Obligations.ReamActs := by
  unfold Obligations.ReamActs
  rintro ⟨-, -, -, -, -, -, -, -, -, -, -, hbulk, -⟩
  have hsame := Host.Outcome.next.inj (hbulk waitPossible notifiedBulk asks_notifiedBulk (by decide) (by decide) (by decide))
  have hnotify := notify_reamReadBulk_pending.symm.trans (congrArg (fun t => (tget t.mail.sluices 1).notify) hsame)
  exact absurd hnotify (by decide +kernel)

end Sys2Proof.Machine

/-! Proofs of the statements of spec/16_fault_absorption.md: lockstep and re-execution, cells and memories, counters and ageing. -/

namespace Sys2Proof.Machine

/-! ### Lockstep (spec/16_fault_absorption.md R521–R524) -/

section
variable {s : State}

theorem checkpointFx_copies (hready : s.sys.ready = true) (hre : s.absorb.reexecuting = false) :
    checkpointFx s = { s with absorb := { s.absorb with checkA := s.sys.devTime, checkB := s.sys.devTime } } :=
  if_pos (by simp only [hready, hre]; rfl)

theorem checkpointFx_idle (h : s.sys.ready = false ∨ s.absorb.reexecuting = true) : checkpointFx s = s :=
  if_neg (by rcases h with h | h <;> simp [h])

/-- Mismatches dated now are recent, as those of the last 10 s still are. -/
theorem length_recentMismatches {t : State} (n : Nat) (hnow : t.sys.devTime = s.sys.devTime)
    (ht : t.absorb.mismatchTimes = List.replicate n s.sys.devTime ++ recentMismatches s) :
    (recentMismatches t).length = (recentMismatches s).length + n := by
  simp only [recentMismatches] at ht ⊢
  simp [hnow, ht, List.filter_filter, Nat.add_comm]

/-- A mismatch outside re-execution is dated and counted, the output latch engages, and re-execution begins (R522, R523). -/
def mismatched (s : State) : State :=
  setCause 5 true { s with absorb := { s.absorb with
    mismatchTimes := s.sys.devTime :: recentMismatches s, mismatches := w32 (s.absorb.mismatches + 1),
    mismatchDays := dayOf s.sys.calTime :: s.absorb.mismatchDays, latch := true, latchSince := s.sys.devTime,
    latchExpired := false, reexecuting := true } }

/-- A mismatch is dated, with those of the last 10 s (R524). -/
def dated (s : State) : State := onAbsorb (fun a => { a with mismatchTimes := s.sys.devTime :: recentMismatches s }) s

/-- A further one at the same time. -/
def datedAgain (s : State) : State := onAbsorb (fun a => { a with mismatchTimes := s.sys.devTime :: a.mismatchTimes }) s

/-- A divergence is counted and recorded with its place in the journal and the recent mismatches (R523). -/
def diverged (place count : Nat) (s : State) : State :=
  note 0x0F51 [place, count] (onAbsorb (fun a => { a with divergences := w32 (a.divergences + 1) }) s)

theorem recentMismatches_diverged (place count : Nat) : recentMismatches (diverged place count s) = recentMismatches s := by
  rw [diverged, note_touches]
  rfl

theorem lockstepMismatch_idle (h : s.sys.ready = false ∨ s.absorb.core ≠ 0 ∨ s.absorb.dead = true) (p : Option Nat) (c0 c1 : Bool) :
    lockstepMismatch p c0 c1 s = s :=
  if_pos (by rcases h with h | h | h <;> simp [h])

section
variable (hready : s.sys.ready = true) (hcore : s.absorb.core = 0) (hdead : s.absorb.dead = false)
include hready hcore hdead

theorem lockstepServes : ¬ (!s.sys.ready || s.absorb.core != 0 || s.absorb.dead) = true := by
  simp [hready, hcore, hdead]

/-- In last gasp only the latch engages (R541). -/
theorem lockstepMismatch_gasp (hgasp : s.power.lastGasp = true) (p : Option Nat) (c0 c1 : Bool) :
    lockstepMismatch p c0 c1 s = { s with absorb := { s.absorb with latch := true } } := by
  rw [lockstepMismatch, if_neg (lockstepServes hready hcore hdead), if_pos hgasp]
  rfl

variable (hgasp : s.power.lastGasp = false)
include hgasp

/-- The third mismatch of the last 10 s is the self-test's (R524). -/
theorem lockstepMismatch_first (hre : s.absorb.reexecuting = false) (c0 c1 : Bool) :
    lockstepMismatch none c0 c1 s =
      if 2 ≤ (recentMismatches s).length then selfTest c0 c1 (mismatched s) else mismatched s := by
  have hcount : (recentMismatches (mismatched s)).length = (recentMismatches s).length + 1 :=
    length_recentMismatches (s := s) 1 rfl rfl
  have hthird : 3 ≤ (recentMismatches (mismatched s)).length ↔ 2 ≤ (recentMismatches s).length := by omega
  rw [lockstepMismatch, if_neg (lockstepServes hready hcore hdead), if_neg (by simp [hgasp])]
  simp only [hre, Bool.false_eq_true, if_false]
  exact if_congr hthird rfl rfl

/-- A divergence told with its mismatch is a further mismatch. -/
theorem lockstepMismatch_diverging (hre : s.absorb.reexecuting = false) (place : Nat) (c0 c1 : Bool) :
    lockstepMismatch (some place) c0 c1 s =
      let u := diverged place ((recentMismatches s).length + 2) (datedAgain (mismatched s))
      if 1 ≤ (recentMismatches s).length then selfTest c0 c1 u else u := by
  have hcount : (recentMismatches (datedAgain (mismatched s))).length = (recentMismatches s).length + 2 :=
    length_recentMismatches (s := s) 2 rfl rfl
  have hthird : 3 ≤ (recentMismatches (diverged place (recentMismatches (datedAgain (mismatched s))).length
      (datedAgain (mismatched s)))).length ↔ 1 ≤ (recentMismatches s).length := by
    rw [recentMismatches_diverged]
    omega
  rw [← hcount, lockstepMismatch, if_neg (lockstepServes hready hcore hdead), if_neg (by simp [hgasp])]
  simp only [hre, Bool.false_eq_true, if_false]
  exact if_congr hthird rfl rfl

/-- A mismatch during re-execution is a divergence. -/
theorem lockstepMismatch_again (hre : s.absorb.reexecuting = true) (p : Option Nat) (c0 c1 : Bool) :
    lockstepMismatch p c0 c1 s =
      let u := diverged (p.getD 0) ((recentMismatches s).length + 1) (dated s)
      if 2 ≤ (recentMismatches s).length then selfTest c0 c1 u else u := by
  have hcount : (recentMismatches (dated s)).length = (recentMismatches s).length + 1 :=
    length_recentMismatches (s := s) 1 rfl rfl
  have hthird : 3 ≤ (recentMismatches (diverged (p.getD 0) (recentMismatches (dated s)).length (dated s))).length ↔
      2 ≤ (recentMismatches s).length := by
    rw [recentMismatches_diverged]
    omega
  rw [← hcount, lockstepMismatch, if_neg (lockstepServes hready hcore hdead), if_neg (by simp [hgasp])]
  simp only [hre, if_true]
  exact if_congr hthird rfl rfl
end

theorem selfTest_oneCore {c0 c1 : Bool} (h : c0 = true ∨ c1 = true) :
    selfTest c0 c1 s = judgeAge 6 1000000 (note 0x0F52 [if c0 then 0 else 1, b01 (!c0) + b01 (!c1) * 2]
      { s with absorb := { s.absorb with core := if c0 then 1 else 2 } }) := by
  cases c0 with
  | true => cases c1 <;> rfl
  | false =>
    obtain rfl : c1 = true := h.resolve_left Bool.false_ne_true
    rfl

end

/-- Settles O29: what serves, the re-execution that is under way and the recent mismatches decide. -/
theorem lockstepIsAbsorbed : Obligations.LockstepIsAbsorbed := by
  unfold Obligations.LockstepIsAbsorbed
  refine ⟨?copies, ?noCopy, ?first, ?third, ?diverging, ?again, ?idle, ?gasp, ?oneCore, fun s => rfl⟩
  case copies => exact fun s hready hre => next_settled_congr (checkpointFx_copies hready hre)
  case noCopy => exact fun s h => next_settled_congr (checkpointFx_idle h)
  case first =>
    intro s c0 c1 hready hcore hdead hgasp hre hfew
    exact next_settled_congr ((lockstepMismatch_first hready hcore hdead hgasp hre c0 c1).trans (if_neg (Nat.not_le.mpr hfew)))
  case third =>
    intro s c0 c1 hready hcore hdead hgasp hre hthird
    exact next_settled_congr ((lockstepMismatch_first hready hcore hdead hgasp hre c0 c1).trans (if_pos hthird))
  case diverging =>
    intro s place c0 c1 hready hcore hdead hgasp hre
    exact next_settled_congr (lockstepMismatch_diverging hready hcore hdead hgasp hre place c0 c1)
  case again =>
    intro s p c0 c1 hready hcore hdead hgasp hre
    exact next_settled_congr (lockstepMismatch_again hready hcore hdead hgasp hre p c0 c1)
  case idle => exact fun s p c0 c1 h => next_settled_congr (lockstepMismatch_idle h p c0 c1)
  case gasp =>
    intro s p c0 c1 hready hcore hdead hgasp
    exact next_settled_congr (lockstepMismatch_gasp hready hcore hdead hgasp p c0 c1)
  case oneCore => exact fun s c0 c1 h => selfTest_oneCore h

/-! ### The ends of re-execution and of the latch (spec/16_fault_absorption.md R522, R525, R541; spec/01_one_view.md R40) -/

section
variable {s : State}

theorem reexecutionCompleteFx_ends (hre : s.absorb.reexecuting = true) (hdead : s.absorb.dead = false)
    (hgasp : s.power.lastGasp = false) (n : Nat) : reexecutionCompleteFx n s = hearAll (reexecutionEnds n s) :=
  if_neg (by simp [hre, hdead, hgasp])

theorem reexecutionCompleteFx_idle (h : s.absorb.reexecuting = false ∨ s.absorb.dead = true ∨ s.power.lastGasp = true)
    (n : Nat) : reexecutionCompleteFx n s = s :=
  if_pos (by rcases h with h | h | h <;> simp [h])

theorem latchExpiredFx_expires (hlatch : s.absorb.latch = true) (hnew : s.absorb.latchExpired = false)
    (hgasp : s.power.lastGasp = false) (hlong : 9500000 ≤ s.sys.devTime - s.absorb.latchSince) :
    latchExpiredFx s =
      holdEffects (noteFault 0x0F54 [(s.sys.devTime - s.absorb.latchSince) / 1000]
        { s with absorb := { s.absorb with latchExpired := true, latchExpiries := w32 (s.absorb.latchExpiries + 1) } }) := by
  have hcast : ((s.sys.devTime - s.absorb.latchSince : Nat) : Int) = s.sys.devTime - s.absorb.latchSince :=
    Nat.cast_sub (by omega)
  unfold latchExpiredFx
  rw [if_neg (by simp [hlatch, hnew, hgasp, hlong]), hcast]
  rfl

theorem latchExpiredFx_idle (h : s.absorb.latch = false ∨ s.absorb.latchExpired = true ∨ s.power.lastGasp = true ∨
    s.sys.devTime - s.absorb.latchSince < 9500000) : latchExpiredFx s = s :=
  if_pos (by rcases h with h | h | h | h <;> simp [h])

end

/-- Settles O30: each event acts while what it ends stands. -/
theorem reexecutionAndLatchEnd : Obligations.ReexecutionAndLatchEnd := by
  unfold Obligations.ReexecutionAndLatchEnd
  refine ⟨?ends, ?noEnd, ?expires, ?held⟩
  case ends => exact fun s n hre hdead hgasp => next_settled_congr (reexecutionCompleteFx_ends hre hdead hgasp n)
  case noEnd => exact fun s n h => next_settled_congr (reexecutionCompleteFx_idle h n)
  case expires => exact fun s hlatch hnew hgasp hlong => next_settled_congr (latchExpiredFx_expires hlatch hnew hgasp hlong)
  case held => exact fun s h => next_settled_congr (latchExpiredFx_idle h)

/-! ### Cells and their spares (spec/16_fault_absorption.md R527, R528; spec/05_weir.md R207) -/

section
variable {s : State} {bank : Nat}

/-- A cell has failed a check, and the cell map waits for its store. -/
def cellGone (bank cell : Nat) (s : State) : State :=
  mapStore (onAbsorb (fun a => { a with cellFailed := (bank, cell) :: a.cellFailed }) s)

theorem cellFails_idle {cell : Nat} (h : 3 < bank ∨ 8 < cell ∨ cellDead s bank cell = true) (check : Nat) :
    cellFails bank cell check s = s :=
  if_pos (by rcases h with h | h | h <;> simp [h])

section
variable (hbank : bank ≤ 3)
include hbank

theorem cell_present {cell : Nat} (hcell : cell ≤ 8) (hworks : cellDead s bank cell = false) :
    ¬ (decide (bank > 3) || decide (cell > 8) || cellDead s bank cell) = true := by
  simp [hbank, hcell, hworks]

/-- The idle spare takes a failed cell's place. -/
theorem cellFails_substituted {cell : Nat} (hcell : cell < 8) (hworks : cellDead s bank cell = false)
    (hidle : tfind s.absorb.spareServes bank = none) (halive : spareAlive s bank = true) (check : Nat) :
    cellFails bank cell check s =
      note 0x0F60 [(cellTerm bank cell).1, (cellTerm bank cell).2, check]
        (substitute (cellTerm bank cell).1 (cellTerm bank cell).2
          (onAbsorb (fun a => { a with spareServes := tset a.spareServes bank cell, substitutions := w32 (a.substitutions + 1) })
            (cellGone bank cell s))) := by
  have hspare : ((tfind s.absorb.spareServes bank).isNone && spareAlive s bank) = true := by rw [hidle, halive]; rfl
  simp only [cellFails, if_neg (cell_present hbank hcell.le hworks), if_neg hcell.ne, if_pos hspare]
  rfl

/-- Without an idle spare a failed cell leaves its terminal without one. -/
theorem cellFails_unserved {cell : Nat} (hcell : cell < 8) (hworks : cellDead s bank cell = false)
    (h : tfind s.absorb.spareServes bank ≠ none ∨ spareAlive s bank = false) (check : Nat) :
    cellFails bank cell check s =
      noteFault 0x0F61 [(cellTerm bank cell).1, (cellTerm bank cell).2, check] (cellGone bank cell s) := by
  have hspare : ¬ ((tfind s.absorb.spareServes bank).isNone && spareAlive s bank) = true := by
    rcases h with h | h <;> simp [h]
  simp only [cellFails, if_neg (cell_present hbank hcell.le hworks), if_neg hcell.ne, if_neg hspare]
  rfl

theorem cellFails_idleSpare (hworks : cellDead s bank 8 = false) (hidle : tfind s.absorb.spareServes bank = none) (check : Nat) :
    cellFails bank 8 check s = note 0x0F62 [bank, check] (cellGone bank 8 s) := by
  simp only [cellFails, if_neg (cell_present hbank le_rfl hworks), if_true, hidle]
  rfl

theorem cellFails_servingSpare {c : Nat} (hworks : cellDead s bank 8 = false) (hserves : tfind s.absorb.spareServes bank = some c)
    (check : Nat) :
    cellFails bank 8 check s =
      noteFault 0x0F61 [(cellTerm bank c).1, (cellTerm bank c).2, check] (cellGone bank 8 s) := by
  simp only [cellFails, if_neg (cell_present hbank le_rfl hworks), if_true, hserves]
  rfl

/-- Where the spare is idle the shadow check moves to the next primary, and fails what differs and is bad. -/
theorem shadowCheckFx_checks (hready : spareReady s bank = true) (differ pb sb : Bool) :
    shadowCheckFx bank differ pb sb s =
      let c := (tfind s.absorb.shadowNext bank).getD 0
      let u := { s with absorb := { s.absorb with shadowNext := tset s.absorb.shadowNext bank ((c + 1) % 8) } }
      if differ = true then
        let t := if sb then cellFails bank 8 4 u else u
        if pb then cellFails bank c 4 t else t
      else u := by
  have hchecks : ¬ (decide (bank > 3) || !spareReady s bank) = true := by simp [hbank, hready]
  rw [shadowCheckFx, if_neg hchecks]
  cases differ <;> rfl

end

theorem shadowCheckFx_idle (h : 3 < bank ∨ spareReady s bank = false) (differ pb sb : Bool) :
    shadowCheckFx bank differ pb sb s = s :=
  if_pos (by rcases h with h | h <;> simp [h])

end

/-! ### Memories (spec/16_fault_absorption.md R529, R531) -/

/-- An error that nothing corrected acts by its memory. -/
def uncorrectedError (mem addr : Nat) (both : Bool) (s : State) : State :=
  match mem with
  | 0 => dramError 0 addr (if both then unabsorbed 0 addr s else absorbed 0 addr 1 s)
  | 1 => dramError 1 addr (unabsorbed 1 addr { s with sys := { s.sys with busError := true, appData := [] } })
  | 2 => lockstepMismatch none true true s
  | 3 => sluiceError addr s
  | 4 => restartFor 0x11 4 (unabsorbed 4 addr (onAbsorb
      (fun a => { a with norRefresh := a.norRefresh.filter (· != addr / 262144) ++ [addr / 262144] }) s))
  | 5 => mramError addr both s
  | 6 => nandError addr s
  | _ => ringError addr s

section
variable {s : State}

theorem memoryScrubFx_elsewhere {mem : Nat} (hpages : ¬ mem ≤ 1) (hnor : mem ≠ 4) (fixes : List (Nat × Nat)) :
    memoryScrubFx mem fixes s = fixes.foldl (fun t e => scrubbed mem e.1 e.2 s.absorb.pageScrubs t) s := by
  simp only [memoryScrubFx, if_neg hpages, if_neg hnor]
  rfl

theorem memoryScrubFx_pages {mem : Nat} (hpages : mem ≤ 1) (fixes : List (Nat × Nat)) :
    memoryScrubFx mem fixes s =
      fixes.foldl (fun t e => scrubbed mem e.1 e.2 s.absorb.pageScrubs t)
        { s with absorb := { s.absorb with pageScrubs := s.absorb.pageScrubs.filter (fun e => e.1 / 16777216 != mem) } } := by
  have hnor : mem ≠ 4 := by omega
  simp only [memoryScrubFx, if_pos hpages, if_neg hnor]
  rfl

section
variable (hready : s.sys.ready = true)
include hready

theorem eccErrorFx_corrected (mem addr : Nat) (both : Bool) :
    eccErrorFx mem addr true both s = note 0x0F70 [mem, if mem ≤ 1 then addr / 4096 else addr, 1] (countFix mem 1 s) := by
  simp [eccErrorFx, hready]

theorem eccErrorFx_uncorrected (mem addr : Nat) (both : Bool) :
    eccErrorFx mem addr false both s = uncorrectedError mem addr both s := by
  unfold eccErrorFx uncorrectedError
  rw [if_neg (by simp [hready]), if_neg Bool.false_ne_true]
  rfl

end

theorem eccErrorFx_idle (hready : s.sys.ready = false) (mem addr : Nat) (fixed both : Bool) :
    eccErrorFx mem addr fixed both s = s :=
  if_pos (by simp [hready])

/-- The system area of the MRAM, above the ring and the two slots, is kept twice (R25, R529). -/
theorem mramError_otherCopy {addr : Nat} (h : 8388608 + 524288 ≤ addr) : mramError addr false s = absorbed 5 addr 1 s := by
  rw [mramError, if_neg (by omega), if_neg (by omega), if_neg (by omega)]
  rfl

theorem parallelShareLowFx_low {station chan share : Nat} (hon : outOn s station = true) (hgroup : 1 < (stnTerms s station).length)
    (hmember : (stnTerms s station).contains chan = true) (hlow : share < 50) :
    parallelShareLowFx station chan share s = note 0x0F68 [station, chan, share] s :=
  if_pos (by simp only [hon, hgroup, hmember, hlow]; rfl)

theorem parallelShareLowFx_idle {station chan share : Nat} (h : outOn s station = false ∨ (stnTerms s station).length ≤ 1 ∨
    (stnTerms s station).contains chan = false ∨ 50 ≤ share) : parallelShareLowFx station chan share s = s := by
  refine if_neg fun hlow => ?_
  simp only [Bool.and_eq_true, decide_eq_true_eq] at hlow
  obtain ⟨⟨⟨hon, hgroup⟩, hmember⟩, hshare⟩ := hlow
  rcases h with h | h | h | h
  · exact Bool.false_ne_true (h.symm.trans hon)
  · exact Nat.not_lt.mpr h hgroup
  · exact Bool.false_ne_true (h.symm.trans hmember)
  · exact Nat.not_lt.mpr h hshare

end

/-- Settles O31: the cell and its bank's spare, or the memory, decide. The numbers of the memories are notes/assumptions/25.md, the
layout of the MRAM notes/assumptions/48.md. -/
theorem cellsAndMemoriesAreAbsorbed : Obligations.CellsAndMemoriesAreAbsorbed := by
  unfold Obligations.CellsAndMemoriesAreAbsorbed
  refine ⟨?substituted, ?unserved, ?idleSpare, ?servingSpare, ?noCell, ?shadowDiffers, ?noShadow, ?shadowAgrees, ?scrubOne,
    ?scrubElsewhere, ?scrubNor, ?scrubPages, ?correctedMram, ?corrected, ?uncorrected, ?uncorrectedNor, ?eccIdle, ?otherCopy, ?shareLow,
    ?shareIdle⟩
  case substituted =>
    intro s bank cell check hbank hcell hworks hidle _ halive
    exact next_settled_congr (cellFails_substituted hbank hcell hworks hidle halive check)
  case unserved =>
    exact fun s bank cell check hbank hcell hworks h => next_settled_congr (cellFails_unserved hbank hcell hworks h check)
  case idleSpare =>
    exact fun s bank check hbank hworks hidle => next_settled_congr (cellFails_idleSpare hbank hworks hidle check)
  case servingSpare =>
    exact fun s bank check c hbank hworks hserves => next_settled_congr (cellFails_servingSpare hbank hworks hserves check)
  case noCell => exact fun s bank cell check h => next_settled_congr (cellFails_idle h check)
  case shadowDiffers =>
    rintro s bank pb sb _ hbank hready rfl
    refine next_settled_congr ((shadowCheckFx_checks hbank hready true pb sb).trans ?_)
    cases pb <;> rfl
  case noShadow => exact fun s bank differ pb sb h => next_settled_congr (shadowCheckFx_idle h differ pb sb)
  case shadowAgrees =>
    exact fun s bank hbank hready => next_settled_congr (shadowCheckFx_checks hbank hready false false false)
  case scrubOne => exact fun s addr => next_settled_congr (memoryScrubFx_elsewhere (by decide) (by decide) [(addr, 2)])
  case scrubElsewhere =>
    exact fun s mem fixes h => next_settled_congr (memoryScrubFx_elsewhere (by omega) (by omega) fixes)
  case scrubNor => exact fun s fixes => rfl
  case scrubPages => exact fun s mem fixes hpages => next_settled_congr (memoryScrubFx_pages hpages fixes)
  case correctedMram => exact fun s addr both hready => next_settled_congr (eccErrorFx_corrected hready 5 addr both)
  case corrected => exact fun s mem addr both hready _ => next_settled_congr (eccErrorFx_corrected hready mem addr both)
  case uncorrected =>
    intro s addr both hready
    have hmem (mem : Nat) := next_settled_congr (s := s) (eccErrorFx_uncorrected hready mem addr both)
    exact ⟨hmem 0, hmem 1, hmem 2, hmem 3, hmem 5, hmem 6, hmem 7⟩
  case uncorrectedNor => exact fun s addr both hready => next_settled_congr (eccErrorFx_uncorrected hready 4 addr both)
  case eccIdle => exact fun s mem addr fixed both hready => next_settled_congr (eccErrorFx_idle hready mem addr fixed both)
  case otherCopy =>
    intro s addr hready hsystem
    exact next_settled_congr ((eccErrorFx_uncorrected hready 5 addr false).trans (mramError_otherCopy hsystem))
  case shareLow =>
    exact fun s station chan share hon hgroup hmember hlow => next_settled_congr (parallelShareLowFx_low hon hgroup hmember hlow)
  case shareIdle => exact fun s station chan share h => next_settled_congr (parallelShareLowFx_idle h)

/-! ### Counters and ageing (spec/16_fault_absorption.md R532–R539) -/

section
variable {o : Org} {b : List Byte} {s : State}

theorem ageReadH_reads (hindex : g1 b 0 ≤ 54) (hzero : zeroAt b 1 3 = true) :
    ageReadH o b s =
      .done sOK
        (p1 (g1 b 0) ++
          p1 (b01 (isStep (g1 b 0)) + b01 (age s (g1 b 0)).rebased * 2 + b01 ((age s (g1 b 0)).days < 90) * 4 +
            b01 (1000000 ≤ (age s (g1 b 0)).w) * 8) ++
          p2 (age s (g1 b 0)).samples.length ++ p4 (uField 4 (age s (g1 b 0)).w) ++ q4 (age s (g1 b 0)).slope ++
          p2 (age s (g1 b 0)).days ++ p2 (age s (g1 b 0)).daysLo ++ p2 (age s (g1 b 0)).daysHi ++ zeros 2 ++
          q8 (age s (g1 b 0)).lastSample ++ zeros 4) s :=
  if_neg (by simp [hindex, hzero])

theorem ageReadH_badField (h : 54 < g1 b 0 ∨ zeroAt b 1 3 = false) : ageReadH o b s = .done sBADOBJ [] s :=
  if_pos (by rcases h with h | h <;> simp [h])

section
variable (hindex : g1 b 0 ≤ 1 ∨ (10 ≤ g1 b 0 ∧ g1 b 0 ≤ 21)) (hzero : zeroAt b 1 3 = true)
include hindex hzero

theorem rebased_inRange : ¬ (!(decide (g1 b 0 ≤ 1) || (decide (10 ≤ g1 b 0) && decide (g1 b 0 ≤ 21))) || !zeroAt b 1 3) = true := by
  rcases hindex with h | ⟨hlo, hhi⟩
  · simp [h, hzero]
  · simp [hlo, hhi, hzero]

theorem ageRebaseH_stores (hstore : canStore (.ageRebase o (g1 b 0)) s = true) :
    ageRebaseH o b s = .later (requestStore (.ageRebase o (g1 b 0)) (addJob { org := o, a := g1 b 0 } s)) := by
  rw [ageRebaseH, if_neg (rebased_inRange hindex hzero), if_pos hstore]

theorem ageRebaseH_noEnergy (hstore : canStore (.ageRebase o (g1 b 0)) s = false) :
    ageRebaseH o b s = .done sNOENERGY [] (requestStore (.ageRebase o (g1 b 0)) s) := by
  rw [ageRebaseH, if_neg (rebased_inRange hindex hzero), if_neg (by simp [hstore])]

end

theorem ageRebaseH_badField (h : (1 < g1 b 0 ∧ g1 b 0 < 10) ∨ 21 < g1 b 0 ∨ zeroAt b 1 3 = false) :
    ageRebaseH o b s = .done sBADOBJ [] s := by
  refine if_pos ?_
  rcases h with ⟨hlo, hhi⟩ | h | h
  · simp [Nat.not_le.mpr hlo, Nat.not_le.mpr hhi]
  · simp [Nat.not_le.mpr h, show ¬ g1 b 0 ≤ 1 by omega]
  · simp [h]

end

theorem exec_ageRebase_stores {r : Req} {s : State} (ha : asks 0x0F52 r s = true)
    (hindex : g1 r.payload 0 ≤ 1 ∨ (10 ≤ g1 r.payload 0 ∧ g1 r.payload 0 ≤ 21)) (hzero : zeroAt r.payload 1 3 = true)
    (hstore : canStore (.ageRebase (reqOrg 0x0F52 r) (g1 r.payload 0)) (begun 0x0F52 r s) = true) :
    exec (.ageRebase r) s =
      .next (settled s (requestStore (.ageRebase (reqOrg 0x0F52 r) (g1 r.payload 0))
        (addJob { org := reqOrg 0x0F52 r, a := g1 r.payload 0 } (begun 0x0F52 r s)))) :=
  next_settled_congr (serve_of_later ha (by decide) (ageRebaseH_stores hindex hzero hstore))

/-- Settles O32: the index and the reserved bytes decide, and of a rebase the admission of its store. That the flags follow the
present values is notes/assumptions/157.md. -/
theorem ageingAndCountersAnswer : Obligations.AgeingAndCountersAnswer := by
  unfold Obligations.AgeingAndCountersAnswer
  refine ⟨?status, ?reads, ?rebaseLow, ?rebaseHigh, ?badRebase, ?badRead, ?noEnergy, fun s ws => rfl⟩
  case status =>
    rintro s r _ ha rfl
    exact next_settled_congr (serve_of_done ha rfl)
  case reads =>
    rintro s r _ ha hindex hzero rfl
    exact next_settled_congr (serve_of_done ha (ageReadH_reads hindex hzero))
  case rebaseLow => exact fun s r ha hindex hzero hstore => exec_ageRebase_stores ha (.inl hindex) hzero hstore
  case rebaseHigh => exact fun s r ha hlo hhi hzero hstore => exec_ageRebase_stores ha (.inr ⟨hlo, hhi⟩) hzero hstore
  case badRebase => exact fun s r ha h => next_settled_congr (serve_of_done ha (ageRebaseH_badField h))
  case badRead => exact fun s r ha h => next_settled_congr (serve_of_done ha (ageReadH_badField h))
  case noEnergy =>
    exact fun s r ha hindex hzero hstore => next_settled_congr (serve_of_done ha (ageRebaseH_noEnergy hindex hzero hstore))

end Sys2Proof.Machine

/-! Proofs of the statements of spec/17_clocks.md: lost and restored references, the RTC, measurements, and the clock commands. -/

namespace Sys2Proof.Machine

/-! ### References and locks (spec/17_clocks.md R546–R550) -/

section
variable {s : State}

/-- A loss coasts at once, or during re-execution at its end (R547, R549). -/
theorem clockLost_detected {m : Nat} (hice : s.sys.mode ≠ .ice) (hvault : s.sys.mode ≠ .vault) (w : Nat) :
    clockLost m w s =
      if s.absorb.reexecuting then onClk (fun c => { c with coastDue := some (m, w) }) s else coastNow m w s := by
  unfold clockLost
  cases hm : s.sys.mode with
  | ice => exact absurd hm hice
  | vault => exact absurd hm hvault
  | _ => rfl

theorem clockLost_asleep (h : s.sys.mode = .ice ∨ s.sys.mode = .vault) (m w : Nat) : clockLost m w s = s := by
  unfold clockLost
  rcases h with h | h <;> rw [h]

theorem clocksOn_of_awake (hice : s.sys.mode ≠ .ice) (hvault : s.sys.mode ≠ .vault) : clocksOn s = true := by
  simp [clocksOn, hice, hvault]

theorem clocksOn_of_asleep (h : s.sys.mode = .ice ∨ s.sys.mode = .vault) : clocksOn s = false := by
  rcases h with h | h <;> simp [clocksOn, h]

theorem ref25RestoredFx_restores {t : Nat} (hsince : s.clk.coastSince = some t) (hon : clocksOn s = true) :
    ref25RestoredFx s =
      noteRom 0x0F13 [nsMs (s.sys.devTime - t)] (onClk (fun c =>
        { c with
          coastSince := none, coastPlls := 0, coastMs := w32 (c.coastMs + nsMs (s.sys.devTime - t)),
          state := (c.state ||| 0x7) &&& ~~~0x60 }) s) := by
  simp only [ref25RestoredFx, hsince, hon]
  rfl

theorem ref25RestoredFx_idle (h : s.clk.coastSince = none ∨ clocksOn s = false) : ref25RestoredFx s = s := by
  unfold ref25RestoredFx
  cases hsince : s.clk.coastSince with
  | none => rfl
  | some t => exact if_pos (by rw [h.resolve_left (by simp [hsince])]; rfl)

section
variable {p : Nat}

theorem pllLockLostFx_coasts (hp : p < 3) (hup : pllDown s p = false) (hon : clocksOn s = true) :
    pllLockLostFx p s = clockLost (2 ^ p) 0 (noteRom 0x0F17 [p] s) :=
  if_pos (by simp only [hp, hup, hon]; rfl)

theorem pllLockLostFx_idle (h : 3 ≤ p ∨ pllDown s p = true ∨ clocksOn s = false) : pllLockLostFx p s = s := by
  refine if_neg ?_
  rcases h with h | h | h
  · simp [Nat.not_lt.mpr h]
  · simp [h]
  · simp [h]

/-- The record of the lost lock changes neither the mode nor whether the supervisor re-executes. -/
theorem clockLost_noteRom {m : Nat} (hice : s.sys.mode ≠ .ice) (hvault : s.sys.mode ≠ .vault) (code : Nat) (fields : List Int) :
    clockLost m 0 (noteRom code fields s) =
      if s.absorb.reexecuting then onClk (fun c => { c with coastDue := some (m, 0) }) (noteRom code fields s)
      else coastNow m 0 (noteRom code fields s) := by
  have hsys : (noteRom code fields s).sys = s.sys := by rw [noteRom_touches]
  have habsorb : (noteRom code fields s).absorb = s.absorb := by rw [noteRom_touches]
  rw [clockLost_detected (by rwa [hsys]) (by rwa [hsys]), habsorb]

end

/-! ### The RTC and measurements (R549, R554) -/

theorem rtc32FailedFx_fails (h : s.clk.rtcFailed = false) :
    rtc32FailedFx s = noteRom 0x0F15 [1] (clkSticky 0x8 (clkState 0x80 false (onClk (fun c => { c with rtcFailed := true }) s))) :=
  if_neg (by simp [h])

theorem rtc32FailedFx_again (h : s.clk.rtcFailed = true) : rtc32FailedFx s = s := if_pos h

theorem rtc32RestoredFx_restores (h : s.clk.rtcFailed = true) :
    rtc32RestoredFx s = noteRom 0x0F15 [2] (clkState 0x80 true (onClk (fun c => { c with rtcFailed := false }) s)) :=
  if_neg (by simp [h])

theorem rtc32RestoredFx_idle (h : s.clk.rtcFailed = false) : rtc32RestoredFx s = s := if_pos (by simp [h])

section
variable {o : Org} {a b g : Nat} (hmeasures : s.clk.measure = some (o, a, b, g))
include hmeasures

theorem freqMeasureDoneFx_done (ha : sourceRuns s a = true) (hb : sourceRuns s b = true) (n m start : Nat) :
    freqMeasureDoneFx n m start s =
      drawn 2 (finish o sOK (p4 n ++ p4 m ++ freqFigures s a b n m ++ p8 start)
        (onClk (fun c => { c with measure := none }) (commitJob o s))) := by
  simp only [freqMeasureDoneFx, hmeasures, ha, hb]
  rfl

theorem freqMeasureDoneFx_stopped (h : sourceRuns s a = false ∨ sourceRuns s b = false) (n m start : Nat) :
    freqMeasureDoneFx n m start s = s := by
  simp only [freqMeasureDoneFx, hmeasures]
  exact if_pos (by rcases h with h | h <;> simp [h])

theorem freqMeasureTimeoutFx_ends :
    freqMeasureTimeoutFx s = finish o sTIMEOUT [] (onClk (fun c => { c with measure := none }) s) := by
  simp only [freqMeasureTimeoutFx, hmeasures]

end

theorem freqMeasureDoneFx_idle (h : s.clk.measure = none) (n m start : Nat) : freqMeasureDoneFx n m start s = s := by
  simp only [freqMeasureDoneFx, h]

theorem freqMeasureTimeoutFx_idle (h : s.clk.measure = none) : freqMeasureTimeoutFx s = s := by
  simp only [freqMeasureTimeoutFx, h]

end

/-! ### CLK commands (R551–R555) -/

section
variable {o : Org} {b : List Byte} {s : State}

theorem clkStatusH_answers (hclear : g1 b 0 ≤ 1) (hzero : zeroAt b 1 3 = true) :
    clkStatusH o b s =
      .done sOK (p4 (clkStateWord s) ++ p4 s.clk.sticky.toNat ++ p4 s.clk.gate0.toNat ++ p4 s.clk.gate1.toNat ++
        p4 (openWord s) ++ p4 (coastTotal s)) (if g1 b 0 = 1 then onClk (fun c => { c with sticky := 0 }) s else s) :=
  if_neg (by simp [hclear, hzero])

theorem clkStatusH_badField (h : 1 < g1 b 0 ∨ zeroAt b 1 3 = false) : clkStatusH o b s = .done sBADOBJ [] s :=
  if_pos (by rcases h with h | h <;> simp [h])

section
variable {q : Nat} {v : Reg} (hq : q = g1 b 0) (hv : v = BitVec.ofNat 32 (g4 b 4))
include hq hv

/-- A gate register is written, and told of. -/
theorem clkGateH_writes {t : State} (hreg : q ≤ 1) (hzero : zeroAt b 1 3 = true)
    (hfixed : v &&& gateFixed q = gateReset q &&& gateFixed q)
    (ht : t = noteBy o.side 0x0F16 [sideCode o.side, q, (gateReg s q).toNat, v.toNat]
      (onClk (fun c => if q = 0 then { c with gate0 := v } else { c with gate1 := v }) s)) :
    clkGateH o b s = .later (finish o sOK (p4 (openWord t)) (addJob { org := o } t)) := by
  subst hq hv ht
  exact if_neg (by simp [hreg, hzero, hfixed])

theorem clkGateH_refused (h : 1 < q ∨ zeroAt b 1 3 = false ∨ v &&& gateFixed q ≠ gateReset q &&& gateFixed q) :
    clkGateH o b s = .done sBADOBJ [] s := by
  subst hq hv
  exact if_pos (by rcases h with h | h | h <;> simp [h])

end

/-- CLK_MEASURE compares two different sources over a gate of 1 µs to 1 s (R554). -/
abbrev measureFields (b : List Byte) : Prop :=
  g1 b 0 ≤ 23 ∧ g1 b 1 ≤ 23 ∧ g1 b 0 ≠ g1 b 1 ∧ zeroAt b 2 2 = true ∧ 1 ≤ g4 b 4 ∧ g4 b 4 ≤ 1000000

/-- The handler's test refuses what is out of range, and nothing else. -/
theorem measureRefused_iff (b : List Byte) :
    (decide (g1 b 0 > 23) || decide (g1 b 1 > 23) || decide (g1 b 0 = g1 b 1) || !zeroAt b 2 2 || decide (g4 b 4 = 0) ||
      decide (g4 b 4 > 1000000)) = true ↔ ¬ measureFields b := by
  simp only [measureFields, Bool.or_eq_true, decide_eq_true_eq]
  cases zeroAt b 2 2 with
  | true =>
    simp only [Bool.not_true, Bool.false_eq_true, or_false, true_and]
    omega
  | false => simp

theorem clkMeasureH_refused (h : ¬ measureFields b) : clkMeasureH o b s = .done sBADOBJ [] s :=
  if_pos ((measureRefused_iff b).mpr h)

section
variable (h : measureFields b)
include h

theorem clkMeasureH_inRange :
    clkMeasureH o b s =
      if !gateOpen s 13 then .done sWRONGMODE [] s
      else if s.clk.measure.isSome then .done sBUSY [] s
      else .later (addJob { org := o } (onClk (fun c => { c with measure := some (o, g1 b 0, g1 b 1, g4 b 4) }) s)) :=
  if_neg fun hbad => (measureRefused_iff b).mp hbad h

theorem clkMeasureH_closed (hgate : gateOpen s 13 = false) : clkMeasureH o b s = .done sWRONGMODE [] s :=
  (clkMeasureH_inRange h).trans (if_pos (by simp [hgate]))

theorem clkMeasureH_measures (hgate : gateOpen s 13 = true) (hnone : s.clk.measure = none) :
    clkMeasureH o b s =
      .later (addJob { org := o } (onClk (fun c => { c with measure := some (o, g1 b 0, g1 b 1, g4 b 4) }) s)) := by
  rw [clkMeasureH_inRange h, if_neg (by simp [hgate]), if_neg (by simp [hnone])]

theorem clkMeasureH_busy (hgate : gateOpen s 13 = true) (hsome : s.clk.measure ≠ none) :
    clkMeasureH o b s = .done sBUSY [] s := by
  rw [clkMeasureH_inRange h, if_neg (by simp [hgate]), if_pos (Option.isSome_iff_ne_none.mpr hsome)]

end
end

/-- Settles O59: mode and re-execution decide on a loss, the state of the RTC and of the measurement on their events, and the fields
of a request on its answer. Free figures are notes/assumptions/13.md, the events while Evver does not run 157.md and 158.md. -/
theorem clocksAct : Obligations.ClocksAct := by
  unfold Obligations.ClocksAct
  refine ⟨?lost, ?lostLater, ?asleep, ?restored, ?noCoast, ?lock, ?lockLater, ?noLock, ?rtcFails, ?rtcReturns, fun s m a b => rfl, ?gate,
    fun s item trim => rfl, ?done, ?stopped, ?timeout, ?noMeasure, ?status, ?badStatus, ?writes, ?badWrite, ?measures, ?badMeasure,
    ?closed, ?busy⟩
  case lost =>
    intro s w hice hvault hre
    exact next_settled_congr ((clockLost_detected hice hvault w).trans (if_neg (by simp [hre])))
  case lostLater =>
    intro s w hice hvault hre
    exact next_settled_congr ((clockLost_detected hice hvault w).trans (if_pos hre))
  case asleep =>
    intro s w p h
    exact ⟨next_settled_congr (clockLost_asleep h 7 w), next_settled_congr (ref25RestoredFx_idle (.inr (clocksOn_of_asleep h))),
      next_settled_congr (pllLockLostFx_idle (.inr (.inr (clocksOn_of_asleep h))))⟩
  case restored =>
    rintro s _ t _ hsince hice hvault rfl rfl
    exact next_settled_congr (ref25RestoredFx_restores hsince (clocksOn_of_awake hice hvault))
  case noCoast => exact fun s h => next_settled_congr (ref25RestoredFx_idle (.inl h))
  case lock =>
    intro s p hp hup hice hvault hre
    exact next_settled_congr ((pllLockLostFx_coasts hp hup (clocksOn_of_awake hice hvault)).trans
      ((clockLost_noteRom hice hvault ..).trans (if_neg (by simp [hre]))))
  case lockLater =>
    intro s p hp hup hice hvault hre
    exact next_settled_congr ((pllLockLostFx_coasts hp hup (clocksOn_of_awake hice hvault)).trans
      ((clockLost_noteRom hice hvault ..).trans (if_pos hre)))
  case noLock => exact fun s p h => next_settled_congr (pllLockLostFx_idle (h.imp_right .inl))
  case rtcFails =>
    rintro s _ h rfl
    exact ⟨next_settled_congr (rtc32FailedFx_fails h), next_settled_congr (rtc32RestoredFx_idle h)⟩
  case rtcReturns =>
    rintro s _ h rfl
    exact ⟨next_settled_congr (rtc32RestoredFx_restores h), next_settled_congr (rtc32FailedFx_again h)⟩
  case gate =>
    rintro s _ block i addr rfl
    rfl
  case done =>
    exact fun s n m start o a b g hmeasures ha hb => next_settled_congr (freqMeasureDoneFx_done hmeasures ha hb n m start)
  case stopped =>
    exact fun s n m start o a b g hmeasures h => next_settled_congr (freqMeasureDoneFx_stopped hmeasures h n m start)
  case timeout => exact fun s o a b g hmeasures => next_settled_congr (freqMeasureTimeoutFx_ends hmeasures)
  case noMeasure =>
    exact fun s n m start h =>
      ⟨next_settled_congr (freqMeasureDoneFx_idle h n m start), next_settled_congr (freqMeasureTimeoutFx_idle h)⟩
  case status => exact fun s r ha hclear hzero => next_settled_congr (serve_of_done ha (clkStatusH_answers hclear hzero))
  case badStatus => exact fun s r ha h => next_settled_congr (serve_of_done ha (clkStatusH_badField h))
  case writes =>
    rintro s r _ t q v ha hq hreg hzero hv hfixed rfl ht
    exact next_settled_congr (serve_of_later ha (by decide) (clkGateH_writes hq hv hreg hzero hfixed ht))
  case badWrite => exact fun s r q v ha hq hv h => next_settled_congr (serve_of_done ha (clkGateH_refused hq hv h))
  case measures =>
    intro s r ha ha0 hb0 hne hzero hmin hmax hgate hnone
    exact next_settled_congr (serve_of_later ha (by decide)
      (clkMeasureH_measures ⟨ha0, hb0, hne, hzero, hmin, hmax⟩ hgate hnone))
  case badMeasure =>
    intro s r ha hbad
    refine next_settled_congr (serve_of_done ha (clkMeasureH_refused ?_))
    rintro ⟨ha0, hb0, hne, hzero, hmin, hmax⟩
    rcases hbad with h | h | h | h | h | h
    · omega
    · omega
    · exact hne h
    · exact Bool.false_ne_true (h.symm.trans hzero)
    · omega
    · omega
  case closed =>
    intro s r ha ha0 hb0 hne hzero hmin hmax hgate
    exact next_settled_congr (serve_of_done ha (clkMeasureH_closed ⟨ha0, hb0, hne, hzero, hmin, hmax⟩ hgate))
  case busy =>
    intro s r ha ha0 hb0 hne hzero hmin hmax hgate hsome
    exact next_settled_congr (serve_of_done ha (clkMeasureH_busy ⟨ha0, hb0, hne, hzero, hmin, hmax⟩ hgate hsome))

end Sys2Proof.Machine

/-! Proofs of the statements of spec/18_power_reservoir_thermal.md: the usable energy, temperatures and the power commands. The
statement on VLOGIC fails on a valve bank that is closed in VAULT, the one on the Reservoir on a charger that runs while the
capacitance is measured: each is refuted by a concrete state. -/

namespace Sys2Proof.Machine

/-! ### What settling leaves alone where mode and causes are as before (spec/01_one_view.md R33, R36, R41) -/

theorem noteCauses_self (s : State) : noteCauses s.sys.holdCauses s = s := by
  simp only [noteCauses, List.foldl, BEq.rfl, if_true]

/-- Causes that were there before the step have been followed. -/
theorem followCauses_of_sys {b e : State} (hsys : e.sys = b.sys) (hagrees : modeAgrees b) : followCauses b e = e := by
  obtain ⟨hrun, hstill, hhold⟩ := hagrees
  have hhard : hardCauses e = hardCauses b := by simp only [hardCauses, hsys]
  unfold followCauses
  rw [hhard, hsys]
  cases hm : b.sys.mode with
  | run => simp only [hrun hm, if_true]
  | still => simp only [hstill hm, if_true]
  | hold =>
    have hnoHard : ¬ (decide (Mode.hold = Mode.hold) && decide (hardCauses b = 0) && hardCauses b != 0) = true := by
      simp +contextual
    have hnoFirst : ¬ (decide (Mode.hold = Mode.hold) && !b.sys.holdCauses.getLsbD 0 && b.sys.holdCauses.getLsbD 0) = true := by
      simp +contextual
    dsimp only
    rw [if_neg (hhold hm), if_neg hnoHard, if_neg hnoFirst]
  | commission => simp only [← hsys, noteCauses_self, ite_self]
  | _ => rfl

theorem modeUnder_of_agrees {s : State} (hagrees : modeAgrees s) : modeUnder s.sys.mode s.sys.holdCauses = s.sys.mode := by
  obtain ⟨hrun, hstill, hhold⟩ := hagrees
  cases hm : s.sys.mode with
  | run => exact if_pos (hrun hm)
  | still => exact if_pos (hstill hm)
  | hold => exact if_neg (hhold hm)
  | _ => rfl

theorem pinMode_self {s : State} (hagrees : modeAgrees s) : pinMode s s = s := by
  rw [pinMode, modeUnder_of_agrees hagrees]
  rfl

/-- An effect that leaves `State.sys` alone is settled without another change of the supplies but of the queue of stores. -/
theorem settled_power {b e : State} (hsys : e.sys = b.sys) (hagrees : modeAgrees b) :
    (settled b e).power = { e.power with stores := (settled b e).power.stores } := by
  have hquiet : keepsDevice e (sendAll b (pumpReam (refreshBoost (refreshBanks (raiseIrqs b (placeDue b e)))))) :=
    ((((placeDue_keepsDevice b e).trans (raiseIrqs_keepsDevice b _)).trans
      (keepsDevice_of_valvesOnly (refreshBanks_valvesOnly _))).trans
      (keepsDevice_of_valvesOnly (refreshBoost_valvesOnly _))).trans
      ((pumpReam_keepsDevice _).trans (sendAll_keepsDevice b _))
  obtain ⟨-, -, -, hpower⟩ := hquiet
  unfold settled
  rw [followCauses_of_sys hsys hagrees, pinMode_self (by rwa [modeAgrees, hsys])]
  exact hpower

/-! ### The usable energy (R563, R566) -/

section
variable {s : State} {uv : Int}

theorem refreshReserve_touches (s : State) :
    refreshReserve s =
      { s with ream := (refreshReserve s).ream, power := { s.power with below405 := (refreshReserve s).power.below405 } } := by
  unfold refreshReserve
  dsimp only
  split
  · rfl
  · rw [note_touches]
    rfl

/-- VHOLD is as told, and the energy follows. -/
theorem settled_energyUpdate (hagrees : modeAgrees s) (uv : Int) :
    (settled s (reservoirEnergyUpdateFx uv s)).power.energy = (if s.power.capKnown then usableEnergy s.power.capUf uv else 0) ∧
      (settled s (reservoirEnergyUpdateFx uv s)).power.vhold = uv := by
  have hsys : (reservoirEnergyUpdateFx uv s).sys = s.sys := by
    rw [reservoirEnergyUpdateFx, refreshReserve_touches]
    rfl
  rw [settled_power hsys hagrees, reservoirEnergyUpdateFx, refreshReserve_touches]
  exact ⟨rfl, rfl⟩

/-- ½ · C · (VHOLD² − (18 V)²), in units of 5·10⁻¹⁹ J. -/
theorem usableEnergy_of_le (h : 18000000 ≤ uv) (c : Nat) : (usableEnergy c uv : Int) = c * (uv * uv - 18000000 * 18000000) := by
  have hsquare : (18000000 * 18000000 : Int) ≤ uv * uv := Int.mul_le_mul h h (by decide) (by omega)
  have hpos : (0 : Int) ≤ c * (uv * uv - 324000000000000) := Int.mul_nonneg (Int.natCast_nonneg c) (by omega)
  rw [usableEnergy, if_neg (Int.not_lt.mpr h), Int.toNat_of_nonneg hpos]
  norm_num

theorem usableEnergy_of_lt (h : uv < 18000000) (c : Nat) : usableEnergy c uv = 0 := if_pos h

end

/-- Settles O13: settling leaves the energy that the update computes. -/
theorem usableEnergyIsComputed : Obligations.UsableEnergyIsComputed := by
  unfold Obligations.UsableEnergyIsComputed
  refine ⟨fun s uv hsound hknown hhigh => ?_, fun s uv hsound hlow => ?_, fun s uv hsound hunknown => ?_⟩
  all_goals
    obtain ⟨hagrees, -, -⟩ := hsound
    obtain ⟨henergy, hvhold⟩ := settled_energyUpdate hagrees uv
    refine ⟨_, rfl, ?_⟩
  · refine ⟨?_, hvhold⟩
    rw [henergy, hknown, if_pos rfl, usableEnergy_of_le hhigh]
  · rw [henergy, usableEnergy_of_lt hlow, ite_self]
  · rw [henergy, hunknown, if_neg Bool.false_ne_true]

/-! ### VBAT_TRIP while a valve bank is closed (R610; spec/10_valve_drive.md R368, R369) -/

/-- VAULT with valve bank 0 still closed on a channel that carries 1 A, its clamp charged with 1 J in the last second, and Ream
diverted to the fallback ring. -/
def vaultClosed : State :=
  { sys := { mode := .vault },
    valves :=
      { chans := [(0, { st := 1, setpoint := 1000000, current := 1000000, headroom := true })],
        banks := [(0, { closed := true, charges := [(0, 1)] })] },
    ream := { fbState := 1 } }

/-- Settling opens the bank, and CLAMP_HOT is recorded in the ring that the trip has just emptied. -/
theorem vbatTrip_vaultClosed : (settled vaultClosed (vbatTripFx vaultClosed)).ream.fallback.length = 1 := by decide +kernel

/-- Refutes O25 by its clause on VBAT_TRIP in VAULT, which asks nothing of the valve banks: one that is closed opens when the
trip's effect is settled, and its clamp's record enters the fallback ring. -/
theorem not_logicSupplyEventsAct : ¬ Obligations.LogicSupplyEventsAct := by
  unfold Obligations.LogicSupplyEventsAct
  rintro ⟨-, -, -, -, -, -, -, -, -, -, -, -, -, -, -, htrip, -⟩
  obtain ⟨t, ht, -, -, -, -, -, -, hempty⟩ := htrip vaultClosed rfl
  cases Host.Outcome.next.inj ht
  exact absurd (congrArg List.length hempty) (by rw [vbatTrip_vaultClosed]; decide)

/-! ### The charger while the capacitance is measured (R562, R566) -/

/-- BOOT with the Reservoir at 12 V: `bootReset` leaves the charger running and a STEP measurement under way. -/
def bootCharging : State := { power := { vhold := 12000000, charging := true, measuring := 2 } }

theorem setVhold_bootCharging : (setVhold 30000000 bootCharging).power.charging = false := by decide

/-- The charger was running before VHOLD is taken, and so its timeout is a Reservoir fault. -/
theorem chargeTimeout_bootCharging :
    (settled bootCharging (reservoirChargeTimeoutFx 30000000 bootCharging)).power.resFault = true := by decide +kernel

/-- Refutes O27 by its clause on a RESERVOIR_CHARGE_TIMEOUT that only takes VHOLD, which asks whether the charger runs once VHOLD
is taken: a STEP measurement stops it then, but the model asks whether it ran before. -/
theorem not_reservoirAndStoresAct : ¬ Obligations.ReservoirAndStoresAct := by
  unfold Obligations.ReservoirAndStoresAct
  rintro ⟨-, -, -, -, -, -, -, -, -, -, htimeout, -⟩
  have hsame := Host.Outcome.next.inj (htimeout bootCharging 30000000 (.inr (.inr setVhold_bootCharging)))
  have hfault := chargeTimeout_bootCharging.symm.trans (congrArg (fun t => t.power.resFault) hsame)
  exact absurd hfault (by decide +kernel)

/-! ### Temperatures (R572–R577) -/

section
variable {s : State}

/-- The temperature condition of the island touches the island alone. -/
theorem refreshTempHot_touches (s : State) : refreshTempHot s = { s with island := (refreshTempHot s).island } := rfl

/-- The island takes a sample where it runs. -/
def sampledIsland (s : State) : State := if islandUp s then refreshTempHot s else s

theorem sensor_sampledIsland (i : Nat) : sensor (sampledIsland s) i = sensor s i := by
  unfold sampledIsland
  split <;> rfl

/-- What a sample comes to once its readings are kept: two fast rises running of a sensor trip. -/
def fastTrip (s : State) : State :=
  match (List.range 14).find? (fun i => !(sensor s i).substituted && 2 ≤ (sensor s i).fast) with
  | some i => thermalTrip i true (sensor s i).raw s
  | none => s

theorem fastTrip_idle (h : ∀ i ∈ List.range 14, (sensor s i).fast < 2) : fastTrip s = s := by
  have hnone : (List.range 14).find? (fun i => !(sensor s i).substituted && decide (2 ≤ (sensor s i).fast)) = none :=
    List.find?_eq_none.mpr fun i hi => by simp [h i hi]
  rw [fastTrip, hnone]

/-- The first of the numbers below `n` that satisfies a test. -/
theorem find?_range_eq_some {p : Nat → Bool} {n k : Nat} (hk : k < n) (hp : p k = true) (hfirst : ∀ j ∈ List.range k, p j = false) :
    (List.range n).find? p = some k :=
  List.find?_range_eq_some.mpr ⟨hp, List.mem_range.mpr hk, fun j hj => by simp [hfirst j (List.mem_range.mpr hj)]⟩

theorem fastTrip_trips {k : Nat} (hk : k < 14) (hown : (sensor s k).substituted = false) (hfast : 2 ≤ (sensor s k).fast)
    (hfirst : ∀ j ∈ List.range k, (sensor s j).fast < 2) : fastTrip s = thermalTrip k true (sensor s k).raw s := by
  have hfound : (List.range 14).find? (fun i => !(sensor s i).substituted && decide (2 ≤ (sensor s i).fast)) = some k :=
    find?_range_eq_some hk (by simp [hown, hfast]) fun j hj => by simp [hfirst j hj]
  rw [fastTrip, hfound]

section
variable (hready : s.sys.ready = true) (temps : List TempIn)
include hready

/-- Without a sensor at a warning limit a sample only wears and warms. -/
theorem tempSampleFx_cool (hcool : ∀ i ∈ List.range 14, warnCause (wearJunction (sampleAll temps s)) i = 0) :
    tempSampleFx temps s = fastTrip (sampledIsland (wearJunction (sampleAll temps s))) := by
  have hnone : (List.range 14).find? (fun i => warnCause (wearJunction (sampleAll temps s)) i != 0) = none :=
    List.find?_eq_none.mpr fun i hi => by simp [hcool i hi]
  simp only [tempSampleFx, hready, hnone]
  rfl

/-- The first sensor at a limit begins the warning. -/
theorem tempSampleFx_warns {k : Nat} {s1 : State} (hs1 : s1 = wearJunction (sampleAll temps s)) (hnew : s1.power.thermalWarn = false)
    (hk : k < 14) (hwarm : warnCause s1 k ≠ 0) (hfirst : ∀ j ∈ List.range k, warnCause s1 j = 0) :
    tempSampleFx temps s = fastTrip (sampledIsland
      (note 0x0F30 [k, warnCause s1 k, treated s1 k, roundDiv (treatedRate s1 k) 10]
        { s1 with power := { s1.power with thermalWarn := true, warnSince := s.sys.devTime } })) := by
  subst hs1
  have hfound : (List.range 14).find? (fun i => warnCause (wearJunction (sampleAll temps s)) i != 0) = some k :=
    find?_range_eq_some hk (by simp [hwarm]) fun j hj => by simp [hfirst j hj]
  simp only [tempSampleFx, hready, hfound, hnew]
  rfl

end

theorem tempSampleFx_idle (hready : s.sys.ready = false) (temps : List TempIn) : tempSampleFx temps s = s :=
  if_pos (by simp [hready])

theorem thermalModelCheckFx_idle (hready : s.sys.ready = false) (pred : List (Nat × Nat × Int)) :
    thermalModelCheckFx pred s = s :=
  if_pos (by simp [hready])

theorem thermalModelCheckFx_judges (hready : s.sys.ready = true) (pred : List (Nat × Nat × Int)) :
    thermalModelCheckFx pred s = (List.range 14).foldl (fun t i => judgeSensor pred i (isSuspect s pred i) t) s :=
  if_neg (by simp [hready])

theorem thermalWarningClearFx_clears (hwarn : s.power.thermalWarn = true) (hcool : allCool s = true) :
    thermalWarningClearFx s =
      note 0x0F31 [nsMs (s.sys.devTime - s.power.warnSince) / 1000] { s with power := { s.power with thermalWarn := false } } :=
  if_pos (by rw [hwarn, hcool]; rfl)

theorem thermalWarningClearFx_idle (h : s.power.thermalWarn = false ∨ allCool s = false) : thermalWarningClearFx s = s :=
  if_neg (by rcases h with h | h <;> simp [h])

section
variable {i : Nat} {rate : Bool} {mdeg : Int}

/-- A trip is registered; without last gasp it restarts through BOOT. -/
theorem thermalTrip_acts (hvault : s.sys.mode ≠ .vault) (hice : s.sys.mode ≠ .ice) :
    thermalTrip i rate mdeg s =
      if s.power.lastGasp then tripRegisters i rate mdeg s else restartFor 0x15 2 (tripRegisters i rate mdeg s) := by
  unfold thermalTrip
  cases hm : s.sys.mode with
  | vault => exact absurd hm hvault
  | ice => exact absurd hm hice
  | _ => rfl

theorem thermalTripFx_trips (hi : i ≤ 13) (hown : (sensor s i).substituted = false) (hhot : rate = true ∨ 135000 ≤ mdeg) :
    thermalTripFx i rate mdeg s = thermalTrip i rate mdeg s := by
  have hhot' : (!rate && decide (mdeg < 135000)) = false := by
    rcases hhot with h | h
    · simp [h]
    · simp [Int.not_lt.mpr h]
  refine if_neg ?_
  simp [Nat.not_lt.mpr hi, hown, hhot']

theorem thermalTripFx_idle (h : 13 < i ∨ (sensor s i).substituted = true ∨ (rate = false ∧ mdeg < 135000) ∨
    s.sys.mode = .vault ∨ s.sys.mode = .ice) : thermalTripFx i rate mdeg s = s := by
  have hoff (hm : s.sys.mode = .vault ∨ s.sys.mode = .ice) : thermalTrip i rate mdeg s = s := by
    unfold thermalTrip
    rcases hm with hm | hm <;> rw [hm]
  unfold thermalTripFx
  rcases h with h | h | ⟨hrate, hlow⟩ | hm
  · exact if_pos (by simp [h])
  · exact if_pos (by simp [h])
  · exact if_pos (by simp [hrate, hlow])
  · rw [hoff hm, ite_self]

end

section
variable {o : Org} {b : List Byte}

theorem pwrStatusH_answers (hclear : g1 b 0 ≤ 3) (hzero : zeroAt b 1 3 = true) :
    pwrStatusH o b s =
      .done sOK
        (q4 s.power.vlogic ++ q4 s.power.vfieldIo ++ q4 s.power.vfieldVd ++ q4 s.power.vhold ++ q4 s.power.vbat ++
          p4 s.power.capUf ++ p4 (energyMj s) ++ p4 (committedMj s) ++
          p2 (s.power.stores.filter (fun x => !x.admitted)).length ++
          p1 (b01 s.power.warnVlogic + b01 s.field.lowIo * 2 + b01 s.field.lowVd * 4 + b01 s.power.resFault * 8 +
            b01 s.power.below405 * 16 + b01 s.power.charging * 32 + b01 (s.power.measuring != 0) * 64) ++
          zeros 1 ++ p4 s.power.sticky.toNat ++ p4 s.power.lastMode.toNat ++ p4 (thermTripWord s))
        { s with power := { s.power with
            sticky := if bitOf (g1 b 0) 0 then s.power.sticky &&& 0x20 else s.power.sticky,
            thermTrip := if bitOf (g1 b 0) 1 then s.power.thermTrip &&& ~~~0x8000 else s.power.thermTrip } } := by
  have hok : ¬ (decide (g1 b 0 > 3) || !zeroAt b 1 3) = true := by simp [hclear, hzero]
  unfold pwrStatusH
  dsimp only
  rw [if_neg hok]
  cases bitOf (g1 b 0) 0 <;> cases bitOf (g1 b 0) 1 <;> rfl

theorem pwrStatusH_badField (h : 3 < g1 b 0 ∨ zeroAt b 1 3 = false) : pwrStatusH o b s = .done sBADOBJ [] s :=
  if_pos (by rcases h with h | h <;> simp [h])

end
end

/-- Settles O28: of a sample the first sensor at a limit warns, and the first with two fast rises running trips. The wear of the
junctions is notes/assumptions/175.md, the restart in BOOT and RECOVERY notes/assumptions/131.md. -/
theorem temperaturesAct : Obligations.TemperaturesAct := by
  unfold Obligations.TemperaturesAct
  refine ⟨?cool, ?warns, ?fast, ?asleep, ?warningEnds, ?warningStays, ?judges, ?trips, ?gaspTrip, ?noTrip, ?power, ?badPower,
    fun s r ha => next_settled_congr (serve_of_done ha rfl)⟩
  case cool =>
    rintro s _ temps hready rfl hcool hslow
    have hsame : fastTrip (sampledIsland (wearJunction (sampleAll temps s))) = sampledIsland (wearJunction (sampleAll temps s)) :=
      fastTrip_idle fun i hi => by
        rw [sensor_sampledIsland]
        exact (hslow i hi).1
    exact next_settled_congr ((tempSampleFx_cool hready temps hcool).trans hsame)
  case warns =>
    rintro s s1 _ temps k hready hnew hs1 hk hwarm hfirst rfl hslow
    refine next_settled_congr ((tempSampleFx_warns hready temps hs1 hnew hk hwarm hfirst).trans (fastTrip_idle fun i hi => ?_))
    rw [sensor_sampledIsland]
    exact (hslow i hi).1
  case fast =>
    rintro s _ _ temps k hready rfl hcool rfl hk hown hfast hfirst
    exact next_settled_congr ((tempSampleFx_cool hready temps hcool).trans (fastTrip_trips hk hown hfast hfirst))
  case asleep =>
    exact fun s temps pred hready =>
      ⟨next_settled_congr (tempSampleFx_idle hready temps), next_settled_congr (thermalModelCheckFx_idle hready pred)⟩
  case warningEnds => exact fun s hwarn hcool => next_settled_congr (thermalWarningClearFx_clears hwarn hcool)
  case warningStays => exact fun s h => next_settled_congr (thermalWarningClearFx_idle h)
  case judges => exact fun s pred hready => next_settled_congr (thermalModelCheckFx_judges hready pred)
  case trips =>
    intro s i rate mdeg hi hown hhot hvault hice hgasp
    refine next_settled_congr ((thermalTripFx_trips hi hown hhot).trans ((thermalTrip_acts hvault hice).trans ?_))
    rw [hgasp, if_neg Bool.false_ne_true]
  case gaspTrip =>
    intro s i rate mdeg hi hown hhot hvault hice hgasp
    refine next_settled_congr ((thermalTripFx_trips hi hown hhot).trans ((thermalTrip_acts hvault hice).trans ?_))
    rw [hgasp, if_pos rfl]
  case noTrip => exact fun s i rate mdeg h => next_settled_congr (thermalTripFx_idle h)
  case power =>
    rintro s r _ ha rfl hclear hzero
    exact next_settled_congr (serve_of_done ha (pwrStatusH_answers hclear hzero))
  case badPower => exact fun s r ha h => next_settled_congr (serve_of_done ha (pwrStatusH_badField h))

end Sys2Proof.Machine
